-- ==== Sys2Proof/Word.lean ====
section
/-! DEFINITION. The word types of the Nirund: a 32-bit register or core word and a byte of memory
(spec/00_scope.md R7: all registers are 32 bits wide; R6: multi-byte fields in memory are
little-endian). -/

namespace Sys2Proof

/-- A 32-bit word: a register (R7), a core register, or an instruction word. -/
abbrev Word := BitVec 32

/-- A byte of memory. -/
abbrev Byte := BitVec 8

end Sys2Proof
end

