-- ==== Sys2Proof/Syntax.lean ====
section
/-! DEFINITION. The commands of the Nirund block model: one constructor of `Instr` per row of
spec/opcode_table.json, with the row's operands. -/

namespace Sys2Proof

/-- The initiators of spec/01_architecture.md (codes 0 to 12). -/
inductive Initiator where
  | c0 | c1 | c2 | c3 | g0 | dma | link | blitter | raster | camera | expert | ledger | audio
deriving DecidableEq, Repr

/-- The initiator code. -/
def Initiator.code : Initiator → Nat
  | .c0 => 0 | .c1 => 1 | .c2 => 2 | .c3 => 3 | .g0 => 4 | .dma => 5 | .link => 6 | .blitter => 7
  | .raster => 8 | .camera => 9 | .expert => 10 | .ledger => 11 | .audio => 12

/-- The cores of R73. -/
inductive CoreId where
  | c0 | c1 | c2 | c3 | g0
deriving DecidableEq, Repr

/-- The core number, which is also the core's initiator code and ECX target number. -/
def CoreId.num : CoreId → Nat
  | .c0 => 0 | .c1 => 1 | .c2 => 2 | .c3 => 3 | .g0 => 4

/-- The core as an initiator. -/
def CoreId.init : CoreId → Initiator
  | .c0 => .c0 | .c1 => .c1 | .c2 => .c2 | .c3 => .c3 | .g0 => .g0

/-- The core with a given number below 4. -/
def CoreId.app (n : Fin 4) : CoreId :=
  match n with | 0 => .c0 | 1 => .c1 | 2 => .c2 | 3 => .c3

/-- The core an initiator is, if it is one. -/
def Initiator.core? : Initiator → Option CoreId
  | .c0 => some .c0 | .c1 => some .c1 | .c2 => some .c2 | .c3 => some .c3 | .g0 => some .g0 | _ => none

/-- The application cores among the initiators. -/
def Initiator.isApp : Initiator → Bool
  | .c0 => true | .c1 => true | .c2 => true | .c3 => true | _ => false

/-- An LLP frame as received (spec/10 R283): the header fields but TYPE, which the command gives, and the payload. -/
structure Llp where
  gen : BitVec 8
  dst : BitVec 8
  src : BitVec 8
  hops : BitVec 8
  win : BitVec 4
  beat : Word
  hseq : BitVec 16
  payload : List Byte
deriving DecidableEq, Repr

/-- An upset: it leaves an ECC word of a memory, or a cache line of an application core, with a single-bit or an uncorrectable error
(spec/07 R186, spec/03 R94), or a slot of the Ledger's ring that no longer reads back what is written (spec/09 R244). -/
inductive Upset where
  | word (a : Word) (ue : Bool)
  | dataLine (c : Fin 4) (a : Word) (ue : Bool)
  | instrLine (c : Fin 4) (a : Word)
  | slot (i : Fin 16384)
deriving DecidableEq, Repr

/-- The commands of the block: one constructor a row of spec/opcode_table.json. -/
inductive Instr where
  /-- A write to a register that has no row of its own stores or acts on the value as its field types define (R8). -/
  | registerWrite (i : Initiator) (a : Word) (v : Word)
  /-- A read of an RC field returns its value and then clears the field (R8). -/
  | readClear (i : Initiator) (a : Word)
  /-- A read of the lowest word of a multi-word register copies the higher words into the reader's latch (R28). -/
  | latchRead (i : Initiator) (a : Word)
  /-- A write to the highest word of a multi-word register applies it with the writer's pending words in one cycle (R29). -/
  | multiwordCommit (i : Initiator) (a : Word) (v : Word)
  /-- A write to SYS_CLKEN gates or ungates block clocks, and is rejected whole if it gates a busy block (R13). -/
  | sysClkenWrite (i : Initiator) (v : Word)
  /-- Loss of XIN or of a PLL lock sets SYS_CLKEVT, raises source 29 and reports to the fault manager (R11). -/
  | clockLoss (k : Fin 4)
  /-- A write of 1 to SYS_FERR_INFO.VALID clears the capture and re-arms it (R21). -/
  | ferrRearm (i : Initiator)
  /-- The beat generator's count for the present beat expires and a beat edge occurs (R44). -/
  | beatEdge
  /-- No usable vertical blanking has come 1.25 nominal periods after an edge, so the generator places the edge and sets SRCLOSS (R47). -/
  | sourceLoss
  /-- A manager-configured device ends discovery 20 ms after the last new HELLO or 250 ms after START (R294). -/
  | discoveryEnd
  /-- A follower in ACQUIRE or LOCK that has had no sync message for 4 beats enters HOLDOVER (R52). -/
  | holdover
  /-- HOLDOVER has lasted more than BEAT_HOLDMAX beats, so the follower enters FREE (R52). -/
  | holdmaxExpiry
  /-- The copies of an applied group finish, so the group becomes APPLIED and raises source 3 (R67). -/
  | cgApplied (n : Fin 8)
  /-- The 16 µs brim window expires, so BRIM clears and source 2 is raised (R69). -/
  | brimEnd
  /-- A beat client's deadline expires and its per-beat work is judged (R59). -/
  | clientDeadline (k : Fin 9)
  /-- An enabled beat mark's offset expires and raises source 8 + m (R58). -/
  | beatMark (m : Fin 8)
  /-- CG_CTRL.OPEN opens a commit group and clears CG_ARMED (R63). -/
  | cgOpen (i : Initiator) (n : Fin 8)
  /-- CG_CTRL.CANCEL moves an OPEN group to CANCELLED (R68). -/
  | cgCancel (i : Initiator) (n : Fin 8)
  /-- A write to CG_ARMED arms member domains of an OPEN group (R64). -/
  | cgArm (i : Initiator) (n : Fin 8) (v : Word)
  /-- A write to CG_MEMBERS sets the group's member domains, and is rejected while the group is OPEN (R63). -/
  | cgMembersWrite (i : Initiator) (n : Fin 8) (v : Word)
  /-- A highest-word write to CG_BEAT sets the target beat, and is rejected while the group is OPEN (R63). -/
  | cgBeatWrite (i : Initiator) (n : Fin 8) (v : Word)
  /-- A write to an SH register stores into the shadow, and a domain-0 write while domain 0 is armed is rejected (R62). -/
  | shadowWrite (i : Initiator) (a : Word) (v : Word)
  /-- Adds two registers (R109). -/
  | add (c : CoreId) (d a b : Fin 16) (f : Bool)
  /-- Subtracts two registers (R109). -/
  | sub (c : CoreId) (d a b : Fin 16) (f : Bool)
  /-- Adds two registers and the carry (R109). -/
  | adc (c : CoreId) (d a b : Fin 16) (f : Bool)
  /-- Subtracts with carry (R109). -/
  | sbc (c : CoreId) (d a b : Fin 16) (f : Bool)
  /-- Bitwise AND of two registers (R109). -/
  | andR (c : CoreId) (d a b : Fin 16) (f : Bool)
  /-- Bitwise OR of two registers (R109). -/
  | orR (c : CoreId) (d a b : Fin 16) (f : Bool)
  /-- Bitwise XOR of two registers (R109). -/
  | xorR (c : CoreId) (d a b : Fin 16) (f : Bool)
  /-- AND with the complement of the second register (R109). -/
  | andn (c : CoreId) (d a b : Fin 16) (f : Bool)
  /-- Shifts left by a register amount (R109). -/
  | shl (c : CoreId) (d a b : Fin 16) (f : Bool)
  /-- Shifts right with zero fill (R109). -/
  | shr (c : CoreId) (d a b : Fin 16) (f : Bool)
  /-- Shifts right with sign fill (R109). -/
  | sar (c : CoreId) (d a b : Fin 16) (f : Bool)
  /-- Rotates right (R109). -/
  | ror (c : CoreId) (d a b : Fin 16) (f : Bool)
  /-- Sets the destination when the first register is less, signed (R109). -/
  | slt (c : CoreId) (d a b : Fin 16)
  /-- Sets the destination when the first register is less, unsigned (R109). -/
  | sltu (c : CoreId) (d a b : Fin 16)
  /-- Writes the signed minimum (R109). -/
  | min (c : CoreId) (d a b : Fin 16)
  /-- Writes the signed maximum (R109). -/
  | max (c : CoreId) (d a b : Fin 16)
  /-- Writes the unsigned minimum (R109). -/
  | minu (c : CoreId) (d a b : Fin 16)
  /-- Writes the unsigned maximum (R109). -/
  | maxu (c : CoreId) (d a b : Fin 16)
  /-- Saturating signed add (R109). -/
  | adds (c : CoreId) (d a b : Fin 16)
  /-- Saturating signed subtract (R109). -/
  | subs (c : CoreId) (d a b : Fin 16)
  /-- Saturating unsigned add (R109). -/
  | addus (c : CoreId) (d a b : Fin 16)
  /-- Saturating unsigned subtract (R109). -/
  | subus (c : CoreId) (d a b : Fin 16)
  /-- Counts leading zero bits (R109). -/
  | clz (c : CoreId) (d a : Fin 16)
  /-- Sets the flags as SUB does, without writing a register (R109). -/
  | cmp (c : CoreId) (a b : Fin 16)
  /-- Adds a sign-extended immediate (R112). -/
  | addi (c : CoreId) (d a : Fin 16) (imm : BitVec 18)
  /-- Signed compare with an immediate (R112). -/
  | slti (c : CoreId) (d a : Fin 16) (imm : BitVec 18)
  /-- Unsigned compare with an immediate (R112). -/
  | sltiu (c : CoreId) (d a : Fin 16) (imm : BitVec 18)
  /-- AND with a zero-extended immediate (R112). -/
  | andi (c : CoreId) (d a : Fin 16) (imm : BitVec 18)
  /-- OR with a zero-extended immediate (R112). -/
  | ori (c : CoreId) (d a : Fin 16) (imm : BitVec 18)
  /-- XOR with a zero-extended immediate (R112). -/
  | xori (c : CoreId) (d a : Fin 16) (imm : BitVec 18)
  /-- Shifts left by an immediate amount (R112). -/
  | shli (c : CoreId) (d a : Fin 16) (n : Fin 32)
  /-- Shifts right with zero fill by an immediate amount (R112). -/
  | shri (c : CoreId) (d a : Fin 16) (n : Fin 32)
  /-- Shifts right with sign fill by an immediate amount (R112). -/
  | sari (c : CoreId) (d a : Fin 16) (n : Fin 32)
  /-- Sets the flags from a register minus an immediate (R112). -/
  | cmpi (c : CoreId) (a : Fin 16) (imm : BitVec 18)
  /-- Loads a sign-extended 22-bit immediate (R112). -/
  | li (c : CoreId) (d : Fin 16) (imm : BitVec 22)
  /-- Loads an immediate shifted left by 10 (R112). -/
  | lui (c : CoreId) (d : Fin 16) (imm : BitVec 22)
  /-- Adds two pairs of 16-bit lanes, wrapping (R113). -/
  | padd (c : CoreId) (d a b : Fin 16)
  /-- Subtracts lanes, wrapping (R113). -/
  | psub (c : CoreId) (d a b : Fin 16)
  /-- Adds lanes with signed saturation (R113). -/
  | padds (c : CoreId) (d a b : Fin 16)
  /-- Subtracts lanes with signed saturation (R113). -/
  | psubs (c : CoreId) (d a b : Fin 16)
  /-- Adds lanes with unsigned saturation (R113). -/
  | paddus (c : CoreId) (d a b : Fin 16)
  /-- Subtracts lanes with unsigned saturation (R113). -/
  | psubus (c : CoreId) (d a b : Fin 16)
  /-- Multiplies Q15 lanes with rounding and saturation (R113). -/
  | pmulq (c : CoreId) (d a b : Fin 16)
  /-- Accumulates the dot product of two lane pairs with saturation (R113). -/
  | pdot (c : CoreId) (d a b : Fin 16)
  /-- Writes the low word of a product (R114). -/
  | mul (c : CoreId) (d a b : Fin 16)
  /-- Writes the high word of a signed product (R114). -/
  | mulh (c : CoreId) (d a b : Fin 16)
  /-- Writes the high word of an unsigned product (R114). -/
  | mulhu (c : CoreId) (d a b : Fin 16)
  /-- Adds the low word of a product to the destination (R114). -/
  | mac (c : CoreId) (d a b : Fin 16)
  /-- Signed division; raises DIVZ on a zero divisor (R115). -/
  | div (c : CoreId) (d a b : Fin 16)
  /-- Unsigned division (R115). -/
  | divu (c : CoreId) (d a b : Fin 16)
  /-- Signed remainder (R115). -/
  | rem (c : CoreId) (d a b : Fin 16)
  /-- Unsigned remainder (R115). -/
  | remu (c : CoreId) (d a b : Fin 16)
  /-- Loads a sign-extended byte (R116). -/
  | ldb (c : CoreId) (d a : Fin 16) (imm : BitVec 18)
  /-- Loads a zero-extended byte (R116). -/
  | ldbu (c : CoreId) (d a : Fin 16) (imm : BitVec 18)
  /-- Loads a sign-extended halfword (R116). -/
  | ldh (c : CoreId) (d a : Fin 16) (imm : BitVec 18)
  /-- Loads a zero-extended halfword (R116). -/
  | ldhu (c : CoreId) (d a : Fin 16) (imm : BitVec 18)
  /-- Loads a word (R116). -/
  | ldw (c : CoreId) (d a : Fin 16) (imm : BitVec 18)
  /-- Stores a byte (R116). -/
  | stb (c : CoreId) (d a : Fin 16) (imm : BitVec 18)
  /-- Stores a halfword (R116). -/
  | sth (c : CoreId) (d a : Fin 16) (imm : BitVec 18)
  /-- Stores a word (R116). -/
  | stw (c : CoreId) (d a : Fin 16) (imm : BitVec 18)
  /-- Loads a sign-extended byte with post-increment (R116). -/
  | ldbp (c : CoreId) (d a : Fin 16) (imm : BitVec 18)
  /-- Loads a zero-extended byte with post-increment (R116). -/
  | ldbup (c : CoreId) (d a : Fin 16) (imm : BitVec 18)
  /-- Loads a sign-extended halfword with post-increment (R116). -/
  | ldhp (c : CoreId) (d a : Fin 16) (imm : BitVec 18)
  /-- Loads a zero-extended halfword with post-increment (R116). -/
  | ldhup (c : CoreId) (d a : Fin 16) (imm : BitVec 18)
  /-- Loads a word with post-increment (R116). -/
  | ldwp (c : CoreId) (d a : Fin 16) (imm : BitVec 18)
  /-- Stores a byte with post-increment (R116). -/
  | stbp (c : CoreId) (d a : Fin 16) (imm : BitVec 18)
  /-- Stores a halfword with post-increment (R116). -/
  | sthp (c : CoreId) (d a : Fin 16) (imm : BitVec 18)
  /-- Stores a word with post-increment (R116). -/
  | stwp (c : CoreId) (d a : Fin 16) (imm : BitVec 18)
  /-- Branches when the two registers are equal (R118). -/
  | beq (c : CoreId) (d a : Fin 16) (imm : BitVec 18)
  /-- Branches when the two registers differ (R118). -/
  | bne (c : CoreId) (d a : Fin 16) (imm : BitVec 18)
  /-- Branches when the first register is less, signed (R118). -/
  | blt (c : CoreId) (d a : Fin 16) (imm : BitVec 18)
  /-- Branches when the first register is greater or equal, signed (R118). -/
  | bge (c : CoreId) (d a : Fin 16) (imm : BitVec 18)
  /-- Branches when the first register is less, unsigned (R118). -/
  | bltu (c : CoreId) (d a : Fin 16) (imm : BitVec 18)
  /-- Branches when the first register is greater or equal, unsigned (R118). -/
  | bgeu (c : CoreId) (d a : Fin 16) (imm : BitVec 18)
  /-- Branches on a flag condition (R119). -/
  | bc (c : CoreId) (cond : Fin 16) (imm : BitVec 18)
  /-- Jumps relative to pc (R120). -/
  | j (c : CoreId) (off : BitVec 26)
  /-- Writes the return address to g15 and jumps (R120). -/
  | call (c : CoreId) (off : BitVec 26)
  /-- Jumps to the address in a register (R120). -/
  | jr (c : CoreId) (a : Fin 16)
  /-- Calls the address in a register (R120). -/
  | callr (c : CoreId) (a : Fin 16)
  /-- Loads a word and sets the core's reservation (R121). -/
  | ldx (c : CoreId) (d a : Fin 16)
  /-- Stores only when the reservation is held, and reports success or failure (R121). -/
  | stc (c : CoreId) (d b a : Fin 16)
  /-- Reads a control register (R122). -/
  | ctlr (c : CoreId) (d : Fin 16) (n : Fin 64)
  /-- Writes a control register other than a cache operation (R122). -/
  | ctlw (c : CoreId) (n : Fin 64) (a : Fin 16)
  /-- Invalidates one instruction-cache line (R92). -/
  | icinv (c : CoreId) (a : Fin 16)
  /-- Writes a dirty data-cache line back and keeps it (R92). -/
  | dcclean (c : CoreId) (a : Fin 16)
  /-- Writes a data-cache line back and invalidates it (R92). -/
  | dcclinv (c : CoreId) (a : Fin 16)
  /-- Invalidates a data-cache line without writing it back (R92). -/
  | dcinv (c : CoreId) (a : Fin 16)
  /-- Invalidates the whole instruction cache (R92). -/
  | icinvall (c : CoreId) (a : Fin 16)
  /-- Cleans and invalidates the whole data cache (R92). -/
  | dcclinvall (c : CoreId) (a : Fin 16)
  /-- Invalidates the whole data cache, discarding data (R92). -/
  | dcinvall (c : CoreId) (a : Fin 16)
  /-- Returns from an exception, restoring level and IE (R85). -/
  | eret (c : CoreId)
  /-- Raises vector 10 (R123). -/
  | brk (c : CoreId)
  /-- Raises vector 48 + n (R123). -/
  | trap (c : CoreId) (n : Fin 16)
  /-- Waits until every earlier access of the core has completed (R97). -/
  | fence (c : CoreId)
  /-- Stops the core and gates its clock until its event line is 1 (R90). -/
  | idle (c : CoreId)
  /-- Receives a task, blocking until one is handed over or slotted (R126). -/
  | take (c : CoreId) (d : Fin 16)
  /-- Receives the palm-slot task if any, without blocking (R127). -/
  | slot (c : CoreId) (d : Fin 16)
  /-- Fences and completes the current task (R128). -/
  | done (c : CoreId) (d : Fin 16) (pick : Nat)
  /-- Fences and asks the Dispatcher to make a task ready from a template (R129). -/
  | post (c : CoreId) (d a b : Fin 16) (pick : Nat)
  /-- Stops the core until the next beat edge (R130). -/
  | wbeat (c : CoreId) (d : Fin 16)
  /-- Stops the core until BEAT_COUNT reaches a named beat (R130). -/
  | wbeatn (c : CoreId) (d a : Fin 16)
  /-- The core takes the EVENT vector when LINE and IE are both 1 (R86). -/
  | eventEntry (c : CoreId)
  /-- An error response reaches a buffered store or write-back, setting IMP or MULTI (R89). -/
  | impreciseBuserr (c : CoreId)
  /-- A held imprecise bus error is taken once EXC is 0 (R89). -/
  | impreciseBuserrTake (c : CoreId)
  /-- The event line rises, ending IDLE (R90). -/
  | idleWake (c : CoreId)
  /-- A beat edge ends WBEAT, which retires with the beat number (R130). -/
  | wbeatWake (c : CoreId)
  /-- An edge after which BEAT_COUNT reaches the target ends WBEATN (R130). -/
  | wbeatnWake (c : CoreId)
  /-- A write to a descriptor word through the window, legal only for FREE, TEMPLATE or BOUND descriptors (R137). -/
  | disDwinWrite (i : Initiator) (w : Fin 8) (v : Word)
  /-- Makes a FREE descriptor a TEMPLATE (R138). -/
  | mktpl (i : Initiator) (idx : Fin 4096)
  /-- Makes a FREE descriptor BOUND (R138). -/
  | mkbnd (i : Initiator) (idx : Fin 4096)
  /-- Frees a TEMPLATE, BOUND or HALTED descriptor and clears its words (R138). -/
  | disFree (i : Initiator) (idx : Fin 4096)
  /-- Makes a BOUND or HALTED descriptor READY or DELAYED (R138). -/
  | disReady (i : Initiator) (idx : Fin 4096)
  /-- Cancels a READY or DELAYED task (R138). -/
  | disCancel (i : Initiator) (idx : Fin 4096)
  /-- Cancels every descriptor on a delay list and sets BUSY (R138). -/
  | disFlush (i : Initiator) (idx : Fin 4096)
  /-- The flush's busy time expires and BUSY clears (R138). -/
  | flushDone
  /-- A write to DIS_TICK changes the tick period, rejected while any delay list is non-empty (R143). -/
  | disTickWrite (i : Initiator) (v : Word)
  /-- The tick period expires and DIS_TIME increments (R143). -/
  | disTimeTick
  /-- DIS_TIME reaches the WAKE of a delayed task, which moves to its ready list (R144). -/
  | delayWake (l : Fin 8)
  /-- The Dispatcher hands an eligible READY task to a core blocked in TAKE in Ask mode (R147). -/
  | taskHandover (n : Fin 4) (pick : Nat)
  /-- The Dispatcher fills an empty palm slot with an eligible READY task (R148). -/
  | slotFill (n : Fin 4) (pick : Nat)
  /-- A higher-priority READY task replaces the slotted task, which returns to READY (R148). -/
  | slotSwap (n : Fin 4) (pick : Nat)
  /-- A task slotted longer than SLOTAGE moves to a blocked Ask-mode core (R149). -/
  | slotMigrate (n : Fin 4)
  /-- A write to DIS_CORE changes a core's mode, limit or slot age, returning a slotted task where needed (R150). -/
  | disCoreWrite (i : Initiator) (n : Fin 4) (v : Word)
  /-- A write to DIS_BIND binds or unbinds an ECX source to a BOUND descriptor (R154). -/
  | disBindWrite (i : Initiator) (k : Fin 64) (v : Word)
  /-- A source signal changes and sets or follows the source's PEND bit by its type (R161). -/
  | sourceSignal (src : Fin 1024) (v : Bool)
  /-- A write to ECX_SWTRIG sets a software source pending (R162). -/
  | ecxSwtrig (i : Initiator) (v : Word)
  /-- A write to ECX_TGT changes a source's target (R164). -/
  | ecxTgtWrite (i : Initiator) (src : Fin 1024) (v : Word)
  /-- A raw write to ECX_PEND stores pending bits, with hardware sets winning collisions (R181). -/
  | ecxPendWrite (i : Initiator) (g : Fin 32) (v : Word)
  /-- A core's read of ECX_CLAIM delivers its lowest eligible source and makes it ACTIVE (R169). -/
  | ecxClaim (i : Initiator)
  /-- A write to ECX_DONE completes a source claimed by the writing core (R171). -/
  | ecxDone (i : Initiator) (v : Word)
  /-- A write to ECX_TCTL switches a target between line and queue mode (R172). -/
  | ecxTctlWrite (i : Initiator) (t : Fin 5) (v : Word)
  /-- A write to ECX_QBASE sets the ring base, rejected while in queue mode (R172). -/
  | ecxQbaseWrite (i : Initiator) (t : Fin 5) (v : Word)
  /-- The ECX begins writing a record for an eligible source into a queue-mode ring (R173). -/
  | queueRecordWrite (t : Fin 5)
  /-- A record write completes, delivering the source and advancing QWR (R173). -/
  | queueRecordDone (t : Fin 5)
  /-- A write to ECX_QRD consumes records and completes their sources (R176). -/
  | ecxQrdWrite (i : Initiator) (t : Fin 5) (v : Word)
  /-- The ECX offers the Dispatcher its next eligible source (R179). -/
  | ecxOffer
  /-- A group's hold-off for a target expires and its sources become eligible again (R180). -/
  | holdoffEnd (g : Fin 32) (t : Fin 6)
  /-- The scrubber's period expires and it reads and checks the next word of each memory (R189). -/
  | scrubStep (hit : Option Upset)
  /-- The spare copy completes; MEM_REMAP records it and source 50 is raised (R190). -/
  | spareCopyDone (b : Fin 8)
  /-- An MRAM word program completes and waiting reads are served (R192). -/
  | mramProgramDone (r : Fin 2)
  /-- DMA_CH_CTRL.START fetches the descriptor and enters WAIT or RUN (R201). -/
  | dmaStart (i : Initiator) (n : Fin 16)
  /-- DMA_CH_CTRL.STOP ends the channel at the next element boundary (R201). -/
  | dmaStop (i : Initiator) (n : Fin 16)
  /-- A write to DMA_CH_CFG sets trigger and priority, legal only in IDLE or HALT (R201). -/
  | dmaCfgWrite (i : Initiator) (n : Fin 16) (v : Word)
  /-- A write to DMA_CH_DESC sets the first descriptor, legal only in IDLE or HALT (R201). -/
  | dmaDescWrite (i : Initiator) (n : Fin 16) (v : Word)
  /-- A descriptor fetch completes and is checked for validity (R200). -/
  | dmaDescFetch (n : Fin 16)
  /-- A pulse trigger increments TPEND or is refused (R203). -/
  | dmaTriggerPulse (t : Fin 64)
  /-- A peripheral request level starts a burst of a waiting channel (R203). -/
  | dmaLevelTrigger (n : Fin 16)
  /-- The DMA issues one element of the highest-priority running channel (R204). -/
  | dmaElement
  /-- A descriptor's writes have completed; write-back, DONE event and chaining follow (R205). -/
  | dmaDescEnd (n : Fin 16)
  /-- A write to GNT_LOGPOP removes the oldest violation log entry (R211). -/
  | gntLogpop (i : Initiator)
  /-- A write to WDG_KICK advances the service sequence or causes a violation (R214). -/
  | wdgKick (i : Initiator) (v : Word)
  /-- WDG_COUNT reaches TIMEOUT, a LATE violation (R214). -/
  | wdgLate
  /-- WDG_COUNT reaches TIMEOUT − WARN and source 100 is raised (R215). -/
  | wdgWarn
  /-- The grace time after a violation expires and the watchdog reset begins (R216). -/
  | wdgGraceEnd
  /-- A write to WDG_CFG enables and configures the watchdog, rejected while enabled (R217). -/
  | wdgCfgWrite (i : Initiator) (v : Word)
  /-- A write to WDG_TIMEOUT, WDG_OPEN or WDG_WARN, rejected while enabled (R217). -/
  | wdgLimitWrite (i : Initiator) (r : Fin 3) (v : Word)
  /-- A block reports an error on a channel, opening or extending a fault window (R221). -/
  | faultReport (ch : Fin 4096) (detail : Word)
  /-- A SUSPECT channel's window expires and it returns to OK (R221). -/
  | faultWindowEnd (ch : Fin 4096)
  /-- The fault manager offers its queue head to the Ledger at a beat edge (R223). -/
  | faultRecordOffer
  /-- Moves a RETIRED channel to REQUAL (R224). -/
  | fltRequal (i : Initiator) (ch : Fin 4096)
  /-- Moves a REQUAL channel to OK and queues a reinstatement record (R224). -/
  | fltReinstate (i : Initiator) (ch : Fin 4096)
  /-- Returns a REQUAL channel to RETIRED (R224). -/
  | fltAbort (i : Initiator) (ch : Fin 4096)
  /-- Resets one application core alone and holds it (R224). -/
  | corerst (i : Initiator) (ch : Fin 4096)
  /-- The two halves of G0 disagree and a watchdog reset follows at once (R225). -/
  | g0Mismatch
  /-- Fills an empty key slot from the TRNG (R228). -/
  | keyGen (i : Initiator) (slot type : Fin 16) (usage : Fin 4)
  /-- Fills an empty key slot from KEY_IN (R228). -/
  | keyLoad (i : Initiator) (slot type : Fin 16) (usage : Fin 4)
  /-- Empties an unlocked key slot (R228). -/
  | keyErase (i : Initiator) (slot : Fin 16)
  /-- Locks a key slot irrevocably (R228). -/
  | keyLock (i : Initiator) (slot : Fin 16)
  /-- A key command completes and raises source 112 (R230). -/
  | keyDone
  /-- Hashes a byte string with SHA-256 (R232). -/
  | sha256 (i : Initiator) (flags slot : Fin 16)
  /-- Encrypts or decrypts with AES-CBC (R231). -/
  | aesCbc (i : Initiator) (flags slot : Fin 16)
  /-- Encrypts or decrypts with AES-CTR (R231). -/
  | aesCtr (i : Initiator) (flags slot : Fin 16)
  /-- Encrypts or decrypts with AES-GCM and checks the tag (R233). -/
  | aesGcm (i : Initiator) (flags slot : Fin 16)
  /-- Signs CRY_HASH with a P-256 key slot (R231). -/
  | ecdsaSign (i : Initiator) (flags slot : Fin 16)
  /-- Verifies a P-256 signature (R233). -/
  | ecdsaVerify (i : Initiator) (flags slot : Fin 16)
  /-- Derives the public key of a P-256 key slot (R231). -/
  | publicKey (i : Initiator) (flags slot : Fin 16)
  /-- A crypto operation ends with its status and raises source 114 or 115 (R233). -/
  | cryDone
  /-- A TRNG health test fails and sets RNGERR (R234). -/
  | trngHealthFail
  /-- A G0 read of CRY_RNG returns 32 fresh random bits (R234). -/
  | cryRngRead (i : Initiator)
  /-- A write to LDG_PUT queues an acceptance of the staged record or posts a refusal (R247). -/
  | ldgPut (i : Initiator) (v : Word)
  /-- The Ledger writes and reads back the record and posts ACCEPTED or BADCRC (R244). -/
  | ldgAcceptance (pick : Fin 16384) (bad : Fin 3)
  /-- Completes tallies, writes restart records and enters RUN (R269). -/
  | ldgStart (i : Initiator)
  /-- Frees committed records up to LDG_REL on the manager (R256). -/
  | ldgRelease (i : Initiator)
  /-- Loads LDG_TALLY and LDG_SNAPSEQ with the values after the latest commit (R262). -/
  | ldgSnap (i : Initiator)
  /-- Arms a tariff boundary at LDG_TAT (R263). -/
  | tsched (i : Initiator)
  /-- Disarms an unannounced tariff boundary (R263). -/
  | tcancel (i : Initiator)
  /-- Formats an empty ring from G0 in STOPPED (R258). -/
  | ldgFormat (i : Initiator)
  /-- A write to LDG_TDEF defines a tally, legal only in STOPPED (R259). -/
  | tdefWrite (i : Initiator) (t : Fin 64) (w : Fin 2) (v : Word)
  /-- After a reset the Ledger judges every slot, then enters STOPPED and raises source 176 (R245). -/
  | ldgRecovery
  /-- A worker hands off its uncommitted records in the Ledger window (R252). -/
  | ledgerHandoff
  /-- The manager receives handed-off records and commits, holds or discards each (R253). -/
  | handoffRx (p : Fin 2) (f : Llp)
  /-- The manager sends its commits to the deputy in the next Ledger window (R254). -/
  | mirrorSend
  /-- The deputy writes mirrored records, applies tallies and confirms (R254). -/
  | mirrorRx (p : Fin 2) (f : Llp)
  /-- The manager receives the deputy's confirmation of a mirror (R254). -/
  | confirmRx (p : Fin 2) (f : Llp)
  /-- The manager acknowledges confirmed records to their origins (R254). -/
  | ackSend (d : Fin 64)
  /-- An origin receives an acknowledgement and frees its slots (R254). -/
  | ackRx (p : Fin 2) (f : Llp)
  /-- The manager sends a newly admitted deputy its committed unreleased records (R255). -/
  | catchupSend (high : BitVec 48)
  /-- The deputy frees mirrors up to the received release cursor (R256). -/
  | releaseCursorRx (p : Fin 2) (f : Llp)
  /-- VSYS has stayed below V_PFW for 1 µs, so PFW rises and source 18 is raised (R554). -/
  | pfwRise (vsys : Word)
  /-- The hold-up work is done; QUIET is set and source 169 is raised (R267). -/
  | ldgQuiet
  /-- PFW has stayed low for 10 ms with no reset, so the Ledger writes a power-restore record and returns to RUN (R267). -/
  | pfwRestore
  /-- VSYS rises above V_PFW + 50 mV, so PFW falls and source 19 is raised (R554). -/
  | pfwFall (vsys : Word)
  /-- A frame received as raw goes to the firmware receive ring, or is dropped and counted (R273). -/
  | rawFrameRx (p : Fin 3) (d : List Byte)
  /-- A ring port becomes UP and raises source 193 (R275). -/
  | portUp (p : Fin 3)
  /-- A ring port loses its PHY link and becomes DOWN (R275). -/
  | portDown (p : Fin 3)
  /-- An admitted port has received nothing for LNK_DEADB beats and becomes DOWN (R275). -/
  | portSilence (p : Fin 2)
  /-- A Sync or Follow_Up message is received on the upstream port (R279). -/
  | gptpSyncRx (p : Fin 2) (time : BitVec 64)
  /-- Every 1 s a port starts a peer-delay exchange (R279). -/
  | pdelayExchange (p : Fin 2)
  /-- A port answers a received Pdelay_Req (R279). -/
  | pdelayReqRx (p : Fin 2)
  /-- The lead sends Sync, Follow_Up and BEAT after each edge (R280). -/
  | beatFrameSend
  /-- A follower receives a BEAT frame and measures its edge offset (R281). -/
  | beatFrameRx (p : Fin 2) (f : Llp)
  /-- A device relays the upstream BEAT, Sync and Follow_Up out of its other ring port (R280). -/
  | beatRelay
  /-- A device sends HELLO every 1 ms before admission and once per beat after (R294). -/
  | helloSend
  /-- The lead decides a HELLO as DUPID, SERVICE, OBSERVER, DEPUTY or WORKER (R295). -/
  | helloRx (p : Fin 2) (f : Llp)
  /-- The lead sends ADMIT in the sync window of the next beat (R295). -/
  | admitSend
  /-- A device receives ADMIT, checks Compat and takes its role (R296). -/
  | admitRx (p : Fin 2) (f : Llp)
  /-- The lead sends TOPO in every sync window (R297). -/
  | topoSend
  /-- A device takes routing coordinates from a TOPO frame (R276). -/
  | topoRx (p : Fin 2) (f : Llp)
  /-- An admitted device unheard for LNK_DEADB beats leaves LNK_ADMIT (R297). -/
  | memberTimeout (d : Fin 64)
  /-- A window of the beat opens, sending CREDIT and unacknowledged frames (R287). -/
  | windowStart (w : Fin 5)
  /-- A device starts a queued frame when its window, credit and time allow (R287). -/
  | frameSend (p : Fin 3) (w : Fin 5)
  /-- A receiver sends a CREDIT frame after an ACK or credit change (R288). -/
  | creditSend (p : Fin 2)
  /-- A sender takes acknowledgements and credits, and resends after a gap (R288). -/
  | creditRx (p : Fin 2) (f : Llp)
  /-- Starts the link and discovery (R293). -/
  | lnkStart (i : Initiator)
  /-- Stops the link, taking its ports DOWN (R289). -/
  | lnkStop (i : Initiator)
  /-- The lead removes a device from LNK_ADMIT (R297). -/
  | forget (i : Initiator) (d : Fin 64)
  /-- A write to LNK_DEPUTY names the deputy (R298). -/
  | lnkDeputyWrite (i : Initiator) (v : Word)
  /-- Enabling LNK_ANN announces a firmware beat (R301). -/
  | lnkAnnWrite (i : Initiator) (k : Fin 8) (v : Word)
  /-- The deputy takes the lead after LNK_FOTO beats without a BEAT frame and with quorum (R302). -/
  | takeover
  /-- A write to LNK_BOOTCTL enables serving of the boot image (R304). -/
  | lnkBootctlWrite (i : Initiator) (v : Word)
  /-- The lead answers a boot REQ with DATA, RANGE or OFF (R304). -/
  | bootReqRx (p : Fin 2) (f : Llp)
  /-- A booting device receives boot DATA (R304). -/
  | bootDataRx (p : Fin 2) (f : Llp)
  /-- An unanswered boot REQ is repeated after 10 ms (R304). -/
  | bootReqRetry
  /-- A link stream input stores, discards or counts the samples of an AUDIO frame (R407). -/
  | audioFrameRx (p : Fin 2) (f : Llp)
  /-- A host accepts, refuses or discards a received token (R447). -/
  | tokenRx (p : Fin 2) (f : Llp)
  /-- A requester accepts or discards a received result (R448). -/
  | resultRx (p : Fin 2) (f : Llp)
  /-- A device executes or refuses a remote access request and replies (R307). -/
  | raccRequestRx (p : Fin 2) (f : Llp)
  /-- An authorised RESET frame starts the link reset, or is counted in LNK_IGN (R308). -/
  | resetFrameRx (p : Fin 2) (f : Llp)
  /-- A WAKE frame received in Park requests a wake (R309). -/
  | wakeFrameRx (p : Fin 2) (f : Llp)
  /-- An LLP MSG frame is delivered into the firmware receive ring (R310). -/
  | msgRx (p : Fin 2) (f : Llp)
  /-- The link sends the next transmit-ring slot and advances QTX_RD (R310). -/
  | qtxSend
  /-- At frame start the pipe restores its registers and starts the beam list (R329). -/
  | bsqFrameStart (p : Fin 3)
  /-- An output requests a composed line from its pipe (R313). -/
  | outputLineRequest (o : Fin 3)
  /-- A write to LBUF_BACK sets a layer's next buffer (R325). -/
  | lbufBackWrite (i : Initiator) (p : Fin 3) (l : Fin 6) (v : Word)
  /-- A write to RAS_READY marks layers ready to flip (R325). -/
  | rasReadyWrite (i : Initiator) (p : Fin 3) (v : Word)
  /-- A write to RAS_UNREADY clears READY bits (R325). -/
  | rasUnreadyWrite (i : Initiator) (p : Fin 3) (v : Word)
  /-- The beam list stops until the next frame start (R330). -/
  | bsqEnd (p : Fin 3)
  /-- The beam list waits for a beam position (R332). -/
  | bsqWait (p : Fin 3)
  /-- The composer reaches a WAIT's position and the list continues (R332). -/
  | bsqWaitRelease (p : Fin 3)
  /-- Writes a pipe register, local RAM word or b register (R331). -/
  | bsqMove (p : Fin 3)
  /-- Writes a target under a mask (R330). -/
  | bsqMmove (p : Fin 3)
  /-- Skips the next instruction when its condition holds (R330). -/
  | bsqSkipif (p : Fin 3)
  /-- Decrements a b register and jumps while it is not zero (R330). -/
  | bsqLoop (p : Fin 3)
  /-- Raises source P + 7 + n (R330). -/
  | bsqEvent (p : Fin 3)
  /-- Sets READY of the named layers (R330). -/
  | bsqFlip (p : Fin 3)
  /-- An output's timing reaches the start of vertical blanking and raises its source; on a lead with VBLANK_A it places the edge (R338). -/
  | vblankStart (o : Fin 2) (t : Word)
  /-- An output's pixel clock relocks after a FREQ change (R342). -/
  | pllPixRelock (o : Fin 3)
  /-- The panel's tearing signal: OB_TE takes its other level, or the TE trigger message arrives; a TE event in the window starts a
  command-mode transfer (R345, R346). -/
  | teEvent
  /-- No TE arrived by edge + TEWIN; the transfer starts and a miss is counted (R345). -/
  | teWindowEnd
  /-- A command-mode transfer ends and source 267 is raised (R345). -/
  | transferEnd
  /-- A write to OUT_B_CMDHDR queues one DSI packet (R347). -/
  | outBCmdhdrWrite (i : Initiator) (v : Word)
  /-- The queued DSI packet is sent in blanking or between transfers (R347). -/
  | dsiPacketSend (contention : Bool)
  /-- The panel's reply or error report arrives after BTA (R347). -/
  | dsiReadReply (d : List Byte) (rep : BitVec 16)
  /-- No reply comes within 100 µs of BTA (R347). -/
  | dsiBtaTimeout
  /-- The lanes have left ULPS and the next transfer may start (R348). -/
  | ulpsExitDone
  /-- Output C runs one refresh of the LED matrix (R350). -/
  | ledRefresh
  /-- Starts or resumes the blitter at RD (R365). -/
  | bltStart (i : Initiator)
  /-- Stops the blitter after the current burst (R365). -/
  | bltStop (i : Initiator)
  /-- Advances RD past a halted command (R365). -/
  | bltSkip (i : Initiator)
  /-- A write to BLT_RBASE or BLT_RSIZE sets the ring and clears RD and WR (R365). -/
  | bltRingConfigWrite (i : Initiator) (r : Fin 2) (v : Word)
  /-- A write to BLT_WR makes slots available for execution (R363). -/
  | bltWrWrite (i : Initiator) (v : Word)
  /-- Does nothing (R367). -/
  | bltNop
  /-- Fills a rectangle with one colour (R370). -/
  | bltFill (cut : Option Nat)
  /-- Copies a rectangle (R370). -/
  | bltCopy (cut : Option Nat)
  /-- Combines destination, source and pattern by a ternary raster operation (R371). -/
  | bltRop3 (cut : Option Nat)
  /-- Mirrors and rotates a rectangle (R372). -/
  | bltXform (cut : Option Nat)
  /-- Reaches a LAYER command and waits while the layer's READY is 1 (R375). -/
  | bltLayer
  /-- READY is 0, so LAYER writes LBUF_BACK and sets READY (R375). -/
  | bltLayerRelease
  /-- Raises source 300 + n (R376). -/
  | bltEvent
  /-- Ends any batch and, with BEAT = 1, waits for the next edge (R377). -/
  | bltSync
  /-- A beat edge releases a SYNC and starts that beat's batch (R377). -/
  | bltSyncRelease
  /-- A command ends and RD advances; an empty ring raises source 299 (R362). -/
  | bltCommandEnd
  /-- The render of the next block starts at AUD_RSTART (R385). -/
  | audioRenderStart
  /-- The audio block renders one group of up to 64 samples (R385). -/
  | audioGroup
  /-- Restarts a voice in ATTACK (R393). -/
  | keyon (i : Initiator) (v : Fin 32) (due : Option (BitVec 11))
  /-- Moves a voice to RELEASE (R393). -/
  | keyoff (i : Initiator) (v : Fin 32) (due : Option (BitVec 11))
  /-- Turns a voice off at once (R393). -/
  | kill (i : Initiator) (v : Fin 32) (due : Option (BitVec 11))
  /-- A pending voice command acts at its group or sample (R393). -/
  | voiceCommandAct (v : Fin 32)
  /-- A write to a voice's data settings, legal only while it is OFF (R394). -/
  | voiceParamWrite (i : Initiator) (v : Fin 32) (r : Fin 5) (w : Word)
  /-- A slave input has measured 64 stable frames and LOCK rises (R397). -/
  | inputLock (i : Fin 2) (hz : BitVec 24)
  /-- No input frame for 1 ms, so LOCK falls (R397). -/
  | inputLockLoss (i : Fin 2)
  /-- The camera's FS pin pulses at FSOFF after the edge (R413). -/
  | fsPulse (x : Fin 2)
  /-- A frame start takes a FREE buffer and increments FSEQ (R414). -/
  | cameraFrameStart (x : Fin 2) (vc : BitVec 2) (err : Fin 4)
  /-- A line is stored, filled or trimmed against WIDTH (R416). -/
  | cameraLine (x : Fin 2) (vc : BitVec 2) (dt : BitVec 6) (px : List (BitVec 24)) (err : Fin 4)
  /-- A frame ends and its buffer becomes HELD by its holders (R415). -/
  | cameraFrameEnd (x : Fin 2) (vc : BitVec 2) (err : Fin 4)
  /-- Firmware releases its hold on a buffer (R415). -/
  | camRel (i : Initiator) (x : Fin 2) (v : Word)
  /-- The recorder starts encoding the oldest held frame (R419). -/
  | recEncodeStart
  /-- The JPEG stream of a frame is complete (R421). -/
  | recEncodeDone
  /-- The eMMC confirms a unit's header; the hold is released and source 449 raised (R425). -/
  | unitComplete
  /-- Opens a segment or retries a failed unit, and enters RUN (R428). -/
  | recStart (i : Initiator)
  /-- Completes the unit, writes the index, releases holds and enters OFF (R428). -/
  | recStop (i : Initiator)
  /-- A write to a ring or output register, legal only in OFF (R428). -/
  | recConfigWrite (i : Initiator) (r : Fin 7) (v : Word)
  /-- A write to REC_QT or REC_HT, rejected while RUN (R420). -/
  | recTableWrite (i : Initiator) (k : Fin 6) (e : Fin 64) (v : Word)
  /-- Queues a clip marker for an input (R427). -/
  | recMark (i : Initiator) (v : Word)
  /-- A bound marker is offered to the Ledger at each edge until accepted (R427). -/
  | markerOffer
  /-- A recorder eMMC command ends and source 808 is raised (R532). -/
  | recEmmcDone (res : Fin 6)
  /-- Checks and loads a model blob (R433). -/
  | xpaLoad (i : Initiator)
  /-- Checks and loads a schedule table into a bank (R433). -/
  | xpaLoadsched (i : Initiator) (b : Fin 2)
  /-- Tests an engine in REQUAL (R453). -/
  | xpaTest (i : Initiator) (n : Fin 16)
  /-- Discards the model (R433). -/
  | xpaUnload (i : Initiator)
  /-- An array command ends and raises source 481 (R433). -/
  | xpaCmdDone (pass : Bool)
  /-- The router starts a layer's ROUTE step (R438). -/
  | xpaRoute (n : Fin 256)
  /-- A ROUTE step ends, releasing the layer-0 frame hold (R436). -/
  | xpaRouteEnd
  /-- An engine starts a SLOT step serving its queue (R442). -/
  | xpaSlot (n : Fin 256) (err : Option (Fin 256 × Bool))
  /-- A SLOT empties its queue or reaches its end, dropping leftover tokens (R442). -/
  | xpaSlotEnd (n : Fin 256) (served : Fin 257)
  /-- The router starts a GATHER step combining results (R449). -/
  | xpaGather (n : Fin 256)
  /-- A GATHER ends; the last layer's end loads XPA_OUTBEAT (R449). -/
  | xpaGatherEnd
  /-- The spare copy ends; the spare serves the engine from the next edge, or RLFAIL is set (R452). -/
  | xpaRemapDone
  /-- Starts a timer (R460). -/
  | tmrStart (i : Initiator) (n : Fin 16)
  /-- Arms a timer to start after the next beat edge (R460). -/
  | tmrAt (i : Initiator) (n : Fin 16)
  /-- Stops a running or armed timer (R460). -/
  | tmrStop (i : Initiator) (n : Fin 16)
  /-- Starts several timers in one cycle (R460). -/
  | tmrGstart (i : Initiator) (v : Word)
  /-- Stops several timers in one cycle (R460). -/
  | tmrGstop (i : Initiator) (v : Word)
  /-- An armed timer starts in the cycle after the beat edge reaches the block (R460). -/
  | tmrArmedStart (n : Fin 16)
  /-- A running timer's tick arrives and it makes one counting step (R459). -/
  | timerStep (n : Fin 16)
  /-- A write to TMR_CC sets a compare value in force from that cycle's step (R463). -/
  | tmrCcWrite (i : Initiator) (n : Fin 16) (x : Fin 2) (v : Word)
  /-- A filtered, prescaled input edge latches COUNT into TMR_CC (R466). -/
  | captureEdge (n : Fin 16) (x : Fin 2) (rising : Bool)
  /-- A trigger-matrix event starts a timer (R468). -/
  | actionStart (n : Fin 16)
  /-- A trigger-matrix event stops a timer (R468). -/
  | actionStop (n : Fin 16)
  /-- A trigger-matrix event ticks a timer (R468). -/
  | actionCount (n : Fin 16)
  /-- A trigger-matrix event reloads a timer's COUNT (R468). -/
  | actionReset (n : Fin 16)
  /-- A trigger-matrix event pulses a DMA trigger (R468). -/
  | actionDma (n : Fin 16)
  /-- A trigger-matrix event starts an ADC sequence, or is refused (R473). -/
  | actionAdc
  /-- A write to ADC_CTL powers the converter or sets LEN (R471). -/
  | adcCtlWrite (i : Initiator) (v : Word)
  /-- A write to ADC_SEQ sets a sequence entry (R471). -/
  | adcSeqWrite (i : Initiator) (k : Fin 16) (v : Word)
  /-- Starts a sequence when IDLE with no unread results (R473). -/
  | adcStart (i : Initiator)
  /-- Ends the sequence after the conversion in progress (R472). -/
  | adcStop (i : Initiator)
  /-- Counts every result as read (R474). -/
  | adcFlush (i : Initiator)
  /-- Returns the oldest unread result and marks it read (R474). -/
  | adcDataRead (i : Initiator)
  /-- The 10 µs settling time expires and the ADC becomes IDLE (R471). -/
  | adcSettleEnd
  /-- A conversion ends and its result is written (R472). -/
  | adcConversionEnd (x : Word)
  /-- A pad level changes and reaches the synchroniser (R482). -/
  | padChange (p : Fin 5) (n : Fin 32) (v : Bool)
  /-- A write to GPIO_OUT sets the output data (R480). -/
  | gpioOutWrite (i : Initiator) (p : Fin 5) (v : Word)
  /-- Sets the named output bits (R480). -/
  | gpioSet (i : Initiator) (p : Fin 5) (v : Word)
  /-- Clears the named output bits (R480). -/
  | gpioClr (i : Initiator) (p : Fin 5) (v : Word)
  /-- Inverts the named output bits (R480). -/
  | gpioTgl (i : Initiator) (p : Fin 5) (v : Word)
  /-- A write to PIN_CFG sets a pin's function and pad controls (R481). -/
  | pinCfgWrite (i : Initiator) (p : Fin 5) (n : Fin 32) (v : Word)
  /-- A write to PIN_LKKEY advances or restarts the lock sequence (R485). -/
  | pinLkkeyWrite (i : Initiator) (p : Fin 5) (v : Word)
  /-- A write to PIN_LKMASK sets the pins to lock and restarts the sequence (R485). -/
  | pinLkmaskWrite (i : Initiator) (p : Fin 5) (v : Word)
  /-- An XIN32 tick advances SUBSEC, with trim and slew (R498). -/
  | rtcTick (vbat : Word)
  /-- A temperature conversion updates MIT_TEMP and recomputes the correction (R503). -/
  | tempConversionDone (t : BitVec 12)
  /-- A pending Mitten register write takes effect at a tick (R497). -/
  | mitWriteEffect (a : Word) (vbat : Word)
  /-- Copies the staged trim curve into the live curve (R506). -/
  | mitApply (i : Initiator) (v : Word)
  /-- Sets the SW wake flag (R511). -/
  | mitWakeset (i : Initiator)
  /-- The Mitten switches between VSYS and VBAT (R492). -/
  | supplySwitch (vsys vbat : Word)
  /-- Both supplies fail and the Mitten's state is lost (R494). -/
  | mittenStateLoss
  /-- At 1,024 Hz a wake pin is sampled and its filtered level updated (R509). -/
  | wakePinSample (n : Fin 8) (v : Bool)
  /-- Joins the CAN bus from INIT (R517). -/
  | canStart (i : Initiator) (c : Fin 2)
  /-- Ends the frame in progress and enters INIT (R517). -/
  | canStop (i : Initiator) (c : Fin 2) (frame : Bool)
  /-- Starts bus-off recovery (R517). -/
  | canRecover (i : Initiator) (c : Fin 2)
  /-- After 11 recessive bits the controller joins the bus (R517). -/
  | canBusJoin (c : Fin 2)
  /-- A matching frame is stored in the receive ring, or refused when full (R518). -/
  | canFrameRx (c : Fin 2) (id : Word) (ctl : Fin 64) (data : List Byte)
  /-- A write to CAN_RXRD consumes received frames (R518). -/
  | canRxrdWrite (i : Initiator) (c : Fin 2) (v : Word)
  /-- A write to CAN_TXWR queues frames for transmission (R519). -/
  | canTxwrWrite (i : Initiator) (c : Fin 2) (v : Word)
  /-- A frame is transmitted and TXRD advances (R519). -/
  | canTxDone (c : Fin 2)
  /-- A bus error changes the error counters and state (R517). -/
  | canBusError (c : Fin 2) (kind : Fin 4)
  /-- Bus-off recovery completes (R517). -/
  | canRecoveryDone (c : Fin 2)
  /-- Sends a break after the present character (R521). -/
  | uartBreak (i : Initiator) (u : Fin 6)
  /-- Empties the receive FIFO (R521). -/
  | uartFlushrx (i : Initiator) (u : Fin 6)
  /-- Empties the transmit FIFO (R521). -/
  | uartFlushtx (i : Initiator) (u : Fin 6)
  /-- Activates the smart card (R523). -/
  | scAct (i : Initiator) (u : Fin 6)
  /-- Deactivates the smart card (R523). -/
  | scDeact (i : Initiator) (u : Fin 6)
  /-- After RSTLOW clocks SCRST is driven high (R523). -/
  | scResetRelease (u : Fin 6)
  /-- No answer arrives in 40,000 clocks; SCRES reads NOATR (R523). -/
  | scAtrTimeout (u : Fin 6)
  /-- WT ETUs pass without a start bit; SCRES reads WTO (R524). -/
  | scWaitTimeout (u : Fin 6)
  /-- A write to UART_TXD pushes a character (R521). -/
  | uartTxdWrite (i : Initiator) (u : Fin 6) (v : Word)
  /-- A read of UART_DATA pops the oldest received character (R521). -/
  | uartDataRead (i : Initiator) (u : Fin 6)
  /-- A character is received into the FIFO, or refused when full (R521). -/
  | uartCharRx (u : Fin 6) (c : Fin 512) (fe pe brk : Bool)
  /-- A character leaves the transmit FIFO (R521). -/
  | uartCharTx (u : Fin 6) (signalled : Bool)
  /-- RXTO idle bit times pass and the receive source is raised (R521). -/
  | uartRxTimeout (u : Fin 6)
  /-- Starts an SPI transfer (R525). -/
  | spiStart (i : Initiator) (n : Fin 3) (miso : List Word)
  /-- Ends the SPI transfer after the word in progress (R525). -/
  | spiAbort (i : Initiator) (n : Fin 3)
  /-- An SPI transfer completes (R525). -/
  | spiDone (n : Fin 3)
  /-- Runs an indirect Octal SPI command (R527). -/
  | ospiStart (i : Initiator) (answer : List Byte)
  /-- Aborts the indirect command (R527). -/
  | ospiAbort (i : Initiator)
  /-- An indirect command completes (R527). -/
  | ospiDone
  /-- A read of the XIP window issues a flash read (R526). -/
  | xipRead (i : Initiator) (a : Word) (size : Fin 4) (line : List Byte)
  /-- Runs one I2C transaction (R528). -/
  | i2cStart (i : Initiator) (n : Fin 2) (answer : List Byte)
  /-- Aborts the I2C transaction (R528). -/
  | i2cAbort (i : Initiator) (n : Fin 2)
  /-- Clocks SCL to free SDA and sends STOP (R529). -/
  | i2cRecover (i : Initiator) (n : Fin 2)
  /-- An I2C transaction ends with its result (R528). -/
  | i2cDone (n : Fin 2) (res : Fin 6)
  /-- Sends an eMMC command (R530). -/
  | emmcIssue (i : Initiator)
  /-- Aborts the eMMC command (R530). -/
  | emmcAbort (i : Initiator)
  /-- Tunes the HS200 sample phase (R530). -/
  | emmcTune (i : Initiator)
  /-- Pulses EM_RST_N low (R530). -/
  | emmcHwreset (i : Initiator)
  /-- An eMMC command ends with its result (R530). -/
  | emmcDone (res : Fin 6) (r0 r1 r2 r3 : Word) (data : List Byte) (phases : BitVec 64)
  /-- A PPS edge loads the beat and RTC snapshot (R533). -/
  | ppsEdge (rising : Bool)
  /-- No PPS edge for 1.5 s sets LOSS (R533). -/
  | ppsLoss
  /-- VSYS rises through 1.30 V or the device leaves Off (R535). -/
  | powerOnReset (sel : Fin 8) (buckEn : Bool)
  /-- VSYS or VCORE falls below its brown-out threshold (R535). -/
  | brownOutReset (sel : Fin 8)
  /-- RST_N is held low for 1 µs or longer (R535). -/
  | pinReset (sel : Fin 8)
  /-- A G0 write of the key to PWR_SWRST resets the device (R535). -/
  | swReset (i : Initiator) (v : Word)
  /-- A wake flag or WAKE frame powers the core domain and applies a reset of kind 7 (R551). -/
  | parkWake
  /-- The reset cause ends with clocks running, so C0 starts the boot ROM (R536). -/
  | bootStart
  /-- The images have passed their checks and G0 and C0 start (R546). -/
  | bootHandover (bundle : Option (List Byte)) (mode : Fin 3)
  /-- Starts held application cores at SYS_CENTRY (R547). -/
  | sysCstart (i : Initiator) (v : Word)
  /-- Stops the cores and begins entry to Park (R550). -/
  | pwrPark (i : Initiator) (key : BitVec 16)
  /-- The Ledger is idle, so pads are latched and the core domain turns off (R550). -/
  | parkEntryDone
  /-- Raises PFW internally and begins entry to Off (R552). -/
  | pwrOff (i : Initiator) (key : BitVec 16)
  /-- The Ledger is QUIET, so the core domain and pads turn off (R552). -/
  | offEntryDone
  /-- DOZE is set and every core is stopped, so the core clocks stop (R549). -/
  | dozeEntry
  /-- VCORE stays out of range for 10 µs and raises source 22 (R553). -/
  | regulatorFault
  /-- A VIO bank falls below 1.62 V and raises source 21 (R553). -/
  | vioLow (b : Fin 5)
  /-- Advances an anti-rollback counter (R543). -/
  | bootAdvance (i : Initiator) (idx : Fin 16) (val : BitVec 16)
  /-- Writes a root key hash into the boot records (R543). -/
  | bootProvision (i : Initiator) (idx : Fin 16)
  /-- A core executes a word with a reserved opcode, function, condition or non-zero must-be-zero field and takes UNDEF (R106). -/
  | undefinedWord (c : CoreId) (w : Word)
  /-- The beam sequencer fetches a word with a reserved OP and ends the list with a fault of cause OPCODE (R330). -/
  | bsqReservedOp (p : Fin 3)
  /-- The blitter reaches a command with a reserved OP, which is invalid and halts the blitter with ERR = CMD (R369). -/
  | bltReservedOp
  /-- A port receives Pdelay_Resp and Pdelay_Resp_Follow_Up and updates LNK_PDELAY and the neighbour rate ratio (R279). -/
  | pdelayResponseRx (p : Fin 2) (t1 t2 t3 t4 : BitVec 64)
  /-- A peer-delay exchange gets no response in time and is reported on the port's channel with detail kind 4 (R291). -/
  | pdelayTimeout (p : Fin 2)
  /-- The D-PHY PLL of Output B loses lock and the output reports kind 1 on its channel (R352). -/
  | dphyPllUnlock
  /-- A PLL that lost lock locks again and its SYS_CLKSTAT bit returns to 1 (R11). -/
  | pllLockRegained (pll : Fin 3)
  /-- After both supplies were lost, a supply returns and every MIT register takes its reset value with LOST = 1 and VALID = 0 (R494). -/
  | mittenSupplyReturn
  /-- A VIO bank rises back into range and its PWR_STAT.VIOOK bit is set again (R553). -/
  | vioReturn (b : Fin 5)
  /-- VSYS falls below 1.30 V, the core domain loses power and the device enters Off (R548). -/
  | vsysLoss
deriving DecidableEq, Repr

end Sys2Proof
end

