-- ==== Sys2Proof/Decode.lean ====
section
/-! DEFINITION. Decoding. The opcode table gives its commands no bits, so no word spells a command of the table
(`decodeTableWord`). The cores' instructions have words of their own (spec/04 R104 to R124): `decodeRyux` reads one and
`encodeRyux` writes one. -/

namespace Sys2Proof

/-- The command that a word of the opcode table spells: the table gives its rows no bits. -/
def decodeTableWord (_nbits _w : Nat) : Option Instr := none

/-! ### Fields of an instruction word (R105) -/

/-- Bits [lo + len − 1 : lo]. -/
def wordField (w : Word) (lo len : Nat) : Nat := w.toNat / 2 ^ lo % 2 ^ len

/-- A register field. -/
def regField (w : Word) (lo : Nat) : Fin 16 := ⟨w.toNat / 2 ^ lo % 16, Nat.mod_lt _ (by decide)⟩

abbrev fieldD (w : Word) : Fin 16 := regField w 22
abbrev fieldS (w : Word) : Fin 16 := regField w 18
abbrev fieldT (w : Word) : Fin 16 := regField w 14
abbrev fieldF (w : Word) : Bool := wordField w 13 1 == 1
abbrev fieldFn (w : Word) : Nat := wordField w 0 6
abbrev fieldImm18 (w : Word) : BitVec 18 := BitVec.ofNat 18 w.toNat
abbrev fieldImm22 (w : Word) : BitVec 22 := BitVec.ofNat 22 w.toNat
abbrev fieldOff26 (w : Word) : BitVec 26 := BitVec.ofNat 26 w.toNat

/-- Answer an instruction where the fields that must be 0 are. -/
def onlyIf (ok : Bool) (i : Instr) : Option Instr := if ok then some i else none

/-! ### The groups -/

/-- Opcode 0x01: the integer group (R109). -/
def decodeInteger (c : CoreId) (w : Word) : Option Instr :=
  let d := fieldD w
  let a := fieldS w
  let b := fieldT w
  let f := fieldF w
  match fieldFn w with
  | 0 => some (.add c d a b f)
  | 1 => some (.sub c d a b f)
  | 2 => some (.adc c d a b f)
  | 3 => some (.sbc c d a b f)
  | 4 => some (.andR c d a b f)
  | 5 => some (.orR c d a b f)
  | 6 => some (.xorR c d a b f)
  | 7 => some (.andn c d a b f)
  | 8 => some (.shl c d a b f)
  | 9 => some (.shr c d a b f)
  | 10 => some (.sar c d a b f)
  | 11 => some (.ror c d a b f)
  | 12 => onlyIf (!f) (.slt c d a b)
  | 13 => onlyIf (!f) (.sltu c d a b)
  | 14 => onlyIf (!f) (.min c d a b)
  | 15 => onlyIf (!f) (.max c d a b)
  | 16 => onlyIf (!f) (.minu c d a b)
  | 17 => onlyIf (!f) (.maxu c d a b)
  | 18 => onlyIf (!f) (.adds c d a b)
  | 19 => onlyIf (!f) (.subs c d a b)
  | 20 => onlyIf (!f) (.addus c d a b)
  | 21 => onlyIf (!f) (.subus c d a b)
  | 22 => onlyIf (!f && b == 0) (.clz c d a)
  | 23 => onlyIf (!f && d == 0) (.cmp c a b)
  | _ => none

/-- Opcode 0x02: pair SIMD (R113). -/
def decodePair (c : CoreId) (w : Word) : Option Instr :=
  let d := fieldD w
  let a := fieldS w
  let b := fieldT w
  match fieldFn w with
  | 0 => onlyIf (!fieldF w) (.padd c d a b)
  | 1 => onlyIf (!fieldF w) (.psub c d a b)
  | 2 => onlyIf (!fieldF w) (.padds c d a b)
  | 3 => onlyIf (!fieldF w) (.psubs c d a b)
  | 4 => onlyIf (!fieldF w) (.paddus c d a b)
  | 5 => onlyIf (!fieldF w) (.psubus c d a b)
  | 6 => onlyIf (!fieldF w) (.pmulq c d a b)
  | 7 => onlyIf (!fieldF w) (.pdot c d a b)
  | _ => none

/-- Opcode 0x03: multiply and divide (R114). -/
def decodeMulDiv (c : CoreId) (w : Word) : Option Instr :=
  let d := fieldD w
  let a := fieldS w
  let b := fieldT w
  match fieldFn w with
  | 0 => onlyIf (!fieldF w) (.mul c d a b)
  | 1 => onlyIf (!fieldF w) (.mulh c d a b)
  | 2 => onlyIf (!fieldF w) (.mulhu c d a b)
  | 3 => onlyIf (!fieldF w) (.mac c d a b)
  | 4 => onlyIf (!fieldF w) (.div c d a b)
  | 5 => onlyIf (!fieldF w) (.divu c d a b)
  | 6 => onlyIf (!fieldF w) (.rem c d a b)
  | 7 => onlyIf (!fieldF w) (.remu c d a b)
  | _ => none

/-- The control-register group (R122): the writes of c16 to c22 are the cache operations. -/
def decodeCtlw (c : CoreId) (n : Fin 64) (a : Fin 16) : Instr :=
  match n.val with
  | 16 => .icinv c a
  | 17 => .dcclean c a
  | 18 => .dcclinv c a
  | 19 => .dcinv c a
  | 20 => .icinvall c a
  | 21 => .dcclinvall c a
  | 22 => .dcinvall c a
  | _ => .ctlw c n a

/-- Opcode 0x29: register jumps (R120). -/
def decodeJumpReg (c : CoreId) (w : Word) : Option Instr :=
  match fieldFn w with
  | 0 => onlyIf (fieldD w == 0 && fieldT w == 0) (.jr c (fieldS w))
  | 1 => onlyIf (fieldD w == 0 && fieldT w == 0) (.callr c (fieldS w))
  | _ => none

/-- Opcode 0x2A: atomics (R121). -/
def decodeAtomic (c : CoreId) (w : Word) : Option Instr :=
  match fieldFn w with
  | 0 => onlyIf (fieldT w == 0) (.ldx c (fieldD w) (fieldS w))
  | 1 => some (.stc c (fieldD w) (fieldT w) (fieldS w))
  | _ => none

/-- Opcode 0x2D: the system group (R123). -/
def decodeSystem (c : CoreId) (w : Word) : Option Instr :=
  let z := fieldD w == 0 && fieldS w == 0
  let zt := z && fieldT w == 0
  match fieldFn w with
  | 0 => onlyIf zt (.eret c)
  | 1 => onlyIf zt (.brk c)
  | 2 => onlyIf z (.trap c (fieldT w))
  | 3 => onlyIf zt (.fence c)
  | 4 => onlyIf zt (.idle c)
  | _ => none

/-- A register field that must be even. -/
def evenReg (d : Fin 16) : Bool := d.val % 2 == 0

/-- Opcode 0x2E: the Dispatcher and beat group (R124). The choices of DONE and POST are no part of the word. -/
def decodeBeat (c : CoreId) (w : Word) : Option Instr :=
  let d := fieldD w
  let a := fieldS w
  let zf := !fieldF w
  let zt := zf && fieldT w == 0
  let zst := zt && a == 0
  match fieldFn w with
  | 0 => onlyIf (zst && evenReg d) (.take c d)
  | 1 => onlyIf (zst && evenReg d) (.slot c d)
  | 2 => onlyIf zst (.done c d 0)
  | 3 => onlyIf zf (.post c d a (fieldT w) 0)
  | 4 => onlyIf zst (.wbeat c d)
  | 5 => onlyIf (zt && evenReg a) (.wbeatn c d a)
  | _ => none

/-- Words in the R format: bits [12:6] must be 0 (R105). -/
def rFormat (w : Word) (i : Option Instr) : Option Instr := if wordField w 6 7 = 0 then i else none

/-- The instruction that word `w` is on core `c`; none for a word that raises UNDEF under R106. -/
def decodeRyux (c : CoreId) (w : Word) : Option Instr :=
  let d := fieldD w
  let a := fieldS w
  let imm := fieldImm18 w
  let shift : Fin 32 := ⟨w.toNat % 32, Nat.mod_lt _ (by decide)⟩
  let ctl : Fin 64 := ⟨w.toNat % 64, Nat.mod_lt _ (by decide)⟩
  let shiftOk := wordField w 5 13 == 0
  let ctlOk := wordField w 6 12 == 0
  match wordField w 26 6 with
  | 0x01 => rFormat w (decodeInteger c w)
  | 0x02 => rFormat w (decodePair c w)
  | 0x03 => rFormat w (decodeMulDiv c w)
  | 0x04 => some (.addi c d a imm)
  | 0x05 => some (.slti c d a imm)
  | 0x06 => some (.sltiu c d a imm)
  | 0x07 => some (.andi c d a imm)
  | 0x08 => some (.ori c d a imm)
  | 0x09 => some (.xori c d a imm)
  | 0x0A => onlyIf shiftOk (.shli c d a shift)
  | 0x0B => onlyIf shiftOk (.shri c d a shift)
  | 0x0C => onlyIf shiftOk (.sari c d a shift)
  | 0x0D => onlyIf (d == 0) (.cmpi c a imm)
  | 0x0E => some (.li c d (fieldImm22 w))
  | 0x0F => some (.lui c d (fieldImm22 w))
  | 0x10 => some (.ldb c d a imm)
  | 0x11 => some (.ldbu c d a imm)
  | 0x12 => some (.ldh c d a imm)
  | 0x13 => some (.ldhu c d a imm)
  | 0x14 => some (.ldw c d a imm)
  | 0x15 => some (.stb c d a imm)
  | 0x16 => some (.sth c d a imm)
  | 0x17 => some (.stw c d a imm)
  | 0x18 => some (.ldbp c d a imm)
  | 0x19 => some (.ldbup c d a imm)
  | 0x1A => some (.ldhp c d a imm)
  | 0x1B => some (.ldhup c d a imm)
  | 0x1C => some (.ldwp c d a imm)
  | 0x1D => some (.stbp c d a imm)
  | 0x1E => some (.sthp c d a imm)
  | 0x1F => some (.stwp c d a imm)
  | 0x20 => some (.beq c d a imm)
  | 0x21 => some (.bne c d a imm)
  | 0x22 => some (.blt c d a imm)
  | 0x23 => some (.bge c d a imm)
  | 0x24 => some (.bltu c d a imm)
  | 0x25 => some (.bgeu c d a imm)
  | 0x26 => onlyIf (a == 0 && decide (d.val < 15)) (.bc c d imm)
  | 0x27 => some (.j c (fieldOff26 w))
  | 0x28 => some (.call c (fieldOff26 w))
  | 0x29 => rFormat w (decodeJumpReg c w)
  | 0x2A => rFormat w (decodeAtomic c w)
  | 0x2B => onlyIf (ctlOk && a == 0) (.ctlr c d ctl)
  | 0x2C => onlyIf (ctlOk && d == 0) (decodeCtlw c ctl a)
  | 0x2D => rFormat w (decodeSystem c w)
  | 0x2E => rFormat w (decodeBeat c w)
  | _ => none

/-! ### Encoding -/

/-- A word in the R, I, U or J format (R105). -/
def wordR (op d a b : Nat) (f : Bool) (fn : Nat) : Word :=
  BitVec.ofNat 32 (op * 2 ^ 26 + d * 2 ^ 22 + a * 2 ^ 18 + b * 2 ^ 14 + f.toNat * 2 ^ 13 + fn)
def wordI (op d a imm : Nat) : Word := BitVec.ofNat 32 (op * 2 ^ 26 + d * 2 ^ 22 + a * 2 ^ 18 + imm)
def wordU (op d imm : Nat) : Word := BitVec.ofNat 32 (op * 2 ^ 26 + d * 2 ^ 22 + imm)
def wordJ (op off : Nat) : Word := BitVec.ofNat 32 (op * 2 ^ 26 + off)

/-- The core and the word of a command that is an instruction; none for the other commands. -/
def encodeRyux (i : Instr) : Option (CoreId × Word) :=
  match i with
  | .add c d a b f => some (c, wordR 1 d.val a.val b.val f 0)
  | .sub c d a b f => some (c, wordR 1 d.val a.val b.val f 1)
  | .adc c d a b f => some (c, wordR 1 d.val a.val b.val f 2)
  | .sbc c d a b f => some (c, wordR 1 d.val a.val b.val f 3)
  | .andR c d a b f => some (c, wordR 1 d.val a.val b.val f 4)
  | .orR c d a b f => some (c, wordR 1 d.val a.val b.val f 5)
  | .xorR c d a b f => some (c, wordR 1 d.val a.val b.val f 6)
  | .andn c d a b f => some (c, wordR 1 d.val a.val b.val f 7)
  | .shl c d a b f => some (c, wordR 1 d.val a.val b.val f 8)
  | .shr c d a b f => some (c, wordR 1 d.val a.val b.val f 9)
  | .sar c d a b f => some (c, wordR 1 d.val a.val b.val f 10)
  | .ror c d a b f => some (c, wordR 1 d.val a.val b.val f 11)
  | .slt c d a b => some (c, wordR 1 d.val a.val b.val false 12)
  | .sltu c d a b => some (c, wordR 1 d.val a.val b.val false 13)
  | .min c d a b => some (c, wordR 1 d.val a.val b.val false 14)
  | .max c d a b => some (c, wordR 1 d.val a.val b.val false 15)
  | .minu c d a b => some (c, wordR 1 d.val a.val b.val false 16)
  | .maxu c d a b => some (c, wordR 1 d.val a.val b.val false 17)
  | .adds c d a b => some (c, wordR 1 d.val a.val b.val false 18)
  | .subs c d a b => some (c, wordR 1 d.val a.val b.val false 19)
  | .addus c d a b => some (c, wordR 1 d.val a.val b.val false 20)
  | .subus c d a b => some (c, wordR 1 d.val a.val b.val false 21)
  | .clz c d a => some (c, wordR 1 d.val a.val 0 false 22)
  | .cmp c a b => some (c, wordR 1 0 a.val b.val false 23)
  | .padd c d a b => some (c, wordR 2 d.val a.val b.val false 0)
  | .psub c d a b => some (c, wordR 2 d.val a.val b.val false 1)
  | .padds c d a b => some (c, wordR 2 d.val a.val b.val false 2)
  | .psubs c d a b => some (c, wordR 2 d.val a.val b.val false 3)
  | .paddus c d a b => some (c, wordR 2 d.val a.val b.val false 4)
  | .psubus c d a b => some (c, wordR 2 d.val a.val b.val false 5)
  | .pmulq c d a b => some (c, wordR 2 d.val a.val b.val false 6)
  | .pdot c d a b => some (c, wordR 2 d.val a.val b.val false 7)
  | .mul c d a b => some (c, wordR 3 d.val a.val b.val false 0)
  | .mulh c d a b => some (c, wordR 3 d.val a.val b.val false 1)
  | .mulhu c d a b => some (c, wordR 3 d.val a.val b.val false 2)
  | .mac c d a b => some (c, wordR 3 d.val a.val b.val false 3)
  | .div c d a b => some (c, wordR 3 d.val a.val b.val false 4)
  | .divu c d a b => some (c, wordR 3 d.val a.val b.val false 5)
  | .rem c d a b => some (c, wordR 3 d.val a.val b.val false 6)
  | .remu c d a b => some (c, wordR 3 d.val a.val b.val false 7)
  | .addi c d a imm => some (c, wordI 4 d.val a.val imm.toNat)
  | .slti c d a imm => some (c, wordI 5 d.val a.val imm.toNat)
  | .sltiu c d a imm => some (c, wordI 6 d.val a.val imm.toNat)
  | .andi c d a imm => some (c, wordI 7 d.val a.val imm.toNat)
  | .ori c d a imm => some (c, wordI 8 d.val a.val imm.toNat)
  | .xori c d a imm => some (c, wordI 9 d.val a.val imm.toNat)
  | .shli c d a n => some (c, wordI 10 d.val a.val n.val)
  | .shri c d a n => some (c, wordI 11 d.val a.val n.val)
  | .sari c d a n => some (c, wordI 12 d.val a.val n.val)
  | .cmpi c a imm => some (c, wordI 13 0 a.val imm.toNat)
  | .li c d imm => some (c, wordU 14 d.val imm.toNat)
  | .lui c d imm => some (c, wordU 15 d.val imm.toNat)
  | .ldb c d a imm => some (c, wordI 16 d.val a.val imm.toNat)
  | .ldbu c d a imm => some (c, wordI 17 d.val a.val imm.toNat)
  | .ldh c d a imm => some (c, wordI 18 d.val a.val imm.toNat)
  | .ldhu c d a imm => some (c, wordI 19 d.val a.val imm.toNat)
  | .ldw c d a imm => some (c, wordI 20 d.val a.val imm.toNat)
  | .stb c d a imm => some (c, wordI 21 d.val a.val imm.toNat)
  | .sth c d a imm => some (c, wordI 22 d.val a.val imm.toNat)
  | .stw c d a imm => some (c, wordI 23 d.val a.val imm.toNat)
  | .ldbp c d a imm => some (c, wordI 24 d.val a.val imm.toNat)
  | .ldbup c d a imm => some (c, wordI 25 d.val a.val imm.toNat)
  | .ldhp c d a imm => some (c, wordI 26 d.val a.val imm.toNat)
  | .ldhup c d a imm => some (c, wordI 27 d.val a.val imm.toNat)
  | .ldwp c d a imm => some (c, wordI 28 d.val a.val imm.toNat)
  | .stbp c d a imm => some (c, wordI 29 d.val a.val imm.toNat)
  | .sthp c d a imm => some (c, wordI 30 d.val a.val imm.toNat)
  | .stwp c d a imm => some (c, wordI 31 d.val a.val imm.toNat)
  | .beq c d a imm => some (c, wordI 32 d.val a.val imm.toNat)
  | .bne c d a imm => some (c, wordI 33 d.val a.val imm.toNat)
  | .blt c d a imm => some (c, wordI 34 d.val a.val imm.toNat)
  | .bge c d a imm => some (c, wordI 35 d.val a.val imm.toNat)
  | .bltu c d a imm => some (c, wordI 36 d.val a.val imm.toNat)
  | .bgeu c d a imm => some (c, wordI 37 d.val a.val imm.toNat)
  | .bc c cond imm => some (c, wordI 0x26 cond.val 0 imm.toNat)
  | .j c off => some (c, wordJ 0x27 off.toNat)
  | .call c off => some (c, wordJ 0x28 off.toNat)
  | .jr c a => some (c, wordR 0x29 0 a.val 0 false 0)
  | .callr c a => some (c, wordR 0x29 0 a.val 0 false 1)
  | .ldx c d a => some (c, wordR 0x2A d.val a.val 0 false 0)
  | .stc c d b a => some (c, wordR 0x2A d.val a.val b.val false 1)
  | .ctlr c d n => some (c, wordI 0x2B d.val 0 n.val)
  | .ctlw c n a => some (c, wordI 0x2C 0 a.val n.val)
  | .icinv c a => some (c, wordI 0x2C 0 a.val 16)
  | .dcclean c a => some (c, wordI 0x2C 0 a.val 17)
  | .dcclinv c a => some (c, wordI 0x2C 0 a.val 18)
  | .dcinv c a => some (c, wordI 0x2C 0 a.val 19)
  | .icinvall c a => some (c, wordI 0x2C 0 a.val 20)
  | .dcclinvall c a => some (c, wordI 0x2C 0 a.val 21)
  | .dcinvall c a => some (c, wordI 0x2C 0 a.val 22)
  | .eret c => some (c, wordR 0x2D 0 0 0 false 0)
  | .brk c => some (c, wordR 0x2D 0 0 0 false 1)
  | .trap c n => some (c, wordR 0x2D 0 0 n.val false 2)
  | .fence c => some (c, wordR 0x2D 0 0 0 false 3)
  | .idle c => some (c, wordR 0x2D 0 0 0 false 4)
  | .take c d => some (c, wordR 0x2E d.val 0 0 false 0)
  | .slot c d => some (c, wordR 0x2E d.val 0 0 false 1)
  | .done c d _ => some (c, wordR 0x2E d.val 0 0 false 2)
  | .post c d a b _ => some (c, wordR 0x2E d.val a.val b.val false 3)
  | .wbeat c d => some (c, wordR 0x2E d.val 0 0 false 4)
  | .wbeatn c d a => some (c, wordR 0x2E d.val a.val 0 false 5)
  | _ => none

/-- The instruction without what its word does not carry: the choices of DONE and POST. -/
def Instr.dropPick (i : Instr) : Instr :=
  match i with
  | .done c d _ => .done c d 0
  | .post c d a b _ => .post c d a b 0
  | other => other

end Sys2Proof
end

