-- ==== Sys2Proof/Machine/Bits.lean ====
section
/-! DEFINITION. Bit-field, sign-extension and byte-order helpers, and the canonical sparse map that
holds registers and memory. -/

namespace Sys2Proof.Machine

/-- The field of `len` bits at bit `lo` of a word, as a number (spec/00 Numbers, units and layouts). -/
def fieldOf (w : Word) (lo len : Nat) : Nat := (w.toNat >>> lo) % 2 ^ len

/-- Bit `n` of a word. -/
def bitOf (w : Word) (n : Nat) : Bool := w.getLsbD n

/-- `w` with the field of `len` bits at bit `lo` replaced by `v` (its low `len` bits). -/
def withField (w : Word) (lo len v : Nat) : Word :=
  (w &&& ~~~(BitVec.ofNat 32 ((2 ^ len - 1) <<< lo))) ||| BitVec.ofNat 32 ((v % 2 ^ len) <<< lo)

/-- `w` with bit `n` set to `b`. -/
def withBit (w : Word) (n : Nat) (b : Bool) : Word := withField w n 1 (if b then 1 else 0)

/-- A word with the one bit `n` set. -/
def bit32 (n : Nat) : Word := BitVec.ofNat 32 (2 ^ n)

/-- A number as a word, modulo 2^32. -/
def w32 (n : Nat) : Word := BitVec.ofNat 32 n

/-- An integer as a word, modulo 2^32. -/
def w32i (i : Int) : Word := BitVec.ofInt 32 i

/-- The number of `len` bits read as a two's-complement integer. -/
def signed (len v : Nat) : Int :=
  if v % 2 ^ len < 2 ^ (len - 1) then ((v % 2 ^ len : Nat) : Int) else ((v % 2 ^ len : Nat) : Int) - (2 ^ len : Nat)

/-- Clamp an integer between two bounds. -/
def clampI (lo hi x : Int) : Int := if x < lo then lo else if hi < x then hi else x

/-- Saturating increment of a counter of R40: stops at 0xFFFF_FFFF. -/
def satInc (w : Word) (n : Nat) : Word := BitVec.ofNat 32 (min 0xFFFFFFFF (w.toNat + n))

/-- The bits set in a word, lowest first, below `n`. -/
def bitsSet (w : Word) (n : Nat) : List Nat := (List.range n).filter (fun i => bitOf w i)

/-- A word with exactly the listed bits set. -/
def wordOfBits (l : List Nat) : Word := l.foldl (fun w i => w ||| bit32 i) 0

/-- Little-endian bytes of a number (R6), lowest address first. -/
def leBytes (n v : Nat) : List Byte := (List.range n).map (fun i => BitVec.ofNat 8 (v >>> (8 * i)))

/-- A number from its little-endian bytes (R6). -/
def ofLe (l : List Byte) : Nat := l.foldr (fun b acc => b.toNat + 256 * acc) 0

/-- A number from its big-endian bytes (R6: network byte order). -/
def ofBe (l : List Byte) : Nat := l.foldl (fun acc b => acc * 256 + b.toNat) 0

/-- Big-endian bytes of a number. -/
def beBytes (n v : Nat) : List Byte := (leBytes n v).reverse

/-- Sign-extend the low `n` bits of a word. -/
def sext (n : Nat) (w : Word) : Word := w32i (signed n w.toNat)

/-- One byte into the CRC-32 register of IEEE 802.3, reflected (R242). -/
def crcByte (c b : Nat) : Nat :=
  (List.range 8).foldl (fun c _ => if c % 2 = 1 then c / 2 ^^^ 0xEDB88320 else c / 2) (c ^^^ b)

/-- CRC-32 over bytes (R242): initial value and final XOR all ones. -/
def crc32 (l : List Nat) : Nat := l.foldl crcByte 0xFFFFFFFF ^^^ 0xFFFFFFFF

/-- Lookup in a sparse map whose unlisted keys hold `dflt`. -/
def smGet {α : Type} (dflt : Nat → α) : List (Nat × α) → Nat → α
  | [], k => dflt k
  | (j, v) :: m, k => if k = j then v else smGet dflt m k

/-- Remove key `k`. -/
def smErase {α : Type} : List (Nat × α) → Nat → List (Nat × α)
  | [], _ => []
  | (j, v) :: m, k => if k = j then smErase m k else (j, v) :: smErase m k

/-- Insert or replace key `k`, keeping the keys strictly rising. -/
def smPut {α : Type} : List (Nat × α) → Nat → α → List (Nat × α)
  | [], k, x => [(k, x)]
  | (j, v) :: m, k, x =>
    if k < j then (k, x) :: (j, v) :: m
    else if k = j then (k, x) :: m
    else (j, v) :: smPut m k x

/-- Store in canonical form: writing what an unlisted key reads as removes the entry. -/
def smSet {α : Type} [DecidableEq α] (dflt : Nat → α) (m : List (Nat × α)) (k : Nat) (x : α) : List (Nat × α) :=
  if x = dflt k then smErase m k else smPut m k x

/-- Keys strictly rising, all above `lo` where one is given, and no entry equal to its default. -/
def smWfFrom {α : Type} [DecidableEq α] (dflt : Nat → α) : Option Nat → List (Nat × α) → Bool
  | _, [] => true
  | lo, (j, v) :: m =>
    (match lo with | none => true | some l => decide (l < j)) && decide (v ≠ dflt j) && smWfFrom dflt (some j) m

/-- The canonical form of a sparse map. -/
def smWf {α : Type} [DecidableEq α] (dflt : Nat → α) (m : List (Nat × α)) : Bool := smWfFrom dflt none m

/-- Insert into a list sorted by `le`, after the entries that it does not precede. -/
def insertBy {α : Type} (le : α → α → Bool) (x : α) : List α → List α
  | [] => [x]
  | y :: l => if le y x then y :: insertBy le x l else x :: y :: l

/-- Sort by `le`, keeping the order of equal entries. -/
def sortBy {α : Type} (le : α → α → Bool) (l : List α) : List α := l.foldl (fun m x => insertBy le x m) []

/-- Division of integers rounded to nearest, halves upwards (R389: "rounded to nearest"). -/
def divNear (x : Int) (d : Nat) : Int := (2 * x + d) / (2 * d : Nat)

/-- A fraction; the denominator is never 0. -/
structure Frac where
  num : Int
  den : Nat
deriving DecidableEq, Repr

/-- A fraction in lowest terms. -/
def mkFrac (n : Int) (d : Nat) : Frac :=
  let g := max 1 (Nat.gcd n.natAbs d)
  { num := n / (g : Int), den := max 1 (d / g) }

def Frac.zero : Frac := { num := 0, den := 1 }
def Frac.one : Frac := { num := 1, den := 1 }
def Frac.add (a b : Frac) : Frac := mkFrac (a.num * b.den + b.num * a.den) (a.den * b.den)
def Frac.sub (a b : Frac) : Frac := mkFrac (a.num * b.den - b.num * a.den) (a.den * b.den)
def Frac.mul (a b : Frac) : Frac := mkFrac (a.num * b.num) (a.den * b.den)
def Frac.le (a b : Frac) : Bool := decide (a.num * b.den ≤ b.num * a.den)
def Frac.min (a b : Frac) : Frac := if a.le b then a else b
def Frac.max (a b : Frac) : Frac := if a.le b then b else a

/-- An integer times a fraction, rounded to nearest. -/
def Frac.scale (a : Frac) (x : Int) : Int := divNear (x * a.num) a.den

/-- Drop every entry whose key satisfies `p` (a block reset: the keys read as their defaults again). -/
def smDrop {α : Type} (p : Nat → Bool) (m : List (Nat × α)) : List (Nat × α) := m.filter (fun e => !p e.1)

/-- The quotient rounded up. -/
def ceilDiv (a b : Nat) : Nat := (a + b - 1) / max 1 b

end Sys2Proof.Machine
end

