-- ==== Sys2Proof/Machine/Crypto.lean ====
section
/-! DEFINITION. The algorithms that spec/08 R231 names: SHA-256 (FIPS 180-4), AES (FIPS 197) in CBC, CTR and GCM,
and ECDSA on P-256 (FIPS 186-4). Byte strings are lists of numbers below 256. -/

namespace Sys2Proof.Machine

/-! ### SHA-256 -/

/-- The round constants. -/
def shaK : List Word :=
  [0x428A2F98, 0x71374491, 0xB5C0FBCF, 0xE9B5DBA5, 0x3956C25B, 0x59F111F1, 0x923F82A4, 0xAB1C5ED5] ++
  [0xD807AA98, 0x12835B01, 0x243185BE, 0x550C7DC3, 0x72BE5D74, 0x80DEB1FE, 0x9BDC06A7, 0xC19BF174] ++
  [0xE49B69C1, 0xEFBE4786, 0x0FC19DC6, 0x240CA1CC, 0x2DE92C6F, 0x4A7484AA, 0x5CB0A9DC, 0x76F988DA] ++
  [0x983E5152, 0xA831C66D, 0xB00327C8, 0xBF597FC7, 0xC6E00BF3, 0xD5A79147, 0x06CA6351, 0x14292967] ++
  [0x27B70A85, 0x2E1B2138, 0x4D2C6DFC, 0x53380D13, 0x650A7354, 0x766A0ABB, 0x81C2C92E, 0x92722C85] ++
  [0xA2BFE8A1, 0xA81A664B, 0xC24B8B70, 0xC76C51A3, 0xD192E819, 0xD6990624, 0xF40E3585, 0x106AA070] ++
  [0x19A4C116, 0x1E376C08, 0x2748774C, 0x34B0BCB5, 0x391C0CB3, 0x4ED8AA4A, 0x5B9CCA4F, 0x682E6FF3] ++
  [0x748F82EE, 0x78A5636F, 0x84C87814, 0x8CC70208, 0x90BEFFFA, 0xA4506CEB, 0xBEF9A3F7, 0xC67178F2]

/-- The initial hash value. -/
def shaInit : List Word := [0x6A09E667, 0xBB67AE85, 0x3C6EF372, 0xA54FF53A, 0x510E527F, 0x9B05688C, 0x1F83D9AB, 0x5BE0CD19]

/-- Rotate a word right. -/
def rotr (w : Word) (n : Nat) : Word := (w >>> n) ||| (w <<< (32 - n))

/-- The message schedule of a block of 16 words. -/
def shaSchedule (block : List Word) : List Word :=
  (List.range 48).foldl (fun w i =>
    let a := w.getD (i + 1) 0
    let b := w.getD (i + 14) 0
    let s0 := rotr a 7 ^^^ rotr a 18 ^^^ (a >>> 3)
    let s1 := rotr b 17 ^^^ rotr b 19 ^^^ (b >>> 10)
    w ++ [w.getD i 0 + s0 + w.getD (i + 9) 0 + s1]) block

/-- The eight working variables. -/
structure ShaVars where
  a : Word
  b : Word
  c : Word
  d : Word
  e : Word
  f : Word
  g : Word
  h : Word
deriving DecidableEq, Repr

/-- One round, with its constant and schedule word added. -/
def shaRound (v : ShaVars) (kw : Word) : ShaVars :=
  let t1 := v.h + (rotr v.e 6 ^^^ rotr v.e 11 ^^^ rotr v.e 25) + ((v.e &&& v.f) ^^^ (~~~v.e &&& v.g)) + kw
  let t2 := (rotr v.a 2 ^^^ rotr v.a 13 ^^^ rotr v.a 22) + ((v.a &&& v.b) ^^^ (v.a &&& v.c) ^^^ (v.b &&& v.c))
  { a := t1 + t2, b := v.a, c := v.b, d := v.c, e := v.d + t1, f := v.e, g := v.f, h := v.g }

/-- Compress one block into a hash value of eight words. -/
def shaBlock (hash block : List Word) : List Word :=
  let at_ := fun (n : Nat) => hash.getD n 0
  let v0 : ShaVars := { a := at_ 0, b := at_ 1, c := at_ 2, d := at_ 3, e := at_ 4, f := at_ 5, g := at_ 6, h := at_ 7 }
  let v := ((shaSchedule block).zip shaK).foldl (fun v wk => shaRound v (wk.1 + wk.2)) v0
  [at_ 0 + v.a, at_ 1 + v.b, at_ 2 + v.c, at_ 3 + v.d, at_ 4 + v.e, at_ 5 + v.f, at_ 6 + v.g, at_ 7 + v.h]

/-- Big-endian words of a byte string, `n` of them. -/
def wordsBe (l : List Nat) (n : Nat) : List Word :=
  (List.range n).map (fun i => w32 ((List.range 4).foldl (fun acc j => acc * 256 + l.getD (4 * i + j) 0) 0))

/-- Compress `n` blocks of a byte string. -/
def shaBlocks : List Word → List Nat → Nat → List Word
  | hash, _, 0 => hash
  | hash, l, n + 1 => shaBlocks (shaBlock hash (wordsBe l 16)) (l.drop 64) n

/-- The padding of a message of `total` bytes. -/
def shaPad (total : Nat) : List Nat :=
  let zeros := (119 - total % 64) % 64
  0x80 :: List.replicate zeros 0 ++ (List.range 8).map (fun i => total * 8 / 256 ^ (7 - i) % 256)

/-! ### AES -/

/-- Product in GF(2^8). -/
def gfMul (a b : Nat) : Nat :=
  ((List.range 8).foldl (fun (p : Nat × Nat) i =>
    let acc := if b.testBit i then p.1 ^^^ p.2 else p.1
    let d := p.2 * 2
    (acc, if 256 ≤ d then d ^^^ 0x11B else d)) (0, a)).1

/-- Inverse in GF(2^8), 0 for 0. -/
def gfInv (a : Nat) : Nat :=
  let sq := gfMul a a
  let p4 := gfMul sq sq
  let p8 := gfMul p4 p4
  let p16 := gfMul p8 p8
  let p32 := gfMul p16 p16
  let p64 := gfMul p32 p32
  let p128 := gfMul p64 p64
  gfMul p128 (gfMul p64 (gfMul p32 (gfMul p16 (gfMul p8 (gfMul p4 sq)))))

/-- Rotate a byte left. -/
def rotByte (a n : Nat) : Nat := (a * 2 ^ n + a / 2 ^ (8 - n)) % 256

/-- The substitution of a byte. -/
def aesSub (a : Nat) : Nat :=
  let b := gfInv a
  b ^^^ rotByte b 1 ^^^ rotByte b 2 ^^^ rotByte b 3 ^^^ rotByte b 4 ^^^ 0x63

/-- The inverse substitution of a byte. -/
def aesUnsub (a : Nat) : Nat := gfInv (rotByte a 1 ^^^ rotByte a 3 ^^^ rotByte a 6 ^^^ 0x05)

/-- Exclusive or of byte strings. -/
def xorBytes (a b : List Nat) : List Nat := (a.zip b).map (fun p => p.1 ^^^ p.2)

/-- The key schedule: `nk` words of key, `4 × (nk + 7)` words in all, each a list of four bytes. -/
def aesKeys (key : List Nat) (nk : Nat) : List (List Nat) :=
  let first := (List.range nk).map (fun i => (key.drop (4 * i)).take 4)
  ((List.range (4 * (nk + 7) - nk)).foldl (fun (p : List (List Nat) × Nat) k =>
    let i := k + nk
    let prev := p.1.getD (i - 1) []
    let rot := match prev with
      | b :: l => l ++ [b]
      | [] => []
    let t := if i % nk = 0 then xorBytes (rot.map aesSub) [p.2, 0, 0, 0]
      else if 6 < nk ∧ i % nk = 4 then prev.map aesSub else prev
    (p.1 ++ [xorBytes (p.1.getD (i - nk) []) t], if i % nk = 0 then gfMul p.2 2 else p.2)) (first, 1)).1

/-- Round key `r`. -/
def roundKey (keys : List (List Nat)) (r : Nat) : List Nat := ((keys.drop (4 * r)).take 4).flatten

/-- Move the rows of the state: byte (row, col) comes from column `col + k × row`. -/
def aesShift (s : List Nat) (k : Nat) : List Nat :=
  (List.range 16).map (fun n => s.getD ((n / 4 + k * (n % 4)) % 4 * 4 + n % 4) 0)

/-- Mix the columns with the four coefficients of the first row. -/
def aesMix (s : List Nat) (c : List Nat) : List Nat :=
  (List.range 16).map (fun n =>
    (List.range 4).foldl (fun acc j => acc ^^^ gfMul (c.getD ((j + 4 - n % 4) % 4) 0) (s.getD (n / 4 * 4 + j) 0)) 0)

/-- Encrypt a block of 16 bytes. -/
def aesEnc (keys : List (List Nat)) (nk : Nat) (block : List Nat) : List Nat :=
  let rounds := nk + 6
  let mid := (List.range (rounds - 1)).foldl (fun s r =>
    xorBytes (aesMix (aesShift (s.map aesSub) 1) [2, 3, 1, 1]) (roundKey keys (r + 1))) (xorBytes block (roundKey keys 0))
  xorBytes (aesShift (mid.map aesSub) 1) (roundKey keys rounds)

/-- Decrypt a block of 16 bytes. -/
def aesDec (keys : List (List Nat)) (nk : Nat) (block : List Nat) : List Nat :=
  let rounds := nk + 6
  let mid := (List.range (rounds - 1)).foldl (fun s r =>
    aesMix (xorBytes ((aesShift s 3).map aesUnsub) (roundKey keys (rounds - 1 - r))) [14, 11, 13, 9])
    (xorBytes block (roundKey keys rounds))
  xorBytes ((aesShift mid 3).map aesUnsub) (roundKey keys 0)

/-- `n` bytes of a number, most significant first. -/
def natBytes (n v : Nat) : List Nat := (List.range n).map (fun i => v / 256 ^ (n - 1 - i) % 256)

/-- A number from bytes, most significant first. -/
def bytesNat (l : List Nat) : Nat := l.foldl (fun acc b => acc * 256 + b) 0

/-- CBC over `n` blocks: the output bytes and the last ciphertext block. -/
def aesCbc (keys : List (List Nat)) (nk : Nat) (dec : Bool) : List Nat → List Nat → Nat → List Nat × List Nat
  | iv, _, 0 => ([], iv)
  | iv, l, n + 1 =>
    let b := l.take 16
    let o := if dec then xorBytes (aesDec keys nk b) iv else aesEnc keys nk (xorBytes b iv)
    let r := aesCbc keys nk dec (if dec then b else o) (l.drop 16) n
    (o ++ r.1, r.2)

/-- CTR over `n` blocks, the last of which may be short, from a counter whose low `w` bits count. -/
def aesCtr (keys : List (List Nat)) (nk w : Nat) : Nat → List Nat → Nat → List Nat
  | _, _, 0 => []
  | c, l, n + 1 =>
    let next := c / 2 ^ w * 2 ^ w + (c + 1) % 2 ^ w
    xorBytes (l.take 16) (aesEnc keys nk (natBytes 16 c)) ++ aesCtr keys nk w next (l.drop 16) n

/-- Product of GHASH in GF(2^128). -/
def ghMul (x y : Nat) : Nat :=
  ((List.range 128).foldl (fun (p : Nat × Nat) i =>
    (if x.testBit (127 - i) then p.1 ^^^ p.2 else p.1,
     if p.2.testBit 0 then (p.2 / 2) ^^^ (0xE1 * 2 ^ 120) else p.2 / 2)) (0, y)).1

/-- GHASH of a byte string padded with zeros to `n` blocks. -/
def ghash (h : Nat) : Nat → List Nat → Nat → Nat
  | acc, _, 0 => acc
  | acc, l, n + 1 =>
    let b := bytesNat ((l.take 16) ++ List.replicate (16 - (l.take 16).length) 0)
    ghash h (ghMul (acc ^^^ b) h) (l.drop 16) n

/-- The tag of GCM over additional data and ciphertext, with a 96-bit IV. -/
def gcmTag (keys : List (List Nat)) (nk iv : Nat) (aad ct : List Nat) : Nat :=
  let h := bytesNat (aesEnc keys nk (List.replicate 16 0))
  let x := ghash h (ghash h 0 aad ((aad.length + 15) / 16)) ct ((ct.length + 15) / 16)
  let y := ghMul (x ^^^ (aad.length * 8 * 2 ^ 64 + ct.length * 8)) h
  y ^^^ bytesNat (aesEnc keys nk (natBytes 16 (iv * 2 ^ 32 + 1)))

/-! ### P-256 -/

/-- The field prime, the order, the coefficient b and the base point of P-256. -/
def p256p : Nat := 0xFFFFFFFF00000001000000000000000000000000FFFFFFFFFFFFFFFFFFFFFFFF
def p256n : Nat := 0xFFFFFFFF00000000FFFFFFFFFFFFFFFFBCE6FAADA7179E84F3B9CAC2FC632551
def p256b : Nat := 0x5AC635D8AA3A93E7B3EBBD55769886BC651D06B0CC53B0F63BCE3C3E27D2604B
def p256g : Option (Nat × Nat) := some (0x6B17D1F2E12C4247F8BCE6E563A440F277037D812DEB33A0F4A13945D898C296,
  0x4FE342E2FE1A7F9B8EE7EB4A7C0F9E162BCE33576B315ECECBB6406837BF51F5)

/-- Power modulo `m`, for exponents of 256 bits. -/
def powMod (a e m : Nat) : Nat :=
  (List.range 256).foldl (fun r i =>
    let sq := r * r % m
    if e.testBit (255 - i) then sq * a % m else sq) 1

/-- Inverse modulo a prime. -/
def invMod (a m : Nat) : Nat := powMod (a % m) (m - 2) m

/-- Sum of points of P-256; none is the point at infinity. -/
def ecAdd (p q : Option (Nat × Nat)) : Option (Nat × Nat) :=
  match p, q with
  | none, _ => q
  | _, none => p
  | some (x1, y1), some (x2, y2) =>
    let m := p256p
    if x1 = x2 ∧ (y1 + y2) % m = 0 then none
    else
      let l := if x1 = x2 then (3 * x1 * x1 + (m - 3)) * invMod (2 * y1) m % m
        else (y2 + (m - y1)) * invMod (x2 + (m - x1)) m % m
      let x3 := (l * l + (m - x1) + (m - x2)) % m
      some (x3, (l * (x1 + (m - x3)) + (m - y1)) % m)

/-- Scalar product. -/
def ecMul (k : Nat) (p : Option (Nat × Nat)) : Option (Nat × Nat) :=
  (List.range 256).foldl (fun r i =>
    let d := ecAdd r r
    if k.testBit (255 - i) then ecAdd d p else d) none

/-- The point (x, y) lies on P-256. -/
def onCurve (x y : Nat) : Bool :=
  decide (x < p256p ∧ y < p256p) && y * y % p256p == (x * x * x + (p256p - 3) * x + p256b) % p256p

/-- The x coordinate of a point, 0 at infinity. -/
def ecX (p : Option (Nat × Nat)) : Nat :=
  match p with
  | some (x, _) => x
  | none => 0

/-- A signature (r, s) of hash `e` under private key `d` with nonce `k`. -/
def ecSign (e d k : Nat) : Nat × Nat :=
  let r := ecX (ecMul k p256g) % p256n
  (r, invMod k p256n * (e + r * d) % p256n)

/-- Verification of a signature of hash `e` under the public key `q`. -/
def ecVerify (e r s : Nat) (q : Option (Nat × Nat)) : Bool :=
  decide (1 ≤ r ∧ r < p256n ∧ 1 ≤ s ∧ s < p256n) &&
  let w := invMod s p256n
  let pt := ecAdd (ecMul (e * w % p256n) p256g) (ecMul (r * w % p256n) q)
  pt.isSome && ecX pt % p256n == r

end Sys2Proof.Machine
end

