-- ==== Sys2Proof/Config.lean ====
section
/-! DEFINITION. What one manufactured part or one implementation fixes and the spec leaves open:
opaque constants, so that no proof can rest on a value of them. Log entries name each of them
(notes/assumptions). -/

namespace Sys2Proof.Config

/-- The supply of free values: the `n`-th value drawn where the spec leaves a value open. The model
applies it to the counter `State.drawn`, which every draw advances (log entry 2). -/
opaque freeNat : Nat → Nat

/-- Contents of the boot ROM, which the spec does not print (log entry 3). -/
opaque romByte : Nat → Byte

/-- `LNK_UID` of this die, "Per die" in spec/10_vehicle_link.md (log entry 4). -/
opaque dieUid : BitVec 64

/-- `ADC_TCAL` of this die, "Per die" in spec/17_timers_and_adc.md (log entry 4). -/
opaque tcal : Word

/-- `SYS_ID.STEP`: true for stepping A1, false for A0 (spec/01_architecture.md; log entry 4). -/
opaque stepA1 : Bool

/-- The bytes that pad a short frame of the vehicle link to the minimum size (spec/10 R283; log entry 13). -/
opaque padByte : Nat → Byte

/-- Red, green and blue that the LVDS links carry while DE is inactive (spec/12 R343; log entry 35). -/
opaque lvdsBlank : BitVec 24

/-- Whether a blanking period of so many pixel clocks is long enough for DSI lanes to return to LP-11 (spec/12 R344; log
entry 35). -/
opaque lpFits : Nat → Bool

/-- OUT_B_STAT.LINE in command mode, which has no vertical timing, from the line transferred (spec/12 R345; log entry 35). -/
opaque cmdLine : Nat → BitVec 13

/-- The voices' 8-tap windowed-sinc filter (spec/14 R391), which the spec bounds but does not print: the 24-bit sample that
phase `n` of its 256 phases makes of the eight taps (log entry 20). -/
opaque interp : Fin 256 → List Int → BitVec 24

/-- A tone generator's sample beyond the 24-bit range, which LEVEL above full scale asks for (spec/14 R389, R396; log entry
20). -/
opaque toneOver : Int → BitVec 24

/-- Where in its period waveform `w` (0 square, 1 triangle, 2 sine) starts at phase 0 (spec/14 R396; log entry 20). -/
opaque wavePhase : Nat → Nat

/-- Whether the sine table of the tone generators rounds an inexact entry up (spec/14 R396; log entry 20). -/
opaque sineUp : Nat → Bool

/-- The sign of the noise output for a state of the 23-bit register (spec/14 R396; log entry 20). -/
opaque noiseSign : Nat → Bool

/-- Whether the equaliser rounds an inexact value up (spec/14 R401; log entry 20). -/
opaque eqUp : Int → Bool

/-- The equaliser's 40-bit intermediate where the sum lies outside 40 bits (spec/14 R401; log entry 20). -/
opaque eqOver : Int → BitVec 40

/-- Whether the limiter's ceiling rounds an inexact level up (spec/14 R403; log entry 20). -/
opaque ceilUp : Nat → Bool

/-- Whether the ducker rounds an inexact attenuated sample up (spec/14 R402; log entry 20). -/
opaque attUp : Int → Bool

/-- Blocks of the fitted eMMC beyond the first 128 (spec/15 R428; log entry 21). -/
opaque emmcMore : Nat

/-- The capacity in blocks that the fitted eMMC reports: a card holds the smallest clip ring, of two segments of
64 blocks. -/
def emmcBlocks : Nat := emmcMore + 128

/-- A quantised DCT coefficient of a JPEG block: its 64 level-shifted samples, the coefficient in row order, and the
quantiser (spec/15 R419; log entry 21). -/
opaque dctCoef : List Int → Nat → Nat → Int

/-- The chroma sample of two horizontally adjacent RGB pixels (spec/15 R419; log entry 21). -/
opaque chromaPair : Nat → Nat → Nat

/-- Whether a JPEG stream's tables of one kind share one marker segment (spec/15 R419; log entry 21). -/
opaque jpegJoin : Bool

end Sys2Proof.Config
end

