-- ==== Sys2Proof/Machine/RegNames.lean ====
section
/-! DEFINITION. The address of every register, by its name in the spec (R7, R15): a block's base plus
the register's offset; an index selects a register of an array, `p`, `u` or `c` a block of a family. -/

namespace Sys2Proof.Machine

/-! ### SYS registers (spec/01_architecture.md) -/

abbrev SYS_ID : Nat := 0x40000000
abbrev SYS_CLKSTAT : Nat := 0x40000010
abbrev SYS_CLKEVT : Nat := 0x40000014
abbrev SYS_CLKEN : Nat := 0x40000020
abbrev SYS_CMDST : Nat := 0x40000030
abbrev SYS_REJECT : Nat := 0x40000034
abbrev SYS_FERR_ADDR : Nat := 0x40000040
abbrev SYS_FERR_INFO : Nat := 0x40000044
abbrev SYS_FERR_COUNT : Nat := 0x40000048
/-! ### SYS registers (spec/21_boot_power_reset.md) -/

abbrev PWR_STAT : Nat := 0x40000100
abbrev PWR_EVT : Nat := 0x40000104
abbrev PWR_CMD : Nat := 0x40000108
abbrev PWR_CMDST : Nat := 0x4000010C
abbrev PWR_REJECT : Nat := 0x40000110
abbrev PWR_CTL : Nat := 0x40000114
abbrev PWR_PFW : Nat := 0x40000118
abbrev PWR_SWRST : Nat := 0x4000011C
abbrev PWR_RSTCAUSE : Nat := 0x40000120
abbrev SYS_CENTRY (n : Nat) : Nat := 0x4000012C + 4 * n
abbrev SYS_CSTART : Nat := 0x40000140
abbrev SYS_CRUN : Nat := 0x40000144
/-! ### BEAT registers (spec/02_beat.md) -/

abbrev BEAT_CTRL : Nat := 0x40010000
abbrev BEAT_STAT : Nat := 0x40010004
abbrev BEAT_EVT : Nat := 0x40010008
abbrev BEAT_HOLDMAX : Nat := 0x4001000C
abbrev BEAT_COUNT_LO : Nat := 0x40010010
abbrev BEAT_COUNT_HI : Nat := 0x40010014
abbrev BEAT_PHASE : Nat := 0x40010018
abbrev BEAT_LAST : Nat := 0x4001001C
abbrev BEAT_GEN_NUM : Nat := 0x40010020
abbrev BEAT_GEN_DEN : Nat := 0x40010024
abbrev BEAT_OFFS : Nat := 0x40010028
abbrev BEAT_BRIMUSE : Nat := 0x4001002C
abbrev BEAT_CMDST : Nat := 0x40010030
abbrev BEAT_REJECT : Nat := 0x40010034
abbrev BEAT_OVRSTAT : Nat := 0x40010038
abbrev BEAT_DLINE (k : Nat) : Nat := 0x40010080 + 4 * k
abbrev BEAT_MARK (m : Nat) : Nat := 0x400100C0 + 4 * m
abbrev CG_MEMBERS (n : Nat) : Nat := 0x40010100 + 0x20 * n
abbrev CG_ARMED (n : Nat) : Nat := 0x40010104 + 0x20 * n
abbrev CG_BEAT_LO (n : Nat) : Nat := 0x40010108 + 0x20 * n
abbrev CG_BEAT_HI (n : Nat) : Nat := 0x4001010C + 0x20 * n
abbrev CG_CTRL (n : Nat) : Nat := 0x40010110 + 0x20 * n
abbrev CG_STAT (n : Nat) : Nat := 0x40010114 + 0x20 * n
abbrev CG_MISSING (n : Nat) : Nat := 0x40010118 + 0x20 * n
/-! ### DIS registers (spec/05_dispatcher.md) -/

abbrev DIS_TICK : Nat := 0x40020000
abbrev DIS_STAT : Nat := 0x40020004
abbrev DIS_EVT : Nat := 0x40020008
abbrev DIS_ADMIT : Nat := 0x4002000C
abbrev DIS_LOWMARK : Nat := 0x40020010
abbrev DIS_CMD : Nat := 0x40020014
abbrev DIS_CMDST : Nat := 0x40020018
abbrev DIS_REJECT : Nat := 0x4002001C
abbrev DIS_NOSLOTCNT : Nat := 0x40020020
abbrev DIS_UNBOUND : Nat := 0x40020024
abbrev DIS_TIME_LO : Nat := 0x40020028
abbrev DIS_TIME_HI : Nat := 0x4002002C
abbrev DIS_RDYMAP : Nat := 0x40020030
abbrev DIS_DLYMAP : Nat := 0x40020034
abbrev DIS_CORE (n : Nat) : Nat := 0x40020040 + 4 * n
abbrev DIS_CSTAT (n : Nat) : Nat := 0x40020050 + 4 * n
abbrev DIS_SUCC_IDX (n : Nat) : Nat := 0x40020060 + 8 * n
abbrev DIS_SUCC_ARG (n : Nat) : Nat := 0x40020064 + 8 * n
abbrev DIS_DSEL : Nat := 0x40020100
abbrev DIS_DWIN (w : Nat) : Nat := 0x40020120 + 4 * w
abbrev DIS_BIND (k : Nat) : Nat := 0x40020200 + 4 * k
/-! ### ECX registers (spec/06_event_concentrator.md) -/

abbrev ECX_LOCK : Nat := 0x40030000
abbrev ECX_EVT : Nat := 0x40030008
abbrev ECX_CMDST : Nat := 0x4003000C
abbrev ECX_REJECT : Nat := 0x40030010
abbrev ECX_SWTRIG : Nat := 0x40030014
abbrev ECX_CLAIM : Nat := 0x40030100
abbrev ECX_DONE : Nat := 0x40030104
abbrev ECX_CLAIMST : Nat := 0x40030108
abbrev ECX_TCTL (t : Nat) : Nat := 0x40030200 + 0x20 * t
abbrev ECX_QBASE (t : Nat) : Nat := 0x40030204 + 0x20 * t
abbrev ECX_QWR (t : Nat) : Nat := 0x40030208 + 0x20 * t
abbrev ECX_QRD (t : Nat) : Nat := 0x4003020C + 0x20 * t
abbrev ECX_QSEQ (t : Nat) : Nat := 0x40030210 + 0x20 * t
abbrev ECX_TSTAT (t : Nat) : Nat := 0x40030214 + 0x20 * t
abbrev ECX_MASK (g : Nat) : Nat := 0x40030400 + 4 * g
abbrev ECX_PEND (g : Nat) : Nat := 0x40030480 + 4 * g
abbrev ECX_TYPE (g : Nat) : Nat := 0x40030500 + 4 * g
abbrev ECX_ACT (g : Nat) : Nat := 0x40030580 + 4 * g
abbrev ECX_LVL (g : Nat) : Nat := 0x40030600 + 4 * g
abbrev ECX_HOLD (g : Nat) : Nat := 0x40030700 + 4 * g
abbrev ECX_TGT (s : Nat) : Nat := 0x40031000 + 4 * s
/-! ### DMA registers (spec/07_memory_and_dma.md) -/

abbrev DMA_EVT : Nat := 0x40040000
abbrev DMA_CMDST : Nat := 0x40040004
abbrev DMA_REJECT : Nat := 0x40040008
abbrev DMA_RUNMAP : Nat := 0x4004000C
abbrev DMA_CH_CTRL (n : Nat) : Nat := 0x40040100 + 0x20 * n
abbrev DMA_CH_CFG (n : Nat) : Nat := 0x40040104 + 0x20 * n
abbrev DMA_CH_DESC (n : Nat) : Nat := 0x40040108 + 0x20 * n
abbrev DMA_CH_STAT (n : Nat) : Nat := 0x4004010C + 0x20 * n
abbrev DMA_CH_ERRADDR (n : Nat) : Nat := 0x40040110 + 0x20 * n
abbrev DMA_CH_LEFT (n : Nat) : Nat := 0x40040114 + 0x20 * n
abbrev DMA_CH_TMISS (n : Nat) : Nat := 0x40040118 + 0x20 * n
/-! ### MEM registers (spec/07_memory_and_dma.md) -/

abbrev MEM_CTRL : Nat := 0x40050000
abbrev MEM_SCRUB : Nat := 0x40050004
abbrev MEM_EVT : Nat := 0x40050008
abbrev MEM_CECNT : Nat := 0x4005000C
abbrev MEM_UECNT : Nat := 0x40050010
abbrev MEM_MCECNT : Nat := 0x40050014
abbrev MEM_ERR_ADDR : Nat := 0x40050018
abbrev MEM_ERR_INFO : Nat := 0x4005001C
abbrev MEM_REMAP (b : Nat) : Nat := 0x40050040 + 4 * b
abbrev MEM_HOLE (i : Nat) : Nat := 0x40050100 + 4 * i
/-! ### LDG registers (spec/09_ledger.md) -/

abbrev LDG_STAT : Nat := 0x40060000
abbrev LDG_EVT : Nat := 0x40060004
abbrev LDG_CMD : Nat := 0x40060008
abbrev LDG_CMDST : Nat := 0x4006000C
abbrev LDG_REJECT : Nat := 0x40060010
abbrev LDG_REFCNT : Nat := 0x40060014
abbrev LDG_HWM : Nat := 0x40060018
abbrev LDG_USED : Nat := 0x4006001C
abbrev LDG_LOSTHDR : Nat := 0x40060020
abbrev LDG_TERM : Nat := 0x40060024
abbrev LDG_GSEQ_LO : Nat := 0x40060028
abbrev LDG_GSEQ_HI : Nat := 0x4006002C
abbrev LDG_OSEQ_LO : Nat := 0x40060030
abbrev LDG_OSEQ_HI : Nat := 0x40060034
abbrev LDG_REL_LO : Nat := 0x40060038
abbrev LDG_REL_HI : Nat := 0x4006003C
abbrev LDG_STG (w : Nat) : Nat := 0x40060040 + 4 * w
abbrev LDG_PCRC : Nat := 0x40060058
abbrev LDG_PUT : Nat := 0x4006005C
abbrev LDG_PUTST : Nat := 0x40060060
abbrev LDG_PUTSEQ_LO : Nat := 0x40060064
abbrev LDG_PUTSEQ_HI : Nat := 0x40060068
abbrev LDG_TAT_LO : Nat := 0x40060080
abbrev LDG_TAT_HI : Nat := 0x40060084
abbrev LDG_TNEW : Nat := 0x40060088
abbrev LDG_EPOCH : Nat := 0x4006008C
abbrev LDG_IBASE_LO : Nat := 0x40060090
abbrev LDG_IBASE_HI : Nat := 0x40060094
abbrev LDG_IPERIOD : Nat := 0x40060098
abbrev LDG_INTERVAL : Nat := 0x4006009C
abbrev LDG_NEXTB_LO : Nat := 0x400600A0
abbrev LDG_NEXTB_HI : Nat := 0x400600A4
abbrev LDG_NEXTK : Nat := 0x400600A8
abbrev LDG_RESTR : Nat := 0x400600AC
abbrev LDG_TDEF_A (t : Nat) : Nat := 0x40060100 + 8 * t
abbrev LDG_TDEF_B (t : Nat) : Nat := 0x40060104 + 8 * t
abbrev LDG_TALLY_LO (t : Nat) : Nat := 0x40060400 + 8 * t
abbrev LDG_TALLY_HI (t : Nat) : Nat := 0x40060404 + 8 * t
abbrev LDG_SNAPSEQ_LO : Nat := 0x40060600
abbrev LDG_SNAPSEQ_HI : Nat := 0x40060604
abbrev LDG_TSAT_LO : Nat := 0x40060608
abbrev LDG_TSAT_HI : Nat := 0x4006060C
abbrev LDG_ORG_LO (d : Nat) : Nat := 0x40060800 + 8 * d
abbrev LDG_ORG_HI (d : Nat) : Nat := 0x40060804 + 8 * d
/-! ### LNK registers (spec/10_vehicle_link.md) -/

abbrev LNK_CFG : Nat := 0x40070000
abbrev LNK_ID : Nat := 0x40070004
abbrev LNK_ETYPE : Nat := 0x40070008
abbrev LNK_STAT : Nat := 0x4007000C
abbrev LNK_EVT : Nat := 0x40070010
abbrev LNK_CMD : Nat := 0x40070014
abbrev LNK_CMDST : Nat := 0x40070018
abbrev LNK_REJECT : Nat := 0x4007001C
abbrev LNK_DEPUTY : Nat := 0x40070020
abbrev LNK_FOTO : Nat := 0x40070024
abbrev LNK_DEADB : Nat := 0x40070028
abbrev LNK_TIME_LO : Nat := 0x40070030
abbrev LNK_TIME_HI : Nat := 0x40070034
abbrev LNK_ADMIT_LO : Nat := 0x40070038
abbrev LNK_ADMIT_HI : Nat := 0x4007003C
abbrev LNK_OBS_LO : Nat := 0x40070040
abbrev LNK_OBS_HI : Nat := 0x40070044
abbrev LNK_RACL_LO : Nat := 0x40070048
abbrev LNK_RACL_HI : Nat := 0x4007004C
abbrev LNK_RSTAUTH : Nat := 0x40070050
abbrev LNK_PLANCRC : Nat := 0x40070054
abbrev LNK_MPLANCRC : Nat := 0x40070058
abbrev LNK_WIN (k : Nat) : Nat := 0x40070060 + 4 * k
abbrev LNK_PORT (p : Nat) : Nat := 0x40070080 + 0x10 * p
abbrev LNK_PSTAT (p : Nat) : Nat := 0x40070084 + 0x10 * p
abbrev LNK_PERR (p : Nat) : Nat := 0x40070088 + 0x10 * p
abbrev LNK_PDELAY (p : Nat) : Nat := 0x4007008C + 0x10 * p
abbrev LNK_CRED (p : Nat) : Nat := 0x400700C0 + 4 * p
abbrev LNK_HELD (w : Nat) : Nat := 0x400700D0 + 4 * w
abbrev LNK_BOOTBASE : Nat := 0x40070100
abbrev LNK_BOOTLEN : Nat := 0x40070104
abbrev LNK_BOOTCTL : Nat := 0x40070108
abbrev LNK_QTX_BASE : Nat := 0x40070110
abbrev LNK_QTX_CTL : Nat := 0x40070114
abbrev LNK_QTX_WR : Nat := 0x40070118
abbrev LNK_QTX_RD : Nat := 0x4007011C
abbrev LNK_QRX_BASE : Nat := 0x40070120
abbrev LNK_QRX_CTL : Nat := 0x40070124
abbrev LNK_QRX_WR : Nat := 0x40070128
abbrev LNK_QRX_RD : Nat := 0x4007012C
abbrev LNK_RAWDROP : Nat := 0x40070130
abbrev LNK_IGN : Nat := 0x40070134
abbrev LNK_UID_LO : Nat := 0x40070140
abbrev LNK_UID_HI : Nat := 0x40070144
abbrev LNK_ANN_BEAT_LO (k : Nat) : Nat := 0x40070200 + 0x10 * k
abbrev LNK_ANN_BEAT_HI (k : Nat) : Nat := 0x40070204 + 0x10 * k
abbrev LNK_ANN_TAG (k : Nat) : Nat := 0x40070208 + 0x10 * k
abbrev LNK_ANN_CTL (k : Nat) : Nat := 0x4007020C + 0x10 * k
abbrev LNK_ASTR (k : Nat) : Nat := 0x40070300 + 4 * k
/-! ### RAS registers (spec/11_raster_engine.md) -/

abbrev RAS_CTRL (p : Nat) : Nat := 0x40080000 + 0x10000 * p
abbrev RAS_BGCOL (p : Nat) : Nat := 0x40080004 + 0x10000 * p
abbrev RAS_STAT (p : Nat) : Nat := 0x40080008 + 0x10000 * p
abbrev RAS_EVT (p : Nat) : Nat := 0x4008000C + 0x10000 * p
abbrev RAS_CMDST (p : Nat) : Nat := 0x40080010 + 0x10000 * p
abbrev RAS_REJECT (p : Nat) : Nat := 0x40080014 + 0x10000 * p
abbrev RAS_READY (p : Nat) : Nat := 0x40080018 + 0x10000 * p
abbrev RAS_UNREADY (p : Nat) : Nat := 0x4008001C + 0x10000 * p
abbrev RAS_LSTAT (p : Nat) : Nat := 0x40080020 + 0x10000 * p
abbrev RAS_LUNDER (p : Nat) : Nat := 0x40080024 + 0x10000 * p
abbrev RAS_SPOVFCNT (p : Nat) : Nat := 0x40080028 + 0x10000 * p
abbrev RAS_FERRCNT (p : Nat) : Nat := 0x4008002C + 0x10000 * p
abbrev LBUF_BACK (p l : Nat) : Nat := 0x40080040 + 0x10000 * p + 0x10 * l
abbrev LBUF_FRONT (p l : Nat) : Nat := 0x40080044 + 0x10000 * p + 0x10 * l
abbrev LBUF_CFG (p l : Nat) : Nat := 0x40080048 + 0x10000 * p + 0x10 * l
abbrev LBUF_FILL (p l : Nat) : Nat := 0x4008004C + 0x10000 * p + 0x10 * l
abbrev BG_CTL (p l : Nat) : Nat := 0x40080100 + 0x10000 * p + 0x20 * l
abbrev BG_CHR (p l : Nat) : Nat := 0x40080104 + 0x10000 * p + 0x20 * l
abbrev BG_SCROLL (p l : Nat) : Nat := 0x40080108 + 0x10000 * p + 0x20 * l
abbrev BG_CLIP (p l : Nat) : Nat := 0x4008010C + 0x10000 * p + 0x20 * l
abbrev BG3_XFA (p : Nat) : Nat := 0x40080170 + 0x10000 * p
abbrev BG3_XFB (p : Nat) : Nat := 0x40080174 + 0x10000 * p
abbrev BG3_ORGU (p : Nat) : Nat := 0x40080178 + 0x10000 * p
abbrev BG3_ORGV (p : Nat) : Nat := 0x4008017C + 0x10000 * p
abbrev BM_CTL (p : Nat) : Nat := 0x40080180 + 0x10000 * p
abbrev BM_SIZE (p : Nat) : Nat := 0x40080184 + 0x10000 * p
abbrev BM_POS (p : Nat) : Nat := 0x40080188 + 0x10000 * p
abbrev BM_PITCH (p : Nat) : Nat := 0x4008018C + 0x10000 * p
abbrev BM_CLIP (p : Nat) : Nat := 0x40080190 + 0x10000 * p
abbrev SP_CTL (p : Nat) : Nat := 0x400801A0 + 0x10000 * p
abbrev SP_CLIP (p : Nat) : Nat := 0x400801A4 + 0x10000 * p
abbrev BSQ_BASE (p : Nat) : Nat := 0x40080200 + 0x10000 * p
abbrev BSQ_CTL (p : Nat) : Nat := 0x40080204 + 0x10000 * p
abbrev BSQ_STAT (p : Nat) : Nat := 0x40080208 + 0x10000 * p
abbrev BSQ_PC (p : Nat) : Nat := 0x4008020C + 0x10000 * p
abbrev BSQ_B (p r : Nat) : Nat := 0x40080220 + 0x10000 * p + 4 * r
/-! ### OUT registers (spec/12_outputs_and_visor.md) -/

abbrev OUT_EVT : Nat := 0x400B0000
abbrev OUT_CMDST : Nat := 0x400B0004
abbrev OUT_REJECT : Nat := 0x400B0008
abbrev OUT_PCLK (k : Nat) : Nat := 0x400B0010 + 4 * k
abbrev OUT_A_CTL : Nat := 0x400B0100
abbrev OUT_A_HTIM0 : Nat := 0x400B0104
abbrev OUT_A_HTIM1 : Nat := 0x400B0108
abbrev OUT_A_VTIM0 : Nat := 0x400B010C
abbrev OUT_A_VTIM1 : Nat := 0x400B0110
abbrev OUT_A_VFP2 : Nat := 0x400B0114
abbrev OUT_A_STAT : Nat := 0x400B0118
abbrev OUT_A_CUTCNT : Nat := 0x400B011C
abbrev OUT_B_CTL : Nat := 0x400B0200
abbrev OUT_B_HTIM0 : Nat := 0x400B0204
abbrev OUT_B_HTIM1 : Nat := 0x400B0208
abbrev OUT_B_VTIM0 : Nat := 0x400B020C
abbrev OUT_B_VTIM1 : Nat := 0x400B0210
abbrev OUT_B_STAT : Nat := 0x400B0218
abbrev OUT_B_CUTCNT : Nat := 0x400B021C
abbrev OUT_B_PHY : Nat := 0x400B0220
abbrev OUT_B_TEWIN : Nat := 0x400B0224
abbrev OUT_B_PSRB : Nat := 0x400B0228
abbrev OUT_B_TEMISSCNT : Nat := 0x400B022C
abbrev OUT_B_PSRCRC : Nat := 0x400B0230
abbrev OUT_B_PSRACT : Nat := 0x400B0234
abbrev OUT_B_CMDHDR : Nat := 0x400B0238
abbrev OUT_B_CMDST : Nat := 0x400B023C
abbrev OUT_B_CMDBUF (i : Nat) : Nat := 0x400B0240 + 4 * i
abbrev OUT_B_RDATA (i : Nat) : Nat := 0x400B0280 + 4 * i
abbrev OUT_B_ERRRPT : Nat := 0x400B0290
abbrev OUT_C_CTL : Nat := 0x400B0300
abbrev OUT_C_GEOM : Nat := 0x400B0304
abbrev OUT_C_TIM : Nat := 0x400B0308
abbrev OUT_C_STAT : Nat := 0x400B030C
abbrev OUT_C_HOLDCNT : Nat := 0x400B0310
abbrev OUT_C_SHORTCNT : Nat := 0x400B0314
abbrev OUT_C_GAMMA (c i : Nat) : Nat := 0x400B0400 + 0x400 * c + 4 * i
/-! ### BLT registers (spec/13_blitter.md) -/

abbrev BLT_CTRL : Nat := 0x400C0000
abbrev BLT_CFG : Nat := 0x400C0004
abbrev BLT_RBASE : Nat := 0x400C0008
abbrev BLT_RSIZE : Nat := 0x400C000C
abbrev BLT_WR : Nat := 0x400C0010
abbrev BLT_RD : Nat := 0x400C0014
abbrev BLT_STAT : Nat := 0x400C0018
abbrev BLT_EVT : Nat := 0x400C001C
abbrev BLT_CMDST : Nat := 0x400C0020
abbrev BLT_REJECT : Nat := 0x400C0024
abbrev BLT_ERRADDR : Nat := 0x400C0028
abbrev BLT_LASTTAG : Nat := 0x400C002C
abbrev BLT_DONECNT : Nat := 0x400C0030
abbrev BLT_OVRCNT : Nat := 0x400C0034
/-! ### AUD registers (spec/14_audio.md) -/

abbrev AUD_CTRL : Nat := 0x400D0000
abbrev AUD_STAT : Nat := 0x400D0004
abbrev AUD_EVT : Nat := 0x400D0008
abbrev AUD_CMDST : Nat := 0x400D000C
abbrev AUD_REJECT : Nat := 0x400D0010
abbrev AUD_RSTART : Nat := 0x400D0014
abbrev AUD_PBEAT_LO : Nat := 0x400D0018
abbrev AUD_PBEAT_HI : Nat := 0x400D001C
abbrev AUD_RTIME : Nat := 0x400D0020
abbrev AUD_DROPBLK : Nat := 0x400D0024
abbrev AUD_SLIPCNT : Nat := 0x400D0028
abbrev AUD_VCMD : Nat := 0x400D0100
abbrev AUD_VAT_LO : Nat := 0x400D0104
abbrev AUD_VAT_HI : Nat := 0x400D0108
abbrev V_CFG (v : Nat) : Nat := 0x400D0400 + 0x20 * v
abbrev V_START (v : Nat) : Nat := 0x400D0404 + 0x20 * v
abbrev V_LEN (v : Nat) : Nat := 0x400D0408 + 0x20 * v
abbrev V_LOOPS (v : Nat) : Nat := 0x400D040C + 0x20 * v
abbrev V_LOOPE (v : Nat) : Nat := 0x400D0410 + 0x20 * v
abbrev V_PITCH (v : Nat) : Nat := 0x400D0414 + 0x20 * v
abbrev V_ENV (v : Nat) : Nat := 0x400D0418 + 0x20 * v
abbrev V_VOL (v : Nat) : Nat := 0x400D041C + 0x20 * v
abbrev V_STAT (v : Nat) : Nat := 0x400D0800 + 4 * v
abbrev T_CTL (t : Nat) : Nat := 0x400D0C00 + 0x10 * t
abbrev T_FREQ (t : Nat) : Nat := 0x400D0C04 + 0x10 * t
abbrev T_LEVEL (t : Nat) : Nat := 0x400D0C08 + 0x10 * t
abbrev I_CFG (i : Nat) : Nat := 0x400D0D00 + 0x10 * i
abbrev I_STAT (i : Nat) : Nat := 0x400D0D04 + 0x10 * i
abbrev PDM_CFG : Nat := 0x400D0E00
abbrev PDM_GAIN (k : Nat) : Nat := 0x400D0E04 + 4 * k
abbrev SEL (m j : Nat) : Nat := 0x400D1000 + 0x100 * m + 4 * j
abbrev BUS_CFG (m : Nat) : Nat := 0x400D1040 + 0x100 * m
abbrev BUS_DUCK (m : Nat) : Nat := 0x400D1044 + 0x100 * m
abbrev EQ_B0 (m b : Nat) : Nat := 0x400D1050 + 0x100 * m + 0x14 * b
abbrev EQ_B1 (m b : Nat) : Nat := 0x400D1054 + 0x100 * m + 0x14 * b
abbrev EQ_B2 (m b : Nat) : Nat := 0x400D1058 + 0x100 * m + 0x14 * b
abbrev EQ_A1 (m b : Nat) : Nat := 0x400D105C + 0x100 * m + 0x14 * b
abbrev EQ_A2 (m b : Nat) : Nat := 0x400D1060 + 0x100 * m + 0x14 * b
abbrev BUS_STAT (m : Nat) : Nat := 0x400D10C0 + 0x100 * m
abbrev Z_CFG (z : Nat) : Nat := 0x400D1800 + 0x10 * z
abbrev Z_LIM (z : Nat) : Nat := 0x400D1804 + 0x10 * z
abbrev Z_CLIPCNT (z : Nat) : Nat := 0x400D1808 + 0x10 * z
abbrev O_CFG (o : Nat) : Nat := 0x400D1900 + 0x40 * o
abbrev O_MAP (o : Nat) : Nat := 0x400D1904 + 0x40 * o
abbrev LS_CFG (k : Nat) : Nat := 0x400D1A00 + 0x10 * k
abbrev AUD_LS_UNDER (k : Nat) : Nat := 0x400D1A04 + 0x10 * k
abbrev AUD_LS_LATE (k : Nat) : Nat := 0x400D1A08 + 0x10 * k
abbrev AUD_LS_BAD (k : Nat) : Nat := 0x400D1A0C + 0x10 * k
/-! ### CAM registers (spec/15_camera_and_recorder.md) -/

abbrev CAM_EVT : Nat := 0x400E0000
abbrev CAM_CMDST : Nat := 0x400E0004
abbrev CAM_REJECT : Nat := 0x400E0008
abbrev CAM_CTL (x : Nat) : Nat := 0x400E0100 + 0x80 * x
abbrev CAM_GEOM (x : Nat) : Nat := 0x400E0104 + 0x80 * x
abbrev CAM_FBASE (x : Nat) : Nat := 0x400E0108 + 0x80 * x
abbrev CAM_FPITCH (x : Nat) : Nat := 0x400E010C + 0x80 * x
abbrev CAM_NBUF (x : Nat) : Nat := 0x400E0110 + 0x80 * x
abbrev CAM_USE (x : Nat) : Nat := 0x400E0114 + 0x80 * x
abbrev CAM_FILL (x : Nat) : Nat := 0x400E0118 + 0x80 * x
abbrev CAM_FS (x : Nat) : Nat := 0x400E011C + 0x80 * x
abbrev CAM_BSTAT (x : Nat) : Nat := 0x400E0120 + 0x80 * x
abbrev CAM_BHOLD (x : Nat) : Nat := 0x400E0124 + 0x80 * x
abbrev CAM_REL (x : Nat) : Nat := 0x400E0128 + 0x80 * x
abbrev CAM_LAST (x : Nat) : Nat := 0x400E012C + 0x80 * x
abbrev CAM_FSEQ (x : Nat) : Nat := 0x400E0130 + 0x80 * x
abbrev CAM_LASTSEQ (x : Nat) : Nat := 0x400E0134 + 0x80 * x
abbrev CAM_LASTBEAT_LO (x : Nat) : Nat := 0x400E0138 + 0x80 * x
abbrev CAM_LASTBEAT_HI (x : Nat) : Nat := 0x400E013C + 0x80 * x
abbrev CAM_DROPCNT (x : Nat) : Nat := 0x400E0140 + 0x80 * x
abbrev CAM_SHORTCNT (x : Nat) : Nat := 0x400E0144 + 0x80 * x
abbrev CAM_LONGCNT (x : Nat) : Nat := 0x400E0148 + 0x80 * x
abbrev CAM_PERRCNT (x : Nat) : Nat := 0x400E014C + 0x80 * x
abbrev CAM_VCDROP (x : Nat) : Nat := 0x400E0150 + 0x80 * x
/-! ### REC registers (spec/15_camera_and_recorder.md) -/

abbrev REC_CTRL : Nat := 0x400F0000
abbrev REC_CFG : Nat := 0x400F0004
abbrev REC_STAT : Nat := 0x400F0008
abbrev REC_EVT : Nat := 0x400F000C
abbrev REC_CMDST : Nat := 0x400F0010
abbrev REC_REJECT : Nat := 0x400F0014
abbrev REC_OBASE : Nat := 0x400F0018
abbrev REC_OSIZE : Nat := 0x400F001C
abbrev REC_JMAX : Nat := 0x400F0020
abbrev REC_LBA0 : Nat := 0x400F0024
abbrev REC_NSEG : Nat := 0x400F0028
abbrev REC_SEGBLK : Nat := 0x400F002C
abbrev REC_SEG : Nat := 0x400F0030
abbrev REC_SEGPOS : Nat := 0x400F0034
abbrev REC_MARK : Nat := 0x400F0038
abbrev REC_MTAG : Nat := 0x400F003C
abbrev REC_MQLEN : Nat := 0x400F0040
abbrev REC_FRAMECNT : Nat := 0x400F0044
abbrev REC_OVSZCNT : Nat := 0x400F0048
abbrev REC_OVRCNT : Nat := 0x400F004C
abbrev REC_UNRECCNT : Nat := 0x400F0050
abbrev REC_QT (t i : Nat) : Nat := 0x400F0100 + 0x100 * t + 4 * i
abbrev REC_HT (h w : Nat) : Nat := 0x400F0400 + 0x100 * h + 4 * w
/-! ### XPA registers (spec/16_expert_array.md) -/

abbrev XPA_CTRL : Nat := 0x40100000
abbrev XPA_SCHSEL : Nat := 0x40100004
abbrev XPA_STAT : Nat := 0x40100008
abbrev XPA_EVT : Nat := 0x4010000C
abbrev XPA_CMD : Nat := 0x40100010
abbrev XPA_CMDST : Nat := 0x40100014
abbrev XPA_REJECT : Nat := 0x40100018
abbrev XPA_BLOB : Nat := 0x4010001C
abbrev XPA_SCHADDR : Nat := 0x40100020
abbrev XPA_ENGSTAT : Nat := 0x40100024
abbrev XPA_TESTST : Nat := 0x40100028
abbrev XPA_OUTBEAT_LO : Nat := 0x4010002C
abbrev XPA_OUTBEAT_HI : Nat := 0x40100030
abbrev XPA_TOKDROP : Nat := 0x40100040
abbrev XPA_FALLCNT : Nat := 0x40100044
abbrev XPA_RDISC : Nat := 0x40100048
abbrev XPA_QFULL : Nat := 0x4010004C
abbrev XPA_SLOTCUT : Nat := 0x40100050
abbrev XPA_NOFRAME : Nat := 0x40100054
abbrev XPA_OVRCNT : Nat := 0x40100058
/-! ### TMR registers (spec/17_timers_and_adc.md) -/

abbrev TMR_CMDST : Nat := 0x40110000
abbrev TMR_REJECT : Nat := 0x40110004
abbrev TMR_RUNMAP : Nat := 0x40110008
abbrev TMR_GSTART : Nat := 0x4011000C
abbrev TMR_GSTOP : Nat := 0x40110010
abbrev TMR_ADCSEL : Nat := 0x40110014
abbrev TMR_CFG (n : Nat) : Nat := 0x40110100 + 0x40 * n
abbrev TMR_TOP (n : Nat) : Nat := 0x40110104 + 0x40 * n
abbrev TMR_COUNT (n : Nat) : Nat := 0x40110108 + 0x40 * n
abbrev TMR_CMD (n : Nat) : Nat := 0x4011010C + 0x40 * n
abbrev TMR_STAT (n : Nat) : Nat := 0x40110110 + 0x40 * n
abbrev TMR_CCCFG (n x : Nat) : Nat := 0x40110114 + 0x40 * n + 4 * x
abbrev TMR_CC (n x : Nat) : Nat := 0x4011011C + 0x40 * n + 4 * x
abbrev TMR_OUT (n : Nat) : Nat := 0x40110124 + 0x40 * n
abbrev TMR_ACT (n : Nat) : Nat := 0x40110128 + 0x40 * n
abbrev TMR_DMASEL (n : Nat) : Nat := 0x4011012C + 0x40 * n
abbrev TMR_PAIR_LO (k : Nat) : Nat := 0x40110800 + 8 * k
abbrev TMR_PAIR_HI (k : Nat) : Nat := 0x40110804 + 8 * k
/-! ### ADC registers (spec/17_timers_and_adc.md) -/

abbrev ADC_CTL : Nat := 0x40120000
abbrev ADC_CMD : Nat := 0x40120004
abbrev ADC_STAT : Nat := 0x40120008
abbrev ADC_EVT : Nat := 0x4012000C
abbrev ADC_CMDST : Nat := 0x40120010
abbrev ADC_REJECT : Nat := 0x40120014
abbrev ADC_MISS : Nat := 0x40120018
abbrev ADC_DATA : Nat := 0x4012001C
abbrev ADC_TCAL : Nat := 0x40120020
abbrev ADC_SEQ (i : Nat) : Nat := 0x40120040 + 4 * i
abbrev ADC_RES (i : Nat) : Nat := 0x40120080 + 4 * i
/-! ### GPIO registers (spec/18_pins.md) -/

abbrev GPIO_IN (p : Nat) : Nat := 0x40130000 + 0x20 * p
abbrev GPIO_OUT (p : Nat) : Nat := 0x40130004 + 0x20 * p
abbrev GPIO_SET (p : Nat) : Nat := 0x40130008 + 0x20 * p
abbrev GPIO_CLR (p : Nat) : Nat := 0x4013000C + 0x20 * p
abbrev GPIO_TGL (p : Nat) : Nat := 0x40130010 + 0x20 * p
abbrev GPIO_DRV (p : Nat) : Nat := 0x40130014 + 0x20 * p
abbrev GPIO_WKIN : Nat := 0x40130100
/-! ### PIN registers (spec/18_pins.md) -/

abbrev PIN_CFG (p n : Nat) : Nat := 0x40140000 + 0x80 * p + 4 * n
abbrev PIN_LKMASK (p : Nat) : Nat := 0x40140400 + 0x10 * p
abbrev PIN_LKKEY (p : Nat) : Nat := 0x40140404 + 0x10 * p
abbrev PIN_LOCKED (p : Nat) : Nat := 0x40140408 + 0x10 * p
abbrev PIN_LKSTAT (p : Nat) : Nat := 0x4014040C + 0x10 * p
/-! ### CAN registers (spec/20_serial_ports.md) -/

abbrev CAN_EVT (p : Nat) : Nat := 0x40150000 + 0x10000 * p
abbrev CAN_CMDST (p : Nat) : Nat := 0x40150004 + 0x10000 * p
abbrev CAN_REJECT (p : Nat) : Nat := 0x40150008 + 0x10000 * p
abbrev CAN_CMD (p : Nat) : Nat := 0x4015000C + 0x10000 * p
abbrev CAN_CFG (p : Nat) : Nat := 0x40150010 + 0x10000 * p
abbrev CAN_NBT (p : Nat) : Nat := 0x40150014 + 0x10000 * p
abbrev CAN_DBT (p : Nat) : Nat := 0x40150018 + 0x10000 * p
abbrev CAN_TDCO (p : Nat) : Nat := 0x4015001C + 0x10000 * p
abbrev CAN_STAT (p : Nat) : Nat := 0x40150020 + 0x10000 * p
abbrev CAN_RXBASE (p : Nat) : Nat := 0x40150024 + 0x10000 * p
abbrev CAN_RXCTL (p : Nat) : Nat := 0x40150028 + 0x10000 * p
abbrev CAN_RXWR (p : Nat) : Nat := 0x4015002C + 0x10000 * p
abbrev CAN_RXRD (p : Nat) : Nat := 0x40150030 + 0x10000 * p
abbrev CAN_TXBASE (p : Nat) : Nat := 0x40150034 + 0x10000 * p
abbrev CAN_TXCTL (p : Nat) : Nat := 0x40150038 + 0x10000 * p
abbrev CAN_TXWR (p : Nat) : Nat := 0x4015003C + 0x10000 * p
abbrev CAN_TXRD (p : Nat) : Nat := 0x40150040 + 0x10000 * p
abbrev CAN_RXOVF (p : Nat) : Nat := 0x40150044 + 0x10000 * p
abbrev CAN_ERRCNT (p : Nat) : Nat := 0x40150048 + 0x10000 * p
abbrev CAN_FID (p f : Nat) : Nat := 0x40150080 + 0x10000 * p + 8 * f
abbrev CAN_FMASK (p f : Nat) : Nat := 0x40150084 + 0x10000 * p + 8 * f
/-! ### UART registers (spec/20_serial_ports.md) -/

abbrev UART_EVT (p : Nat) : Nat := 0x40170000 + 0x10000 * p
abbrev UART_CMDST (p : Nat) : Nat := 0x40170004 + 0x10000 * p
abbrev UART_REJECT (p : Nat) : Nat := 0x40170008 + 0x10000 * p
abbrev UART_CMD (p : Nat) : Nat := 0x4017000C + 0x10000 * p
abbrev UART_CFG (p : Nat) : Nat := 0x40170010 + 0x10000 * p
abbrev UART_BAUD (p : Nat) : Nat := 0x40170014 + 0x10000 * p
abbrev UART_DE (p : Nat) : Nat := 0x40170018 + 0x10000 * p
abbrev UART_DATA (p : Nat) : Nat := 0x4017001C + 0x10000 * p
abbrev UART_STAT (p : Nat) : Nat := 0x40170020 + 0x10000 * p
abbrev UART_FIFO (p : Nat) : Nat := 0x40170024 + 0x10000 * p
abbrev UART_OVRCNT (p : Nat) : Nat := 0x40170028 + 0x10000 * p
abbrev UART_TXD (p : Nat) : Nat := 0x4017002C + 0x10000 * p
abbrev SC_CLK (p : Nat) : Nat := 0x40170030 + 0x10000 * p
abbrev SC_ETU (p : Nat) : Nat := 0x40170034 + 0x10000 * p
abbrev SC_GT (p : Nat) : Nat := 0x40170038 + 0x10000 * p
abbrev SC_WT (p : Nat) : Nat := 0x4017003C + 0x10000 * p
abbrev SC_RETRY (p : Nat) : Nat := 0x40170040 + 0x10000 * p
abbrev SC_RSTLOW (p : Nat) : Nat := 0x40170044 + 0x10000 * p
/-! ### SPI registers (spec/20_serial_ports.md) -/

abbrev OSPI_EVT : Nat := 0x401D0000
abbrev OSPI_CMDST : Nat := 0x401D0004
abbrev OSPI_REJECT : Nat := 0x401D0008
abbrev OSPI_CMD : Nat := 0x401D000C
abbrev OSPI_CFG : Nat := 0x401D0010
abbrev OSPI_XRD : Nat := 0x401D0014
abbrev OSPI_XCTL : Nat := 0x401D0018
abbrev OSPI_ICMD : Nat := 0x401D0020
abbrev OSPI_IADDR : Nat := 0x401D0024
abbrev OSPI_ILEN : Nat := 0x401D0028
abbrev OSPI_DATA : Nat := 0x401D0030
abbrev OSPI_STAT : Nat := 0x401D0034
abbrev SPI_EVT (s : Nat) : Nat := 0x401D0000 + 0x1000 * s
abbrev SPI_CMDST (s : Nat) : Nat := 0x401D0004 + 0x1000 * s
abbrev SPI_REJECT (s : Nat) : Nat := 0x401D0008 + 0x1000 * s
abbrev SPI_CMD (s : Nat) : Nat := 0x401D000C + 0x1000 * s
abbrev SPI_CFG (s : Nat) : Nat := 0x401D0010 + 0x1000 * s
abbrev SPI_XFER (s : Nat) : Nat := 0x401D0014 + 0x1000 * s
abbrev SPI_TX (s : Nat) : Nat := 0x401D0018 + 0x1000 * s
abbrev SPI_RX (s : Nat) : Nat := 0x401D001C + 0x1000 * s
abbrev SPI_STAT (s : Nat) : Nat := 0x401D0020 + 0x1000 * s
/-! ### I2C registers (spec/20_serial_ports.md) -/

abbrev I2C_EVT (i : Nat) : Nat := 0x401E0000 + 0x1000 * i
abbrev I2C_CMDST (i : Nat) : Nat := 0x401E0004 + 0x1000 * i
abbrev I2C_REJECT (i : Nat) : Nat := 0x401E0008 + 0x1000 * i
abbrev I2C_CMD (i : Nat) : Nat := 0x401E000C + 0x1000 * i
abbrev I2C_CFG (i : Nat) : Nat := 0x401E0010 + 0x1000 * i
abbrev I2C_XACT (i : Nat) : Nat := 0x401E0014 + 0x1000 * i
abbrev I2C_DATA (i : Nat) : Nat := 0x401E0018 + 0x1000 * i
abbrev I2C_STAT (i : Nat) : Nat := 0x401E001C + 0x1000 * i
abbrev I2C_TOUT (i : Nat) : Nat := 0x401E0020 + 0x1000 * i
abbrev PPS_CFG : Nat := 0x401E2000
abbrev PPS_EVT : Nat := 0x401E2004
abbrev PPS_BEAT_LO : Nat := 0x401E2008
abbrev PPS_BEAT_HI : Nat := 0x401E200C
abbrev PPS_PHASE : Nat := 0x401E2010
abbrev PPS_RTCSUB : Nat := 0x401E2014
abbrev PPS_RTCSEC : Nat := 0x401E2018
/-! ### EMMC registers (spec/20_serial_ports.md) -/

abbrev EMMC_EVT : Nat := 0x401F0000
abbrev EMMC_CMDST : Nat := 0x401F0004
abbrev EMMC_REJECT : Nat := 0x401F0008
abbrev EMMC_CMD : Nat := 0x401F000C
abbrev EMMC_CFG : Nat := 0x401F0010
abbrev EMMC_ARG : Nat := 0x401F0014
abbrev EMMC_CMDW : Nat := 0x401F0018
abbrev EMMC_BUF : Nat := 0x401F001C
abbrev EMMC_RESP (k : Nat) : Nat := 0x401F0020 + 4 * k
abbrev EMMC_STAT : Nat := 0x401F0030
abbrev EMMC_RETRY : Nat := 0x401F0034
abbrev EMMC_TAP : Nat := 0x401F0038
abbrev EMMC_ERRCNT : Nat := 0x401F003C
/-! ### BOOT registers (spec/21_boot_power_reset.md) -/

abbrev BOOT_STAT : Nat := 0x40200000
abbrev BOOT_EVT : Nat := 0x40200004
abbrev BOOT_CMD : Nat := 0x40200008
abbrev BOOT_CMDST : Nat := 0x4020000C
abbrev BOOT_REJECT : Nat := 0x40200010
abbrev BOOT_GNTVER : Nat := 0x40200014
abbrev BOOT_APPVER : Nat := 0x40200018
abbrev BOOT_TUPLE : Nat := 0x4020001C
abbrev BOOT_NCOMPAT : Nat := 0x40200020
abbrev BOOT_ARB (k : Nat) : Nat := 0x40200040 + 4 * k
abbrev BOOT_COMPAT_LO (i : Nat) : Nat := 0x40200100 + 8 * i
abbrev BOOT_COMPAT_HI (i : Nat) : Nat := 0x40200104 + 8 * i
/-! ### GNT registers (spec/08_gauntlet.md) -/

abbrev GNT_EVT : Nat := 0x50000000
abbrev GNT_WP0 : Nat := 0x50000010
abbrev GNT_WP1 : Nat := 0x50000014
abbrev GNT_WPLOCK : Nat := 0x50000018
abbrev GNT_LOGCNT : Nat := 0x50000020
abbrev GNT_LOGADDR : Nat := 0x50000024
abbrev GNT_LOGINFO : Nat := 0x50000028
abbrev GNT_LOGPOP : Nat := 0x5000002C
abbrev GNT_LOGLOST : Nat := 0x50000030
/-! ### VIS registers (spec/12_outputs_and_visor.md) -/

abbrev VIS_EXP (p r : Nat) : Nat := 0x50010000 + 0x100 * p + 4 * r
abbrev VIS_RXY0 (p r : Nat) : Nat := 0x50010400 + 0x100 * p + 8 * r
abbrev VIS_RXY1 (p r : Nat) : Nat := 0x50010404 + 0x100 * p + 8 * r
abbrev VIS_RCFG (p r : Nat) : Nat := 0x50010800 + 0x100 * p + 4 * r
abbrev VIS_RCRC (p r : Nat) : Nat := 0x50010C00 + 0x100 * p + 4 * r
abbrev VIS_RES (p : Nat) : Nat := 0x50010E00 + 0x20 * p
abbrev VIS_ACT (p : Nat) : Nat := 0x50010E04 + 0x20 * p
abbrev VIS_FCRC (p : Nat) : Nat := 0x50010E08 + 0x20 * p
abbrev VIS_MISCNT (p : Nat) : Nat := 0x50010E0C + 0x20 * p
abbrev VIS_BLANKCOL (p : Nat) : Nat := 0x50010E10 + 0x20 * p
abbrev VIS_FSADDR (p : Nat) : Nat := 0x50010E14 + 0x20 * p
abbrev VIS_FSPITCH (p : Nat) : Nat := 0x50010E18 + 0x20 * p
abbrev VIS_FSCOL (p : Nat) : Nat := 0x50010E1C + 0x20 * p
abbrev VIS_EVT : Nat := 0x50010F00
abbrev VIS_STKY (p : Nat) : Nat := 0x50010F04 + 4 * p
/-! ### KEY registers (spec/08_gauntlet.md) -/

abbrev KEY_CMD : Nat := 0x50020000
abbrev KEY_STAT : Nat := 0x50020004
abbrev KEY_REJECT : Nat := 0x50020008
abbrev KEY_IN (i : Nat) : Nat := 0x50020020 + 4 * i
abbrev KEY_ATTR (j : Nat) : Nat := 0x50020100 + 4 * j
abbrev CRY_CMD : Nat := 0x50028000
abbrev CRY_STAT : Nat := 0x50028004
abbrev CRY_REJECT : Nat := 0x50028008
abbrev CRY_SRC : Nat := 0x50028010
abbrev CRY_DST : Nat := 0x50028014
abbrev CRY_LEN : Nat := 0x50028018
abbrev CRY_AAD : Nat := 0x5002801C
abbrev CRY_AADLEN : Nat := 0x50028020
abbrev CRY_RNG : Nat := 0x50028024
abbrev CRY_IV (i : Nat) : Nat := 0x50028040 + 4 * i
abbrev CRY_TAG (i : Nat) : Nat := 0x50028050 + 4 * i
abbrev CRY_HASH (i : Nat) : Nat := 0x50028060 + 4 * i
abbrev CRY_SIG (i : Nat) : Nat := 0x50028080 + 4 * i
abbrev CRY_PUB (i : Nat) : Nat := 0x500280C0 + 4 * i
/-! ### WDG registers (spec/08_gauntlet.md) -/

abbrev WDG_CFG : Nat := 0x50030000
abbrev WDG_TIMEOUT : Nat := 0x50030004
abbrev WDG_OPEN : Nat := 0x50030008
abbrev WDG_WARN : Nat := 0x5003000C
abbrev WDG_LOCK : Nat := 0x50030010
abbrev WDG_KICK : Nat := 0x50030014
abbrev WDG_COUNT : Nat := 0x50030018
abbrev WDG_STAT : Nat := 0x5003001C
abbrev WDG_CMDST : Nat := 0x50030020
abbrev WDG_REJECT : Nat := 0x50030024
/-! ### FLT registers (spec/08_gauntlet.md) -/

abbrev FLT_EVT : Nat := 0x50040000
abbrev FLT_CMD : Nat := 0x50040004
abbrev FLT_CMDST : Nat := 0x50040008
abbrev FLT_REJECT : Nat := 0x5004000C
abbrev FLT_LOCK : Nat := 0x50040010
abbrev FLT_CAUSE : Nat := 0x50040014
abbrev FLT_LASTCH : Nat := 0x50040018
abbrev FLT_RQCNT : Nat := 0x5004001C
abbrev FLT_RECOVF : Nat := 0x50040020
abbrev FLT_CORESTAT : Nat := 0x50040024
abbrev FLT_POLICY (c : Nat) : Nat := 0x50040040 + 4 * c
abbrev FLT_CHSTAT (ch : Nat) : Nat := 0x50044000 + 4 * ch
/-! ### MIT registers (spec/19_mitten.md) -/

abbrev MIT_STAT : Nat := 0x50050000
abbrev MIT_EVT : Nat := 0x50050004
abbrev MIT_CMDST : Nat := 0x50050008
abbrev MIT_REJECT : Nat := 0x5005000C
abbrev MIT_RTC_SUB : Nat := 0x50050010
abbrev MIT_RTC_SEC_LO : Nat := 0x50050014
abbrev MIT_RTC_SEC_HI : Nat := 0x50050018
abbrev MIT_RTC_CAL0 : Nat := 0x5005001C
abbrev MIT_RTC_CAL1 : Nat := 0x50050020
abbrev MIT_SET_SUB : Nat := 0x50050030
abbrev MIT_SET_SEC_LO : Nat := 0x50050034
abbrev MIT_SET_SEC_HI : Nat := 0x50050038
abbrev MIT_ADJ : Nat := 0x5005003C
abbrev MIT_PER : Nat := 0x50050040
abbrev ALM_VAL (a : Nat) : Nat := 0x50050050 + 0x10 * a
abbrev ALM_DATE (a : Nat) : Nat := 0x50050054 + 0x10 * a
abbrev ALM_CTL (a : Nat) : Nat := 0x50050058 + 0x10 * a
abbrev WK_CFG (n : Nat) : Nat := 0x50050080 + 4 * n
abbrev MIT_WAKEF : Nat := 0x500500A0
abbrev MIT_WAKESET : Nat := 0x500500A4
abbrev MIT_PWRON : Nat := 0x500500A8
abbrev MIT_SUPPLY : Nat := 0x500500B0
abbrev MIT_TCTL : Nat := 0x500500C0
abbrev MIT_TEMP : Nat := 0x500500C4
abbrev MIT_CORR : Nat := 0x500500C8
abbrev MIT_TCURVE (i : Nat) : Nat := 0x50050100 + 4 * i
abbrev MIT_TLIVE (i : Nat) : Nat := 0x50050140 + 4 * i
abbrev MIT_BKP (r : Nat) : Nat := 0x50050200 + 4 * r

end Sys2Proof.Machine
end

