-- ==== Sys2Proof/Machine/Reg.lean ====
section
/-! DEFINITION. What a row of a register table says (spec/00 R8, spec/01 R25 to R36). -/

namespace Sys2Proof.Machine

/-- How a register's fields are locked (R31, R32): not at all; WOS, spent by its first write; RWL, by bit 0
of the register at an address; RWL, by the pin lock of R486. -/
inductive LockKind where
  | none
  | once
  | by (addr : Nat)
  | pin
deriving DecidableEq, Repr

/-- The legal encodings of one field (R36): the field of `len` bits at `lo` must hold a value inside one
of the inclusive ranges; every other value is a reserved encoding. -/
structure FieldEnc where
  lo : Nat
  len : Nat
  ok : List (Nat × Nat)
deriving DecidableEq, Repr

/-- Registers whose reset value or legal encodings depend on the array index or the unit. -/
inductive RowSpecial where
  | plain
  | gamma     -- OUT_C_GAMMA: reset 4 × i + i div 64
  | pinFunc   -- PIN_CFG: the FUNC values of R477
  | scCfg     -- UART_CFG: SC is reserved except on UART4 and UART5, and 3 is reserved
deriving DecidableEq, Repr

/-- One row of a register table: a register, or an array of `n1` × `n2` registers at byte strides `s1`, `s2`. -/
structure RegRow where
  off : Nat
  n1 : Nat := 1
  s1 : Nat := 4
  n2 : Nat := 1
  s2 : Nat := 4
  reset : Nat := 0
  /-- bits of types RW, RWL, WOS and SH: a write stores them -/
  rw : Nat := 0
  /-- bits of type W1C -/
  w1c : Nat := 0
  /-- bits of type W1S -/
  w1s : Nat := 0
  /-- bits of type RC -/
  rc : Nat := 0
  /-- bits of type WO -/
  wo : Nat := 0
  /-- the shadow domain of an SH register (R61) -/
  sh : Option Nat := none
  lock : LockKind := .none
  /-- position in a multi-word register and its number of words (R28, R29) -/
  word : Nat := 0
  words : Nat := 1
  /-- each of C0 to C3 and G0 has a view of its own -/
  perCore : Bool := false
  /-- writable by G0 only, narrowing R16 -/
  g0Write : Bool := false
  enc : List FieldEnc := []
  special : RowSpecial := .plain
deriving DecidableEq, Repr

/-- The first row of a table whose register or array covers offset `o`, with the two array indices. -/
def findRow : List RegRow → Nat → Option (RegRow × Nat × Nat)
  | [], _ => none
  | r :: t, o =>
    if o < r.off then findRow t o
    else
      let d := o - r.off
      let i := d / r.s1
      let j := (d % r.s1) / r.s2
      if r.n2 = 1 then
        if d % r.s1 = 0 ∧ i < r.n1 then some (r, i, 0) else findRow t o
      else if i < r.n1 ∧ (d % r.s1) % r.s2 = 0 ∧ j < r.n2 then some (r, i, j)
      else findRow t o

/-- The reset value of entry (i, j) of a row. -/
def RegRow.resetAt (r : RegRow) (j : Nat) : Word :=
  match r.special with
  | .gamma => w32 (4 * j + j / 64)
  | _ => w32 r.reset

/-- Whether the value written to a field is one of its legal encodings. -/
def FieldEnc.legal (e : FieldEnc) (v : Word) : Bool :=
  e.ok.any (fun r => r.1 ≤ fieldOf v e.lo e.len && fieldOf v e.lo e.len ≤ r.2)

/-- The functions R477 assigns to pin `n` of port `p`, besides 0 (GPIO). -/
def pinFuncOk (p n f : Nat) : Bool :=
  f = 0
  || (f = 1 && ((p = 0 && (n < 24 || (24 ≤ n && n ≤ 31))) || (p = 1 && n ≤ 31) || (p = 2 && n ≤ 15)))
  || (f = 2 && ((p = 0 && (n = 16 || n = 17 || n = 18 || n = 20 || n = 21 || n = 22)) || (p = 2 && 16 ≤ n && n ≤ 31)))
  || (f = 3 && p = 3 && n ≤ 7)
  || (f = 4 && p = 4 && n ≤ 3)
  || (f = 5 && p = 4 && 16 ≤ n && n ≤ 24)

end Sys2Proof.Machine
end

