-- ==== Sys2Proof/Machine/RegTable.lean ====
section
/-! DEFINITION. The register tables of every block, one row a register or array of registers, as the
Registers sections of the spec give them (R7, R8, R31, R36): offset, array shape, reset value, and the
bits of each access type. A bit in none of the masks is RO or reserved (R34). -/

namespace Sys2Proof.Machine

def sysTable : List RegRow := [
  -- SYS_ID (01_architecture.md R7)
  { off := 0, reset := 0x24000100 },
  -- SYS_CLKSTAT (01_architecture.md R11)
  { off := 0x10 },
  -- SYS_CLKEVT (01_architecture.md R11)
  { off := 0x14, w1c := 0xF },
  -- SYS_CLKEN (01_architecture.md R13)
  { off := 0x20, rw := 0x7FFFFF },
  -- SYS_CMDST (01_architecture.md R37)
  { off := 0x30 },
  -- SYS_REJECT (01_architecture.md R40)
  { off := 0x34, rc := 0xFFFFFFFF },
  -- SYS_FERR_ADDR (01_architecture.md R21)
  { off := 0x40 },
  -- SYS_FERR_INFO (01_architecture.md R21)
  { off := 0x44, w1c := 0x80000000 },
  -- SYS_FERR_COUNT (01_architecture.md R21)
  { off := 0x48, rc := 0xFFFFFFFF },
  -- PWR_STAT (21_boot_power_reset.md R548)
  { off := 0x100, reset := 0x1F00 },
  -- PWR_EVT (21_boot_power_reset.md R553)
  { off := 0x104, w1c := 0x1F },
  -- PWR_CMD (21_boot_power_reset.md R550)
  { off := 0x108, wo := 0xF000FFFF, g0Write := true, enc := [⟨28, 4, [(1, 2)]⟩] },
  -- PWR_CMDST (21_boot_power_reset.md R550)
  { off := 0x10C },
  -- PWR_REJECT (21_boot_power_reset.md R40)
  { off := 0x110, rc := 0xFFFFFFFF },
  -- PWR_CTL (21_boot_power_reset.md R549)
  { off := 0x114, rw := 1 },
  -- PWR_PFW (21_boot_power_reset.md R554)
  { off := 0x118, reset := 0x14, rw := 0x8000001F, enc := [⟨0, 5, [(0, 24)]⟩] },
  -- PWR_SWRST (21_boot_power_reset.md R535)
  { off := 0x11C, wo := 0xFFFFFFFF, g0Write := true },
  -- PWR_RSTCAUSE (21_boot_power_reset.md R535)
  { off := 0x120, reset := 1, w1c := 0xFE0000 },
  -- SYS_CENTRY (21_boot_power_reset.md R547)
  { off := 0x12C, n1 := 4, rw := 0xFFFFFFFF },
  -- SYS_CSTART (21_boot_power_reset.md R547)
  { off := 0x140, wo := 0xF },
  -- SYS_CRUN (21_boot_power_reset.md R547)
  { off := 0x144 } ]

def beatTable : List RegRow := [
  -- BEAT_CTRL (02_beat.md R46)
  { off := 0, rw := 1, sh := some 0 },
  -- BEAT_STAT (02_beat.md R52)
  { off := 4 },
  -- BEAT_EVT (02_beat.md R52)
  { off := 8, w1c := 0xFF },
  -- BEAT_HOLDMAX (02_beat.md R52)
  { off := 0xC, reset := 0x258, rw := 0xFFFF },
  -- BEAT_COUNT_LO (02_beat.md R56)
  { off := 0x10, word := 0, words := 2 },
  -- BEAT_COUNT_HI (02_beat.md R56)
  { off := 0x14, word := 1, words := 2 },
  -- BEAT_PHASE (02_beat.md R57)
  { off := 0x18 },
  -- BEAT_LAST (02_beat.md R57)
  { off := 0x1C },
  -- BEAT_GEN_NUM (02_beat.md R44)
  { off := 0x20, reset := 0x1312D00, rw := 0xFFFFFFFF, sh := some 0 },
  -- BEAT_GEN_DEN (02_beat.md R44)
  { off := 0x24, reset := 3, rw := 0xFF, sh := some 0, enc := [⟨0, 8, [(1, 255)]⟩] },
  -- BEAT_OFFS (02_beat.md R55)
  { off := 0x28 },
  -- BEAT_BRIMUSE (02_beat.md R69)
  { off := 0x2C, rc := 0xFFFF0000 },
  -- BEAT_CMDST (02_beat.md R579)
  { off := 0x30 },
  -- BEAT_REJECT (02_beat.md R579)
  { off := 0x34, rc := 0xFFFFFFFF },
  -- BEAT_OVRSTAT (02_beat.md R59)
  { off := 0x38, w1c := 0x1FF },
  -- BEAT_DLINE (02_beat.md R59)
  { off := 0x80, n1 := 3, rw := 0xFFFF, sh := some 0 },
  -- BEAT_DLINE:3 (02_beat.md R59)
  { off := 0x8C, reset := 0xE000, rw := 0xFFFF, sh := some 0 },
  -- BEAT_DLINE:4 (02_beat.md R59)
  { off := 0x90, n1 := 2, reset := 0xF000, rw := 0xFFFF, sh := some 0 },
  -- BEAT_DLINE:6 (02_beat.md R59)
  { off := 0x98, rw := 0xFFFF, sh := some 0 },
  -- BEAT_DLINE:7 (02_beat.md R59)
  { off := 0x9C, reset := 0xC000, rw := 0xFFFF, sh := some 0 },
  -- BEAT_DLINE:8 (02_beat.md R59)
  { off := 0xA0, reset := 0xF800, rw := 0xFFFF, sh := some 0 },
  -- BEAT_DLINE:9 (02_beat.md R59)
  { off := 0xA4, n1 := 7, rw := 0xFFFF, sh := some 0 },
  -- BEAT_MARK (02_beat.md R58)
  { off := 0xC0, n1 := 8, rw := 0x8000FFFF },
  -- CG_MEMBERS (02_beat.md R63)
  { off := 0x100, n1 := 8, s1 := 0x20, rw := 0x7FFF },
  -- CG_ARMED (02_beat.md R64)
  { off := 0x104, n1 := 8, s1 := 0x20, w1s := 0x7FFF },
  -- CG_BEAT_LO (02_beat.md R63)
  { off := 0x108, n1 := 8, s1 := 0x20, rw := 0xFFFFFFFF, word := 0, words := 2 },
  -- CG_BEAT_HI (02_beat.md R63)
  { off := 0x10C, n1 := 8, s1 := 0x20, rw := 0xFFFFFFFF, word := 1, words := 2 },
  -- CG_CTRL (02_beat.md R63)
  { off := 0x110, n1 := 8, s1 := 0x20, wo := 3 },
  -- CG_STAT (02_beat.md R63)
  { off := 0x114, n1 := 8, s1 := 0x20 },
  -- CG_MISSING (02_beat.md R66)
  { off := 0x118, n1 := 8, s1 := 0x20 } ]

def disTable : List RegRow := [
  -- DIS_TICK (05_dispatcher.md R143)
  { off := 0, reset := 4, rw := 0x7F, enc := [⟨0, 7, [(1, 64)]⟩] },
  -- DIS_STAT (05_dispatcher.md R138)
  { off := 4, reset := 0x1000 },
  -- DIS_EVT (05_dispatcher.md R141)
  { off := 8, w1c := 0x1F },
  -- DIS_ADMIT (05_dispatcher.md R140)
  { off := 0xC, reset := 0xF0000, rw := 0xF1FFF },
  -- DIS_LOWMARK (05_dispatcher.md R142)
  { off := 0x10, rw := 0x1FFF },
  -- DIS_CMD (05_dispatcher.md R138)
  { off := 0x14, wo := 0xF0000FFF, enc := [⟨28, 4, [(1, 6)]⟩] },
  -- DIS_CMDST (05_dispatcher.md R138)
  { off := 0x18 },
  -- DIS_REJECT (05_dispatcher.md R138)
  { off := 0x1C, rc := 0xFFFFFFFF },
  -- DIS_NOSLOTCNT (05_dispatcher.md R141)
  { off := 0x20, rc := 0xFFFFFFFF },
  -- DIS_UNBOUND (05_dispatcher.md R155)
  { off := 0x24 },
  -- DIS_TIME_LO (05_dispatcher.md R143)
  { off := 0x28, word := 0, words := 2 },
  -- DIS_TIME_HI (05_dispatcher.md R143)
  { off := 0x2C, word := 1, words := 2 },
  -- DIS_RDYMAP (05_dispatcher.md R145)
  { off := 0x30 },
  -- DIS_DLYMAP (05_dispatcher.md R144)
  { off := 0x34 },
  -- DIS_CORE (05_dispatcher.md R150)
  { off := 0x40, n1 := 4, reset := 0xF00, rw := 0xFFFF0F01 },
  -- DIS_CSTAT (05_dispatcher.md R147)
  { off := 0x50, n1 := 4 },
  -- DIS_SUCC_IDX (05_dispatcher.md R152)
  { off := 0x60, n1 := 4, s1 := 8, w1c := 0x80000000 },
  -- DIS_SUCC_ARG (05_dispatcher.md R152)
  { off := 0x64, n1 := 4, s1 := 8 },
  -- DIS_DSEL (05_dispatcher.md R137)
  { off := 0x100, rw := 0xFFF },
  -- DIS_DWIN (05_dispatcher.md R137)
  { off := 0x120, n1 := 8, rw := 0xFFFFFFFF },
  -- DIS_BIND (05_dispatcher.md R154)
  { off := 0x200, n1 := 64, rw := 0x8FFF03FF } ]

def ecxTable : List RegRow := [
  -- ECX_LOCK (06_event_concentrator.md R164)
  { off := 0, rw := 1, lock := .once },
  -- ECX_EVT (06_event_concentrator.md R158)
  { off := 8, w1c := 1 },
  -- ECX_CMDST (06_event_concentrator.md R158)
  { off := 0xC },
  -- ECX_REJECT (06_event_concentrator.md R158)
  { off := 0x10, rc := 0xFFFFFFFF },
  -- ECX_SWTRIG (06_event_concentrator.md R162)
  { off := 0x14, wo := 0x3FF },
  -- ECX_CLAIM (06_event_concentrator.md R169)
  { off := 0x100 },
  -- ECX_DONE (06_event_concentrator.md R171)
  { off := 0x104, wo := 0x3FF },
  -- ECX_CLAIMST (06_event_concentrator.md R170)
  { off := 0x108, perCore := true },
  -- ECX_TCTL (06_event_concentrator.md R172)
  { off := 0x200, n1 := 5, s1 := 0x20, reset := 0x400, rw := 0xF01, enc := [⟨8, 4, [(4, 12)]⟩] },
  -- ECX_QBASE (06_event_concentrator.md R172)
  { off := 0x204, n1 := 5, s1 := 0x20, rw := 0xFFFFFFE0 },
  -- ECX_QWR (06_event_concentrator.md R173)
  { off := 0x208, n1 := 5, s1 := 0x20 },
  -- ECX_QRD (06_event_concentrator.md R176)
  { off := 0x20C, n1 := 5, s1 := 0x20, rw := 0xFFF },
  -- ECX_QSEQ (06_event_concentrator.md R174)
  { off := 0x210, n1 := 5, s1 := 0x20 },
  -- ECX_TSTAT (06_event_concentrator.md R177)
  { off := 0x214, n1 := 5, s1 := 0x20, reset := 0x4000000, w1c := 3 },
  -- ECX_MASK (06_event_concentrator.md R163)
  { off := 0x400, n1 := 32, reset := 0xFFFFFFFF, rw := 0xFFFFFFFF },
  -- ECX_PEND (06_event_concentrator.md R181)
  { off := 0x480, n1 := 32, rw := 0xFFFFFFFF },
  -- ECX_TYPE (06_event_concentrator.md R161)
  { off := 0x500, n1 := 32, rw := 0xFFFFFFFF },
  -- ECX_ACT (06_event_concentrator.md R166)
  { off := 0x580, n1 := 32 },
  -- ECX_LVL (06_event_concentrator.md R161)
  { off := 0x600, n1 := 32 },
  -- ECX_HOLD (06_event_concentrator.md R180)
  { off := 0x700, n1 := 32, rw := 0xFFFF },
  -- ECX_TGT (06_event_concentrator.md R164)
  { off := 0x1000, n1 := 96, rw := 7, lock := .by ECX_LOCK, enc := [⟨0, 3, [(0, 5)]⟩] },
  -- ECX_TGT:96 (06_event_concentrator.md R164)
  { off := 0x1180, n1 := 64, reset := 4, rw := 7, lock := .by ECX_LOCK, enc := [⟨0, 3, [(0, 5)]⟩] },
  -- ECX_TGT:160 (06_event_concentrator.md R164)
  { off := 0x1280, n1 := 864, rw := 7, lock := .by ECX_LOCK, enc := [⟨0, 3, [(0, 5)]⟩] } ]

def dmaTable : List RegRow := [
  -- DMA_EVT (07_memory_and_dma.md R203)
  { off := 0, w1c := 3 },
  -- DMA_CMDST (07_memory_and_dma.md R201)
  { off := 4 },
  -- DMA_REJECT (07_memory_and_dma.md R201)
  { off := 8, rc := 0xFFFFFFFF },
  -- DMA_RUNMAP (07_memory_and_dma.md R199)
  { off := 0xC },
  -- DMA_CH_CTRL (07_memory_and_dma.md R201)
  { off := 0x100, n1 := 16, s1 := 0x20, wo := 3 },
  -- DMA_CH_CFG (07_memory_and_dma.md R201)
  { off := 0x104, n1 := 16, s1 := 0x20, reset := 0x300, rw := 0x33F, enc := [⟨0, 6, [(0, 25), (32, 56)]⟩] },
  -- DMA_CH_DESC (07_memory_and_dma.md R201)
  { off := 0x108, n1 := 16, s1 := 0x20, rw := 0xFFFFFFE0 },
  -- DMA_CH_STAT (07_memory_and_dma.md R199)
  { off := 0x10C, n1 := 16, s1 := 0x20 },
  -- DMA_CH_ERRADDR (07_memory_and_dma.md R206)
  { off := 0x110, n1 := 16, s1 := 0x20 },
  -- DMA_CH_LEFT (07_memory_and_dma.md R205)
  { off := 0x114, n1 := 16, s1 := 0x20 },
  -- DMA_CH_TMISS (07_memory_and_dma.md R203)
  { off := 0x118, n1 := 16, s1 := 0x20, rc := 0xFFFFFFFF } ]

def memTable : List RegRow := [
  -- MEM_CTRL (07_memory_and_dma.md R197)
  { off := 0, reset := 0x1000001, rw := 0xFFFF0001, enc := [⟨16, 16, [(16, 65535)]⟩] },
  -- MEM_SCRUB (07_memory_and_dma.md R189)
  { off := 4, reset := 0x400, rw := 0xFFFF, enc := [⟨0, 16, [(64, 65535)]⟩] },
  -- MEM_EVT (07_memory_and_dma.md R188)
  { off := 8, w1c := 0x3F },
  -- MEM_CECNT (07_memory_and_dma.md R188)
  { off := 0xC, rc := 0xFFFFFFFF },
  -- MEM_UECNT (07_memory_and_dma.md R188)
  { off := 0x10, rc := 0xFFFFFFFF },
  -- MEM_MCECNT (07_memory_and_dma.md R194)
  { off := 0x14, rc := 0xFFFFFFFF },
  -- MEM_ERR_ADDR (07_memory_and_dma.md R188)
  { off := 0x18 },
  -- MEM_ERR_INFO (07_memory_and_dma.md R188)
  { off := 0x1C },
  -- MEM_REMAP (07_memory_and_dma.md R190)
  { off := 0x40, n1 := 8 },
  -- MEM_HOLE (07_memory_and_dma.md R191)
  { off := 0x100, n1 := 64 } ]

def ldgTable : List RegRow := [
  -- LDG_STAT (09_ledger.md R270)
  { off := 0 },
  -- LDG_EVT (09_ledger.md R241)
  { off := 4, w1c := 0x1FFFF },
  -- LDG_CMD (09_ledger.md R271)
  { off := 8, wo := 0xF0000000, enc := [⟨28, 4, [(1, 6)]⟩] },
  -- LDG_CMDST (09_ledger.md R271)
  { off := 0xC },
  -- LDG_REJECT (09_ledger.md R40)
  { off := 0x10, rc := 0xFFFFFFFF },
  -- LDG_REFCNT (09_ledger.md R247)
  { off := 0x14, rc := 0xFFFFFFFF },
  -- LDG_HWM (09_ledger.md R250)
  { off := 0x18, reset := 0x399A, rw := 0x3FFF, enc := [⟨0, 14, [(1, 16320)]⟩] },
  -- LDG_USED (09_ledger.md R250)
  { off := 0x1C },
  -- LDG_LOSTHDR (09_ledger.md R245)
  { off := 0x20, rc := 0xFFFFFFFF },
  -- LDG_TERM (09_ledger.md R257)
  { off := 0x24 },
  -- LDG_GSEQ_LO (09_ledger.md R253)
  { off := 0x28, word := 0, words := 2 },
  -- LDG_GSEQ_HI (09_ledger.md R253)
  { off := 0x2C, word := 1, words := 2 },
  -- LDG_OSEQ_LO (09_ledger.md R249)
  { off := 0x30, word := 0, words := 2 },
  -- LDG_OSEQ_HI (09_ledger.md R249)
  { off := 0x34, word := 1, words := 2 },
  -- LDG_REL_LO (09_ledger.md R256)
  { off := 0x38, rw := 0xFFFFFFFF, word := 0, words := 2 },
  -- LDG_REL_HI (09_ledger.md R256)
  { off := 0x3C, rw := 0xFFFF, word := 1, words := 2 },
  -- LDG_STG (09_ledger.md R246)
  { off := 0x40, n1 := 6, rw := 0xFFFFFFFF, perCore := true },
  -- LDG_PCRC (09_ledger.md R246)
  { off := 0x58, rw := 0xFFFFFFFF, perCore := true },
  -- LDG_PUT (09_ledger.md R247)
  { off := 0x5C, wo := 0x1FF, perCore := true },
  -- LDG_PUTST (09_ledger.md R247)
  { off := 0x60, perCore := true },
  -- LDG_PUTSEQ_LO (09_ledger.md R247)
  { off := 0x64, word := 0, words := 2, perCore := true },
  -- LDG_PUTSEQ_HI (09_ledger.md R247)
  { off := 0x68, word := 1, words := 2, perCore := true },
  -- LDG_TAT_LO (09_ledger.md R263)
  { off := 0x80, rw := 0xFFFFFFFF, word := 0, words := 2 },
  -- LDG_TAT_HI (09_ledger.md R263)
  { off := 0x84, rw := 0xFFFFFFFF, word := 1, words := 2 },
  -- LDG_TNEW (09_ledger.md R263)
  { off := 0x88, rw := 0xFFFF },
  -- LDG_EPOCH (09_ledger.md R265)
  { off := 0x8C },
  -- LDG_IBASE_LO (09_ledger.md R263)
  { off := 0x90, rw := 0xFFFFFFFF, word := 0, words := 2 },
  -- LDG_IBASE_HI (09_ledger.md R263)
  { off := 0x94, rw := 0xFFFFFFFF, word := 1, words := 2 },
  -- LDG_IPERIOD (09_ledger.md R263)
  { off := 0x98, rw := 0x1FFFF, enc := [⟨0, 17, [(0, 86400)]⟩] },
  -- LDG_INTERVAL (09_ledger.md R265)
  { off := 0x9C },
  -- LDG_NEXTB_LO (09_ledger.md R264)
  { off := 0xA0, word := 0, words := 2 },
  -- LDG_NEXTB_HI (09_ledger.md R264)
  { off := 0xA4, word := 1, words := 2 },
  -- LDG_NEXTK (09_ledger.md R264)
  { off := 0xA8 },
  -- LDG_RESTR (09_ledger.md R270)
  { off := 0xAC, rw := 1, lock := .once },
  -- LDG_TDEF_A (09_ledger.md R259)
  { off := 0x100, n1 := 64, s1 := 8, rw := 0x87FFBFFF, enc := [⟨24, 3, [(0, 5), (7, 7)]⟩] },
  -- LDG_TDEF_B (09_ledger.md R259)
  { off := 0x104, n1 := 64, s1 := 8, rw := 0xFF },
  -- LDG_TALLY_LO (09_ledger.md R262)
  { off := 0x400, n1 := 64, s1 := 8, word := 0, words := 2 },
  -- LDG_TALLY_HI (09_ledger.md R262)
  { off := 0x404, n1 := 64, s1 := 8, word := 1, words := 2 },
  -- LDG_SNAPSEQ_LO (09_ledger.md R262)
  { off := 0x600, word := 0, words := 2 },
  -- LDG_SNAPSEQ_HI (09_ledger.md R262)
  { off := 0x604, word := 1, words := 2 },
  -- LDG_TSAT_LO (09_ledger.md R260)
  { off := 0x608, word := 0, words := 2 },
  -- LDG_TSAT_HI (09_ledger.md R260)
  { off := 0x60C, word := 1, words := 2 },
  -- LDG_ORG_LO (09_ledger.md R253)
  { off := 0x800, n1 := 64, s1 := 8, word := 0, words := 2 },
  -- LDG_ORG_HI (09_ledger.md R253)
  { off := 0x804, n1 := 64, s1 := 8, word := 1, words := 2 } ]

def lnkTable : List RegRow := [
  -- LNK_CFG (10_vehicle_link.md R293)
  { off := 0, rw := 7 },
  -- LNK_ID (10_vehicle_link.md R296)
  { off := 4, rw := 0x3F, lock := .once },
  -- LNK_ETYPE (10_vehicle_link.md R273)
  { off := 8, reset := 0x88B5, rw := 0xFFFF },
  -- LNK_STAT (10_vehicle_link.md R293)
  { off := 0xC },
  -- LNK_EVT (10_vehicle_link.md R311)
  { off := 0x10, w1c := 0xFFFF },
  -- LNK_CMD (10_vehicle_link.md R293)
  { off := 0x14, wo := 0xF000003F, enc := [⟨28, 4, [(1, 3)]⟩] },
  -- LNK_CMDST (10_vehicle_link.md R311)
  { off := 0x18 },
  -- LNK_REJECT (10_vehicle_link.md R40)
  { off := 0x1C, rc := 0xFFFFFFFF },
  -- LNK_DEPUTY (10_vehicle_link.md R298)
  { off := 0x20, rw := 0x8000003F },
  -- LNK_FOTO (10_vehicle_link.md R302)
  { off := 0x24, reset := 4, rw := 0xFF, enc := [⟨0, 8, [(2, 60)]⟩] },
  -- LNK_DEADB (10_vehicle_link.md R297)
  { off := 0x28, reset := 3, rw := 0xFF, enc := [⟨0, 8, [(1, 60)]⟩] },
  -- LNK_TIME_LO (10_vehicle_link.md R279)
  { off := 0x30, word := 0, words := 2 },
  -- LNK_TIME_HI (10_vehicle_link.md R279)
  { off := 0x34, word := 1, words := 2 },
  -- LNK_ADMIT_LO (10_vehicle_link.md R297)
  { off := 0x38, word := 0, words := 2 },
  -- LNK_ADMIT_HI (10_vehicle_link.md R297)
  { off := 0x3C, word := 1, words := 2 },
  -- LNK_OBS_LO (10_vehicle_link.md R295)
  { off := 0x40, word := 0, words := 2 },
  -- LNK_OBS_HI (10_vehicle_link.md R295)
  { off := 0x44, word := 1, words := 2 },
  -- LNK_RACL_LO (10_vehicle_link.md R307)
  { off := 0x48, rw := 0xFFFFFFFF, word := 0, words := 2, g0Write := true },
  -- LNK_RACL_HI (10_vehicle_link.md R307)
  { off := 0x4C, rw := 0xFFFFFFFF, word := 1, words := 2, g0Write := true },
  -- LNK_RSTAUTH (10_vehicle_link.md R307)
  { off := 0x50, rw := 1, g0Write := true },
  -- LNK_PLANCRC (10_vehicle_link.md R286)
  { off := 0x54 },
  -- LNK_MPLANCRC (10_vehicle_link.md R286)
  { off := 0x58 },
  -- LNK_WIN:0 (10_vehicle_link.md R286)
  { off := 0x60, reset := 0xC40, rw := 0xFFFFFFFF, sh := some 12 },
  -- LNK_WIN:1 (10_vehicle_link.md R286)
  { off := 0x64, reset := 0xC401000, rw := 0xFFFFFFFF, sh := some 12 },
  -- LNK_WIN:2 (10_vehicle_link.md R286)
  { off := 0x68, reset := 0x1C401800, rw := 0xFFFFFFFF, sh := some 12 },
  -- LNK_WIN:3 (10_vehicle_link.md R286)
  { off := 0x6C, reset := 0x34406000, rw := 0xFFFFFFFF, sh := some 12 },
  -- LNK_WIN:4 (10_vehicle_link.md R286)
  { off := 0x70, reset := 0x94406BC0, rw := 0xFFFFFFFF, sh := some 12 },
  -- LNK_PORT (10_vehicle_link.md R275)
  { off := 0x80, n1 := 3, s1 := 0x10, rw := 0x3F },
  -- LNK_PSTAT (10_vehicle_link.md R275)
  { off := 0x84, n1 := 3, s1 := 0x10, reset := 0x3F0000 },
  -- LNK_PERR (10_vehicle_link.md R291)
  { off := 0x88, n1 := 3, s1 := 0x10, rc := 0xFFFFFFFF },
  -- LNK_PDELAY (10_vehicle_link.md R279)
  { off := 0x8C, n1 := 3, s1 := 0x10 },
  -- LNK_CRED (10_vehicle_link.md R288)
  { off := 0xC0, n1 := 2 },
  -- LNK_HELD (10_vehicle_link.md R287)
  { off := 0xD0, n1 := 5 },
  -- LNK_BOOTBASE (10_vehicle_link.md R304)
  { off := 0x100, rw := 0xFFFFFFFF },
  -- LNK_BOOTLEN (10_vehicle_link.md R304)
  { off := 0x104, rw := 0xFFFFFF },
  -- LNK_BOOTCTL (10_vehicle_link.md R304)
  { off := 0x108, rw := 1 },
  -- LNK_QTX_BASE (10_vehicle_link.md R310)
  { off := 0x110, rw := 0xFFFFFFE0 },
  -- LNK_QTX_CTL (10_vehicle_link.md R310)
  { off := 0x114, reset := 2, rw := 0xF, w1c := 0x80000000, enc := [⟨0, 4, [(2, 8)]⟩] },
  -- LNK_QTX_WR (10_vehicle_link.md R310)
  { off := 0x118, rw := 0xFF },
  -- LNK_QTX_RD (10_vehicle_link.md R310)
  { off := 0x11C },
  -- LNK_QRX_BASE (10_vehicle_link.md R310)
  { off := 0x120, rw := 0xFFFFFFE0 },
  -- LNK_QRX_CTL (10_vehicle_link.md R310)
  { off := 0x124, reset := 2, rw := 0xF, enc := [⟨0, 4, [(2, 8)]⟩] },
  -- LNK_QRX_WR (10_vehicle_link.md R310)
  { off := 0x128 },
  -- LNK_QRX_RD (10_vehicle_link.md R310)
  { off := 0x12C, rw := 0xFF },
  -- LNK_RAWDROP (10_vehicle_link.md R310)
  { off := 0x130, rc := 0xFFFFFFFF },
  -- LNK_IGN (10_vehicle_link.md R284)
  { off := 0x134, rc := 0xFFFFFFFF },
  -- LNK_UID_LO (10_vehicle_link.md R294)
  { off := 0x140, word := 0, words := 2 },
  -- LNK_UID_HI (10_vehicle_link.md R294)
  { off := 0x144, word := 1, words := 2 },
  -- LNK_ANN_BEAT_LO (10_vehicle_link.md R301)
  { off := 0x200, n1 := 8, s1 := 0x10, rw := 0xFFFFFFFF, word := 0, words := 2 },
  -- LNK_ANN_BEAT_HI (10_vehicle_link.md R301)
  { off := 0x204, n1 := 8, s1 := 0x10, rw := 0xFFFFFFFF, word := 1, words := 2 },
  -- LNK_ANN_TAG (10_vehicle_link.md R301)
  { off := 0x208, n1 := 8, s1 := 0x10, rw := 0xFFFFFFFF },
  -- LNK_ANN_CTL (10_vehicle_link.md R301)
  { off := 0x20C, n1 := 8, s1 := 0x10, rw := 1 },
  -- LNK_ASTR (10_vehicle_link.md R305)
  { off := 0x300, n1 := 4, rw := 0x800F800F } ]

def rasRows (p : Nat) : List RegRow := [
  -- RAS_CTRL (11_raster_engine.md R313)
  { off := 0, rw := 1, sh := some (p + 1) },
  -- RAS_BGCOL (11_raster_engine.md R315)
  { off := 4, rw := 0xFFFFFF, sh := some (p + 1) },
  -- RAS_STAT (11_raster_engine.md R313)
  { off := 8, reset := 0x7FF },
  -- RAS_EVT (11_raster_engine.md R333)
  { off := 0xC, w1c := 0x87F },
  -- RAS_CMDST (11_raster_engine.md R325)
  { off := 0x10 },
  -- RAS_REJECT (11_raster_engine.md R40)
  { off := 0x14, rc := 0xFFFFFFFF },
  -- RAS_READY (11_raster_engine.md R325)
  { off := 0x18, w1s := 0x3F },
  -- RAS_UNREADY (11_raster_engine.md R325)
  { off := 0x1C, wo := 0x3F },
  -- RAS_LSTAT (11_raster_engine.md R326)
  { off := 0x20 },
  -- RAS_LUNDER (11_raster_engine.md R335)
  { off := 0x24, rc := 0xFFFFFFFF },
  -- RAS_SPOVFCNT (11_raster_engine.md R323)
  { off := 0x28, rc := 0xFFFFFFFF },
  -- RAS_FERRCNT (11_raster_engine.md R334)
  { off := 0x2C, rc := 0xFFFFFFFF },
  -- SP_CTL (11_raster_engine.md R322)
  { off := 0x1A0, rw := 1, sh := some (p + 1) },
  -- SP_CLIP (11_raster_engine.md R315)
  { off := 0x1A4, reset := 0x7FF0000, rw := 0x7FF07FF, sh := some (p + 1) },
  -- BSQ_BASE (11_raster_engine.md R329)
  { off := 0x200, reset := 0x4000, rw := 0xFFFC, sh := some (p + 1), enc := [⟨2, 14, [(4096, 16383)]⟩] },
  -- BSQ_CTL (11_raster_engine.md R329)
  { off := 0x204, rw := 1, sh := some (p + 1) },
  -- BSQ_STAT (11_raster_engine.md R333)
  { off := 0x208 },
  -- BSQ_PC (11_raster_engine.md R329)
  { off := 0x20C },
  -- BSQ_B (11_raster_engine.md R330)
  { off := 0x220, n1 := 8 } ]

def rasRowsAB (p : Nat) : List RegRow := [
  -- LBUF_BACK (11_raster_engine.md R325)
  { off := 0x40, n1 := 6, s1 := 0x10, rw := 0xFFFFFFFF },
  -- LBUF_FRONT (11_raster_engine.md R326)
  { off := 0x44, n1 := 6, s1 := 0x10 },
  -- LBUF_CFG (11_raster_engine.md R326)
  { off := 0x48, n1 := 6, s1 := 0x10, reset := 8, rw := 0x3FF, enc := [⟨8, 2, [(0, 2)]⟩] },
  -- LBUF_FILL (11_raster_engine.md R327)
  { off := 0x4C, n1 := 6, s1 := 0x10, rw := 0xFFFFFFFF },
  -- BG_CTL (11_raster_engine.md R318)
  { off := 0x100, n1 := 3, s1 := 0x20, reset := 0xFF000000, rw := 0xFF003FFF, sh := some (p + 1), enc := [⟨12, 1, [(0, 0)]⟩] },
  -- BG_CTL of BG3, the one layer that may be affine (11_raster_engine.md R320)
  { off := 0x160, reset := 0xFF000000, rw := 0xFF003FFF, sh := some (p + 1) },
  -- BG_CHR (11_raster_engine.md R318)
  { off := 0x104, n1 := 4, s1 := 0x20, rw := 0xFFFFFFE0, sh := some (p + 1) },
  -- BG_SCROLL (11_raster_engine.md R319)
  { off := 0x108, n1 := 4, s1 := 0x20, rw := 0xFFFFFFFF, sh := some (p + 1) },
  -- BG_CLIP (11_raster_engine.md R315)
  { off := 0x10C, n1 := 4, s1 := 0x20, reset := 0x7FF0000, rw := 0x7FF07FF, sh := some (p + 1) },
  -- BG3_XFA (11_raster_engine.md R320)
  { off := 0x170, reset := 0x1000, rw := 0xFFFFFFFF, sh := some (p + 1) },
  -- BG3_XFB (11_raster_engine.md R320)
  { off := 0x174, reset := 0x10000000, rw := 0xFFFFFFFF, sh := some (p + 1) },
  -- BG3_ORGU (11_raster_engine.md R320)
  { off := 0x178, rw := 0xFFFFFFFF, sh := some (p + 1) },
  -- BG3_ORGV (11_raster_engine.md R320)
  { off := 0x17C, rw := 0xFFFFFFFF, sh := some (p + 1) },
  -- BM_CTL (11_raster_engine.md R321)
  { off := 0x180, reset := 0xFF000000, rw := 0xFF0000E7, sh := some (p + 1), enc := [⟨1, 2, [(0, 2)]⟩] },
  -- BM_SIZE (11_raster_engine.md R321)
  { off := 0x184, rw := 0xFFF0FFF, sh := some (p + 1) },
  -- BM_POS (11_raster_engine.md R321)
  { off := 0x188, rw := 0x1FFF1FFF, sh := some (p + 1) },
  -- BM_PITCH (11_raster_engine.md R321)
  { off := 0x18C, rw := 0xFFF0, sh := some (p + 1) },
  -- BM_CLIP (11_raster_engine.md R315)
  { off := 0x190, reset := 0x7FF0000, rw := 0x7FF07FF, sh := some (p + 1) } ]

def rasRowsC (p : Nat) : List RegRow := [
  -- LBUF_BACK (11_raster_engine.md R325)
  { off := 0x40, n1 := 2, s1 := 0x10, rw := 0xFFFFFFFF },
  -- LBUF_BACK (11_raster_engine.md R325)
  { off := 0x90, rw := 0xFFFFFFFF },
  -- LBUF_FRONT (11_raster_engine.md R326)
  { off := 0x44, n1 := 2, s1 := 0x10 },
  -- LBUF_FRONT (11_raster_engine.md R326)
  { off := 0x94 },
  -- LBUF_CFG (11_raster_engine.md R326)
  { off := 0x48, n1 := 2, s1 := 0x10, reset := 8, rw := 0x3FF, enc := [⟨8, 2, [(0, 2)]⟩] },
  -- LBUF_CFG (11_raster_engine.md R326)
  { off := 0x98, reset := 8, rw := 0x3FF, enc := [⟨8, 2, [(0, 2)]⟩] },
  -- LBUF_FILL (11_raster_engine.md R327)
  { off := 0x4C, n1 := 2, s1 := 0x10, rw := 0xFFFFFFFF },
  -- LBUF_FILL (11_raster_engine.md R327)
  { off := 0x9C, rw := 0xFFFFFFFF },
  -- BG_CTL (11_raster_engine.md R318)
  { off := 0x100, n1 := 2, s1 := 0x20, reset := 0xFF000000, rw := 0xFF003FFF, sh := some (p + 1), enc := [⟨12, 1, [(0, 0)]⟩] },
  -- BG_CHR (11_raster_engine.md R318)
  { off := 0x104, n1 := 2, s1 := 0x20, rw := 0xFFFFFFE0, sh := some (p + 1) },
  -- BG_SCROLL (11_raster_engine.md R319)
  { off := 0x108, n1 := 2, s1 := 0x20, rw := 0xFFFFFFFF, sh := some (p + 1) },
  -- BG_CLIP (11_raster_engine.md R315)
  { off := 0x10C, n1 := 2, s1 := 0x20, reset := 0x7FF0000, rw := 0x7FF07FF, sh := some (p + 1) } ]

/-- The register table of raster pipe `p`: pipe C has no BG2, BG3 or BM registers and no LBUF blocks 2 to 4. -/
def rasTable (p : Nat) : List RegRow := if p < 2 then rasRows p ++ rasRowsAB p else rasRows p ++ rasRowsC p

def outTable : List RegRow := [
  -- OUT_EVT (12_outputs_and_visor.md R338)
  { off := 0, w1c := 0xFFF },
  -- OUT_CMDST (12_outputs_and_visor.md R347)
  { off := 4 },
  -- OUT_REJECT (12_outputs_and_visor.md R40)
  { off := 8, rc := 0xFFFFFFFF },
  -- OUT_PCLK:0 (12_outputs_and_visor.md R342)
  { off := 0x10, rw := 0x3FFFF, sh := some 4 },
  -- OUT_PCLK:1 (12_outputs_and_visor.md R342)
  { off := 0x14, rw := 0x3FFFF, sh := some 5 },
  -- OUT_PCLK:2 (12_outputs_and_visor.md R342)
  { off := 0x18, rw := 0x3FFFF, sh := some 6 },
  -- OUT_A_CTL (12_outputs_and_visor.md R342)
  { off := 0x100, rw := 0x7F, sh := some 4 },
  -- OUT_A_HTIM0 (12_outputs_and_visor.md R339)
  { off := 0x104, rw := 0x1FFF1FFF, sh := some 4 },
  -- OUT_A_HTIM1 (12_outputs_and_visor.md R339)
  { off := 0x108, rw := 0x1FFF1FFF, sh := some 4 },
  -- OUT_A_VTIM0 (12_outputs_and_visor.md R339)
  { off := 0x10C, rw := 0x1FFF1FFF, sh := some 4 },
  -- OUT_A_VTIM1 (12_outputs_and_visor.md R339)
  { off := 0x110, rw := 0x1FFF1FFF, sh := some 4 },
  -- OUT_A_VFP2 (12_outputs_and_visor.md R340)
  { off := 0x114, rw := 0x1FFF, sh := some 4 },
  -- OUT_A_STAT (12_outputs_and_visor.md R338)
  { off := 0x118 },
  -- OUT_A_CUTCNT (12_outputs_and_visor.md R341)
  { off := 0x11C, rc := 0xFFFFFFFF },
  -- OUT_B_CTL (12_outputs_and_visor.md R344)
  { off := 0x200, reset := 0x2000, rw := 0x7FFFF, sh := some 5, enc := [⟨4, 2, [(0, 2)]⟩, ⟨14, 2, [(0, 2)]⟩] },
  -- OUT_B_HTIM0 (12_outputs_and_visor.md R339)
  { off := 0x204, rw := 0x1FFF1FFF, sh := some 5 },
  -- OUT_B_HTIM1 (12_outputs_and_visor.md R339)
  { off := 0x208, rw := 0x1FFF1FFF, sh := some 5 },
  -- OUT_B_VTIM0 (12_outputs_and_visor.md R339)
  { off := 0x20C, rw := 0x1FFF1FFF, sh := some 5 },
  -- OUT_B_VTIM1 (12_outputs_and_visor.md R339)
  { off := 0x210, rw := 0x1FFF1FFF, sh := some 5 },
  -- OUT_B_STAT (12_outputs_and_visor.md R338)
  { off := 0x218 },
  -- OUT_B_CUTCNT (12_outputs_and_visor.md R341)
  { off := 0x21C, rc := 0xFFFFFFFF },
  -- OUT_B_PHY (12_outputs_and_visor.md R344)
  { off := 0x220, reset := 0x32, rw := 0x7F, sh := some 5 },
  -- OUT_B_TEWIN (12_outputs_and_visor.md R345)
  { off := 0x224, reset := 0x1F40, rw := 0xFFFF, sh := some 5 },
  -- OUT_B_PSRB (12_outputs_and_visor.md R348)
  { off := 0x228, reset := 0x3C, rw := 0xFFFF, sh := some 5 },
  -- OUT_B_TEMISSCNT (12_outputs_and_visor.md R345)
  { off := 0x22C, rc := 0xFFFFFFFF },
  -- OUT_B_PSRCRC (12_outputs_and_visor.md R348)
  { off := 0x230 },
  -- OUT_B_PSRACT (12_outputs_and_visor.md R348)
  { off := 0x234 },
  -- OUT_B_CMDHDR (12_outputs_and_visor.md R347)
  { off := 0x238, wo := 0x3FFFFFF },
  -- OUT_B_CMDST (12_outputs_and_visor.md R347)
  { off := 0x23C },
  -- OUT_B_CMDBUF (12_outputs_and_visor.md R347)
  { off := 0x240, n1 := 16, rw := 0xFFFFFFFF },
  -- OUT_B_RDATA (12_outputs_and_visor.md R347)
  { off := 0x280, n1 := 4 },
  -- OUT_B_ERRRPT (12_outputs_and_visor.md R347)
  { off := 0x290 },
  -- OUT_C_CTL (12_outputs_and_visor.md R350)
  { off := 0x300, reset := 0x100, rw := 0xF07, sh := some 6, enc := [⟨1, 2, [(0, 2)]⟩] },
  -- OUT_C_GEOM (12_outputs_and_visor.md R349)
  { off := 0x304, reset := 0x40, rw := 0x3FF, sh := some 6 },
  -- OUT_C_TIM (12_outputs_and_visor.md R350)
  { off := 0x308, reset := 0x80001, rw := 0xFF00FF, sh := some 6 },
  -- OUT_C_STAT (12_outputs_and_visor.md R350)
  { off := 0x30C },
  -- OUT_C_HOLDCNT (12_outputs_and_visor.md R349)
  { off := 0x310, rc := 0xFFFFFFFF },
  -- OUT_C_SHORTCNT (12_outputs_and_visor.md R351)
  { off := 0x314, rc := 0xFFFFFFFF },
  -- OUT_C_GAMMA (12_outputs_and_visor.md R350)
  { off := 0x400, n1 := 3, s1 := 0x400, n2 := 256, rw := 0x3FF, special := .gamma } ]

def bltTable : List RegRow := [
  -- BLT_CTRL (13_blitter.md R365)
  { off := 0, wo := 7 },
  -- BLT_CFG (13_blitter.md R373)
  { off := 4, rw := 0x3FF },
  -- BLT_RBASE (13_blitter.md R365)
  { off := 8, rw := 0xFFFFFFF0 },
  -- BLT_RSIZE (13_blitter.md R365)
  { off := 0xC, reset := 4, rw := 0xF, enc := [⟨0, 4, [(2, 12)]⟩] },
  -- BLT_WR (13_blitter.md R363)
  { off := 0x10, rw := 0xFFF },
  -- BLT_RD (13_blitter.md R362)
  { off := 0x14 },
  -- BLT_STAT (13_blitter.md R362)
  { off := 0x18, reset := 8 },
  -- BLT_EVT (13_blitter.md R376)
  { off := 0x1C, w1c := 0xFF },
  -- BLT_CMDST (13_blitter.md R365)
  { off := 0x20 },
  -- BLT_REJECT (13_blitter.md R40)
  { off := 0x24, rc := 0xFFFFFFFF },
  -- BLT_ERRADDR (13_blitter.md R379)
  { off := 0x28 },
  -- BLT_LASTTAG (13_blitter.md R362)
  { off := 0x2C },
  -- BLT_DONECNT (13_blitter.md R362)
  { off := 0x30 },
  -- BLT_OVRCNT (13_blitter.md R378)
  { off := 0x34, rc := 0xFFFFFFFF } ]

def audTable : List RegRow := [
  -- AUD_CTRL (14_audio.md R388)
  { off := 0, rw := 1, sh := some 8 },
  -- AUD_STAT (14_audio.md R385)
  { off := 4 },
  -- AUD_EVT (14_audio.md R409)
  { off := 8, w1c := 0x1FFF },
  -- AUD_CMDST (14_audio.md R393)
  { off := 0xC },
  -- AUD_REJECT (14_audio.md R40)
  { off := 0x10, rc := 0xFFFFFFFF },
  -- AUD_RSTART (14_audio.md R385)
  { off := 0x14, reset := 0x3800, rw := 0xFFFF, sh := some 8 },
  -- AUD_PBEAT_LO (14_audio.md R385)
  { off := 0x18, word := 0, words := 2 },
  -- AUD_PBEAT_HI (14_audio.md R385)
  { off := 0x1C, word := 1, words := 2 },
  -- AUD_RTIME (14_audio.md R385)
  { off := 0x20, rc := 0xFFFF0000 },
  -- AUD_DROPBLK (14_audio.md R387)
  { off := 0x24, rc := 0xFFFFFFFF },
  -- AUD_SLIPCNT (14_audio.md R384)
  { off := 0x28, rc := 0xFFFFFFFF },
  -- AUD_VCMD (14_audio.md R393)
  { off := 0x100, wo := 0xFFFF001F, enc := [⟨28, 4, [(1, 3)]⟩] },
  -- AUD_VAT_LO (14_audio.md R393)
  { off := 0x104, rw := 0xFFFFFFFF, word := 0, words := 2 },
  -- AUD_VAT_HI (14_audio.md R393)
  { off := 0x108, rw := 0xFFFFFFFF, word := 1, words := 2 },
  -- V_CFG (14_audio.md R394)
  { off := 0x400, n1 := 32, s1 := 0x20, rw := 0x37, enc := [⟨0, 2, [(0, 2)]⟩] },
  -- V_START (14_audio.md R394)
  { off := 0x404, n1 := 32, s1 := 0x20, rw := 0xFFFFFFFF },
  -- V_LEN (14_audio.md R394)
  { off := 0x408, n1 := 32, s1 := 0x20, rw := 0xFFFFFF },
  -- V_LOOPS (14_audio.md R394)
  { off := 0x40C, n1 := 32, s1 := 0x20, rw := 0xFFFFFF },
  -- V_LOOPE (14_audio.md R394)
  { off := 0x410, n1 := 32, s1 := 0x20, rw := 0xFFFFFF },
  -- V_PITCH (14_audio.md R391)
  { off := 0x414, n1 := 32, s1 := 0x20, reset := 0x10000, rw := 0xFFFFFF, enc := [⟨0, 24, [(1, 262144)]⟩] },
  -- V_ENV (14_audio.md R392)
  { off := 0x418, n1 := 32, s1 := 0x20, reset := 0xFF000000, rw := 0xFFFFFFFF },
  -- V_VOL (14_audio.md R390)
  { off := 0x41C, n1 := 32, s1 := 0x20, reset := 0x7FFF, rw := 0x7FFF },
  -- V_STAT (14_audio.md R392)
  { off := 0x800, n1 := 32 },
  -- T_CTL (14_audio.md R396)
  { off := 0xC00, n1 := 4, s1 := 0x10, rw := 7, sh := some 8 },
  -- T_FREQ (14_audio.md R396)
  { off := 0xC04, n1 := 4, s1 := 0x10, rw := 0xFFFFFF, sh := some 8 },
  -- T_LEVEL (14_audio.md R396)
  { off := 0xC08, n1 := 4, s1 := 0x10, rw := 0xFFFF, sh := some 8 },
  -- I_CFG (14_audio.md R397)
  { off := 0xD00, n1 := 2, s1 := 0x10, reset := 0x140, rw := 0x1FF, sh := some 8, enc := [⟨2, 2, [(0, 2)]⟩, ⟨4, 2, [(0, 2)]⟩, ⟨6, 2, [(0, 2)]⟩] },
  -- I_STAT (14_audio.md R397)
  { off := 0xD04, n1 := 2, s1 := 0x10 },
  -- PDM_CFG (14_audio.md R397)
  { off := 0xE00, rw := 0xF, sh := some 8 },
  -- PDM_GAIN (14_audio.md R397)
  { off := 0xE04, n1 := 4, reset := 0x7FFF, rw := 0xFFFF, sh := some 8 },
  -- SEL (14_audio.md R398)
  { off := 0x1000, n1 := 8, s1 := 0x100, n2 := 16, rw := 0xFFFF007F, sh := some 8, enc := [⟨0, 7, [(0, 60), (64, 71)]⟩] },
  -- BUS_CFG (14_audio.md R399)
  { off := 0x1040, n1 := 8, s1 := 0x100, rw := 0xFFF0073, sh := some 8 },
  -- BUS_DUCK (14_audio.md R402)
  { off := 0x1044, n1 := 8, s1 := 0x100, reset := 0x14010C28, rw := 0xFFFFFFFF, sh := some 8 },
  -- EQ_B0 (14_audio.md R401)
  { off := 0x1050, n1 := 8, s1 := 0x100, n2 := 5, s2 := 0x14, reset := 0x10000000, rw := 0xFFFFFFFF, sh := some 8 },
  -- EQ_B1 (14_audio.md R401)
  { off := 0x1054, n1 := 8, s1 := 0x100, n2 := 5, s2 := 0x14, rw := 0xFFFFFFFF, sh := some 8 },
  -- EQ_B2 (14_audio.md R401)
  { off := 0x1058, n1 := 8, s1 := 0x100, n2 := 5, s2 := 0x14, rw := 0xFFFFFFFF, sh := some 8 },
  -- EQ_A1 (14_audio.md R401)
  { off := 0x105C, n1 := 8, s1 := 0x100, n2 := 5, s2 := 0x14, rw := 0xFFFFFFFF, sh := some 8 },
  -- EQ_A2 (14_audio.md R401)
  { off := 0x1060, n1 := 8, s1 := 0x100, n2 := 5, s2 := 0x14, rw := 0xFFFFFFFF, sh := some 8 },
  -- BUS_STAT (14_audio.md R400)
  { off := 0x10C0, n1 := 8, s1 := 0x100 },
  -- Z_CFG (14_audio.md R403)
  { off := 0x1800, n1 := 8, s1 := 0x10, reset := 0x7FFF000F, rw := 0xFFFF001F, sh := some 8, enc := [⟨0, 4, [(0, 7), (15, 15)]⟩] },
  -- Z_LIM (14_audio.md R403)
  { off := 0x1804, n1 := 8, s1 := 0x10, reset := 0x320130, rw := 0xFFFFFFFF, sh := some 8, enc := [⟨0, 8, [(1, 240)]⟩] },
  -- Z_CLIPCNT (14_audio.md R403)
  { off := 0x1808, n1 := 8, s1 := 0x10, rc := 0xFFFFFFFF },
  -- O_CFG (14_audio.md R404)
  { off := 0x1900, n1 := 2, s1 := 0x40, reset := 0x140, rw := 0x1FD, sh := some 8, enc := [⟨2, 2, [(0, 2)]⟩, ⟨4, 2, [(0, 2)]⟩, ⟨6, 2, [(0, 2)]⟩] },
  -- O_MAP (14_audio.md R404)
  { off := 0x1904, n1 := 2, s1 := 0x40, reset := 0xFFFFFFFF, rw := 0xFFFFFFFF, sh := some 8, enc := [⟨0, 4, [(0, 7), (15, 15)]⟩, ⟨4, 4, [(0, 7), (15, 15)]⟩, ⟨8, 4, [(0, 7), (15, 15)]⟩, ⟨12, 4, [(0, 7), (15, 15)]⟩, ⟨16, 4, [(0, 7), (15, 15)]⟩, ⟨20, 4, [(0, 7), (15, 15)]⟩, ⟨24, 4, [(0, 7), (15, 15)]⟩, ⟨28, 4, [(0, 7), (15, 15)]⟩] },
  -- LS_CFG (14_audio.md R408)
  { off := 0x1A00, n1 := 4, s1 := 0x10, reset := 0xF0, rw := 0xF1, sh := some 8 },
  -- AUD_LS_UNDER (14_audio.md R407)
  { off := 0x1A04, n1 := 4, s1 := 0x10, rc := 0xFFFFFFFF },
  -- AUD_LS_LATE (14_audio.md R407)
  { off := 0x1A08, n1 := 4, s1 := 0x10, rc := 0xFFFFFFFF },
  -- AUD_LS_BAD (14_audio.md R407)
  { off := 0x1A0C, n1 := 4, s1 := 0x10, rc := 0xFFFFFFFF } ]

def camTable : List RegRow := [
  -- CAM_EVT (15_camera_and_recorder.md R430)
  { off := 0, w1c := 0x1FFF },
  -- CAM_CMDST (15_camera_and_recorder.md R415)
  { off := 4 },
  -- CAM_REJECT (15_camera_and_recorder.md R40)
  { off := 8, rc := 0xFFFFFFFF },
  -- CAM_CTL (15_camera_and_recorder.md R411)
  { off := 0x100, n1 := 2, s1 := 0x80, reset := 0x2A00, rw := 0x3FF3F, sh := some 9, enc := [⟨8, 6, [(30, 30), (34, 34), (36, 36), (42, 44)]⟩, ⟨14, 2, [(0, 2)]⟩] },
  -- CAM_GEOM (15_camera_and_recorder.md R412)
  { off := 0x104, n1 := 2, s1 := 0x80, rw := 0x1FFF1FFF, sh := some 9 },
  -- CAM_FBASE (15_camera_and_recorder.md R412)
  { off := 0x108, n1 := 2, s1 := 0x80, rw := 0xFFFFFFE0, sh := some 9 },
  -- CAM_FPITCH (15_camera_and_recorder.md R412)
  { off := 0x10C, n1 := 2, s1 := 0x80, rw := 0xFFF0, sh := some 9 },
  -- CAM_NBUF (15_camera_and_recorder.md R412)
  { off := 0x110, n1 := 2, s1 := 0x80, reset := 2, rw := 0xF, sh := some 9 },
  -- CAM_USE (15_camera_and_recorder.md R415)
  { off := 0x114, n1 := 2, s1 := 0x80, rw := 7, sh := some 9 },
  -- CAM_FILL (15_camera_and_recorder.md R416)
  { off := 0x118, n1 := 2, s1 := 0x80, rw := 0xFFFFFF, sh := some 9 },
  -- CAM_FS (15_camera_and_recorder.md R413)
  { off := 0x11C, n1 := 2, s1 := 0x80, reset := 0xA0000, rw := 0xFFFFFFFF, sh := some 9 },
  -- CAM_BSTAT (15_camera_and_recorder.md R414)
  { off := 0x120, n1 := 2, s1 := 0x80 },
  -- CAM_BHOLD (15_camera_and_recorder.md R415)
  { off := 0x124, n1 := 2, s1 := 0x80 },
  -- CAM_REL (15_camera_and_recorder.md R415)
  { off := 0x128, n1 := 2, s1 := 0x80, wo := 7 },
  -- CAM_LAST (15_camera_and_recorder.md R415)
  { off := 0x12C, n1 := 2, s1 := 0x80 },
  -- CAM_FSEQ (15_camera_and_recorder.md R414)
  { off := 0x130, n1 := 2, s1 := 0x80 },
  -- CAM_LASTSEQ (15_camera_and_recorder.md R415)
  { off := 0x134, n1 := 2, s1 := 0x80 },
  -- CAM_LASTBEAT_LO (15_camera_and_recorder.md R415)
  { off := 0x138, n1 := 2, s1 := 0x80, word := 0, words := 2 },
  -- CAM_LASTBEAT_HI (15_camera_and_recorder.md R415)
  { off := 0x13C, n1 := 2, s1 := 0x80, word := 1, words := 2 },
  -- CAM_DROPCNT (15_camera_and_recorder.md R414)
  { off := 0x140, n1 := 2, s1 := 0x80, rc := 0xFFFFFFFF },
  -- CAM_SHORTCNT (15_camera_and_recorder.md R416)
  { off := 0x144, n1 := 2, s1 := 0x80, rc := 0xFFFFFFFF },
  -- CAM_LONGCNT (15_camera_and_recorder.md R416)
  { off := 0x148, n1 := 2, s1 := 0x80, rc := 0xFFFFFFFF },
  -- CAM_PERRCNT (15_camera_and_recorder.md R418)
  { off := 0x14C, n1 := 2, s1 := 0x80, rc := 0xFFFFFFFF },
  -- CAM_VCDROP (15_camera_and_recorder.md R411)
  { off := 0x150, n1 := 2, s1 := 0x80, rc := 0xFFFFFFFF } ]

def recTable : List RegRow := [
  -- REC_CTRL (15_camera_and_recorder.md R428)
  { off := 0, wo := 3 },
  -- REC_CFG (15_camera_and_recorder.md R420)
  { off := 4, reset := 0x1018, rw := 0xFFFFFF1F, sh := some 10 },
  -- REC_STAT (15_camera_and_recorder.md R428)
  { off := 8 },
  -- REC_EVT (15_camera_and_recorder.md R430)
  { off := 0xC, w1c := 0x1FF },
  -- REC_CMDST (15_camera_and_recorder.md R428)
  { off := 0x10 },
  -- REC_REJECT (15_camera_and_recorder.md R40)
  { off := 0x14, rc := 0xFFFFFFFF },
  -- REC_OBASE (15_camera_and_recorder.md R428)
  { off := 0x18, rw := 0xFFFFFFE0 },
  -- REC_OSIZE (15_camera_and_recorder.md R428)
  { off := 0x1C, rw := 0xFFFFFF },
  -- REC_JMAX (15_camera_and_recorder.md R428)
  { off := 0x20, rw := 0xFFFFFF },
  -- REC_LBA0 (15_camera_and_recorder.md R422)
  { off := 0x24, rw := 0xFFFFFFFF },
  -- REC_NSEG (15_camera_and_recorder.md R422)
  { off := 0x28, rw := 0xFFFF },
  -- REC_SEGBLK (15_camera_and_recorder.md R422)
  { off := 0x2C, rw := 0xFFFF },
  -- REC_SEG (15_camera_and_recorder.md R422)
  { off := 0x30, rw := 0xFFFFFFFF },
  -- REC_SEGPOS (15_camera_and_recorder.md R422)
  { off := 0x34 },
  -- REC_MARK (15_camera_and_recorder.md R427)
  { off := 0x38, wo := 0xFFFF0001 },
  -- REC_MTAG (15_camera_and_recorder.md R427)
  { off := 0x3C, rw := 0xFFFFFFFF },
  -- REC_MQLEN (15_camera_and_recorder.md R427)
  { off := 0x40 },
  -- REC_FRAMECNT (15_camera_and_recorder.md R425)
  { off := 0x44 },
  -- REC_OVSZCNT (15_camera_and_recorder.md R421)
  { off := 0x48, rc := 0xFFFFFFFF },
  -- REC_OVRCNT (15_camera_and_recorder.md R426)
  { off := 0x4C, rc := 0xFFFFFFFF },
  -- REC_UNRECCNT (15_camera_and_recorder.md R430)
  { off := 0x50, rc := 0xFFFFFFFF },
  -- REC_QT (15_camera_and_recorder.md R420)
  { off := 0x100, n1 := 2, s1 := 0x100, n2 := 64, reset := 1, rw := 0xFF, enc := [⟨0, 8, [(1, 255)]⟩] },
  -- REC_HT (15_camera_and_recorder.md R420)
  { off := 0x400, n1 := 4, s1 := 0x100, n2 := 64, rw := 0xFFFFFFFF } ]

def xpaTable : List RegRow := [
  -- XPA_CTRL (16_expert_array.md R444)
  { off := 0, rw := 1, sh := some 11 },
  -- XPA_SCHSEL (16_expert_array.md R444)
  { off := 4, rw := 1, sh := some 11 },
  -- XPA_STAT (16_expert_array.md R433)
  { off := 8, w1c := 0x800 },
  -- XPA_EVT (16_expert_array.md R457)
  { off := 0xC, w1c := 0x7FF },
  -- XPA_CMD (16_expert_array.md R433)
  { off := 0x10, wo := 0xF000000F, enc := [⟨28, 4, [(1, 4)]⟩] },
  -- XPA_CMDST (16_expert_array.md R433)
  { off := 0x14 },
  -- XPA_REJECT (16_expert_array.md R40)
  { off := 0x18, rc := 0xFFFFFFFF },
  -- XPA_BLOB (16_expert_array.md R433)
  { off := 0x1C, rw := 0xFFFFFFF0 },
  -- XPA_SCHADDR (16_expert_array.md R433)
  { off := 0x20, rw := 0xFFFFFFF0 },
  -- XPA_ENGSTAT (16_expert_array.md R452)
  { off := 0x24 },
  -- XPA_TESTST (16_expert_array.md R453)
  { off := 0x28 },
  -- XPA_OUTBEAT_LO (16_expert_array.md R449)
  { off := 0x2C, word := 0, words := 2 },
  -- XPA_OUTBEAT_HI (16_expert_array.md R449)
  { off := 0x30, word := 1, words := 2 },
  -- XPA_TOKDROP (16_expert_array.md R439)
  { off := 0x40, rc := 0xFFFFFFFF },
  -- XPA_FALLCNT (16_expert_array.md R439)
  { off := 0x44, rc := 0xFFFFFFFF },
  -- XPA_RDISC (16_expert_array.md R447)
  { off := 0x48, rc := 0xFFFFFFFF },
  -- XPA_QFULL (16_expert_array.md R447)
  { off := 0x4C, rc := 0xFFFFFFFF },
  -- XPA_SLOTCUT (16_expert_array.md R442)
  { off := 0x50, rc := 0xFFFFFFFF },
  -- XPA_NOFRAME (16_expert_array.md R436)
  { off := 0x54, rc := 0xFFFFFFFF },
  -- XPA_OVRCNT (16_expert_array.md R450)
  { off := 0x58, rc := 0xFFFFFFFF } ]

def tmrTable : List RegRow := [
  -- TMR_CMDST (17_timers_and_adc.md R460)
  { off := 0 },
  -- TMR_REJECT (17_timers_and_adc.md R40)
  { off := 4, rc := 0xFFFFFFFF },
  -- TMR_RUNMAP (17_timers_and_adc.md R460)
  { off := 8 },
  -- TMR_GSTART (17_timers_and_adc.md R460)
  { off := 0xC, wo := 0xFFFF },
  -- TMR_GSTOP (17_timers_and_adc.md R460)
  { off := 0x10, wo := 0xFFFF },
  -- TMR_ADCSEL (17_timers_and_adc.md R467)
  { off := 0x14, rw := 0x7F, sh := some 13, enc := [⟨0, 7, [(0, 58)]⟩] },
  -- TMR_CFG (17_timers_and_adc.md R458)
  { off := 0x100, n1 := 8, s1 := 0x80, rw := 0xFFFF0007, sh := some 13 },
  -- TMR_CFG of odd timers, with CASC (17_timers_and_adc.md R462)
  { off := 0x140, n1 := 8, s1 := 0x80, rw := 0xFFFF000F, sh := some 13 },
  -- TMR_TOP (17_timers_and_adc.md R459)
  { off := 0x104, n1 := 16, s1 := 0x40, reset := 0xFFFFFFFF, rw := 0xFFFFFFFF, sh := some 13 },
  -- TMR_COUNT (17_timers_and_adc.md R459)
  { off := 0x108, n1 := 16, s1 := 0x40, rw := 0xFFFFFFFF },
  -- TMR_CMD (17_timers_and_adc.md R460)
  { off := 0x10C, n1 := 16, s1 := 0x40, wo := 7 },
  -- TMR_STAT (17_timers_and_adc.md R459)
  { off := 0x110, n1 := 16, s1 := 0x40, w1c := 0x1F00 },
  -- TMR_CCCFG (17_timers_and_adc.md R464)
  { off := 0x114, n1 := 16, s1 := 0x40, n2 := 2, reset := 0x40, rw := 0xFFFFFDF, sh := some 13, enc := [⟨1, 3, [(0, 4)]⟩, ⟨6, 2, [(1, 3)]⟩] },
  -- TMR_CC (17_timers_and_adc.md R463)
  { off := 0x11C, n1 := 16, s1 := 0x40, n2 := 2, rw := 0xFFFFFFFF },
  -- TMR_OUT (17_timers_and_adc.md R464)
  { off := 0x124, n1 := 16, s1 := 0x40 },
  -- TMR_ACT (17_timers_and_adc.md R468)
  { off := 0x128, n1 := 16, s1 := 0x40, rw := 0x7F7F7F7F, sh := some 13, enc := [⟨0, 7, [(0, 58)]⟩, ⟨8, 7, [(0, 58)]⟩, ⟨16, 7, [(0, 58)]⟩, ⟨24, 7, [(0, 58)]⟩] },
  -- TMR_DMASEL (17_timers_and_adc.md R468)
  { off := 0x12C, n1 := 16, s1 := 0x40, rw := 0x7F, sh := some 13, enc := [⟨0, 7, [(0, 58)]⟩] },
  -- TMR_PAIR_LO (17_timers_and_adc.md R462)
  { off := 0x800, n1 := 8, s1 := 8, rw := 0xFFFFFFFF, word := 0, words := 2 },
  -- TMR_PAIR_HI (17_timers_and_adc.md R462)
  { off := 0x804, n1 := 8, s1 := 8, rw := 0xFFFFFFFF, word := 1, words := 2 } ]

def adcTable : List RegRow := [
  -- ADC_CTL (17_timers_and_adc.md R471)
  { off := 0, rw := 0xF01 },
  -- ADC_CMD (17_timers_and_adc.md R472)
  { off := 4, wo := 7 },
  -- ADC_STAT (17_timers_and_adc.md R471)
  { off := 8 },
  -- ADC_EVT (17_timers_and_adc.md R473)
  { off := 0xC, w1c := 7 },
  -- ADC_CMDST (17_timers_and_adc.md R473)
  { off := 0x10 },
  -- ADC_REJECT (17_timers_and_adc.md R40)
  { off := 0x14, rc := 0xFFFFFFFF },
  -- ADC_MISS (17_timers_and_adc.md R473)
  { off := 0x18, rc := 0xFFFFFFFF },
  -- ADC_DATA (17_timers_and_adc.md R474)
  { off := 0x1C },
  -- ADC_TCAL (17_timers_and_adc.md R470)
  { off := 0x20 },
  -- ADC_SEQ (17_timers_and_adc.md R471)
  { off := 0x40, n1 := 16, reset := 0x600, rw := 0xFF1F, enc := [⟨0, 5, [(0, 18)]⟩, ⟨8, 8, [(6, 255)]⟩] },
  -- ADC_RES (17_timers_and_adc.md R472)
  { off := 0x80, n1 := 16 } ]

def gpioTable : List RegRow := [
  -- GPIO_IN (18_pins.md R482)
  { off := 0, n1 := 5, s1 := 0x20 },
  -- GPIO_OUT (18_pins.md R480)
  { off := 4, n1 := 5, s1 := 0x20, rw := 0xFFFFFFFF },
  -- GPIO_SET (18_pins.md R480)
  { off := 8, n1 := 5, s1 := 0x20, wo := 0xFFFFFFFF },
  -- GPIO_CLR (18_pins.md R480)
  { off := 0xC, n1 := 5, s1 := 0x20, wo := 0xFFFFFFFF },
  -- GPIO_TGL (18_pins.md R480)
  { off := 0x10, n1 := 5, s1 := 0x20, wo := 0xFFFFFFFF },
  -- GPIO_DRV (18_pins.md R480)
  { off := 0x14, n1 := 5, s1 := 0x20 },
  -- GPIO_WKIN (18_pins.md R489)
  { off := 0x100 } ]

def pinTable : List RegRow := [
  -- PIN_CFG (18_pins.md R477)
  { off := 0, n1 := 5, s1 := 0x80, n2 := 32, reset := 0x50, rw := 0x73FF, lock := .pin, enc := [⟨8, 2, [(0, 2)]⟩, ⟨12, 3, [(0, 5)]⟩], special := .pinFunc },
  -- PIN_LKMASK (18_pins.md R485)
  { off := 0x400, n1 := 5, s1 := 0x10, rw := 0xFFFFFFFF },
  -- PIN_LKKEY (18_pins.md R485)
  { off := 0x404, n1 := 5, s1 := 0x10, wo := 0xFFFFFFFF },
  -- PIN_LOCKED (18_pins.md R486)
  { off := 0x408, n1 := 5, s1 := 0x10 },
  -- PIN_LKSTAT (18_pins.md R485)
  { off := 0x40C, n1 := 5, s1 := 0x10 } ]

def canTable : List RegRow := [
  -- CAN_EVT (20_serial_ports.md R514)
  { off := 0, w1c := 0xFFFFFFFF },
  -- CAN_CMDST (20_serial_ports.md R514)
  { off := 4 },
  -- CAN_REJECT (20_serial_ports.md R514)
  { off := 8, rc := 0xFFFFFFFF },
  -- CAN_CMD (20_serial_ports.md R517)
  { off := 0xC, wo := 7 },
  -- CAN_CFG (20_serial_ports.md R517)
  { off := 0x10, reset := 1, rw := 0xF, enc := [⟨0, 2, [(1, 3)]⟩] },
  -- CAN_NBT (20_serial_ports.md R516)
  { off := 0x14, rw := 0x7F7F7F1F },
  -- CAN_DBT (20_serial_ports.md R516)
  { off := 0x18, rw := 0x8F0F1F1F },
  -- CAN_TDCO (20_serial_ports.md R516)
  { off := 0x1C, rw := 0x7F },
  -- CAN_STAT (20_serial_ports.md R517)
  { off := 0x20 },
  -- CAN_RXBASE (20_serial_ports.md R518)
  { off := 0x24, rw := 0xFFFFFFF0 },
  -- CAN_RXCTL (20_serial_ports.md R518)
  { off := 0x28, reset := 4, rw := 0xF, enc := [⟨0, 4, [(2, 10)]⟩] },
  -- CAN_RXWR (20_serial_ports.md R518)
  { off := 0x2C },
  -- CAN_RXRD (20_serial_ports.md R518)
  { off := 0x30, rw := 0x3FF },
  -- CAN_TXBASE (20_serial_ports.md R519)
  { off := 0x34, rw := 0xFFFFFFF0 },
  -- CAN_TXCTL (20_serial_ports.md R519)
  { off := 0x38, reset := 4, rw := 0xF, enc := [⟨0, 4, [(2, 10)]⟩] },
  -- CAN_TXWR (20_serial_ports.md R519)
  { off := 0x3C, rw := 0x3FF },
  -- CAN_TXRD (20_serial_ports.md R519)
  { off := 0x40 },
  -- CAN_RXOVF (20_serial_ports.md R518)
  { off := 0x44, rc := 0xFFFFFFFF },
  -- CAN_ERRCNT (20_serial_ports.md R517)
  { off := 0x48, rc := 0xFFFFFFFF },
  -- CAN_FID (20_serial_ports.md R518)
  { off := 0x80, n1 := 16, s1 := 8, rw := 0xBFFFFFFF },
  -- CAN_FMASK (20_serial_ports.md R518)
  { off := 0x84, n1 := 16, s1 := 8, rw := 0x1FFFFFFF } ]

def uartTable : List RegRow := [
  -- UART_EVT (20_serial_ports.md R514)
  { off := 0, w1c := 0xFFFFFFFF },
  -- UART_CMDST (20_serial_ports.md R514)
  { off := 4 },
  -- UART_REJECT (20_serial_ports.md R514)
  { off := 8, rc := 0xFFFFFFFF },
  -- UART_CMD (20_serial_ports.md R521)
  { off := 0xC, wo := 0x1F },
  -- UART_CFG (20_serial_ports.md R521)
  { off := 0x10, reset := 2, rw := 0x37FF, special := .scCfg },
  -- UART_BAUD (20_serial_ports.md R521)
  { off := 0x14, reset := 0x364, rw := 0xFFFF },
  -- UART_DE (20_serial_ports.md R522)
  { off := 0x18, reset := 0x101, rw := 0xFFFF },
  -- UART_DATA (20_serial_ports.md R521)
  { off := 0x1C },
  -- UART_STAT (20_serial_ports.md R521)
  { off := 0x20, reset := 0x10000 },
  -- UART_FIFO (20_serial_ports.md R521)
  { off := 0x24, reset := 1, rw := 0xFFFF1F1F },
  -- UART_OVRCNT (20_serial_ports.md R521)
  { off := 0x28, rc := 0xFFFFFFFF },
  -- UART_TXD (20_serial_ports.md R521)
  { off := 0x2C, wo := 0x1FF },
  -- SC_CLK (20_serial_ports.md R523)
  { off := 0x30, reset := 0xE, rw := 0x33F },
  -- SC_ETU (20_serial_ports.md R523)
  { off := 0x34, reset := 0x174, rw := 0x1FFF },
  -- SC_GT (20_serial_ports.md R524)
  { off := 0x38, rw := 0xFF },
  -- SC_WT (20_serial_ports.md R524)
  { off := 0x3C, reset := 0x2580, rw := 0xFFFFFF },
  -- SC_RETRY (20_serial_ports.md R524)
  { off := 0x40, reset := 4, rw := 0x17 },
  -- SC_RSTLOW (20_serial_ports.md R523)
  { off := 0x44, reset := 0xA410, rw := 0xFFFFF } ]

def spiTable : List RegRow := [
  -- OSPI_EVT (20_serial_ports.md R514)
  { off := 0, w1c := 0xFFFFFFFF },
  -- OSPI_CMDST (20_serial_ports.md R514)
  { off := 4 },
  -- OSPI_REJECT (20_serial_ports.md R514)
  { off := 8, rc := 0xFFFFFFFF },
  -- OSPI_CMD (20_serial_ports.md R527)
  { off := 0xC, wo := 3 },
  -- OSPI_CFG (20_serial_ports.md R526)
  { off := 0x10, reset := 0x800, rw := 0xFFFFF07, enc := [⟨18, 2, [(0, 2)]⟩] },
  -- OSPI_XRD (20_serial_ports.md R526)
  { off := 0x14, reset := 3, rw := 0x1F00FF },
  -- OSPI_XCTL (20_serial_ports.md R526)
  { off := 0x18, rw := 1 },
  -- OSPI_ICMD (20_serial_ports.md R527)
  { off := 0x20, rw := 0x1DF07FF },
  -- OSPI_IADDR (20_serial_ports.md R527)
  { off := 0x24, rw := 0xFFFFFFFF },
  -- OSPI_ILEN (20_serial_ports.md R527)
  { off := 0x28, rw := 0x1FFF },
  -- OSPI_DATA (20_serial_ports.md R527)
  { off := 0x30, wo := 0xFFFFFFFF },
  -- OSPI_STAT (20_serial_ports.md R527)
  { off := 0x34 },
  -- SPI_EVT (20_serial_ports.md R514)
  { off := 0x1000, n1 := 3, s1 := 0x1000, w1c := 0xFFFFFFFF },
  -- SPI_CMDST (20_serial_ports.md R514)
  { off := 0x1004, n1 := 3, s1 := 0x1000 },
  -- SPI_REJECT (20_serial_ports.md R514)
  { off := 0x1008, n1 := 3, s1 := 0x1000, rc := 0xFFFFFFFF },
  -- SPI_CMD (20_serial_ports.md R525)
  { off := 0x100C, n1 := 3, s1 := 0x1000, wo := 3 },
  -- SPI_CFG (20_serial_ports.md R525)
  { off := 0x1010, n1 := 3, s1 := 0x1000, reset := 0x70, rw := 0x1FF01FF, enc := [⟨4, 5, [(3, 31)]⟩] },
  -- SPI_XFER (20_serial_ports.md R525)
  { off := 0x1014, n1 := 3, s1 := 0x1000, rw := 0x1FFFF },
  -- SPI_TX (20_serial_ports.md R525)
  { off := 0x1018, n1 := 3, s1 := 0x1000, wo := 0xFFFFFFFF },
  -- SPI_RX (20_serial_ports.md R525)
  { off := 0x101C, n1 := 3, s1 := 0x1000 },
  -- SPI_STAT (20_serial_ports.md R525)
  { off := 0x1020, n1 := 3, s1 := 0x1000 } ]

def i2cTable : List RegRow := [
  -- I2C_EVT (20_serial_ports.md R514)
  { off := 0, n1 := 2, s1 := 0x1000, w1c := 0xFFFFFFFF },
  -- I2C_CMDST (20_serial_ports.md R514)
  { off := 4, n1 := 2, s1 := 0x1000 },
  -- I2C_REJECT (20_serial_ports.md R514)
  { off := 8, n1 := 2, s1 := 0x1000, rc := 0xFFFFFFFF },
  -- I2C_CMD (20_serial_ports.md R528)
  { off := 0xC, n1 := 2, s1 := 0x1000, wo := 7 },
  -- I2C_CFG (20_serial_ports.md R528)
  { off := 0x10, n1 := 2, s1 := 0x1000, rw := 7, enc := [⟨1, 2, [(0, 2)]⟩] },
  -- I2C_XACT (20_serial_ports.md R528)
  { off := 0x14, n1 := 2, s1 := 0x1000, rw := 0x1FFFF7F },
  -- I2C_DATA (20_serial_ports.md R528)
  { off := 0x18, n1 := 2, s1 := 0x1000, wo := 0xFF },
  -- I2C_STAT (20_serial_ports.md R528)
  { off := 0x1C, n1 := 2, s1 := 0x1000 },
  -- I2C_TOUT (20_serial_ports.md R528)
  { off := 0x20, n1 := 2, s1 := 0x1000, reset := 0x61A8, rw := 0xFFFF },
  -- PPS_CFG (20_serial_ports.md R533)
  { off := 0x2000, rw := 3 },
  -- PPS_EVT (20_serial_ports.md R533)
  { off := 0x2004, w1c := 7 },
  -- PPS_BEAT_LO (20_serial_ports.md R533)
  { off := 0x2008, word := 0, words := 5 },
  -- PPS_BEAT_HI (20_serial_ports.md R533)
  { off := 0x200C, word := 1, words := 5 },
  -- PPS_PHASE (20_serial_ports.md R533)
  { off := 0x2010, word := 2, words := 5 },
  -- PPS_RTCSUB (20_serial_ports.md R533)
  { off := 0x2014, word := 3, words := 5 },
  -- PPS_RTCSEC (20_serial_ports.md R533)
  { off := 0x2018, word := 4, words := 5 } ]

def emmcTable : List RegRow := [
  -- EMMC_EVT (20_serial_ports.md R514)
  { off := 0, w1c := 0xFFFFFFFF },
  -- EMMC_CMDST (20_serial_ports.md R514)
  { off := 4 },
  -- EMMC_REJECT (20_serial_ports.md R514)
  { off := 8, rc := 0xFFFFFFFF },
  -- EMMC_CMD (20_serial_ports.md R530)
  { off := 0xC, wo := 0xF },
  -- EMMC_CFG (20_serial_ports.md R530)
  { off := 0x10, reset := 0x1F40000, rw := 0x7FF001F, enc := [⟨1, 2, [(0, 2)]⟩, ⟨3, 2, [(0, 2)]⟩] },
  -- EMMC_ARG (20_serial_ports.md R530)
  { off := 0x14, rw := 0xFFFFFFFF },
  -- EMMC_CMDW (20_serial_ports.md R530)
  { off := 0x18, rw := 0xFFFF0FFF },
  -- EMMC_BUF (20_serial_ports.md R530)
  { off := 0x1C, rw := 0xFFFFFFF0 },
  -- EMMC_RESP (20_serial_ports.md R530)
  { off := 0x20, n1 := 4 },
  -- EMMC_STAT (20_serial_ports.md R530)
  { off := 0x30 },
  -- EMMC_RETRY (20_serial_ports.md R531)
  { off := 0x34, reset := 3, rw := 7 },
  -- EMMC_TAP (20_serial_ports.md R530)
  { off := 0x38 },
  -- EMMC_ERRCNT (20_serial_ports.md R531)
  { off := 0x3C, rc := 0xFFFFFFFF } ]

def bootTable : List RegRow := [
  -- BOOT_STAT (21_boot_power_reset.md R538)
  { off := 0 },
  -- BOOT_EVT (21_boot_power_reset.md R543)
  { off := 4, w1c := 3 },
  -- BOOT_CMD (21_boot_power_reset.md R543)
  { off := 8, wo := 0xF00FFFFF, g0Write := true, enc := [⟨28, 4, [(1, 2)]⟩] },
  -- BOOT_CMDST (21_boot_power_reset.md R543)
  { off := 0xC },
  -- BOOT_REJECT (21_boot_power_reset.md R40)
  { off := 0x10, rc := 0xFFFFFFFF },
  -- BOOT_GNTVER (21_boot_power_reset.md R546)
  { off := 0x14 },
  -- BOOT_APPVER (21_boot_power_reset.md R546)
  { off := 0x18 },
  -- BOOT_TUPLE (21_boot_power_reset.md R540)
  { off := 0x1C },
  -- BOOT_NCOMPAT (21_boot_power_reset.md R540)
  { off := 0x20 },
  -- BOOT_ARB (21_boot_power_reset.md R543)
  { off := 0x40, n1 := 16 },
  -- BOOT_COMPAT_LO (21_boot_power_reset.md R540)
  { off := 0x100, n1 := 64, s1 := 8, word := 0, words := 2 },
  -- BOOT_COMPAT_HI (21_boot_power_reset.md R540)
  { off := 0x104, n1 := 64, s1 := 8, word := 1, words := 2 } ]

def gntTable : List RegRow := [
  -- GNT_EVT (08_gauntlet.md R211)
  { off := 0, w1c := 7 },
  -- GNT_WP0 (08_gauntlet.md R209)
  { off := 0x10, rw := 0xFFFFFFFF, lock := .by GNT_WPLOCK },
  -- GNT_WP1 (08_gauntlet.md R209)
  { off := 0x14, rw := 1, lock := .by GNT_WPLOCK },
  -- GNT_WPLOCK (08_gauntlet.md R210)
  { off := 0x18, rw := 1, lock := .once },
  -- GNT_LOGCNT (08_gauntlet.md R211)
  { off := 0x20 },
  -- GNT_LOGADDR (08_gauntlet.md R211)
  { off := 0x24 },
  -- GNT_LOGINFO (08_gauntlet.md R211)
  { off := 0x28 },
  -- GNT_LOGPOP (08_gauntlet.md R211)
  { off := 0x2C, wo := 1 },
  -- GNT_LOGLOST (08_gauntlet.md R212)
  { off := 0x30, rc := 0xFFFFFFFF } ]

def visTable : List RegRow := [
  -- VIS_EXP (12_outputs_and_visor.md R355)
  { off := 0, n1 := 3, s1 := 0x100, n2 := 16, rw := 0xFFFFFFFF, sh := some 7 },
  -- VIS_RXY0 (12_outputs_and_visor.md R354)
  { off := 0x400, n1 := 3, s1 := 0x100, n2 := 16, s2 := 8, rw := 0x7FF07FF, sh := some 7 },
  -- VIS_RXY1 (12_outputs_and_visor.md R354)
  { off := 0x404, n1 := 3, s1 := 0x100, n2 := 16, s2 := 8, rw := 0x7FF07FF, sh := some 7 },
  -- VIS_RCFG (12_outputs_and_visor.md R355)
  { off := 0x800, n1 := 3, s1 := 0x100, n2 := 16, rw := 0xF, sh := some 7, enc := [⟨1, 2, [(0, 2)]⟩] },
  -- VIS_RCRC (12_outputs_and_visor.md R355)
  { off := 0xC00, n1 := 3, s1 := 0x100, n2 := 16 },
  -- VIS_RES (12_outputs_and_visor.md R355)
  { off := 0xE00, n1 := 3, s1 := 0x20 },
  -- VIS_ACT (12_outputs_and_visor.md R357)
  { off := 0xE04, n1 := 3, s1 := 0x20 },
  -- VIS_FCRC (12_outputs_and_visor.md R360)
  { off := 0xE08, n1 := 3, s1 := 0x20 },
  -- VIS_MISCNT (12_outputs_and_visor.md R355)
  { off := 0xE0C, n1 := 3, s1 := 0x20, rc := 0xFFFFFFFF },
  -- VIS_BLANKCOL (12_outputs_and_visor.md R357)
  { off := 0xE10, n1 := 3, s1 := 0x20, rw := 0xFFFFFF, sh := some 7 },
  -- VIS_FSADDR (12_outputs_and_visor.md R358)
  { off := 0xE14, n1 := 3, s1 := 0x20, rw := 0xFFFFFFF0, sh := some 7 },
  -- VIS_FSPITCH (12_outputs_and_visor.md R358)
  { off := 0xE18, n1 := 3, s1 := 0x20, rw := 0xFFF0, sh := some 7 },
  -- VIS_FSCOL (12_outputs_and_visor.md R358)
  { off := 0xE1C, n1 := 3, s1 := 0x20, rw := 0xFFFFFF, sh := some 7 },
  -- VIS_EVT (12_outputs_and_visor.md R355)
  { off := 0xF00, w1c := 0x1FF },
  -- VIS_STKY (12_outputs_and_visor.md R357)
  { off := 0xF04, n1 := 3, w1c := 0xFFFF } ]

def keyTable : List RegRow := [
  -- KEY_CMD (08_gauntlet.md R228)
  { off := 0, wo := 0xF00F030F, enc := [⟨28, 4, [(1, 4)]⟩] },
  -- KEY_STAT (08_gauntlet.md R230)
  { off := 4 },
  -- KEY_REJECT (08_gauntlet.md R40)
  { off := 8, rc := 0xFFFFFFFF },
  -- KEY_IN (08_gauntlet.md R230)
  { off := 0x20, n1 := 8, wo := 0xFFFFFFFF },
  -- KEY_ATTR (08_gauntlet.md R228)
  { off := 0x100, n1 := 16 },
  -- CRY_CMD (08_gauntlet.md R231)
  { off := 0x8000, wo := 0xFF00000F, enc := [⟨28, 4, [(1, 7)]⟩] },
  -- CRY_STAT (08_gauntlet.md R231)
  { off := 0x8004 },
  -- CRY_REJECT (08_gauntlet.md R40)
  { off := 0x8008, rc := 0xFFFFFFFF },
  -- CRY_SRC (08_gauntlet.md R231)
  { off := 0x8010, rw := 0xFFFFFFFF },
  -- CRY_DST (08_gauntlet.md R231)
  { off := 0x8014, rw := 0xFFFFFFFF },
  -- CRY_LEN (08_gauntlet.md R231)
  { off := 0x8018, rw := 0xFFFFFFFF },
  -- CRY_AAD (08_gauntlet.md R231)
  { off := 0x801C, rw := 0xFFFFFFFF },
  -- CRY_AADLEN (08_gauntlet.md R231)
  { off := 0x8020, rw := 0xFFFFFFFF },
  -- CRY_RNG (08_gauntlet.md R234)
  { off := 0x8024 },
  -- CRY_IV (08_gauntlet.md R231)
  { off := 0x8040, n1 := 4, rw := 0xFFFFFFFF },
  -- CRY_TAG (08_gauntlet.md R233)
  { off := 0x8050, n1 := 4, rw := 0xFFFFFFFF },
  -- CRY_HASH (08_gauntlet.md R232)
  { off := 0x8060, n1 := 8, rw := 0xFFFFFFFF },
  -- CRY_SIG (08_gauntlet.md R231)
  { off := 0x8080, n1 := 16, rw := 0xFFFFFFFF },
  -- CRY_PUB (08_gauntlet.md R231)
  { off := 0x80C0, n1 := 16, rw := 0xFFFFFFFF } ]

def wdgTable : List RegRow := [
  -- WDG_CFG (08_gauntlet.md R217)
  { off := 0, reset := 0x640000, rw := 0x3FF0007, lock := .by WDG_LOCK },
  -- WDG_TIMEOUT (08_gauntlet.md R214)
  { off := 4, reset := 0x186A0, rw := 0xFFFFFF, lock := .by WDG_LOCK },
  -- WDG_OPEN (08_gauntlet.md R214)
  { off := 8, rw := 0xFFFFFF, lock := .by WDG_LOCK },
  -- WDG_WARN (08_gauntlet.md R215)
  { off := 0xC, reset := 0x3E8, rw := 0xFFFF, lock := .by WDG_LOCK },
  -- WDG_LOCK (08_gauntlet.md R217)
  { off := 0x10, rw := 1, lock := .once },
  -- WDG_KICK (08_gauntlet.md R214)
  { off := 0x14, wo := 0xFFFFFFFF },
  -- WDG_COUNT (08_gauntlet.md R214)
  { off := 0x18 },
  -- WDG_STAT (08_gauntlet.md R216)
  { off := 0x1C, w1c := 3 },
  -- WDG_CMDST (08_gauntlet.md R217)
  { off := 0x20 },
  -- WDG_REJECT (08_gauntlet.md R217)
  { off := 0x24, rc := 0xFFFFFFFF } ]

def fltTable : List RegRow := [
  -- FLT_EVT (08_gauntlet.md R221)
  { off := 0, w1c := 0x3F },
  -- FLT_CMD (08_gauntlet.md R224)
  { off := 4, wo := 0xF0000FFF, enc := [⟨28, 4, [(1, 4)]⟩] },
  -- FLT_CMDST (08_gauntlet.md R224)
  { off := 8 },
  -- FLT_REJECT (08_gauntlet.md R224)
  { off := 0xC, rc := 0xFFFFFFFF },
  -- FLT_LOCK (08_gauntlet.md R222)
  { off := 0x10, rw := 1, lock := .once },
  -- FLT_CAUSE (08_gauntlet.md R226)
  { off := 0x14 },
  -- FLT_LASTCH (08_gauntlet.md R222)
  { off := 0x18 },
  -- FLT_RQCNT (08_gauntlet.md R223)
  { off := 0x1C },
  -- FLT_RECOVF (08_gauntlet.md R223)
  { off := 0x20, rc := 0xFFFFFFFF },
  -- FLT_CORESTAT (08_gauntlet.md R225)
  { off := 0x24 },
  -- FLT_POLICY (08_gauntlet.md R221)
  { off := 0x40, n1 := 8, reset := 0x400003, rw := 0xFFFF000F, lock := .by FLT_LOCK, enc := [⟨16, 16, [(1, 65535)]⟩] },
  -- FLT_CHSTAT (08_gauntlet.md R221)
  { off := 0x4000, n1 := 2064 },
  -- FLT_CHSTAT:2064 (08_gauntlet.md R221)
  { off := 0x6040, n1 := 3 },
  -- FLT_CHSTAT:2068 (08_gauntlet.md R221)
  { off := 0x6050, n1 := 2 },
  -- FLT_CHSTAT:2072 (08_gauntlet.md R221)
  { off := 0x6060, n1 := 3 },
  -- FLT_CHSTAT:2076 (08_gauntlet.md R221)
  { off := 0x6070, n1 := 2 },
  -- FLT_CHSTAT:2080 (08_gauntlet.md R221)
  { off := 0x6080, n1 := 2 },
  -- FLT_CHSTAT:2084 (08_gauntlet.md R221)
  { off := 0x6090, n1 := 1 } ]

def mitTable : List RegRow := [
  -- MIT_STAT (19_mitten.md R494)
  { off := 0, reset := 2, w1c := 2 },
  -- MIT_EVT (19_mitten.md R495)
  { off := 4, w1c := 0xFFFF },
  -- MIT_CMDST (19_mitten.md R506)
  { off := 8 },
  -- MIT_REJECT (19_mitten.md R40)
  { off := 0xC, rc := 0xFFFFFFFF },
  -- MIT_RTC_SUB (19_mitten.md R499)
  { off := 0x10, word := 0, words := 5 },
  -- MIT_RTC_SEC_LO (19_mitten.md R499)
  { off := 0x14, word := 1, words := 5 },
  -- MIT_RTC_SEC_HI (19_mitten.md R499)
  { off := 0x18, word := 2, words := 5 },
  -- MIT_RTC_CAL0 (19_mitten.md R500)
  { off := 0x1C, reset := 0x6000000, word := 3, words := 5 },
  -- MIT_RTC_CAL1 (19_mitten.md R500)
  { off := 0x20, reset := 0x7D00101, word := 4, words := 5 },
  -- MIT_SET_SUB (19_mitten.md R501)
  { off := 0x30, wo := 0x7FFF, word := 0, words := 3, enc := [⟨15, 1, [(0, 0)]⟩] },
  -- MIT_SET_SEC_LO (19_mitten.md R501)
  { off := 0x34, wo := 0xFFFFFFFF, word := 1, words := 3 },
  -- MIT_SET_SEC_HI (19_mitten.md R501)
  { off := 0x38, wo := 0xFFFF, word := 2, words := 3 },
  -- MIT_ADJ (19_mitten.md R502)
  { off := 0x3C, rw := 0xFFFF },
  -- MIT_PER (19_mitten.md R508)
  { off := 0x40, rw := 3, enc := [⟨0, 2, [(0, 2)]⟩] },
  -- ALM_VAL (19_mitten.md R507)
  { off := 0x50, n1 := 2, s1 := 0x10, rw := 0x71F3F3F, enc := [⟨0, 6, [(0, 59)]⟩, ⟨8, 6, [(0, 59)]⟩, ⟨16, 5, [(0, 23)]⟩, ⟨24, 3, [(0, 6)]⟩] },
  -- ALM_DATE (19_mitten.md R507)
  { off := 0x54, n1 := 2, s1 := 0x10, reset := 0x101, rw := 0xF1F, enc := [⟨0, 5, [(1, 31)]⟩, ⟨8, 4, [(1, 12)]⟩] },
  -- ALM_CTL (19_mitten.md R507)
  { off := 0x58, n1 := 2, s1 := 0x10, rw := 0x33F },
  -- WK_CFG (19_mitten.md R509)
  { off := 0x80, n1 := 8, rw := 0x3F07 },
  -- MIT_WAKEF (19_mitten.md R511)
  { off := 0xA0, w1c := 0xFF07 },
  -- MIT_WAKESET (19_mitten.md R511)
  { off := 0xA4, wo := 1 },
  -- MIT_PWRON (19_mitten.md R510)
  { off := 0xA8, reset := 3, rw := 1 },
  -- MIT_SUPPLY (19_mitten.md R492)
  { off := 0xB0, reset := 8, rw := 0x1F, enc := [⟨0, 5, [(0, 16)]⟩] },
  -- MIT_TCTL (19_mitten.md R504)
  { off := 0xC0, reset := 0x200, rw := 0x1F01, wo := 0x80000000, enc := [⟨8, 5, [(2, 16)]⟩] },
  -- MIT_TEMP (19_mitten.md R503)
  { off := 0xC4 },
  -- MIT_CORR (19_mitten.md R504)
  { off := 0xC8 },
  -- MIT_TCURVE (19_mitten.md R504)
  { off := 0x100, n1 := 16, rw := 0x1FFF00FF },
  -- MIT_TLIVE (19_mitten.md R504)
  { off := 0x140, n1 := 16 },
  -- MIT_BKP (19_mitten.md R512)
  { off := 0x200, n1 := 32, rw := 0xFFFFFFFF } ]

/-- The register table of the 64 KB window `w` (an address divided by 2^16), if a block lies there (R15). -/
def windowTable (w : Nat) : Option (List RegRow) :=
  if w < 0x4000 then none
  else if w ≤ 0x4020 then
    match w - 0x4000 with
    | 0 => some sysTable | 1 => some beatTable | 2 => some disTable | 3 => some ecxTable
    | 4 => some dmaTable | 5 => some memTable | 6 => some ldgTable | 7 => some lnkTable
    | 8 => some (rasTable 0) | 9 => some (rasTable 1) | 10 => some (rasTable 2) | 11 => some outTable
    | 12 => some bltTable | 13 => some audTable | 14 => some camTable | 15 => some recTable
    | 16 => some xpaTable | 17 => some tmrTable | 18 => some adcTable | 19 => some gpioTable
    | 20 => some pinTable | 21 => some canTable | 22 => some canTable | 23 => some uartTable
    | 24 => some uartTable | 25 => some uartTable | 26 => some uartTable | 27 => some uartTable
    | 28 => some uartTable | 29 => some spiTable | 30 => some i2cTable | 31 => some emmcTable
    | 32 => some bootTable | _ => none
  else
    match w - 0x5000 with
    | 0 => if w = 0x5000 then some gntTable else none
    | 1 => some visTable | 2 => some keyTable | 3 => some wdgTable | 4 => some fltTable | 5 => some mitTable
    | _ => none

/-- The row that defines the register at address `a`, and its two array indices; none where no register
is defined (R35). -/
def regAt (a : Nat) : Option (RegRow × Nat × Nat) :=
  match windowTable (a / 0x10000) with
  | none => none
  | some t => findRow t (a % 0x10000)

/-- The reset value of the register at `a` (R8: the value after a power-on reset); 0 where none is defined. -/
def resetOf (a : Nat) : Word :=
  match regAt a with
  | none => 0
  | some (r, _, j) => r.resetAt j

end Sys2Proof.Machine
end

