-- ==== Sys2Proof/Machine/Parts.lean ====
section
/-! DEFINITION. The parts of the state that are not registers of a register table: the cores, and what
each block holds inside. Every type is plain data. -/

namespace Sys2Proof.Machine

/-! ### Cores (spec/03_ryux_programming.md) -/

/-- A DONE or POST that waits for the Dispatcher (R131, R138): its operands as they were when it issued. -/
inductive DispWait where
  | done (pick : Nat)
  | post (tpl : Nat) (arg : Word) (pick : Nat)
deriving DecidableEq, Repr

/-- What a core is doing (R90, R126, R130, R131, R88, R224). -/
inductive CoreRun where
  | held                       -- in reset, not started (R547)
  | running
  | idle                       -- stopped by IDLE
  | take (d : Nat)             -- blocked in TAKE gd
  | wbeat (d : Nat) (seen : Option Nat) -- blocked in WBEAT gd; the number of the beat whose edge has ended it
  | wbeatn (d : Nat) (t : Nat) (seen : Option Nat) -- blocked in WBEATN gd, target beat t; the number of the edge that ended it
  | disp (d : Nat) (w : DispWait) -- DONE gd or POST gd, waiting for the Dispatcher
  | locked                     -- locked up (R88)
  | idleLoop                   -- in the boot ROM's routine that executes IDLE in a loop with IE = 0 (R541, R546)
deriving DecidableEq, Repr

/-- One line of a cache (R73, R91): 32 bytes, whether it is dirty, and whether an error stands in it (R83, R94). -/
structure CacheLine where
  bytes : List Byte
  dirty : Bool
  err : Bool
deriving DecidableEq, Repr

/-- An error response that a buffered store or a write-back has drawn (R89). -/
structure StoreError where
  addr : Nat
  kind : Nat
deriving DecidableEq, Repr

/-- One core: its general registers, program counter, control registers (R81), reservation (R100),
caches (R91), outstanding store errors (R89) and what it is doing. -/
structure Core where
  g : List (Nat × Word)
  pc : Word
  status : Word
  flags : Word
  epc : Word
  ecause : Word
  eaddr : Word
  scratch0 : Word
  scratch1 : Word
  vbase : Word
  tp : Word
  cycle : BitVec 64
  cycleLatch : Word
  rgnBase : List (Nat × Word)
  rgnCfg : List (Nat × Word)
  reserved : Option Nat
  run : CoreRun
  storeErrs : List StoreError
  heldErr : Option StoreError
  /-- a further imprecise error was lost while one is held (R89) -/
  lostErr : Bool
  icache : List (Nat × CacheLine)
  dcache : List (Nat × CacheLine)
deriving DecidableEq, Repr

/-- A core in reset (R74, c-register reset values); `lvl` is its level after reset. -/
def Core.atReset (lvl : Nat) : Core :=
  { g := [], pc := 0, status := w32 lvl, flags := 0, epc := 0, ecause := 0, eaddr := 0, scratch0 := 0
    scratch1 := 0, vbase := 0, tp := 0, cycle := 0, cycleLatch := 0, rgnBase := [], rgnCfg := []
    reserved := none, run := .held, storeErrs := [], heldErr := none, lostErr := false, icache := [], dcache := [] }

/-! ### Event Concentrator (spec/06_event_concentrator.md) -/

/-- The moment PEND last went from 0 to 1 (R174): beat number, whole µs from its edge, and whether software set it. -/
structure EcxStamp where
  beat : Nat
  offs : Nat
  sw : Bool
deriving DecidableEq, Repr

/-- Who holds an ACTIVE source (R166, R167): the core that claimed it, the queue whose ring holds its
record, or the Dispatcher. -/
inductive ClaimBy where
  | core (t : Nat)
  | queue (t : Nat)
  | dispatcher
deriving DecidableEq, Repr

/-- An ACTIVE source (R166): who holds it, and the type it had at its delivery, which a later change of TYPE
leaves in force until completion (R182). -/
structure EcxClaim where
  src : Nat
  holder : ClaimBy
  level : Bool
deriving DecidableEq, Repr

/-- What the Event Concentrator holds besides its registers. -/
structure EcxSt where
  stamps : List (Nat × EcxStamp)
  claims : List EcxClaim
  lastClaim : List (Nat × Nat)
  holdoff : List (Nat × Nat)
  /-- the record write of each target that has begun and not completed (R173): target and source -/
  recWrites : List (Nat × Nat)
  ringSrc : List (Nat × List Nat)
  fullReported : List Nat
  offerAt : Nat
  /-- level sources whose signal fell, and sources whose PEND software wrote to 1, in the present FCLK cycle (R181) -/
  fell : List Nat
  swPend : List Nat
deriving DecidableEq, Repr

def EcxSt.init : EcxSt :=
  { stamps := [], claims := [], lastClaim := [], holdoff := [], recWrites := [], ringSrc := [], fullReported := []
    offerAt := 0, fell := [], swPend := [] }

/-! ### Dispatcher (spec/05_dispatcher.md) -/

/-- The states of a task descriptor (R136). -/
inductive TaskState where
  | free | template | ready | delayed | slotted | running | bound | halted
deriving DecidableEq, Repr

/-- The STATE encoding of R136. -/
def TaskState.code : TaskState → Nat
  | .free => 0 | .template => 1 | .ready => 2 | .delayed => 3 | .slotted => 4 | .running => 5 | .bound => 6 | .halted => 7

/-- The KIND field of R135. -/
inductive TaskKind where
  | posted | template | bound
deriving DecidableEq, Repr

def TaskKind.code : TaskKind → Nat
  | .posted => 0 | .template => 1 | .bound => 2

/-- A task descriptor (R135). -/
structure Desc where
  entry : Word
  arg : Word
  prio : Nat
  cores : Nat
  dlist : Nat
  kind : TaskKind
  state : TaskState
  core : Nat
  delay : Word
  wake : Nat
  sen : Bool
  sargt : Bool
  sidx : Nat
  tag : Word
deriving DecidableEq, Repr

/-- A FREE descriptor: all words 0 (R134, R580). -/
def Desc.blank : Desc :=
  { entry := 0, arg := 0, prio := 0, cores := 0, dlist := 0, kind := .posted, state := .free, core := 0
    delay := 0, wake := 0, sen := false, sargt := false, sidx := 0, tag := 0 }

/-- The Dispatcher's view of one application core: its current task, its palm slot, and the tick at
which the slot was filled (R147 to R149). -/
structure DisCore where
  cur : Option Nat
  slot : Option Nat
  slotAt : Nat
deriving DecidableEq, Repr

def DisCore.blank : DisCore := { cur := none, slot := none, slotAt := 0 }

/-- What the Dispatcher holds besides its registers. -/
structure DisSt where
  desc : List (Nat × Desc)
  dlists : List (Nat × List Nat)
  cores : List (Nat × DisCore)
  madeReadyBy : List (Nat × Nat)
  unboundSeen : List Nat
  busy : Bool
deriving DecidableEq, Repr

def DisSt.init : DisSt := { desc := [], dlists := [], cores := [], madeReadyBy := [], unboundSeen := [], busy := false }

/-! ### Memory (spec/07_memory_and_dma.md) -/

/-- The state of an ECC word that is not sound: a single-bit error, or an uncorrectable one (R186). -/
inductive EccMark where
  | single | uncorrectable
deriving DecidableEq, Repr

/-- A row copy to a spare that has not completed (R190). -/
structure SpareCopy where
  bank : Nat
  row : Nat
  spare : Nat
deriving DecidableEq, Repr

/-- An MRAM word program that has begun (R192, R193): region (0 Ledger ring, 1 image and key store), the
word's address, and the bytes it held before. -/
structure MramProgram where
  region : Nat
  addr : Nat
  old : List Byte
deriving DecidableEq, Repr

/-- What the memory block holds besides its registers and the memories' bytes. -/
structure MemSt where
  ecc : List (Nat × Option EccMark)
  copies : List SpareCopy
  /-- rows that were holes and are reinstated: the original row serves them again (R581) -/
  restored : List Nat
  scrubAt : Nat
  programming : List MramProgram
deriving DecidableEq, Repr

def MemSt.init : MemSt := { ecc := [], copies := [], restored := [], scrubAt := 0, programming := [] }

/-- What a DMA channel holds while it runs (R198 to R205): the fetched descriptor's words, and its place in it. -/
structure DmaRun where
  words : List Word
  row : Nat
  col : Nat
  burstLeft : Nat
deriving DecidableEq, Repr

def DmaRun.blank : DmaRun := { words := [], row := 0, col := 0, burstLeft := 0 }

/-- Where a DMA channel stands inside its run. -/
inductive DmaPhase where
  | fetch | move | ending
deriving DecidableEq, Repr

/-- What the DMA holds besides its registers: each channel's run and phase, the first descriptor that DMA_CH_DESC names in IDLE
(R201), and the channel of each PRIO served last (R204). -/
structure DmaSt where
  runs : List (Nat × DmaRun)
  phase : List (Nat × DmaPhase)
  first : List (Nat × Word)
  lastServed : List (Nat × Nat)
deriving DecidableEq, Repr

def DmaSt.init : DmaSt := { runs := [], phase := [], first := [], lastServed := [] }

/-! ### Gauntlet (spec/08_gauntlet.md) -/

/-- One entry of the violation log (R211): TYPE is 1 for GX_VIOL, 2 for GX_LOCKWR. -/
structure GntEntry where
  addr : Nat
  type : Nat
  init : Nat
  beat : Nat
deriving DecidableEq, Repr

/-- A key slot (R227, R228): type (0 = empty), usage, lock and the 256-bit contents, most significant word first. -/
structure KeySlot where
  type : Nat
  usage : Nat
  lock : Bool
  key : Nat
deriving DecidableEq, Repr

def KeySlot.empty : KeySlot := { type := 0, usage := 0, lock := false, key := 0 }

/-- A crypto operation in progress (R231): the operation, its flags and slot, and the CRY registers from CRY_SRC to
CRY_PUB[15] as they stood when it started. -/
structure CryOp where
  op : Nat
  flags : Nat
  slot : Nat
  regs : List Word
deriving DecidableEq, Repr

/-- What the Gauntlet holds besides its registers. -/
structure GntSt where
  log : List GntEntry
  wdgSeq : Bool
  wdgWarned : Bool
  /-- the violation whose grace time runs (R216) -/
  wdgGrace : Option Nat
  chanFirst : List (Nat × Nat)
  records : List (List Word)
  keyIn : List (Nat × Word)
  keys : List (Nat × KeySlot)
  keyOp : Option (Nat × KeySlot)
  /-- the running key command is GEN, which a health failure ends (R234) -/
  keyRng : Bool
  cryOp : Option CryOp
  shaLen : Nat
deriving DecidableEq, Repr

def GntSt.init : GntSt :=
  { log := [], wdgSeq := false, wdgWarned := false, wdgGrace := none, chanFirst := [], records := []
    keyIn := [], keys := [], keyOp := none, keyRng := false, cryOp := none, shaLen := 0 }

/-! ### The beat (spec/02_beat.md, spec/10_vehicle_link.md) -/

/-- What a follower keeps of the last BEAT frame it used: number, edge time in ns, NUM and DEN (R281). -/
structure BeatFrame where
  m : Nat
  edge : Nat
  num : Nat
  den : Nat
deriving DecidableEq, Repr

/-- What the beat generator holds besides its registers. -/
structure BeatSt where
  /-- the remainder of R44 -/
  acc : Nat
  /-- the length of the present beat in FCLK cycles, where the generator has placed its end -/
  len : Option Nat
  /-- no edges are made: the discovery of R50 -/
  silent : Bool
  /-- beats in a row whose measured offset stayed within 1 us (R52) -/
  inTol : Nat
  /-- edges in a row without a sync message (R52) -/
  noSync : Nat
  /-- beats spent in HOLDOVER (R52) -/
  holdBeats : Nat
  /-- the last disciplined period, NUM and DEN (R51, R52, R299) -/
  period : Option (Nat × Nat)
  /-- the follower has taken the manager's numbering (R54, R281) -/
  numbered : Bool
  /-- the last BEAT frame used -/
  frame : Option BeatFrame
  /-- a BEAT frame of the followed lead has come since the last edge -/
  heard : Bool
  /-- the manager's number of the edge the follower steps to next (R53) -/
  stepTo : Option Nat
  /-- groups whose copies run (R67) -/
  copying : List Nat
  /-- the BEAT_MARK values in force in this beat (R58) -/
  marks : List Nat
  /-- a lead by failover: source GEN and the last disciplined period until BEAT_GEN is committed (R51) -/
  forceGen : Bool
  /-- clients with DLINE 0 whose deadline, the next edge, has no place yet: judged in the cycle of that edge (R58, R72) -/
  dueAtEdge : List Nat
deriving DecidableEq, Repr

def BeatSt.init : BeatSt :=
  { acc := 0, len := none, silent := false, inTol := 0, noSync := 0, holdBeats := 0, period := none
    numbered := false, frame := none, heard := false, stepTo := none, copying := [], marks := [], forceGen := false, dueAtEdge := [] }

/-! ### Vehicle Link (spec/10_vehicle_link.md) -/

/-- An LLP frame in a queue of the link (R283): the hop sequence number is given when it is first sent; `inPort` is
the port whose receive buffer it occupies, for a forwarded frame (R288). -/
structure LinkFrame where
  gen : Nat
  type : Nat
  dst : Nat
  src : Nat
  hops : Nat
  win : Nat
  beat : Nat
  hseq : Option Nat
  inPort : Option Nat
  payload : List Byte
  /-- BEAT_COUNT at the reception of a frame that its consumer could not take (R310) -/
  came : Nat := 0
deriving DecidableEq, Repr

/-- One credit-bound window of a ring port (R288, R289): the next numbers, whether a frame was accepted since the
restart, frames not yet sent, sent and unacknowledged, and accepted but not yet taken, and the credit held. -/
structure PortWin where
  txNext : Nat
  rxNext : Nat
  heard : Bool
  waiting : List LinkFrame
  unacked : List LinkFrame
  held : List LinkFrame
  credit : Nat
deriving DecidableEq, Repr

def PortWin.blank : PortWin :=
  { txNext := 0, rxNext := 0, heard := false, waiting := [], unacked := [], held := [], credit := 0 }

/-- One port: the PHY's link, its windows, the audio credits by stream (R288), frames that need no credit, beats
without a frame (R275), the HOPS and MPORT of the last BEAT frame (R276, R280), whether a BEAT frame came in this
beat and in the last one (R274), the frame last sent (the wire, log entry 13), and whether a peer-delay exchange
is open (R279). -/
structure PortSt where
  phy : Bool
  wins : List (Nat × PortWin)
  audio : List (Nat × Nat)
  exempt : List LinkFrame
  silent : Nat
  beatHops : Option Nat
  beatMport : Nat
  beatNow : Bool
  beatLast : Bool
  sent : Option LinkFrame
  /-- the bytes of that frame on the wire (R273, R283) -/
  wire : List Byte
  pdelayOpen : Bool
  /-- the last exchange's departure and arrival times at the neighbour and here, and the neighbour rate ratio (R279) -/
  pdelayLast : Option (Nat × Nat)
  rateRatio : Nat × Nat
deriving DecidableEq, Repr

def PortSt.blank : PortSt :=
  { phy := false, wins := [], audio := [], exempt := [], silent := 0, beatHops := none, beatMport := 0
    beatNow := false, beatLast := false, sent := none, wire := [], pdelayOpen := false, pdelayLast := none, rateRatio := (1, 1) }

/-- An entry of a TOPO frame (R285). -/
structure TopoEntry where
  id : Nat
  role : Nat
  pos : Nat
  posb : Nat
deriving DecidableEq, Repr

/-- What the lead keeps of an admitted device (R295, R297): its UID, ADMIT result, beats unheard, and hops. -/
structure Member where
  id : Nat
  uid : Nat
  result : Nat
  silent : Nat
  hopsA : Nat
  hopsB : Nat
deriving DecidableEq, Repr

/-- An ADMIT that the lead sends in every beat until the device's pre-admission HELLOs stop (R295). -/
structure Admission where
  id : Nat
  uid : Nat
  result : Nat
  fresh : Bool
deriving DecidableEq, Repr

/-- An announcement of a BEAT frame (R285, R299). -/
structure Ann where
  kind : Nat
  arg : Nat
  tag : Nat
  beat : Nat
deriving DecidableEq, Repr

/-- What the link holds besides its registers. -/
structure LnkSt where
  ports : List (Nat × PortSt)
  /-- the last TOPO frame: kind, N and entries -/
  topoKind : Nat
  topoN : Nat
  topo : List TopoEntry
  members : List Member
  admissions : List Admission
  /-- the UID heard in HELLO under each ID -/
  known : List (Nat × Nat)
  /-- the highest BEAT_COUNT reported in discovery (R50, R294) -/
  reported : Option Nat
  /-- UIDs of other devices that say in HELLO that they lead (R294) -/
  otherLeads : List Nat
  /-- the device sends HELLO with OBS = 1 (R296) -/
  obs : Bool
  /-- the highest TERM of a followed lead, and whether there is one (R303) -/
  leadTerm : Nat
  hasLead : Bool
  /-- beats in a row without a BEAT frame of the lead, and the devices whose HELLO came in such a beat, each with the place of
  the latest one in the row, counted from 1 (R302) -/
  noBeat : Nat
  quorum : List (Nat × Nat)
  /-- announcements of the last BEAT frame used -/
  anns : List Ann
  /-- a rate change taken provisionally at its beat: B, NUM, DEN (R300) -/
  rateTaken : Option (Nat × Nat × Nat)
  /-- M and EDGE of the BEAT frames this lead sends in its beat, as they stand in the payload (R280) -/
  beatSent : List Byte
  /-- BEAT frame to relay: port received on, and its payload and HOPS (R280) -/
  relay : Option (Nat × LinkFrame)
  /-- the own plan differs from the lead's (R286) -/
  planBad : Bool
  /-- boot requests not yet answered: offset and length (R304) -/
  bootReqs : List (Nat × Nat)
  /-- a WAKE frame has requested a wake, or woke the device (R309) -/
  wakeAsked : Bool
  woken : Bool
  /-- the lead's time that the last Sync and Follow_Up brought (R279) -/
  gptpIn : Option Nat
deriving DecidableEq, Repr

def LnkSt.init : LnkSt :=
  { ports := [], topoKind := 0, topoN := 0, topo := [], members := [], admissions := [], known := []
    reported := none, otherLeads := [], obs := false, leadTerm := 0, hasLead := false, noBeat := 0, quorum := []
    anns := [], rateTaken := none, beatSent := [], relay := none, planBad := false, bootReqs := [], wakeAsked := false, woken := false, gptpIn := none }

/-! ### Power (spec/21_boot_power_reset.md) -/

/-- The power states of R548, with the entries to Park and Off that run. -/
inductive PwrState where
  | run | doze | toPark | park | toOff | off
deriving DecidableEq, Repr

/-! ### Ledger (spec/09_ledger.md) -/

/-- A queued LDG_PUT (R247): the writing core, TYPE, CHK, the staged words and LDG_PCRC, and whether PFW was asserted. -/
structure LdgPut where
  src : Nat
  type : Nat
  chk : Bool
  payload : List Word
  pcrc : Word
  down : Bool
deriving DecidableEq, Repr

/-- A tally (R261): its value, the GSEQ last applied, SAT, and its newest position. -/
structure Tally where
  value : Nat
  gseq : Nat
  sat : Bool
  pos : Nat
deriving DecidableEq, Repr

def Tally.zero : Tally := { value := 0, gseq := 0, sat := false, pos := 15 }

/-- An announced boundary (R264, R265): KIND 1 interval or 2 tariff, its beat, the new value, the scheduled time,
LATE, and whether this device announced it. -/
structure Boundary where
  kind : Nat
  beat : Nat
  tag : Nat
  time : Nat
  late : Bool
  own : Bool
deriving DecidableEq, Repr

/-- The Ledger's term, watermark and schedule state, held in the MRAM control area (R243): kept over every reset. -/
structure LdgNv where
  term : Nat
  tstart : Nat
  gseq : Nat
  acked : Nat
  base : Nat
  rel : Nat
  epoch : Nat
  interval : Nat
  armed : Option (Nat × Nat)
  pfSince : Bool
  fresh : Bool
  org : List (Nat × Nat)
  /-- the interval and the epoch whose beginning has its boundary record, or needs none here (R266, R269) -/
  recInterval : Nat
  recEpoch : Nat
deriving DecidableEq, Repr

def LdgNv.blank : LdgNv :=
  { term := 0, tstart := 0, gseq := 0, acked := 0, base := 0, rel := 0, epoch := 0, interval := 0, armed := none
    pfSince := false, fresh := false, org := [], recInterval := 0, recEpoch := 0 }

/-- What the Ledger holds besides its registers and its MRAM: queued acceptances, the records of the occupied
slots (eight 64-bit words each), defective slots and slots that do not read back what is written (R244), tallies, announced
boundaries, the handoff cursor (R252), and the manager's commits not yet acknowledged and mirrored (R253 to R255). -/
structure LdgSt where
  queue : List LdgPut
  slots : List (Nat × List Nat)
  defective : List Nat
  weak : List Nat
  tallies : List (Nat × Tally)
  nv : LdgNv
  atHwm : Bool
  bounds : List Boundary
  armedAnn : Bool
  handed : Nat
  unack : List (Nat × Nat × Nat)
  reack : List (Nat × Nat)
  mirrorQ : List (Nat × Nat)
  confG : Nat
  ackLimit : Nat
  catchup : Option Nat
  sentRel : Nat
  lastReset : Nat
deriving DecidableEq, Repr

def LdgSt.init : LdgSt :=
  { queue := [], slots := [], defective := [], weak := [], tallies := [], nv := LdgNv.blank, atHwm := false, bounds := []
    armedAnn := false, handed := 0, unack := [], reack := [], mirrorQ := [], confG := 0, ackLimit := 0, catchup := none, sentRel := 0
    lastReset := 1 }

/-! ### Raster, outputs and Visor (spec/11, spec/12) -/

/-- A raster pipe in its frame: the next line its output requests, the pixels composed ahead of it, the affine fields
taken at the start of the line (R320), and the beam list: present position, aim of a WAIT, list pointer, words since
the last release, committed values that MOVEs have overwritten (R329 to R333), and what is reported once a frame. -/
structure PipeSt where
  line : Nat
  ahead : List Nat
  affine : List Word
  pos : Nat × Nat
  aim : Option (Nat × Nat)
  ptr : Int
  words : Nat
  saved : List (Nat × Word)
  spov : Bool
  under : Bool
  started : Bool
deriving DecidableEq, Repr

def PipeSt.blank : PipeSt :=
  { line := 0, ahead := [], affine := [], pos := (0, 0), aim := none, ptr := 0x4000, words := 0, saved := []
    spov := false, under := false, started := false }

/-- The Visor on one pipe: running CRC of each rectangle and of the frame, rectangles judged and mismatched in this
frame, those enabled in the last frame, and those in their first frame (R353 to R359). -/
structure VisorSt where
  crcs : List (Nat × Nat)
  frame : Nat
  judged : List Nat
  missed : List Nat
  was : List Nat
  fresh : List Nat
  told : Bool
  /-- VIS_FCRC of the frame before, for a frame that is cut after its last line was requested (R360) -/
  prior : Option Word
deriving DecidableEq, Repr

def VisorSt.blank : VisorSt :=
  { crcs := [], frame := 0xFFFFFFFF, judged := [], missed := [], was := [], fresh := [], told := false, prior := none }

/-- What Output B's lanes carry, in the terms of R344, R345, R347 and R348: packets with their virtual channel, a blanking
packet with its length in pixel clocks, the end of an HS transmission, and the two states of idle lanes. -/
inductive DsiSent where
  | vss (vc : Nat)
  | hss (vc : Nat)
  | blanking (vc clocks : Nat)
  | pixels (vc fmt : Nat) (px : List Nat)
  | longWrite (vc dcs fmt : Nat) (px : List Nat)
  | command (dt vc : Nat) (lp : Bool) (data : List Byte)
  | eot
  | lp11
  | ulps
deriving DecidableEq, Repr

/-- A link of Output A while its pins are driven (R343): whether pair D3 is driven, and its pixel clocks, each as 35 bits:
slot 0 of pair D0 in bit 0, pair D1 from bit 7, the clock pair from bit 28. -/
structure LvdsLink where
  d3 : Bool
  clocks : List Nat
deriving DecidableEq, Repr

/-- A stretch of Output C's scan (R350), in PIXC cycles: its length, the row address it changes to (none: unchanged), for how
many cycles OC_OE_N is low from its start, the column data shifted one a cycle from its start (data set 0 in bits [2:0], set 1
in bits [5:3]), and whether OC_LAT pulses in its last cycle. -/
structure LedSlot where
  cycles : Nat
  addr : Option Nat
  lit : Nat
  shift : List Nat
  lat : Bool
deriving DecidableEq, Repr

/-- Output C's pins: disabled (OC_OE_N high, the others low), dark between refreshes (OC_OE_N high), or a refresh. -/
inductive LedPins where
  | off
  | dark
  | scan (l : List LedSlot)
deriving DecidableEq, Repr

/-- The vertical timing of Output A, or of Output B in video mode (R338, R340): the cycle, counted from the last beat edge, at
which the present vertical blanking started; the cycle at which a slaved output will start the next one, with the line that
is still in progress until then; and the active line sent last, as sent. -/
structure VertSt where
  zero : Option Int
  plan : Option (Nat × Nat)
  sent : Option (Nat × List Nat)
deriving DecidableEq, Repr

def VertSt.blank : VertSt := { zero := none, plan := none, sent := none }

/-- The display outputs besides their registers: outputs whose pixel clock relocks (R342), the vertical timing of Outputs A
and B, what Outputs B and C sent last, Output B's self-refresh and packets (R345 to R348), and Output C's frame stores and
refreshes (R349 to R351). -/
structure OutSt where
  relock : List Nat
  vertA : VertSt
  vertB : VertSt
  dsi : List DsiSent
  led : LedPins
  /-- consecutive equal frames, and a difference found while asleep -/
  equal : Nat
  differs : Bool
  /-- lanes in ULPS, and a ULPS exit running -/
  ulps : Bool
  leaving : Bool
  /-- a transfer has started in this beat, at this cycle after the edge; one waits for the queued command (R347) -/
  moved : Bool
  movedAt : Nat
  due : Bool
  /-- the level of the pin OB_TE (R346), and the windows in a row that no TE event met -/
  te : Bool
  teMiss : Nat
  cmd : Option Word
  bta : Bool
  stores : List (Nat × Nat)
  /-- refreshes completed in this beat, whether the beat's refreshes have been started, and the cycle after the edge at which
  the first of them started -/
  refs : Nat
  lit : Bool
  litAt : Nat
deriving DecidableEq, Repr

def OutSt.init : OutSt :=
  { relock := [], vertA := VertSt.blank, vertB := VertSt.blank, dsi := [.lp11], led := .dark, equal := 0, differs := false
    ulps := false, leaving := false, moved := false, movedAt := 0, due := false, te := false, teMiss := 0, cmd := none, bta := false
    stores := [], refs := 0, lit := false, litAt := 0 }

/-! ### Blitter (spec/13) -/

/-- What the blitter holds besides its registers: the command fetched at RD, whether its work is done, whether STOP will
find it cut short, whether a beat edge has come since a waiting SYNC became the command at RD, and whether the batch has
overrun already. -/
structure BltSt where
  cmd : Option (List Word)
  ended : Bool
  cut : Bool
  edge : Bool
  overran : Bool
deriving DecidableEq, Repr

def BltSt.init : BltSt := { cmd := none, ended := false, cut := false, edge := false, overran := false }

/-! ### Audio (spec/14) -/

/-- A voice command that waits to act (R393): its OP, and block and sample where AT is 1. -/
structure VoiceCmd where
  op : Nat
  due : Option (Nat × Nat)
deriving DecidableEq, Repr

/-- A voice besides its registers (R391, R392): position in 1/65,536 of a sample, whether it has looped, the envelope, the
level at which RELEASE began, and its pending command. -/
structure VoiceSt where
  pos : Nat
  looped : Bool
  env : Frac
  rel : Frac
  /-- samples since the present stage of the envelope began -/
  stage : Nat
  cmd : Option VoiceCmd
deriving DecidableEq, Repr

def VoiceSt.blank : VoiceSt := { pos := 0, looped := false, env := Frac.zero, rel := Frac.zero, stage := 0, cmd := none }

/-- A tone generator (R396): whether it was enabled in the last group, its 24-bit phase, and its noise register. -/
structure ToneSt where
  on : Bool
  phase : Nat
  lfsr : Nat
deriving DecidableEq, Repr

def ToneSt.blank : ToneSt := { on := false, phase := 0, lfsr := 0x7FFFFF }

/-- One equaliser band (R401). -/
structure BandSt where
  x1 : Int
  x2 : Int
  y1 : Int
  y2 : Int
deriving DecidableEq, Repr

def BandSt.blank : BandSt := { x1 := 0, x2 := 0, y1 := 0, y2 := 0 }

/-- A zone's limiter (R403): the latest samples, newest first, and its gain. -/
structure LimSt where
  past : List Int
  g : Frac
deriving DecidableEq, Repr

def LimSt.blank : LimSt := { past := [], g := Frac.one }

/-- From sample `at_` of input block `beat` on, what input `unit` (0, 1, or 2 to 5 for the PDM channels) converts (R397): how many
slots, whether they hold 16-bit data as received, and the PDM gain. -/
structure InMark where
  unit : Nat
  beat : Nat
  at_ : Nat
  slots : Nat
  narrow : Bool
  gain : Int
deriving DecidableEq, Repr

/-- The audio block besides its registers: voices, tone generators, equaliser bands (8 × bus + band), bus delay lines (newest
first), ducking in dB, key peaks of the last group, the Mode S counts of the block before, limiters; the next sample of the
block being rendered and the phase at which its render began, the last block completed, the samples rendered (8 × output +
slot, and 16 + stream) and those that play in this beat; zones that have clipped and streams that have underrun in the
block; received samples by play index; stream blocks that wait for their beat; subscribed streams whose transmitter is
kept (R305); what the inputs have converted in the latest beats; and whether the beat is the first at a new period (R384). -/
structure AudSt where
  voices : List (Nat × VoiceSt)
  tones : List (Nat × ToneSt)
  bands : List (Nat × BandSt)
  delays : List (Nat × List Int)
  ducks : List (Nat × Frac)
  peaks : List (Nat × Nat)
  counts : List (Nat × Nat)
  lims : List (Nat × LimSt)
  next : Nat
  began : Nat
  ready : Option Nat
  building : List (Nat × List Int)
  playing : List (Nat × List Int)
  clipped : List Nat
  under : List Nat
  store : List (Nat × List (Nat × Int))
  tx : List (Nat × Nat × List Int)
  kept : List Nat
  inputs : List InMark
  fresh : Bool
deriving DecidableEq, Repr

def AudSt.init : AudSt :=
  { voices := [], tones := [], bands := [], delays := [], ducks := [], peaks := [], counts := [], lims := [], next := 0
    began := 0, ready := none, building := [], playing := [], clipped := [], under := [], store := [], tx := [], kept := []
    inputs := [], fresh := false }

/-! ### Camera capture and recorder (spec/15), and the eMMC port (spec/20) -/

/-- A frame of a camera input (R411 to R418): its buffer, the geometry in force at its start, lines received, FLAGS, and
the stamps of its start. -/
structure CamFrame where
  buf : Nat
  addr : Nat
  pitch : Nat
  w : Nat
  h : Nat
  dt : Nat
  fill : Nat
  lines : Nat
  flags : Nat
  fseq : Nat
  beat : Nat
  rtc : Nat
deriving DecidableEq, Repr

/-- A camera input: the open frame, the frames in HELD buffers in the order in which they ended, and the FS pulse of this
beat (offset and width in microseconds, R413). -/
structure CamSt where
  cur : Option CamFrame
  frames : List CamFrame
  fs : Option (Nat × Nat)
deriving DecidableEq, Repr

def CamSt.blank : CamSt := { cur := none, frames := [], fs := none }

/-- A frame that the recorder holds (R419): its input and the beat in which it ended. -/
structure RecFrame where
  input : Nat
  frame : CamFrame
  ended : Nat
deriving DecidableEq, Repr

/-- An encoded frame (R421, R425): where its stream stands in the output ring, its length and CRC, and how far its unit
is written: 0 not begun, 1 data written, 2 header confirmed. -/
structure RecUnit where
  held : RecFrame
  start : Nat
  len : Nat
  crc : Nat
  stage : Nat
deriving DecidableEq, Repr

/-- A recorder command of the eMMC port (R532): 0 data blocks, 1 header block, 2 index block; failed attempts so far; and
whether it runs or waits for its turn. -/
structure ClipWrite where
  what : Nat
  tries : Nat
  active : Bool
deriving DecidableEq, Repr

/-- An entry of the open segment's index (R424). -/
structure RecEntry where
  offs : Nat
  input : Nat
  flags : Nat
  fseq : Nat
  beat : Nat
deriving DecidableEq, Repr

/-- A clip marker (R427): once bound, the six words of its payload. -/
structure Marker where
  input : Nat
  reason : Nat
  tag : Word
  bound : Option (List Nat)
deriving DecidableEq, Repr

/-- The recorder besides its registers. -/
structure RecSt where
  queue : List RecFrame
  enc : Option (RecFrame × Word)
  units : List RecUnit
  wr : Option ClipWrite
  stopping : Bool
  entries : List RecEntry
  opos : Nat
  markers : List Marker
deriving DecidableEq, Repr

def RecSt.init : RecSt :=
  { queue := [], enc := none, units := [], wr := none, stopping := false, entries := [], opos := 0, markers := [] }

/-- A firmware command of the eMMC port (R530): 0 ISSUE, 1 TUNE; failed attempts so far; whether it runs or waits. -/
structure EmmcRun where
  op : Nat
  tries : Nat
  active : Bool
deriving DecidableEq, Repr

/-- The eMMC port besides its registers: firmware's command, and the last command on the bus with its data (log entry 13). -/
structure EmmcSt where
  fw : Option EmmcRun
  sent : Option (Nat × Nat × List Byte)
deriving DecidableEq, Repr

def EmmcSt.init : EmmcSt := { fw := none, sent := none }

/-! ### Expert array (spec/16) -/

/-- A schedule bank (R455): the two words of each step, and the sixteen remap bytes. -/
structure XpaBank where
  steps : List (Word × Word)
  remap : List Nat
deriving DecidableEq, Repr

/-- A token in an expert's queue (R435, R447): its origin, none for this device, its index and choice, its queue entry and
the beat of its scatter. -/
structure XpaTok where
  layer : Nat
  expert : Nat
  src : Option Nat
  tok : Nat
  choice : Nat
  entry : Nat
  beat : Nat
deriving DecidableEq, Repr

/-- A choice that was sent to an expert (R438, R439, R448): its gate, whether the expert is remote, and whether its result
stands in the result buffer. -/
structure XpaChoice where
  layer : Nat
  beat : Nat
  tok : Nat
  choice : Nat
  expert : Nat
  gate : Nat
  remote : Bool
  got : Bool
deriving DecidableEq, Repr

/-- A step that runs (R442, R449, R450): its number and words, the input beat it acts on, and whether it began before the last
edge. -/
structure XpaRun where
  step : Nat
  what : Word × Word
  input : Nat
  old : Bool
deriving DecidableEq, Repr

/-- The expert array besides its registers: the command that runs (OP, ARG); the model's layer and section records, its blob
and the hidden width of each expert (layer, expert, H); router memory; schedule banks; engines without weights; spares that
serve, spares that serve from the next edge, and spare copies that run; the phases of this beat and its number; the frame last
taken of each input, the frame taken at the last edge and the frame that a running ROUTE cuts; steps of this beat begun and
ended, and steps that run; queues, choices, tokens accepted in this beat, and results that wait for the next beat's token
window (R446, R447). -/
structure XpaSt where
  cmd : Option (Nat × Nat)
  layers : List (List Word)
  sections : List (List Word)
  blob : Nat
  hidden : List (Nat × Nat × Nat)
  rmem : List (Nat × Byte)
  banks : List (Nat × XpaBank)
  bare : List Nat
  spares : List (Nat × Nat)
  copied : List (Nat × Nat)
  copying : List (Nat × Nat)
  ph0 : Bool
  ph1 : Bool
  in0 : Nat
  taken : List (Nat × Nat)
  frame : Option (Nat × CamFrame)
  routing : Option (Nat × CamFrame)
  began : List Nat
  ended : List Nat
  running : List XpaRun
  queue : List XpaTok
  choices : List XpaChoice
  seen : List (Nat × Nat × Nat × Nat × Nat)
  back : List (Nat × List Byte)
  dropTold : Bool
deriving DecidableEq, Repr

def XpaSt.init : XpaSt :=
  { cmd := none, layers := [], sections := [], blob := 0, hidden := [], rmem := [], banks := [], bare := [], spares := []
    copied := [], copying := [], ph0 := false, ph1 := false, in0 := 0, taken := [], frame := none, routing := none, began := [], ended := []
    running := [], queue := [], choices := [], seen := [], back := [], dropTold := false }

/-! ### Timers and converter (spec/17) -/

/-- The timer block besides its registers: armed timers that the last beat edge reached; matrix actions due in the next cycle
(kind 0 START, 1 STOP, 2 COUNT, 3 RESET, 4 DMA, 5 ADC, and the timer or trigger); and the qualified edges that each capture
unit's prescaler has counted (2 × timer + unit, edges). -/
structure TmrSt where
  due : List Nat
  acts : List (Nat × Nat)
  edges : List (Nat × Nat)
deriving DecidableEq, Repr

def TmrSt.init : TmrSt := { due := [], acts := [], edges := [] }

/-- The converter besides its registers: entries that ended since the last admitted start, whether the sequence ends
after the conversion in progress, and whether EN became 1 again while it runs. -/
structure AdcSt where
  made : Nat
  stopping : Bool
  fresh : Bool
deriving DecidableEq, Repr

def AdcSt.init : AdcSt := { made := 0, stopping := false, fresh := false }

/-! ### Pins and Mitten (spec/18, spec/19) -/

/-- A Mitten register write that waits for its tick (R497): the register, the value, and the lower words of a SET that the
writing initiator held (R501). -/
structure MitWrite where
  addr : Nat
  val : Word
  sub : Option Word
  lo : Option Word
deriving DecidableEq, Repr

/-- A wake pin (R509): the last sample, how many consecutive samples have shown it, and the filtered level. -/
structure WkPin where
  last : Bool
  runs : Nat
  level : Bool
deriving DecidableEq, Repr

def WkPin.blank : WkPin := { last := false, runs := 0, level := false }

/-- The Mitten besides its registers (R494 to R509): writes that wait; the trim accumulator, the trim step of the next tick,
ticks to the next slew step, a slew step put off; the point count of the live curve and the correction last computed;
whether the sensor converts, and whether its first conversion is due; the wake pins; and whether it has a supply. -/
structure MitSt where
  waiting : List MitWrite
  acc : Int
  trim : Int
  slewIn : Nat
  late : Bool
  npts : Nat
  corr : Int
  converting : Bool
  first : Bool
  wk : List (Nat × WkPin)
  alive : Bool
deriving DecidableEq, Repr

def MitSt.init : MitSt :=
  { waiting := [], acc := 0, trim := 0, slewIn := 256, late := false, npts := 2, corr := 0, converting := false, first := true
    wk := [], alive := true }

/-! ### Serial ports (spec/20) -/

/-- A CAN controller besides its registers (R517): waits for 11 recessive bits to join; STOP waits for the frame in progress;
recovery runs; and the last frame sent, its two header words and data (log entry 13). -/
structure CanSt where
  joining : Bool
  stopping : Bool
  recovering : Bool
  sent : Option (Word × Word × List Byte)
deriving DecidableEq, Repr

def CanSt.blank : CanSt := { joining := false, stopping := false, recovering := false, sent := none }

/-- A UART besides its registers (R521 to R524): received characters in the layout of UART_DATA, characters to send, the
receiver's idle time has passed, the smart card's reset is released, repeats of the present character, transmission has ended
with TXFAIL, and the last thing sent: a character, or nothing for a break (log entry 13). -/
structure UartSt where
  rx : List Nat
  tx : List Nat
  idle : Bool
  scRst : Bool
  tries : Nat
  halted : Bool
  sent : Option (Option Nat)
deriving DecidableEq, Repr

def UartSt.blank : UartSt := { rx := [], tx := [], idle := false, scRst := false, tries := 0, halted := false, sent := none }

/-- An SPI unit besides its registers (R525): the FIFOs, words left, what the target answers, words sent in this transfer, an
ABORT that waits, and the chip select. -/
structure SpiSt where
  tx : List Word
  rx : List Word
  left : Nat
  miso : List Word
  mosi : List Word
  aborting : Bool
  cs : Bool
deriving DecidableEq, Repr

def SpiSt.blank : SpiSt := { tx := [], rx := [], left := 0, miso := [], mosi := [], aborting := false, cs := false }

/-- The Octal SPI controller besides its registers (R526, R527): the FIFO's bytes in each direction, bytes left, what the
flash answers, bytes sent in this command, an ABORT that waits, and the prefetch line. -/
structure OspiSt where
  tx : List Byte
  rx : List Byte
  left : Nat
  answer : List Byte
  sent : List Byte
  aborting : Bool
  line : Option (Nat × List Byte)
deriving DecidableEq, Repr

def OspiSt.blank : OspiSt := { tx := [], rx := [], left := 0, answer := [], sent := [], aborting := false, line := none }

/-- An I2C controller besides its registers (R528, R529): the FIFO, bytes left to write and to read, what the target answers,
bytes sent in this transaction, an ABORT that waits, a RECOVER that runs, and the bus held after NOSTOP. -/
structure I2cSt where
  fifo : List Byte
  wleft : Nat
  rleft : Nat
  answer : List Byte
  sent : List Byte
  aborting : Bool
  recovering : Bool
  held : Bool
deriving DecidableEq, Repr

def I2cSt.blank : I2cSt :=
  { fifo := [], wleft := 0, rleft := 0, answer := [], sent := [], aborting := false, recovering := false, held := false }

/-- The PPS unit besides its registers (R533): a snapshot that has not been read, and a loss already told. -/
structure PpsSt where
  unread : Bool
  lost : Bool
deriving DecidableEq, Repr

def PpsSt.blank : PpsSt := { unread := false, lost := false }

end Sys2Proof.Machine
end

