-- ==== Sys2Proof/Machine/State.lean ====
section
/-! DEFINITION. The state of the Nirund, its reset value, and the reasons a step can stop. -/

namespace Sys2Proof.Machine

/-- Faults: none of the spec's errors stops the machine. An error response, an exception, a rejection and a halt are all
effects on the state. -/
inductive Fault where
  /-- Raised by no meaning: every command of the table answers a next state. Safe. -/
  | unreachable
deriving DecidableEq, Repr

/-- Refusals. -/
inductive Refusal where
  /-- Raised by an arm of `exec` whose command has no meaning in the model yet. Safe. -/
  | notModelled (mnemonic : String)
deriving DecidableEq, Repr

/-- The state of the device (plain data). Registers of the register tables stand in `regs` (an SH register's
shadow value there, its live value in `live`), sparse against their reset values; every memory's bytes stand in
`mem`, sparse against `memDefault`. -/
structure State where
  /-- registers by address; a core's own view of a per-core register stands at its address + 2^32 × (core + 1) -/
  regs : List (Nat × Word)
  /-- live values of SH registers by address (R8, R62) -/
  live : List (Nat × Word)
  /-- read latches of multi-word registers, by view key (R28) -/
  latch : List (Nat × Word)
  /-- pending words of multi-word writes, by view key (R29) -/
  held : List (Nat × Word)
  /-- WOS registers that have taken their one write (R32) -/
  wosSpent : List Nat
  /-- the bytes of every memory, by address; spare rows lie at 2^32 + (2 × bank + spare) × 4096 -/
  mem : List Host.Cell
  c0 : Core
  c1 : Core
  c2 : Core
  c3 : Core
  g0 : Core
  beat : BeatSt
  ecx : EcxSt
  dis : DisSt
  ms : MemSt
  dma : DmaSt
  gnt : GntSt
  lnk : LnkSt
  ldg : LdgSt
  pwr : PwrState
  pipes : List (Nat × PipeSt)
  visors : List (Nat × VisorSt)
  out : OutSt
  blt : BltSt
  aud : AudSt
  cams : List (Nat × CamSt)
  recorder : RecSt
  emmc : EmmcSt
  xpa : XpaSt
  tmr : TmrSt
  adc : AdcSt
  /-- the level at each pad, by pin index (R476) -/
  pads : List (Nat × Bool)
  mit : MitSt
  cans : List (Nat × CanSt)
  uarts : List (Nat × UartSt)
  spis : List (Nat × SpiSt)
  ospi : OspiSt
  i2cs : List (Nat × I2cSt)
  pps : PpsSt
  /-- the value the last read command answered (the model's own field, log entry 7) -/
  rdata : Nat
  /-- how many free values have been drawn (the model's own field, log entry 2) -/
  drawn : Nat
  /-- FCLK cycles within the present microsecond of the free-running clocks (the model's own field, log entry 5) -/
  subUs : Nat
  /-- the commands that are waiting, first in, first out -/
  pending : List Instr
deriving DecidableEq, Repr

/-- The machine right after power-on reset. -/
def State.reset : State :=
  { regs := [], live := [], latch := [], held := [], wosSpent := [], mem := []
    c0 := Core.atReset 1, c1 := Core.atReset 1, c2 := Core.atReset 1, c3 := Core.atReset 1, g0 := Core.atReset 2
    beat := BeatSt.init, ecx := EcxSt.init, dis := DisSt.init, ms := MemSt.init, dma := DmaSt.init, gnt := GntSt.init
    lnk := LnkSt.init, ldg := LdgSt.init, pwr := .run, pipes := [], visors := [], out := OutSt.init
    blt := BltSt.init, aud := AudSt.init, cams := [], recorder := RecSt.init, emmc := EmmcSt.init
    xpa := XpaSt.init, tmr := TmrSt.init, adc := AdcSt.init, pads := [], mit := MitSt.init
    cans := [], uarts := [], spis := [], ospi := OspiSt.blank, i2cs := [], pps := PpsSt.blank
    rdata := 0, drawn := 0, subUs := 0, pending := [] }

end Sys2Proof.Machine
end

