-- ==== Sys2Proof/Machine/Ops.lean ====
section
/-! DEFINITION. The named operations over registers, events, commands and error responses that every
meaning is written with (spec/00 R8, spec/01 R19 to R40, spec/06 R158 to R168, spec/08 R211 and R212). -/

namespace Sys2Proof.Machine

/-! ### Registers -/

/-- The stored value of the register at `a` (the shadow of an SH register). -/
def State.rg (s : State) (a : Nat) : Word := smGet resetOf s.regs a

/-- Store a register. -/
def State.setRg (s : State) (a : Nat) (v : Word) : State := { s with regs := smSet resetOf s.regs a v }

/-- A field of a register. -/
def State.fld (s : State) (a lo len : Nat) : Nat := fieldOf (s.rg a) lo len

/-- Store a field of a register. -/
def State.setFld (s : State) (a lo len v : Nat) : State := s.setRg a (withField (s.rg a) lo len v)

/-- One bit of a register. -/
def State.bit (s : State) (a n : Nat) : Bool := bitOf (s.rg a) n

/-- Store one bit of a register. -/
def State.setBit (s : State) (a n : Nat) (b : Bool) : State := s.setRg a (withBit (s.rg a) n b)

/-- The live value of an SH register (R8, R62). -/
def State.lv (s : State) (a : Nat) : Word := smGet resetOf s.live a

/-- Load the live value of an SH register. -/
def State.setLv (s : State) (a : Nat) (v : Word) : State := { s with live := smSet resetOf s.live a v }

/-- A field of a live value. -/
def State.lvFld (s : State) (a lo len : Nat) : Nat := fieldOf (s.lv a) lo len

/-- One bit of a live value. -/
def State.lvBit (s : State) (a n : Nat) : Bool := bitOf (s.lv a) n

/-- The value of a two-word register, low word at `a` (R28). -/
def State.rg64 (s : State) (a : Nat) : Nat := (s.rg a).toNat + 0x100000000 * (s.rg (a + 4)).toNat

/-- Load a two-word register. -/
def State.setRg64 (s : State) (a v : Nat) : State := (s.setRg a (w32 v)).setRg (a + 4) (w32 (v / 0x100000000))

/-- Add `n` to a counter that stops at 0xFFFF_FFFF (R40). -/
def State.count (s : State) (a n : Nat) : State := s.setRg a (satInc (s.rg a) n)

/-- Add `n` to a counter that is neither a reject nor a drop counter and whose chapter states no stop: it wraps (R39). -/
def State.countWrap (s : State) (a n : Nat) : State := s.setRg a (s.rg a + w32 n)

/-- The key of core `c`'s own view of a per-core register, or of an initiator's latch or holding area. -/
def viewKey (c a : Nat) : Nat := a + 0x100000000 * (c + 1)

/-- Draw a free value: one that the spec leaves open (log entry 2). -/
def State.draw (s : State) : Nat × State := (Config.freeNat s.drawn, { s with drawn := s.drawn + 1 })

/-- The shadow domain an address belongs to, if its register is SH (R61). -/
def domainOf (a : Nat) : Option Nat := (regAt a).bind (fun r => r.1.sh)

/-- Copy the shadows of domain `d` to its live registers (R62, R70). -/
def State.copyDomain (s : State) (d : Nat) : State :=
  let mine := s.regs.filter (fun e => domainOf e.1 == some d)
  let rest := smDrop (fun a => domainOf a == some d) s.live
  { s with live := mine.foldl (fun m e => smSet resetOf m e.1 e.2) rest }

/-! ### Beat time -/

/-- BEAT_COUNT (R56). -/
def State.beatNo (s : State) : Nat := s.rg64 BEAT_COUNT_LO

/-- Whole microseconds since the beat edge: 400 FCLK cycles each. -/
def State.offsUs (s : State) : Nat := (s.rg BEAT_PHASE).toNat / 400

/-! ### Event sources (spec/06) -/

/-- The live source numbers (R158). -/
def liveSource (src : Nat) : Bool := decide (0 < src ∧ src < 1020)

/-- PEND of a source. -/
def State.pendOf (s : State) (src : Nat) : Bool := s.bit (ECX_PEND (src / 32)) (src % 32)

/-- MASK of a source. -/
def State.maskOf (s : State) (src : Nat) : Bool := s.bit (ECX_MASK (src / 32)) (src % 32)

/-- The synchronised signal of a source, ECX_LVL (R160). -/
def State.lvlOf (s : State) (src : Nat) : Bool := s.bit (ECX_LVL (src / 32)) (src % 32)

/-- The claim that holds a source, if it is ACTIVE (R166, R167). -/
def State.claimOf (s : State) (src : Nat) : Option EcxClaim := s.ecx.claims.find? (fun c => c.src == src)

/-- Whether a source is ACTIVE. -/
def State.isActive (s : State) (src : Nat) : Bool := (s.claimOf src).isSome

/-- Whether a source behaves as a level source: software-triggered sources never do (R162), and an ACTIVE
source keeps the type of its delivery (R182). -/
def State.isLevel (s : State) (src : Nat) : Bool :=
  decide (src < 864) &&
  match s.claimOf src with
  | some c => c.level
  | none => s.bit (ECX_TYPE (src / 32)) (src % 32)

/-- ECX_TGT of a source (R164). -/
def State.tgtOf (s : State) (src : Nat) : Nat := s.fld (ECX_TGT src) 0 3

/-- Set PEND; a 0-to-1 change takes the stamp of R174 and makes the source new to the Dispatcher's unbound
report (R155), and a set of a pending source merges (R161). DESIGN CHOICE (log entry 33): OFFS of a moment more than 65,535 µs after
its edge is 65,535, and a merge leaves SW as the 0-to-1 change set it. -/
def State.setPend (s : State) (src : Nat) (sw : Bool) : State :=
  if s.pendOf src then s
  else
    let s1 := s.setBit (ECX_PEND (src / 32)) (src % 32) true
    let stamp : EcxStamp := { beat := s.beatNo % 0x1000000000000, offs := min s.offsUs 65535, sw := sw }
    { s1 with ecx := { s1.ecx with stamps := (src, stamp) :: s1.ecx.stamps.filter (fun e => e.1 != src) },
              dis := { s1.dis with unboundSeen := s1.dis.unboundSeen.filter (fun n => n != src) } }

/-- Clear PEND. -/
def State.clrPend (s : State) (src : Nat) : State := s.setBit (ECX_PEND (src / 32)) (src % 32) false

/-- The signal of a level source that is not ACTIVE falls: PEND follows it (R161), but a 1 that software wrote in the same cycle
stands for that cycle (R181). -/
def State.fallLevel (s : State) (src : Nat) : State :=
  let t := { s with ecx := { s.ecx with fell := src :: s.ecx.fell } }
  if s.ecx.swPend.contains src then t else t.clrPend src

/-- With the next cycle PEND of a level source that is not ACTIVE is its signal again, whatever software wrote in the last one (R161,
R181). -/
def State.settleLevels (s : State) : State :=
  let t := (s.ecx.fell ++ s.ecx.swPend).foldl (fun u src =>
    if u.isLevel src && !u.isActive src && !u.lvlOf src then u.clrPend src else u) s
  { t with ecx := { t.ecx with fell := [], swPend := [] } }

/-- The signal of a source changes to `v` (R160, R161). -/
def State.signal (s : State) (src : Nat) (v : Bool) : State :=
  if !liveSource src || decide (864 ≤ src) then s
  else
    let old := s.lvlOf src
    let s1 := s.setBit (ECX_LVL (src / 32)) (src % 32) v
    if s.isLevel src then
      if s.isActive src then s1 else if v then s1.setPend src false else if old then s1.fallLevel src else s1
    else if v && !old then s1.setPend src false else s1

/-- A one-cycle pulse of a source (R160): an edge source becomes pending; a level source, whose signal is
0 again after the pulse, keeps the PEND of its signal. -/
def State.raise (s : State) (src : Nat) : State :=
  if s.isLevel src then s else s.setPend src false

/-- Set an event bit of a register and raise its source. -/
def State.event (s : State) (evt bit src : Nat) : State := (s.setBit evt bit true).raise src

/-! ### Commands (R37, R38, R40) -/

/-- Where a block posts the status of a command, counts rejections, and reports them. -/
structure CmdPort where
  st : Nat
  rejects : Nat
  evt : Option (Nat × Nat)
  src : Option Nat
deriving DecidableEq, Repr

/-- Status codes shared by every block's status field. -/
abbrev ST_STATE : Nat := 2
abbrev ST_ARG : Nat := 3

/-- A command is accepted: its status reads OK. -/
def State.accept (s : State) (p : CmdPort) : State := s.setFld p.st 0 4 0

/-- A command is rejected whole: status, reject counter, and the block's error event where it names one. -/
def State.reject (s : State) (p : CmdPort) (code : Nat) : State :=
  let s1 := (s.setFld p.st 0 4 code).count p.rejects 1
  let s2 := match p.evt with
    | some (a, b) => s1.setBit a b true
    | none => s1
  match p.src with
  | some n => s2.raise n
  | none => s2

/-- Run a command judged as R578 orders it: STATE before ARG, unless the ARG of a mutually exclusive set
(`clash`) precedes both. -/
def State.command (s : State) (p : CmdPort) (clash badState badArg : Bool) (act : State → State) : State :=
  if clash then s.reject p ST_ARG
  else if badState then s.reject p ST_STATE
  else if badArg then s.reject p ST_ARG
  else act (s.accept p)

/-! ### Violation log (R211, R212) -/

/-- Log a refusal: type 1 is GX_VIOL (source 96), type 2 GX_LOCKWR (source 97). A refusal that finds the log
full is counted in GNT_LOGLOST and raises source 98; sources 96 and 97 are raised in either case. -/
def State.logRefusal (s : State) (type addr init : Nat) : State :=
  let s1 := s.event GNT_EVT (type - 1) (95 + type)
  if s1.gnt.log.length < 16 then
    { s1 with gnt := { s1.gnt with log := s1.gnt.log ++ [{ addr := addr, type := type, init := init, beat := s.beatNo % 65536 }] } }
  else (s1.count GNT_LOGLOST 1).event GNT_EVT 2 98

/-! ### Error responses (R19 to R22) -/

/-- The kinds of a fabric error response. -/
inductive ErrKind where
  | decode | noreg | size | protect | locked | rsvenc | gated | uncorr
deriving DecidableEq, Repr

/-- The KIND encoding of SYS_FERR_INFO. -/
def ErrKind.code : ErrKind → Nat
  | .decode => 1 | .noreg => 2 | .size => 3 | .protect => 4 | .locked => 5 | .rsvenc => 6 | .gated => 7 | .uncorr => 8

/-- Access sizes, as SYS_FERR_INFO.SIZE encodes them. -/
inductive Size where
  | byte | half | word | dword
deriving DecidableEq, Repr

def Size.code : Size → Nat
  | .byte => 0 | .half => 1 | .word => 2 | .dword => 3

def Size.bytes : Size → Nat
  | .byte => 1 | .half => 2 | .word => 4 | .dword => 8

/-- The size with a given code. -/
def Size.ofCode (n : Nat) : Size :=
  match n % 4 with | 0 => .byte | 1 => .half | 2 => .word | _ => .dword

/-- An error response: it raises source 28, counts, and is captured when no capture is held (R21). -/
def State.ferr (s : State) (i : Initiator) (addr : Nat) (wr : Bool) (z : Size) (k : ErrKind) : State :=
  let s1 := (s.raise 28).count SYS_FERR_COUNT 1
  if s1.bit SYS_FERR_INFO 31 then s1
  else
    (s1.setRg SYS_FERR_ADDR (w32 addr)).setRg SYS_FERR_INFO
      (w32 (0x80000000 + z.code * 512 + (if wr then 256 else 0) + i.code * 16 + k.code))

/-! ### The queue -/

/-- Outcome of a command that only changes the state. -/
abbrev Out := Host.Outcome State Fault Refusal

/-- Every command of this block completes with a next state. -/
def done (s : State) : Out := .next s

end Sys2Proof.Machine
end

