-- ==== Sys2Proof/Machine/Faults.lean ====
section
/-! DEFINITION. Memory regions and raw bytes (spec/01 R14, spec/07 R185), the fault manager's channels and
records (spec/08 R219 to R223), spare rows (spec/07 R190), and what retirement does to a channel's block. -/

namespace Sys2Proof.Machine

/-! ### Cores -/

/-- The state of one core. -/
def State.core (s : State) : CoreId → Core
  | .c0 => s.c0 | .c1 => s.c1 | .c2 => s.c2 | .c3 => s.c3 | .g0 => s.g0

/-- Replace the state of one core. -/
def State.setCore (s : State) (c : CoreId) (k : Core) : State :=
  match c with
  | .c0 => { s with c0 := k } | .c1 => { s with c1 := k } | .c2 => { s with c2 := k }
  | .c3 => { s with c3 := k } | .g0 => { s with g0 := k }

/-- The five cores, in the order of their numbers. -/
def allCores : List CoreId := [.c0, .c1, .c2, .c3, .g0]

/-- A general register (R74). -/
def Core.reg (k : Core) (n : Nat) : Word := smGet (fun _ => 0) k.g n

/-- Write a general register. -/
def Core.setReg (k : Core) (n : Nat) (v : Word) : Core := { k with g := smSet (fun _ => 0) k.g n v }

/-! ### Regions (R14) -/

/-- The regions of the memory map. -/
inductive Region where
  | rom | ownTcm | tcm (n : Nat) | sram | mramRing | mramKeys | expert (n : Nat) | xip
  | periph (k : Nat) | lram (p : Nat) | gauntlet (k : Nat) | g0sram | private0
deriving DecidableEq, Repr

/-- The region that holds an address (R14). -/
def regionOf (a : Nat) : Option Region :=
  if a ≤ 0x0001FFFF then some .rom
  else if 0x08000000 ≤ a ∧ a ≤ 0x0800FFFF then some .ownTcm
  else if 0x08100000 ≤ a ∧ a ≤ 0x0813FFFF then some (.tcm ((a - 0x08100000) / 0x10000))
  else if 0x10000000 ≤ a ∧ a ≤ 0x107FFFFF then some .sram
  else if 0x18000000 ≤ a ∧ a ≤ 0x180FFFFF then some .mramRing
  else if 0x18100000 ≤ a ∧ a ≤ 0x181FFFFF then some .mramKeys
  else if 0x20000000 ≤ a ∧ a ≤ 0x201FFFFF then some (.expert ((a - 0x20000000) / 0x20000))
  else if 0x30000000 ≤ a ∧ a ≤ 0x3FFFFFFF then some .xip
  else if 0x40000000 ≤ a ∧ a ≤ 0x4020FFFF then some (.periph ((a - 0x40000000) / 0x10000))
  else if 0x48000000 ≤ a ∧ a ≤ 0x482FFFFF then some (.lram ((a - 0x48000000) / 0x100000))
  else if 0x50000000 ≤ a ∧ a ≤ 0x5005FFFF then some (.gauntlet ((a - 0x50000000) / 0x10000))
  else if 0x50100000 ≤ a ∧ a ≤ 0x5011FFFF then some .g0sram
  else if 0xF0000000 ≤ a ∧ a ≤ 0xF000FFFF then some .private0
  else none

/-! ### Bytes -/

/-- What a byte of memory that nothing has written reads as: the boot ROM's contents, and 0 elsewhere
(log entry 6). -/
def memDefault (a : Nat) : Byte := if a ≤ 0x0001FFFF then Config.romByte a else 0

/-- The canonical form of memory: addresses strictly rising, and no entry equal to what an unlisted address reads as. -/
def Memory.wf (m : List Host.Cell) : Bool := smWf memDefault m

/-- One byte of memory. -/
def State.byteAt (s : State) (p : Nat) : Byte := smGet memDefault s.mem p

/-- Store one byte of memory, in canonical form. -/
def State.setByte (s : State) (p : Nat) (b : Byte) : State := { s with mem := smSet memDefault s.mem p b }

/-- Read `n` bytes at a physical address, little-endian (R6). -/
def State.peek (s : State) (p n : Nat) : Nat := ofLe ((List.range n).map (fun i => s.byteAt (p + i)))

/-- Store a list of bytes from a physical address up. -/
def State.pokeBytes (s : State) : Nat → List Byte → State
  | _, [] => s
  | p, b :: l => State.pokeBytes (s.setByte p b) (p + 1) l

/-- Store `n` bytes of a number at a physical address, little-endian. -/
def State.poke (s : State) (p n v : Nat) : State := s.pokeBytes p (leBytes n v)

/-- Free contents for `n` bytes from `p` (contents the spec calls undefined; log entry 2). -/
def State.scramble (s : State) (p n : Nat) : State :=
  (s.pokeBytes p ((List.range n).map (fun i => BitVec.ofNat 8 (Config.freeNat (s.drawn + i))))) |>
    fun t => { t with drawn := s.drawn + n }

/-- The ECC state of the word at a physical word address. -/
def State.eccAt (s : State) (w : Nat) : Option EccMark := smGet (fun _ => none) s.ms.ecc w

/-- Set the ECC state of a word. -/
def State.setEcc (s : State) (w : Nat) (m : Option EccMark) : State :=
  { s with ms := { s.ms with ecc := smSet (fun _ => none) s.ms.ecc w m } }

/-! ### Spare rows (R190, R191) -/

/-- What serves an SRAM row. -/
inductive RowHome where
  | original
  | spare (n : Nat)
  | hole
deriving DecidableEq, Repr

/-- The pseudo-address of a byte of a spare row. -/
def sparePhys (bank n off : Nat) : Nat := 0x100000000 + (2 * bank + n) * 4096 + off

/-- What serves row `row` (256 × bank + row) to every initiator but G0 in REQUAL. A hole that was reinstated is served from the
original row, though MEM_REMAP may still name it (R581). -/
def State.rowHome (s : State) (row : Nat) : RowHome :=
  let b := row / 256
  let r := row % 256
  if s.bit (MEM_HOLE (row / 32)) (row % 32) then .hole
  else if s.ms.restored.contains row then .original
  else
    match s.ms.copies.reverse.find? (fun c => c.bank == b && c.row == r) with
    | some c => .spare c.spare
    | none =>
      if s.bit (MEM_REMAP b) 31 && s.fld (MEM_REMAP b) 16 8 == r then .spare 1
      else if s.bit (MEM_REMAP b) 15 && s.fld (MEM_REMAP b) 0 8 == r then .spare 0
      else .original

/-- Whether a bank's spare is free: not recorded in MEM_REMAP and not the target of a copy in progress. -/
def State.spareFree (s : State) (b n : Nat) : Bool :=
  !(s.bit (MEM_REMAP b) (if n = 0 then 15 else 31)) && !(s.ms.copies.any (fun c => c.bank == b && c.spare == n))

/-- Count, capture and raise an ECC finding in the memory of REGION code `code` (R188, R194, R195): `a` is the address as accessed.
MRAM findings have a counter for corrected errors only. -/
def State.eccCount (s : State) (code a : Nat) (scrub ue : Bool) : State :=
  let low := (if scrub then 2 else 0) + (if ue then 1 else 0)
  let c := (s.setRg MEM_ERR_ADDR (w32 (a / 8 * 8))).setRg MEM_ERR_INFO (w32 (low * 256 + code))
  if code < 2 then if ue then (c.count MEM_UECNT 1).event MEM_EVT 1 49 else (c.count MEM_CECNT 1).event MEM_EVT 0 48
  else if ue then c.event MEM_EVT 5 52
  else (c.count MEM_MCECNT 1).event MEM_EVT 4 52

/-- Copy the 4 KB of row `row` from `src`; correctable words arrive sound and uncorrectable ones poisoned (R190). Every error found
is counted, captured and raised (R188); its report changes nothing, because the row's channel is RETIRED (R222). -/
def State.copyRow (s0 : State) (row src dst : Nat) : State :=
  let inSrc := fun k => decide (src ≤ k ∧ k < src + 4096)
  let inDst := fun k => decide (dst ≤ k ∧ k < dst + 4096)
  let found := s0.ms.ecc.filter (fun e => inSrc e.1)
  let s := found.foldl (fun t e => t.eccCount 0 (0x10000000 + row * 4096 + (e.1 - src)) false (e.2 == some .uncorrectable)) s0
  let bytes := s.mem.filter (fun e => inSrc e.1)
  let marks := found.filter (fun e => e.2 == some .uncorrectable)
  let m0 := smDrop inDst s.mem
  let e0 := smDrop inDst s.ms.ecc
  { s with
    mem := bytes.foldl (fun m e => smSet memDefault m (e.1 - src + dst) e.2) m0
    ms := { s.ms with ecc := marks.foldl (fun m e => smSet (fun _ => none) m (e.1 - src + dst) e.2) e0 } }

/-- Retirement of an SRAM row: the copy to a spare begins, or the row becomes a hole (R190, R191). -/
def State.retireRow (s : State) (row : Nat) : State :=
  let b := row / 256
  let from0 := match s.rowHome row with
    | .spare n => sparePhys b n 0
    | _ => 0x10000000 + row * 4096
  let take := fun (n : Nat) =>
    let t := s.copyRow row from0 (sparePhys b n 0)
    { t with ms := { t.ms with copies := t.ms.copies ++ [{ bank := b, row := row % 256, spare := n }] } }
  if s.spareFree b 0 then take 0
  else if s.spareFree b 1 then take 1
  else (s.setBit (MEM_HOLE (row / 32)) (row % 32) true).event MEM_EVT 3 51

/-! ### Link ports (spec/10 R275, R289) -/

/-- The state of port `p`. -/
def State.port (s : State) (p : Nat) : PortSt := smGet (fun _ => PortSt.blank) s.lnk.ports p

/-- Store the state of port `p`. -/
def State.setPort (s : State) (p : Nat) (x : PortSt) : State :=
  { s with lnk := { s.lnk with ports := smSet (fun _ => PortSt.blank) s.lnk.ports p x } }

/-- Window `w` of a port. -/
def PortSt.win (x : PortSt) (w : Nat) : PortWin := smGet (fun _ => PortWin.blank) x.wins w

/-- Store window `w` of a port. -/
def PortSt.setWin (x : PortSt) (w : Nat) (y : PortWin) : PortSt :=
  { x with wins := smSet (fun _ => PortWin.blank) x.wins w y }

/-- LNK_PSTAT.UP. -/
def State.portUp (s : State) (p : Nat) : Bool := s.bit (LNK_PSTAT p) 0

/-- An LNK event: bit `k` with source 192 + `k` (LNK_EVT). -/
def State.lnkEvt (s : State) (k : Nat) : State := s.event LNK_EVT k (192 + k)

/-- A count of 1 in LNK_IGN, with source 207 (R284). -/
def State.lnkIgnore (s : State) : State := (s.count LNK_IGN 1).lnkEvt 15

/-- A port restarts its hop-sequence state (R289): unacknowledged frames return to the queue in their order, to be
numbered afresh. -/
def PortSt.restart (x : PortSt) : PortSt :=
  { x with
    audio := []
    wins := x.wins.map (fun e =>
      (e.1, { e.2 with
        txNext := 0, rxNext := 0, heard := false, unacked := [], credit := 0
        waiting := (e.2.unacked ++ e.2.waiting).map (fun f => { f with hseq := none }) })) }

/-- A port goes DOWN (R275, R289, R292): source 193. -/
def State.portDown (s : State) (p : Nat) : State :=
  if s.portUp p then
    let t := (s.setBit (LNK_PSTAT p) 0 false).setPort p { (s.port p).restart with beatHops := none, beatNow := false }
    (((t.setFld (LNK_PSTAT p) 16 6 63).setBit (LNK_PSTAT p) 15 false).setRg (LNK_CRED p) (if p < 2 then 0 else t.rg (LNK_CRED p))).lnkEvt 1
  else s

/-- Port `p` may be UP (R275, R292): its PHY reports link, it is enabled and not retired, and a ring port carries nothing while the
link is STOPPED. -/
def State.portAble (s : State) (p : Nat) : Bool :=
  (s.port p).phy && s.bit (LNK_PORT p) 0 && s.fld (FLT_CHSTAT (0x810 + p)) 0 2 != 2 && (p == 2 || s.fld LNK_STAT 0 3 != 0)

/-- A port that may be UP becomes so, with its hop-sequence state at the start (R275, R289): source 193. -/
def State.portBring (s : State) (p : Nat) : State :=
  if s.portAble p && !s.portUp p then
    ((s.setPort p { (s.port p).restart with silent := 0 }).setBit (LNK_PSTAT p) 0 true).lnkEvt 1
  else s

/-! ### Channels (R219 to R223) -/

/-- The policy class of a channel, or nothing for a reserved number (R219). -/
def chanClass (ch : Nat) : Option Nat :=
  if ch < 0x800 then some 0
  else if ch < 0x810 then some 1
  else if ch < 0x813 then some 2
  else if ch = 0x814 ∨ ch = 0x815 then some 3
  else if 0x818 ≤ ch ∧ ch ≤ 0x81A then some 4
  else if ch = 0x81C ∨ ch = 0x81D then some 5
  else if ch = 0x820 ∨ ch = 0x821 then some 6
  else if ch = 0x824 then some 7
  else none

/-- FLT_CHSTAT.STATE: 0 OK, 1 SUSPECT, 2 RETIRED, 3 REQUAL. -/
def State.chanState (s : State) (ch : Nat) : Nat := s.fld (FLT_CHSTAT ch) 0 2

/-- The channel is RETIRED. -/
def State.retired (s : State) (ch : Nat) : Bool := s.chanState ch == 2

/-- The full number of the beat that opened the channel's window (R221). -/
def State.chanFirst (s : State) (ch : Nat) : Nat :=
  match s.gnt.chanFirst.find? (fun e => e.1 == ch) with
  | some e => e.2
  | none => 0

/-- Load FLT_CHSTAT of a channel. -/
def State.setChan (s : State) (ch first count st : Nat) : State :=
  let s1 := s.setRg (FLT_CHSTAT ch) (w32 (first % 65536 * 65536 + count * 256 + st))
  { s1 with gnt := { s1.gnt with chanFirst := (ch, first) :: s1.gnt.chanFirst.filter (fun e => e.1 != ch) } }

/-- Queue a fault record (R223): EVENT 1 retirement, 2 reinstatement, 3 lock-up. -/
def State.queueRecord (s : State) (chan ev count first : Nat) (detail : Word) (addr : Nat) : State :=
  let words := [w32 (chan + ev * 65536 + count * 16777216), w32 first, w32 s.beatNo, detail, w32 addr, 0]
  if s.gnt.records.length < 16 then { s with gnt := { s.gnt with records := s.gnt.records ++ [words] } }
  else (s.count FLT_RECOVF 1).event FLT_EVT 5 109

/-- A retired camera input abandons its open frame, whose buffer is free again (R418; log entry 21). -/
def State.retireCamera (s : State) (x : Nat) : State :=
  let c := smGet (fun _ => CamSt.blank) s.cams x
  match c.cur with
  | none => s
  | some f =>
    { s with cams := smSet (fun _ => CamSt.blank) s.cams x { c with cur := none } }.setFld (CAM_BSTAT x) (2 * f.buf) 2 0

/-- Retirement of the eMMC channel halts a running recorder (R429). -/
def State.retireEmmc (s : State) : State :=
  if s.fld REC_STAT 0 2 = 1 then
    let t := ((s.setFld REC_STAT 0 2 2).setFld REC_STAT 4 2 1).setBit EMMC_STAT 1 false
    { t with recorder := { t.recorder with wr := none, stopping := false } }.event REC_EVT 8 456
  else s

/-- Retirement of engine `n` (R452): a valid remap entry of the live bank, whose target is neither retired nor serving, starts a
spare copy. -/
def State.retireEngine (s : State) (n : Nat) : State :=
  match s.xpa.banks.find? (fun e => e.1 == s.lvFld XPA_SCHSEL 0 1) with
  | none => s
  | some (_, b) =>
    let v := b.remap.getD n 0
    let t := v % 16
    let serving := (s.xpa.spares ++ s.xpa.copied ++ s.xpa.copying).any (fun e => e.2 == t)
    let out := fun (m : Nat) => s.fld (FLT_CHSTAT (0x800 + m)) 0 2 == 2
    if 128 ≤ v && s.bit XPA_STAT (4 + s.lvFld XPA_SCHSEL 0 1) && !out t && !serving then
      { s with xpa := { s.xpa with copying := s.xpa.copying ++ [(n, t)] } }.setBit XPA_STAT 9 true
    else s

/-- What the channel's block does when the channel is retired, beyond the tests of the channel state that
its commands make: R190 (SRAM row), R292 (port), R418 (camera), R429 (eMMC),
R452 (engine). -/
def State.retireBlock (s : State) (ch : Nat) : State :=
  if ch < 0x800 then s.retireRow ch
  else if ch < 0x810 then s.retireEngine (ch - 0x800)
  else if 0x810 ≤ ch ∧ ch ≤ 0x812 then s.portDown (ch - 0x810)
  else if ch = 0x814 ∨ ch = 0x815 then s.retireCamera (ch - 0x814)
  else if ch = 0x824 then s.retireEmmc
  else s

/-- What the channel's block does when the channel enters REQUAL: a port is brought up for peer-delay exchanges (R292). -/
def State.requalBlock (s : State) (ch : Nat) : State :=
  if 0x810 ≤ ch ∧ ch ≤ 0x812 then s.portBring (ch - 0x810) else s

/-- What it does when a requalification is aborted: the port is DOWN again (R275, R292). -/
def State.abortBlock (s : State) (ch : Nat) : State :=
  if 0x810 ≤ ch ∧ ch ≤ 0x812 then s.portDown (ch - 0x810) else s

/-- What the channel's block does when the channel is reinstated: a hole is served again, with undefined
contents (R191); an engine holds no weights (R453); a port whose PHY reports link is UP (R275). -/
def State.reinstateBlock (s : State) (ch : Nat) : State :=
  if ch < 0x800 then
    if s.bit (MEM_HOLE (ch / 32)) (ch % 32) then
      let t := (s.setBit (MEM_HOLE (ch / 32)) (ch % 32) false).scramble (0x10000000 + ch * 4096) 4096
      { t with ms := { t.ms with restored := if t.ms.restored.contains ch then t.ms.restored else ch :: t.ms.restored } }
    else s
  else if ch < 0x810 then { s with xpa := { s.xpa with bare := (ch - 0x800) :: s.xpa.bare } }
  else if 0x810 ≤ ch ∧ ch ≤ 0x812 then s.portBring (ch - 0x810)
  else s

/-- Retire a channel (R222, R223). -/
def State.retire (s : State) (ch first count : Nat) (detail : Word) : State :=
  let s1 := (s.setChan ch first count 2).setRg FLT_LASTCH (w32 ch)
  let s2 := s1.event FLT_EVT 2 106
  let addr := if ch < 0x800 then 0x10000000 + ch * 4096 else 0
  (s2.queueRecord ch 1 count first detail addr).retireBlock ch

/-- A block reports an error on a channel (R220 to R222). -/
def State.faultReport (s : State) (ch : Nat) (detail : Word) : State :=
  match chanClass ch with
  | none => s
  | some cls =>
    let st := s.chanState ch
    if st = 2 ∨ st = 3 then s
    else
      let window := s.fld (FLT_POLICY cls) 16 16
      let retries := s.fld (FLT_POLICY cls) 0 4
      let inWindow := decide (st = 1) && decide (s.beatNo < s.chanFirst ch + window)
      let first := if inWindow then s.chanFirst ch else s.beatNo
      let count := if inWindow then s.fld (FLT_CHSTAT ch) 8 8 + 1 else 1
      let s1 := (s.setChan ch first count 1).event FLT_EVT 1 105
      if retries < count then s1.retire ch first count detail else s1

end Sys2Proof.Machine
end

