-- ==== Sys2Proof/Machine/Mem.lean ====
section
/-! DEFINITION. The memories behind the fabric: ECC, spare rows and holes (spec/07 R184 to R195), TCM and
private SRAM (spec/03 R94), and the reservations that a write breaks (R100). -/

namespace Sys2Proof.Machine

/-- The address of the ECC word that holds an address: 32 bits in TCM and G0 private SRAM (R94), else 64. -/
def eccWord (r : Region) (p : Nat) : Nat :=
  match r with
  | .tcm _ | .g0sram => p / 4 * 4
  | _ => p / 8 * 8

/-- Bytes of an ECC word. -/
def eccBytes (r : Region) : Nat :=
  match r with
  | .tcm _ | .g0sram => 4
  | _ => 8

/-- The detail word of an engine memory error found by a fabric access or the scrubber (R451): kind 3. -/
def engineEccDetail : Word := 3

/-- Count, capture and report an ECC finding (R188, R194, R195). `a` is the address as accessed. -/
def State.eccFound (s : State) (r : Region) (a : Nat) (scrub ue : Bool) : State :=
  let low := (if scrub then 2 else 0) + (if ue then 1 else 0)
  match r with
  | .sram => (s.eccCount 0 a scrub ue).faultReport ((a - 0x10000000) / 4096) (w32 (a / 8 * 8 + low))
  | .expert n =>
    let t := s.eccCount 1 a scrub ue
    if ue then t.faultReport (0x800 + n) engineEccDetail else t
  | .mramRing => s.eccCount 2 a scrub ue
  | .mramKeys => s.eccCount 3 a scrub ue
  | _ => s

/-- A read of an MRAM region waits until the program that runs there has ended (R192). -/
def State.endProgram (s : State) (r : Region) : State :=
  let end_ := fun (n : Nat) => { s with ms := { s.ms with programming := s.ms.programming.filter (fun e => e.region != n) } }
  match r with
  | .mramRing => end_ 0
  | .mramKeys => end_ 1
  | _ => s

/-- Where an access lands: the physical address, or nothing for a row that is a hole (R190, R191, R581). -/
def State.physOf (s : State) (r : Region) (g0 : Bool) (a : Nat) : Option Nat :=
  match r with
  | .sram =>
    let row := (a - 0x10000000) / 4096
    if g0 && s.chanState row == 3 then some a
    else
      match s.rowHome row with
      | .original => some a
      | .spare n => some (sparePhys (row / 256) n (a % 4096))
      | .hole => none
  | _ => some a

/-- A read of `n` bytes inside one ECC word: the value, or none where it ends in UNCORR (R186, R94, R194). -/
def State.eccRead (s : State) (r : Region) (a p n : Nat) : Option Nat × State :=
  let w := eccWord r p
  match s.eccAt w with
  | none => (some (s.peek p n), s)
  | some .single =>
    let t := match r with
      | .mramRing => s
      | .mramKeys => s
      | _ => s.setEcc w none
    (some (s.peek p n), t.eccFound r a false false)
  | some .uncorrectable => (none, s.eccFound r a false true)

/-- `n` free bytes (log entry 2). -/
def State.drawBytes (s : State) : Nat → List Byte × State
  | 0 => ([], s)
  | n + 1 =>
    let (v, t) := s.draw
    let (l, u) := State.drawBytes t n
    (BitVec.ofNat 8 v :: l, u)

/-- The 64-byte line of flash that holds address `a` (R526): the prefetch line, or one read now, whose bytes are those given
and, beyond them, free values (log entry 3). -/
def State.xipLine (s : State) (a : Nat) (given : List Byte) : List Byte × State :=
  let miss :=
    let g := given.take 64
    let (l, t) := s.drawBytes (64 - g.length)
    (g ++ l, { t with ospi := { t.ospi with line := some (a / 64, g ++ l) } })
  match s.ospi.line with
  | some (b, l) => if b = a / 64 then (l, s) else miss
  | none => miss

/-- A read of `n` bytes of a memory region after every other check: the value, or none for UNCORR. The XIP
window reads a flash whose contents the spec does not give; the key area reads as 0 (R213). A doubleword of a
memory with 32-bit ECC words is read as two words. A read of MRAM waits for the region's program. -/
def State.memRead (s0 : State) (r : Region) (g0 : Bool) (a n : Nat) : Option Nat × State :=
  let s := s0.endProgram r
  match r with
  | .xip =>
    let (l, t) := s.xipLine a []
    (some (ofLe ((l.drop (a % 64)).take n)), t)
  | _ =>
    if decide (r = .mramKeys) && decide (0x181FF000 ≤ a) then (some 0, s)
    else
      match s.physOf r g0 a with
      | none => (none, s)
      | some p =>
        if eccBytes r < n then
          match s.eccRead r a p 4 with
          | (none, t) => (none, t)
          | (some lo, t) =>
            match t.eccRead r (a + 4) (p + 4) 4 with
            | (none, u) => (none, u)
            | (some hi, u) => (some (lo + 0x100000000 * hi), u)
        else s.eccRead r a p n

/-- A write of `n` bytes to any granule clears the reservations that other cores hold on it. A reservation in a core's own TCM,
whose granule has the core's own address, is local to that core (R100; log entry 31). -/
def State.breakReservations (s : State) (by_ : Option CoreId) (a n : Nat) : State :=
  allCores.foldl (fun t c =>
    if by_ == some c then t
    else
      match (t.core c).reserved with
      | none => t
      | some g => if a / 32 ≤ g ∧ g ≤ (a + n - 1) / 32 then t.setCore c { t.core c with reserved := none } else t) s

/-- Record that a 64-bit MRAM word's program has begun (R192, R193); a region programs one word at a time,
so a program still running ends first. -/
def State.beginProgram (s : State) (region w : Nat) : State :=
  let old := (List.range 8).map (fun i => s.byteAt (w + i))
  { s with ms := { s.ms with programming :=
    { region := region, addr := w, old := old } :: s.ms.programming.filter (fun e => e.region != region) } }

/-- A store of `n` bytes inside one ECC word, after every other check: true where it took effect, false where
its read-modify-write met an uncorrectable word and ends in UNCORR (R187, R192, R94). -/
def State.eccWrite (s : State) (r : Region) (a p n v : Nat) : Bool × State :=
  let w := eccWord r p
  let put := fun (t : State) =>
    let t1 := match r with
      | .mramRing => t.beginProgram 0 w
      | .mramKeys => t.beginProgram 1 w
      | _ => t
    (t1.poke p n v).setEcc w none
  if eccBytes r ≤ n then (true, put s)
  else
    match s.eccAt w with
    | none => (true, put s)
    | some .single => (true, put (s.eccFound r a false false))
    | some .uncorrectable => (false, s.eccFound r a false true)

/-- A write of `n` bytes to a memory region after every other check. -/
def State.memWrite (s : State) (r : Region) (by_ : Option CoreId) (a n v : Nat) : Bool × State :=
  match s.physOf r (by_ == some .g0) a with
  | none => (false, s)
  | some p =>
    let out :=
      if eccBytes r < n then
        match s.eccWrite r a p 4 v with
        | (_, t) => t.eccWrite r (a + 4) (p + 4) 4 (v / 0x100000000)
      else s.eccWrite r a p n v
    if out.1 then (true, out.2.breakReservations by_ a n) else out

/-! ### The device's own use of MRAM -/

/-- The MRAM region of an address. -/
def mramRegion (a : Nat) : Region := if a < 0x18100000 then .mramRing else .mramKeys

/-- Program one MRAM word. -/
def State.mramPut (s : State) (a v : Nat) : State := (s.memWrite (mramRegion a) none a 8 v).2

/-- The programs that run have ended: a read-back, or a later write that must follow them, waits for them (R192, R244). -/
def State.mramSettle (s : State) : State := { s with ms := { s.ms with programming := [] } }

/-- The Ledger or the boot ROM reads MRAM words: every error among them is found (R194), and programs end first (R192). -/
def State.mramSeen (s : State) (inside : Nat → Bool) : State :=
  (s.ms.ecc.filter (fun e => inside e.1)).foldl
    (fun t e => t.eccFound (mramRegion e.1) e.1 false (e.2 == some .uncorrectable)) s.mramSettle

/-- A word of MRAM, none where it is unreadable. -/
def State.mramWord (s : State) (a : Nat) : Option Nat :=
  if s.eccAt a = some .uncorrectable then none else some (s.peek a 8)

end Sys2Proof.Machine
end

