-- ==== Sys2Proof/Machine/Access.lean ====
section
/-! DEFINITION. How an access is judged before it reaches its target: decoding, access rights, sizes,
gates, undefined offsets, locks and reserved encodings, in the order of R577 (spec/01 R14 to R18, R31 to
R36; spec/07 R184), and the read latches and holding areas of multi-word registers (R28, R29). -/

namespace Sys2Proof.Machine

/-- The region an initiator's access decodes to: own TCM exists for C0 to C3 only, the private control space
for the cores only, and raster local RAM is 64 KB a pipe (R14, R324). -/
def decodeFor (i : Initiator) (a : Nat) : Option Region :=
  match regionOf a with
  | some .ownTcm =>
    match i with
    | .c0 => some .ownTcm
    | .c1 => some .ownTcm
    | .c2 => some .ownTcm
    | .c3 => some .ownTcm
    | _ => none
  | some .private0 => if i.core?.isSome then some .private0 else none
  | some (.lram p) => if a % 0x100000 < 0x10000 then some (.lram p) else none
  | r => r

/-- The read rights of R16. -/
def mayRead (r : Region) (i : Initiator) : Bool :=
  match r with
  | .rom => i.isApp
  | .ownTcm => true
  | .private0 => true
  | .tcm _ => i.isApp || i == .dma
  | .sram => true
  | .expert _ => true
  | .mramRing => i.isApp || i == .g0 || i == .dma || i == .link || i == .ledger
  | .mramKeys => i.isApp || i == .g0 || i == .dma
  | .xip => i.isApp || i == .g0 || i == .dma || i == .audio || i == .expert
  | .lram _ => i.isApp || i == .dma || i == .raster
  | .periph _ => i.isApp || i == .g0 || i == .dma || i == .link
  | .gauntlet _ => i.isApp || i == .g0 || i == .dma || i == .link
  | .g0sram => i == .g0

/-- The write rights of R16. -/
def mayWrite (r : Region) (i : Initiator) : Bool :=
  match r with
  | .rom => false
  | .ownTcm => true
  | .private0 => true
  | .tcm _ => i.isApp || i == .dma
  | .sram => true
  | .expert _ => true
  | .mramRing => i == .ledger
  | .mramKeys => i == .g0
  | .xip => false
  | .lram _ => i.isApp || i == .dma || i == .raster
  | .periph _ => i.isApp || i == .g0 || i == .dma || i == .link
  | .gauntlet _ => i == .g0
  | .g0sram => i == .g0

/-- The SYS_CLKEN bit that gates a region (R18, R10). -/
def gateOf (r : Region) : Option Nat :=
  match r with
  | .xip => some 16
  | .lram p => some (19 + p)
  | .periph k =>
    if k = 4 then some 0 else if 8 ≤ k ∧ k ≤ 10 then some (11 + k) else if k = 11 then some 22
    else if 12 ≤ k ∧ k ≤ 18 then some (k - 11) else if k = 21 ∨ k = 22 then some (k - 13)
    else if 23 ≤ k ∧ k ≤ 28 then some (k - 13) else if 29 ≤ k ∧ k ≤ 31 then some (k - 13) else none
  | _ => none

/-- The block's clock runs (R13, R18); the XIP window is open as well (R526). -/
def State.clocked (s : State) (r : Region) : Bool :=
  match gateOf r with
  | none => true
  | some b => s.bit SYS_CLKEN b && (r != .xip || (s.bit OSPI_XCTL 0 && s.bit OSPI_CFG 0))

/-- The per-core registers of the Ledger, which other initiators may not touch (R246). -/
def ldgPerCore (a : Nat) : Bool := decide (0x40060040 ≤ a ∧ a < 0x4006006C)

/-- Narrowings of R16 for a write, with whether the chapter has the refusal logged as GX_VIOL (R577): block
write protection (R209), registers for G0 alone (R307, R550, R543, R535), the Ledger's per-core views (R246),
the Ledger's control area (R243), the boot records (R543), the key area (R213); and, not logged, ECX_TGT where
G0 is the target (R164; log entry 10) and FORMAT (R271). -/
def State.writeNarrowed (s : State) (i : Initiator) (a v : Nat) : Option Bool :=
  let g0 := i == .g0
  match regionOf a with
  | some (.periph k) =>
    let wp := if k < 32 then s.bit GNT_WP0 k else s.bit GNT_WP1 0
    if wp && !g0 then some true
    else if ldgPerCore (a / 4 * 4) && i.core?.isNone then some true
    else
      match regAt (a / 4 * 4) with
      | some (r, _, _) =>
        if r.g0Write && !g0 then some true
        else if !g0 && decide (0x40031000 ≤ a ∧ a < 0x40032000) &&
            (s.fld (a / 4 * 4) 0 3 == 4 || v % 8 == 4) then some false
        else if !g0 && decide (a / 4 * 4 = LDG_CMD) && v / 0x10000000 % 16 == 6 then some false
        else none
      | none => none
  | some .mramKeys =>
    if (0x181C0000 ≤ a ∧ a ≤ 0x181EFFFF) ∨ (0x181F0000 ≤ a ∧ a ≤ 0x181F00FF) ∨ 0x181FF000 ≤ a then some true else none
  | _ => none

/-- The size check of R17 and R184, alignment included. R17 names SIZE for peripheral and Gauntlet blocks; that an aligned byte
or halfword access to the core-private control space, which R81 wants as aligned words, ends in SIZE too is the model's
reading (DEDUCED; log entry 31). -/
def sizeBad (r : Region) (a : Nat) (wr : Bool) (z : Size) : Bool :=
  a % z.bytes != 0 ||
  match r with
  | .periph _ => z != .word
  | .gauntlet _ => z != .word
  | .private0 => z != .word
  | .mramRing => wr && (z == .byte || z == .half)
  | .mramKeys => wr && (z == .byte || z == .half)
  | _ => false

/-- The pin's lock (R486). -/
def State.pinLocked (s : State) (p n : Nat) : Bool := s.bit (PIN_LOCKED p) n

/-- A write to this register is refused as locked (R31, R32). -/
def State.lockedReg (s : State) (a : Nat) (r : RegRow) (i j : Nat) : Bool :=
  match r.lock with
  | .none => false
  | .once => s.wosSpent.contains a
  | .by l => s.bit l 0
  | .pin => s.pinLocked i j

/-- Whether a value holds a reserved encoding of the register at `a` (R36). -/
def badEncoding (a : Nat) (r : RegRow) (i j : Nat) (v : Word) : Bool :=
  r.enc.any (fun e => !e.legal v) ||
  match r.special with
  | .pinFunc => !pinFuncOk i j (fieldOf v 0 3)
  | .scCfg =>
    if a / 0x10000 = 0x401B ∨ a / 0x10000 = 0x401C then fieldOf v 12 2 == 3 else fieldOf v 12 2 != 0
  | _ => false

/-- The pending word an initiator holds for a word of a multi-word register (R29). -/
def State.pendingWord (s : State) (i : Initiator) (a : Nat) : Option Word :=
  (s.held.find? (fun e => e.1 == viewKey i.code a)).map (fun e => e.2)

/-- Clear an initiator's pending marks for the words below the highest word at `a` (R29). -/
def State.clearPending (s : State) (i : Initiator) (a words : Nat) : State :=
  { s with held := s.held.filter (fun e => !(List.range words).any (fun k => e.1 == viewKey i.code (a - 4 * k))) }

/-- Store a pending word (R29). -/
def State.holdWord (s : State) (i : Initiator) (a : Nat) (v : Word) : State :=
  { s with held := smPut s.held (viewKey i.code a) v }

/-- Registers whose words share one latch but that take no writes in words: every word below the highest of a
writable multi-word register is held. -/
def RegRow.holds (r : RegRow) : Bool := decide (r.word + 1 < r.words)

/-- The write holds a reserved encoding, in itself or, for a highest word, in a pending word (R29, R36). -/
def State.encodingRefused (s : State) (i : Initiator) (a : Nat) (r : RegRow) (ix jx : Nat) (v : Word) : Bool :=
  if r.holds then false
  else
    badEncoding a r ix jx v ||
    (List.range r.word).any (fun k =>
      match s.pendingWord i (a - 4 * (k + 1)), regAt (a - 4 * (k + 1)) with
      | some w, some (q, qi, qj) => badEncoding (a - 4 * (k + 1)) q qi qj w
      | _, _ => false)

/-- Until the handover, KEY and CRY accept C0's writes as they accept G0's (R546). -/
def State.bootKeys (s : State) (r : Region) (i : Initiator) : Bool :=
  r == .gauntlet 2 && i == .c0 && !s.bit BOOT_STAT 10

/-- How an access is judged (R577): none, or the error kind and whether the Gauntlet logs it. -/
def State.judge (s : State) (i : Initiator) (a : Nat) (wr : Bool) (z : Size) (v : Nat) :
    Option (ErrKind × Option Nat) :=
  match decodeFor i a with
  | none => some (.decode, none)
  | some r =>
    let rights := if wr then mayWrite r i || s.bootKeys r i else mayRead r i
    let narrowed := if wr then s.writeNarrowed i a v
      else if ldgPerCore (a / 4 * 4) && i.core?.isNone then some false else none
    let gnt := match r with
      | .gauntlet _ => true
      | _ => false
    if !rights then some (.protect, if wr && (gnt || narrowed == some true) then some 1 else none)
    else if narrowed.isSome then some (.protect, if narrowed == some true then some 1 else none)
    else if sizeBad r a wr z then some (.size, none)
    else if !s.clocked r then some (.gated, none)
    else
      let isReg := match r with
        | .periph _ => true
        | .gauntlet _ => true
        | _ => false
      if !isReg then none
      else
        match regAt a with
        | none => some (.noreg, none)
        | some (row, ix, jx) =>
          if !wr then none
          else if s.lockedReg a row ix jx then some (.locked, some 2)
          else if s.encodingRefused i a row ix jx (w32 v) then some (.rsvenc, none)
          else none

/-- A refused access: the error response, and the Gauntlet's log entry where the kind has one. A refused write
to the highest word of a multi-word register discards the initiator's pending words (R29). -/
def State.refuse (s : State) (i : Initiator) (a : Nat) (wr : Bool) (z : Size) (k : ErrKind) (log : Option Nat) : State :=
  let s1 := s.ferr i a wr z k
  let s2 := match log with
    | some t => s1.logRefusal t a i.code
    | none => s1
  match regAt a with
  | some (row, _, _) => if wr && decide (row.word + 1 = row.words ∧ 1 < row.words) then s2.clearPending i a row.words else s2
  | none => s2

/-- The core domain is powered (R548). -/
def State.powered (s : State) : Bool := s.pwr != .park && s.pwr != .off

/-- WDG_COUNT advances: EN is set, and not (with DOZE = 1) while the device is in Doze (R218). With the core domain
off nothing counts (R548). -/
def State.wdgCounts (s : State) : Bool := s.powered && s.bit WDG_CFG 0 && !(s.bit WDG_CFG 2 && s.pwr == .doze)

/-- Judge a register write command of the table, and run it where the fabric lets it through. With the core domain off
there is no access (R548). -/
def State.guardW (s : State) (i : Initiator) (a : Nat) (v : Word) (act : State → State) : State :=
  if !s.powered then s
  else
  match s.judge i a true .word v.toNat with
  | some (k, log) => s.refuse i a true .word k log
  | none => act s

/-- Judge a register read command of the table. -/
def State.guardR (s : State) (i : Initiator) (a : Nat) (act : State → State) : State :=
  if !s.powered then s
  else
  match s.judge i a false .word 0 with
  | some (k, log) => s.refuse i a false .word k log
  | none => act s

/-- The plain effect of a write on a register's fields by their types (R8): RW, RWL, WOS and SH bits store, W1C
bits clear, W1S bits set; a WOS register spends its one write. -/
def State.storeReg (s : State) (key : Nat) (row : RegRow) (v : Word) : State :=
  let old := s.rg key
  let rw := w32 row.rw
  let v1 := (old &&& ~~~rw) ||| (v &&& rw)
  let v2 := v1 &&& ~~~(v &&& w32 row.w1c)
  let v3 := v2 ||| (v &&& w32 row.w1s)
  let s1 := s.setRg key v3
  if row.lock = .once then { s1 with wosSpent := key :: s1.wosSpent } else s1

/-- A write to the highest word of a multi-word register applies it with every pending word of the initiator
and clears the pending marks (R29). -/
def State.commitWords (s : State) (i : Initiator) (a : Nat) (row : RegRow) (v : Word) : State :=
  let low := (List.range row.word).foldl (fun t k =>
    match t.pendingWord i (a - 4 * (k + 1)), regAt (a - 4 * (k + 1)) with
    | some w, some (q, _, _) => t.storeReg (a - 4 * (k + 1)) q w
    | _, _ => t) s
  (low.storeReg a row v).clearPending i a row.words

end Sys2Proof.Machine
end

