-- ==== Sys2Proof/Machine/MemBus.lean ====
section
/-! DEFINITION. Accesses of the memories over the fabric (spec/01 R14 to R22, R577; spec/07 R184 to R197), the
scrubber and the ends of row copies and MRAM programs (R189, R190, R192). -/

namespace Sys2Proof.Machine

/-- The answer to a fabric access: the value read (0 for a write), or the kind of its error response. -/
inductive Reply where
  | ok (v : Nat)
  | err (k : ErrKind)
deriving DecidableEq, Repr

/-- The region and address that an access to a core's own TCM has on the memory map (R14, R94). -/
def aliasOf (i : Initiator) (r : Region) (a : Nat) : Region × Nat :=
  match r with
  | .ownTcm => (.tcm i.code, 0x08100000 + i.code * 0x10000 + (a - 0x08000000))
  | _ => (r, a)

/-- A read of a memory over the fabric. -/
def State.fabRead (s : State) (i : Initiator) (a : Nat) (z : Size) : Reply × State :=
  match s.judge i a false z 0 with
  | some (k, log) => (.err k, s.refuse i a false z k log)
  | none =>
    match decodeFor i a with
    | none => (.err .decode, s)
    | some r =>
      let ra := aliasOf i r a
      match s.memRead ra.1 (i == .g0) ra.2 z.bytes with
      | (some v, t) => (.ok v, t)
      | (none, t) => (.err .uncorr, t.ferr i a false z .uncorr)

/-- A write of a memory over the fabric. -/
def State.fabWrite (s : State) (i : Initiator) (a : Nat) (z : Size) (v : Nat) : Reply × State :=
  match s.judge i a true z v with
  | some (k, log) => (.err k, s.refuse i a true z k log)
  | none =>
    match decodeFor i a with
    | none => (.err .decode, s)
    | some r =>
      let ra := aliasOf i r a
      match s.memWrite ra.1 i.core? ra.2 z.bytes v with
      | (true, t) => (.ok 0, t)
      | (false, t) => (.err .uncorr, t.ferr i a true z .uncorr)

/-- Read consecutive words up to the first error: the words read, the error and its address. -/
def State.fabReadWords (s : State) (i : Initiator) : Nat → Nat → List Nat × Option (ErrKind × Nat) × State
  | _, 0 => ([], none, s)
  | a, n + 1 =>
    match s.fabRead i a .word with
    | (.err k, t) => ([], some (k, a), t)
    | (.ok v, t) =>
      let (l, e, u) := State.fabReadWords t i (a + 4) n
      (v :: l, e, u)

/-- Write consecutive doublewords, stopping at the first error. -/
def State.fabWriteDwords (s : State) (i : Initiator) : Nat → List Nat → Option (ErrKind × Nat) × State
  | _, [] => (none, s)
  | a, v :: l =>
    match s.fabWrite i a .dword v with
    | (.err k, t) => (some (k, a), t)
    | (.ok _, t) => State.fabWriteDwords t i (a + 8) l

/-- Read `n` bytes, one by one; a byte whose read ends in an error is a free value (log entry 2). -/
def State.fabReadBytes (s : State) (i : Initiator) : Nat → Nat → List Byte × State
  | _, 0 => ([], s)
  | a, n + 1 =>
    let (v, t) := match s.fabRead i a .byte with
      | (.ok v, t) => (v, t)
      | (.err _, t) => t.draw
    let (l, u) := State.fabReadBytes t i (a + 1) n
    (BitVec.ofNat 8 v :: l, u)

/-- Write bytes one by one; those whose write ends in an error are lost. -/
def State.fabWriteBytes (s : State) (i : Initiator) : Nat → List Byte → State
  | _, [] => s
  | a, b :: l => State.fabWriteBytes (s.fabWrite i a .byte b.toNat).2 i (a + 1) l

/-- Read `n` bytes in ascending order, a doubleword at a time where it is aligned: the bytes, and the first error with its
address. The first argument bounds the accesses. -/
def State.fabReadRun (s : State) (i : Initiator) : Nat → Nat → Nat → List Byte × Option (ErrKind × Nat) × State
  | 0, _, _ => ([], none, s)
  | fuel + 1, a, n =>
    if n = 0 then ([], none, s)
    else
      let z := if a % 8 = 0 ∧ 8 ≤ n then Size.dword else .byte
      match s.fabRead i a z with
      | (.err k, t) => ([], some (k, a), t)
      | (.ok v, t) =>
        let (l, e, u) := State.fabReadRun t i fuel (a + z.bytes) (n - z.bytes)
        (leBytes z.bytes v ++ l, e, u)

/-- Write bytes in ascending order, a doubleword at a time where it is aligned, up to the first error. -/
def State.fabWriteRun (s : State) (i : Initiator) : Nat → Nat → List Byte → Option (ErrKind × Nat) × State
  | 0, _, _ => (none, s)
  | fuel + 1, a, l =>
    if l.isEmpty then (none, s)
    else
      let z := if a % 8 = 0 ∧ 8 ≤ l.length then Size.dword else .byte
      match s.fabWrite i a z (ofLe (l.take z.bytes)) with
      | (.err k, t) => (some (k, a), t)
      | (.ok _, t) => State.fabWriteRun t i fuel (a + z.bytes) (l.drop z.bytes)

/-- Read and write a run of bytes of any length. -/
def State.readRun (s : State) (i : Initiator) (a n : Nat) : List Byte × Option (ErrKind × Nat) × State := s.fabReadRun i n a n
def State.writeRun (s : State) (i : Initiator) (a : Nat) (l : List Byte) : Option (ErrKind × Nat) × State :=
  s.fabWriteRun i l.length a l

/-! ### The scrubber (R189, R195) and errors in memory -/

/-- The scrubber's read of one 64-bit word of a bank or an expert memory. -/
def State.scrubWord (s : State) (r : Region) (a : Nat) : State :=
  match s.physOf r false a with
  | none => s
  | some p =>
    match s.eccAt p with
    | none => s
    | some .single => (s.setEcc p none).eccFound r a true false
    | some .uncorrectable => s.eccFound r a true true

/-- The scrubber's step of one SRAM bank: a hole row and a row in REQUAL are skipped (R191, R581). -/
def State.scrubBank (s : State) (b k : Nat) : State :=
  let row := 256 * b + k / 512
  let a := 0x10000000 + b * 0x100000 + k * 8
  if s.bit (MEM_HOLE (row / 32)) (row % 32) || s.chanState row == 3 then s else s.scrubWord .sram a

/-- The ECC word that serves `a` gets a single-bit or an uncorrectable error. -/
def State.upsetWord (s : State) (a : Nat) (ue : Bool) : State :=
  match regionOf a with
  | none => s
  | some r =>
    let mark := if ue then EccMark.uncorrectable else .single
    match r with
    | .sram =>
      match s.physOf .sram false (a / 8 * 8) with
      | none => s
      | some p => s.setEcc p (some mark)
    | .tcm _ => s.setEcc (a / 4 * 4) (some mark)
    | .g0sram => s.setEcc (a / 4 * 4) (some mark)
    | .mramRing => s.setEcc (a / 8 * 8) (some mark)
    | .mramKeys => s.setEcc (a / 8 * 8) (some mark)
    | .expert _ => s.setEcc (a / 8 * 8) (some mark)
    | _ => s

/-- An upset: the way errors enter the memories of R94, R186, R194 and R195 and the cache lines of R83 and R94 (log entry 12). In a
clean line any error counts, in a dirty one an uncorrectable one. -/
def State.upset (s : State) : Upset → State
  | .word a ue => s.upsetWord a.toNat ue
  | .dataLine n a ue =>
    let c := CoreId.app n
    let k := s.core c
    s.setCore c { k with dcache := k.dcache.map (fun e =>
      if e.1 == a.toNat / 32 then (e.1, { e.2 with err := e.2.err || ue || !e.2.dirty }) else e) }
  | .instrLine n a =>
    let c := CoreId.app n
    let k := s.core c
    s.setCore c { k with icache := k.icache.map (fun e => if e.1 == a.toNat / 32 then (e.1, { e.2 with err := true }) else e) }
  | .slot i => { s with ldg := { s.ldg with weak := i.val :: s.ldg.weak.filter (fun j => j != i.val) } }

/-- SCRUB_STEP (R189): one word of every bank and of every expert memory, each in ascending order; `hit` is an
upset that came since the last step. -/
def execScrubStep (hit : Option Upset) (s : State) : Out :=
  let s0 := match hit with
    | none => s
    | some u => s.upset u
  done (
    if s0.bit MEM_CTRL 0 then
      let k := s0.ms.scrubAt
      let s1 := (List.range 8).foldl (fun t b => t.scrubBank b k) s0
      let s2 := (List.range 16).foldl (fun t e => t.scrubWord (.expert e) (0x20000000 + e * 0x20000 + k % 16384 * 8)) s1
      { s2 with ms := { s2.ms with scrubAt := (k + 1) % 131072 } }
    else s0)

/-- SPARE_COPY_DONE (R190): the oldest copy of bank `b` ends; the row is recorded and source 50 raised. -/
def execSpareCopyDone (b : Fin 8) (s : State) : Out :=
  done (
    match s.ms.copies.find? (fun c => c.bank == b.val) with
    | none => s
    | some c =>
      let s1 := { s with ms := { s.ms with copies := s.ms.copies.filter (fun e => !(e.bank == b.val && e.spare == c.spare)) } }
      let s2 := if c.spare = 0 then (s1.setFld (MEM_REMAP b.val) 0 8 c.row).setBit (MEM_REMAP b.val) 15 true
        else (s1.setFld (MEM_REMAP b.val) 16 8 c.row).setBit (MEM_REMAP b.val) 31 true
      s2.event MEM_EVT 2 50)

/-- MRAM_PROGRAM_DONE (R192): the program of region `r` (0 Ledger ring, 1 image and key store) ends. -/
def execMramProgramDone (r : Fin 2) (s : State) : Out :=
  done { s with ms := { s.ms with programming := s.ms.programming.filter (fun e => e.region != r.val) } }

end Sys2Proof.Machine
end

