-- ==== Sys2Proof/Machine/XpaModel.lean ====
section
/-! DEFINITION. Reading the expert array's model and schedule (spec/16 R431 to R455): records, steps, phases and nominal
lengths. -/

namespace Sys2Proof.Machine

/-! ### Layer records (R454) -/

/-- A field of a record. -/
def recField (l : List Word) (k lo len : Nat) : Nat := fieldOf (l.getD k 0) lo len

/-- Layer kinds. -/
abbrev K_EMBED : Nat := 1
abbrev K_MOE : Nat := 2
abbrev K_HOST : Nat := 3

abbrev lKind (l : List Word) : Nat := recField l 0 0 2
abbrev lTopk (l : List Word) : Nat := recField l 0 2 2
abbrev lResid (l : List Word) : Bool := recField l 0 4 1 == 1
abbrev lCam (l : List Word) : Nat := recField l 0 5 1
abbrev lSub (l : List Word) : Nat := 2 ^ recField l 0 6 2
abbrev lNexp (l : List Word) : Nat := recField l 0 8 4 + 1
abbrev lFallback (l : List Word) : Nat := recField l 0 12 4
abbrev lGsh (l : List Word) : Nat := recField l 0 16 5
abbrev lDin (l : List Word) : Nat := recField l 1 0 11
abbrev lDout (l : List Word) : Nat := recField l 1 16 11
abbrev lNtok (l : List Word) : Nat := recField l 2 0 9
abbrev lPw (l : List Word) : Nat := recField l 2 16 8
abbrev lPh (l : List Word) : Nat := recField l 2 24 8
abbrev lQdepth (l : List Word) : Nat := recField l 3 0 9
abbrev lGate (l : List Word) : Nat := 16 * recField l 3 16 12
abbrev lIn (l : List Word) : Nat := (l.getD 4 0).toNat
abbrev lOut (l : List Word) : Nat := (l.getD 5 0).toNat
abbrev lRes (l : List Word) : Nat := (l.getD 6 0).toNat
abbrev lQ (l : List Word) : Nat := (l.getD 7 0).toNat
abbrev lDev (l : List Word) (e : Nat) : Nat := recField l (8 + e / 2) (16 * (e % 2)) 6
abbrev lQuota (l : List Word) (e : Nat) : Nat := recField l (8 + e / 2) (16 * (e % 2) + 8) 7

/-- DP(n): n rounded up to a multiple of 16 (R435). -/
def dp (n : Nat) : Nat := (n + 15) / 16 * 16

/-- The record of layer `k`. -/
def XpaSt.layer (x : XpaSt) (k : Nat) : List Word := x.layers.getD k []

/-- EMBED and MOE layers run on this device. -/
def runs (l : List Word) : Bool := lKind l == K_EMBED || lKind l == K_MOE

/-- The highest-numbered EMBED or MOE layer below `k` (R434). -/
def XpaSt.below (x : XpaSt) (k : Nat) : Option Nat := ((List.range k).filter (fun j => runs (x.layer j))).getLast?

/-- The highest-numbered EMBED or MOE layer. -/
def XpaSt.top (x : XpaSt) : Option Nat := x.below x.layers.length

/-- Expert `e` of a layer is placed on device `d`. -/
def placedOn (l : List Word) (e d : Nat) : Bool := decide (e < lNexp l) && lDev l e == d

/-- The layer is a MOE layer with an expert on another device (R443). -/
def hasRemote (l : List Word) (own : Nat) : Bool := lKind l == K_MOE && (List.range (lNexp l)).any (fun e => lDev l e != own)

/-- The model's remote layer (R443). -/
def XpaSt.remoteLayer (x : XpaSt) (own : Nat) : Option Nat := (List.range x.layers.length).find? (fun k => hasRemote (x.layer k) own)

/-! ### Sections (R454) -/

abbrev sKind (l : List Word) : Nat := recField l 0 0 2
abbrev sLayer (l : List Word) : Nat := recField l 0 4 4
abbrev sExpert (l : List Word) : Nat := recField l 0 8 4
abbrev sEngine (l : List Word) : Nat := recField l 0 12 4
abbrev sDst (l : List Word) : Nat := (l.getD 1 0).toNat
abbrev sLen (l : List Word) : Nat := (l.getD 2 0).toNat
abbrev sSrc (l : List Word) : Nat := (l.getD 3 0).toNat

/-- The section that holds expert `e` of layer `k`. -/
def XpaSt.section_ (x : XpaSt) (k e : Nat) : Option (List Word) :=
  x.sections.find? (fun l => sKind l == 1 && sLayer l == k && sExpert l == e)

/-- The hidden width of expert `e` of layer `k`. -/
def XpaSt.hiddenOf (x : XpaSt) (k e : Nat) : Nat :=
  match x.hidden.find? (fun h => h.1 == k && h.2.1 == e) with
  | some h => h.2.2
  | none => 0

/-! ### Steps (R432, R441 to R443, R455) -/

abbrev tStart (t : Word × Word) : Nat := fieldOf t.1 0 24
abbrev tOp (t : Word × Word) : Nat := fieldOf t.1 24 2
abbrev tPhase (t : Word × Word) : Nat := fieldOf t.1 28 1
abbrev tLayer (t : Word × Word) : Nat := fieldOf t.2 0 4
abbrev tExpert (t : Word × Word) : Nat := fieldOf t.2 4 4
abbrev tEngine (t : Word × Word) : Nat := fieldOf t.2 8 4
abbrev tCap (t : Word × Word) : Nat := fieldOf t.2 16 9

/-- Step operations. -/
abbrev T_ROUTE : Nat := 1
abbrev T_SLOT : Nat := 2
abbrev T_GATHER : Nat := 3

/-- A quotient rounded up. -/
def upDiv (a b : Nat) : Nat := (a + b - 1) / b

/-- ECLK cycles a token takes on an engine (R432). -/
def XpaSt.tokenCycles (x : XpaSt) (k e : Nat) : Nat :=
  let l := x.layer k
  let h := x.hiddenOf k e
  let r1 := if h = 0 then lDout l else h
  upDiv (r1 * lDin l) 512 + upDiv (lDout l * h) 512 + 24

/-- The nominal length of a step in ECLK cycles (R441). -/
def XpaSt.stepLen (x : XpaSt) (t : Word × Word) : Nat :=
  let l := x.layer (tLayer t)
  let n := lNtok l
  match tOp t with
  | 1 =>
    if lKind l = K_EMBED then n * (upDiv (lDin l) 16 + 16) + 64
    else n * (upDiv (lNexp l * lDin l) 64 + lTopk l * upDiv (lDin l) 16 + 16) + 64
  | 2 => tCap t * x.tokenCycles (tLayer t) (tExpert t) + 128
  | _ => n * (max 1 (lTopk l) * upDiv (lDout l) 16 + 16) + 64

/-- Where a step ends by its nominal length. -/
def XpaSt.stepEnd (x : XpaSt) (t : Word × Word) : Nat := tStart t + x.stepLen t

/-- The phase that R443 gives a step. -/
def XpaSt.phaseOf (x : XpaSt) (own : Nat) (t : Word × Word) : Nat :=
  match x.remoteLayer own with
  | none => 0
  | some r =>
    if lKind (x.layer (tLayer t)) = K_HOST then 0
    else if tLayer t < r then 0
    else if tLayer t = r then (if tOp t = T_GATHER then 1 else 0)
    else 1

/-- A schedule bank. -/
def XpaSt.bank (x : XpaSt) (b : Nat) : Option XpaBank := (x.banks.find? (fun e => e.1 == b)).map (fun e => e.2)

/-! ### The array's state -/

/-- XPA_STAT.STATE codes. -/
abbrev X_OFF : Nat := 0
abbrev X_READY : Nat := 1
abbrev X_RUN : Nat := 2

/-- XPA_STAT.STATE. -/
def State.xpaState (s : State) : Nat := s.fld XPA_STAT 0 2

/-- Bank `b` is valid. -/
def State.bankValid (s : State) (b : Nat) : Bool := s.bit XPA_STAT (4 + b)

/-- The live bank. -/
def State.liveBank (s : State) : Nat := s.lvFld XPA_SCHSEL 0 1

/-- Every step of bank `b` ends within the deadline of client 7 less 16 microseconds (R444): ECLK cycles count from the end of the
brim window, 6,400 FCLK cycles after the edge; ECLK and FCLK run at 400 MHz. -/
def State.bankInTime (s : State) (b : Nat) : Bool :=
  let num := (s.lv BEAT_GEN_NUM).toNat
  let den := max 1 (s.lvFld BEAT_GEN_DEN 0 8)
  let d := s.lvFld (BEAT_DLINE 7) 0 16
  let limit := (if d = 0 then 65536 else d) * num / (65536 * den)
  match s.xpa.bank b with
  | none => false
  | some k => k.steps.all (fun t => decide (s.xpa.stepEnd t + 6400 ≤ limit))

end Sys2Proof.Machine
end

