-- ==== Sys2Proof/Machine/ArmCheck.lean ====
section
/-! DEFINITION. The checks that refuse the arming of a shadow domain whose shadows hold an illegal
configuration (spec/02 R45; spec/10 R286; and the block chapters). -/

namespace Sys2Proof.Machine

/-- A legal generator pair (R45). -/
def genPairOk (num den : Nat) : Bool :=
  decide (1 ≤ den ∧ den ≤ 255 ∧ 400000000 * den ≤ 120 * num ∧ 24 * num ≤ 400000000 * den)

/-- A legal window plan (R286), from the five LNK_WIN words. -/
def planOk (w : Nat → Word) : Bool :=
  let start := fun k => fieldOf (w k) 16 16
  let len := fun k => fieldOf (w k) 0 16
  start 0 == 0 &&
  (List.range 4).all (fun k => start (k + 1) == start k + len k) &&
  start 4 + len 4 == 65536 && decide (0x100 ≤ len 0) &&
  (List.range 4).all (fun k => decide (0x80 ≤ len (k + 1)))

/-- A shadow field of the armed domain lies in a range. -/
def State.shIn (s : State) (a lo len min_ max_ : Nat) : Bool := decide (min_ ≤ s.fld a lo len ∧ s.fld a lo len ≤ max_)

/-- The line length in pixel clocks, the vertical blanking lines, and the frame checks of R339 for Outputs A and B;
`slaved` tells whether the frame must fit the nominal beat period. -/
def State.timingOk (s : State) (ht0 ht1 vt0 vt1 pclk : Nat) (slaved : Bool) : Bool :=
  let line := s.fld ht0 0 13 + s.fld ht0 16 13 + s.fld ht1 0 13 + s.fld ht1 16 13
  let blank := s.fld vt0 16 13 + s.fld vt1 0 13 + s.fld vt1 16 13
  let khz := s.fld pclk 0 18
  let den := s.lvFld BEAT_GEN_DEN 0 8
  let num := (s.lv BEAT_GEN_NUM).toNat
  decide (line ≤ 4096 ∧ 32 * khz ≤ blank * line * 1000) &&
  (!slaved || decide ((blank + s.fld vt0 0 13 + 1) * line * 400000 * den ≤ num * khz))

/-- Porch, sync and height fields of at least 1 (R339). -/
def State.porchOk (s : State) (ht0 ht1 vt0 vt1 maxW maxH : Nat) : Bool :=
  s.shIn ht0 0 13 16 maxW && s.shIn ht0 16 13 1 8191 && s.shIn ht1 0 13 1 8191 && s.shIn ht1 16 13 1 8191 &&
  s.shIn vt0 0 13 8 maxH && s.shIn vt0 16 13 1 8191 && s.shIn vt1 0 13 1 8191 && s.shIn vt1 16 13 1 8191

/-- Domain 4 (R337, R339, R343): a single link goes up to 100 MHz (log entry 35). -/
def State.armOutA (s : State) : Bool :=
  let even := fun (a : Nat) => s.fld a 0 13 % 2 == 0 && s.fld a 16 13 % 2 == 0
  s.porchOk OUT_A_HTIM0 OUT_A_HTIM1 OUT_A_VTIM0 OUT_A_VTIM1 1920 1080 && s.shIn (OUT_PCLK 0) 0 18 20000 (if s.bit OUT_A_CTL 4 then 148500 else 100000) &&
  (!s.bit OUT_A_CTL 4 || (even OUT_A_HTIM0 && even OUT_A_HTIM1)) &&
  s.timingOk OUT_A_HTIM0 OUT_A_HTIM1 OUT_A_VTIM0 OUT_A_VTIM1 (OUT_PCLK 0) (!(s.bit BEAT_STAT 3 && !s.lvBit BEAT_CTRL 0))

/-- Bits of a pixel on Output B's link (R337). -/
def dsiBits (fmt : Nat) : Nat := match fmt with | 0 => 24 | 1 => 18 | 2 => 24 | _ => 16

/-- Domain 5 (R339, R344). -/
def State.armOutB (s : State) : Bool :=
  let fmt := s.fld OUT_B_CTL 8 2
  s.porchOk OUT_B_HTIM0 OUT_B_HTIM1 OUT_B_VTIM0 OUT_B_VTIM1 1280 800 && s.shIn (OUT_PCLK 1) 0 18 10000 100000 &&
  s.shIn OUT_B_PHY 0 7 8 100 && s.shIn OUT_B_TEWIN 0 16 33 65535 && s.shIn OUT_B_PSRB 0 16 1 65535 &&
  !(s.fld OUT_B_CTL 4 2 == 2 && (fmt == 1 || fmt == 2)) &&
  s.timingOk OUT_B_HTIM0 OUT_B_HTIM1 OUT_B_VTIM0 OUT_B_VTIM1 (OUT_PCLK 1) true &&
  decide (11 * s.fld (OUT_PCLK 1) 0 18 * dsiBits fmt ≤ 10 * ((s.fld OUT_B_CTL 6 2 + 1) * s.fld OUT_B_PHY 0 7 * 10000))

/-- Domain 7 (R354). -/
def State.armVisor (s : State) : Bool :=
  (List.range 3).all (fun p => (List.range 16).all (fun r =>
    !s.bit (VIS_RCFG p r) 0 ||
      (decide (s.fld (VIS_RXY0 p r) 0 11 ≤ s.fld (VIS_RXY1 p r) 0 11) &&
        decide (s.fld (VIS_RXY0 p r) 16 11 ≤ s.fld (VIS_RXY1 p r) 16 11))))

/-- Domain 8 (R388): no bus takes the output of a bus with an equal or higher number, and AUD_RSTART comes before the
client's deadline. Reserved encodings never enter a shadow (R36). -/
def State.armAudio (s : State) : Bool :=
  (List.range 8).all (fun m => (List.range 16).all (fun j =>
    decide (s.fld (SEL m j) 0 7 < 64 ∨ s.fld (SEL m j) 0 7 - 64 < m))) &&
  decide (s.fld (BEAT_DLINE 3) 0 16 = 0 ∨ s.fld AUD_RSTART 0 16 < s.fld (BEAT_DLINE 3) 0 16)

/-- Bytes a stored pixel takes (R412). -/
def camBytes (dt : Nat) : Nat := match dt with | 0x2A => 1 | 0x24 => 3 | _ => 2

/-- Domain 9 (R412): an input that its shadow enables. -/
def State.armCamera (s : State) (x : Nat) : Bool :=
  let w := s.fld (CAM_GEOM x) 0 13
  let h := s.fld (CAM_GEOM x) 16 13
  let pitch := (s.rg (CAM_FPITCH x)).toNat
  let base := (s.rg (CAM_FBASE x)).toNat
  let n := s.fld (CAM_NBUF x) 0 4
  let dt := s.fld (CAM_CTL x) 8 6
  decide (16 ≤ w ∧ w ≤ 4096 ∧ 8 ≤ h ∧ h ≤ 4096 ∧ 2 ≤ n ∧ n ≤ 8 ∧ w * camBytes dt ≤ pitch) &&
  decide (0x10000000 ≤ base ∧ base + n * pitch * h ≤ 0x10800000) && !(dt == 0x1E && w % 2 == 1) &&
  !(x == 0 && s.bit (CAM_CTL x) 1) && !(x == 1 && s.bit (CAM_CTL x) 3) && decide (1 ≤ s.fld (CAM_FS x) 16 16)

/-- Domain 11 (R444). -/
def State.armXpa (s : State) : Bool :=
  let b := s.fld XPA_SCHSEL 0 1
  !s.bit XPA_CTRL 0 || (decide (s.xpaState ≠ X_OFF) && s.bankValid b && s.bankInTime b)

/-- Domain 13 (R462): the even partner of a cascaded odd timer wraps at 2^32. -/
def State.armTimers (s : State) : Bool :=
  (List.range 8).all (fun k =>
    !s.bit (TMR_CFG (2 * k + 1)) 3 || (s.rg (TMR_TOP (2 * k)) == 0xFFFFFFFF && !s.bit (TMR_CFG (2 * k)) 2))

/-- The shadows of domain `d` may be armed. -/
def State.armOk (s : State) (d : Nat) : Bool :=
  if d = 0 then genPairOk (s.rg BEAT_GEN_NUM).toNat (s.fld BEAT_GEN_DEN 0 8)
  else if d = 4 then s.armOutA
  else if d = 5 then s.armOutB
  else if d = 7 then s.armVisor
  else if d = 8 then s.armAudio
  else if d = 9 then s.armCamera 0 && s.armCamera 1
  else if d = 11 then s.armXpa
  else if d = 12 then planOk (fun k => s.rg (LNK_WIN k))
  else if d = 13 then s.armTimers
  else true

end Sys2Proof.Machine
end

