-- ==== Sys2Proof/Machine/Dma.lean ====
section
/-! DEFINITION. The DMA's channels: commands, triggers and halts (spec/07 R198 to R206). The movement of
elements, which reaches registers too, stands in Machine/DmaMove.lean. -/

namespace Sys2Proof.Machine

/-- The DMA command port (R201). -/
def dmaPort : CmdPort := { st := DMA_CMDST, rejects := DMA_REJECT, evt := some (DMA_EVT, 0), src := some 53 }

abbrev D_IDLE : Nat := 0
abbrev D_WAIT : Nat := 1
abbrev D_RUN : Nat := 2
abbrev D_HALT : Nat := 3

/-- DMA_CH_STAT.STATE. -/
def State.dmaState (s : State) (n : Nat) : Nat := s.fld (DMA_CH_STAT n) 0 3

/-- DMA_CH_CFG.TRIG. -/
def State.dmaTrig (s : State) (n : Nat) : Nat := s.fld (DMA_CH_CFG n) 0 6

/-- The channel is IDLE or HALT. -/
def State.dmaStill (s : State) (n : Nat) : Bool := s.dmaState n == D_IDLE || s.dmaState n == D_HALT

/-- What channel `n` holds of its descriptor. -/
def State.dmaRun (s : State) (n : Nat) : DmaRun := smGet (fun _ => DmaRun.blank) s.dma.runs n

/-- Store what channel `n` holds of its descriptor. -/
def State.setDmaRun (s : State) (n : Nat) (r : DmaRun) : State :=
  { s with dma := { s.dma with runs := smSet (fun _ => DmaRun.blank) s.dma.runs n r } }

/-- Where channel `n` stands in its run. -/
def State.dmaPhase (s : State) (n : Nat) : DmaPhase := smGet (fun _ => DmaPhase.fetch) s.dma.phase n

/-- Set where channel `n` stands in its run. -/
def State.setDmaPhase (s : State) (n : Nat) (p : DmaPhase) : State :=
  { s with dma := { s.dma with phase := smSet (fun _ => DmaPhase.fetch) s.dma.phase n p } }

/-- Word `k` of the fetched descriptor. -/
def DmaRun.at_ (r : DmaRun) (k : Nat) : Word := r.words.getD k 0

/-- Elements of one burst (R198): 2^BURST, or the rest of the descriptor. -/
def DmaRun.burst (r : DmaRun) : Nat :=
  let b := fieldOf (r.at_ 0) 6 3
  if b = 7 then 65535 * 65535 else 2 ^ b

/-- A burst starts: the channel enters RUN (R202). -/
def State.dmaBurst (s : State) (n : Nat) : State :=
  let r := s.dmaRun n
  (s.setDmaRun n { r with burstLeft := r.burst }).setFld (DMA_CH_STAT n) 0 3 D_RUN

/-- Whether a TRIG value is a pulse trigger (R202). -/
def pulseTrig (t : Nat) : Bool := decide (1 ≤ t ∧ t ≤ 25)

/-- A channel on a pulse trigger that waits with a fetched descriptor and a pending pulse starts a burst, which consumes the
pulse (R203). -/
def State.dmaWake (s : State) (n : Nat) : State :=
  let pend := s.fld (DMA_CH_STAT n) 16 4
  if pulseTrig (s.dmaTrig n) ∧ s.dmaState n = D_WAIT ∧ s.dmaPhase n = .move ∧ 0 < pend then
    (s.setFld (DMA_CH_STAT n) 16 4 (pend - 1)).dmaBurst n
  else s

/-- START (R201): STOPPED and ERR clear, and the descriptor is fetched. -/
def State.dmaStart (s : State) (n : Nat) : State :=
  let s1 := ((s.setBit (DMA_CH_STAT n) 12 false).setFld (DMA_CH_STAT n) 4 4 0).setFld (DMA_CH_STAT n) 0 3
    (if s.dmaTrig n = 0 then D_RUN else D_WAIT)
  (s1.setDmaRun n DmaRun.blank).setDmaPhase n .fetch

/-- The channel enters IDLE: DMA_CH_DESC is the first descriptor again (R201). TPEND stays as it is, here and at STOP, HALT and
START (DESIGN CHOICE; log entry 34). -/
def State.dmaIdle (s : State) (n : Nat) : State :=
  ((s.setFld (DMA_CH_STAT n) 0 3 D_IDLE).setRg (DMA_CH_DESC n) (smGet (fun _ => 0) s.dma.first n)).setDmaPhase n .fetch

/-- STOP (R201): between elements it takes effect at once. -/
def State.dmaStop (s : State) (n : Nat) : State := ((s.dmaIdle n).setBit (DMA_CH_STAT n) 12 true).setDmaRun n DmaRun.blank

/-- A write to DMA_CH_CTRL (R201). -/
def State.writeDmaCtrl (s : State) (n : Nat) (v : Word) : State :=
  let start := bitOf v 0
  let stop := bitOf v 1
  if !start && !stop then s
  else if start then s.command dmaPort stop (!s.dmaStill n) false (fun t => t.dmaStart n)
  else s.command dmaPort false (s.dmaStill n) false (fun t => t.dmaStop n)

/-- A write to DMA_CH_CFG (R201). -/
def State.writeDmaCfg (s : State) (n : Nat) (v : Word) : State :=
  s.command dmaPort false (!s.dmaStill n) false (fun t => t.setRg (DMA_CH_CFG n) (v &&& 0x33F))

/-- A write to DMA_CH_DESC (R201). -/
def State.writeDmaDesc (s : State) (n : Nat) (v : Word) : State :=
  let w := v &&& 0xFFFFFFE0
  s.command dmaPort false (!s.dmaStill n) false (fun t =>
    { t.setRg (DMA_CH_DESC n) w with dma := { t.dma with first := smSet (fun _ => 0) t.dma.first n w } })

/-- DMA_START. -/
def execDmaStart (i : Initiator) (n : Fin 16) (s : State) : Out :=
  done (s.guardW i (DMA_CH_CTRL n.val) 1 (fun t => t.writeDmaCtrl n.val 1))

/-- DMA_STOP. -/
def execDmaStop (i : Initiator) (n : Fin 16) (s : State) : Out :=
  done (s.guardW i (DMA_CH_CTRL n.val) 2 (fun t => t.writeDmaCtrl n.val 2))

/-- DMA_CFG_WRITE. -/
def execDmaCfgWrite (i : Initiator) (n : Fin 16) (v : Word) (s : State) : Out :=
  done (s.guardW i (DMA_CH_CFG n.val) v (fun t => t.writeDmaCfg n.val v))

/-- DMA_DESC_WRITE. -/
def execDmaDescWrite (i : Initiator) (n : Fin 16) (v : Word) (s : State) : Out :=
  done (s.guardW i (DMA_CH_DESC n.val) v (fun t => t.writeDmaDesc n.val v))

/-- A pulse of one channel's trigger (R203): counted, or refused. -/
def State.dmaPulseOne (s : State) (n : Nat) : State :=
  let pend := s.fld (DMA_CH_STAT n) 16 4
  if pend = 15 ∨ s.dmaStill n then (s.count (DMA_CH_TMISS n) 1).event DMA_EVT 1 54
  else (s.setFld (DMA_CH_STAT n) 16 4 (pend + 1)).dmaWake n

/-- A pulse of trigger `t` reaches every channel that selects it, while the DMA is clocked (R13, R203). -/
def State.dmaPulse (s : State) (t : Nat) : State :=
  if pulseTrig t && s.bit SYS_CLKEN 0 then
    (List.range 16).foldl (fun u n => if u.dmaTrig n = t then u.dmaPulseOne n else u) s
  else s

/-- DMA_TRIGGER_PULSE (R203): trigger `t` pulses. -/
def execDmaTriggerPulse (t : Fin 64) (s : State) : Out := done (s.dmaPulse t.val)

/-- The channel halts (R206): ERR shows the phase, KIND the fabric kind; source 80 + n. -/
def State.dmaHalt (s : State) (n err kind a : Nat) : State :=
  let s1 := ((s.setFld (DMA_CH_STAT n) 0 3 D_HALT).setFld (DMA_CH_STAT n) 4 4 err).setFld (DMA_CH_STAT n) 8 4 kind
  (s1.setRg (DMA_CH_ERRADDR n) (w32 a)).raise (80 + n)

/-- A descriptor is invalid (R200). -/
def DmaRun.invalid (r : DmaRun) : Bool :=
  let w0 := r.at_ 0
  let es := 2 ^ fieldOf w0 0 2
  let sm := fieldOf w0 2 2
  let dm := fieldOf w0 4 2
  let lastD := bitOf w0 11
  let next := (r.at_ 6).toNat
  decide (1 < sm) || decide (1 < dm) || fieldOf w0 12 20 != 0 ||
  fieldOf (r.at_ 3) 0 16 == 0 || fieldOf (r.at_ 3) 16 16 == 0 ||
  (r.at_ 1).toNat % es != 0 || (r.at_ 2).toNat % es != 0 ||
  (sm == 1 && (r.at_ 4).toNat % es != 0) || (dm == 1 && (r.at_ 5).toNat % es != 0) ||
  (!lastD && (next % 32 != 0 || !decide (0x10000000 ≤ next ∧ next ≤ 0x107FFFFF)))

/-- The address of the element at (row, col) (R199): `base` and `pitch` are words of the descriptor. -/
def DmaRun.addr (r : DmaRun) (base pitch mode : Nat) : Nat :=
  let w0 := r.at_ 0
  let es := 2 ^ fieldOf w0 0 2
  if mode = 0 then (r.at_ base).toNat
  else ((r.at_ base).toNat + r.row * (r.at_ pitch).toNat + r.col * es) % 0x100000000

/-- Rows and elements left (DMA_CH_LEFT). -/
def State.dmaShowLeft (s : State) (n : Nat) : State :=
  let r := s.dmaRun n
  let x := fieldOf (r.at_ 3) 0 16
  let y := fieldOf (r.at_ 3) 16 16
  s.setRg (DMA_CH_LEFT n) (w32 ((y - r.row) * 65536 + (if r.row < y then x - r.col else 0)))

end Sys2Proof.Machine
end

