-- ==== Sys2Proof/Machine/Trigger.lean ====
section
/-! DEFINITION. The trigger matrix (spec/17 R467, R468): which actions an event causes. -/

namespace Sys2Proof.Machine

/-- Actions of the matrix: 0 START, 1 STOP, 2 COUNT, 3 RESET, 4 DMA, 5 ADC. -/
abbrev A_START : Nat := 0
abbrev A_STOP : Nat := 1
abbrev A_COUNT : Nat := 2
abbrev A_RESET : Nat := 3
abbrev A_DMA : Nat := 4
abbrev A_ADC : Nat := 5

/-- The live selector of an action. -/
def State.actSource (s : State) (kind n : Nat) : Nat :=
  if kind < 4 then s.lvFld (TMR_ACT n) (8 * kind) 7
  else if kind = 4 then s.lvFld (TMR_DMASEL n) 0 7
  else s.lvFld TMR_ADCSEL 0 7

/-- Every action that a selector could name. -/
def allActs : List (Nat × Nat) :=
  (A_ADC, 0) :: (List.range 16).flatMap (fun n => [(A_RESET, n), (A_STOP, n), (A_START, n), (A_COUNT, n), (A_DMA, n)])

/-- An event of source `src` makes every action that names it due in the next cycle, while the timers are clocked (R13, R467,
R468). -/
def State.trigger (s : State) (src : Nat) : State :=
  if s.bit SYS_CLKEN 6 then
    let new := allActs.filter (fun e => s.actSource e.1 e.2 == src && !s.tmr.acts.contains e)
    { s with tmr := { s.tmr with acts := s.tmr.acts ++ new } }
  else s

/-- An action is due. -/
def State.actDue (s : State) (kind n : Nat) : Bool := s.bit SYS_CLKEN 6 && s.tmr.acts.contains (kind, n)

/-- An action is no longer due. -/
def State.dropAct (s : State) (kind n : Nat) : State :=
  { s with tmr := { s.tmr with acts := s.tmr.acts.filter (fun e => e != (kind, n)) } }

end Sys2Proof.Machine
end

