-- ==== Sys2Proof/Machine/SysBeat.lean ====
section
/-! DEFINITION. The SYS clock register and fabric capture (spec/01), and the BEAT block but for the beat
edge itself: commit groups, shadow writes, marks, the brim window and the follower's states (spec/02). -/

namespace Sys2Proof.Machine

/-! ### Time -/

/-- `n` FCLK cycles pass: BEAT_PHASE, LNK_TIME (2.5 ns a cycle), the cores' cycle counters and the watchdog's
microseconds advance. WDG_COUNT stops below TIMEOUT: reaching it is the event WDG_LATE (log entry 5). With
the core domain off nothing counts (R548). -/
def State.advance (s : State) (n : Nat) : State :=
  if !s.powered then s
  else
  let tot := s.subUs + n
  let ns := tot * 5 / 2 - s.subUs * 5 / 2
  let half := tot / 2 - s.subUs / 2
  let us := tot / 400
  let s1 := (s.setRg BEAT_PHASE (w32 ((s.rg BEAT_PHASE).toNat + n))).setRg64 LNK_TIME_LO (s.rg64 LNK_TIME_LO + ns)
  let up := fun (k : Core) (d : Nat) => { k with cycle := k.cycle + BitVec.ofNat 64 d }
  let s2 := { (if n = 0 then s1 else s1.settleLevels) with
                      c0 := up s1.c0 n, c1 := up s1.c1 n, c2 := up s1.c2 n, c3 := up s1.c3 n, g0 := up s1.g0 half,
                      subUs := tot % 400 }
  if s2.wdgCounts && decide (0 < us) then
    s2.setRg WDG_COUNT (w32 (max (s2.rg WDG_COUNT).toNat
      (min ((s2.rg WDG_COUNT).toNat + us) ((s2.rg WDG_TIMEOUT).toNat - 1))))
  else s2

/-- Time moves on to `cycles` after the present beat edge, never back. -/
def State.advanceTo (s : State) (cycles : Nat) : State := s.advance (cycles - (s.rg BEAT_PHASE).toNat)

/-- The length of the present beat in FCLK cycles: the one placed, or the nominal period of the live values. -/
def State.beatLen (s : State) : Nat :=
  match s.beat.len with
  | some n => n
  | none => (s.lv BEAT_GEN_NUM).toNat / max 1 (s.lvFld BEAT_GEN_DEN 0 8)

/-! ### SYS (R11 to R13, R21, R37) -/

/-- The SYS command port: a rejection also sets PWR_EVT bit 2 and raises source 20. -/
def sysPort : CmdPort := { st := SYS_CMDST, rejects := SYS_REJECT, evt := some (PWR_EVT, 2), src := some 20 }

/-- DMA channel `n` is WAIT or RUN. -/
def State.dmaBusy (s : State) (n : Nat) : Bool :=
  let st := s.fld (DMA_CH_STAT n) 0 3
  st == 1 || st == 2

/-- The live enable of a raster pipe. -/
def State.rasEnabled (s : State) (p : Nat) : Bool := s.lvBit (RAS_CTRL p) 0

/-- The block that SYS_CLKEN bit `b` gates has an operation in progress (the table of R13). -/
def State.clkBusy (s : State) (b : Nat) : Bool :=
  match b with
  | 0 => (List.range 16).any s.dmaBusy
  | 1 => s.fld BLT_STAT 0 2 == 1
  | 2 => s.lvBit AUD_CTRL 0 || s.bit AUD_STAT 0
  | 3 => s.lvBit (CAM_CTL 0) 0 || s.lvBit (CAM_CTL 1) 0
  | 4 => s.fld REC_STAT 0 2 != 0
  | 5 => s.fld XPA_STAT 0 2 == 2 || s.bit XPA_STAT 8 || s.bit XPA_STAT 9
  | 6 => (List.range 16).any (fun n => s.bit (TMR_STAT n) 0 || s.bit (TMR_STAT n) 1)
  | 7 => s.fld ADC_STAT 0 2 != 0
  | 8 => s.fld (CAN_STAT 0) 0 2 != 0
  | 9 => s.fld (CAN_STAT 1) 0 2 != 0
  | 16 => s.bit OSPI_CFG 0 || s.bit (SPI_CFG 1) 0 || s.bit (SPI_CFG 2) 0 || s.bit (SPI_CFG 3) 0
  | 17 => s.bit (I2C_CFG 0) 0 || s.bit (I2C_CFG 1) 0 || s.bit PPS_CFG 0
  | 18 => s.bit EMMC_CFG 0 || s.bit EMMC_STAT 0 || s.bit EMMC_STAT 1
  | 19 => s.rasEnabled 0
  | 20 => s.rasEnabled 1
  | 21 => s.rasEnabled 2
  | 22 => s.lvBit OUT_A_CTL 0 || s.lvBit OUT_B_CTL 0 || s.lvBit OUT_C_CTL 0 || s.bit OUT_B_CMDST 31
      || s.rasEnabled 0 || s.rasEnabled 1 || s.rasEnabled 2
  | n => if 10 ≤ n ∧ n ≤ 15 then s.bit (UART_CFG (n - 10)) 0 else false

/-- The effect of a write to SYS_CLKEN (R13). -/
def State.writeClken (s : State) (v : Word) : State :=
  let old := s.rg SYS_CLKEN
  let cleared := (bitsSet old 23).filter (fun b => !bitOf v b)
  s.command sysPort false (cleared.any s.clkBusy) false (fun t => t.setRg SYS_CLKEN (v &&& 0x7FFFFF))

/-- SYS_CLKEN_WRITE (R13). -/
def execSysClkenWrite (i : Initiator) (v : Word) (s : State) : Out :=
  done (s.guardW i SYS_CLKEN v (fun t => t.writeClken v))

/-- A write to SYS_FERR_INFO: 1 in VALID clears the capture and re-arms it (R21). -/
def State.writeFerrInfo (s : State) (v : Word) : State :=
  if bitOf v 31 then (s.setRg SYS_FERR_INFO 0).setRg SYS_FERR_ADDR 0 else s

/-- FERR_REARM (R21): a write of 1 to SYS_FERR_INFO.VALID. -/
def execFerrRearm (i : Initiator) (s : State) : Out :=
  done (s.guardW i SYS_FERR_INFO 0x80000000 (fun t => t.writeFerrInfo 0x80000000))

/-- A PLL or XIN event of the clock monitor: bit 0 PLL_SYS, 1 PLL_AUD, 2 PLL_PIX, 3 XIN (R11). -/
def State.clockOk (s : State) (b : Nat) : State := s.setBit SYS_CLKSTAT b true

/-- PLL_LOCK_REGAINED (R11): the SYS_CLKSTAT bit of PLL `pll` (0 SYS, 1 AUD, 2 PIX) returns to 1. -/
def execPllLockRegained (pll : Fin 3) (s : State) : Out := done (s.clockOk pll.val)

/-! ### Follower states (R52) -/

/-- BEAT_STAT.STATE codes. -/
abbrev B_FREE : Nat := 0
abbrev B_ACQUIRE : Nat := 1
abbrev B_LOCK : Nat := 2
abbrev B_HOLDOVER : Nat := 3
abbrev B_LEAD : Nat := 4

/-- BEAT_STAT.STATE. -/
def State.beatState (s : State) : Nat := s.fld BEAT_STAT 0 3

/-- Change BEAT_STAT.STATE: each change raises source 5, entering LOCK sets LOCKGAIN and leaving it LOCKLOSS,
and BEAT_STAT.LEAD follows (R43, R52). Entering FREE gives up the manager's numbering (R281). -/
def State.toBeatState (s : State) (st : Nat) : State :=
  let old := s.beatState
  if old = st then s
  else
    let s1 := (s.setFld BEAT_STAT 0 3 st).setBit BEAT_STAT 3 (st == B_LEAD)
    let s2 := if old = B_LOCK then s1.setBit BEAT_EVT 3 true else s1
    let s3 := if st = B_LOCK then s2.setBit BEAT_EVT 2 true else s2
    let s4 := { s3 with beat := { s3.beat with
      inTol := 0, holdBeats := 0
      numbered := if st = B_FREE then false else s3.beat.numbered
      stepTo := if st = B_FREE then none else s3.beat.stepTo } }
    s4.raise 5

/-- HOLDOVER (R52): four beats without a sync message in ACQUIRE or LOCK; with BEAT_HOLDMAX = 0 the follower
goes straight to FREE. -/
def execHoldover (s : State) : Out :=
  done (
    if (s.beatState = B_ACQUIRE ∨ s.beatState = B_LOCK) ∧ 4 ≤ s.beat.noSync then
      let t := s.toBeatState B_HOLDOVER
      if (t.rg BEAT_HOLDMAX).toNat = 0 then t.toBeatState B_FREE else t
    else s)

/-- HOLDMAX_EXPIRY (R52): HOLDOVER has lasted more than BEAT_HOLDMAX beats. -/
def execHoldmaxExpiry (s : State) : Out :=
  done (
    if s.beatState = B_HOLDOVER ∧ (s.rg BEAT_HOLDMAX).toNat < s.beat.holdBeats then s.toBeatState B_FREE else s)

/-! ### Brim window and marks (R58, R67, R69) -/

/-- BRIM_END (R69): 16 µs after the edge BRIM clears and source 2 is raised. -/
def execBrimEnd (s : State) : Out :=
  done (if s.bit BEAT_STAT 8 then ((s.advanceTo 6400).setBit BEAT_STAT 8 false).raise 2 else s)

/-- BEAT_MARK (R58, R467): the offset of mark `m` expires in a beat in which the mark was enabled at the edge. -/
def execBeatMark (m : Fin 8) (s : State) : Out :=
  done (
    match s.beat.marks[m.val]? with
    | none => s
    | some w =>
      if w / 0x80000000 % 2 = 1 then (((s.advanceTo (w % 65536 * s.beatLen / 65536)).raise (8 + m.val)).trigger (50 + m.val)).dmaPulse (18 + m.val) else s)

/-! ### Commit groups (R63 to R68, R579) -/

/-- The BEAT command port: no error event (R579). -/
def beatPort : CmdPort := { st := BEAT_CMDST, rejects := BEAT_REJECT, evt := none, src := none }

/-- CG_STAT.STATE codes. -/
abbrev G_OPEN : Nat := 1
abbrev G_APPLIED : Nat := 2
abbrev G_LATE : Nat := 3
abbrev G_CANCELLED : Nat := 4

/-- The state of group `n`. -/
def State.cgState (s : State) (n : Nat) : Nat := s.fld (CG_STAT n) 0 3

/-- The group is OPEN or its copies run: its state becomes APPLIED when they end (R67). -/
def State.cgHeld (s : State) (n : Nat) : Bool := s.cgState n == G_OPEN

/-- The group is OPEN and not yet judged (R65). -/
def State.cgOpen (s : State) (n : Nat) : Bool := s.cgHeld n && !s.beat.copying.contains n

/-- The target beat of a group. -/
def State.cgBeat (s : State) (n : Nat) : Nat := s.rg64 (CG_BEAT_LO n)

/-- Members not armed. -/
def State.cgMissing (s : State) (n : Nat) : Word := s.rg (CG_MEMBERS n) &&& ~~~(s.rg (CG_ARMED n))

/-- A group becomes LATE (R65, R66): CG_MISSING is loaded, BEAT_EVT.LATE is set and source 4 is raised. -/
def State.cgLate (s : State) (n : Nat) (missing : Word) : State :=
  (((s.setFld (CG_STAT n) 0 3 G_LATE).setRg (CG_MISSING n) missing).setBit BEAT_EVT 1 true).raise 4

/-- Some domain of `m` belongs to another OPEN group. -/
def State.cgShared (s : State) (n : Nat) (m : Word) : Bool :=
  (List.range 8).any (fun k => k != n && s.cgHeld k && (s.rg (CG_MEMBERS k) &&& m) != 0)

/-- Open a group that passed its checks (R63, R66). -/
def State.cgDoOpen (s : State) (n : Nat) : State :=
  let s1 := ((s.setRg (CG_ARMED n) 0).setRg (CG_MISSING n) 0).setFld (CG_STAT n) 0 3 G_OPEN
  if s1.cgBeat n ≤ s1.beatNo then s1.cgLate n (s1.rg (CG_MEMBERS n)) else s1

/-- A write to CG_CTRL (R63, R68, R578): OPEN with CANCEL is ARG; OPEN of an OPEN group or with shared members is
STATE; OPEN with no members is ARG; CANCEL outside OPEN is STATE. -/
def State.writeCgCtrl (s : State) (n : Nat) (v : Word) : State :=
  let op := bitOf v 0
  let cancel := bitOf v 1
  if !op && !cancel then s
  else if op then
    s.command beatPort cancel (s.cgHeld n || s.cgShared n (s.rg (CG_MEMBERS n))) (s.rg (CG_MEMBERS n) == 0)
      (fun t => t.cgDoOpen n)
  else
    s.command beatPort false (!s.cgOpen n) false
      (fun t => (t.setFld (CG_STAT n) 0 3 G_CANCELLED).setRg (CG_MISSING n) 0)

/-- A write to CG_ARMED (R64): STATE outside OPEN; ARG for a bit outside CG_MEMBERS, or for a domain whose shadows
fail their check. -/
def State.writeCgArmed (s : State) (n : Nat) (v : Word) : State :=
  let bits := v &&& 0x7FFF
  if bits = 0 then s
  else
    let outside := (bits &&& ~~~(s.rg (CG_MEMBERS n))) != 0
    let bad := (bitsSet bits 15).any (fun d => !s.armOk d)
    s.command beatPort false (!s.cgOpen n) (outside || bad) (fun t => t.setRg (CG_ARMED n) (t.rg (CG_ARMED n) ||| bits))

/-- A write to CG_MEMBERS (R63). -/
def State.writeCgMembers (s : State) (n : Nat) (v : Word) : State :=
  s.command beatPort false (s.cgHeld n) false (fun t => t.setRg (CG_MEMBERS n) (v &&& 0x7FFF))

/-- A highest-word write to CG_BEAT (R63, R29). -/
def State.writeCgBeat (s : State) (i : Initiator) (n : Nat) (v : Word) : State :=
  if s.cgHeld n then (s.reject beatPort ST_STATE).clearPending i (CG_BEAT_HI n) 2
  else
    match regAt (CG_BEAT_HI n) with
    | some (row, _, _) => (s.accept beatPort).commitWords i (CG_BEAT_HI n) row v
    | none => s

/-- Domain 0 is armed in an OPEN group (R62). -/
def State.domain0Armed (s : State) : Bool := (List.range 8).any (fun k => s.cgOpen k && s.bit (CG_ARMED k) 0)

/-- A write to an SH register (R62): it stores into the shadow; a domain-0 write while domain 0 is armed is
rejected with STATE. -/
def State.writeShadow (s : State) (a : Nat) (v : Word) : State :=
  match regAt a with
  | none => s
  | some (row, _, _) =>
    match row.sh with
    | none => s.storeReg a row v
    | some d =>
      if d = 0 then s.command beatPort false s.domain0Armed false (fun t => t.storeReg a row v)
      else s.storeReg a row v

/-- CG_OPEN (R63): a write of OPEN alone. -/
def execCgOpen (i : Initiator) (n : Fin 8) (s : State) : Out :=
  done (s.guardW i (CG_CTRL n.val) 1 (fun t => t.writeCgCtrl n.val 1))

/-- CG_CANCEL (R68): a write of CANCEL alone. -/
def execCgCancel (i : Initiator) (n : Fin 8) (s : State) : Out :=
  done (s.guardW i (CG_CTRL n.val) 2 (fun t => t.writeCgCtrl n.val 2))

/-- CG_ARM (R64). -/
def execCgArm (i : Initiator) (n : Fin 8) (v : Word) (s : State) : Out :=
  done (s.guardW i (CG_ARMED n.val) v (fun t => t.writeCgArmed n.val v))

/-- CG_MEMBERS_WRITE (R63). -/
def execCgMembersWrite (i : Initiator) (n : Fin 8) (v : Word) (s : State) : Out :=
  done (s.guardW i (CG_MEMBERS n.val) v (fun t => t.writeCgMembers n.val v))

/-- CG_BEAT_WRITE (R63): a highest-word write. -/
def execCgBeatWrite (i : Initiator) (n : Fin 8) (v : Word) (s : State) : Out :=
  done (s.guardW i (CG_BEAT_HI n.val) v (fun t => t.writeCgBeat i n.val v))

/-- SHADOW_WRITE (R62): a write to the SH register at `a`; at an address of no SH register it changes nothing. -/
def execShadowWrite (i : Initiator) (a : Word) (v : Word) (s : State) : Out :=
  done (
    match domainOf a.toNat with
    | none => s
    | some _ => s.guardW i a.toNat v (fun t => t.writeShadow a.toNat v))

end Sys2Proof.Machine
end

