-- ==== Sys2Proof/Machine/LinkBase.lean ====
section
/-! DEFINITION. The transport of the vehicle link (spec/10 R272 to R292): ports, routing, queues, credits and
acknowledgements, the reception of a frame, and its forwarding. -/

namespace Sys2Proof.Machine

/-! ### Device -/

/-- The device's own ID. -/
def State.ownId (s : State) : Nat := s.fld LNK_ID 0 6

/-- LNK_STAT.ADM codes. -/
abbrev A_STOPPED : Nat := 0
abbrev A_DISCOVER : Nat := 1
abbrev A_WAIT : Nat := 2
abbrev A_MEMBER : Nat := 3
abbrev A_LEAD : Nat := 4
abbrev A_REFUSED : Nat := 5

/-- LNK_STAT.ADM. -/
def State.adm (s : State) : Nat := s.fld LNK_STAT 0 3

/-- The device leads. -/
def State.leads (s : State) : Bool := s.adm == A_LEAD

/-- LNK_STAT.ROLE. -/
def State.role (s : State) : Nat := s.fld LNK_STAT 4 3

/-- The device is an Observer or a service bridge (R296). -/
def State.observer (s : State) : Bool := s.role == 3 || s.role == 4

/-- The lead's ID. -/
def State.leadId (s : State) : Nat := s.fld LNK_STAT 16 6

/-- The GEN of the device's own frames: that of its application image, which the boot ROM loads into BOOT_TUPLE (R540), and
before the handover the boot ROM's own, 1 (R283; log entry 17). -/
def State.ownGen (s : State) : Nat := if s.bit BOOT_STAT 10 then s.fld BOOT_TUPLE 16 8 else 1

/-! ### Window plan (R286, R287) -/

/-- Start of window `w` after the beat edge, in FCLK cycles. -/
def State.winStart (s : State) (w : Nat) : Nat := s.lvFld (LNK_WIN w) 16 16 * s.beatLen / 65536

/-- End of window `w` after the beat edge, in FCLK cycles. -/
def State.winEnd (s : State) (w : Nat) : Nat :=
  (s.lvFld (LNK_WIN w) 16 16 + s.lvFld (LNK_WIN w) 0 16) * s.beatLen / 65536

/-- The marker of a frame on the wire that is no LLP frame: a raw frame, or a gPTP message by its type. -/
abbrev RAW_MARK : Nat := 256
abbrev GPTP_MARK : Nat := 257

/-- A frame that is not LLP. -/
def otherFrame (mark win : Nat) (d : List Byte) : LinkFrame :=
  { gen := 0, type := mark, dst := 0, src := 0, hops := 0, win := win, beat := 0, hseq := none, inPort := none, payload := d }

/-- The EtherType and destination address of gPTP frames, and the destination address of LLP frames (R273). -/
def gptpHead : List Byte := [0x01, 0x80, 0xC2, 0x00, 0x00, 0x0E]
def gptpType : List Byte := [0x88, 0xF7]
def llpHead : List Byte := [0x03, 0x4C, 0x4D, 0x58, 0x00, 0x01]

/-- The source address of device `n` (R273). -/
def macOf (n : Nat) : List Byte := [0x02, 0x4C, 0x4D, 0x58, 0x00, BitVec.ofNat 8 n]

/-- The LLP header (R283). -/
def LinkFrame.header (f : LinkFrame) : List Byte :=
  [BitVec.ofNat 8 f.gen, BitVec.ofNat 8 f.type, BitVec.ofNat 8 f.dst, BitVec.ofNat 8 f.src, BitVec.ofNat 8 f.hops,
    BitVec.ofNat 8 (f.win * 16)] ++ beBytes 2 f.payload.length ++ beBytes 4 f.beat ++ beBytes 2 (f.hseq.getD 0) ++ [0, 0]

/-- A frame before padding and FCS: a raw frame is whole; the others have the Ethernet header of R273. The source address of a
gPTP frame is not stated, and is the device's own address here (log entry 13). -/
def State.frameBytes (s : State) (f : LinkFrame) : List Byte :=
  if f.type = RAW_MARK then f.payload
  else if f.type = GPTP_MARK then gptpHead ++ macOf s.ownId ++ gptpType ++ f.payload
  else llpHead ++ macOf f.src ++ beBytes 2 (s.fld LNK_ETYPE 0 16) ++ f.header ++ f.payload

/-- The bytes of a frame on the wire: padded to the minimum size, with its FCS (R283). -/
def State.wireOf (s : State) (f : LinkFrame) : List Byte :=
  let l := s.frameBytes f
  let m := l ++ (List.range (60 - l.length)).map Config.padByte
  m ++ leBytes 4 (crc32 (m.map (fun b => b.toNat)))

/-- Bytes a frame occupies on the wire at 100 Mbit/s: header, LLP header, payload or padding, FCS, preamble and
inter-frame gap. -/
def LinkFrame.wireBytes (f : LinkFrame) : Nat :=
  max 60 (f.payload.length + (if f.type = RAW_MARK then 0 else if f.type = GPTP_MARK then 14 else 30)) + 4 + 8 + 12

/-- A frame stands on the wire of port `p` (log entry 13). -/
def State.emit (s : State) (p : Nat) (f : LinkFrame) : State :=
  s.setPort p { s.port p with sent := some f, wire := s.wireOf f }

/-- A frame of window `w` may start now and end before the window does (R287): 80 ns, 32 FCLK cycles, a byte. -/
def State.winFits (s : State) (w : Nat) (f : LinkFrame) : Bool :=
  let now := (s.rg BEAT_PHASE).toNat
  decide (s.winStart w ≤ now ∧ now + 32 * f.wireBytes ≤ s.winEnd w)

/-! ### Routing (R276) -/

/-- The entry of device `d` in the last TOPO frame. -/
def State.topoOf (s : State) (d : Nat) : Option TopoEntry := s.lnk.topo.find? (fun e => e.id == d)

/-- LNK_STAT.TOPO codes. -/
abbrev T_ALONE : Nat := 0
abbrev T_LINE : Nat := 1
abbrev T_RING : Nat := 2

/-- The own topology (R274). -/
def State.topology (s : State) : Nat := s.fld LNK_STAT 8 2

/-- The coordinate of device `d` (R276); the lead has 0, and so has a device that no TOPO frame names. -/
def State.coord (s : State) (d : Nat) : Int :=
  match s.topoOf d with
  | none => 0
  | some e => if d = s.leadId then 0 else if e.pos ≠ 0xFF ∨ s.lnk.topoKind = T_RING then (e.pos : Int) else -(e.posb : Int)

/-- The "up" port (R276). -/
def State.upPort (s : State) : Nat :=
  let c := s.coord s.ownId
  let withMport := fun (m : Nat) =>
    if (s.port 0).beatHops.isSome && (s.port 0).beatMport == m then some 0
    else if (s.port 1).beatHops.isSome && (s.port 1).beatMport == m then some 1 else none
  if s.leads then 0
  else if s.lnk.topoKind = T_RING ∨ 0 < c then
    match withMport 0 with
    | some p => 1 - p
    | none => 0
  else
    match withMport 1 with
    | some p => p
    | none => 0

/-- The port a unicast frame for device `d` leaves by (R276). -/
def State.routeTo (s : State) (d : Nat) : Nat :=
  let cy := s.coord d
  let cx := s.coord s.ownId
  let up := if s.lnk.topoKind = T_RING then decide ((cy - cx) % (max 1 s.lnk.topoN : Nat) ≤ (s.lnk.topoN : Int) / 2)
    else decide (cx < cy)
  if up then s.upPort else 1 - s.upPort

/-- Windows of a frame type (R284); 15 outside windows. -/
def typeWin (type : Nat) : Nat :=
  match type with
  | 6 => 1 | 7 => 2 | 8 => 3 | 9 => 4 | 10 => 4 | 11 => 4 | 12 => 4 | 13 => 15 | _ => 0

/-- Frame types that need credit (R284). -/
def creditBound (type : Nat) : Bool := decide (6 ≤ type ∧ type ≤ 12)

/-- Fixed frame types (R284). -/
def fixedType (type : Nat) : Bool := decide (1 ≤ type ∧ type ≤ 5) || type == 7 || type == 11 || type == 13

/-- Reserved frame types (R284). -/
def reservedType (type : Nat) : Bool := type == 0 || decide (14 ≤ type)

/-- Put a frame into a port's queue. -/
def State.queueOn (s : State) (p : Nat) (f : LinkFrame) : State :=
  let x := s.port p
  if creditBound f.type && f.win != 15 then
    let y := x.win f.win
    s.setPort p (x.setWin f.win { y with waiting := y.waiting ++ [f] })
  else s.setPort p { x with exempt := x.exempt ++ [f] }

/-- Queue a frame of this device (R276, R283). -/
def State.sendFrame (s : State) (type dst win : Nat) (payload : List Byte) : State :=
  let f : LinkFrame :=
    { gen := s.ownGen, type := type, dst := dst, src := s.ownId, hops := 63, win := win, beat := 0, hseq := none
      inPort := none, payload := payload }
  if dst = 0xFF then
    if s.lnk.topoKind = T_RING then s.queueOn 0 { f with hops := s.lnk.topoN - 1 }
    else [0, 1].foldl (fun t p => if t.portUp p then t.queueOn p f else t) s
  else s.queueOn (s.routeTo dst) f

/-! ### Sending (R287 to R290) -/

/-- Receive buffers of window `w` (R288); the audio window has 2 per stream number. -/
def winBuffers (w : Nat) : Nat :=
  match w with | 1 => 8 | 2 => 32 | 3 => 16 | 4 => 8 | _ => 0

/-- The stream of an AUDIO frame (R285). -/
def LinkFrame.stream (f : LinkFrame) : Nat := (f.payload.headD 0).toNat % 16

/-- Frames that occupy a buffer of window `w` of port `p`: accepted and not taken, or forwarded and not
acknowledged by the next hop (R288). -/
def State.buffered (s : State) (p w : Nat) : List LinkFrame :=
  let o := (s.port (1 - p)).win w
  ((s.port p).win w).held ++ (o.waiting ++ o.unacked).filter (fun f => f.inPort == some p)

/-- Free buffers of window `w` of port `p`, and of one audio stream. -/
def State.freeBuffers (s : State) (p w : Nat) : Nat := winBuffers w - (s.buffered p w).length

def State.freeAudio (s : State) (p st : Nat) : Nat :=
  2 - ((s.buffered p 2).filter (fun f => f.stream == st)).length

/-- Credits held for the neighbour of a ring port (LNK_CRED). -/
def State.showCredit (s : State) (p : Nat) : State :=
  if 2 ≤ p then s
  else
    let x := s.port p
    let audio := x.audio.foldl (fun n e => n + e.2) 0
    s.setRg (LNK_CRED p) (w32 ((x.win 1).credit % 64 + min audio 63 * 256 + (x.win 3).credit % 64 * 65536 +
      (x.win 4).credit % 64 * 16777216))

/-- The credits that a frame of window `w` finds on a port: its window's, or its stream's in the audio window (R287). -/
def PortSt.creditFor (x : PortSt) (w : Nat) (f : LinkFrame) : Nat :=
  if w = 2 then smGet (fun _ => 0) x.audio f.stream else (x.win w).credit

/-- The frame of window `w` whose turn it is: the head of the queue, and in the audio window the first one whose stream has credit,
as a stream that is held for credit delays no other (R290). A frame that is sent again keeps its number, so none passes it. -/
def PortSt.turn (x : PortSt) (w : Nat) : Option LinkFrame :=
  match (x.win w).waiting with
  | [] => none
  | f :: l => if w = 2 ∧ f.hseq = none then (f :: l).find? (fun g => decide (0 < x.creditFor w g)) else some f

/-- The frame of window `w` of port `p` that may start now (R287, R290, R292). -/
def State.canSend (s : State) (p w : Nat) : Option LinkFrame :=
  let x := s.port p
  if !s.portUp p || s.chanState (0x810 + p) == 3 then none
  else
    match x.turn w with
    | none => none
    | some f => if s.winFits w f && decide (0 < x.creditFor w f) then some f else none

/-- The header BEAT of a frame that starts now: the sender's BEAT_COUNT, which a device that only passes the frame on leaves as it
is (R280, R283). -/
def State.stamped (s : State) (f : LinkFrame) : LinkFrame :=
  if f.inPort.isNone then { f with beat := s.beatNo % 0x100000000 } else f

/-- Send the frame of window `w` of port `p` whose turn it is: it takes a hop sequence number if it has none, and is kept until it
is acknowledged (R288). -/
def State.sendHead (s : State) (p w : Nat) (f : LinkFrame) : State :=
  let x := s.port p
  let y := x.win w
  let n := match f.hseq with
    | some k => k
    | none => y.txNext
  let f1 := s.stamped { f with hseq := some n }
  let y1 := { y with
    waiting := y.waiting.erase f, unacked := y.unacked ++ [f1]
    txNext := if f.hseq.isSome then y.txNext else (y.txNext + 1) % 65536
    credit := if w = 2 then y.credit else y.credit - 1 }
  let x1 := x.setWin w y1
  let x2 := if w = 2 then { x1 with audio := smSet (fun _ => 0) x1.audio f.stream (smGet (fun _ => 0) x1.audio f.stream - 1) }
    else x1
  ((s.setPort p x2).emit p f1).showCredit p

/-- The payload of a gPTP message that leaves now: its type, and for Follow_Up the grandmaster's time that it carries, the
correction in ns × 2^16, and the cumulative rate ratio (R279; log entry 13). The lead's own time needs no correction; a relay passes
the time on that it received, and its correction is what LNK_TIME has moved on since: the upstream link delay and the residence
time. The cumulative rate ratio that came with it is in no row: a free value. -/
def State.gptpPayload (s : State) (f : LinkFrame) : List Byte × State :=
  if f.payload != [8] then (f.payload, s)
  else
    let now := s.rg64 LNK_TIME_LO
    match s.leads, s.lnk.gptpIn with
    | false, some time =>
      let (r, t) := s.draw
      ([8] ++ beBytes 8 time ++ beBytes 8 (65536 * ((now + 2 ^ 64 - time) % 2 ^ 64)) ++ beBytes 4 r, t)
    | _, _ => ([8] ++ beBytes 8 now ++ beBytes 8 0 ++ beBytes 4 0, s)

/-- Send the head of the port's exempt queue, which needs no credit: inside its window, or outside windows (R287). -/
def State.sendExempt (s : State) (p : Nat) : State :=
  let x := s.port p
  match x.exempt with
  | [] => s
  | f :: l =>
    if s.portUp p && s.chanState (0x810 + p) != 3 && (f.win == 15 || s.winFits f.win f) then
      let r := if f.type = GPTP_MARK then s.gptpPayload f else (f.payload, s)
      (r.2.setPort p { x with exempt := l }).emit p (s.stamped { f with hseq := some 0, payload := r.1 })
    else s

/-- The payload of a CREDIT frame (R285, R288, R289). -/
def State.creditPayload (s : State) (p : Nat) : List Byte :=
  let x := s.port p
  let one := fun (w : Nat) =>
    let y := x.win w
    let ack := if y.heard then (y.rxNext + 65535) % 65536 else 0xFFFF
    beBytes 2 ack ++ [BitVec.ofNat 8 (s.freeBuffers p w), 0]
  one 1 ++ one 2 ++ one 3 ++ one 4 ++ (List.range 16).map (fun st => BitVec.ofNat 8 (s.freeAudio p st))

/-- A CREDIT frame leaves port `p` (R288). -/
def State.sendCredit (s : State) (p : Nat) : State :=
  if s.portUp p && s.chanState (0x810 + p) != 3 then
    let f : LinkFrame :=
      { gen := s.ownGen, type := 5, dst := 0xFF, src := s.ownId, hops := 0, win := 15, beat := s.beatNo % 0x100000000
        hseq := some 0, inPort := none, payload := s.creditPayload p }
    s.emit p f
  else s

/-- Unacknowledged frames of window `w` are to be sent again, before those that wait (R288). -/
def State.resend (s : State) (p w : Nat) : State :=
  let x := s.port p
  let y := x.win w
  s.setPort p (x.setWin w { y with waiting := y.unacked ++ y.waiting, unacked := [] })

/-- Take an acknowledgement and a credit for window `w` (R288). -/
def State.takeCredit (s : State) (p w ack cred : Nat) : State :=
  let x := s.port p
  let y := x.win w
  let left :=
    if y.unacked.any (fun f => f.hseq == some ack) then
      (y.unacked.dropWhile (fun f => f.hseq != some ack)).drop 1
    else y.unacked
  let t := s.setPort p (x.setWin w { y with unacked := left, credit := cred })
  if left.isEmpty then t else t.resend p w

/-- A CREDIT frame is received (R288). -/
def State.creditRx (s : State) (p : Nat) (pl : List Byte) : State :=
  let at_ := fun (o n : Nat) => ofBe ((pl.drop o).take n)
  let t := [1, 2, 3, 4].foldl (fun u w => u.takeCredit p w (at_ (4 * w - 4) 2) (at_ (4 * w - 2) 1)) s
  let audio := (List.range 16).foldl (fun m st => smSet (fun _ => 0) m st (at_ (16 + st) 1)) []
  (t.setPort p { t.port p with audio := audio }).showCredit p

/-! ### Reception (R277, R284, R288) -/

/-- A reported error of a ring port (R291): LNK_PERR and a report on the port's channel. -/
def State.portError (s : State) (p kind w : Nat) : State :=
  (s.countWrap (LNK_PERR p) 1).faultReport (0x810 + p) (w32 (kind + w * 256))

/-- A frame that its consumer cannot take now stays in its buffer (R250, R290, R310). -/
def State.holdFrame (s : State) (p : Nat) (f : LinkFrame) : State :=
  let x := s.port p
  let y := x.win f.win
  s.setPort p (x.setWin f.win { y with held := y.held ++ [{ f with came := s.beatNo }] })

/-- An earlier frame from the same SRC to the same DST stays in a buffer of this window (R290). -/
def PortWin.behind (y : PortWin) (f : LinkFrame) : Bool := y.held.any (fun h => h.src == f.src && h.dst == f.dst)

/-- What becomes of a received frame: delivered here, or not. -/
structure Received where
  deliver : Bool
  st : State

/-- The port has received a frame from its neighbour (R275). -/
def State.heardOn (s : State) (p : Nat) : State := s.setPort p { s.port p with silent := 0 }

/-- A member of the vehicle that this lead heard a frame of (R297). -/
def State.heardFrom (s : State) (d : Nat) : State :=
  { s with lnk := { s.lnk with members := s.lnk.members.map (fun m => if m.id = d then { m with silent := 0 } else m) } }

/-- The HSEQ `n` lies ahead of the next expected one: a gap, not a repetition (R288, R291). -/
def PortWin.gap (y : PortWin) (n : Nat) : Bool := decide ((n + 65536 - y.rxNext) % 65536 < 32768)

/-- The transport's part in the reception of an LLP frame on ring port `p` (R277, R284, R288): its GEN and TYPE, the
hop sequence of a credit-bound type, forwarding, and whether it is delivered here. Behind an earlier frame that stays in its
buffer it stays there too (R290). -/
def State.receive (s : State) (p : Nat) (f : LinkFrame) : Received :=
  if !s.portUp p || s.adm == A_STOPPED || s.chanState (0x810 + p) == 3 then { deliver := false, st := s }
  else
    let s0 := (s.heardOn p).heardFrom f.src
    if reservedType f.type || (!fixedType f.type && f.gen != s0.ownGen) then { deliver := false, st := s0.lnkIgnore }
    else
      let x := s0.port p
      let y := x.win f.win
      let bound := creditBound f.type && f.win != 15
      let inOrder := f.hseq == some y.rxNext
      let room := if f.win = 2 then decide (0 < s0.freeAudio p f.stream) else decide (0 < s0.freeBuffers p f.win)
      if bound && !inOrder then { deliver := false, st := if y.gap (f.hseq.getD 0) then s0.portError p 2 f.win else s0 }
      else if bound && !room then { deliver := false, st := s0 }
      else
        let s1 := if bound then
            s0.setPort p (x.setWin f.win { y with rxNext := (y.rxNext + 1) % 65536, heard := true })
          else s0
        let own := s1.ownId
        let s2 := if f.dst != own && f.src != own && decide (0 < f.hops) && f.type != 1 then
            s1.queueOn (1 - p) { f with hops := f.hops - 1, hseq := none, inPort := some p }
          else s1
        let mine := f.dst == own || f.dst == 0xFF
        if mine && bound && y.behind f then { deliver := false, st := s2.holdFrame p f }
        else { deliver := mine, st := s2 }

/-- A field of `n` bytes at offset `o` of a payload, most significant byte first (R285). -/
def fieldAt (pl : List Byte) (o n : Nat) : Nat := ofBe ((pl.drop o).take n)

end Sys2Proof.Machine
end

