-- ==== Sys2Proof/Machine/Ledger.lean ====
section
/-! DEFINITION. The Ledger on one device (spec/09): records, ring and control area, acceptance, recovery, commands,
tallies, boundaries and the power-fail sequence. -/

namespace Sys2Proof.Machine

/-! ### Records (R240, R242) -/

/-- The low `n` bytes of a number, lowest first (R6). -/
def bytesLe (n v : Nat) : List Nat := (List.range n).map (fun i => v / 256 ^ i % 256)

/-- A 64-bit word of a record. -/
def wd (l : List Nat) (k : Nat) : Nat := l.getD k 0

/-- The CRC of a record (R242): bytes 0x08 to 0x23 and 0x28 to 0x3F. -/
def recCrc (l : List Nat) : Nat :=
  crc32 (bytesLe 8 (wd l 1) ++ bytesLe 8 (wd l 2) ++ bytesLe 8 (wd l 3) ++ bytesLe 4 (wd l 4) ++
    bytesLe 8 (wd l 5) ++ bytesLe 8 (wd l 6) ++ bytesLe 8 (wd l 7))

/-- Fields of a record (R240). -/
def recType (l : List Nat) : Nat := wd l 0 % 256
def recGseq (l : List Nat) : Nat := wd l 0 / 65536
def recDamaged (l : List Nat) : Bool := (wd l 0).testBit 14
def recOrigin (l : List Nat) : Nat := wd l 1 % 64
def recOseq (l : List Nat) : Nat := wd l 1 / 65536

/-- The largest OSEQ and GSEQ (R251). -/
def seqMax : Nat := 0xFFFFFFFFFFFF

/-- A time in the format of offset 0x18 as units of 1/32,768 s. -/
def unitsOf (v : Nat) : Nat := v / 65536 * 32768 + v % 32768

/-- Units of 1/32,768 s in the format of offset 0x18. -/
def timeOf (u : Nat) : Nat := u / 32768 % 0x1000000000000 * 65536 + u % 32768

/-- The RTC in the format of offset 0x18. -/
def State.rtcWord (s : State) : Nat := s.rg64 MIT_RTC_SEC_LO % 0x1000000000000 * 65536 + s.fld MIT_RTC_SUB 0 15

/-- A 24-byte payload from its fields at 0x00, 0x04, 0x08 and 0x10 (R266, R267, R269). -/
def payload4 (a b c d : Nat) : List Nat := [a % 0x100000000 + b % 0x100000000 * 0x100000000, c % 2 ^ 64, d % 2 ^ 64]

/-! ### State helpers -/

/-- LDG_STAT.STATE codes (R270). -/
abbrev L_RECOVER : Nat := 0
abbrev L_STOPPED : Nat := 1
abbrev L_RUN : Nat := 2
abbrev L_DOWN : Nat := 3

/-- LDG_STAT.STATE. -/
def State.ldgState (s : State) : Nat := s.fld LDG_STAT 0 3

/-- LDG_STAT.ROLE: 0 worker, 1 manager, 2 deputy, 3 Observer. -/
def State.ldgRole (s : State) : Nat := s.fld LDG_STAT 4 2

/-- LDG_STAT.MIRROR: 0 NONE, 1 CATCHUP, 2 SYNC. -/
def State.mirror (s : State) : Nat := s.fld LDG_STAT 6 2

/-- An LDG event: bit `k` with source 160 + `k`. -/
def State.ldgEvt (s : State) (k : Nat) : State := s.event LDG_EVT k (160 + k)

/-- The Ledger's command port. -/
def ldgPort : CmdPort := { st := LDG_CMDST, rejects := LDG_REJECT, evt := some (LDG_EVT, 0), src := some 160 }

/-- Replace what the Ledger holds. -/
def State.setLdg (s : State) (x : LdgSt) : State := { s with ldg := x }

/-- Replace the Ledger's kept state. -/
def State.setNv (s : State) (x : LdgNv) : State := { s with ldg := { s.ldg with nv := x } }

/-- The record of a slot, if it is occupied. -/
def State.slotRec (s : State) (i : Nat) : Option (List Nat) := (s.ldg.slots.find? (fun e => e.1 == i)).map (fun e => e.2)

/-- LDG_USED. -/
def State.ldgUsed (s : State) : Nat := s.ldg.slots.length

/-- Change MIRROR; each change raises source 172 (R255). -/
def State.setMirror (s : State) (m : Nat) : State :=
  if s.mirror = m then s else (s.setFld LDG_STAT 6 2 m).ldgEvt 12

/-- The watermark events of R250. -/
def State.usedChanged (s : State) : State :=
  let high := decide ((s.rg LDG_HWM).toNat ≤ s.ldgUsed)
  if high && !s.ldg.atHwm then (s.setLdg { s.ldg with atHwm := true }).ldgEvt 6
  else if !high && s.ldg.atHwm then (s.setLdg { s.ldg with atHwm := false }).ldgEvt 7
  else s

/-- The highest OSEQ assigned (R249, R258). -/
def State.oseqBase (s : State) : Nat :=
  s.ldg.slots.foldl (fun m e => if recOrigin e.2 = s.ownId then max m (recOseq e.2) else m) (max s.ldg.nv.acked s.ldg.nv.base)

/-- LDG_ORG of an origin: LAST, if VALID (R253). -/
def State.orgLast (s : State) (d : Nat) : Option Nat := (s.ldg.nv.org.find? (fun e => e.1 == d)).map (fun e => e.2)

/-- Set LDG_ORG of an origin. -/
def State.setOrg (s : State) (d last : Nat) : State := s.setNv { s.ldg.nv with org := smPut s.ldg.nv.org d last }

/-- The slot that holds the record of an origin with an OSEQ. -/
def State.findRec (s : State) (d q : Nat) : Option Nat :=
  (s.ldg.slots.find? (fun e => recOrigin e.2 == d && recOseq e.2 == q)).map (fun e => e.1)

/-- Own records not yet committed nor acknowledged, in OSEQ order (R252). -/
def State.unackedOwn (s : State) : List (List Nat) :=
  let mine := (s.ldg.slots.map (fun e => e.2)).filter
    (fun r => recOrigin r == s.ownId && recGseq r == 0 && decide (s.ldg.nv.acked < recOseq r))
  sortBy (fun a b => decide (recOseq a ≤ recOseq b)) mine

/-- Committed records with a GSEQ above `g`, in GSEQ order. -/
def State.committedAbove (s : State) (g : Nat) : List (List Nat) :=
  sortBy (fun a b => decide (recGseq a ≤ recGseq b))
    ((s.ldg.slots.map (fun e => e.2)).filter (fun r => decide (g < recGseq r)))

/-! ### MRAM (R243, R244) -/

/-- Addresses of a slot's word, of its header copy, and of a tally position. -/
def slotAddr (i k : Nat) : Nat := 0x18000000 + 64 * i + 8 * k
def copyAddr (i : Nat) : Nat := 0x181C0000 + 8 * i
def tallyAddr (t p : Nat) : Nat := 0x181E0000 + 0x100 * t + 0x10 * p

/-- Write a record into slot `i`: the copy and the body, then the header, each read back (R244). -/
def State.writeSlot (s : State) (i : Nat) (l : List Nat) : State :=
  let s1 := s.mramPut (copyAddr i) (wd l 0)
  let s2 := (List.range 7).foldl (fun t k => t.mramPut (slotAddr i (k + 1)) (wd l (k + 1))) s1
  let s3 := (s2.mramPut (slotAddr i 0) (wd l 0)).mramSettle
  (s3.setLdg { s3.ldg with slots := smPut s3.ldg.slots i l }).usedChanged

/-- A write whose read-back differs: TYPE 0x00 in the slot and its copy, and the slot is defective (R244). -/
def State.defectSlot (s : State) (i : Nat) (l : List Nat) : State :=
  let w := wd l 0 / 256 * 256
  let s1 := ((s.mramPut (slotAddr i 0) w).mramPut (copyAddr i) w).mramSettle
  s1.setLdg { s1.ldg with defective := i :: s1.ldg.defective }

/-- Change the header of an occupied slot: the copy first, the slot second (R244); what follows waits for both (log entry 34). -/
def State.setHeader (s : State) (i w : Nat) : State :=
  match s.slotRec i with
  | none => s
  | some l =>
    let s1 := ((s.mramPut (copyAddr i) w).mramSettle.mramPut (slotAddr i 0) w).mramSettle
    s1.setLdg { s1.ldg with slots := smPut s1.ldg.slots i (w :: l.drop 1) }

/-- Free a slot: TYPE 0x00 in the slot first, the copy second (R244). -/
def State.freeSlot (s : State) (i : Nat) : State :=
  match s.slotRec i with
  | none => s
  | some l =>
    let w := wd l 0 / 256 * 256
    let s1 := (s.mramPut (slotAddr i 0) w).mramSettle.mramPut (copyAddr i) w
    (s1.setLdg { s1.ldg with slots := smErase s1.ldg.slots i }).usedChanged

/-- A slot is free. -/
def State.slotFree (s : State) (i : Nat) : Bool := (s.slotRec i).isNone && !s.ldg.defective.contains i

/-- Some slot is free. -/
def State.anyFree (s : State) : Bool := decide (s.ldgUsed + s.ldg.defective.length < 16384)

/-- The first free slot at or after `i`, looking at `n` slots, wrapping. -/
def State.freeFrom (s : State) : Nat → Nat → Option Nat
  | _, 0 => none
  | i, n + 1 => if s.slotFree (i % 16384) then some (i % 16384) else State.freeFrom s (i + 1) n

/-- The free slot that a write takes: the spec leaves open which (R244), so the search starts at `pick`. -/
def State.pickSlot (s : State) (pick : Nat) : Option Nat :=
  s.freeFrom pick (s.ldgUsed + s.ldg.defective.length + 1)

/-! ### Tallies (R259 to R261) -/

/-- Tally `t`. -/
def State.tally (s : State) (t : Nat) : Tally := smGet (fun _ => Tally.zero) s.ldg.tallies t

/-- The payload word at offset 4 × `k`. -/
def payWord (l : List Nat) (k : Nat) : Nat := wd l (5 + k / 2) / 0x100000000 ^ (k % 2) % 0x100000000

/-- The increment of tally `t` for a record, if it matches LDG_TDEF (R259). -/
def State.tallyInc (s : State) (t : Nat) (l : List Nat) : Option Nat :=
  let a := s.rg (LDG_TDEF_A t)
  let b := s.fld (LDG_TDEF_B t) 0 8
  if bitOf a 31 && fieldOf a 16 8 == recType l && (bitOf a 15 || fieldOf a 8 6 == recOrigin l) &&
      (payWord l 0 % 256 &&& b) == fieldOf a 0 8 && !recDamaged l then
    some (if fieldOf a 24 3 = 7 then 1 else payWord l (fieldOf a 24 3))
  else none

/-- CHK of a tally position (R261): `w` is word 1 with CHK taken as 0. -/
def tallyChk (v w : Nat) : Nat := crc32 (bytesLe 8 v ++ bytesLe 8 w) % 256

/-- Apply an increment to tally `t` for the record of GSEQ `g` (R260, R261): value word first. -/
def State.applyTally (s : State) (t inc g : Nat) : State :=
  let x := s.tally t
  let full := decide (2 ^ 64 ≤ x.value + inc)
  let v := min (2 ^ 64 - 1) (x.value + inc)
  let y : Tally := { value := v, gseq := g, sat := x.sat || full, pos := (x.pos + 1) % 16 }
  let w := g + (if y.sat then 2 ^ 48 else 0)
  let s1 := (s.mramPut (tallyAddr t y.pos) v).mramPut (tallyAddr t y.pos + 8) (w + tallyChk v w * 2 ^ 56)
  let s2 := s1.setLdg { s1.ldg with tallies := smSet (fun _ => Tally.zero) s1.ldg.tallies t y }
  if full then s2.ldgEvt 14 else s2

/-- Tally `t` would pass its maximum by the record `l` (R260). -/
def State.tallyFull (s : State) (t : Nat) (l : List Nat) : Bool :=
  match s.tallyInc t l with
  | some inc => decide (2 ^ 64 ≤ (s.tally t).value + inc)
  | none => false

/-- Apply the record of GSEQ `g` to the tallies in the list that it feeds. -/
def State.applyTallies (s : State) (ts : List Nat) (l : List Nat) (g : Nat) : State :=
  ts.foldl (fun u t =>
    match u.tallyInc t l with
    | none => u
    | some inc => u.applyTally t inc g) s

/-- The tally position with the highest GSEQ whose CHK checks (R261). -/
def State.storedTally (s : State) (t : Nat) : Tally :=
  (List.range 16).foldl (fun (best : Tally) p =>
    match s.eccAt (tallyAddr t p), s.eccAt (tallyAddr t p + 8) with
    | some .uncorrectable, _ => best
    | _, some .uncorrectable => best
    | _, _ =>
      let v := s.peek (tallyAddr t p) 8
      let w := s.peek (tallyAddr t p + 8) 8
      if w / 2 ^ 56 = tallyChk v (w % 2 ^ 56) ∧ (best.gseq < w % 2 ^ 48) then
        { value := v, gseq := w % 2 ^ 48, sat := w.testBit 48, pos := p }
      else best) Tally.zero

/-- A committed record with its SAT set, in slot and copy (R260). -/
def State.setSat (s : State) (l : List Nat) : State :=
  match s.findRec (recOrigin l) (recOseq l) with
  | some i => if (wd l 0).testBit 13 then s else s.setHeader i (wd l 0 + 2 ^ 13)
  | none => s

/-- A committed record is applied again to the tallies whose stored GSEQ is below its own (R261); where one saturates, the record's
SAT is set (R260). -/
def State.reapply (s : State) (l : List Nat) : State :=
  let ts := (List.range 64).filter (fun k => decide ((s.tally k).gseq < recGseq l))
  let t := if ts.any (fun k => s.tallyFull k l) then s.setSat l else s
  t.applyTallies ts l (recGseq l)

/-- The tallies at START (R261): the stored ones, and every committed record above them applied again. -/
def State.completeTallies (s0 : State) : State :=
  let s := s0.mramSeen (fun a => decide (0x181E0000 ≤ a ∧ a ≤ 0x181E3FFF))
  let s1 := s.setLdg { s.ldg with tallies := (List.range 64).foldl (fun m t => smSet (fun _ => Tally.zero) m t (s.storedTally t)) [] }
  (s1.committedAbove 0).foldl (fun t l => t.reapply l) s1

/-! ### Commit (R253) -/

/-- Commit the record of slot `i` under GSEQ `g`: copy and header with GSEQ and SAT, then the tallies, which START completes from
the committed records where a supply loss cuts them (R253, R261). -/
def State.commitSlot (s : State) (i g : Nat) : State :=
  match s.slotRec i with
  | none => s
  | some l =>
    let w := wd l 0 % 65536
    let sat := (List.range 64).any (fun t => s.tallyFull t l)
    let w1 := if sat && !w.testBit 13 then w + 2 ^ 13 else w
    let s1 := (s.setHeader i (w1 + g * 65536)).applyTallies (List.range 64) l g
    s1.setNv { s1.ldg.nv with gseq := max s1.ldg.nv.gseq g }

/-- Commit every record of origin `d` that is next in line, at most `n` (R253); each waits for its mirror or its
acknowledgement (R254). At the largest GSEQ nothing is committed; source 171 is raised when it is reached, and for each record that
would be committed then (R251). -/
def State.commitRun (s : State) (d : Nat) : Nat → State
  | 0 => s
  | n + 1 =>
    match s.orgLast d with
    | none => s
    | some last =>
      match s.findRec d (last + 1) with
      | none => s
      | some i =>
        if s.ldg.nv.gseq = seqMax then s.ldgEvt 11
        else
          let g := s.ldg.nv.gseq + 1
          let t := (s.commitSlot i g).setOrg d (last + 1)
          let t1 := t.setLdg { t.ldg with
            unack := t.ldg.unack ++ [(d, last + 1, g)]
            mirrorQ := if t.mirror = 2 then t.ldg.mirrorQ ++ [(t.beatNo, g)] else t.ldg.mirrorQ }
          State.commitRun (if g = seqMax then t1.ldgEvt 11 else t1) d n

/-- Commit what is committable of origin `d`. -/
def State.tryCommit (s : State) (d : Nat) : State := s.commitRun d (s.ldgUsed + 1)

/-! ### Acceptance (R244, R247 to R251) -/

/-- A record accepted now by this device (R240): the scheduled time for a boundary, else the time of acceptance. -/
def State.makeRecord (s : State) (type : Nat) (late : Bool) (time : Option Nat) (oseq : Nat) (pay : List Nat) : List Nat :=
  let w3 := match time with
    | some u => timeOf u
    | none => s.rtcWord
  let l := [type + 256 + (if late then 4096 else 0), s.ownId + oseq % 2 ^ 48 * 65536,
            s.beatNo % 2 ^ 40 + s.ldg.nv.epoch % 65536 * 2 ^ 40, w3, s.ldg.nv.interval % 2 ^ 32] ++ pay
  l.set 4 (s.ldg.nv.interval % 2 ^ 32 + recCrc l * 2 ^ 32)

/-- Write a record into a free slot; the first `bad` read-backs differ, and that of a weak slot always does (R244). True where it
was accepted. -/
def State.acceptInto (s : State) (l : List Nat) (pick bad : Nat) : Bool × State :=
  match s.pickSlot pick with
  | none => (false, s)
  | some i =>
    if bad = 0 ∧ ¬s.ldg.weak.contains i then (true, s.writeSlot i l)
    else
      let s1 := s.defectSlot i l
      match s1.pickSlot (i + 1) with
      | none => (false, s1)
      | some j => if bad ≤ 1 ∧ ¬s.ldg.weak.contains j then (true, s1.writeSlot j l) else (false, s1.defectSlot j l)

/-- The status of a record that the Ledger, the fault manager or the recorder writes: 0 ACCEPTED, 1 FULL, 5 BADCRC, 6 SEQMAX
(R250, R251). Which slot it takes is open: a free value (log entry 2). -/
def State.ownRecord (s : State) (type : Nat) (late : Bool) (time : Option Nat) (pay : List Nat) : Nat × State :=
  if !s.anyFree then (1, s)
  else if s.oseqBase = seqMax then (6, s.ldgEvt 11)
  else
    let (f, s1) := s.draw
    let l := s1.makeRecord type late time (s1.oseqBase + 1) pay
    match s1.acceptInto l (f % 16384) 0 with
    | (true, t) => (0, t.setNv { t.ldg.nv with fresh := false })
    | (false, t) => (5, t)

/-- Record types that LDG_PUT may name (R241). -/
def putType (t : Nat) : Bool := t == 1 || t == 2 || decide (0x30 ≤ t ∧ t ≤ 0x3F)

/-- Key of core `n`'s view of a per-core register. -/
def pcKey (n a : Nat) : Nat := viewKey n a

/-- A write to LDG_PUT by core `n` (R247): STATE and ARG are judged now (R37, R38), DOWN by PFW as it stands, and the
rest when the acceptance is served. -/
def State.writeLdgPut (s : State) (n : Nat) (v : Word) : State :=
  let st := s.ldgState
  let busy := s.bit (pcKey n LDG_PUTST) 31
  let code := if busy || decide (st ≤ L_STOPPED) || s.bit LDG_RESTR 0 then some 2
    else if !putType (fieldOf v 0 8) then some 3 else none
  match code with
  | some c =>
    let s1 := (((s.setFld (pcKey n LDG_PUTST) 0 4 c).setRg64 (pcKey n LDG_PUTSEQ_LO) 0).count LDG_REJECT 1).ldgEvt 0
    s1.ldgEvt (1 + n)
  | none =>
    let p : LdgPut :=
      { src := n, type := fieldOf v 0 8, chk := bitOf v 8
        payload := (List.range 6).map (fun w => s.rg (pcKey n (LDG_STG w))), pcrc := s.rg (pcKey n LDG_PCRC)
        down := st == L_DOWN || s.bit PWR_STAT 4 }
    (s.setLdg { s.ldg with queue := s.ldg.queue ++ [p] }).setBit (pcKey n LDG_PUTST) 31 true

/-- LDG_PUT. -/
def execLdgPut (i : Initiator) (v : Word) (s : State) : Out :=
  done (s.guardW i LDG_PUT v (fun t => t.writeLdgPut i.code v))

/-- The three 64-bit words of a staged payload. -/
def payOf (l : List Word) : List Nat :=
  (List.range 3).map (fun k => (l.getD (2 * k) 0).toNat + (l.getD (2 * k + 1) 0).toNat * 0x100000000)

/-- Post a result (R247). -/
def State.postPut (s : State) (n code oseq : Nat) : State :=
  let s1 := (s.setRg (pcKey n LDG_PUTST) (w32 code)).setRg64 (pcKey n LDG_PUTSEQ_LO) (if code = 0 then oseq else 0)
  let s2 := if code = 0 then s1 else s1.count LDG_REFCNT 1
  let s3 := if code = 6 then s2.ldgEvt 11 else s2
  s3.ldgEvt (1 + n)

/-- Serve one queued acceptance (R247, in the order of its table). -/
def State.servePut (s : State) (p : LdgPut) (pick bad : Nat) : State :=
  let base := s.oseqBase
  let pay := payOf p.payload
  let crcBad := p.chk && p.pcrc.toNat != crc32 (bytesLe 8 (wd pay 0) ++ bytesLe 8 (wd pay 1) ++ bytesLe 8 (wd pay 2))
  if p.down then s.postPut p.src 4 0
  else if decide ((s.rg LDG_HWM).toNat ≤ s.ldgUsed) || !s.anyFree then s.postPut p.src 1 0
  else if base = seqMax then s.postPut p.src 6 0
  else if crcBad then s.postPut p.src 5 0
  else
    match s.acceptInto (s.makeRecord p.type false none (base + 1) pay) pick bad with
    | (true, t) => (t.setNv { t.ldg.nv with fresh := false }).postPut p.src 0 (base + 1)
    | (false, t) => t.postPut p.src 5 0

/-- LDG_ACCEPTANCE (R244, R248): the oldest queued acceptance is served. `pick` is where the search for a free slot starts
and `bad` how many of its writes read back different. -/
def execLdgAcceptance (pick : Fin 16384) (bad : Fin 3) (s : State) : Out :=
  done (
    match s.ldg.queue with
    | [] => s
    | p :: l => (s.setLdg { s.ldg with queue := l }).servePut p pick.val bad.val)

/-! ### Recovery (R245) -/

/-- Slots of which some word is listed in memory or carries an ECC mark. -/
def State.touchedSlots (s : State) : List Nat :=
  let keys := s.mem.map (fun e => e.1) ++ s.ms.ecc.map (fun e => e.1)
  let slots := keys.filterMap (fun a =>
    if 0x18000000 ≤ a ∧ a ≤ 0x180FFFFF then some ((a - 0x18000000) / 64)
    else if 0x181C0000 ≤ a ∧ a ≤ 0x181DFFFF then some ((a - 0x181C0000) / 8) else none)
  slots.foldl (fun m i => smPut m i ()) [] |>.map (fun e => e.1)

/-- A present slot with header `w` enters the index, its body judged (R245). -/
def State.recoverBody (s0 : State) (i w : Nat) : State :=
  let s := s0.mramSeen (fun a => decide (slotAddr i 1 ≤ a ∧ a ≤ slotAddr i 7))
  let words := (List.range 7).map (fun k => s.mramWord (slotAddr i (k + 1)))
  let l := w :: words.map (fun o => o.getD 0)
  let bad := words.any (fun o => o.isNone) || wd l 4 / 2 ^ 32 != recCrc l
  let s1 := s.setLdg { s.ldg with slots := smPut s.ldg.slots i l }
  if bad then
    let s2 := if w.testBit 14 then s1 else s1.setHeader i (w + 2 ^ 14)
    s2.ldgEvt 15
  else s1

/-- Judge one slot by the table of R245. -/
def State.recoverSlot (s0 : State) (i : Nat) : State :=
  let a := slotAddr i 0
  let c := copyAddr i
  let s := s0.mramSeen (fun x => x == a || x == c)
  match s.mramWord a, s.mramWord c with
  | some h, cp =>
    if h % 256 = 0 then (if cp = some 0 then s else s.mramPut c 0)
    else if cp = some h then s.recoverBody i h
    else (s.mramPut c h).recoverBody i h
  | none, some cp =>
    if cp % 256 = 0 then s.mramPut a 0
    else (s.mramPut a cp).recoverBody i cp
  | none, none => s.countWrap LDG_LOSTHDR 1

/-- LDG_RECOVERY (R245, R270): every slot is judged; then STOPPED and source 176. -/
def execLdgRecovery (s : State) : Out :=
  done (
    if s.ldgState = L_RECOVER then
      let s0 := s.setLdg { s.ldg with slots := [] }
      let s1 := (s0.touchedSlots.foldl (fun t i => t.recoverSlot i) s0).mramSettle
      let g := s1.ldg.slots.foldl (fun m e => max m (recGseq e.2)) s1.ldg.nv.gseq
      let s2 := (s1.setNv { s1.ldg.nv with gseq := g }).usedChanged
      (s2.setFld LDG_STAT 0 3 L_STOPPED).ldgEvt 16
    else s)

/-! ### Power fail and restart (R267, R269) -/

/-- The power-fail record with REASON `r`. BEAT_COUNT at a fail that was not seen is not known: a free value. -/
def State.powerFailRecord (s : State) (r : Nat) : State :=
  let (b, s1) := if r = 1 then (s.beatNo, s) else s.draw
  let (code, t) := s1.ownRecord 0x12 (r == 2) none (payload4 r 0 s1.ldg.nv.gseq b)
  if code = 0 then t.setNv { t.ldg.nv with pfSince := true } else t

/-- The power-restore record (R267, R269). -/
def State.powerRestoreRecord (s : State) (kind late : Nat) : State :=
  let (code, t) := s.ownRecord 0x13 false none (payload4 kind late s.rtcWord s.beatNo)
  if code = 0 then t.setNv { t.ldg.nv with pfSince := false } else t

/-- The lead device for R263 to R269: the one that leads the beat, or a configured manager that follows no lead yet
(log entry 14). -/
def State.ldgLead (s : State) : Bool := s.bit BEAT_STAT 3 || (s.bit LNK_CFG 0 && s.beatState == B_FREE)

/-- Missed interval closes at restart (R269): `n` records, the last one spanning the remainder up to `opened`. -/
def State.missedIntervals (s : State) (base period opened : Nat) : Nat → State
  | 0 => s
  | n + 1 =>
    let closed := s.ldg.nv.recInterval
    let next := if n = 0 then opened else closed + 1
    let s1 := s.setNv { s.ldg.nv with interval := next, recInterval := next }
    let t := (s1.ownRecord 0x11 true (some (base + (closed + 1) * period)) (payload4 closed next s1.rtcWord 0)).2
    State.missedIntervals t base period opened n

/-- The restart records of START after a power-on or brown-out reset (R269): a boundary that came into force while DOWN is missed
too (R266). B of a tariff record written at restart is not stated: a free value. -/
def State.restartRecords (s : State) : State :=
  let s1 := if s.ldg.nv.pfSince then s else s.powerFailRecord 2
  let now := unitsOf s1.rtcWord
  let per := (s1.rg LDG_IPERIOD).toNat * 32768
  let base := unitsOf (s1.rg64 LDG_IBASE_LO)
  let lead := s1.ldgLead
  let opened := max s1.ldg.nv.interval ((now - base) / max 1 per)
  let n := if lead && decide (0 < per ∧ base ≤ now) then min 128 (opened - s1.ldg.nv.recInterval) else 0
  let s2 := s1.missedIntervals base per opened n
  let due := match s2.ldg.nv.armed with
    | some (t, e) => if lead && decide (unitsOf t ≤ now) then some (t, e) else none
    | none => none
  match due with
  | none => s2.powerRestoreRecord s2.ldg.lastReset n
  | some (t, e) =>
    let old := s2.ldg.nv.recEpoch
    let s3 := s2.setNv { s2.ldg.nv with epoch := e, recEpoch := e, armed := none }
    let (b, s4) := s3.draw
    let s5 := (s4.ownRecord 0x10 true (some (unitsOf t)) (payload4 (old + e * 65536) 0 s4.rtcWord b)).2
    s5.powerRestoreRecord s5.ldg.lastReset (n + 1)

/-- START (R269). -/
def State.ldgStart (s : State) : State :=
  s.command ldgPort false (s.ldgState != L_STOPPED) false (fun t =>
    let t1 := t.completeTallies
    let t2 := if t1.ldg.lastReset = 1 ∨ t1.ldg.lastReset = 2 then t1.restartRecords else t1
    (t2.setFld LDG_STAT 0 3 L_RUN).setBit LDG_STAT 8 false)

/-- The power-fail warning reaches the Ledger (R267, step 1). A Ledger that is not in RUN has nothing to hold up
(log entry 14). -/
def State.ldgPowerFail (s : State) : State :=
  if s.ldgState = L_RUN then (s.setFld LDG_STAT 0 3 L_DOWN).ldgEvt 8 else s

/-- Serve every queued acceptance (R267, step 2). -/
def State.serveAll (s : State) : List LdgPut → State
  | [] => s
  | p :: l =>
    let (f, s1) := (s.setLdg { s.ldg with queue := l }).draw
    State.serveAll (s1.servePut p (f % 16384) 0) l

/-- LDG_QUIET (R267, steps 2 to 5): queued acceptances complete, the power-fail record is accepted, and QUIET is set with
source 169. Which slots they take is open (log entry 2). -/
def execLdgQuiet (s : State) : Out :=
  done (
    if s.bit PWR_STAT 4 && !s.bit LDG_STAT 8 then
      let s1 := if s.ldgState = L_DOWN then ((s.serveAll s.ldg.queue).powerFailRecord 1) else s
      (s1.setBit LDG_STAT 8 true).ldgEvt 9
    else s)

/-- PFW_RESTORE (R267): a power-restore record with reset kind 0, and RUN. -/
def execPfwRestore (s : State) : Out :=
  done (
    if s.ldgState = L_DOWN ∧ s.bit PWR_STAT 4 = false then
      ((s.powerRestoreRecord 0 0).setFld LDG_STAT 0 3 L_RUN).setBit LDG_STAT 8 false
    else s)

/-! ### Commands (R256, R258, R262, R263) -/

/-- Free every committed record up to a release cursor above the present one (R256). -/
def State.releaseTo (s : State) (g : Nat) : State :=
  if g ≤ s.ldg.nv.rel then s
  else
    let gone := (s.ldg.slots.filter (fun e => decide (0 < recGseq e.2 ∧ recGseq e.2 ≤ g))).map (fun e => e.1)
    gone.foldl (fun t i => t.freeSlot i) (s.setNv { s.ldg.nv with rel := g })

/-- RELEASE (R256). -/
def State.ldgRelease (s : State) : State :=
  let g := s.rg64 LDG_REL_LO
  s.command ldgPort false (s.ldgRole != 1) (decide (s.ldg.nv.gseq < g)) (fun t => t.releaseTo g)

/-- SNAP (R262). -/
def State.ldgSnap (s : State) : State :=
  s.command ldgPort false false false (fun t =>
    let t1 := (List.range 64).foldl (fun u k => u.setRg64 (LDG_TALLY_LO k) (t.tally k).value) t
    t1.setRg64 LDG_SNAPSEQ_LO t.ldg.nv.gseq)

/-- TSCHED (R263). -/
def State.ldgTsched (s : State) : State :=
  s.command ldgPort false (s.ldg.nv.armed.isSome && s.ldg.armedAnn) false (fun t =>
    t.setNv { t.ldg.nv with armed := some (t.rg64 LDG_TAT_LO, t.fld LDG_TNEW 0 16) })

/-- TCANCEL (R263): it disarms a boundary not yet announced; one that is announced is left (log entry 14). -/
def State.ldgTcancel (s : State) : State :=
  s.command ldgPort false (s.ldg.nv.armed.isSome && s.ldg.armedAnn) false (fun t =>
    t.setNv { t.ldg.nv with armed := none })

/-- FORMAT (R257, R258, R260): an empty ring in STOPPED; the term is 1, FRESH reads 1, tallies and SAT clear. -/
def State.ldgFormat (s : State) : State :=
  s.command ldgPort false (s.ldgState != L_STOPPED || s.ldgUsed != 0) false (fun t =>
    let keys := fun (a : Nat) => decide (0x181E0000 ≤ a ∧ a ≤ 0x181E3FFF)
    let t1 := { t with mem := smDrop keys t.mem, ms := { t.ms with ecc := smDrop keys t.ms.ecc } }
    (t1.setLdg { t1.ldg with tallies := [] }).setNv
      { LdgNv.blank with
        term := 1, fresh := true, epoch := t.ldg.nv.epoch, interval := t.ldg.nv.interval, armed := t.ldg.nv.armed
        recInterval := t.ldg.nv.recInterval, recEpoch := t.ldg.nv.recEpoch
        pfSince := t.ldg.nv.pfSince })

/-- A write to LDG_CMD. -/
def State.writeLdgCmd (s : State) (v : Word) : State :=
  match fieldOf v 28 4 with
  | 1 => s.ldgStart
  | 2 => s.ldgRelease
  | 3 => s.ldgSnap
  | 4 => s.ldgTsched
  | 5 => s.ldgTcancel
  | 6 => s.ldgFormat
  | _ => s

/-- The LDG_CMD word of an operation. -/
def ldgWord (op : Nat) : Word := w32 (op * 0x10000000)

/-- LDG_START. -/
def execLdgStart (i : Initiator) (s : State) : Out := done (s.guardW i LDG_CMD (ldgWord 1) (fun t => t.ldgStart))
/-- LDG_RELEASE. -/
def execLdgRelease (i : Initiator) (s : State) : Out := done (s.guardW i LDG_CMD (ldgWord 2) (fun t => t.ldgRelease))
/-- LDG_SNAP. -/
def execLdgSnap (i : Initiator) (s : State) : Out := done (s.guardW i LDG_CMD (ldgWord 3) (fun t => t.ldgSnap))
/-- TSCHED. -/
def execTsched (i : Initiator) (s : State) : Out := done (s.guardW i LDG_CMD (ldgWord 4) (fun t => t.ldgTsched))
/-- TCANCEL. -/
def execTcancel (i : Initiator) (s : State) : Out := done (s.guardW i LDG_CMD (ldgWord 5) (fun t => t.ldgTcancel))
/-- LDG_FORMAT. -/
def execLdgFormat (i : Initiator) (s : State) : Out := done (s.guardW i LDG_CMD (ldgWord 6) (fun t => t.ldgFormat))

/-- A write to a register of the Ledger that is legal only in STOPPED (R259, R263, LDG_HWM). -/
def State.writeStopped (s : State) (a : Nat) (v : Word) : State :=
  s.command ldgPort false (s.ldgState != L_STOPPED) false (fun t =>
    match regAt a with
    | some (row, _, _) => t.storeReg a row v
    | none => t)

/-- TDEF_WRITE (R259): word 0 LDG_TDEF_A, 1 LDG_TDEF_B. -/
def execTdefWrite (i : Initiator) (t : Fin 64) (w : Fin 2) (v : Word) (s : State) : Out :=
  let a := LDG_TDEF_A t.val + 4 * w.val
  done (s.guardW i a v (fun u => u.writeStopped a v))

/-! ### Boundaries (R264 to R266) -/

/-- The next announced beat and its kinds (LDG_NEXTB, LDG_NEXTK). -/
def State.nextBoundary (s : State) : Nat × Nat :=
  match s.ldg.bounds with
  | [] => (0, 0)
  | b :: l =>
    let first := l.foldl (fun m x => min m x.beat) b.beat
    (first, (s.ldg.bounds.filter (fun x => x.beat == first)).foldl (fun m x => m ||| x.kind) 0)

/-- The nominal beat period as units of 1/32,768 s over a common divisor: unit / scale of them. -/
def State.beatUnits (s : State) : Nat × Nat :=
  (max 1 ((s.lv BEAT_GEN_NUM).toNat * 32768), 400000000 * max 1 (s.lvFld BEAT_GEN_DEN 0 8))

/-- A boundary is announced already, by this lead or by a former one (R264). -/
def State.announced (s : State) (kind tag : Nat) : Bool := s.ldg.bounds.any (fun b => b.kind == kind && b.tag == tag)

/-- Announce a boundary at time `t` that is not announced yet (R264): B is at least 4 beats ahead, LATE when k < 4. -/
def State.fixBoundary (s : State) (kind tag t : Nat) : State :=
  let now := unitsOf s.rtcWord
  let (unit, scale) := s.beatUnits
  if !s.announced kind tag && decide ((t - now) * scale ≤ 8 * unit) then
    let k := ((t - now) * scale + unit - 1) / unit
    let b : Boundary := { kind := kind, beat := s.beatNo + max k 4, tag := tag, time := t, late := decide (k < 4), own := true }
    s.setLdg { s.ldg with bounds := s.ldg.bounds ++ [b], armedAnn := s.ldg.armedAnn || kind == 2 }
  else s

/-- The lead Ledger's schedule at an edge (R263, R264): every interval boundary up to 8 periods ahead, and the armed tariff
boundary. -/
def State.scheduleBoundaries (s : State) : State :=
  if s.bit BEAT_STAT 3 && s.ldgState == L_RUN then
    let per := (s.rg LDG_IPERIOD).toNat * 32768
    let base := unitsOf (s.rg64 LDG_IBASE_LO)
    let first := s.ldg.nv.interval + 1
    let (unit, scale) := s.beatUnits
    let n := if per = 0 then 0 else (unitsOf s.rtcWord + 8 * unit / scale - base) / per + 1 - first
    let s1 := (List.range n).foldl (fun t k => t.fixBoundary 1 ((first + k) % 2 ^ 32) (base + (first + k) * per)) s
    match s1.ldg.nv.armed with
    | some (t, e) => s1.fixBoundary 2 e (unitsOf t)
    | none => s1
  else s

/-- The lead writes boundary records now; a lead in DOWN leaves them to its restart (R266). -/
def State.recordsBoundaries (s : State) : Bool := s.bit BEAT_STAT 3 && s.ldgState == L_RUN

/-- One due boundary comes into force (R265). A lead that writes no record keeps what its restart needs; a tariff boundary disarms an
armed one of the same epoch (log entry 14). -/
def State.applyBoundary (s : State) (b : Boundary) : State :=
  let nv := s.ldg.nv
  let missed := s.bit BEAT_STAT 3 && !s.recordsBoundaries
  let e := b.tag % 65536
  let same := match nv.armed with
    | some (_, x) => x == e
    | none => false
  let s1 := if b.kind = 1 then s.setNv { nv with interval := b.tag, recInterval := if missed then nv.recInterval else b.tag }
    else
      let t := s.setNv { nv with
        epoch := e, recEpoch := if missed then nv.recEpoch else e, armed := if same && !missed then none else nv.armed }
      if same then t.setLdg { t.ldg with armedAnn := false } else t
  s1.ldgEvt 10

/-- The scheduled time of a due boundary: the one this lead fixed, or for a former lead's the time of the own schedule; where that
has none the time is a free value (log entry 14). -/
def State.boundaryTime (s : State) (b : Boundary) : Nat × State :=
  if b.own then (b.time, s)
  else if b.kind = 1 then (unitsOf (s.rg64 LDG_IBASE_LO) + b.tag * ((s.rg LDG_IPERIOD).toNat * 32768), s)
  else
    match s.ldg.nv.armed with
    | some (t, e) => if e = b.tag % 65536 then (unitsOf t, s) else s.draw
    | none => s.draw

/-- LATE of a due boundary (R264): k was below 4 just where its time lies a nominal period or more back at B. -/
def State.boundaryLate (s : State) (b : Boundary) (time : Nat) : Bool :=
  let (unit, scale) := s.beatUnits
  if b.own then b.late else decide (unit ≤ (unitsOf s.rtcWord - time) * scale)

/-- The record of a boundary that has come into force (R266), with the epoch and interval before it. -/
def State.boundaryRecord (s : State) (b : Boundary) (oldEpoch oldInterval : Nat) (time : Nat) (late : Bool) : State :=
  let pay := if b.kind = 1 then payload4 oldInterval b.tag s.rtcWord b.beat
    else payload4 (oldEpoch + b.tag % 65536 * 65536) 0 s.rtcWord b.beat
  (s.ownRecord (if b.kind = 1 then 0x11 else 0x10) late (some time) pay).2

/-- Due boundaries in their order, each applied: what their records need, and the state. -/
def State.applyDue (s : State) : List Boundary → List (Boundary × Nat × Nat × Nat × Bool) × State
  | [] => ([], s)
  | b :: l =>
    let (time, s1) := s.boundaryTime b
    let r := (b, s1.ldg.nv.epoch, s1.ldg.nv.interval, time, s1.boundaryLate b time)
    let (rs, s2) := State.applyDue (s1.applyBoundary b) l
    (r :: rs, s2)

/-- The Ledger at a beat edge (R264 to R266): due boundaries, interval before tariff, come into force; then a lead in RUN writes
their records, whoever announced them; then the schedule. -/
def State.ldgEdge (s : State) : State :=
  let now := s.beatNo
  let due := sortBy (fun a b => decide (a.beat < b.beat ∨ (a.beat = b.beat ∧ a.kind ≤ b.kind)))
    (s.ldg.bounds.filter (fun b => decide (b.beat ≤ now)))
  let (rs, s1) := (s.setLdg { s.ldg with bounds := s.ldg.bounds.filter (fun b => decide (now < b.beat)) }).applyDue due
  let s2 := if s1.recordsBoundaries then rs.foldl (fun t r => t.boundaryRecord r.1 r.2.1 r.2.2.1 r.2.2.2.1 r.2.2.2.2) s1 else s1
  s2.scheduleBoundaries

/-! ### Registers computed at a read -/

/-- A register of the Ledger that shows other state. -/
def State.ldgShow (s : State) (a : Nat) : Option Word :=
  let nv := s.ldg.nv
  if a = LDG_STAT then
    some (withBit (withBit (s.rg LDG_STAT) 9 nv.fresh) 10 (s.bit LDG_RESTR 0))
  else if a = LDG_USED then some (w32 s.ldgUsed)
  else if a = LDG_TERM then some (w32 nv.term)
  else if a = LDG_GSEQ_LO then some (w32 nv.gseq)
  else if a = LDG_GSEQ_HI then some (w32 (nv.gseq / 2 ^ 32))
  else if a = LDG_OSEQ_LO then some (w32 s.oseqBase)
  else if a = LDG_OSEQ_HI then some (w32 (s.oseqBase / 2 ^ 32))
  else if a = LDG_EPOCH then some (w32 nv.epoch)
  else if a = LDG_INTERVAL then some (w32 nv.interval)
  else if a = LDG_NEXTB_LO then some (w32 s.nextBoundary.1)
  else if a = LDG_NEXTB_HI then some (w32 (s.nextBoundary.1 / 2 ^ 32))
  else if a = LDG_NEXTK then some (w32 s.nextBoundary.2)
  else if a = LDG_TSAT_LO then some (wordOfBits ((List.range 32).filter (fun t => (s.tally t).sat)))
  else if a = LDG_TSAT_HI then some (wordOfBits ((List.range 32).filter (fun t => (s.tally (t + 32)).sat)))
  else if LDG_ORG_LO 0 ≤ a ∧ a < LDG_ORG_LO 64 then
    let d := (a - LDG_ORG_LO 0) / 8
    match s.orgLast d with
    | none => some 0
    | some q => if a % 8 = 0 then some (w32 q) else some (w32 (q / 2 ^ 32 % 65536 + 0x80000000))
  else none

end Sys2Proof.Machine
end

