-- ==== Sys2Proof/Machine/LedgerLink.lean ====
section
/-! DEFINITION. The Ledger across devices (spec/09 R252 to R258): handoff, commit, mirror, acknowledgement, release
cursor and terms, carried by LEDGER frames (spec/10 R285). -/

namespace Sys2Proof.Machine

/-- A received frame as the transport holds it. -/
def frameOf (f : Llp) (type : Nat) : LinkFrame :=
  { gen := f.gen.toNat, type := type, dst := f.dst.toNat, src := f.src.toNat, hops := f.hops.toNat, win := f.win.toNat
    beat := f.beat.toNat, hseq := some f.hseq.toNat, inPort := none, payload := f.payload }

/-! ### Leading -/

/-- Replace what the link holds. -/
def State.setLnk (s : State) (x : LnkSt) : State := { s with lnk := x }

/-- The own LNK role and Ledger role (R296). -/
def State.setRole (s : State) (role : Nat) : State :=
  (s.setFld LNK_STAT 4 3 role).setFld LDG_STAT 4 2 (if role = 4 then 3 else role)

/-- The device ceases to lead (R294, R303): its beat enters FREE. -/
def State.stopLeading (s : State) (adm : Nat) : State :=
  let s1 := ((s.setFld LNK_STAT 0 3 adm).setRole 0).toBeatState B_FREE
  let s2 := s1.setLnk { s1.lnk with members := [], admissions := [] }
  (({ s2 with beat := { s2.beat with forceGen := false } }).setRg64 LNK_ADMIT_LO 0).setRg64 LNK_OBS_LO 0 |>.setMirror 0

/-! ### LEDGER payloads (R285) -/

/-- A record on the wire: each 64-bit word most significant byte first. -/
def recBytes (l : List Nat) : List Byte := (List.range 8).flatMap (fun k => beBytes 8 (wd l k))

/-- Payload of a LEDGER frame. -/
def ledgerPayload (kind origin term value : Nat) (recs : List (List Nat)) : List Byte :=
  [BitVec.ofNat 8 kind, BitVec.ofNat 8 recs.length, BitVec.ofNat 8 origin, 0] ++ beBytes 4 term ++ beBytes 8 value ++
    recs.flatMap recBytes

/-- The records of a LEDGER payload. -/
def ledgerRecs (pl : List Byte) : List (List Nat) :=
  (List.range (fieldAt pl 1 1)).map (fun i => (List.range 8).map (fun k => fieldAt pl (16 + 64 * i + 8 * k) 8))

/-- A LEDGER payload is whole: its KIND is known and its records are all there. -/
def ledgerWhole (pl : List Byte) (kind : Nat) : Bool :=
  fieldAt pl 0 1 == kind && decide (fieldAt pl 1 1 ≤ 22 ∧ 16 + 64 * fieldAt pl 1 1 ≤ pl.length)

/-- Queue a LEDGER frame for device `d`. -/
def State.sendLedger (s : State) (d kind origin value : Nat) (recs : List (List Nat)) : State :=
  s.sendFrame 6 d 1 (ledgerPayload kind origin s.ldg.nv.term value recs)

/-! ### Terms (R257) -/

/-- Undo one committed record at or above TSTART: another origin's is freed, an own one returns to GSEQ 0. -/
def State.undoRecord (s : State) (i : Nat) (l : List Nat) : State :=
  let d := recOrigin l
  let s1 := match s.orgLast d with
    | some last => if recOseq l ≤ last then s.setOrg d (recOseq l - 1) else s
    | none => s
  if d = s.ownId then
    let t := s1.setHeader i (wd l 0 % 65536)
    t.setNv { t.ldg.nv with acked := min t.ldg.nv.acked (recOseq l - 1) }
  else s1.freeSlot i

/-- The device learns of a higher term (R257). TSTART of that term is in no frame layout: a free value (log entry 15). -/
def State.learnTerm (s : State) (term : Nat) : State :=
  if term ≤ s.ldg.nv.term then s
  else
    let (f, s0) := s.draw
    let tstart := f % 2 ^ 48
    let undo := s0.ldg.slots.filter (fun e => decide (0 < recGseq e.2 ∧ tstart ≤ recGseq e.2))
    let s1 := undo.foldl (fun t e => t.undoRecord e.1 e.2) s0
    let g := if undo.isEmpty then s1.ldg.nv.gseq else min s1.ldg.nv.gseq (tstart - 1)
    let s2 := s1.setNv { s1.ldg.nv with term := term, tstart := tstart, gseq := g }
    let s3 := s2.setLdg { s2.ldg with handed := 0, unack := [], reack := [], mirrorQ := [], catchup := none }
    s3.ldgEvt 13

/-- The device hears a term in a LEDGER frame: a lead that hears a higher one stops leading (R303). -/
def State.hearTerm (s : State) (t : Nat) : State :=
  (if s.leads && decide (s.ldg.nv.term < t) then s.stopLeading A_WAIT else s).learnTerm t

/-- What a LEDGER frame's term asks for (R257): a lower one is ignored, a higher one is learned first. -/
def State.termCheck (s : State) (pl : List Byte) : Bool × State :=
  let t := fieldAt pl 4 4
  if t < s.ldg.nv.term then (false, s) else (true, s.hearTerm t)

/-- Give a LEDGER frame to the Ledger, after the check of its term; false where the Ledger cannot take it now. Observers take no
part (R296). -/
def State.ledgerHandle (s : State) (handle : State → LinkFrame → Bool × State) (f : LinkFrame) : Bool × State :=
  if s.observer then (true, s)
  else
    match s.termCheck f.payload with
    | (false, t) => (true, t)
    | (true, t) => handle t f

/-- Receive a LEDGER frame of one KIND: one that the Ledger cannot take now stays in its buffer (R250, R254). -/
def State.ledgerRx (s : State) (p kind : Nat) (f : Llp) (handle : State → LinkFrame → Bool × State) : State :=
  let fr := frameOf f 6
  let r := s.receive p fr
  if r.deliver && ledgerWhole fr.payload kind then
    match r.st.ledgerHandle handle fr with
    | (true, u) => u
    | (false, u) => u.holdFrame p fr
  else r.st

/-! ### Handoff (R252, R253) -/

/-- The own beat stands inside the Ledger window. -/
def State.inLedgerWindow (s : State) : Bool :=
  let now := (s.rg BEAT_PHASE).toNat
  decide (s.winStart 1 ≤ now ∧ now < s.winEnd 1)

/-- LEDGER_HANDOFF (R252): up to 22 uncommitted own records, in ascending OSEQ order, by a worker or deputy. -/
def execLedgerHandoff (s : State) : Out :=
  done (
    if s.ldgState = L_RUN ∧ (s.ldgRole = 0 ∨ s.ldgRole = 2) ∧ s.adm = A_MEMBER ∧ s.inLedgerWindow then
      let recs := (s.unackedOwn.filter (fun r => decide (s.ldg.handed < recOseq r))).take 22
      match recs.getLast? with
      | none => s
      | some r =>
        let t := s.sendLedger s.leadId 1 s.ownId 0 recs
        t.setLdg { t.ldg with handed := recOseq r }
    else s)

/-- One handed-off record at the manager (R253). -/
def State.takeRecord (s : State) (l : List Nat) : State :=
  let d := recOrigin l
  let q := recOseq l
  let s1 := if (s.orgLast d).isNone then s.setOrg d (q - 1) else s
  let last := (s1.orgLast d).getD 0
  if q ≤ last then s1.setLdg { s1.ldg with reack := smPut s1.ldg.reack d (max q (smGet (fun _ => 0) s1.ldg.reack d)) }
  else if (s1.findRec d q).isSome then s1
  else
    let (f, s2) := s1.draw
    ((s2.acceptInto (wd l 0 % 65536 :: l.drop 1) (f % 16384) 0).2).tryCommit d

/-- A handed-off record that the manager does not hold and has not committed (R253). -/
def State.newHandoff (s : State) (l : List Nat) : Bool :=
  (match s.orgLast (recOrigin l) with
    | some last => decide (last < recOseq l)
    | none => true) && (s.findRec (recOrigin l) (recOseq l)).isNone

/-- The manager receives handed-off records: it takes the frame whole while the new ones leave LDG_USED within 16,320 (R250)
and GSEQ has room; a manager at the largest GSEQ raises source 171 and leaves it (R251). -/
def State.handoffIn (s : State) (f : LinkFrame) : Bool × State :=
  if s.ldgRole != 1 then (true, s)
  else
    let recs := ledgerRecs f.payload
    if s.ldgState == L_RUN && s.ldg.nv.gseq == seqMax then (false, s.ldgEvt 11)
    else if s.ldgState != L_RUN || decide (16320 < s.ldgUsed + (recs.filter s.newHandoff).length) then
      (false, s)
    else (true, recs.foldl (fun t l => t.takeRecord l) s)

/-- HANDOFF_RX (R253). -/
def execHandoffRx (p : Fin 2) (f : Llp) (s : State) : Out := done (s.ledgerRx p.val 1 f State.handoffIn)

/-! ### Mirror and acknowledgement (R254, R255) -/

/-- The deputy: the admitted member whose ADMIT said DEPUTY. -/
def State.deputyId (s : State) : Option Nat := (s.lnk.members.find? (fun m => m.result == 2)).map (fun m => m.id)

/-- MIRROR_SEND (R254): commits of earlier beats go to the deputy in the Ledger window. -/
def execMirrorSend (s : State) : Out :=
  done (
    match s.deputyId with
    | none => s
    | some d =>
      if s.ldgRole = 1 ∧ s.mirror = 2 ∧ s.ldgState = L_RUN ∧ s.inLedgerWindow then
        let due := (s.ldg.mirrorQ.takeWhile (fun e => decide (e.1 < s.beatNo))).take 22
        let recs := due.filterMap (fun e => (s.ldg.slots.find? (fun x => recGseq x.2 == e.2)).map (fun x => x.2))
        if due.isEmpty then s
        else
          let t := s.sendLedger d 3 s.ownId 0 recs
          t.setLdg { t.ldg with mirrorQ := t.ldg.mirrorQ.drop due.length }
      else s)

/-- A mirrored record that needs a slot: neither held nor released, nor the deputy's own (R254). -/
def State.newMirror (s : State) (l : List Nat) : Bool :=
  decide (s.ldg.nv.rel < recGseq l) && !s.ldg.slots.any (fun e => recGseq e.2 == recGseq l) &&
    (s.findRec (recOrigin l) (recOseq l)).isNone

/-- One mirrored record at the deputy: written with its GSEQ, its tallies applied (R254); one it holds with that GSEQ or has released
is left. One it holds with GSEQ 0, its own or one that it held ahead of a gap, is committed in place. -/
def State.mirrorRecord (s : State) (l : List Nat) : State :=
  let g := recGseq l
  let d := recOrigin l
  let q := recOseq l
  if g = 0 ∨ g ≤ s.ldg.nv.rel ∨ s.ldg.slots.any (fun e => recGseq e.2 == g) then s
  else
    let s1 := s.setOrg d (max q ((s.orgLast d).getD 0))
    match s1.findRec d q with
    | some i => if recGseq ((s1.slotRec i).getD []) = 0 then s1.commitSlot i g else s1
    | none =>
      let (f, s2) := s1.draw
      match s2.acceptInto (wd l 0 % 65536 :: l.drop 1) (f % 16384) 0 with
      | (false, t) => t
      | (true, t) =>
        match t.findRec d q with
        | some i => t.commitSlot i g
        | none => t

/-- The deputy receives a mirror and confirms it (R254). -/
def State.mirrorIn (s : State) (f : LinkFrame) : Bool × State :=
  if s.ldgRole != 2 then (true, s)
  else
    let recs := ledgerRecs f.payload
    if s.ldgState != L_RUN || decide (16320 < s.ldgUsed + (recs.filter s.newMirror).length) then (false, s)
    else
      let t := recs.foldl (fun u l => u.mirrorRecord l) s
      (true, t.sendLedger f.src 4 t.ownId t.ldg.nv.gseq [])

/-- MIRROR_RX (R254). -/
def execMirrorRx (p : Fin 2) (f : Llp) (s : State) : Out := done (s.ledgerRx p.val 3 f State.mirrorIn)

/-- The manager receives a confirmation (R254, R255): MIRROR becomes SYNC when the deputy holds LDG_GSEQ. -/
def State.confirmIn (s : State) (f : LinkFrame) : Bool × State :=
  if s.ldgRole != 1 || s.deputyId != some f.src then (true, s)
  else
    let v := fieldAt f.payload 8 8 % 2 ^ 48
    let t := s.setLdg { s.ldg with confG := max s.ldg.confG v }
    if t.mirror = 1 ∧ t.ldg.nv.gseq ≤ v then
      let u := t.setMirror 2
      (true, u.setLdg { u.ldg with mirrorQ := [] })
    else (true, t)

/-- CONFIRM_RX (R254). -/
def execConfirmRx (p : Fin 2) (f : Llp) (s : State) : Out := done (s.ledgerRx p.val 4 f State.confirmIn)

/-- CATCHUP_SEND (R255): up to 22 committed, unreleased records above the deputy's highest GSEQ, which is `high` as the
manager knows it (log entry 15), and above those already sent. With none left MIRROR becomes SYNC only where the deputy holds
LDG_GSEQ. -/
def execCatchupSend (high : BitVec 48) (s : State) : Out :=
  done (
    match s.deputyId with
    | none => s
    | some d =>
      if s.ldgRole = 1 ∧ s.mirror = 1 ∧ s.ldgState = L_RUN ∧ s.inLedgerWindow then
        let from0 := max high.toNat (s.ldg.catchup.getD 0)
        let recs := (s.committedAbove from0).take 22
        match recs.getLast? with
        | none => if s.ldg.nv.gseq ≤ high.toNat then s.setMirror 2 else s
        | some r =>
          let t := s.sendLedger d 3 s.ownId 0 recs
          t.setLdg { t.ldg with catchup := some (recGseq r) }
      else s)

/-- An origin frees the acknowledged slots and records the acknowledged OSEQ (R254); a committed record leaves only by
RELEASE (R237). -/
def State.markAcked (s : State) (q : Nat) : State :=
  let t := s.setNv { s.ldg.nv with acked := max s.ldg.nv.acked q }
  let gone := t.ldg.slots.filter (fun e => recOrigin e.2 == t.ownId && decide (recOseq e.2 ≤ q) && recGseq e.2 == 0)
  gone.foldl (fun u e => u.freeSlot e.1) t

/-- The OSEQ up to which origin `d` may be acknowledged now (R239, R254): commits that the deputy has confirmed while
MIRROR is SYNC, else commits complete, as they stood at the start of the window; and duplicates again, never past a
commit that still waits. -/
def State.ackOf (s : State) (d : Nat) : Nat :=
  let mine := s.ldg.unack.filter (fun e => e.1 == d)
  let ready := mine.takeWhile (fun e => decide (e.2.2 ≤ s.ldg.ackLimit))
  let v := ready.foldl (fun m e => max m e.2.1) 0
  let again := smGet (fun _ => 0) s.ldg.reack d
  match mine.drop ready.length with
  | [] => max v again
  | e :: _ => max v (min again (e.2.1 - 1))

/-- ACK_SEND (R239, R253, R254): the manager acknowledges origin `d`. -/
def execAckSend (d : Fin 64) (s : State) : Out :=
  done (
    if s.ldgRole = 1 ∧ s.ldgState = L_RUN ∧ s.inLedgerWindow then
      let q := s.ackOf d.val
      if q = 0 then s
      else
        let t := s.setLdg { s.ldg with
          unack := s.ldg.unack.filter (fun e => !(e.1 == d.val && decide (e.2.1 ≤ q)))
          reack := smErase s.ldg.reack d.val }
        if d.val = t.ownId then t.markAcked q else t.sendLedger d.val 2 d.val q []
    else s)

/-- An origin receives an acknowledgement (R254). -/
def State.ackIn (s : State) (f : LinkFrame) : Bool × State :=
  if s.ldgRole = 1 ∨ fieldAt f.payload 2 1 ≠ s.ownId then (true, s)
  else if s.ldgState = L_RECOVER then (false, s)
  else (true, s.markAcked (fieldAt f.payload 8 8 % 2 ^ 48))

/-- ACK_RX (R254). -/
def execAckRx (p : Fin 2) (f : Llp) (s : State) : Out := done (s.ledgerRx p.val 2 f State.ackIn)

/-- The deputy receives the release cursor (R256). -/
def State.cursorIn (s : State) (f : LinkFrame) : Bool × State :=
  if s.ldgRole != 2 then (true, s)
  else if s.ldgState = L_RECOVER then (false, s)
  else (true, s.releaseTo (fieldAt f.payload 8 8 % 2 ^ 48))

/-- RELEASE_CURSOR_RX (R256). -/
def execReleaseCursorRx (p : Fin 2) (f : Llp) (s : State) : Out := done (s.ledgerRx p.val 5 f State.cursorIn)

/-- The manager at the start of its Ledger window: own records are committed as origin of its own ID (R253), the release
cursor goes to the deputy (R256), and what may be acknowledged in this window is fixed (R254). -/
def State.ledgerWindow (s : State) : State :=
  if s.ldgRole = 1 ∧ s.ldgState = L_RUN then
    let s1 := s.setLdg { s.ldg with ackLimit := if s.mirror = 2 then s.ldg.confG else s.ldg.nv.gseq }
    let s2 := match s1.orgLast s1.ownId, s1.unackedOwn with
      | none, r :: _ => s1.setOrg s1.ownId (recOseq r - 1)
      | _, _ => s1
    let s3 := s2.tryCommit s2.ownId
    match s3.deputyId with
    | none => s3
    | some d =>
      if s3.ldg.sentRel < s3.ldg.nv.rel then
        let t := s3.sendLedger d 5 s3.ownId s3.ldg.nv.rel []
        t.setLdg { t.ldg with sentRel := t.ldg.nv.rel }
      else s3
  else s

/-- What the Ledger does with a LEDGER frame of each KIND. -/
def ledgerKind : Nat → State → LinkFrame → Bool × State
  | 1 => State.handoffIn
  | 2 => State.ackIn
  | 3 => State.mirrorIn
  | 4 => State.confirmIn
  | 5 => State.cursorIn
  | _ => fun s _ => (true, s)

/-- A LEDGER frame that was held is offered again (R250, R254); one that still cannot be taken changes nothing. -/
def State.ledgerAgain (s : State) (f : LinkFrame) : Bool × State :=
  let kind := fieldAt f.payload 0 1
  if !ledgerWhole f.payload kind then (true, s)
  else
    match s.ledgerHandle (ledgerKind kind) f with
    | (true, t) => (true, t)
    | (false, _) => (false, s)

end Sys2Proof.Machine
end

