-- ==== Sys2Proof/Machine/Link.lean ====
section
/-! DEFINITION. The control of the vehicle link (spec/10): ports, discovery and admission, time and beat, topology,
windows, announcements, failover, link boot, messages and wake. -/

namespace Sys2Proof.Machine

/-! ### Commands and registers of the link -/

/-- The link's command port. -/
def lnkPort : CmdPort := { st := LNK_CMDST, rejects := LNK_REJECT, evt := some (LNK_EVT, 0), src := some 192 }

/-- A register that is written only while the link is STOPPED. -/
def State.writeLnkStopped (s : State) (a : Nat) (v mask : Word) : State :=
  s.command lnkPort false (s.adm != A_STOPPED) false (fun t => t.setRg a (v &&& mask))

/-- A write to LNK_PORT[p]: port C, which is no part of the link's START, follows its EN (R275). -/
def State.writeLnkPort (s : State) (p : Nat) (v : Word) : State :=
  let t := s.writeLnkStopped (LNK_PORT p) v 0x3F
  if p != 2 then t else if t.bit (LNK_PORT 2) 0 then t.portBring 2 else t.portDown 2

/-- Set or clear a bit of a 64-bit map at `a`. -/
def State.setMap (s : State) (a d : Nat) (b : Bool) : State := s.setBit (a + 4 * (d / 32)) (d % 32) b

/-- A bit of a 64-bit map at `a`. -/
def State.mapBit (s : State) (a d : Nat) : Bool := s.bit (a + 4 * (d / 32)) (d % 32)

/-- The device is admitted (LNK_ADMIT). -/
def State.admitted (s : State) (d : Nat) : Bool := s.mapBit LNK_ADMIT_LO d

/-- The lead that is followed. -/
def State.setLeadId (s : State) (d : Nat) : State := s.setFld LNK_STAT 16 6 d

/-- The topology takes a new value; each change raises source 194 (R274). -/
def State.setTopology (s : State) (k : Nat) : State :=
  if s.topology = k then s else (s.setFld LNK_STAT 8 2 k).lnkEvt 2

/-- The topology of a device that does not lead: on how many ring ports BEAT frames arrive (R274). -/
def State.followTopology (s : State) : State :=
  let arr := fun (p : Nat) => (s.port p).beatNow || (s.port p).beatLast
  s.setTopology (if arr 0 && arr 1 then T_RING else if arr 0 || arr 1 then T_LINE else T_ALONE)

/-- The own tuple is compared with this list (R295, R296, R540): BOOT_COMPAT holds (STEP, LDGFMT, GNTVER, GEN). -/
def State.compatLists (s : State) (step ldgfmt gntver gen : Nat) : Bool :=
  let e := step % 256 + ldgfmt % 256 * 256 + gntver % 65536 * 65536 + gen % 256 * 2 ^ 32
  (List.range (min 64 (s.rg BOOT_NCOMPAT).toNat)).any (fun i => s.rg64 (BOOT_COMPAT_LO i) % 2 ^ 40 == e)

/-! ### Ports (R275, R289, R292) -/

/-- PORT_UP (R275): port `p`'s PHY reports link; an enabled port that is not retired becomes UP. A ring port carries
nothing while the link is STOPPED. -/
def execPortUp (p : Fin 3) (s : State) : Out :=
  done ((s.setPort p.val { s.port p.val with phy := true }).portBring p.val)

/-- PORT_DOWN (R275, R291): the PHY of port `p` loses link, which an UP port reports with kind 3. -/
def execPortDown (p : Fin 3) (s : State) : Out :=
  let t := s.setPort p.val { s.port p.val with phy := false }
  done (if t.portUp p.val then (t.portError p.val 3 0).portDown p.val else t)

/-- PORT_SILENCE (R275): after admission, LNK_DEADB beats without a frame. -/
def execPortSilence (p : Fin 2) (s : State) : Out :=
  done (
    if (s.adm = A_MEMBER ∨ s.adm = A_LEAD) ∧ (s.rg LNK_DEADB).toNat ≤ (s.port p.val).silent then s.portDown p.val
    else s)

/-! ### Rings of firmware (R310) -/

/-- Slots of a ring, from its CTL register. -/
def State.ringSize (s : State) (ctl : Nat) : Nat := 2 ^ s.fld ctl 0 4

/-- The receive ring is full. -/
def State.qrxFull (s : State) : Bool :=
  (s.fld LNK_QRX_WR 0 8 + 1) % s.ringSize LNK_QRX_CTL == s.fld LNK_QRX_RD 0 8

/-- The level of source 201: the receive ring is not empty. -/
def State.qrxLevel (s : State) : State := s.signal 201 (s.fld LNK_QRX_WR 0 8 != s.fld LNK_QRX_RD 0 8)

/-- Write the next receive slot for a frame that came at BEAT_COUNT `came` (R310). -/
def State.qrxWrite (s : State) (kind p peer came : Nat) (d : List Byte) : State :=
  let slot := (s.rg LNK_QRX_BASE).toNat + 1536 * s.fld LNK_QRX_WR 0 8
  let w0 := kind + p * 16 + peer * 256 + d.length % 2048 * 65536
  let s1 := (s.fabWrite .link slot .word w0).2
  let s2 := (s1.fabWrite .link (slot + 4) .word (came % 0x100000000)).2
  let s3 := s2.fabWriteBytes .link (slot + 16) d
  (s3.setFld LNK_QRX_WR 0 8 ((s3.fld LNK_QRX_WR 0 8 + 1) % s3.ringSize LNK_QRX_CTL)).qrxLevel

/-- A raw frame on port `p` (R273, R310). PEER of a raw slot is not stated: a free value. -/
def State.rawRx (s : State) (p : Nat) (d : List Byte) : State :=
  if p ≠ 2 ∧ !s.bit LNK_CFG 2 then s.count LNK_RAWDROP 1
  else if s.qrxFull then (s.count LNK_RAWDROP 1).lnkEvt 11
  else
    let (f, u) := s.draw
    u.qrxWrite 1 p (f % 256) u.beatNo d

/-- MSG_RX (R290, R310): a MSG frame is delivered into the receive ring, or stays in its buffer while the ring is full or an
earlier one stays there. -/
def execMsgRx (p : Fin 2) (f : Llp) (s : State) : Out :=
  let fr := frameOf f 9
  let r := s.receive p.val fr
  done (
    if r.deliver then
      if r.st.qrxFull || !((r.st.port p.val).win fr.win).held.isEmpty then r.st.holdFrame p.val fr else r.st.qrxWrite 0 0 fr.src r.st.beatNo fr.payload
    else r.st)

/-- QTX_SEND (R310): the link takes the next slot of the transmit ring. A RAW slot with PORT 3, which names no port, is
consumed without sending. -/
def execQtxSend (s : State) : Out :=
  let rd := s.fld LNK_QTX_RD 0 8
  done (
    if s.adm = A_STOPPED ∨ rd = s.fld LNK_QTX_WR 0 8 then s
    else
      let slot := (s.rg LNK_QTX_BASE).toNat + 1536 * rd
      let (v, s0) := match s.fabRead .link slot .word with
        | (.ok v, t) => (v, t)
        | (.err _, t) => t.draw
      let w0 := w32 v
      let kind := fieldOf w0 0 2
      let prt := fieldOf w0 4 2
      let len := fieldOf w0 16 11
      let okMsg := kind = 0 ∧ 1 ≤ len ∧ len ≤ 1468
      let okRaw := kind = 1 ∧ 60 ≤ len ∧ len ≤ 1518
      let s1 :=
        if okMsg then
          let (d, t) := s0.fabReadBytes .link (slot + 16) len
          t.sendFrame 9 (fieldOf w0 8 8) 4 d
        else if okRaw then
          let (d, t) := s0.fabReadBytes .link (slot + 16) len
          if prt = 3 then t else t.queueOn prt (otherFrame RAW_MARK 15 d)
        else (s0.setBit LNK_QTX_CTL 31 true).lnkEvt 0
      (s1.setFld LNK_QTX_RD 0 8 ((rd + 1) % s1.ringSize LNK_QTX_CTL)).lnkEvt 10)

/-! ### Time (R279) -/

/-- HOPS of the last BEAT frame on port `p`, where one has arrived in this beat or the one before (log entry 17). -/
def State.beatHopsOn (s : State) (p : Nat) : Option Nat :=
  let x := s.port p
  if x.beatNow || x.beatLast then x.beatHops else none

/-- The upstream port (R280): the lower HOPS, port A on a tie. -/
def State.upstream (s : State) : Option Nat :=
  match s.beatHopsOn 0, s.beatHopsOn 1 with
  | none, none => none
  | some _, none => some 0
  | none, some _ => some 1
  | some a, some b => some (if a ≤ b then 0 else 1)

/-- The device's own LNK_TIME of its last edge: 2.5 ns a cycle. -/
def State.ownEdge (s : State) : Int := (s.rg64 LNK_TIME_LO : Int) - ((s.rg BEAT_PHASE).toNat * 5 / 2 : Nat)

/-- GPTP_SYNC_RX (R279): Sync and Follow_Up on the upstream port of a follower give the lead's time at its reception,
`time`, path delay of earlier hops included; the own upstream link delay is added. -/
def execGptpSyncRx (p : Fin 2) (time : BitVec 64) (s : State) : Out :=
  done (
    if s.portUp p.val && s.chanState (0x810 + p.val) != 3 then
      let t := s.heardOn p.val
      if t.adm = A_LEAD ∨ t.adm = A_STOPPED ∨ t.upstream ≠ some p.val then t
      else
        (t.setRg64 LNK_TIME_LO ((time.toNat + t.fld (LNK_PDELAY p.val) 0 16) % 2 ^ 64)).setLnk
          { t.lnk with gptpIn := some time.toNat }
    else s)

/-- A gPTP message of a type goes to port `p`, to leave in the sync window (R279). -/
def State.sendGptp (s : State) (p type : Nat) : State := s.queueOn p (otherFrame GPTP_MARK 0 [BitVec.ofNat 8 type])

/-- PDELAY_EXCHANGE (R279): an UP ring port, in REQUAL too (R292), sends Pdelay_Req. -/
def execPdelayExchange (p : Fin 2) (s : State) : Out :=
  done (
    if s.portUp p.val then
      (s.setPort p.val { s.port p.val with pdelayOpen := true }).emit p.val (otherFrame GPTP_MARK 15 [2])
    else s)

/-- PDELAY_REQ_RX (R279): the port answers with Pdelay_Resp (3) and then Pdelay_Resp_Follow_Up (10), which stands on the wire
last. -/
def execPdelayReqRx (p : Fin 2) (s : State) : Out :=
  done (
    if s.portUp p.val then
      ((s.heardOn p.val).emit p.val (otherFrame GPTP_MARK 15 [3])).emit p.val (otherFrame GPTP_MARK 15 [10])
    else s)

/-- PDELAY_RESPONSE_RX (R279): with the departure and arrival times of request (t1, t2) and response (t3, t4), the link
delay is half the difference of the round trip, at the neighbour rate ratio, and the neighbour's residence; a delay outside
the field's 16 bits is not stated. Successive exchanges give the rate ratio. -/
def execPdelayResponseRx (p : Fin 2) (t1 t2 t3 t4 : BitVec 64) (s : State) : Out :=
  done (
    if s.portUp p.val && (s.port p.val).pdelayOpen then
      let u := s.heardOn p.val
      let x := u.port p.val
      let ratio := match x.pdelayLast with
        | some (a, b) => if a < t3.toNat ∧ b < t4.toNat then (t3.toNat - a, t4.toNat - b) else x.rateRatio
        | none => x.rateRatio
      let trip := ((t4.toNat : Int) - t1.toNat) * ratio.1 / (max 1 ratio.2 : Nat)
      let d := (trip - ((t3.toNat : Int) - t2.toNat)) / 2
      let v := u.setPort p.val { x with pdelayOpen := false, pdelayLast := some (t3.toNat, t4.toNat), rateRatio := ratio }
      if 0 ≤ d ∧ d < 65536 then v.setFld (LNK_PDELAY p.val) 0 16 d.toNat
      else
        let (f, w) := v.draw
        w.setFld (LNK_PDELAY p.val) 0 16 f
    else s)

/-- PDELAY_TIMEOUT (R291): kind 4 on the port's channel. -/
def execPdelayTimeout (p : Fin 2) (s : State) : Out :=
  done (
    if (s.port p.val).pdelayOpen then
      (s.setPort p.val { s.port p.val with pdelayOpen := false }).portError p.val 4 0
    else s)

/-! ### Announcements and BEAT frames (R280, R285, R299) -/

/-- An announcement on the wire. -/
def annBytes (a : Ann) : List Byte :=
  [BitVec.ofNat 8 a.kind, BitVec.ofNat 8 a.arg, 0, 0] ++ beBytes 4 a.tag ++ beBytes 8 a.beat

/-- The announcements of a BEAT payload. -/
def annsOf (pl : List Byte) : List Ann :=
  (List.range (fieldAt pl 0x16 1)).map (fun i =>
    { kind := fieldAt pl (32 + 16 * i) 1, arg := fieldAt pl (33 + 16 * i) 1, tag := fieldAt pl (36 + 16 * i) 4
      beat := fieldAt pl (40 + 16 * i) 8 })

/-- Every announcement of the lead whose beat is ahead (R299); boundaries that a former lead announced bind too (R264). -/
def State.announcements (s : State) : List Ann :=
  let n := s.beatNo
  let ldg := s.ldg.bounds.map (fun b => ({ kind := b.kind, arg := 0, tag := b.tag % 2 ^ 32, beat := b.beat } : Ann))
  let fw := (List.range 8).filterMap (fun k =>
    if s.bit (LNK_ANN_CTL k) 0 then
      some ({ kind := 3, arg := k, tag := (s.rg (LNK_ANN_TAG k)).toNat, beat := s.rg64 (LNK_ANN_BEAT_LO k) } : Ann)
    else none)
  let rate := (List.range 8).filterMap (fun k =>
    if s.cgOpen k && s.bit (CG_ARMED k) 0 then
      some ({ kind := 4, arg := s.fld BEAT_GEN_DEN 0 8, tag := (s.rg BEAT_GEN_NUM).toNat, beat := s.cgBeat k } : Ann)
    else none)
  (ldg ++ rate ++ fw).filter (fun a => decide (n < a.beat))

/-- LNK_PLANCRC (R286): the CRC-32 of the five live words, as little-endian bytes. -/
def State.planCrc (s : State) : Nat := crc32 ((List.range 5).flatMap (fun w => (leBytes 4 (s.lv (LNK_WIN w)).toNat).map (fun b => b.toNat)))

/-- The period that this lead's BEAT frames carry: the live values, or the last disciplined period of a lead by
failover (R51, R300). -/
def State.leadPeriod (s : State) : Nat × Nat :=
  match s.beat.forceGen, s.beat.period with
  | true, some q => q
  | _, _ => ((s.lv BEAT_GEN_NUM).toNat, s.lvFld BEAT_GEN_DEN 0 8)

/-- The payload of the lead's BEAT frame that leaves port `p`. -/
def State.beatPayload (s : State) (p : Nat) : List Byte :=
  let a := s.announcements
  let q := s.leadPeriod
  beBytes 8 s.beatNo ++ beBytes 8 s.ownEdge.toNat ++ beBytes 4 q.1 ++ beBytes 1 q.2 ++
    [BitVec.ofNat 8 p, BitVec.ofNat 8 a.length, BitVec.ofNat 8 s.ownId] ++ beBytes 4 s.planCrc ++
    beBytes 4 s.ldg.nv.term ++ a.flatMap annBytes

/-- BEAT_FRAME_SEND (R280): the lead sends Sync, Follow_Up and BEAT on every UP ring port, with HOPS 0. -/
def execBeatFrameSend (s : State) : Out :=
  done (
    if s.leads then
      [0, 1].foldl (fun t p =>
        if t.portUp p then
          let f : LinkFrame :=
            { gen := t.ownGen, type := 1, dst := 0xFF, src := t.ownId, hops := 0, win := 0, beat := 0, hseq := none
              inPort := none, payload := t.beatPayload p }
          ((t.sendGptp p 0).sendGptp p 8).queueOn p f
        else t) (s.setLnk { s.lnk with beatSent := (s.beatPayload 0).take 16 })
    else s)

/-- BEAT_RELAY (R280): Sync, Follow_Up and BEAT go out of the other ring port, with HOPS + 1. -/
def execBeatRelay (s : State) : Out :=
  done (
    match s.lnk.relay with
    | none => s
    | some (p, f) =>
      let t := s.setLnk { s.lnk with relay := none }
      if t.portUp (1 - p) then ((t.sendGptp (1 - p) 0).sendGptp (1 - p) 8).queueOn (1 - p) f else t)

/-- Discovery has ended without the lead: edges are made again, as a follower in FREE (R50). -/
def State.endSilence (s : State) : State := { s with beat := { s.beat with silent := false } }

/-- Two leads hear each other (R294): CONFLICT; the device whose UID is higher than the other's, which HELLO tells, is
refused. -/
def State.leadConflict (s : State) : State :=
  let t := s.lnkEvt 14
  if t.lnk.otherLeads.any (fun u => decide (u < Config.dieUid.toNat)) then t.stopLeading A_REFUSED else t

/-! ### The follower (R52 to R54, R281, R300) -/

/-- The whole number of periods of `num / den` cycles (2.5 ns each) that brings a frame's edge nearest to `x` ns after
it; the earlier of two (R281). -/
def nearestEdge (x : Int) (num den : Nat) : Int := -((5 * (num : Int) - 4 * den * x) / (10 * num))

/-- The time of the edge `j` periods after a frame's edge. -/
def BeatFrame.edgeAt (b : BeatFrame) (j : Int) : Int := (b.edge : Int) + j * (5 * b.num) / (2 * b.den)

/-- Which manager edge, in periods after the frame's, the own last edge is measured against (R281). -/
def State.periodsOff (s : State) (b : BeatFrame) : Int :=
  if s.beat.numbered then (s.beatNo : Int) - b.m else nearestEdge (s.ownEdge - b.edge) b.num b.den

/-- The measured offset of the own last edge, in ns (R281). -/
def State.measured (s : State) (b : BeatFrame) : Int := s.ownEdge - b.edgeAt (s.periodsOff b)

/-- Place the next edge `n` cycles after the last one. -/
def State.placeEdge (s : State) (n : Nat) : State := { s with beat := { s.beat with len := some n } }

/-- A step (R53): the next edge is a manager edge still ahead, the later of those that give a beat of 0.5 to 1.5
periods, else the first ahead; the follower takes its number there (R54). -/
def State.stepEdge (s : State) (b : BeatFrame) : State :=
  let own := s.ownEdge
  let now : Int := s.rg64 LNK_TIME_LO
  let n : Int := 5 * b.num
  let d : Int := 2 * b.den
  let late := (2 * d * (own - b.edge) + 3 * n) / (2 * n)
  let first := (d * (now - b.edge)) / n + 1
  let j := if 0 ≤ late ∧ now < b.edgeAt late then late else max 0 first
  let t := (s.placeEdge (((b.edgeAt j - own) * 2 / 5).toNat)).setBit BEAT_EVT 4 true
  ({ t with beat := { t.beat with stepTo := some ((b.m : Int) + j).toNat } }).raise 5

/-- The lengths of the next beat that LOCK allows (R53, R55): those within 200 ppm of the period `p` at whose end the own edge,
now `offs` ns after the manager's, lies within 1 µs of the manager's next edge, `step` ns after the last one; where no length
within 200 ppm does, the one that comes nearest. -/
def lockRange (p : Nat) (offs step : Int) : Nat × Nat :=
  let lo := (p : Int) - p / 5000
  let hi := (p : Int) + p / 5000
  let near := -((2 * (offs - step) + 2000) / 5)
  let far := (2 * (step - offs) + 2000) / 5
  ((clampI lo hi near).toNat, (clampI lo hi far).toNat)

/-- A slew (R53): the next beat is changed toward the manager by at most 200 ppm; how much is the device's own, and in LOCK so much
that the next edge stays within 1 µs of the manager's (R55). `j` is how many periods after the frame's edge the last edge lay. -/
def State.slewEdge (s : State) (b : BeatFrame) (j offs : Int) : State :=
  let (f, t) := s.draw
  let p := b.num / max 1 b.den
  if s.beatState = B_LOCK then
    let r := lockRange p offs (b.edgeAt (j + 1) - b.edgeAt j)
    t.placeEdge (r.1 + f % (r.2 - r.1 + 1))
  else
    let want := (if offs < 0 then -offs else offs).toNat * 2 / 5
    let d := min want (f % (p / 5000 + 1))
    t.placeEdge (if 0 < offs then p - d else p + d)

/-- What the follower keeps of a frame, and the check of a provisional rate (R300). -/
def State.keepFrame (s : State) (b : BeatFrame) : State :=
  let s1 := { s with
    beat := { s.beat with frame := some b, heard := true, noSync := 0, silent := false, period := some (b.num, b.den) } }
  match s.lnk.rateTaken with
  | none => s1
  | some (at_, n, d) =>
    let s2 := if at_ ≤ b.m then s1.setLnk { s1.lnk with rateTaken := none } else s1
    if at_ = b.m ∧ (n ≠ b.num ∨ d ≠ b.den) then s2.lnkEvt 7 else s2

/-- Steer by the offset measured with the first frame of a beat (R52, R53). -/
def State.steer (s : State) (b : BeatFrame) (offs : Int) : State :=
  let near := decide (-1000 ≤ offs ∧ offs ≤ 1000)
  let s1 := { s with beat := { s.beat with inTol := if near then s.beat.inTol + 1 else 0 } }
  let far := decide (100000 < offs) || decide (offs < -100000)
  let s2 := if s1.beatState == B_ACQUIRE && far then s1.stepEdge b else s1.slewEdge b (s1.periodsOff b) offs
  if s2.beatState == B_ACQUIRE && decide (8 ≤ s2.beat.inTol) then s2.toBeatState B_LOCK else s2

/-- A follower uses a BEAT frame of the lead it follows (R52, R53, R281, R300). -/
def State.follow (s : State) (b : BeatFrame) : State :=
  let s1 := s.keepFrame b
  let s2 := if s1.beatState == B_FREE || s1.beatState == B_HOLDOVER then s1.toBeatState B_ACQUIRE else s1
  let offs := s2.measured b
  let s3 := s2.setRg BEAT_OFFS (w32i (clampI (-2147483647) 2147483647 offs))
  if s.beat.heard then s3 else s3.steer b offs

/-- Received firmware announcements are shown in LNK_ANN (R299). -/
def State.showAnn (s : State) (anns : List Ann) (k : Nat) : State :=
  match anns.find? (fun a => a.kind == 3 && a.arg == k) with
  | none => s.setBit (LNK_ANN_CTL k) 0 false
  | some a =>
    let same := s.bit (LNK_ANN_CTL k) 0 && s.rg64 (LNK_ANN_BEAT_LO k) == a.beat && (s.rg (LNK_ANN_TAG k)).toNat == a.tag
    if same then s
    else (((s.setRg64 (LNK_ANN_BEAT_LO k) a.beat).setRg (LNK_ANN_TAG k) (w32 a.tag)).setBit (LNK_ANN_CTL k) 0 true).lnkEvt 7

/-- What a follower takes from a BEAT frame besides the time (R264, R286, R299). -/
def State.takeAnnouncements (s : State) (pl : List Byte) : State :=
  let anns := annsOf pl
  let heard := (anns.filter (fun a => a.kind == 1 || a.kind == 2)).map (fun a =>
    ({ kind := a.kind, beat := a.beat, tag := a.tag, time := 0, late := false, own := false } : Boundary))
  let kept := s.ldg.bounds.filter (fun b => !heard.any (fun h => h.kind == b.kind && h.beat == b.beat))
  let s1 := s.setLdg { s.ldg with bounds := kept ++ heard }
  let s2 := s1.setLnk { s1.lnk with anns := anns.filter (fun a => a.kind == 4) }
  let s3 := (List.range 8).foldl (fun t k => t.showAnn anns k) s2
  let crc := fieldAt pl 0x18 4
  let bad := crc != s3.planCrc
  let s4 := if bad && !s3.lnk.planBad then s3.lnkEvt 8 else s3
  (s4.setLnk { s4.lnk with planBad := bad }).setRg LNK_MPLANCRC (w32 crc)

/-- A BEAT frame of the lead that this device follows arrives on port `p` (R280, R281, R302, R303). -/
def State.useBeat (s : State) (p : Nat) (f : LinkFrame) : State :=
  let pl := f.payload
  let b : BeatFrame := { m := fieldAt pl 0 8, edge := fieldAt pl 8 8, num := fieldAt pl 16 4, den := max 1 (fieldAt pl 20 1) }
  let s1 := s.setLnk { s.lnk with
    relay := if f.hops < 63 then some (p, { f with hops := f.hops + 1, hseq := none, inPort := some p }) else none
    noBeat := 0, quorum := [] }
  (s1.setFld LNK_STAT 24 6 (min 63 (f.hops + 1))).follow b |>.takeAnnouncements pl

/-- A BEAT frame is received on port `p`. A lead's own frame that comes back around the ring is not used; it is known by its
M and EDGE, because two leads may have one ID (R293, R294). -/
def State.beatRx (s : State) (p : Nat) (f : LinkFrame) : State :=
  let pl := f.payload
  let term := fieldAt pl 28 4
  if pl.length < 32 + 16 * fieldAt pl 0x16 1 || pl.take 16 == s.lnk.beatSent then s
  else if s.leads && term == s.ldg.nv.term then s.leadConflict
  else if (s.leads && decide (term < s.ldg.nv.term)) || (!s.leads && s.lnk.hasLead && decide (term < s.lnk.leadTerm)) then s
  else
    let down := s.leads
    let s1 := if down then s.stopLeading A_WAIT else s
    let s2 := (s1.setLnk { s1.lnk with hasLead := true, leadTerm := term }).setLeadId (fieldAt pl 0x17 1)
    let s3 := if s2.adm = A_DISCOVER then (s2.setFld LNK_STAT 0 3 A_WAIT).endSilence else s2
    let s4 := s3.learnTerm term
    let s5 := s4.setPort p { s4.port p with beatHops := some f.hops, beatMport := fieldAt pl 21 1, beatNow := true }
    let s6 := (s5.setFld (LNK_PSTAT p) 16 6 f.hops).followTopology
    if down || s6.upstream != some p then s6 else s6.useBeat p f

/-- BEAT_FRAME_RX (R281). -/
def execBeatFrameRx (p : Fin 2) (f : Llp) (s : State) : Out :=
  let fr := frameOf f 1
  let r := s.receive p.val fr
  done (if r.deliver then r.st.beatRx p.val fr else r.st)

/-! ### HELLO (R294 to R297) -/

/-- Hops to the lead by the BEAT frame with MPORT `m` (R285). -/
def State.hopsBy (s : State) (m : Nat) : Nat :=
  [0, 1].foldl (fun h p =>
    match s.beatHopsOn p with
    | some k => if (s.port p).beatMport = m then min h (min 255 (k + 1)) else h
    | none => h) 255

/-- The HELLO payload. -/
def State.helloPayload (s : State) : List Byte :=
  let b := fun (x : Bool) (k : Nat) => if x then k else 0
  let flags := b (s.bit LNK_CFG 0) 1 + b (s.bit BOOT_STAT 11) 2 + b (s.bit BOOT_STAT 8) 4 + b s.lnk.obs 8 + b s.leads 16
  let hops := fun m => if s.leads then 255 else s.hopsBy m
  beBytes 8 Config.dieUid.toNat ++ beBytes 8 s.beatNo ++ beBytes 1 s.ownId ++ beBytes 1 flags ++
    beBytes 1 (s.fld BOOT_TUPLE 0 8) ++ beBytes 1 (s.fld BOOT_TUPLE 8 8) ++ beBytes 2 (s.fld BOOT_GNTVER 0 16) ++
    beBytes 2 0 ++ beBytes 4 (s.rg BOOT_APPVER).toNat ++ beBytes 4 s.ldg.nv.term ++ beBytes 1 (hops 0) ++
    beBytes 1 (hops 1) ++ beBytes 2 0

/-- HELLO_SEND (R294, R297, R302): outside windows on both ring ports until admission, a refused device among them; after it in
the bulk window, and in the sync window of a beat in which no BEAT frame has arrived. -/
def execHelloSend (s : State) : Out :=
  done (
    if s.adm = A_STOPPED then s
    else if s.adm = A_MEMBER ∨ s.adm = A_LEAD then
      s.sendFrame 2 0xFF (if s.adm = A_MEMBER ∧ s.beat.heard = false then 0 else 4) s.helloPayload
    else
      let f : LinkFrame :=
        { gen := s.ownGen, type := 2, dst := 0xFF, src := s.ownId, hops := 63, win := 15, beat := 0, hseq := none
          inPort := none, payload := s.helloPayload }
      [0, 1].foldl (fun t p => if t.portUp p then t.queueOn p f else t) s)

/-- The member entry of a device. -/
def State.member (s : State) (d : Nat) : Option Member := s.lnk.members.find? (fun m => m.id == d)

/-- Store a member entry. -/
def State.setMember (s : State) (m : Member) : State :=
  s.setLnk { s.lnk with members := s.lnk.members.filter (fun x => x.id != m.id) ++ [m] }

/-- Store an ADMIT to be sent. -/
def State.setAdmission (s : State) (a : Admission) : State :=
  s.setLnk { s.lnk with admissions := s.lnk.admissions.filter (fun x => !(x.id == a.id && x.uid == a.uid)) ++ [a] }

/-- The deputy's place follows the members (R255): a new deputy starts CATCHUP, and none is NONE. -/
def State.deputyChange (s : State) (old : Option Nat) : State :=
  let new := s.deputyId
  if new = old then s
  else
    let t := s.setLdg { s.ldg with catchup := none, confG := 0, sentRel := 0 }
    t.setMirror (if new.isSome then 1 else 0)

/-- A device is admitted, or re-admitted, with a result (R295, R297): source 195 for a change. An admitted deputy starts
CATCHUP (R255). -/
def State.takeMember (s : State) (d uid result : Nat) : State :=
  let old := s.deputyId
  let prev := s.member d
  let hops := match prev with
    | some m => (m.hopsA, m.hopsB)
    | none => (255, 255)
  let s1 := s.setMember { id := d, uid := uid, result := result, silent := 0, hopsA := hops.1, hopsB := hops.2 }
  let s2 := (s1.setMap LNK_ADMIT_LO d true).setMap LNK_OBS_LO d (result == 3 || result == 4)
  let s3 := if prev.map (fun m => m.result) = some result then s2 else s2.lnkEvt 3
  s3.deputyChange (if result = 2 then none else old)

/-- The result that the lead gives a HELLO (R295). -/
def State.helloResult (s : State) (f : LinkFrame) : Nat :=
  let pl := f.payload
  let uid := fieldAt pl 0 8
  let d := fieldAt pl 16 1 % 64
  let dup := d == s.ownId || s.lnk.members.any (fun m => (m.uid == uid && m.id != d) || (m.id == d && m.uid != uid))
  let obs := f.gen != s.ownGen || bitOf (w32 (fieldAt pl 17 1)) 3 ||
    !s.compatLists (fieldAt pl 18 1) (fieldAt pl 19 1) (fieldAt pl 20 2) f.gen
  if dup then 8
  else if d = 63 then 4
  else if obs then 3
  else if s.bit LNK_DEPUTY 31 && s.fld LNK_DEPUTY 0 6 == d then 2
  else 1

/-- The lead decides a HELLO (R295); a repeated one with the same result is only noted. -/
def State.decideHello (s : State) (f : LinkFrame) : State :=
  let uid := fieldAt f.payload 0 8
  let d := fieldAt f.payload 16 1 % 64
  let result := s.helloResult f
  let known := s.lnk.admissions.any (fun a => a.id == d && a.uid == uid && a.result == result)
  let s1 := s.setAdmission { id := d, uid := uid, result := result, fresh := true }
  if known then s1
  else
    let s2 := if result = 8 then s1.lnkEvt 4 else if result = 3 then s1.lnkEvt 5 else s1
    if result = 8 then s2 else s2.takeMember d uid result

/-- A HELLO of an admitted device tells the lead that it is heard, and its hops (R297). -/
def State.noteHello (s : State) (m : Member) (pl : List Byte) : State :=
  s.setMember { m with silent := 0, hopsA := fieldAt pl 32 1, hopsB := fieldAt pl 33 1 }

/-- A HELLO is received (R294, R295, R297, R302). The own HELLO may come back around the ring. A BEAT_COUNT of 0 reports
none (R285). -/
def State.helloRx (s : State) (f : LinkFrame) : State :=
  let pl := f.payload
  let uid := fieldAt pl 0 8
  let d := fieldAt pl 16 1 % 64
  let flags := w32 (fieldAt pl 17 1)
  if pl.length < 36 || (f.src == s.ownId && uid == Config.dieUid.toNat) then s
  else
    let k := s.lnk
    let s1 := s.setLnk { k with
      known := smPut k.known d uid
      reported := if s.adm = A_DISCOVER ∧ fieldAt pl 8 8 ≠ 0 then
        some (max (fieldAt pl 8 8) (k.reported.getD 0)) else k.reported
      otherLeads := if bitOf flags 4 && !k.otherLeads.contains uid then k.otherLeads ++ [uid] else k.otherLeads
      quorum := if s.beat.heard then k.quorum else smPut k.quorum d (k.noBeat + 1) }
    if s1.leads && !bitOf flags 1 then
      match s1.member d with
      | some m => if m.uid = uid ∧ f.win ≠ 15 then s1.noteHello m pl else s1.decideHello f
      | none => s1.decideHello f
    else s1

/-- HELLO_RX (R295). -/
def execHelloRx (p : Fin 2) (f : Llp) (s : State) : Out :=
  let fr := frameOf f 2
  let r := s.receive p.val fr
  done (if r.deliver then r.st.helloRx fr else r.st)

/-- DISCOVERY_END (R50, R294): the device leads; its first edge follows in the next cycle. -/
def execDiscoveryEnd (s : State) : Out :=
  done (
    if s.adm = A_DISCOVER ∧ s.bit LNK_CFG 0 then
      let n := match s.lnk.reported with
        | some r => max s.beatNo (64 + r)
        | none => s.beatNo
      let s1 := (((s.setRg64 BEAT_COUNT_LO (n % 2 ^ 64)).setFld LNK_STAT 0 3 A_LEAD).setFld LNK_STAT 24 6 0).toBeatState B_LEAD
      let s2 := (s1.setRole 1).setLeadId s1.ownId
      let s3 := { s2 with
        beat := { s2.beat with silent := false, len := some ((s2.rg BEAT_PHASE).toNat + 1) }
        lnk := { s2.lnk with members := [], hasLead := true, leadTerm := s2.ldg.nv.term } }
      s3.setMap LNK_ADMIT_LO s3.ownId true
    else s)

/-! ### ADMIT (R295, R296) -/

/-- The ADMIT payload. -/
def State.admitPayload (s : State) (a : Admission) : List Byte :=
  let last := match s.orgLast a.id with
    | some q => q % 2 ^ 48 + 2 ^ 63
    | none => 0
  beBytes 8 a.uid ++ beBytes 1 a.result ++ beBytes 1 s.ownId ++ beBytes 2 0 ++ beBytes 4 s.ldg.nv.term ++ beBytes 8 last ++
    beBytes 1 (s.fld BOOT_TUPLE 0 8) ++ beBytes 1 (s.fld BOOT_TUPLE 8 8) ++ beBytes 2 (s.fld BOOT_GNTVER 0 16) ++
    beBytes 4 (s.rg BOOT_APPVER).toNat

/-- ADMIT_SEND (R295): every ADMIT due goes out; one whose device sent no HELLO since the last time is dropped. -/
def execAdmitSend (s : State) : Out :=
  done (
    if s.leads then
      let due := s.lnk.admissions.filter (fun a => a.fresh)
      let t := due.foldl (fun u a => u.sendFrame 3 0xFF 0 (u.admitPayload a)) s
      t.setLnk { t.lnk with admissions := due.map (fun a => { a with fresh := false }) }
    else s)

/-- The device takes its admission (R296, R258). -/
def State.takeAdmit (s : State) (f : LinkFrame) : State :=
  let pl := f.payload
  let result := fieldAt pl 8 1
  let listed := s.compatLists (fieldAt pl 24 1) (fieldAt pl 25 1) (fieldAt pl 26 2) f.gen
  let role := match result with
    | 1 => 0
    | 2 => 2
    | 3 => 3
    | _ => 4
  if result = 8 then (s.setFld LNK_STAT 0 3 A_REFUSED).endSilence
  else if result = 0 ∨ 4 < result then s
  else if (result = 1 ∨ result = 2) ∧ !listed then
    ((s.setLnk { s.lnk with obs := true }).setFld LNK_STAT 0 3 A_WAIT).endSilence
  else
    let s1 := ((s.endSilence.setFld LNK_STAT 0 3 A_MEMBER).setRole role).setLeadId (fieldAt pl 9 1 % 64)
    let s2 := s1.setLnk { s1.lnk with obs := false }
    let last := fieldAt pl 16 8
    let s3 := s2.setLdg { s2.ldg with handed := 0 }
    if s3.ldg.nv.fresh && decide (2 ^ 63 ≤ last) then s3.setNv { s3.ldg.nv with base := last % 2 ^ 48 } else s3

/-- ADMIT_RX (R296): an ADMIT that names this device's UID. -/
def execAdmitRx (p : Fin 2) (f : Llp) (s : State) : Out :=
  let fr := frameOf f 3
  let r := s.receive p.val fr
  let t := r.st
  done (
    if r.deliver && decide (32 ≤ fr.payload.length) && fieldAt fr.payload 0 8 == Config.dieUid.toNat &&
        (t.adm == A_DISCOVER || t.adm == A_WAIT || t.adm == A_MEMBER || t.adm == A_REFUSED) then t.takeAdmit fr
    else t)

/-- A device leaves LNK_ADMIT (R297): source 195; a lost deputy leaves MIRROR NONE. -/
def State.dropMember (s : State) (d : Nat) : State :=
  if (s.member d).isSome then
    let old := s.deputyId
    let s1 := s.setLnk { s.lnk with
      members := s.lnk.members.filter (fun m => m.id != d), admissions := s.lnk.admissions.filter (fun a => a.id != d) }
    ((((s1.setMap LNK_ADMIT_LO d false).setMap LNK_OBS_LO d false).lnkEvt 3).deputyChange old)
  else s

/-- MEMBER_TIMEOUT (R297): an admitted device has not been heard for LNK_DEADB beats. -/
def execMemberTimeout (d : Fin 64) (s : State) : Out :=
  done (
    match s.member d.val with
    | some m => if s.leads ∧ (s.rg LNK_DEADB).toNat ≤ m.silent then s.dropMember d.val else s
    | none => s)

/-! ### TOPO (R276, R297) -/

/-- The lead's view of the vehicle from its members' hops: kind, N and entries. The vehicle is a RING when some member has
the BEAT of both sides and both ring ports are UP; N is then that member's hops together (log entry 17). -/
def State.leadTopo (s : State) : Nat × Nat × List TopoEntry :=
  let ring := if s.portUp 0 && s.portUp 1 then s.lnk.members.find? (fun m => m.hopsA != 255 && m.hopsB != 255) else none
  let n := match ring with
    | some m => m.hopsA + m.hopsB
    | none => s.lnk.members.length + 1
  let kind := if ring.isSome then T_RING else if s.portUp 0 || s.portUp 1 then T_LINE else T_ALONE
  let roleOf := fun (r : Nat) => match r with
    | 1 => 0
    | 2 => 2
    | 3 => 3
    | _ => 4
  let one := fun (m : Member) =>
    let a := if ring.isSome && m.hopsA == 255 && m.hopsB != 255 then n - m.hopsB else m.hopsA
    ({ id := m.id, role := roleOf m.result, pos := a, posb := m.hopsB } : TopoEntry)
  (kind, n, { id := s.ownId, role := 1, pos := 0, posb := 0 } :: s.lnk.members.map one)

/-- TOPO_SEND (R297). -/
def execTopoSend (s : State) : Out :=
  done (
    if s.leads then
      let (kind, n, l) := s.leadTopo
      let s1 := (s.setLnk { s.lnk with topoKind := kind, topoN := n, topo := l }).setTopology kind
      s1.sendFrame 4 0xFF 0 (beBytes 1 n ++ beBytes 1 kind ++ beBytes 2 0 ++
        l.flatMap (fun e => beBytes 1 e.id ++ beBytes 1 e.role ++ beBytes 1 e.pos ++ beBytes 1 e.posb))
    else s)

/-- A device takes coordinates and the admitted set from its lead's TOPO frame (R276). -/
def State.topoRx (s : State) (f : LinkFrame) : State :=
  let pl := f.payload
  let l := (List.range ((pl.length - 4) / 4)).map (fun i =>
    ({ id := fieldAt pl (4 + 4 * i) 1 % 64, role := fieldAt pl (5 + 4 * i) 1, pos := fieldAt pl (6 + 4 * i) 1
       posb := fieldAt pl (7 + 4 * i) 1 } : TopoEntry))
  let bits := fun (m : List TopoEntry) => m.foldl (fun n e => n ||| 2 ^ e.id) 0
  if pl.length < 4 || s.leads || f.src != s.leadId then s
  else
    let t := s.setLnk { s.lnk with topoKind := fieldAt pl 1 1, topoN := fieldAt pl 0 1, topo := l }
    (t.setRg64 LNK_ADMIT_LO (bits l)).setRg64 LNK_OBS_LO (bits (l.filter (fun e => e.role == 3 || e.role == 4)))

/-- TOPO_RX (R276). -/
def execTopoRx (p : Fin 2) (f : Llp) (s : State) : Out :=
  let fr := frameOf f 4
  let r := s.receive p.val fr
  done (if r.deliver then r.st.topoRx fr else r.st)

/-- LNK_STAT.HEALTHY (R278). -/
def State.healthy (s : State) : Bool :=
  (s.topology == T_LINE || s.topology == T_RING) &&
  (List.range 64).all (fun d => !s.admitted d || s.lnk.topo.any (fun e => e.id == d && (decide (e.pos ≤ 32) || decide (e.posb ≤ 32)))) &&
  (s.beatState == B_LOCK || s.beatState == B_LEAD)

/-! ### Windows (R287, R288, R291) -/

/-- Frames of window `w` that wait on the ring ports (R291). -/
def State.waitingIn (s : State) (w : Nat) : Nat := ((s.port 0).win w).waiting.length + ((s.port 1).win w).waiting.length

/-- Offer the frames held in the buffers of window `w` of port `p` again, in order; one that is not taken holds back the later ones
from its SRC to its DST (R290). -/
def State.offerHeld (s : State) (p w : Nat) (take : State → LinkFrame → Bool × State) : List LinkFrame → State
  | [] => s
  | f :: l =>
    let y := (s.port p).win w
    if !y.held.contains f || { y with held := y.held.takeWhile (fun h => h != f) }.behind f then State.offerHeld s p w take l
    else
      match take s f with
      | (false, t) => State.offerHeld t p w take l
      | (true, t) =>
        let z := (t.port p).win w
        State.offerHeld (t.setPort p ((t.port p).setWin w { z with held := z.held.erase f })) p w take l

/-- A held MSG that met a full ring is written once there is room (R310). -/
def State.msgAgain (s : State) (f : LinkFrame) : Bool × State :=
  if f.type != 9 || s.qrxFull then (false, s) else (true, s.qrxWrite 0 0 f.src f.came f.payload)

/-- Held LEDGER and MSG frames are offered again. -/
def State.offerAll (s : State) : State :=
  [0, 1].foldl (fun t p =>
    let u := t.offerHeld p 1 State.ledgerAgain ((t.port p).win 1).held
    u.offerHeld p 4 State.msgAgain ((u.port p).win 4).held) s

/-- FRAME_SEND (R287): the next frame of window `w` leaves port `p` if window, credit and time allow; window 0 stands for
the frames that need no credit, and port C sends those alone. -/
def execFrameSend (p : Fin 3) (w : Fin 5) (s : State) : Out :=
  done (
    if w.val = 0 then s.sendExempt p.val
    else if p.val = 2 then s
    else
      match s.canSend p.val w.val with
      | some f => s.sendHead p.val w.val f
      | none => s)

/-- CREDIT_SEND (R288). -/
def execCreditSend (p : Fin 2) (s : State) : Out := done (if s.adm = A_STOPPED then s else s.sendCredit p.val)

/-- CREDIT_RX (R288): the SRC of a CREDIT frame is shown as the neighbour. -/
def execCreditRx (p : Fin 2) (f : Llp) (s : State) : Out :=
  let fr := frameOf f 5
  let r := s.receive p.val fr
  done (
    if r.deliver && decide (32 ≤ fr.payload.length) then
      let t := r.st.creditRx p.val fr.payload
      (t.setFld (LNK_PSTAT p.val) 8 6 fr.src).setBit (LNK_PSTAT p.val) 15 true
    else r.st)

/-! ### Link commands (R293, R297, R298, R301, R304) -/

/-- START (R50, R275, R293, R294, R309): a ring port whose PHY reports link comes UP; the first START after a wake by the link is
the one that spreads it. -/
def State.lnkStart (s : State) : State :=
  let mgr := s.bit LNK_CFG 0
  let wake := s.lnk.woken && s.bit LNK_CFG 1
  let s1 := s.setLnk { LnkSt.init with ports := s.lnk.ports, bootReqs := s.lnk.bootReqs }
  let s2 := ((s1.setFld LNK_STAT 0 3 (if mgr then A_DISCOVER else A_WAIT)).portBring 0).portBring 1
  let s3 := if mgr then ({ s2 with beat := { s2.beat with silent := true } }).toBeatState B_FREE else s2
  if wake then
    let f : LinkFrame :=
      { gen := s3.ownGen, type := 13, dst := 0xFF, src := s3.ownId, hops := 63, win := 15, beat := 0, hseq := none
        inPort := none, payload := [] }
    (s3.queueOn 0 f).queueOn 1 f
  else s3

/-- STOP (R289): the ring ports go DOWN; a lead stops leading (log entry 17). -/
def State.lnkStop (s : State) : State :=
  let s1 := (s.portDown 0).portDown 1
  let s2 := if s1.leads then s1.stopLeading A_STOPPED else (s1.setFld LNK_STAT 0 3 A_STOPPED).setRole 0
  let s3 := (s2.setRg64 LNK_ADMIT_LO 0).setRg64 LNK_OBS_LO 0
  s3.endSilence.setTopology T_ALONE

/-- A write to LNK_CMD. -/
def State.writeLnkCmd (s : State) (v : Word) : State :=
  let mgr := s.bit LNK_CFG 0
  match fieldOf v 28 4 with
  | 1 => s.command lnkPort false (s.adm != A_STOPPED) (if mgr then s.ownId != 0 else s.ownId == 0) State.lnkStart
  | 2 => s.command lnkPort false (s.adm == A_STOPPED) false State.lnkStop
  | 3 => s.command lnkPort false (!s.leads) false (fun t => t.dropMember (fieldOf v 0 6))
  | _ => s

/-- LNK_START. -/
def execLnkStart (i : Initiator) (s : State) : Out := done (s.guardW i LNK_CMD 0x10000000 (fun t => t.writeLnkCmd 0x10000000))

/-- LNK_STOP. -/
def execLnkStop (i : Initiator) (s : State) : Out := done (s.guardW i LNK_CMD 0x20000000 (fun t => t.writeLnkCmd 0x20000000))

/-- FORGET (R297). -/
def execForget (i : Initiator) (d : Fin 64) (s : State) : Out :=
  let v := w32 (0x30000000 + d.val)
  done (s.guardW i LNK_CMD v (fun t => t.writeLnkCmd v))

/-- The deputy named in LNK_DEPUTY is re-admitted as DEPUTY, and a former deputy as WORKER (R298). -/
def State.applyDeputy (s : State) : State :=
  if s.leads then
    let want := fun (m : Member) => if s.bit LNK_DEPUTY 31 && s.fld LNK_DEPUTY 0 6 == m.id then 2 else 1
    let change := s.lnk.members.filter (fun m => (m.result == 1 || m.result == 2) && m.result != want m)
    change.foldl (fun t m =>
      (t.takeMember m.id m.uid (want m)).setAdmission { id := m.id, uid := m.uid, result := want m, fresh := true }) s
  else s

/-- A write to LNK_DEPUTY (R298). -/
def State.writeLnkDeputy (s : State) (v : Word) : State :=
  let d := fieldOf v 0 6
  s.command lnkPort false false (d == 0 || d == 63 || d == s.ownId) (fun t => (t.setRg LNK_DEPUTY (v &&& 0x8000003F)).applyDeputy)

/-- LNK_DEPUTY_WRITE. -/
def execLnkDeputyWrite (i : Initiator) (v : Word) (s : State) : Out :=
  done (s.guardW i LNK_DEPUTY v (fun t => t.writeLnkDeputy v))

/-- A write to LNK_ANN[k].CTL (R301): on a follower any write is rejected with STATE (R311). -/
def State.writeLnkAnn (s : State) (k : Nat) (v : Word) : State :=
  let en := bitOf v 0
  s.command lnkPort false (!s.leads) (en && decide (s.rg64 (LNK_ANN_BEAT_LO k) < s.beatNo + 4))
    (fun t => t.setRg (LNK_ANN_CTL k) (v &&& 1))

/-- A write to BEAT_HI or TAG of LNK_ANN[k]: plain on the lead, rejected with STATE on a follower (R311), with the pending word of
BEAT (R29). -/
def State.writeLnkAnnData (s : State) (i : Initiator) (a : Nat) (v : Word) : State :=
  match regAt a with
  | none => s
  | some (row, _, _) =>
    if !s.leads then
      let t := s.reject lnkPort ST_STATE
      if row.words = 2 then t.clearPending i a 2 else t
    else if row.words = 2 then s.commitWords i a row v
    else s.storeReg a row v

/-- LNK_ANN_WRITE. -/
def execLnkAnnWrite (i : Initiator) (k : Fin 8) (v : Word) (s : State) : Out :=
  done (s.guardW i (LNK_ANN_CTL k.val) v (fun t => t.writeLnkAnn k.val v))

/-- A write to LNK_BOOTCTL (R304). -/
def State.writeBootctl (s : State) (v : Word) : State :=
  let base := (s.rg LNK_BOOTBASE).toNat
  let inSram := decide (0x10000000 ≤ base ∧ base ≤ 0x10800000 ∧ base + (s.rg LNK_BOOTLEN).toNat ≤ 0x10800000)
  s.command lnkPort false false (bitOf v 0 && !inSram) (fun t => t.setRg LNK_BOOTCTL (v &&& 1))

/-- LNK_BOOTCTL_WRITE. -/
def execLnkBootctlWrite (i : Initiator) (v : Word) (s : State) : Out :=
  done (s.guardW i LNK_BOOTCTL v (fun t => t.writeBootctl v))

/-! ### Failover (R51, R257, R302) -/

/-- TAKEOVER (R302): at its edge the deputy takes the lead, if its term can advance (R257); at the last term it stays a
worker. Its LNK_DEPUTY takes effect from then on (R298). -/
def execTakeover (s : State) : Out :=
  let ids := (List.range 64).filter (fun d => s.admitted d)
  let heard := ids.filter (fun d => d == s.ownId || s.lnk.quorum.any (fun e => e.1 == d && decide (s.lnk.noBeat < e.2 + (s.rg LNK_FOTO).toNat)))
  done (
    if s.adm = A_MEMBER ∧ s.role = 2 ∧ (s.rg LNK_FOTO).toNat ≤ s.lnk.noBeat ∧ ids.length < 2 * heard.length then
      if s.ldg.nv.term = 0xFFFFFFFF then s.setRole 0
      else
        let lead := s.leadId
        let s1 := s.setNv { s.ldg.nv with term := s.ldg.nv.term + 1, tstart := s.ldg.nv.gseq + 1 }
        let s2 := (s1.ldgEvt 13).setLdg { (s1.ldgEvt 13).ldg with handed := 0 }
        let s3 := ((((s2.setFld LNK_STAT 0 3 A_LEAD).setFld LNK_STAT 24 6 0).setRole 1).toBeatState B_LEAD).setLeadId s2.ownId
        let mem := (s3.lnk.topo.filter (fun e => e.id != lead && e.id != s3.ownId)).map (fun e =>
          ({ id := e.id, uid := smGet (fun _ => 0) s3.lnk.known e.id
             result := if e.role = 3 then 3 else if e.role = 4 then 4 else 1, silent := 0, hopsA := 255, hopsB := 255 } : Member))
        let s4 := { s3 with
          beat := { s3.beat with forceGen := true }
          lnk := { s3.lnk with members := mem, admissions := [], hasLead := true, leadTerm := s3.ldg.nv.term, noBeat := 0 } }
        (((s4.setMap LNK_ADMIT_LO lead false).setMap LNK_OBS_LO lead false).lnkEvt 6).applyDeputy
    else s)

/-! ### Link boot (R304, R538) -/

/-- A BOOT payload. -/
def bootPayload (op st len offs uid : Nat) (d : List Byte) : List Byte :=
  beBytes 1 op ++ beBytes 1 st ++ beBytes 2 len ++ beBytes 4 offs ++ beBytes 8 uid ++ d

/-- The lead answers a boot REQ in its bulk window (R304). -/
def State.serveBoot (s : State) (f : LinkFrame) : State :=
  let pl := f.payload
  let len := fieldAt pl 2 2
  let offs := fieldAt pl 4 4
  let uid := fieldAt pl 8 8
  let s1 := if offs = 0 then s.lnkEvt 13 else s
  if !s1.bit LNK_BOOTCTL 0 then s1.sendFrame 11 f.src 4 (bootPayload 2 2 0 offs uid [])
  else if (s1.rg LNK_BOOTLEN).toNat < offs + len then s1.sendFrame 11 f.src 4 (bootPayload 2 1 0 offs uid [])
  else
    let (d, t) := s1.fabReadBytes .link ((s1.rg LNK_BOOTBASE).toNat + offs) len
    t.sendFrame 11 f.src 4 (bootPayload 2 0 len offs uid d)

/-- A boot REQ delivered here is served by the lead. -/
def State.bootReqRx (s : State) (f : LinkFrame) : State :=
  if s.leads && decide (16 ≤ f.payload.length) && fieldAt f.payload 0 1 == 1 then s.serveBoot f else s

/-- BOOT_REQ_RX (R304). -/
def execBootReqRx (p : Fin 2) (f : Llp) (s : State) : Out :=
  let r := s.receive p.val (frameOf f 11)
  done (if r.deliver then r.st.bootReqRx (frameOf f 11) else r.st)

/-- The staging area of a link boot (R538). -/
def stagingBase : Nat := 0x10400000
def stagingEnd : Nat := 0x107C0000

/-- Send a boot REQ, before admission outside windows (R287, R304). -/
def State.sendReq (s : State) (offs len : Nat) : State :=
  let f : LinkFrame :=
    { gen := s.ownGen, type := 11, dst := s.leadId, src := s.ownId, hops := 63, win := 15, beat := 0, hseq := none
      inPort := none, payload := bootPayload 1 0 len offs Config.dieUid.toNat [] }
  [0, 1].foldl (fun t p => if t.portUp p then t.queueOn p f else t) s

/-- A booting device stores boot DATA in the staging area; an answer ends its request (R304, R538). The request that
follows it is for the next 1,024 bytes. -/
def State.takeBoot (s : State) (pl : List Byte) : State :=
  let offs := fieldAt pl 4 4
  let len := fieldAt pl 2 2
  if !s.bit BOOT_STAT 11 || fieldAt pl 8 8 != Config.dieUid.toNat || !s.lnk.bootReqs.any (fun e => e.1 == offs) then s
  else
    let rest := s.lnk.bootReqs.filter (fun e => e.1 != offs)
    let s1 := s.setLnk { s.lnk with bootReqs := rest }
    if fieldAt pl 1 1 = 0 ∧ stagingBase + offs + len ≤ stagingEnd then
      let s2 := s1.fabWriteBytes .link (stagingBase + offs) ((pl.drop 16).take len)
      let next := rest.foldl (fun m e => max m (e.1 + e.2)) (offs + len)
      if stagingBase + next + 1024 ≤ stagingEnd then
        (s2.setLnk { s2.lnk with bootReqs := rest ++ [(next, 1024)] }).sendReq next 1024
      else s2
    else s1

/-- Boot DATA delivered here. -/
def State.bootDataRx (s : State) (f : LinkFrame) : State :=
  if decide (16 ≤ f.payload.length) && fieldAt f.payload 0 1 == 2 then s.takeBoot f.payload else s

/-- BOOT_DATA_RX (R304). -/
def execBootDataRx (p : Fin 2) (f : Llp) (s : State) : Out :=
  let r := s.receive p.val (frameOf f 11)
  done (if r.deliver then r.st.bootDataRx (frameOf f 11) else r.st)

/-- BOOT_REQ_RETRY (R304): every REQ unanswered after 10 ms is repeated. -/
def execBootReqRetry (s : State) : Out :=
  done (
    if s.bit BOOT_STAT 11 then s.lnk.bootReqs.foldl (fun t e => t.sendReq e.1 e.2) s else s)

/-! ### Wake (R309) -/

/-- WAKE_FRAME_RX (R277, R309): a WAKE frame for this device, or for all, requests a wake while it is in Park, where it is not
forwarded, or enters it; a link that runs forwards it as it does other frames. -/
def execWakeFrameRx (p : Fin 2) (f : Llp) (s : State) : Out :=
  let here := f.dst.toNat == s.ownId || f.dst == 0xFF
  let t := if s.powered then (s.receive p.val (frameOf f 13)).st else s
  done (
    if (s.pwr = .park ∨ s.pwr = .toPark) ∧ s.bit (LNK_PORT p.val) 2 ∧ here then
      t.setLnk { t.lnk with wakeAsked := true }
    else t)

end Sys2Proof.Machine
end

