-- ==== Sys2Proof/Machine/Raster.lean ====
section
/-! DEFINITION. The raster pipes (spec/11): composition of pixels from layers, buffer flips, and the beam sequencer. -/

namespace Sys2Proof.Machine

/-! ### Pipes -/

/-- The state of pipe `p` inside its frame. -/
def State.pipe (s : State) (p : Nat) : PipeSt := smGet (fun _ => PipeSt.blank) s.pipes p

/-- Store the state of pipe `p`. -/
def State.setPipe (s : State) (p : Nat) (x : PipeSt) : State :=
  { s with pipes := smSet (fun _ => PipeSt.blank) s.pipes p x }

/-- The base source number of pipe `p`. -/
def rasSource (p : Nat) : Nat := 224 + 12 * p

/-- A raster event: bit `k` with source P + `k` (RAS_EVT). -/
def State.rasEvt (s : State) (p k : Nat) : State := s.event (RAS_EVT p) k (rasSource p + k)

/-- The command port of pipe `p`. -/
def rasPort (p : Nat) : CmdPort :=
  { st := RAS_CMDST p, rejects := RAS_REJECT p, evt := some (RAS_EVT p, 0), src := some (rasSource p) }

/-- The active width and height, from the timing registers of the pipe's output (R312, R350). -/
def State.activeW (s : State) (p : Nat) : Nat :=
  match p with
  | 0 => s.lvFld OUT_A_HTIM0 0 13
  | 1 => s.lvFld OUT_B_HTIM0 0 13
  | _ => s.lvFld OUT_C_GEOM 0 10

def State.activeH (s : State) (p : Nat) : Nat :=
  match p with
  | 0 => s.lvFld OUT_A_VTIM0 0 13
  | 1 => s.lvFld OUT_B_VTIM0 0 13
  | _ => 2 * (8 * 2 ^ s.lvFld OUT_C_CTL 1 2)

/-- The layers of a pipe (R312): pipe C has BG0, BG1 and the sprites. -/
def layersOf (p : Nat) : List Nat := if p = 2 then [0, 1, 5] else [0, 1, 2, 3, 4, 5]

/-- The live enable of layer `l`. -/
def State.layerEnabled (s : State) (p l : Nat) : Bool :=
  if l < 4 then s.lvBit (BG_CTL p l) 0 else if l = 4 then s.lvBit (BM_CTL p) 0 else s.lvBit (SP_CTL p) 0

/-- LBUF_CFG.FILLING and FILLMODE. -/
def State.filling (s : State) (p l : Nat) : Bool := s.bit (LBUF_CFG p l) 24
def State.fillMode (s : State) (p l : Nat) : Nat := s.fld (LBUF_CFG p l) 8 2

/-! ### Fetches (R334) -/

/-- A layer fetch from SRAM: an error response makes its pixels transparent and counts. -/
def State.rasFetch (s : State) (p a : Nat) (z : Size) : Option Nat × State :=
  match s.fabRead .raster (a % 0x100000000) z with
  | (.ok v, t) => (some v, t)
  | (.err _, t) => (none, (t.count (RAS_FERRCNT p) 1).rasEvt p 11)

/-- A word of a pipe's local RAM (R324). -/
def State.lramWord (s : State) (p off : Nat) : Nat := s.peek (0x48000000 + 0x100000 * p + off) 4

/-- An ARGB8888 palette entry (R316, R324). -/
def State.palette (s : State) (p pal i : Nat) : Nat := s.lramWord p (0x400 * pal + 4 * i)

/-- An indexed pixel: value 0 is transparent (R316). -/
def State.indexed (s : State) (p pal entry value : Nat) : Option Nat :=
  if value = 0 then none else some (s.palette p pal entry)

/-- RGB565 widened to opaque ARGB8888 (R316, R317). -/
def rgb565 (v : Nat) : Nat :=
  let r := v / 2048 % 32
  let g := v / 32 % 64
  let b := v % 32
  0xFF000000 + (r * 8 + r / 4) * 65536 + (g * 4 + g / 16) * 256 + (b * 8 + b / 4)

/-! ### Layers -/

/-- A tile layer's geometry. -/
def State.tileSize (s : State) (p l : Nat) : Nat := if s.lvBit (BG_CTL p l) 1 then 16 else 8
def State.mapW (s : State) (p l : Nat) : Nat := 32 * 2 ^ s.lvFld (BG_CTL p l) 8 2
def State.mapH (s : State) (p l : Nat) : Nat := 32 * 2 ^ s.lvFld (BG_CTL p l) 10 2

/-- The map pixel (u, v) of a tile layer whose map lies at `base` (R318). -/
def State.tilePixel (s : State) (p l base u v : Nat) : Option Nat × State :=
  let ts := s.tileSize p l
  match s.rasFetch p (base + 4 * (v / ts * s.mapW p l + u / ts)) .word with
  | (none, t) => (none, t)
  | (some e, t) =>
    if e.testBit 24 then (none, t)
    else
      let px := if e.testBit 20 then ts - 1 - u % ts else u % ts
      let py := if e.testBit 21 then ts - 1 - v % ts else v % ts
      let pal := t.lvFld (BG_CTL p l) 3 2
      let n := py * ts + px
      let chr := (t.lv (BG_CHR p l)).toNat
      if t.lvBit (BG_CTL p l) 2 then
        match t.rasFetch p (chr + e % 4096 * (ts * ts) + n) .byte with
        | (none, t1) => (none, t1)
        | (some b, t1) => (t1.indexed p pal b b, t1)
      else
        match t.rasFetch p (chr + e % 4096 * (ts * ts / 2) + n / 2) .byte with
        | (none, t1) => (none, t1)
        | (some b, t1) =>
          let x := if n % 2 = 0 then b % 16 else b / 16
          (t1.indexed p pal (e / 65536 % 16 * 16 + x) x, t1)

/-- The affine fields of the live registers: DUX, DVX, DUY, DVY, ORGU, ORGV in their four words (R320). -/
def State.affineNow (s : State) (p : Nat) : List Word :=
  [s.lv (BG3_XFA p), s.lv (BG3_XFB p), s.lv (BG3_ORGU p), s.lv (BG3_ORGV p)]

/-- The map pixel that an affine layer samples at (x, y) (R320). -/
def affineAt (aff : List Word) (x y : Nat) : Int × Int :=
  let w := fun (k : Nat) => (aff.getD k 0).toNat
  let u := signed 32 (w 2) + signed 16 (w 0) * x + signed 16 (w 1) * y
  let v := signed 32 (w 3) + signed 16 (w 0 / 65536) * x + signed 16 (w 1 / 65536) * y
  (u / 4096, v / 4096)

/-- The pixel of tile layer `l` at (x, y), the layer showing the map at `base` (R318 to R320). -/
def State.mapPixel (s : State) (p l base x y : Nat) (aff : List Word) : Option Nat × State :=
  let mw := s.mapW p l * s.tileSize p l
  let mh := s.mapH p l * s.tileSize p l
  if l = 3 ∧ s.lvBit (BG_CTL p 3) 12 then
    let (u, v) := affineAt aff x y
    if s.lvBit (BG_CTL p 3) 13 then s.tilePixel p l base (u % mw).toNat (v % mh).toNat
    else if 0 ≤ u ∧ u < mw ∧ 0 ≤ v ∧ v < mh then s.tilePixel p l base u.toNat v.toNat
    else (none, s)
  else
    s.tilePixel p l base ((x + s.lvFld (BG_SCROLL p l) 0 16) % mw) ((y + s.lvFld (BG_SCROLL p l) 16 16) % mh)

/-- The pixel of tile layer `l` (R327 for a filling layer). -/
def State.bgPixel (s : State) (p l x y : Nat) (aff : List Word) : Option Nat × State :=
  let fill := (s.rg (LBUF_FILL p l)).toNat
  if s.filling p l then
    match s.fillMode p l with
    | 1 => (some fill, s)
    | 2 => s.mapPixel p l fill x y aff
    | _ => (none, s)
  else s.mapPixel p l (s.rg (LBUF_FRONT p l)).toNat x y aff

/-- A pixel of true-colour data: format 0 RGB565, 1 RGB888, 2 ARGB8888, at column `c` of the row at `row` (R317). -/
def State.truePixel (s : State) (p fmt row c : Nat) : Option Nat × State :=
  match fmt with
  | 0 =>
    match s.rasFetch p (row + 2 * c) .half with
    | (none, t) => (none, t)
    | (some v, t) => (some (rgb565 v), t)
  | 1 =>
    match s.rasFetch p (row + 3 * c) .byte with
    | (none, t) => (none, t)
    | (some b, t) =>
      match t.rasFetch p (row + 3 * c + 1) .byte with
      | (none, t1) => (none, t1)
      | (some g, t1) =>
        match t1.rasFetch p (row + 3 * c + 2) .byte with
        | (none, t2) => (none, t2)
        | (some r, t2) => (some (0xFF000000 + r * 65536 + g * 256 + b), t2)
  | _ => s.rasFetch p (row + 4 * c) .word

/-- The pixel of the bitmap layer (R321, R327). -/
def State.bmPixel (s : State) (p x y : Nat) : Option Nat × State :=
  let c : Int := x - signed 13 (s.lvFld (BM_POS p) 0 13)
  let r : Int := y - signed 13 (s.lvFld (BM_POS p) 16 13)
  let inside := decide (0 ≤ c) && decide (c ≤ s.lvFld (BM_SIZE p) 0 12) && decide (0 ≤ r) &&
    decide (r ≤ s.lvFld (BM_SIZE p) 16 12)
  if !inside then (none, s)
  else
    let at_ := fun (base : Nat) =>
      s.truePixel p (s.lvFld (BM_CTL p) 1 2) (base + r.toNat * (s.lvFld (BM_PITCH p) 4 12 * 16)) c.toNat
    let fill := (s.rg (LBUF_FILL p 4)).toNat
    if s.filling p 4 then
      match s.fillMode p 4 with
      | 1 => (some fill, s)
      | 2 => at_ fill
      | _ => (none, s)
    else at_ (s.rg (LBUF_FRONT p 4)).toNat

/-! ### Sprites (R322, R323) -/

/-- A sprite that covers a line: its index and attribute words. -/
structure Sprite where
  idx : Nat
  w0 : Word
  w1 : Word
  w2 : Word

/-- Left column and top line of a sprite, signed. -/
def Sprite.x (e : Sprite) : Int := signed 13 (fieldOf e.w0 0 13)
def Sprite.y (e : Sprite) : Int := signed 13 (fieldOf e.w0 16 13)

/-- Width and height. -/
def Sprite.w (e : Sprite) : Nat := 8 * (fieldOf e.w1 0 4 + 1)
def Sprite.h (e : Sprite) : Nat := 8 * (fieldOf e.w1 4 4 + 1)

/-- The bank of attributes the sprite plane reads, or none where it shows no sprites (R327). -/
def State.spriteBank (s : State) (p : Nat) : Option Nat :=
  if s.filling p 5 then
    if s.fillMode p 5 = 2 then some (s.fld (LBUF_FILL p 5) 0 1) else none
  else some (s.fld (LBUF_FRONT p 5) 0 1)

/-- The enabled sprites that cover line `y`, in index order. -/
def State.spritesOn (s : State) (p y : Nat) : List Sprite :=
  match s.spriteBank p with
  | none => []
  | some b =>
    if !s.lvBit (SP_CTL p) 0 then []
    else
      (List.range (if p = 2 then 64 else 256)).filterMap (fun i =>
        let at_ := fun (k : Nat) => w32 (s.lramWord p (0x1000 + 0x1000 * b + 16 * i + 4 * k))
        let e : Sprite := { idx := i, w0 := at_ 0, w1 := at_ 1, w2 := at_ 2 }
        if bitOf e.w0 31 && decide (e.y ≤ y) && decide ((y : Int) < e.y + e.h) then some e else none)

/-- The pixel of a sprite at (x, y), where the sprite covers it. -/
def State.spritePixel (s : State) (p : Nat) (e : Sprite) (x y : Nat) : Option Nat × State :=
  if (x : Int) < e.x ∨ e.x + e.w ≤ x then (none, s)
  else
    let cx := ((x : Int) - e.x).toNat
    let cy := ((y : Int) - e.y).toNat
    let px := if bitOf e.w1 10 then e.w - 1 - cx else cx
    let py := if bitOf e.w1 11 then e.h - 1 - cy else cy
    let data := fieldOf e.w2 4 28 * 16
    let pal := fieldOf e.w1 12 2
    match fieldOf e.w1 8 2 with
    | 0 =>
      let n := py * e.w + px
      match s.rasFetch p (data + n / 2) .byte with
      | (none, t) => (none, t)
      | (some b, t) =>
        let v := if n % 2 = 0 then b % 16 else b / 16
        (t.indexed p pal (fieldOf e.w1 16 4 * 16 + v) v, t)
    | 1 =>
      match s.rasFetch p (data + py * e.w + px) .byte with
      | (none, t) => (none, t)
      | (some b, t) => (t.indexed p pal b b, t)
    | 2 => s.truePixel p 0 (data + py * (2 * e.w)) px
    | _ => s.truePixel p 2 (data + py * (4 * e.w)) px

/-! ### Composition (R315, R316) -/

/-- A contribution to a pixel: its place (smaller lies in front), colour with pixel alpha, and layer alpha. -/
structure Contribution where
  key : Nat
  argb : Nat
  alpha : Nat

/-- Blend a contribution over the colour behind it. -/
def blend (d : Nat) (c : Contribution) : Nat :=
  let a := (c.argb / 0x1000000 * c.alpha + 127) / 255
  let ch := fun (k : Nat) => (a * (c.argb / k % 256) + (255 - a) * (d / k % 256) + 127) / 255
  ch 65536 * 65536 + ch 256 * 256 + ch 1

/-- A column lies in a CLIP register's range. -/
def State.inClip (s : State) (a x : Nat) : Bool := decide (s.lvFld a 0 11 ≤ x) && decide (x ≤ s.lvFld a 16 11)

/-- Contribution of one layer at (x, y), with its priority and alpha from its CTL register at `ctl`. -/
def contribution (order : Nat) (ctl : Word) (px : Option Nat) : List Contribution :=
  match px with
  | none => []
  | some v => [{ key := fieldOf ctl 5 3 * 1024 + order, argb := v, alpha := fieldOf ctl 24 8 }]

/-- The composed pixel (x, y): the contributions from back to front over RAS_BGCOL. -/
def State.composePixel (s : State) (p x y : Nat) (aff : List Word) (sprites : List Sprite) : Nat × State :=
  let tiles := (if p = 2 then [0, 1] else [0, 1, 2, 3]).foldl (fun (acc : List Contribution × State) l =>
    if acc.2.lvBit (BG_CTL p l) 0 && acc.2.inClip (BG_CLIP p l) x then
      let (v, t) := acc.2.bgPixel p l x y aff
      (acc.1 ++ contribution (256 + l) (t.lv (BG_CTL p l)) v, t)
    else acc) ([], s)
  let bm :=
    if p ≠ 2 ∧ tiles.2.lvBit (BM_CTL p) 0 ∧ tiles.2.inClip (BM_CLIP p) x then
      let (v, t) := tiles.2.bmPixel p x y
      (tiles.1 ++ contribution 260 (t.lv (BM_CTL p)) v, t)
    else tiles
  let all :=
    if bm.2.inClip (SP_CLIP p) x then
      sprites.foldl (fun (acc : List Contribution × State) e =>
        match acc.2.spritePixel p e x y with
        | (none, t) => (acc.1, t)
        | (some v, t) =>
          (acc.1 ++ [{ key := fieldOf e.w1 20 3 * 1024 + e.idx, argb := v, alpha := fieldOf e.w1 24 8 }], t)) bm
    else bm
  ((sortBy (fun (a b : Contribution) => decide (b.key ≤ a.key)) all.1).foldl blend (s.lvFld (RAS_BGCOL p) 0 24), all.2)

/-- The start of a line of `n` sprites: the layer takes its affine fields, and an overfull line counts (R320, R323). -/
def State.lineStarts (s : State) (p n : Nat) : State :=
  let t := s.setPipe p { s.pipe p with affine := s.affineNow p }
  if 64 < n then
    let u := t.count (RAS_SPOVFCNT p) 1
    if (u.pipe p).spov then u else (u.setPipe p { u.pipe p with spov := true }).rasEvt p 4
  else t

/-- The next pixel of the frame: composed while the pipe is enabled, else RAS_BGCOL (R313). -/
def State.composeNext (s : State) (p x y : Nat) (sprites : List Sprite) : State :=
  let (v, t) :=
    if s.rasEnabled p then
      let s1 := if x = 0 then s.lineStarts p sprites.length else s
      s1.composePixel p x y (s1.pipe p).affine (sprites.take 64)
    else (s.lvFld (RAS_BGCOL p) 0 24, s)
  t.setPipe p { t.pipe p with ahead := (t.pipe p).ahead ++ [v] }

/-- Compose the columns from `x` on of line `y`. -/
def State.composeSpan (s : State) (p y : Nat) (sprites : List Sprite) : Nat → Nat → State
  | _, 0 => s
  | x, n + 1 => State.composeSpan (s.composeNext p x y sprites) p y sprites (x + 1) n

/-- Compose until `n` pixels are ready from the start of the next line on, a line at a time. -/
def State.composeTo (s : State) (p n : Nat) : Nat → State
  | 0 => s
  | fuel + 1 =>
    let w := s.activeW p
    let have_ := (s.pipe p).ahead.length
    if n ≤ have_ ∨ w = 0 then s
    else
      let y := (s.pipe p).line + have_ / w
      let x := have_ % w
      State.composeTo (s.composeSpan p y (s.spritesOn p y) x (min (w - x) (n - have_))) p n fuel

/-- BSQ_STAT.STATE codes. -/
abbrev Q_OFF : Nat := 0
abbrev Q_RUN : Nat := 1
abbrev Q_WAIT : Nat := 2
abbrev Q_END : Nat := 3
abbrev Q_FAULT : Nat := 4

/-- BSQ_STAT.STATE. -/
def State.bsqState (s : State) (p : Nat) : Nat := s.fld (BSQ_STAT p) 0 3

/-- The beam list of this frame runs or waits: it does not while the pipe is disabled (R313), and what is left of the last
frame's list is abandoned at the edge (R329). -/
def State.listLive (s : State) (p : Nat) : Bool :=
  s.rasEnabled p && (s.pipe p).started && s.bit SYS_CLKEN (19 + p)

/-- How many pixels of the frame the beam list lets the composer finish (R332): up to the present position while the list
runs, up to the aim of a WAIT, and all when no list runs. The frame begins once what the last list wrote has been restored
(R329). -/
def State.composeLimit (s : State) (p : Nat) : Nat :=
  let w := s.activeW p
  let at_ := fun (q : Nat × Nat) => q.1 * w + min q.2 w
  let x := s.pipe p
  let all := s.activeH p * w
  if !s.rasEnabled p then all
  else if !x.started then (if x.saved.isEmpty then all else 0)
  else if s.bsqState p = Q_RUN then at_ x.pos
  else
    match s.bsqState p == Q_WAIT, x.aim with
    | true, some q => at_ q
    | _, _ => all

/-- Compose up to pixel `n` of the frame as far as the beam list and the clock gate allow; a disabled pipe delivers RAS_BGCOL
whether its clock runs or not (R13, R313). -/
def State.compose (s : State) (p n : Nat) : State :=
  let limit := min n (s.composeLimit p)
  let from0 := (s.pipe p).line * s.activeW p
  if s.bit SYS_CLKEN (19 + p) || !s.rasEnabled p then s.composeTo p (limit - from0) (s.activeH p + 1) else s

/-! ### Buffers (R325, R326) -/

/-- The bits of RAS_READY that a pipe has. -/
def layerMask (p : Nat) : Word := if p = 2 then 0x23 else 0x3F

/-- A write of READY bits (R325), from the fabric, a FLIP or a blitter LAYER. -/
def State.writeReady (s : State) (p : Nat) (v : Word) : State :=
  let bits := v &&& layerMask p
  let bad := (bitsSet bits 5).any (fun l => s.rg (LBUF_BACK p l) == 0)
  s.command (rasPort p) false false bad (fun t => t.setRg (RAS_READY p) (t.rg (RAS_READY p) ||| bits))

/-- A write to RAS_UNREADY (R325). -/
def State.writeUnready (s : State) (p : Nat) (v : Word) : State :=
  s.command (rasPort p) false false false (fun t => t.setRg (RAS_READY p) (t.rg (RAS_READY p) &&& ~~~(v &&& layerMask p)))

/-- A write to LBUF_BACK (R325): for the sprites only bit 0. -/
def State.writeBack (s : State) (p l : Nat) (v : Word) : State :=
  let a := v.toNat
  let bad := decide (l ≠ 5) && !decide (a % 16 = 0 ∧ 0x10000000 ≤ a ∧ a ≤ 0x107FFFFF)
  s.command (rasPort p) false (s.bit (RAS_READY p) l) bad
    (fun t => t.setRg (LBUF_BACK p l) (if l = 5 then v &&& 1 else v))

/-- RAS_READY_WRITE. -/
def execRasReadyWrite (i : Initiator) (p : Fin 3) (v : Word) (s : State) : Out :=
  done (s.guardW i (RAS_READY p.val) v (fun t => t.writeReady p.val v))

/-- RAS_UNREADY_WRITE. -/
def execRasUnreadyWrite (i : Initiator) (p : Fin 3) (v : Word) (s : State) : Out :=
  done (s.guardW i (RAS_UNREADY p.val) v (fun t => t.writeUnready p.val v))

/-- LBUF_BACK_WRITE. -/
def execLbufBackWrite (i : Initiator) (p : Fin 3) (l : Fin 6) (v : Word) (s : State) : Out :=
  done (s.guardW i (LBUF_BACK p.val l.val) v (fun t => t.writeBack p.val l.val v))

/-- Judge one layer at an edge (R326): it flips, or it holds and may begin to fill. The flipped and held layers are
shown in RAS_LSTAT. -/
def State.judgeLayer (s : State) (p l : Nat) : State :=
  let cfg := LBUF_CFG p l
  if s.bit (RAS_READY p) l then
    let s1 := (s.setRg (LBUF_FRONT p l) (s.rg (LBUF_BACK p l))).setBit (RAS_READY p) l false
    let s2 := (s1.setFld cfg 16 8 0).setBit cfg 24 false
    ((s2.setBit (RAS_LSTAT p) l true).setBit (RAS_LSTAT p) (8 + l) false).setBit (RAS_LSTAT p) (16 + l) false
  else
    let s1 := (s.setBit (RAS_LSTAT p) l false).setBit (RAS_LSTAT p) (8 + l) true
    if s1.rasEnabled p && s1.layerEnabled p l && s1.fld cfg 0 8 != 0 then
      let n := min 255 (s1.fld cfg 16 8 + 1)
      let s2 := s1.setFld cfg 16 8 n
      if n = s1.fld cfg 0 8 && !s1.bit cfg 24 then
        ((s2.setBit cfg 24 true).setBit (RAS_LSTAT p) (16 + l) true).rasEvt p 2
      else s2
    else s1

/-- The pipe at a beat edge (R326, R329): its layers are judged, and a new frame begins. -/
def State.rasEdge (s : State) (p : Nat) : State :=
  let flips := (layersOf p).any (fun l => s.bit (RAS_READY p) l)
  let s1 := (layersOf p).foldl (fun t l => t.judgeLayer p l) s
  let s2 := if flips then s1.rasEvt p 3 else s1
  let s3 := s2.setPipe p { s2.pipe p with line := 0, ahead := [], spov := false, under := false, started := false }
  s3.setRg (RAS_STAT p) 0x7FF

/-! ### Beam sequencer (R329 to R333) -/

/-- The list pointer, shown in BSQ_PC. -/
def State.setPtr (s : State) (p : Nat) (n : Int) : State :=
  (s.setPipe p { s.pipe p with ptr := n }).setFld (BSQ_PC p) 0 16 (n % 65536).toNat

/-- The list stops with a cause (R333): 1 OPCODE, 2 TARGET, 3 FETCH, 4 RUNAWAY. -/
def State.bsqFault (s : State) (p cause : Nat) : State :=
  ((s.setFld (BSQ_STAT p) 0 3 Q_FAULT).setFld (BSQ_STAT p) 4 4 cause).rasEvt p 6

/-- A word of the list at an offset. -/
def State.listWord (s : State) (p : Nat) (n : Int) : Word := w32 (s.lramWord p n.toNat)

/-- A place in the list RAM. -/
def inList (n : Int) : Bool := decide (0x4000 ≤ n ∧ n ≤ 0xFFFC)

/-- Words of an instruction, from its word 0; a reserved op has no number of words (R330). -/
def bsqWords (w : Word) : Option Nat :=
  match fieldOf w 28 4 with
  | 2 => some 2
  | 3 => some 3
  | n => if n < 8 then some 1 else none

/-- The sequencer executes its next instruction, if that has op `op` (8 stands for every reserved op) (R330, R333): the
fetch and the count of words are checked, the pointer moves past the instruction, and `act` does the rest, from the
offset of word 0 and that word. -/
def State.bsqExec (s : State) (p op : Nat) (act : State → Int → Word → State) : State :=
  let x := s.pipe p
  if s.bsqState p != Q_RUN || !s.listLive p then s
  else if !inList x.ptr then s.bsqFault p 3
  else
    let w := s.listWord p x.ptr
    let n := (bsqWords w).getD 1
    if min 8 (fieldOf w 28 4) ≠ op then s
    else if 0x10000 < x.ptr + 4 * n then s.bsqFault p 3
    else if 4096 < x.words + n then s.bsqFault p 4
    else
      let t := (s.setPipe p { x with words := x.words + n }).setPtr p (x.ptr + 4 * n)
      act t x.ptr w

/-- A fault found while the instruction at `at_` executes: BSQ_PC shows it. -/
def State.bsqFaultAt (s : State) (p cause : Nat) (at_ : Int) : State := (s.setPtr p at_).bsqFault p cause

/-- What RAS_STAT shows while line `y` is composed: nothing outside the active lines, and nothing of a disabled pipe (R313). -/
def State.rasAt (s : State) (p y : Nat) : State :=
  s.setRg (RAS_STAT p) (if s.rasEnabled p && decide (y < s.activeH p) then w32 (0x10000 + y) else 0x7FF)

/-- BSQ_FRAME_START (R329): once after each edge, when no copy of the pipe's domain runs. -/
def execBsqFrameStart (p : Fin 3) (s : State) : Out :=
  let q := p.val
  let copying := s.beat.copying.any (fun g => s.bit (CG_MEMBERS g) (q + 1))
  done (
    if (s.pipe q).started || copying then s
    else
      let s1 := (s.pipe q).saved.foldl (fun t e => t.setLv e.1 e.2) s
      let s2 := (List.range 8).foldl (fun t r => t.setRg (BSQ_B q r) 0) s1
      let s3 := s2.setPipe q { s2.pipe q with saved := [], pos := (0, 0), aim := none, words := 0, started := true }
      let s4 := (s3.setPtr q (s3.lvFld (BSQ_BASE q) 2 14 * 4 : Nat)).rasAt q (s3.pipe q).line
      let run := s4.lvBit (BSQ_CTL q) 0 && s4.rasEnabled q
      (s4.setFld (BSQ_STAT q) 0 3 (if run then Q_RUN else Q_OFF)).setFld (BSQ_STAT q) 4 4 0)

/-- BSQ_END (R330). -/
def execBsqEnd (p : Fin 3) (s : State) : Out :=
  done (s.bsqExec p.val 0 (fun t at_ _ => (t.setPtr p.val at_).setFld (BSQ_STAT p.val) 0 3 Q_END))

/-- The line a WAIT aims at, from its word 0 and the present line (R332). -/
def waitLine (w : Word) (y : Nat) : Option Nat :=
  let line := fieldOf w 15 11
  match fieldOf w 26 2 with
  | 0 => some line
  | 1 => some (y + line)
  | 2 => if line = 0 then none else some ((y / line + 1) * line)
  | _ => none

/-- BSQ_WAIT (R332). -/
def execBsqWait (p : Fin 3) (s : State) : Out :=
  done (s.bsqExec p.val 1 (fun t at_ w =>
    let x := t.pipe p.val
    let c := fieldOf w 0 11
    match waitLine w x.pos.1 with
    | none => t.bsqFaultAt p.val 1 at_
    | some l =>
      if t.activeH p.val ≤ l then (t.setPtr p.val at_).setFld (BSQ_STAT p.val) 0 3 Q_END
      else if l < x.pos.1 ∨ (l = x.pos.1 ∧ c ≤ x.pos.2) then t.setPipe p.val { x with words := 0 }
      else (t.setPipe p.val { x with aim := some (l, c) }).setFld (BSQ_STAT p.val) 0 3 Q_WAIT))

/-- BSQ_WAIT_RELEASE (R332): the composer has composed every pixel before the aim and stops there. -/
def execBsqWaitRelease (p : Fin 3) (s : State) : Out :=
  done (
    match s.bsqState p.val == Q_WAIT && s.listLive p.val, (s.pipe p.val).aim with
    | true, some q =>
      let t := s.compose p.val (s.composeLimit p.val)
      (t.setPipe p.val { t.pipe p.val with pos := q, aim := none, words := 0 }).setFld (BSQ_STAT p.val) 0 3 Q_RUN
    | _, _ => s)

/-- The pipe registers that MOVE may write (R331). -/
def moveTarget (p off : Nat) : Option (Nat × Word) :=
  let a := RAS_CTRL p + off
  if off = 4 ∨ (0x100 ≤ off ∧ off ≤ 0x1A4) then
    (regAt a).bind (fun r => if r.1.sh.isSome then some (a, w32 r.1.rw) else none)
  else none

/-- Write a MOVE or MMOVE target under a mask (R330, R331). A value with a reserved encoding changes nothing (R36). -/
def State.moveWrite (s : State) (p : Nat) (at_ : Int) (w mask v : Word) : State :=
  let off := fieldOf w 0 16
  let mix := fun (old : Word) => (old &&& ~~~mask) ||| (v &&& mask)
  match fieldOf w 16 2 with
  | 0 =>
    match moveTarget p off, regAt (RAS_CTRL p + off) with
    | some (a, rw), some (row, i, j) =>
      let n := mix (s.lv a)
      if badEncoding a row i j n then s
      else
        let x := s.pipe p
        let keep := if x.saved.any (fun e => e.1 == a) then x.saved else x.saved ++ [(a, s.lv a)]
        (s.setPipe p { x with saved := keep }).setLv a ((s.lv a &&& ~~~rw) ||| (n &&& rw))
    | _, _ => s.bsqFaultAt p 2 at_
  | 1 =>
    if off % 4 = 0 ∧ off ≤ 0x3FFC then
      s.poke (0x48000000 + 0x100000 * p + off) 4 (mix (w32 (s.lramWord p off))).toNat
    else s.bsqFaultAt p 2 at_
  | 2 =>
    if off < 32 then s.setRg (BSQ_B p (off / 4)) (mix (s.rg (BSQ_B p (off / 4)))) else s.bsqFaultAt p 2 at_
  | _ => s.bsqFaultAt p 2 at_

/-- BSQ_MOVE (R331). -/
def execBsqMove (p : Fin 3) (s : State) : Out :=
  done (s.bsqExec p.val 2 (fun t at_ w => t.moveWrite p.val at_ w 0xFFFFFFFF (t.listWord p.val (at_ + 4))))

/-- BSQ_MMOVE (R330). -/
def execBsqMmove (p : Fin 3) (s : State) : Out :=
  done (s.bsqExec p.val 3 (fun t at_ w =>
    t.moveWrite p.val at_ w (t.listWord p.val (at_ + 4)) (t.listWord p.val (at_ + 8))))

/-- A SKIPIF condition holds; none for a reserved one (R330). -/
def State.skipHolds (s : State) (p : Nat) (w : Word) : Option Bool :=
  let b := (s.rg (BSQ_B p (fieldOf w 21 3))).toNat
  let imm := fieldOf w 0 16
  let y := (s.pipe p).pos.1
  match fieldOf w 24 4 with
  | 0 => some (b == imm)
  | 1 => some (b != imm)
  | 2 => some (decide (b < imm))
  | 3 => some (decide (imm ≤ b))
  | 4 => some (decide (imm ≤ y))
  | 5 => some (decide (y < imm))
  | 6 => some (b.testBit (imm % 32))
  | 7 => some (!b.testBit (imm % 32))
  | 8 => some (s.bit (RAS_LSTAT p) (16 + imm % 8))
  | 9 => some (s.bit (RAS_LSTAT p) (8 + imm % 8))
  | _ => none

/-- BSQ_SKIPIF (R330): the instruction skipped goes with all its words; how many a reserved op has is not stated. -/
def execBsqSkipif (p : Fin 3) (s : State) : Out :=
  done (s.bsqExec p.val 4 (fun t at_ w =>
    match t.skipHolds p.val w with
    | none => t.bsqFaultAt p.val 1 at_
    | some false => t
    | some true =>
      let next := at_ + 4
      if !inList next then t
      else
        match bsqWords (t.listWord p.val next) with
        | some n => t.setPtr p.val (next + 4 * n)
        | none =>
          let (f, u) := t.draw
          u.setPtr p.val (next + 4 * (1 + f % 3 : Nat))))

/-- BSQ_LOOP (R330). -/
def execBsqLoop (p : Fin 3) (s : State) : Out :=
  done (s.bsqExec p.val 5 (fun t at_ w =>
    let r := fieldOf w 21 3
    let b := t.rg (BSQ_B p.val r) - 1
    let u := t.setRg (BSQ_B p.val r) b
    if b = 0 then u else u.setPtr p.val (at_ + 4 * signed 16 (fieldOf w 0 16))))

/-- BSQ_EVENT (R330). -/
def execBsqEvent (p : Fin 3) (s : State) : Out :=
  done (s.bsqExec p.val 6 (fun t _ w => t.raise (rasSource p.val + 7 + fieldOf w 0 2)))

/-- BSQ_FLIP (R330). -/
def execBsqFlip (p : Fin 3) (s : State) : Out :=
  done (s.bsqExec p.val 7 (fun t _ w => t.writeReady p.val (w &&& 0x3F)))

/-- BSQ_RESERVED_OP (R333). -/
def execBsqReservedOp (p : Fin 3) (s : State) : Out :=
  done (s.bsqExec p.val 8 (fun t at_ _ => t.bsqFaultAt p.val 1 at_))

end Sys2Proof.Machine
end

