-- ==== Sys2Proof/Machine/Blitter.lean ====
section
/-! DEFINITION. The blitter (spec/13): its ring, its commands and the rectangles they draw. -/

namespace Sys2Proof.Machine

/-! ### Commands (R367 to R369) -/

/-- The fields of a command. -/
structure BltCmd where
  op : Nat
  bpp : Nat
  fmt : Nat
  rop : Nat
  rot : Nat
  mh : Bool
  mv : Bool
  dst : Nat
  dpitch : Nat
  spitch : Nat
  w : Nat
  h : Nat
  src : Nat
  color : Nat
  px : Nat
  py : Nat
  zeros : Bool

/-- Read a command's words (R367). -/
def bltDecode (ws : List Word) : BltCmd :=
  let wd := fun (k : Nat) => ws.getD k 0
  let f := fun (k lo len : Nat) => fieldOf (wd k) lo len
  { op := f 0 0 8, bpp := f 0 8 2 + 1, fmt := f 0 8 2, rop := f 0 16 8, rot := f 0 24 2, mh := bitOf (wd 0) 26
    mv := bitOf (wd 0) 27, dst := (wd 1).toNat, dpitch := f 2 0 16, spitch := f 2 16 16, w := f 3 0 13, h := f 3 16 13
    src := (wd 4).toNat, color := (wd 5).toNat, px := f 6 0 3, py := f 6 8 3
    zeros := f 0 10 6 == 0 && f 0 28 4 == 0 && f 3 13 3 == 0 && f 3 29 3 == 0 && f 6 3 5 == 0 && f 6 11 21 == 0 }

/-- The operation reads the source, the destination, or the pattern (R369, R371). -/
def ropUses (rop bit : Nat) : Bool :=
  (List.range 8).any (fun k => rop.testBit k != rop.testBit (k ^^^ bit))
def BltCmd.usesS (c : BltCmd) : Bool := c.op == 2 || c.op == 4 || (c.op == 3 && ropUses c.rop 2)
def BltCmd.usesD (c : BltCmd) : Bool := c.op == 3 && ropUses c.rop 1
def BltCmd.usesP (c : BltCmd) : Bool := c.op == 3 && ropUses c.rop 4

/-- The destination's rows and row length in pixels (R368). -/
def BltCmd.swaps (c : BltCmd) : Bool := c.op == 4 && c.rot % 2 == 1
def BltCmd.dRows (c : BltCmd) : Nat := if c.swaps then c.w else c.h
def BltCmd.dCols (c : BltCmd) : Nat := if c.swaps then c.h else c.w

/-- The last byte of a span (R368), and a span inside SRAM. -/
def spanEnd (a pitch rows len : Nat) : Nat := a + (rows - 1) * pitch + len - 1
def spanInSram (a last : Nat) : Bool := decide (0x10000000 ≤ a ∧ last ≤ 0x107FFFFF)

/-- A drawing command is valid (R369). -/
def BltCmd.drawOk (c : BltCmd) : Bool :=
  let dLen := c.dCols * c.bpp
  let sLen := c.w * c.bpp
  let dEnd := spanEnd c.dst c.dpitch c.dRows dLen
  let sEnd := spanEnd c.src c.spitch c.h sLen
  let pitchOk := fun (p len : Nat) => p % 16 == 0 && decide (len ≤ p)
  let aligned := fun (a : Nat) => !(c.fmt == 1 || c.fmt == 3) || a % c.bpp == 0
  decide (1 ≤ c.w ∧ c.w ≤ 4096 ∧ 1 ≤ c.h ∧ c.h ≤ 4096) && pitchOk c.dpitch dLen && aligned c.dst &&
  spanInSram c.dst dEnd &&
  (!c.usesS || (pitchOk c.spitch sLen && aligned c.src && spanInSram c.src sEnd &&
    (c.op == 2 || decide (sEnd < c.dst ∨ dEnd < c.src)))) &&
  (!c.usesP || (aligned c.color && c.color % 16 == 0 && spanInSram c.color (c.color + 64 * c.bpp - 1))) &&
  !(c.op == 4 && c.fmt == 2)

/-- LAYER's pipe and layer exist (R369). -/
def BltCmd.layerOk (c : BltCmd) : Bool :=
  let l := c.rop % 8
  decide (c.rot < 3) && (layersOf c.rot).contains l

/-- A command is valid (R369). -/
def BltCmd.ok (c : BltCmd) : Bool :=
  c.zeros &&
  match c.op with
  | 0x00 => true
  | 0x01 => c.drawOk
  | 0x02 => c.drawOk
  | 0x03 => c.drawOk
  | 0x04 => c.drawOk
  | 0x10 => c.layerOk
  | 0x11 => true
  | 0x12 => true
  | _ => false

/-! ### Ring (R362 to R366) -/

/-- The blitter's command port. -/
def bltPort : CmdPort := { st := BLT_CMDST, rejects := BLT_REJECT, evt := some (BLT_EVT, 0), src := some 296 }

/-- A BLT event: bit `k` with source 296 + `k`. -/
def State.bltEvt (s : State) (k : Nat) : State := s.event BLT_EVT k (296 + k)

/-- Replace what the blitter holds. -/
def State.setBlt (s : State) (x : BltSt) : State := { s with blt := x }

/-- BLT_STAT.STATE codes. -/
abbrev L_OFFB : Nat := 0
abbrev L_RUNB : Nat := 1
abbrev L_HALTB : Nat := 2

/-- BLT_STAT.STATE. -/
def State.bltState (s : State) : Nat := s.fld BLT_STAT 0 2

/-- Slots of the ring, BLT_RD and BLT_WR. -/
def State.bltSlots (s : State) : Nat := 2 ^ s.fld BLT_RSIZE 0 4
def State.bltRd (s : State) : Nat := s.fld BLT_RD 0 12
def State.bltWr (s : State) : Nat := s.fld BLT_WR 0 12

/-- BLT_STAT.EMPTY follows RD = WR; source 299 when the ring becomes empty (R366). -/
def State.bltEmptied (s : State) : State :=
  let e := s.bltRd == s.bltWr
  let t := s.setBit BLT_STAT 3 e
  if e && !s.bit BLT_STAT 3 then t.bltEvt 3 else t

/-- The blitter halts (R379): ERR 1 FETCH, 2 READ, 3 WRITE, 4 CMD, 5 LAYER. -/
def State.bltHalt (s : State) (err kind addr : Nat) : State :=
  let t := ((s.setFld BLT_STAT 0 2 L_HALTB).setFld BLT_STAT 8 3 err).setFld BLT_STAT 12 4 kind
  (((t.setBit BLT_STAT 2 false).setRg BLT_ERRADDR (w32 addr)).setBlt { t.blt with cmd := none, ended := false, cut := false }).bltEvt 1

/-- Fetch the command at RD, if the blitter runs and the ring is not empty. A valid SYNC that becomes the
command at RD ends the batch (R369, R377). -/
def State.bltFetch (s : State) : State :=
  if s.bltState != L_RUNB || s.bltRd == s.bltWr then s
  else
    let a := (s.rg BLT_RBASE).toNat + 32 * s.bltRd
    match s.fabReadWords .blitter a 8 with
    | (_, some (k, e), t) => t.bltHalt 1 k.code e
    | (l, none, t) =>
      let ws := l.map w32
      let u := t.setBlt { t.blt with cmd := some ws, ended := false, cut := false, edge := false }
      let c := bltDecode ws
      if c.op = 0x12 ∧ c.ok then u.setBit BLT_STAT 4 false else u

/-- The ring lies wholly in SRAM. -/
def State.ringInSram (s : State) : Bool :=
  let b := (s.rg BLT_RBASE).toNat
  decide (0x10000000 ≤ b ∧ b + 32 * s.bltSlots ≤ 0x10800000)

/-- The command at RD has ended (R362, R366). -/
def State.bltEnd (s : State) : State :=
  match s.blt.cmd with
  | some ws =>
    let s1 := (s.setRg BLT_LASTTAG (ws.getD 7 0)).setRg BLT_DONECNT (s.rg BLT_DONECNT + 1)
    let s2 := (s1.setFld BLT_RD 0 12 ((s1.bltRd + 1) % s1.bltSlots)).setBlt { s1.blt with cmd := none, ended := false }
    (s2.setBit BLT_STAT 2 false).bltEmptied
  | none => s

/-- START. -/
def State.bltStart (s : State) : State :=
  let t := ((s.setFld BLT_STAT 0 2 L_RUNB).setFld BLT_STAT 8 3 0)
  t.bltFetch

/-- STOP: a command whose work is done ends first. -/
def State.bltStop (s : State) : State :=
  let t := if s.blt.ended then s.bltEnd else s
  ((t.setFld BLT_STAT 0 2 L_OFFB).setBit BLT_STAT 2 false).setBlt { t.blt with cmd := none, ended := false, cut := false }

/-- SKIP. -/
def State.bltSkip (s : State) : State := (s.setFld BLT_RD 0 12 ((s.bltRd + 1) % s.bltSlots)).bltEmptied

/-- A write to BLT_CTRL (R365). -/
def State.writeBltCtrl (s : State) (v : Word) : State :=
  let n := (bitsSet v 3).length
  if n = 0 then s
  else if bitOf v 0 then
    s.command bltPort (decide (1 < n)) (s.bltState == L_RUNB) (!s.ringInSram) State.bltStart
  else if bitOf v 1 then s.command bltPort (decide (1 < n)) (s.bltState != L_RUNB) false State.bltStop
  else s.command bltPort false (s.bltState != L_HALTB) false State.bltSkip

/-- BLT_START. -/
def execBltStart (i : Initiator) (s : State) : Out := done (s.guardW i BLT_CTRL 1 (fun t => t.writeBltCtrl 1))

/-- BLT_STOP. -/
def execBltStop (i : Initiator) (s : State) : Out := done (s.guardW i BLT_CTRL 2 (fun t => t.writeBltCtrl 2))

/-- BLT_SKIP. -/
def execBltSkip (i : Initiator) (s : State) : Out := done (s.guardW i BLT_CTRL 4 (fun t => t.writeBltCtrl 4))

/-- A write to BLT_RBASE or BLT_RSIZE, at `a` (R365). -/
def State.writeBltRing (s : State) (a : Nat) (v : Word) : State :=
  s.command bltPort false (s.bltState != L_OFFB) false (fun t =>
    let u := t.setRg a (if a = BLT_RBASE then v &&& 0xFFFFFFF0 else v &&& 0xF)
    ((u.setRg BLT_RD 0).setRg BLT_WR 0).bltEmptied)

/-- BLT_RING_CONFIG_WRITE: register 0 BLT_RBASE, 1 BLT_RSIZE. -/
def execBltRingConfigWrite (i : Initiator) (r : Fin 2) (v : Word) (s : State) : Out :=
  let a := if r.val = 0 then BLT_RBASE else BLT_RSIZE
  done (s.guardW i a v (fun t => t.writeBltRing a v))

/-- A write to BLT_WR (R363). -/
def State.writeBltWr (s : State) (v : Word) : State :=
  let m := s.bltSlots
  let n := fieldOf v 0 12
  let bad := decide ((s.bltRd + m - s.bltWr % m - 1) % m < (n + m - s.bltWr % m) % m)
  s.command bltPort false false bad (fun t =>
    let u := (t.setFld BLT_WR 0 12 (n % m)).bltEmptied
    if u.blt.cmd.isNone then u.bltFetch else u)

/-- BLT_WR_WRITE. -/
def execBltWrWrite (i : Initiator) (v : Word) (s : State) : Out := done (s.guardW i BLT_WR v (fun t => t.writeBltWr v))

/-! ### Execution (R369) -/

/-- The blitter takes up its command, if that has operation `op`: an invalid one halts it (R369). -/
def State.bltExec (s : State) (op : Nat) (act : State → BltCmd → State) : State :=
  match s.blt.cmd with
  | none => s
  | some ws =>
    let c := bltDecode ws
    if s.bltState != L_RUNB || s.blt.ended || s.blt.cut || s.bit BLT_STAT 2 || !s.bit SYS_CLKEN 1 || c.op ≠ op then s
    else if !c.ok then s.bltHalt 4 0 0
    else act s c

/-- The command's work is done. -/
def State.bltDone (s : State) : State := s.setBlt { s.blt with ended := true }

/-! ### Rectangles (R370 to R373) -/

/-- Read `n` rows of `len` bytes from `a`, `pitch` apart, up to the first error. -/
def State.readRows (s : State) (pitch len : Nat) : Nat → Nat → List (List Byte) × Option (ErrKind × Nat) × State
  | _, 0 => ([], none, s)
  | a, n + 1 =>
    match s.readRun .blitter a len with
    | (_, some e, t) => ([], some e, t)
    | (l, none, t) =>
      let (m, e, u) := State.readRows t pitch len (a + pitch) n
      (l :: m, e, u)

/-- The bursts of a row: at most 256 bytes each (R373). -/
def burstsOf : Nat → Nat → List Byte → List (Nat × List Byte)
  | 0, _, _ => []
  | fuel + 1, a, l => if l.isEmpty then [] else (a, l.take 256) :: burstsOf fuel (a + 256) (l.drop 256)

/-- Write bursts in order, up to the first error. -/
def State.writeBursts (s : State) : List (Nat × List Byte) → Option (ErrKind × Nat) × State
  | [] => (none, s)
  | (a, l) :: m =>
    match s.writeRun .blitter a l with
    | (some e, t) => (some e, t)
    | (none, t) => State.writeBursts t m

/-- A pixel of rows of bytes, as a number. -/
def pixelAt (rows : List (List Byte)) (bpp x y : Nat) : Nat := ofLe (((rows.getD y []).drop (x * bpp)).take bpp)

/-- The bits of a ternary raster operation (R371). -/
def rop3 (rop bits p s d : Nat) : Nat :=
  (List.range bits).foldl (fun v k =>
    let b := fun (n : Nat) => if n.testBit k then 1 else 0
    if rop.testBit (4 * b p + 2 * b s + b d) then v + 2 ^ k else v) 0

/-- The source pixel that XFORM puts at destination pixel (x, y) (R372). -/
def xformSource (c : BltCmd) (x y : Nat) : Nat × Nat :=
  let (xm, ym) := match c.rot with
    | 0 => (x, y)
    | 1 => (y, c.h - 1 - x)
    | 2 => (c.w - 1 - x, c.h - 1 - y)
    | _ => (c.w - 1 - y, x)
  (if c.mh then c.w - 1 - xm else xm, if c.mv then c.h - 1 - ym else ym)

/-- The value of destination pixel (x, y) (R370 to R372). -/
def BltCmd.pixel (c : BltCmd) (src dst pat : List (List Byte)) (x y : Nat) : Nat :=
  match c.op with
  | 1 => c.color
  | 2 => pixelAt src c.bpp x y
  | 3 =>
    rop3 c.rop (8 * c.bpp) (pixelAt pat c.bpp ((x + c.px) % 8) ((y + c.py) % 8)) (pixelAt src c.bpp x y) (pixelAt dst c.bpp x y)
  | _ =>
    let q := xformSource c x y
    pixelAt src c.bpp q.1 q.2

/-- The bytes of destination row `y`. -/
def BltCmd.row (c : BltCmd) (src dst pat : List (List Byte)) (y : Nat) : List Byte :=
  (List.range c.dCols).flatMap (fun x => leBytes c.bpp (c.pixel src dst pat x y))

/-- Read `n` rows of what a ROP3 uses, from row `y` on, up to the first error: of each row the source, then the destination. -/
def State.ropRows (s : State) (c : BltCmd) : Nat → Nat → List (List Byte × List Byte) × Option (ErrKind × Nat) × State
  | _, 0 => ([], none, s)
  | y, n + 1 =>
    let len := c.w * c.bpp
    let (src, e1, s1) := if c.usesS then s.readRun .blitter (c.src + y * c.spitch) len else ([], none, s)
    let (dst, e2, s2) := if c.usesD && e1.isNone then s1.readRun .blitter (c.dst + y * c.dpitch) len else ([], e1, s1)
    if e2.isSome then ([], e2, s2)
    else
      let (m, e, u) := State.ropRows s2 c (y + 1) n
      ((src, dst) :: m, e, u)

/-- Read what a command uses, or the first error: the rows of source, destination and pattern. A ROP3 reads its pattern first. -/
def State.bltReads (s : State) (c : BltCmd) :
    (List (List Byte) × List (List Byte) × List (List Byte)) × Option (ErrKind × Nat) × State :=
  if c.op = 3 then
    let (pat, e1, s1) := if c.usesP then s.readRows (8 * c.bpp) (8 * c.bpp) c.color 8 else ([], none, s)
    if e1.isSome then (([], [], pat), e1, s1)
    else
      let (l, e2, s2) := s1.ropRows c 0 c.h
      ((l.map Prod.fst, l.map Prod.snd, pat), e2, s2)
  else
    let (src, e, t) := if c.usesS then s.readRows c.spitch (c.w * c.bpp) c.src c.h else ([], none, s)
    ((src, [], []), e, t)

/-- The destination rows, from the first on, that can be written from the source, destination and pattern rows read. -/
def BltCmd.ready (c : BltCmd) (src dst pat : List (List Byte)) : Nat :=
  ((List.range c.dRows).takeWhile (fun y =>
    (!c.usesD || decide (y < dst.length)) && (!c.usesP || decide ((y + c.py) % 8 < pat.length)) &&
    (!c.usesS || (List.range c.dCols).all (fun x =>
      decide ((if c.op = 4 then (xformSource c x y).2 else y) < src.length))))).length

/-- Draw a rectangle. `cut` is the number of write bursts after which a STOP cuts the command short (R365). How many of the
leading bursts a read error finds written is not stated: a free number of those whose rows had been read (log entry 2). -/
def State.bltDraw (s : State) (c : BltCmd) (cut : Option Nat) : State :=
  let (q, e, t) := s.bltReads c
  let (src, dst, pat) := q
  let rows := if e.isSome then c.ready src dst pat else c.dRows
  let all := (List.range rows).flatMap (fun y => burstsOf (c.dCols * c.bpp) (c.dst + y * c.dpitch) (c.row src dst pat y))
  match e, cut with
  | some (k, a), _ =>
    let (f, u) := t.draw
    ((u.writeBursts (all.take (f % (all.length + 1)))).2).bltHalt 2 k.code a
  | none, some n =>
    match t.writeBursts (all.take n) with
    | (some (k, a), u) => u.bltHalt 3 k.code a
    | (none, u) => u.setBlt { u.blt with cut := true }
  | none, none =>
    match t.writeBursts all with
    | (some (k, a), u) => u.bltHalt 3 k.code a
    | (none, u) => u.bltDone

/-- BLT_NOP. -/
def execBltNop (s : State) : Out := done (s.bltExec 0x00 (fun t _ => t.bltDone))

/-- BLT_FILL (R370). -/
def execBltFill (cut : Option Nat) (s : State) : Out := done (s.bltExec 0x01 (fun t c => t.bltDraw c cut))

/-- BLT_COPY (R370). -/
def execBltCopy (cut : Option Nat) (s : State) : Out := done (s.bltExec 0x02 (fun t c => t.bltDraw c cut))

/-- BLT_ROP3 (R371). -/
def execBltRop3 (cut : Option Nat) (s : State) : Out := done (s.bltExec 0x03 (fun t c => t.bltDraw c cut))

/-- BLT_XFORM (R372). -/
def execBltXform (cut : Option Nat) (s : State) : Out := done (s.bltExec 0x04 (fun t c => t.bltDraw c cut))

/-- BLT_RESERVED_OP (R369). -/
def execBltReservedOp (s : State) : Out :=
  done (
    match s.blt.cmd with
    | none => s
    | some ws => 
      let op := (bltDecode ws).op
      if op ≤ 4 ∨ (0x10 ≤ op ∧ op ≤ 0x12) then s else s.bltExec op (fun t _ => t))

/-! ### LAYER, EVENT and SYNC (R374 to R378) -/

/-- BLT_LAYER (R375): the command waits for the layer's READY; a pipe whose clock is gated halts the blitter. -/
def execBltLayer (s : State) : Out :=
  done (s.bltExec 0x10 (fun t c =>
    if !t.bit SYS_CLKEN (19 + c.rot) then t.bltHalt 5 ErrKind.gated.code 0 else t.setBit BLT_STAT 2 true))

/-- The command that waits at RD has an operation. -/
def State.bltWaits (s : State) (op : Nat) : Option BltCmd :=
  match s.blt.cmd with
  | some ws => if s.bltState == L_RUNB && s.bit BLT_STAT 2 && !s.blt.ended && (bltDecode ws).op == op then some (bltDecode ws) else none
  | none => none

/-- BLT_LAYER_RELEASE (R375): READY is 0, so the layer takes the buffer; a rejection halts the blitter. -/
def execBltLayerRelease (s : State) : Out :=
  done (
    match s.bltWaits 0x10 with
    | none => s
    | some c =>
      let l := c.rop % 8
      if !s.bit SYS_CLKEN (19 + c.rot) then s.bltHalt 5 ErrKind.gated.code 0
      else if s.bit (RAS_READY c.rot) l then s
      else
        let t := s.writeBack c.rot l (w32 c.dst)
        if t.fld (RAS_CMDST c.rot) 0 4 ≠ 0 then t.bltHalt 5 0 0
        else
          let u := t.writeReady c.rot (bit32 l)
          (u.setBit BLT_STAT 2 false).bltDone)

/-- BLT_EVENT (R376). -/
def execBltEvent (s : State) : Out := done (s.bltExec 0x11 (fun t c => (t.bltEvt (4 + c.rop % 4)).bltDone))

/-- BLT_SYNC (R377): with BEAT = 0 nothing is waited for. -/
def execBltSync (s : State) : Out :=
  done (s.bltExec 0x12 (fun t c => if c.rop % 2 = 1 then t.setBit BLT_STAT 2 true else t.bltDone))

/-- BLT_SYNC_RELEASE (R377): a beat edge has come; the batch of that beat begins. -/
def execBltSyncRelease (s : State) : Out :=
  done (
    match s.bltWaits 0x12 with
    | none => s
    | some _ =>
      if s.blt.edge then
        let t := (s.setBit BLT_STAT 2 false).setBit BLT_STAT 4 true
        (t.setBlt { t.blt with overran := false, edge := false }).bltDone
      else s)

/-- The blitter at a beat edge: a SYNC with BEAT = 1 at RD has seen its edge (R377). -/
def State.bltEdge (s : State) : State :=
  match s.blt.cmd with
  | some ws =>
    let c := bltDecode ws
    if s.bltState == L_RUNB && c.op == 0x12 && c.rop % 2 == 1 && !s.blt.ended then s.setBlt { s.blt with edge := true } else s
  | none => s

/-- BLT_COMMAND_END (R362). -/
def execBltCommandEnd (s : State) : Out := done (if s.blt.ended && s.bltState == L_RUNB then s.bltEnd.bltFetch else s)

end Sys2Proof.Machine
end

