-- ==== Sys2Proof/Machine/Sound.lean ====
section
/-! DEFINITION. The sample arithmetic of the audio block (spec/14): blocks and the sample clock, voices, tone generators,
equalisers and limiters. -/

namespace Sys2Proof.Machine

/-- The audio block's command port. -/
def audPort : CmdPort := { st := AUD_CMDST, rejects := AUD_REJECT, evt := some (AUD_EVT, 0), src := some 352 }

/-- An AUD event: bit `k` with source 352 + `k`. -/
def State.audEvt (s : State) (k : Nat) : State := s.event AUD_EVT k (352 + k)

/-- Replace what the audio block holds. -/
def State.setAud (s : State) (x : AudSt) : State := { s with aud := x }

/-! ### Blocks (R382) -/

/-- The beat period in force: the live values on the lead, the period last taken on a follower. -/
def State.periodNow (s : State) : Nat × Nat :=
  let own := ((s.lv BEAT_GEN_NUM).toNat, s.lvFld BEAT_GEN_DEN 0 8)
  if s.bit BEAT_STAT 3 then own else s.beat.period.getD own

/-- S(b): the first sample of block `b`. -/
def State.blockStart (s : State) (b : Nat) : Nat := ceilDiv (3 * s.periodNow.1 * b) (25000 * s.periodNow.2)

/-- BLEN(b). -/
def State.blockLen (s : State) (b : Nat) : Nat := s.blockStart (b + 1) - s.blockStart b

/-- L = ceil(K) (R407). -/
def State.streamLag (s : State) : Nat := ceilDiv (3 * s.periodNow.1) (25000 * s.periodNow.2)

/-! ### Samples (R389) -/

/-- Saturation at ±2^(n − 1). -/
def satI (n : Nat) (x : Int) : Int := clampI (-(2 ^ (n - 1) : Nat)) ((2 ^ (n - 1) : Nat) - 1) x

/-- A sample times a signed Q15 gain. -/
def gainMul (x g : Int) : Int := divNear (x * g) 32768

/-- A 16-bit output slot. -/
def toSlot16 (x : Int) : Int := satI 16 (divNear x 256)

/-! ### Voices (R390 to R395) -/

/-- A voice's state besides its registers. -/
def State.voice (s : State) (v : Nat) : VoiceSt := smGet (fun _ => VoiceSt.blank) s.aud.voices v

/-- Store a voice's state; V_STAT shows POS and PEND. -/
def State.setVoice (s : State) (v : Nat) (x : VoiceSt) : State :=
  let t := s.setAud { s.aud with voices := smSet (fun _ => VoiceSt.blank) s.aud.voices v x }
  (t.setFld (V_STAT v) 8 24 (x.pos / 65536)).setBit (V_STAT v) 4 x.cmd.isSome

/-- V_STAT.STATE codes. -/
abbrev V_OFF : Nat := 0
abbrev V_ATTACK : Nat := 1
abbrev V_DECAY : Nat := 2
abbrev V_SUSTAIN : Nat := 3
abbrev V_RELEASE : Nat := 4

/-- V_STAT.STATE of a voice. -/
def State.vState (s : State) (v : Nat) : Nat := s.fld (V_STAT v) 0 3

/-- Enter a state. -/
def State.toVState (s : State) (v st : Nat) : State := s.setFld (V_STAT v) 0 3 st

/-- A voice ends (R391, R392): OFF with source 359. -/
def State.voiceEnd (s : State) (v : Nat) : State := (s.toVState v V_OFF).audEvt 7

/-- A failed fetch or a bad step index (R392, R395): OFF with source 359, V_STAT.ERR, source 361. -/
def State.voiceFail (s : State) (v : Nat) : State := ((s.voiceEnd v).setBit (V_STAT v) 6 true).audEvt 9

/-- SUS / 255 of a voice. -/
def State.susLevel (s : State) (v : Nat) : Frac := mkFrac (s.fld (V_ENV v) 24 8) 255

/-- The envelope of the present sample. -/
def State.envNow (s : State) (v : Nat) : Frac := if s.vState v = V_SUSTAIN then s.susLevel v else (s.voice v).env

/-- The envelope moves on by one sample (R392): 192 samples for each 4 ms unit. A stage lasts its time whatever its levels are,
and one of 0 ms a sample. -/
def State.envStep (s : State) (v : Nat) : State :=
  let x := s.voice v
  let n := fun (lo : Nat) => 192 * s.fld (V_ENV v) lo 8
  let k := x.stage + 1
  let lasted := fun (lo : Nat) => decide (n lo ≤ k)
  let part := fun (lo : Nat) => mkFrac 1 (n lo)
  let goTo := fun (e : Frac) => s.setVoice v { x with env := e, stage := k }
  let end_ := fun (e : Frac) => s.setVoice v { x with env := e, stage := 0 }
  let st := s.vState v
  if st = V_ATTACK then
    if lasted 0 then (end_ Frac.one).toVState v V_DECAY else goTo (Frac.one.min (x.env.add (part 0)))
  else if st = V_DECAY then
    let sus := s.susLevel v
    if lasted 8 then (end_ sus).toVState v V_SUSTAIN
    else goTo (sus.max (x.env.sub ((Frac.one.sub sus).mul (part 8))))
  else if st = V_RELEASE then
    if lasted 16 then (end_ Frac.zero).voiceEnd v else goTo (Frac.zero.max (x.env.sub (x.rel.mul (part 16))))
  else s

/-- The position moves on by PITCH (R391), past the loop point or to the end. -/
def State.posStep (s : State) (v : Nat) : State :=
  let x := s.voice v
  let pos := x.pos + s.fld (V_PITCH v) 0 24
  let loopS := s.fld (V_LOOPS v) 0 24 * 65536
  let loopE := s.fld (V_LOOPE v) 0 24 * 65536
  if s.bit (V_CFG v) 2 then
    if loopE ≤ pos then
      s.setVoice v { x with pos := loopS + (pos - loopE) % max 1 (loopE - loopS), looped := true }
    else s.setVoice v { x with pos := pos }
  else
    let t := s.setVoice v { x with pos := pos }
    if s.fld (V_LEN v) 0 24 * 65536 ≤ pos then t.voiceEnd v else t

/-- The sample that tap `k` reads, if it reads one: taps run on across the loop point, and read silence outside the data. -/
def State.tapIndex (s : State) (v : Nat) (k : Int) : Option Nat :=
  let loopS : Int := s.fld (V_LOOPS v) 0 24
  let loopE : Int := s.fld (V_LOOPE v) 0 24
  if s.bit (V_CFG v) 2 && (decide (loopE ≤ k) || (s.voice v).looped && decide (k < loopS)) then
    some (loopS + (k - loopS) % max 1 (loopE - loopS)).toNat
  else if k < 0 ∨ (s.fld (V_LEN v) 0 24 : Int) ≤ k then none
  else some k.toNat

/-- The step table of IMA ADPCM. -/
def imaSteps : List Nat :=
  [7, 8, 9, 10, 11, 12, 13, 14, 16, 17, 19, 21, 23, 25, 28, 31, 34, 37, 41, 45, 50, 55, 60, 66, 73, 80, 88, 97, 107, 118] ++
  [130, 143, 157, 173, 190, 209, 230, 253, 279, 307, 337, 371, 408, 449, 494, 544, 598, 658, 724, 796, 876, 963, 1060] ++
  [1166, 1282, 1411, 1552, 1707, 1878, 2066, 2272, 2499, 2749, 3024, 3327, 3660, 4026, 4428, 4871, 5358, 5894, 6484] ++
  [7132, 7845, 8630, 9493, 10442, 11487, 12635, 13899, 15289, 16818, 18500, 20350, 22385, 24623, 27086, 29794, 32767]

/-- The index table of IMA ADPCM, by the low three bits of a code. -/
def imaIndex (c : Nat) : Int := match c % 8 with | 4 => 2 | 5 => 4 | 6 => 6 | 7 => 8 | _ => -1

/-- One 4-bit code: predictor and step index. -/
def imaStep (p : Int × Nat) (c : Nat) : Int × Nat :=
  let step := imaSteps.getD p.2 7
  let d := step / 8 + (if c / 4 % 2 = 1 then step else 0) + (if c / 2 % 2 = 1 then step / 2 else 0) +
    (if c % 2 = 1 then step / 4 else 0)
  let q := if c / 8 % 2 = 1 then p.1 - (d : Int) else p.1 + (d : Int)
  (clampI (-32768) 32767 q, (clampI 0 88 ((p.2 : Int) + imaIndex c)).toNat)

/-- Sample `off` of an ADPCM block from its bytes, header first (R390); none for a step index above 88. -/
def imaSample (bytes : List Byte) (off : Nat) : Option Int :=
  let idx := (bytes.getD 2 0).toNat
  if 88 < idx then none
  else
    let start : Int × Nat := (signed 16 (ofLe (bytes.take 2)), idx)
    let codes := (bytes.drop 4).flatMap (fun b => [b.toNat % 16, b.toNat / 16])
    some ((codes.take off).foldl imaStep start).1

/-- Fetch sample `n` of a voice, as a 24-bit sample (R389, R390). -/
def State.voiceFetch (s : State) (v n : Nat) : Option Int × State :=
  let a := (s.rg (V_START v)).toNat
  match s.fld (V_CFG v) 0 2 with
  | 0 =>
    match s.fabRead .audio (a + n) .byte with
    | (.ok w, t) => (some (signed 8 w * 65536), t)
    | (.err _, t) => (none, t)
  | 1 =>
    match s.fabRead .audio (a + 2 * n) .half with
    | (.ok w, t) => (some (signed 16 w * 256), t)
    | (.err _, t) => (none, t)
  | _ =>
    let blk := 256 * 2 ^ s.fld (V_CFG v) 4 2
    let per := 2 * (blk - 4) + 1
    match s.readRun .audio (a + n / per * blk) (4 + (n % per + 1) / 2) with
    | (_, some _, t) => (none, t)
    | (l, none, t) => ((imaSample l (n % per)).map (fun x => x * 256), t)

/-- The samples of the taps, each fetched once in a group; none when a fetch fails. -/
def State.tapsFrom (s : State) (v : Nat) : List (Nat × Int) → List Int → Option (List Int) × List (Nat × Int) × State
  | got, [] => (some [], got, s)
  | got, k :: l =>
    match s.tapIndex v k with
    | none =>
      let (r, g, t) := State.tapsFrom s v got l
      (r.map (fun m => 0 :: m), g, t)
    | some n =>
      match got.find? (fun e => e.1 == n) with
      | some e =>
        let (r, g, t) := State.tapsFrom s v got l
        (r.map (fun m => e.2 :: m), g, t)
      | none =>
        match s.voiceFetch v n with
        | (none, t) => (none, got, t)
        | (some x, t) =>
          let (r, g, u) := State.tapsFrom t v ((n, x) :: got) l
          (r.map (fun m => x :: m), g, u)

/-- The pending command of a voice acts (R393). KEYOFF finds a voice that has ended in the meantime as it is. -/
def State.voiceAct (s : State) (v : Nat) : State :=
  let x := s.voice v
  match x.cmd with
  | none => s
  | some c =>
    if c.op = 1 then
      (s.setVoice v VoiceSt.blank).toVState v V_ATTACK
    else if c.op = 2 then
      if s.vState v = V_OFF ∨ s.vState v = V_RELEASE then s.setVoice v { x with cmd := none }
      else (s.setVoice v { x with env := s.envNow v, rel := s.envNow v, stage := 0, cmd := none }).toVState v V_RELEASE
    else (s.setVoice v { x with cmd := none }).toVState v V_OFF

/-- The interpolated sample at a position (R391): its fraction selects one of the filter's 256 phases (log entry 20). -/
def interpolate (pos : Nat) (taps : List Int) : BitVec 24 := Config.interp (Fin.ofNat 256 (pos / 256)) taps

/-- Samples `k`, `k + 1`, … of the group for a voice, the first `n` of them: a command due at a sample acts first. -/
def State.voiceRun (s : State) (v blk base : Nat) : Nat → Nat → List (Nat × Int) → List Int × State
  | 0, _, _ => ([], s)
  | n + 1, k, got =>
    let s0 := match (s.voice v).cmd with
      | some c => if c.due == some (blk, base + k) then s.voiceAct v else s
      | none => s
    if s0.vState v = V_OFF then
      let (l, t) := State.voiceRun s0 v blk base n (k + 1) got
      (0 :: l, t)
    else
      let x := s0.voice v
      let at_ : Int := x.pos / 65536
      match s0.tapsFrom v got ((List.range 8).map (fun j => at_ - 3 + j)) with
      | (none, g, t) =>
        let (l, u) := State.voiceRun (t.voiceFail v) v blk base n (k + 1) g
        (0 :: l, u)
      | (some taps, g, t) =>
        let e := s0.envNow v
        let y := divNear ((interpolate x.pos taps).toInt * e.num * (s0.fld (V_VOL v) 0 15 : Int)) (e.den * 32768)
        let t1 := t.envStep v
        let t2 := if t1.vState v = V_OFF then t1 else t1.posStep v
        let (l, u) := State.voiceRun t2 v blk base n (k + 1) g
        (y :: l, u)

/-- A voice's position and envelope move on by `n` samples that are not rendered (R387). -/
def State.voiceSkip (s : State) (v : Nat) : Nat → State
  | 0 => s
  | n + 1 =>
    if s.vState v = V_OFF then s
    else
      let t1 := s.envStep v
      State.voiceSkip (if t1.vState v = V_OFF then t1 else t1.posStep v) v n

/-! ### Tone generators (R396) -/

/-- Triangle of amplitude 2^15 and period 2^24, from 0 upwards. -/
def triangle (ph : Nat) : Int :=
  let x : Int := ph
  if ph < 0x400000 then x / 128 else if ph < 0xC00000 then 65536 - x / 128 else x / 128 - 131072

/-- 32,768 × sin(2πi / 1,024) for the first quarter of a period, rounded down. -/
def sineQuarter : List Nat :=
  [0, 201, 402, 603, 804, 1005, 1206, 1407, 1607, 1808, 2009, 2210, 2410, 2611, 2811, 3011, 3211, 3411, 3611, 3811] ++
  [4011, 4210, 4409, 4609, 4808, 5006, 5205, 5403, 5602, 5800, 5997, 6195, 6392, 6589, 6786, 6983, 7179, 7375, 7571, 7766] ++
  [7961, 8156, 8351, 8545, 8739, 8933, 9126, 9319, 9512, 9704, 9896, 10087, 10278, 10469, 10659, 10849, 11039, 11228, 11416, 11605] ++
  [11793, 11980, 12167, 12353, 12539, 12725, 12910, 13094, 13278, 13462, 13645, 13828, 14010, 14191, 14372, 14552, 14732, 14912, 15090, 15269] ++
  [15446, 15623, 15800, 15976, 16151, 16325, 16499, 16673, 16846, 17018, 17189, 17360, 17530, 17700, 17869, 18037, 18204, 18371, 18537, 18703] ++
  [18868, 19032, 19195, 19358, 19519, 19681, 19841, 20001, 20159, 20318, 20475, 20631, 20787, 20942, 21097, 21250, 21403, 21555, 21706, 21856] ++
  [22005, 22154, 22301, 22448, 22594, 22740, 22884, 23027, 23170, 23312, 23453, 23593, 23732, 23870, 24007, 24144, 24279, 24414, 24547, 24680] ++
  [24812, 24943, 25073, 25201, 25330, 25457, 25583, 25708, 25832, 25955, 26077, 26199, 26319, 26438, 26557, 26674, 26790, 26905, 27020, 27133] ++
  [27245, 27356, 27466, 27576, 27684, 27791, 27897, 28002, 28106, 28208, 28310, 28411, 28511, 28609, 28707, 28803, 28898, 28993, 29086, 29178] ++
  [29269, 29359, 29447, 29535, 29621, 29707, 29791, 29874, 29956, 30037, 30117, 30196, 30273, 30350, 30425, 30499, 30572, 30644, 30714, 30784] ++
  [30852, 30919, 30985, 31050, 31114, 31176, 31237, 31298, 31357, 31414, 31471, 31526, 31581, 31634, 31685, 31736, 31785, 31834, 31881, 31927] ++
  [31971, 32015, 32057, 32098, 32138, 32176, 32214, 32250, 32285, 32319, 32351, 32383, 32413, 32442, 32469, 32496, 32521, 32545, 32568, 32589] ++
  [32610, 32629, 32647, 32663, 32679, 32693, 32706, 32718, 32728, 32737, 32745, 32752, 32758, 32762, 32765, 32767, 32768]

/-- The magnitude of entry `i` of the first half of the sine table: entries 0 and 256 are exact, the others rounded either way. -/
def sineMag (i : Nat) : Nat :=
  let j := if i ≤ 256 then i else 512 - i
  sineQuarter.getD j 0 + (if j ≠ 0 ∧ j ≠ 256 ∧ Config.sineUp i = true then 1 else 0)

/-- Entry `i` of the 1,024-entry sine table, of full scale 2^15 (R396). -/
def sineTable (i : Nat) : Int := if i < 512 then sineMag i else -(sineMag (i - 512) : Nat)

/-- A waveform's value at a phase, of full scale 2^15. -/
def waveAt (wave ph lfsr : Nat) : Int :=
  let p := (ph + Config.wavePhase wave) % 0x1000000
  match wave with
  | 0 => if p < 0x800000 then 32768 else -32768
  | 1 => triangle p
  | 2 =>
    let i := p / 16384
    let a := sineTable i
    let b := sineTable ((i + 1) % 1024)
    a + divNear ((b - a) * (p % 16384 : Nat)) 16384
  | _ => if Config.noiseSign lfsr then -32768 else 32768

/-- The noise register is clocked: taps 23 and 18. -/
def lfsrStep (x : Nat) : Nat := (2 * x + (x / 0x400000 + x / 0x20000) % 2) % 0x800000

/-- A sample of a tone generator of level `level`. What a LEVEL above full scale makes beyond the 24-bit range is open. -/
def toneSample (x : Int) (level : Nat) : Int :=
  let y := divNear (x * level) 128
  if satI 24 y = y then y else (Config.toneOver y).toInt

/-- `n` samples of a tone generator. -/
def toneRun (wave freq level : Nat) : Nat → ToneSt → List Int × ToneSt
  | 0, t => ([], t)
  | n + 1, t =>
    let y := toneSample (waveAt wave t.phase t.lfsr) level
    let ph := t.phase + freq
    let (l, u) := toneRun wave freq level n
      { t with phase := ph % 0x1000000, lfsr := if 0x1000000 ≤ ph then lfsrStep t.lfsr else t.lfsr }
    (y :: l, u)

/-- One group of tone generator `t`: enabling it starts the phase at 0. -/
def State.toneGroup (s : State) (t n : Nat) : List Int × State :=
  let x := smGet (fun _ => ToneSt.blank) s.aud.tones t
  let store := fun (y : ToneSt) => s.setAud { s.aud with tones := smSet (fun _ => ToneSt.blank) s.aud.tones t y }
  if s.lvBit (T_CTL t) 0 then
    let x0 := if x.on then x else { x with on := true, phase := 0 }
    let (l, y) := toneRun (s.lvFld (T_CTL t) 1 2) (s.lvFld (T_FREQ t) 0 24) (s.lvFld (T_LEVEL t) 0 16) n x0
    (l, store y)
  else (List.replicate n 0, store { x with on := false })

/-! ### Equaliser (R401) -/

/-- A number over 2^n, rounded to an integer: exact where it is one, else either way. -/
def eqRound (n : Nat) (x : Int) : Int :=
  x / (2 ^ n : Nat) + (if x % (2 ^ n : Nat) ≠ 0 ∧ Config.eqUp x = true then 1 else 0)

/-- A product with a Q4.28 coefficient as a 40-bit intermediate: 32 bits and 8 bits of fraction (log entry 20). -/
def eqTerm (c x : Int) : Int := eqRound 20 (c * x)

/-- The sum of a band's intermediates, held in 40 bits: one that does not fit is open. -/
def eqSum (l : List Int) : Int :=
  let x := l.foldl (fun a b => a + b) 0
  if satI 40 x = x then x else (Config.eqOver x).toInt

/-- One band over a group: coefficients B0, B1, B2, A1, A2. -/
def bandRun (b0 b1 b2 a1 a2 : Int) : BandSt → List Int → List Int × BandSt
  | z, [] => ([], z)
  | z, x :: l =>
    let y := satI 32 (eqRound 8 (eqSum [eqTerm b0 x, eqTerm b1 z.x1, eqTerm b2 z.x2, -eqTerm a1 z.y1, -eqTerm a2 z.y2]))
    let (m, w) := bandRun b0 b1 b2 a1 a2 { x1 := x, x2 := z.x1, y1 := y, y2 := z.y1 } l
    (y :: m, w)

/-- Band `b` of bus `m`. -/
def State.eqBand (s : State) (m b : Nat) (xs : List Int) : List Int × State :=
  let c := fun (a : Nat) => (s.lv a).toInt
  let (ys, z) := bandRun (c (EQ_B0 m b)) (c (EQ_B1 m b)) (c (EQ_B2 m b)) (c (EQ_A1 m b)) (c (EQ_A2 m b))
    (smGet (fun _ => BandSt.blank) s.aud.bands (8 * m + b)) xs
  (ys, s.setAud { s.aud with bands := smSet (fun _ => BandSt.blank) s.aud.bands (8 * m + b) z })

/-! ### Ducking and delay (R399, R402) -/

/-- The peak lies above THR decibels below full scale: peak^20 × 10^THR > 2^460. -/
def overThreshold (peak thr : Nat) : Bool := decide (2 ^ 460 < peak ^ 20 * 10 ^ thr)

/-- The attenuation moves by one sample towards `aim` decibels, at 1 dB per `ms` milliseconds. -/
def duckStep (d aim : Frac) (ms : Nat) : Frac :=
  if ms = 0 then aim
  else
    let step := mkFrac 1 (48 * ms)
    if d.le aim then (d.add step).min aim else if aim.le (d.sub step) then d.sub step else aim

/-- The greatest `c` with `ok c`, from `hi` bits down. -/
def topBits (ok : Nat → Bool) : Nat → Nat → Nat
  | 0, c => c
  | n + 1, c => topBits ok n (if ok (c + 2 ^ n) then c + 2 ^ n else c)

/-- The magnitude `x` less num / den decibels, x × 10^(−num / (20 × den)), rounded down. -/
def attFloor (x num den : Nat) : Nat := topBits (fun c => decide (c ^ (20 * den) * 10 ^ num ≤ x ^ (20 * den))) 32 0

/-- A sample attenuated by num / den decibels (R402): exact where that is an integer, else its magnitude is rounded either
way. -/
def attenuate (x : Int) (num den : Nat) : Int :=
  let c := attFloor x.natAbs num den
  let up := decide (c ^ (20 * den) * 10 ^ num ≠ x.natAbs ^ (20 * den)) && Config.attUp x
  let y : Nat := if up then c + 1 else c
  if x < 0 then -(y : Int) else y

/-- A group under the ducking gain. -/
def duckRun (aim : Frac) (ms : Nat) : Frac → List Int → List Int × Frac
  | d, [] => ([], d)
  | d, x :: l =>
    let e := duckStep d aim ms
    let (m, w) := duckRun aim ms e l
    ((if e.num = 0 then x else attenuate x e.num.toNat e.den) :: m, w)

/-- The ducking gain of bus `m` over a group. -/
def State.duckBus (s : State) (m : Nat) (xs : List Int) : List Int × State :=
  let store := fun (d : Frac) => s.setAud { s.aud with ducks := smSet (fun _ => Frac.zero) s.aud.ducks m d }
  if s.lvBit (BUS_CFG m) 1 then
    let f := fun (lo : Nat) => s.lvFld (BUS_DUCK m) lo 8
    let hot := overThreshold (smGet (fun _ => 0) s.aud.peaks (s.lvFld (BUS_CFG m) 4 3)) (f 0)
    let (ys, d) := duckRun (if hot then mkFrac (f 8) 1 else Frac.zero) (if hot then f 16 else f 24)
      (smGet (fun _ => Frac.zero) s.aud.ducks m) xs
    (ys, store d)
  else (xs, store Frac.zero)

/-- A delay of `n` samples: the line holds the latest samples, newest first. -/
def delayRun (n : Nat) : List Int → List Int → List Int × List Int
  | line, [] => ([], line)
  | line, x :: l =>
    let now := (x :: line).take 4096
    let (m, w) := delayRun n now l
    (now.getD n 0 :: m, w)

/-- The delay of bus `m` over a group. -/
def State.delayBus (s : State) (m : Nat) (xs : List Int) : List Int × State :=
  let (ys, w) := delayRun (s.lvFld (BUS_CFG m) 16 12) (smGet (fun _ => []) s.aud.delays m) xs
  (ys, s.setAud { s.aud with delays := smSet (fun _ => []) s.aud.delays m w })

/-! ### Limiter (R403) -/

/-- CEIL = 2^23 × 10^(−q / 40), rounded down. -/
def ceilFloor (q : Nat) : Nat := topBits (fun c => decide (c ^ 40 * 10 ^ q ≤ 2 ^ 920)) 24 0

/-- CEIL: an inexact level may be rounded either way. -/
def ceilLevel (q : Nat) : Nat :=
  let c := ceilFloor q
  if c ^ 40 * 10 ^ q = 2 ^ 920 then c else if Config.ceilUp q then c + 1 else c

/-- A group through the look-ahead limiter. -/
def limRun (la ceil rel : Nat) : LimSt → List Int → List Int × LimSt
  | z, [] => ([], z)
  | z, x :: l =>
    let past := (x :: z.past).take 241
    let peak := (past.take (la + 1)).foldl (fun m y => max m y.natAbs) 0
    let target := if peak = 0 then Frac.one else Frac.one.min (mkFrac ceil peak)
    let g := if rel = 0 then target else target.min (z.g.add (mkFrac 1 (48 * rel)))
    let (m, w) := limRun la ceil rel { past := past, g := g } l
    (satI 24 (g.scale (past.getD la 0)) :: m, w)

/-- A zone's limiter over a group. -/
def State.limitZone (s : State) (z : Nat) (xs : List Int) : List Int × State :=
  let f := fun (lo len : Nat) => s.lvFld (Z_LIM z) lo len
  let (ys, w) := limRun (f 0 8) (ceilLevel (f 8 8)) (f 16 16) (smGet (fun _ => LimSt.blank) s.aud.lims z) xs
  (ys, s.setAud { s.aud with lims := smSet (fun _ => LimSt.blank) s.aud.lims z w })

end Sys2Proof.Machine
end

