-- ==== Sys2Proof/Machine/Audio.lean ====
section
/-! DEFINITION. The audio block (spec/14): voice commands, rendering by groups, mix buses, zones, outputs and link streams. -/

namespace Sys2Proof.Machine

/-! ### Voice commands (R393, R394) -/

/-- A block is being rendered: AUD_STAT.RENDER. -/
def State.rendering (s : State) : Bool := s.bit AUD_STAT 0

/-- BLEN of the block being rendered. -/
def State.blen (s : State) : Nat := s.fld AUD_STAT 16 12

/-- Sample `offs` of block `b` lies in a group whose render has begun, or in a block that can no longer be rendered. -/
def State.sampleBegun (s : State) (b offs : Nat) : Bool :=
  decide (b ≤ s.beatNo) ||
  (b == s.beatNo + 1 && (s.aud.ready == some b || s.rendering && decide (offs < s.aud.next)))

/-- The data settings of a voice forbid KEYON (R393). -/
def State.keyonBad (s : State) (v : Nat) : Bool :=
  let len := s.fld (V_LEN v) 0 24
  let a := (s.rg (V_START v)).toNat
  let fmt := s.fld (V_CFG v) 0 2
  len == 0 ||
  (s.bit (V_CFG v) 2 && !decide (s.fld (V_LOOPS v) 0 24 < s.fld (V_LOOPE v) 0 24 ∧ s.fld (V_LOOPE v) 0 24 ≤ len)) ||
  (fmt == 1 && a % 2 != 0) || (fmt == 2 && a % 4 != 0) ||
  !(decide (0x10000000 ≤ a ∧ a ≤ 0x107FFFFF) || decide (0x30000000 ≤ a ∧ a ≤ 0x3FFFFFFF))

/-- A command's sample has passed, or its block is too short (R393): V_STAT.LATE and source 360. -/
def State.voiceLate (s : State) (v : Nat) : State := (s.setBit (V_STAT v) 5 true).audEvt 8

/-- A write to AUD_VCMD (R393). KEYON clears V_STAT.LATE and ERR. -/
def State.writeVcmd (s : State) (w : Word) : State :=
  let op := fieldOf w 28 4
  let v := fieldOf w 0 5
  let st := s.vState v
  s.command audPort false (op == 2 && (st == V_OFF || st == V_RELEASE)) (op == 1 && s.keyonBad v) (fun t =>
    let t1 := if op = 1 then (t.setBit (V_STAT v) 5 false).setBit (V_STAT v) 6 false else t
    let p := t1.rg64 AUD_VAT_LO
    let offs := fieldOf w 16 11
    if bitOf w 27 then
      if t1.sampleBegun p offs || decide (t1.blockLen p ≤ offs) then
        (t1.setVoice v { t1.voice v with cmd := some { op := op, due := none } }).voiceLate v
      else t1.setVoice v { t1.voice v with cmd := some { op := op, due := some (p, offs) } }
    else t1.setVoice v { t1.voice v with cmd := some { op := op, due := none } })

/-- The word of AUD_VCMD for an operation on voice `v`. -/
def vcmdWord (op : Nat) (v : Nat) (due : Option (BitVec 11)) : Word :=
  match due with
  | none => w32 (op * 0x10000000 + v)
  | some o => w32 (op * 0x10000000 + 0x8000000 + o.toNat * 65536 + v)

/-- KEYON. -/
def execKeyon (i : Initiator) (v : Fin 32) (due : Option (BitVec 11)) (s : State) : Out :=
  done (s.guardW i AUD_VCMD (vcmdWord 1 v.val due) (fun t => t.writeVcmd (vcmdWord 1 v.val due)))

/-- KEYOFF. -/
def execKeyoff (i : Initiator) (v : Fin 32) (due : Option (BitVec 11)) (s : State) : Out :=
  done (s.guardW i AUD_VCMD (vcmdWord 2 v.val due) (fun t => t.writeVcmd (vcmdWord 2 v.val due)))

/-- KILL. -/
def execKill (i : Initiator) (v : Fin 32) (due : Option (BitVec 11)) (s : State) : Out :=
  done (s.guardW i AUD_VCMD (vcmdWord 3 v.val due) (fun t => t.writeVcmd (vcmdWord 3 v.val due)))

/-- The address of a voice's data setting: 0 V_CFG, 1 V_START, 2 V_LEN, 3 V_LOOPS, 4 V_LOOPE. -/
def voiceReg (r v : Nat) : Nat :=
  match r with | 0 => V_CFG v | 1 => V_START v | 2 => V_LEN v | 3 => V_LOOPS v | _ => V_LOOPE v

/-- A write to a voice's data setting at `a` (R394). -/
def State.writeVoice (s : State) (a v : Nat) (w : Word) : State :=
  s.command audPort false (s.vState v != V_OFF || (s.voice v).cmd.isSome) false (fun t =>
    match regAt a with
    | some (row, _, _) => t.storeReg a row w
    | none => t)

/-- VOICE_PARAM_WRITE (R394). -/
def execVoiceParamWrite (i : Initiator) (v : Fin 32) (r : Fin 5) (w : Word) (s : State) : Out :=
  done (s.guardW i (voiceReg r.val v.val) w (fun t => t.writeVoice (voiceReg r.val v.val) v.val w))

/-! ### Rendering (R385) -/

/-- AUDIO_RENDER_START (R385): at AUD_RSTART after the edge the render of the next block starts. -/
def execAudioRenderStart (s : State) : Out :=
  let p := s.beatNo + 1
  done (
    if s.lvBit AUD_CTRL 0 && s.bit SYS_CLKEN 2 && !s.rendering && s.aud.ready != some p then
      let t := s.advanceTo (s.lvFld AUD_RSTART 0 16 * s.beatLen / 65536)
      let u := ((t.setBit AUD_STAT 0 true).setFld AUD_STAT 16 12 (t.blockLen p)).setRg64 AUD_PBEAT_LO p
      let first := u.blockStart p
      u.setAud { u.aud with
        next := 0, began := (u.rg BEAT_PHASE).toNat, building := [], clipped := [], under := []
        store := u.aud.store.map (fun e => (e.1, e.2.filter (fun x => decide (first ≤ x.1)))) }
    else s)

/-- A pending command that waits for a sample that has passed, or that its block lacks, is late at the start of a group. -/
def State.groupLate (s : State) (blk base v : Nat) : State :=
  match (s.voice v).cmd with
  | some { op := op, due := some (p, o) } =>
    if p < blk ∨ (p = blk ∧ (o < base ∨ s.blen ≤ o)) then
      (s.setVoice v { s.voice v with cmd := some { op := op, due := none } }).voiceLate v
    else s
  | _ => s

/-- The commands of a voice that are due at the first sample of the group act. -/
def State.groupAct (s : State) (blk base v : Nat) : State :=
  match (s.voice v).cmd with
  | some c => if c.due == none || c.due == some (blk, base) then s.voiceAct v else s
  | none => s

/-- VOICE_COMMAND_ACT (R393): the pending command of voice `v` acts, if it is due at the first sample of the next group
of the block being rendered. -/
def execVoiceCommandAct (v : Fin 32) (s : State) : Out :=
  let blk := s.rg64 AUD_PBEAT_LO
  done (if s.rendering then (s.groupLate blk s.aud.next v.val).groupAct blk s.aud.next v.val else s)

/-- `n` free samples: what an input has converted, or samples that the spec leaves open (log entry 20). -/
def State.drawSamples (s : State) : Nat → List Int × State
  | 0 => ([], s)
  | n + 1 =>
    let (v, t) := s.draw
    let (l, u) := State.drawSamples t n
    (signed 24 v :: l, u)

/-- Slots of a serial interface (R381): two in the I2S and left-justified formats, 2, 4 or 8 in TDM. -/
def slotCount (cfg : Word) : Nat := if fieldOf cfg 2 2 = 2 then 2 ^ (fieldOf cfg 4 2 + 1) else 2

/-- Bits of a slot, and of the data in it: SWID 16, 24 or 32, DWID 16 or 24. -/
def slotWidth (cfg : Word) : Nat := 16 + 8 * fieldOf cfg 6 2
def dataWidth (cfg : Word) : Nat := if bitOf cfg 8 then 24 else 16

/-- Input `i` delivers samples (R397): enabled, and with its own clock or locked to an outside one. -/
def State.inputLive (s : State) (i : Nat) : Bool :=
  s.lvBit (I_CFG i) 0 && (s.lvBit (I_CFG i) 1 || s.bit (I_STAT i) 0)

/-- The input that selector source 37 to 56 belongs to (0, 1, or 2 to 5 for the PDM channels), and its slot. -/
def inputUnit (src : Nat) : Nat × Nat := if src ≤ 52 then ((src - 37) / 8, (src - 37) % 8) else (src - 51, 0)

/-- How many slots an input converts now. -/
def State.inputSlots (s : State) (u : Nat) : Nat :=
  if u < 2 then (if s.inputLive u then slotCount (s.lv (I_CFG u)) else 0)
  else if s.lvBit PDM_CFG (u - 2) then 1 else 0

/-- Selector source `src` is an enabled slot or channel of the inputs. -/
def State.inputSource (s : State) (src : Nat) : Bool :=
  decide (37 ≤ src ∧ src ≤ 56) && decide ((inputUnit src).2 < s.inputSlots (inputUnit src).1)

/-- Note what input `u` converts from sample `k` of the present beat's input block on (R397). Samples of an input that is clock
master need no conversion, so 16 bits on the pins stay 16 bits (R389). -/
def State.markInput (s : State) (k u : Nat) : State :=
  let cfg := s.lv (I_CFG u)
  let m : InMark :=
    { unit := u, beat := s.beatNo, at_ := k, slots := s.inputSlots u
      narrow := decide (u < 2) && bitOf cfg 1 && decide (min (slotWidth cfg) (dataWidth cfg) = 16)
      gain := if u < 2 then 0 else signed 16 (s.lvFld (PDM_GAIN (u - 2)) 0 16) }
  s.setAud { s.aud with inputs := m :: s.aud.inputs.filter (fun e => decide (s.beatNo ≤ e.beat + 1)) }

/-- A new input block begins with the beat. -/
def State.inputEdge (s : State) : State := (List.range 6).foldl (fun t u => t.markInput 0 u) s

/-- The samples that the outputs send in `n` cycles. -/
def samplesIn (n : Nat) : Nat := 3 * n / 25000

/-- What input `u` converted at sample `k` of input block `q`: the latest mark at or before it. -/
def State.inputAt (s : State) (u q k : Nat) : Option InMark :=
  s.aud.inputs.find? (fun e => e.unit == u && e.beat == q && decide (e.at_ ≤ k))

/-- Samples `k` on of an input source, from input block `q`: they arrive from outside (log entry 20). -/
def State.inputSamples (s : State) (src q : Nat) : Nat → Nat → List Int × State
  | _, 0 => ([], s)
  | k, n + 1 =>
    let (u, slot) := inputUnit src
    let (x, t) := match s.inputAt u q k with
      | some m =>
        if slot < m.slots then
          let (v, t) := s.draw
          (if 2 ≤ u then gainMul (signed 24 v) m.gain else if m.narrow then signed 16 v * 256 else signed 24 v, t)
        else (0, s)
      | none => (0, s)
    let (l, w) := State.inputSamples t src q (k + 1) n
    (x :: l, w)

/-- The group's samples of an input source: the render of block p uses input block p − 2 (R397). -/
def State.inputGroup (s : State) (src blk base n : Nat) : List Int × State := s.inputSamples src (blk - 2) base n

/-- Stream input `k` is connected: subscribed (R305) or looped back (R408). -/
def State.streamOn (s : State) (k : Nat) : Bool := s.bit (LNK_ASTR k) 31 || s.lvBit (LS_CFG k) 0

/-- The samples held for stream input `k`, by play index. -/
def State.streamStore (s : State) (k : Nat) : List (Nat × Int) := smGet (fun _ => []) s.aud.store k

/-- The group's samples of stream input `k` (R407): missing ones are silent and counted. -/
def State.streamGroup (s : State) (k g n : Nat) : List Int × State :=
  let got := (List.range n).map (fun j => (s.streamStore k).find? (fun e => e.1 == g + j))
  let lost := (got.filter (fun e => e.isNone)).length
  let ys := got.map (fun e => match e with | some x => x.2 | none => 0)
  if s.streamOn k && decide (0 < lost) then
    let t := s.count (AUD_LS_UNDER k) lost
    if t.aud.under.contains k then (ys, t) else (ys, (t.setAud { t.aud with under := k :: t.aud.under }).audEvt 4)
  else (ys, s)

/-- Render source after source of a list of numbered renderers. -/
def State.renderList (s : State) (f : State → Nat → List Int × State) : List Nat → List (Nat × List Int) × State
  | [] => ([], s)
  | k :: l =>
    let (ys, t) := f s k
    let (m, u) := State.renderList t f l
    ((k, ys) :: m, u)

/-- The samples of a rendered source; silence where there are none. -/
def samplesOf (m : List (Nat × List Int)) (k n : Nat) : List Int :=
  match m.find? (fun e => e.1 == k) with
  | some e => e.2
  | none => List.replicate n 0

/-- A selector's input of bus `m` is active in the block (R400); `on` lists the voices that are not OFF, `ns` the counts of
the buses before. -/
def State.inputActive (s : State) (on : List Nat) (ns : List (Nat × Nat)) (src : Nat) : Bool :=
  if src = 0 then false
  else if src ≤ 32 then on.contains (src - 1)
  else if src ≤ 36 then s.lvBit (T_CTL (src - 33)) 0 && s.lvFld (T_LEVEL (src - 33)) 0 16 != 0
  else if src ≤ 56 then s.inputSource src
  else if src ≤ 60 then
    let g := s.blockStart (s.rg64 AUD_PBEAT_LO)
    (s.streamStore (src - 57)).any (fun e => decide (g ≤ e.1 ∧ e.1 < g + s.blen))
  else if 64 ≤ src ∧ src ≤ 71 then !s.lvBit (BUS_CFG (src - 64)) 0 || decide (1 ≤ smGet (fun _ => 0) ns (src - 64))
  else false

/-- The counts of all buses for the block that starts (R400). -/
def State.countBuses (s : State) (on : List Nat) : State :=
  let ns := (List.range 8).foldl (fun l m =>
    let n := ((List.range 16).filter (fun j => s.inputActive on l (s.lvFld (SEL m j) 0 7))).length
    smPut l m n) []
  let old := (List.range 8).map (fun m => (m, s.fld (BUS_STAT m) 0 5))
  let t := ns.foldl (fun t e => t.setFld (BUS_STAT e.1) 0 5 e.2) s
  t.setAud { t.aud with counts := old }

/-- 1/n, or 0 for no active input. -/
def overN (n : Nat) : Frac := if n = 0 then Frac.zero else mkFrac 1 n

/-- Mode S scaling of sample `k` of the block (R400). -/
def modeS (old new k : Nat) (x : Int) : Int :=
  if new = 0 then 0
  else if old = new ∨ 64 ≤ k then (overN new).scale x
  else ((overN old).add (((overN new).sub (overN old)).mul (mkFrac k 64))).scale x

/-- The sum of the selectors of bus `m` (R398, R399). -/
def State.busSum (s : State) (srcs : List (Nat × List Int)) (m n : Nat) : List Int :=
  (List.range 16).foldl (fun acc j =>
    let src := s.lvFld (SEL m j) 0 7
    if src = 0 then acc
    else
      let g := signed 16 (s.lvFld (SEL m j) 16 16)
      List.zipWith (fun a x => satI 32 (a + gainMul x g)) acc (samplesOf srcs src n)) (List.replicate n 0)

/-- One bus over a group (R399); in Mode S with no active input its output is 0 (R400). -/
def State.busGroup (s : State) (srcs : List (Nat × List Int)) (base n m : Nat) : List Int × State :=
  let sum := s.busSum srcs m n
  let scaled := if s.lvBit (BUS_CFG m) 0 then
      sum.mapIdx (fun k x => modeS (smGet (fun _ => 0) s.aud.counts m) (s.fld (BUS_STAT m) 0 5) (base + k) x)
    else sum
  let (e0, s0) := s.eqBand m 0 scaled
  let (e1, s1) := s0.eqBand m 1 e0
  let (e2, s2) := s1.eqBand m 2 e1
  let (e3, s3) := s2.eqBand m 3 e2
  let (e4, s4) := s3.eqBand m 4 e3
  let (d, s5) := s4.duckBus m e4
  let (y, s6) := s5.delayBus m d
  (if s.lvBit (BUS_CFG m) 0 && s.fld (BUS_STAT m) 0 5 == 0 then y.map (fun _ => 0) else y, s6)

/-- The buses in ascending order; later buses see the outputs of earlier ones (R385, R399). -/
def State.busesGroup (base n : Nat) : List Nat → State → List (Nat × List Int) → List (Nat × List Int) × State
  | [], s, srcs => (srcs, s)
  | m :: l, s, srcs =>
    let (ys, t) := s.busGroup srcs base n m
    State.busesGroup base n l t (srcs ++ [(64 + m, ys)])

/-- One zone over a group (R403). -/
def State.zoneGroup (s : State) (srcs : List (Nat × List Int)) (n z : Nat) : List Int × State :=
  let bus := s.lvFld (Z_CFG z) 0 4
  let g := signed 16 (s.lvFld (Z_CFG z) 16 16)
  let xs := (if bus = 15 then List.replicate n 0 else samplesOf srcs (64 + bus) n).map (fun x => gainMul x g)
  if s.lvBit (Z_CFG z) 4 then s.limitZone z (xs.map (satI 32))
  else
    let clip := xs.any (fun x => satI 24 x != x)
    let t := if clip && !s.aud.clipped.contains z then
        ((s.setAud { s.aud with clipped := z :: s.aud.clipped }).count (Z_CLIPCNT z) 1).audEvt 3
      else s
    (xs.map (satI 24), t)

/-- The slots of the outputs over a group (R404): key 8 × output + slot. -/
def State.slotsGroup (s : State) (zs : List (Nat × List Int)) (n : Nat) : List (Nat × List Int) :=
  (List.range 2).flatMap (fun o =>
    if s.lvBit (O_CFG o) 0 then
      (List.range (slotCount (s.lv (O_CFG o)))).map (fun k =>
        let ys := samplesOf zs (s.lvFld (O_MAP o) (4 * k) 4) n
        (8 * o + k, if s.lvBit (O_CFG o) 8 then ys else ys.map toSlot16))
    else [])

/-- The link stream outputs over a group (R404): key 16 + stream. A TXZONE that names no zone and is not 15 carries free
samples (log entry 20). -/
def State.streamsOut (s : State) (zs : List (Nat × List Int)) (n : Nat) : List Nat → List (Nat × List Int) × State
  | [] => ([], s)
  | k :: l =>
    let z := s.lvFld (LS_CFG k) 4 4
    if z = 15 then State.streamsOut s zs n l
    else
      let (ys, t) := if z < 8 then (samplesOf zs z n, s) else s.drawSamples n
      let (m, u) := State.streamsOut t zs n l
      ((16 + k, ys) :: m, u)

/-- Add a group's samples to what the block holds. -/
def appendAll (old new : List (Nat × List Int)) : List (Nat × List Int) :=
  new.foldl (fun m e => smPut m e.1 (smGet (fun _ => []) m e.1 ++ e.2)) old

/-- Store samples of stream input `k` by play index. -/
def State.storeStream (s : State) (k : Nat) (l : List (Nat × Int)) : State :=
  let m := l.foldl (fun m e => smPut m e.1 e.2) (s.streamStore k)
  s.setAud { s.aud with store := smSet (fun _ => []) s.aud.store k m }

/-- The samples of block `p` of the link stream outputs, keyed 16 + stream, wait for their beat, and loop back (R406, R408). -/
def State.streamsReady (s : State) (p : Nat) (outs : List (Nat × List Int)) : State :=
  outs.foldl (fun t e =>
    if t.lvBit (LS_CFG (e.1 - 16)) 0 then
      t.storeStream (e.1 - 16) (e.2.mapIdx (fun j x => (t.blockStart p + j + t.streamLag, x)))
    else t) (s.setAud { s.aud with tx := s.aud.tx ++ outs.map (fun e => (e.1 - 16, p, e.2)) })

/-- A block is complete (R385): source 354. -/
def State.blockDone (s : State) (p : Nat) : State :=
  let us := ((s.rg BEAT_PHASE).toNat - s.aud.began) / 400
  let t := ((s.setBit AUD_STAT 0 false).setFld AUD_RTIME 0 16 us).setFld AUD_RTIME 16 16 (max us (s.fld AUD_RTIME 16 16))
  let u := t.setAud { t.aud with ready := some p }
  (u.streamsReady p (u.aud.building.filter (fun e => decide (16 ≤ e.1)))).audEvt 2

/-- The voices of a group. -/
def State.voicesGroup (s : State) (blk base n : Nat) : List (Nat × List Int) × State :=
  s.renderList (fun t k => t.voiceRun (k - 1) blk base n 0 []) ((List.range 32).map (fun v => v + 1))

/-- The sources of a group besides the voices. -/
def State.othersGroup (s : State) (blk base n : Nat) : List (Nat × List Int) × State :=
  let (a, s1) := s.renderList (fun t k => t.toneGroup (k - 33) n) [33, 34, 35, 36]
  let (b, s2) := s1.renderList (fun t k => t.inputGroup k blk base n) ((List.range 20).map (fun k => k + 37))
  let (c, s3) := s2.renderList (fun t k => t.streamGroup (k - 57) (t.blockStart blk + base) n) [57, 58, 59, 60]
  (a ++ b ++ c, s3)

/-- The peaks of the buses over a group (R402). -/
def busPeaks (srcs : List (Nat × List Int)) : List (Nat × Nat) :=
  (List.range 8).map (fun m => (m, (samplesOf srcs (64 + m) 0).foldl (fun p x => max p x.natAbs) 0))

/-- AUDIO_GROUP (R385): one group of the block being rendered. -/
def execAudioGroup (s : State) : Out :=
  let blk := s.rg64 AUD_PBEAT_LO
  let base := s.aud.next
  let n := min 64 (s.blen - base)
  done (
    if s.rendering then
      let t0 := (List.range 32).foldl (fun t v => (t.groupLate blk base v).groupAct blk base v) s
      let on := (List.range 32).filter (fun v => t0.vState v != V_OFF)
      let t1 := if base = 0 then t0.countBuses on else t0
      let (vs, t2) := t1.voicesGroup blk base n
      let (os, t3) := t2.othersGroup blk base n
      let (srcs, t4) := State.busesGroup base n (List.range 8) t3 (vs ++ os)
      let (zs, t5) := t4.renderList (fun t z => t.zoneGroup srcs n z) (List.range 8)
      let (ls, t6) := t5.streamsOut zs n (List.range 4)
      let t7 := t6.setAud { t6.aud with
        peaks := busPeaks srcs, next := base + n
        building := appendAll t6.aud.building (t6.slotsGroup zs n ++ ls) }
      if t7.blen ≤ base + n then t7.blockDone blk else t7
    else s)

/-! ### Inputs (R397) -/

/-- INPUT_LOCK: slave input `i` has measured 64 frames at a stable rate of 8 to 96 kHz. -/
def execInputLock (i : Fin 2) (hz : BitVec 24) (s : State) : Out :=
  done (
    if s.lvBit (I_CFG i.val) 0 && !s.lvBit (I_CFG i.val) 1 && !s.bit (I_STAT i.val) 0 &&
        decide (8000 ≤ hz.toNat ∧ hz.toNat ≤ 96000) then
      let t := (s.setFld (I_STAT i.val) 8 24 hz.toNat).setBit (I_STAT i.val) 0 true
      (t.markInput (samplesIn (t.rg BEAT_PHASE).toNat) i.val).audEvt 12
    else s)

/-- INPUT_LOCK_LOSS: no frame for 1 ms. -/
def execInputLockLoss (i : Fin 2) (s : State) : Out :=
  done (
    if s.bit (I_STAT i.val) 0 then
      let t := s.setBit (I_STAT i.val) 0 false
      (t.markInput (samplesIn (t.rg BEAT_PHASE).toNat) i.val).audEvt 12
    else s)

/-! ### Link streams (R305, R406, R407) -/

/-- The frames of a block of stream `st`: at most 480 samples each. The first argument bounds the frames. -/
def audioFrames (st q total : Nat) : Nat → Nat → List Int → List (List Byte)
  | 0, _, _ => []
  | fuel + 1, first, l =>
    if l.isEmpty then []
    else
      let part := l.take 480
      let head := [BitVec.ofNat 8 st, 1] ++ beBytes 2 first ++ beBytes 8 q ++ beBytes 2 part.length ++ beBytes 2 total
      let body := part.flatMap (fun x => beBytes 3 (x % 0x1000000).toNat)
      (head ++ body) :: audioFrames st q total fuel (first + part.length) (l.drop 480)

/-- The stream blocks of the beat that has begun go to the link (R406). -/
def State.streamsSend (s : State) : State :=
  let now := s.aud.tx.filter (fun e => e.2.1 == s.beatNo)
  let t := s.setAud { s.aud with tx := s.aud.tx.filter (fun e => decide (s.beatNo < e.2.1)) }
  now.foldl (fun t e =>
    if t.bit (LNK_ASTR e.1) 15 && t.adm != A_STOPPED then
      (audioFrames (t.fld (LNK_ASTR e.1) 0 4) e.2.1 e.2.2.length e.2.2.length 0 e.2.2).foldl
        (fun u pl => u.sendFrame 7 0xFF 2 pl) t
    else t) t

/-- A count of 1 in AUD_LS_BAD, with source 358. -/
def State.streamBad (s : State) (k : Nat) : State := (s.count (AUD_LS_BAD k) 1).audEvt 6

/-- Stream input `k` takes the samples of a frame (R407, R408). -/
def State.takeStream (s : State) (k : Nat) (pl : List Byte) : State :=
  let q := fieldAt pl 4 8
  let first := fieldAt pl 2 2
  let n := fieldAt pl 0xC 2
  if s.lvBit (LS_CFG k) 0 then s.count (AUD_LS_BAD k) 1
  else if fieldAt pl 1 1 ≠ 1 ∨ fieldAt pl 0xE 2 ≠ s.blockLen q ∨ s.blockLen q < first + n then s.streamBad k
  else
    let g := s.blockStart q + first + s.streamLag
    let begun := if s.rendering || s.aud.ready == some (s.beatNo + 1) then s.beatNo + 1 else s.beatNo
    let lo := s.blockStart (begun + 1)
    let hi := s.blockStart (begun + 5)
    let all := (List.range n).map (fun j => (g + j, signed 24 (fieldAt pl (0x10 + 3 * j) 3)))
    let late := (all.filter (fun e => decide (e.1 < lo))).length
    let far := all.any (fun e => decide (hi ≤ e.1))
    let t := s.storeStream k (all.filter (fun e => decide (lo ≤ e.1 ∧ e.1 < hi)))
    let u := if 0 < late then (t.count (AUD_LS_LATE k) late).audEvt 5 else t
    if far then u.streamBad k else u

/-- A frame of stream `st` for input `k`: the first transmitter heard after RXEN is kept, and others are dropped (R305). -/
def State.streamFrom (s : State) (k src : Nat) (pl : List Byte) : State :=
  if s.aud.kept.contains k then
    if s.fld (LNK_ASTR k) 22 6 = src then s.takeStream k pl else s.count LNK_RAWDROP 1
  else
    ((s.setFld (LNK_ASTR k) 22 6 src).setAud { s.aud with kept := k :: s.aud.kept }).takeStream k pl

/-- AUDIO_FRAME_RX (R407). -/
def execAudioFrameRx (p : Fin 2) (f : Llp) (s : State) : Out :=
  let fr := frameOf f 7
  let r := s.receive p.val fr
  let st := fieldAt fr.payload 0 1
  done (
    if r.deliver then
      (List.range 4).foldl (fun t k =>
        if t.bit (LNK_ASTR k) 31 && t.fld (LNK_ASTR k) 16 4 == st then t.streamFrom k fr.src fr.payload else t) r.st
    else r.st)

/-- A write to LNK_ASTR[k] (R305): setting RXEN forgets the transmitter kept. -/
def State.writeAstr (s : State) (k : Nat) (v : Word) : State :=
  let set_ := bitOf v 31 && !s.bit (LNK_ASTR k) 31
  let t := s.setRg (LNK_ASTR k) ((s.rg (LNK_ASTR k) &&& 0x0FC00000) ||| (v &&& 0x800F800F))
  if set_ then (t.setFld (LNK_ASTR k) 22 6 0).setAud { t.aud with kept := t.aud.kept.filter (fun j => j != k) } else t

/-! ### Edges (R384, R387) -/

/-- Audio output `o` is retired: its clocks run and it sends zeros (R405). -/
def State.outRetired (s : State) (o : Nat) : Bool := s.retired (0x81C + o)

/-- The samples of slot `k` of output `o` in this beat (R404, R405): zeros on a retired output. -/
def State.slotPlays (s : State) (o k : Nat) : List Int :=
  let l := smGet (fun _ => []) s.aud.playing (8 * o + k)
  if s.outRetired o then l.map (fun _ => 0) else l

/-- The bits of a slot, most significant data bit first. -/
def slotBits (cfg : Word) (x : Int) : List Bool :=
  let d := dataWidth cfg
  let v := (x % (2 ^ d : Nat)).toNat
  (List.range (slotWidth cfg)).map (fun j => decide (j < d) && v.testBit (d - 1 - j))

/-- LRCK and SD of output `o` over the bit clocks of one frame, the one of sample `j` of the block (R381, R404): none for a
disabled output, whose pins are low. I2S data comes one bit clock after LRCK, whose low half is slot 0; left-justified data comes
with LRCK, whose high half is slot 0; the frame sync of TDM lasts the bit clock before slot 0 (log entry 20). -/
def State.serialFrame (s : State) (o j : Nat) : Option (List (Bool × Bool)) :=
  let cfg := s.lv (O_CFG o)
  if !bitOf cfg 0 then none
  else
    let w := slotWidth cfg
    let n := slotCount cfg * w
    let bits := (List.range (slotCount cfg)).flatMap (fun k => slotBits cfg ((s.slotPlays o k).getD j 0))
    some (bits.mapIdx (fun b sd =>
      (match fieldOf cfg 2 2 with
        | 0 => decide (w ≤ (b + 1) % n)
        | 1 => decide (b < w)
        | _ => decide (b + 1 = n), sd)))

/-- The block of this beat has not been rendered (R387): it plays silent, on the link streams too; the voices move on to its
end. -/
def State.dropBlock (s : State) : State :=
  let p := s.beatNo
  let n := if s.rendering then s.blen else s.blockLen p
  let left := if s.rendering then n - s.aud.next else n
  let u := (List.range 32).foldl (fun t v => t.voiceSkip v left) s
  let v := ((u.setBit AUD_STAT 0 false).count AUD_DROPBLK 1).setAud { u.aud with building := [], playing := [], ready := none }
  let outs := (List.range 4).filter (fun k => v.lvFld (LS_CFG k) 4 4 != 15)
  (v.streamsReady p (outs.map (fun k => (16 + k, List.replicate n 0)))).audEvt 10

/-- At the edge of beat p = BEAT_COUNT (R387): a block that is not complete is dropped. -/
def State.audEdge (s : State) : State :=
  let whole := s.aud.ready == some s.beatNo
  let t :=
    if s.rendering || (s.lvBit AUD_CTRL 0 && s.bit SYS_CLKEN 2 && !whole) then s.dropBlock
    else
      let play := if whole then s.aud.building.filter (fun e => decide (e.1 < 16)) else []
      s.setAud { s.aud with playing := play, building := [] }
  t.streamsSend

/-- The output skips or repeats `n` samples to meet an edge (R384). -/
def State.audSlip (s : State) (n : Nat) : State :=
  if s.lvBit AUD_CTRL 0 then
    let t := (s.count AUD_SLIPCNT 1).audEvt 11
    if 4 < n then
      (List.range 2).foldl (fun t o => if t.lvBit (O_CFG o) 0 then t.faultReport (0x81C + o) 2 else t) t
    else t
  else s

end Sys2Proof.Machine
end

