-- ==== Sys2Proof/Machine/Ecx.lean ====
section
/-! DEFINITION. The Event Concentrator (spec/06): eligibility, line mode, queue mode, hold-off, and the
commands that reach its registers. -/

namespace Sys2Proof.Machine

/-! ### Eligibility (R163, R165, R168, R175, R180) -/

/-- The target takes its events through a ring (R172). -/
def State.queueMode (s : State) (t : Nat) : Bool := decide (t < 5) && s.bit (ECX_TCTL t) 0

/-- Number of slots of a target's ring (R172). -/
def State.ringSlots (s : State) (t : Nat) : Nat := 2 ^ s.fld (ECX_TCTL t) 8 4

/-- THR of a target: its lowest ACTIVE source, or 1,024 (R165). An ACTIVE source counts for the target that ECX_TGT names now, not for
the one it was delivered to (DESIGN CHOICE; log entry 33). -/
def State.thr (s : State) (t : Nat) : Nat :=
  s.ecx.claims.foldl (fun m c => if s.tgtOf c.src = t then min m c.src else m) 1024

/-- The pair (group, target) is held off (R180). -/
def State.heldOff (s : State) (g t : Nat) : Bool := s.ecx.holdoff.contains (g, t)

/-- A record write of the source has begun (R173). -/
def State.beingWritten (s : State) (src : Nat) : Bool := s.ecx.recWrites.any (fun e => e.2 == src)

/-- A source is eligible for delivery to target `t` (R165). -/
def State.eligible (s : State) (src t : Nat) : Bool :=
  liveSource src && s.pendOf src && !s.maskOf src && !s.isActive src && s.tgtOf src == t &&
  !s.heldOff (src / 32) t && !s.beingWritten src &&
  (decide (5 ≤ t) || s.queueMode t || decide (src < s.thr t))

/-- The lowest eligible source of target `t` among the groups listed. -/
def State.lowestIn (s : State) (t : Nat) : List Nat → Option Nat
  | [] => none
  | g :: gs =>
    let w := s.rg (ECX_PEND g) &&& ~~~(s.rg (ECX_MASK g))
    let hit := if w = 0 then none else (bitsSet w 32).find? (fun b => s.eligible (32 * g + b) t)
    match hit with
    | some b => some (32 * g + b)
    | none => State.lowestIn s t gs

/-- The lowest eligible source of target `t`. -/
def State.lowestEligible (s : State) (t : Nat) : Option Nat := s.lowestIn t (List.range 32)

/-- The request line of a core target (R168, R175). -/
def State.line (s : State) (t : Nat) : Bool :=
  if s.queueMode t then s.rg (ECX_QWR t) != s.rg (ECX_QRD t) else (s.lowestEligible t).isSome

/-! ### Delivery and completion (R166, R167, R180) -/

/-- Deliver a source to target `t`: it becomes ACTIVE, PEND clears, and a hold-off of its group begins. -/
def State.deliver (s : State) (src t : Nat) (by_ : ClaimBy) : State :=
  let claim : EcxClaim := { src := src, holder := by_, level := s.isLevel src }
  let pair := (src / 32, t)
  let hold := if s.fld (ECX_HOLD (src / 32)) 0 16 = 0 ∨ s.ecx.holdoff.contains pair then s.ecx.holdoff
    else pair :: s.ecx.holdoff
  let s1 := s.clrPend src
  { s1 with ecx := { s1.ecx with claims := claim :: s1.ecx.claims, holdoff := hold } }

/-- Complete a source: it stops being ACTIVE, and PEND of a level source follows its signal again at once (R161, R167). -/
def State.complete (s : State) (src : Nat) : State :=
  let s1 := { s with ecx := { s.ecx with claims := s.ecx.claims.filter (fun c => c.src != src) } }
  if s1.isLevel src then if s1.lvlOf src then s1.setPend src false else s1.clrPend src else s1

/-! ### Commands -/

/-- The ECX command port (R158). -/
def ecxPort : CmdPort := { st := ECX_CMDST, rejects := ECX_REJECT, evt := some (ECX_EVT, 0), src := some 16 }

/-- SOURCE_SIGNAL (R161). -/
def execSourceSignal (src : Fin 1024) (v : Bool) (s : State) : Out := done (s.signal src.val v)

/-- A write to ECX_SWTRIG (R162, R164). -/
def State.writeSwtrig (s : State) (i : Initiator) (v : Word) : State :=
  let n := fieldOf v 0 10
  if !decide (864 ≤ n ∧ n ≤ 1019) then s.reject ecxPort ST_ARG
  else if i != .g0 && s.tgtOf n == 4 then s.accept ecxPort
  else (s.accept ecxPort).setPend n true

/-- ECX_SWTRIG (R162). -/
def execEcxSwtrig (i : Initiator) (v : Word) (s : State) : Out :=
  done (s.guardW i ECX_SWTRIG v (fun t => t.writeSwtrig i v))

/-- A write to ECX_TGT (R164): STATE while the source is ACTIVE. -/
def State.writeTgt (s : State) (src : Nat) (v : Word) : State :=
  s.command ecxPort false (s.isActive src) false (fun t => t.setRg (ECX_TGT src) (v &&& 7))

/-- ECX_TGT_WRITE (R164). -/
def execEcxTgtWrite (i : Initiator) (src : Fin 1024) (v : Word) (s : State) : Out :=
  done (s.guardW i (ECX_TGT src.val) v (fun t => t.writeTgt src.val v))

/-- The bits of a group word an initiator may change: live sources, and for an initiator other than G0 only
those whose target is not G0 (R158, R164). -/
def State.writableBits (s : State) (i : Initiator) (g : Nat) : List Nat :=
  (List.range 32).filter (fun b => liveSource (32 * g + b) && (i == .g0 || s.tgtOf (32 * g + b) != 4))

/-- PEND of a level source that is not ACTIVE follows its signal (R161), but where software's 1 stands for this cycle (`won`). -/
def State.followLevels (s : State) (g : Nat) (won : Nat → Bool) : State :=
  (List.range 32).foldl (fun t b =>
    let src := 32 * g + b
    if liveSource src && t.isLevel src && !t.isActive src then
      if t.lvlOf src then t.setPend src false else if won src then t else t.clrPend src
    else t) s

/-- A raw write to ECX_PEND (R181, R182). Over a level source whose signal fell in the same cycle the written 1 wins. -/
def State.writePend (s : State) (i : Initiator) (g : Nat) (v : Word) : State :=
  let l := s.writableBits i g
  let ones := (l.filter (fun b => bitOf v b)).map (fun b => 32 * g + b)
  let t := l.foldl (fun t b => if bitOf v b then t.setPend (32 * g + b) true else t.clrPend (32 * g + b)) s
  let u := { t with ecx := { t.ecx with
    swPend := ones ++ t.ecx.swPend.filter (fun n => !l.contains (n - 32 * g) || n < 32 * g) } }
  u.followLevels g (fun src => ones.contains src && u.ecx.fell.contains src)

/-- ECX_PEND_WRITE (R181). -/
def execEcxPendWrite (i : Initiator) (g : Fin 32) (v : Word) (s : State) : Out :=
  done (s.guardW i (ECX_PEND g.val) v (fun t => t.writePend i g.val v))

/-- A write to ECX_MASK or ECX_TYPE stores the bits the initiator may change (R163, R164). -/
def State.writeGroupBits (s : State) (i : Initiator) (base g : Nat) (v : Word) : State :=
  let m := wordOfBits (s.writableBits i g)
  s.setRg base ((s.rg base &&& ~~~m) ||| (v &&& m))

/-- A write to ECX_MASK, or to ECX_TYPE, whose new levels take effect at once for sources that are not ACTIVE. -/
def State.writeMask (s : State) (i : Initiator) (g : Nat) (v : Word) : State := s.writeGroupBits i (ECX_MASK g) g v

/-- A write to ECX_TYPE. -/
def State.writeType (s : State) (i : Initiator) (g : Nat) (v : Word) : State :=
  (s.writeGroupBits i (ECX_TYPE g) g v).followLevels g (fun _ => false)

/-- A write to ECX_HOLD: the whole word is left when any source of the group has G0 as its target (R164). -/
def State.writeHold (s : State) (i : Initiator) (g : Nat) (v : Word) : State :=
  if i != .g0 && (List.range 32).any (fun b => s.tgtOf (32 * g + b) == 4) then s
  else s.setRg (ECX_HOLD g) (v &&& 0xFFFF)

/-- The target an initiator reads ECX_CLAIM for: its own, where it is a core in line mode (R169). -/
def State.claimTarget (s : State) (i : Initiator) : Option Nat :=
  match i.core? with
  | some c => if s.queueMode c.num then none else some c.num
  | none => none

/-- A read of ECX_CLAIM (R169): the value read, and the delivery it makes. -/
def State.readClaim (s : State) (i : Initiator) : Word × State :=
  match s.claimTarget i with
  | none => (0, s)
  | some t =>
    match s.lowestEligible t with
    | none => (0, s)
    | some src =>
      let s1 := s.deliver src t (.core t)
      (w32 src, { s1 with ecx := { s1.ecx with lastClaim := (t, src) :: s1.ecx.lastClaim.filter (fun e => e.1 != t) } })

/-- ECX_CLAIM (R169). -/
def execEcxClaim (i : Initiator) (s : State) : Out :=
  done (s.guardR i ECX_CLAIM (fun t => let (v, u) := t.readClaim i; { u with rdata := v.toNat }))

/-- Source `src` is still ACTIVE by a claim of core `t` (R170). -/
def State.claimedBy (s : State) (src t : Nat) : Bool :=
  match s.claimOf src with
  | some c => c.holder == .core t
  | none => false

/-- ECX_CLAIMST as core `t` reads it (R170). -/
def State.claimStatus (s : State) (t : Nat) : Word :=
  match s.ecx.lastClaim.find? (fun e => e.1 == t) with
  | none => 0
  | some e =>
    let src := e.2
    w32 (src + (if s.lvlOf src then 0x10000 else 0) + (if s.isLevel src then 0x20000 else 0)
      + (if s.claimedBy src t then 0x80000000 else 0))

/-- A write to ECX_DONE (R171). -/
def State.writeDone (s : State) (i : Initiator) (v : Word) : State :=
  let n := fieldOf v 0 10
  let mine := match i.core? with
    | some k => s.claimedBy n k.num
    | none => false
  if !liveSource n then s.reject ecxPort ST_ARG
  else if !mine then s.reject ecxPort ST_STATE
  else (s.accept ecxPort).complete n

/-- ECX_DONE (R171). -/
def execEcxDone (i : Initiator) (v : Word) (s : State) : Out :=
  done (s.guardW i ECX_DONE v (fun t => t.writeDone i v))

/-- Some source of target `t` is ACTIVE, by its present ECX_TGT (log entry 33). -/
def State.targetActive (s : State) (t : Nat) : Bool := s.ecx.claims.any (fun c => s.tgtOf c.src == t)

/-- A range of bytes lies wholly in SRAM. -/
def inSram (a n : Nat) : Bool := decide (0x10000000 ≤ a ∧ a + n ≤ 0x10800000)

/-- A write to ECX_TCTL (R172). -/
def State.writeTctl (s : State) (t : Nat) (v : Word) : State :=
  let cur := s.queueMode t
  let new := bitOf v 0
  let q := fieldOf v 8 4
  let qchg := q != s.fld (ECX_TCTL t) 8 4
  let busy := s.ecx.recWrites.any (fun e => e.1 == t)
  let badState :=
    if !cur && new then s.targetActive t
    else if cur && !new then s.rg (ECX_QWR t) != s.rg (ECX_QRD t) || busy || qchg
    else cur && qchg
  let badArg := !cur && new && !inSram (s.rg (ECX_QBASE t)).toNat (16 * 2 ^ q)
  s.command ecxPort false badState badArg (fun u =>
    let u1 := u.setRg (ECX_TCTL t) (v &&& 0xF01)
    if !cur && new then
      let u2 := (u1.setRg (ECX_QWR t) 0).setRg (ECX_QRD t) 0
      { u2 with ecx := { u2.ecx with
        ringSrc := u2.ecx.ringSrc.filter (fun e => e.1 != t), fullReported := u2.ecx.fullReported.filter (· != t) } }
    else u1)

/-- ECX_TCTL_WRITE (R172). -/
def execEcxTctlWrite (i : Initiator) (t : Fin 5) (v : Word) (s : State) : Out :=
  done (s.guardW i (ECX_TCTL t.val) v (fun u => u.writeTctl t.val v))

/-- A write to ECX_QBASE (R172). -/
def State.writeQbase (s : State) (t : Nat) (v : Word) : State :=
  s.command ecxPort false (s.queueMode t) false (fun u => u.setRg (ECX_QBASE t) (v &&& 0xFFFFFFE0))

/-- ECX_QBASE_WRITE (R172). -/
def execEcxQbaseWrite (i : Initiator) (t : Fin 5) (v : Word) (s : State) : Out :=
  done (s.guardW i (ECX_QBASE t.val) v (fun u => u.writeQbase t.val v))

/-! ### Queue mode (R173 to R178) -/

/-- The ring of target `t` is full (R177). -/
def State.ringFull (s : State) (t : Nat) : Bool :=
  ((s.rg (ECX_QWR t)).toNat + 1) % s.ringSlots t == (s.rg (ECX_QRD t)).toNat % s.ringSlots t

/-- The sources whose records wait in target `t`'s ring, oldest first. -/
def State.ringOf (s : State) (t : Nat) : List Nat :=
  match s.ecx.ringSrc.find? (fun e => e.1 == t) with
  | some e => e.2
  | none => []

/-- Replace the list of sources in a ring. -/
def State.setRing (s : State) (t : Nat) (l : List Nat) : State :=
  { s with ecx := { s.ecx with ringSrc := (t, l) :: s.ecx.ringSrc.filter (fun e => e.1 != t) } }

/-- The stamp of a source (R174). -/
def State.stampOf (s : State) (src : Nat) : EcxStamp :=
  match s.ecx.stamps.find? (fun e => e.1 == src) with
  | some e => e.2
  | none => { beat := 0, offs := 0, sw := false }

/-- QUEUE_RECORD_WRITE (R173, R177): the ECX begins a record for the lowest eligible source of a queue-mode
target, or, where the ring is full, sets QOVF and raises source 17 once. It waits while shadow copies run. -/
def execQueueRecordWrite (t : Fin 5) (s : State) : Out :=
  done (
    if s.beat.copying.isEmpty && s.queueMode t.val && !s.bit (ECX_TSTAT t.val) 1 &&
        !(s.ecx.recWrites.any (fun e => e.1 == t.val)) then
      match s.lowestEligible t.val with
      | none => s
      | some src =>
        if s.ringFull t.val then
          if s.ecx.fullReported.contains t.val then s
          else
            let s1 := s.event (ECX_TSTAT t.val) 0 17
            { s1 with ecx := { s1.ecx with fullReported := t.val :: s1.ecx.fullReported } }
        else
          { s with ecx := { s.ecx with recWrites := (t.val, src) :: s.ecx.recWrites } }
    else s)

/-- The four words of a queue record of source `src` (R174), as its write completes. -/
def State.recordWords (s : State) (src : Nat) (seq : Word) : List Nat :=
  let p := s.stampOf src
  [src + (if s.isLevel src then 0x10000 else 0) + (if s.lvlOf src then 0x20000 else 0) + (if p.sw then 0x40000 else 0),
   p.beat % 0x100000000, p.offs + p.beat / 0x100000000 % 65536 * 65536, seq.toNat]

/-- Write a list of words to SRAM from `a` up, as initiator code 5; stops at the first error. A record goes out as four word
writes, each a read-modify-write of its doubleword (DESIGN CHOICE; log entry 33). -/
def State.writeWords (s : State) : Nat → List Nat → Bool × State
  | _, [] => (true, s)
  | a, w :: ws =>
    match s.memWrite .sram none a 4 w with
    | (false, t) => (false, t.ferr .dma a true .word .uncorr)
    | (true, t) => State.writeWords t (a + 4) ws

/-- QUEUE_RECORD_DONE (R173, R174, R178): the record write of target `t` completes. -/
def execQueueRecordDone (t : Fin 5) (s : State) : Out :=
  done (
    match s.ecx.recWrites.find? (fun e => e.1 == t.val) with
    | none => s
    | some (_, src) =>
      let s0 := { s with ecx := { s.ecx with recWrites := s.ecx.recWrites.filter (fun e => e.1 != t.val) } }
      let slot := (s0.rg (ECX_QWR t.val)).toNat
      match s0.writeWords ((s0.rg (ECX_QBASE t.val)).toNat + 16 * slot) (s0.recordWords src (s0.rg (ECX_QSEQ t.val))) with
      | (false, s1) => s1.event (ECX_TSTAT t.val) 1 17
      | (true, s1) =>
        let s2 := s1.setRg (ECX_QWR t.val) (w32 ((slot + 1) % s1.ringSlots t.val))
        let s3 := s2.setRg (ECX_QSEQ t.val) (s2.rg (ECX_QSEQ t.val) + 1)
        (s3.deliver src t.val (.queue t.val)).setRing t.val (s3.ringOf t.val ++ [src]))

/-- A write to ECX_QRD (R176): the records before slot N are consumed and their sources completed. -/
def State.writeQrd (s : State) (t : Nat) (v : Word) : State :=
  let n := fieldOf v 0 12
  let slots := s.ringSlots t
  let rd := (s.rg (ECX_QRD t)).toNat
  let wr := (s.rg (ECX_QWR t)).toNat
  let k := (n + slots - rd % slots) % slots
  let held := (wr + slots - rd % slots) % slots
  s.command ecxPort false (!s.queueMode t) (decide (slots ≤ n) || decide (held < k)) (fun u =>
    let u1 := (u.setRg (ECX_QRD t) (w32 n)).setRing t ((u.ringOf t).drop k)
    let u2 := if k = 0 then u1 else { u1 with ecx := { u1.ecx with fullReported := u1.ecx.fullReported.filter (· != t) } }
    ((u.ringOf t).take k).foldl (fun x src => x.complete src) u2)

/-- ECX_QRD_WRITE (R176). -/
def execEcxQrdWrite (i : Initiator) (t : Fin 5) (v : Word) (s : State) : Out :=
  done (s.guardW i (ECX_QRD t.val) v (fun u => u.writeQrd t.val v))

/-- HOLDOFF_END (R180): the hold-off of group `g` for target `t` ends. -/
def execHoldoffEnd (g : Fin 32) (t : Fin 6) (s : State) : Out :=
  done { s with ecx := { s.ecx with holdoff := s.ecx.holdoff.filter (fun p => p != (g.val, t.val)) } }

end Sys2Proof.Machine
end

