-- ==== Sys2Proof/Machine/Dis.lean ====
section
/-! DEFINITION. The Dispatcher (spec/05): descriptors, commands, posting, delay lists, hand-over, palm slots,
completion and event-bound tasks. Where the spec leaves a choice among tasks or descriptors open, the
command carries it as `pick`. -/

namespace Sys2Proof.Machine

/-! ### Descriptors -/

/-- Descriptor `n` (R134, R135). -/
def State.desc (s : State) (n : Nat) : Desc := smGet (fun _ => Desc.blank) s.dis.desc n

/-- Store descriptor `n`. -/
def State.setDesc (s : State) (n : Nat) (d : Desc) : State :=
  { s with dis := { s.dis with desc := smSet (fun _ => Desc.blank) s.dis.desc n d } }

/-- Number of FREE descriptors: an unlisted descriptor is FREE. -/
def State.freeCount (s : State) : Nat := 4096 - (s.dis.desc.filter (fun e => e.2.state != .free)).length

/-- Descriptors that are FREE, in ascending order. -/
def State.freeList (s : State) : List Nat := (List.range 4096).filter (fun n => (s.desc n).state == .free)

/-- A descriptor leaves FREE: when the count falls from LOWMARK to LOWMARK − 1, source 36 (R142). -/
def State.lowCheck (s : State) (before : Nat) : State :=
  let mark := s.fld DIS_LOWMARK 0 13
  if mark ≠ 0 ∧ before = mark ∧ s.freeCount + 1 = mark then s.event DIS_EVT 4 36 else s

/-- Word `w` of a descriptor as DIS_DWIN shows it (R135). -/
def Desc.word (d : Desc) (w : Nat) : Word :=
  match w with
  | 0 => d.entry
  | 1 => d.arg
  | 2 => w32 (d.prio + 16 * d.cores + 256 * d.dlist + 4096 * d.kind.code + 65536 * d.state.code + 16777216 * d.core)
  | 3 => d.delay
  | 4 => w32 d.wake
  | 5 => w32 (d.wake / 0x100000000)
  | 6 => w32 ((if d.sen then 0x80000000 else 0) + (if d.sargt then 0x40000000 else 0) + d.sidx)
  | _ => d.tag

/-- A descriptor with the RW fields of word `w` written (R135, R137). -/
def Desc.setWord (d : Desc) (w : Nat) (v : Word) : Desc :=
  match w with
  | 0 => { d with entry := v }
  | 1 => { d with arg := v }
  | 2 => { d with prio := fieldOf v 0 4, cores := fieldOf v 4 4, dlist := fieldOf v 8 3 }
  | 3 => { d with delay := v }
  | 6 => { d with sen := bitOf v 31, sargt := bitOf v 30, sidx := fieldOf v 0 12 }
  | 7 => { d with tag := v }
  | _ => d

/-- An ENTRY that a TEMPLATE or BOUND descriptor may hold (R135). -/
def entryOk (v : Word) : Bool := v != 0 && fieldOf v 0 2 == 0

/-- The descriptor's successor field names a TEMPLATE, or the descriptor itself where that is allowed (R137, R138). -/
def State.successorOk (s : State) (n : Nat) (self : Bool) (d : Desc) : Bool :=
  !d.sen || (s.desc d.sidx).state == .template || (self && d.sidx == n)

/-- The Dispatcher's view of core `n`. -/
def State.disCore (s : State) (n : Nat) : DisCore := smGet (fun _ => DisCore.blank) s.dis.cores n

/-- Store the Dispatcher's view of core `n`. -/
def State.setDisCore (s : State) (n : Nat) (k : DisCore) : State :=
  { s with dis := { s.dis with cores := smSet (fun _ => DisCore.blank) s.dis.cores n k } }

/-- DIS_TIME (R143). -/
def State.disTime (s : State) : Nat := s.rg64 DIS_TIME_LO

/-- The descriptors of delay list `l`, in order of WAKE (R144). -/
def State.delayList (s : State) (l : Nat) : List Nat := smGet (fun _ => []) s.dis.dlists l

/-- Replace a delay list. -/
def State.setDelayList (s : State) (l : Nat) (d : List Nat) : State :=
  { s with dis := { s.dis with dlists := smSet (fun _ => []) s.dis.dlists l d } }

/-- Insert a descriptor by WAKE, after those of equal WAKE (R144). -/
def insertByWake (wake : Nat → Nat) (n w : Nat) : List Nat → List Nat
  | [] => [n]
  | m :: l => if w < wake m then n :: m :: l else m :: insertByWake wake n w l

/-- Make a descriptor READY, or DELAYED when its DELAY is not 0 (R138, R140, R153). -/
def State.makeReady (s : State) (n : Nat) : State :=
  let d := s.desc n
  if d.delay = 0 then s.setDesc n { d with state := .ready, core := 0, wake := 0 }
  else
    let w := (s.disTime + d.delay.toNat) % 2 ^ 64
    let s1 := s.setDesc n { d with state := .delayed, core := 0, wake := w }
    s1.setDelayList d.dlist (insertByWake (fun m => (s1.desc m).wake) n w (s1.delayList d.dlist))

/-- Complete at the Event Concentrator the source that made bound descriptor `n` READY, if one did (R151). -/
def State.completeBound (s : State) (n : Nat) : State :=
  match s.dis.madeReadyBy.find? (fun e => e.1 == n) with
  | none => s
  | some e =>
    ({ s with dis := { s.dis with madeReadyBy := s.dis.madeReadyBy.filter (fun x => x.1 != n) } }).complete e.2

/-- A descriptor becomes FREE: every word is cleared (R580). -/
def State.freeDesc (s : State) (n : Nat) : State := s.setDesc n Desc.blank

/-- A task leaves the Dispatcher's hands: posted becomes FREE, bound becomes BOUND with its source completed. -/
def State.releaseTask (s : State) (n : Nat) : State :=
  let d := s.desc n
  match d.kind with
  | .bound => (s.setDesc n { d with state := .bound, core := 0, wake := 0 }).completeBound n
  | _ => s.freeDesc n

/-- CANCEL of a READY or DELAYED task (R138). -/
def State.cancelTask (s : State) (n : Nat) : State :=
  let d := s.desc n
  let s1 := if d.state = .delayed then s.setDelayList d.dlist ((s.delayList d.dlist).filter (fun m => m != n)) else s
  s1.releaseTask n

/-! ### Commands (R137 to R139) -/

/-- The Dispatcher's command port. -/
def disPort : CmdPort := { st := DIS_CMDST, rejects := DIS_REJECT, evt := some (DIS_EVT, 0), src := some 32 }

/-- A template is named by the successor field of some descriptor that is not FREE (R139). -/
def State.templateUsed (s : State) (n : Nat) : Bool :=
  s.dis.desc.any (fun e => e.2.state != .free && e.2.sen && e.2.sidx == n)

/-- An enabled DIS_BIND entry names descriptor `n` (R139). -/
def State.boundByEntry (s : State) (n : Nat) : Bool :=
  (List.range 64).any (fun k => s.bit (DIS_BIND k) 31 && s.fld (DIS_BIND k) 16 12 == n)

/-- MKTPL or MKBND (R138). -/
def State.disMake (s : State) (n : Nat) (tpl : Bool) : State :=
  let d := s.desc n
  let bad := !entryOk d.entry || d.cores == 0 || !s.successorOk n tpl d
  s.command disPort false (s.dis.busy || d.state != .free) bad (fun t =>
    let t1 := t.setDesc n { d with state := if tpl then .template else .bound, kind := if tpl then .template else .bound }
    t1.lowCheck t.freeCount)

/-- FREE (R138, R139, R156). -/
def State.disFree (s : State) (n : Nat) : State :=
  let d := s.desc n
  let legal := d.state == .template || d.state == .bound || d.state == .halted
  let held := (d.state == .template && s.templateUsed n) || (d.state == .bound && s.boundByEntry n)
  s.command disPort false (s.dis.busy || !legal || held) false (fun t =>
    if d.state = .halted ∧ d.kind = .bound then (t.completeBound n).freeDesc n else t.freeDesc n)

/-- READY (R138, R156). -/
def State.disReady (s : State) (n : Nat) : State :=
  let d := s.desc n
  s.command disPort false (s.dis.busy || !(d.state == .bound || d.state == .halted)) false (fun t =>
    if d.state = .halted ∧ d.kind = .bound then (t.completeBound n).makeReady n else t.makeReady n)

/-- CANCEL (R138). -/
def State.disCancel (s : State) (n : Nat) : State :=
  let st := (s.desc n).state
  s.command disPort false (s.dis.busy || !(st == .ready || st == .delayed)) false (fun t => t.cancelTask n)

/-- FLUSH of delay list IDX[2:0] (R138). -/
def State.disFlush (s : State) (idx : Nat) : State :=
  s.command disPort false s.dis.busy (decide (8 ≤ idx)) (fun t =>
    let t1 := (t.delayList (idx % 8)).foldl (fun u n => u.cancelTask n) t
    { t1 with dis := { t1.dis with busy := true } })

/-- A write to DIS_CMD (R138). -/
def State.writeDisCmd (s : State) (v : Word) : State :=
  let idx := fieldOf v 0 12
  match fieldOf v 28 4 with
  | 1 => s.disMake idx true
  | 2 => s.disMake idx false
  | 3 => s.disFree idx
  | 4 => s.disReady idx
  | 5 => s.disCancel idx
  | 6 => s.disFlush idx
  | _ => s

/-- The DIS_CMD word of an operation. -/
def disWord (op idx : Nat) : Word := w32 (op * 0x10000000 + idx)

/-- MKTPL. -/
def execMktpl (i : Initiator) (idx : Fin 4096) (s : State) : Out :=
  done (s.guardW i DIS_CMD (disWord 1 idx.val) (fun t => t.disMake idx.val true))

/-- MKBND. -/
def execMkbnd (i : Initiator) (idx : Fin 4096) (s : State) : Out :=
  done (s.guardW i DIS_CMD (disWord 2 idx.val) (fun t => t.disMake idx.val false))

/-- DIS_FREE. -/
def execDisFree (i : Initiator) (idx : Fin 4096) (s : State) : Out :=
  done (s.guardW i DIS_CMD (disWord 3 idx.val) (fun t => t.disFree idx.val))

/-- DIS_READY. -/
def execDisReady (i : Initiator) (idx : Fin 4096) (s : State) : Out :=
  done (s.guardW i DIS_CMD (disWord 4 idx.val) (fun t => t.disReady idx.val))

/-- DIS_CANCEL. -/
def execDisCancel (i : Initiator) (idx : Fin 4096) (s : State) : Out :=
  done (s.guardW i DIS_CMD (disWord 5 idx.val) (fun t => t.disCancel idx.val))

/-- DIS_FLUSH. -/
def execDisFlush (i : Initiator) (idx : Fin 4096) (s : State) : Out :=
  done (s.guardW i DIS_CMD (disWord 6 idx.val) (fun t => t.disFlush idx.val))

/-- A write to DIS_DWIN[w] (R137). -/
def State.writeDwin (s : State) (w : Nat) (v : Word) : State :=
  let n := s.fld DIS_DSEL 0 12
  let d := s.desc n
  let set := d.state == .template || d.state == .bound
  let d1 := d.setWord w v
  let bad := set &&
    ((w == 0 && !entryOk v) || (w == 2 && d1.cores == 0) || (w == 6 && !s.successorOk n (d.state == .template) d1))
  s.command disPort false (s.dis.busy || !(set || d.state == .free)) bad (fun t => t.setDesc n d1)

/-- DIS_DWIN_WRITE (R137). -/
def execDisDwinWrite (i : Initiator) (w : Fin 8) (v : Word) (s : State) : Out :=
  done (s.guardW i (DIS_DWIN w.val) v (fun t => t.writeDwin w.val v))

/-! ### Time (R143, R144) -/

/-- A write to DIS_TICK: STATE while any delay list holds a descriptor. -/
def State.writeTick (s : State) (v : Word) : State :=
  s.command disPort false (s.dis.busy || (List.range 8).any (fun l => s.delayList l != [])) false
    (fun t => t.setRg DIS_TICK (v &&& 0x7F))

/-- DIS_TICK_WRITE (R143). -/
def execDisTickWrite (i : Initiator) (v : Word) (s : State) : Out :=
  done (s.guardW i DIS_TICK v (fun t => t.writeTick v))

/-- DIS_TIME_TICK (R143). -/
def execDisTimeTick (s : State) : Out := done (s.setRg64 DIS_TIME_LO (s.disTime + 1))

/-- DELAY_WAKE (R144): the first descriptor of delay list `l` is due and moves to its ready list. -/
def execDelayWake (l : Fin 8) (s : State) : Out :=
  done (
    match s.delayList l.val with
    | [] => s
    | n :: rest =>
      let d := s.desc n
      if d.wake ≤ s.disTime then (s.setDelayList l.val rest).setDesc n { d with state := .ready, wake := 0 } else s)

/-! ### Posting (R140 to R142, R151, R152) -/

/-- A NOSLOT result (R141). -/
def State.noslot (s : State) : State := (s.count DIS_NOSLOTCNT 1).event DIS_EVT 1 33

/-- Take a FREE descriptor for template `tpl` with argument `arg`: `pick` chooses which, as the spec leaves open
(R140). Answers the index and the state, or nothing where none is FREE. -/
def State.postFrom (s : State) (tpl : Nat) (arg : Word) (pick : Nat) : Option (Nat × State) :=
  let free := s.freeList
  match free[pick % max 1 free.length]? with
  | none => none
  | some n =>
    let t := s.desc tpl
    let d : Desc := { t with arg := arg, kind := .posted, state := .ready, core := 0, wake := 0 }
    some (n, ((s.setDesc n d).makeReady n).lowCheck s.freeCount)

/-- POST as the Dispatcher serves it: the status word of R129 and the state. -/
def State.post (s : State) (tpl : Nat) (arg : Word) (pick : Nat) : Word × State :=
  if 4096 ≤ tpl ∨ (s.desc tpl).state ≠ .template then (3, s)
  else
    let reserve := min 4096 (s.fld DIS_ADMIT 0 13)
    if decide (s.fld DIS_ADMIT 16 4 < (s.desc tpl).prio) && decide (s.freeCount ≤ reserve) then (1, s.noslot)
    else
      match s.postFrom tpl arg pick with
      | none => (1, s.noslot)
      | some (n, t) => (w32 (n * 65536), t)

/-- DONE of core `n` as the Dispatcher serves it (R128, R151, R152): the result and the state. -/
def State.taskDone (s : State) (n : Nat) (pick : Nat) : Word × State :=
  match (s.disCore n).cur with
  | none => (1, s)
  | some idx =>
    let d := s.desc idx
    let s1 := (s.releaseTask idx).setDisCore n { s.disCore n with cur := none }
    if !d.sen then (0, s1)
    else
      let arg := if d.sargt then (s1.desc d.sidx).arg else d.arg
      match s1.postFrom d.sidx arg pick with
      | some (_, t) => (0, t)
      | none =>
        let s2 := (s1.setRg (DIS_SUCC_IDX n) (w32 (0x80000000 + d.sidx))).setRg (DIS_SUCC_ARG n) arg
        (2, s2.noslot)

/-! ### Waits for the Dispatcher (R131, R138) -/

/-- While shadow copies run or a FLUSH is in progress, each POST, DONE, hand-over and filling of a palm slot waits. -/
def State.disWaits (s : State) : Bool := !s.beat.copying.isEmpty || s.dis.busy

/-- The DONE or POST of core `c` that waits is served, and retires. -/
def State.serveDisp (s : State) (c : CoreId) : State :=
  let finish := fun (u : State) (d : Nat) (r : Word) =>
    u.setCore c { (u.core c).setReg d r with run := .running, pc := (u.core c).pc + 4 }
  match (s.core c).run with
  | .disp d (.done pick) => let (r, u) := s.taskDone c.num pick; finish u d r
  | .disp d (.post tpl arg pick) => let (r, u) := s.post tpl arg pick; finish u d r
  | _ => s

/-- Once nothing is waited for, the waiting instructions are served, in ascending order of their cores (DESIGN CHOICE; log
entry 8). -/
def State.serveWaiting (s : State) : State := if s.disWaits then s else allCores.foldl (fun t c => t.serveDisp c) s

/-- FLUSH_DONE (R138): the waits for the FLUSH end. -/
def execFlushDone (s : State) : Out := done { s with dis := { s.dis with busy := false } }.serveWaiting

/-- CG_APPLIED (R67): the copies of applied group `n` have finished. The copy time is the part's own: a free
value of at most 6,400 cycles (log entry 2). The waits of R131 end with the last copies. -/
def execCgApplied (n : Fin 8) (s : State) : Out :=
  done (
    if s.beat.copying.contains n.val then
      let (f, t0) := s.draw
      let t := f % 6401
      let s1 := ((t0.setFld (CG_STAT n.val) 0 3 G_APPLIED).setBit BEAT_EVT 0 true).raise 3
      let s2 := { s1 with beat := { s1.beat with copying := s1.beat.copying.filter (fun k => k != n.val) } }
      let last := max t (s2.fld BEAT_BRIMUSE 0 16)
      ((s2.setFld BEAT_BRIMUSE 0 16 last).setFld BEAT_BRIMUSE 16 16 (max last (s2.fld BEAT_BRIMUSE 16 16))).serveWaiting
    else s)

/-! ### Hand-over and palm slots (R145 to R150) -/

/-- Core `n` is in Palm mode (R150). -/
def State.palm (s : State) (n : Nat) : Bool := s.bit (DIS_CORE n) 0

/-- Core `n` is blocked in TAKE: the destination register where it is. -/
def State.inTake (s : State) (n : Nat) : Option Nat :=
  match (s.core (CoreId.app ⟨n % 4, Nat.mod_lt n (by decide)⟩)).run with
  | .take d => some d
  | _ => none

/-- A descriptor is eligible for core `n` (R145). -/
def State.taskEligible (s : State) (idx n : Nat) : Bool :=
  let d := s.desc idx
  d.state == .ready && (d.cores >>> n) % 2 == 1 && decide (d.prio ≤ s.fld (DIS_CORE n) 8 4)

/-- The eligible READY tasks of core `n` on the lowest-numbered ready list that holds one (R145). -/
def State.candidates (s : State) (n : Nat) : List Nat :=
  let el := (s.dis.desc.map (fun e => e.1)).filter (fun i => s.taskEligible i n)
  let best := el.foldl (fun m i => min m (s.desc i).prio) 16
  el.filter (fun i => (s.desc i).prio == best)

/-- The task that `pick` chooses among the candidates of core `n`. -/
def State.choose (s : State) (n pick : Nat) : Option Nat :=
  let l := s.candidates n
  l[pick % max 1 l.length]?

/-- Core `n` can receive a task: blocked in TAKE in Ask mode, or an empty slot in Palm mode (R147). -/
def State.canReceive (s : State) (n : Nat) : Bool :=
  if s.palm n then (s.disCore n).slot.isNone else (s.inTake n).isSome

/-- Core `n` is the lowest-numbered core that can receive the task (R147). -/
def State.firstReceiver (s : State) (idx n : Nat) : Bool :=
  (List.range n).all (fun m => !(s.canReceive m && s.taskEligible idx m))

/-- Deliver a task to core `n`: it becomes RUNNING and current, and gd and g(d+1) take ENTRY and ARG (R125). -/
def State.deliverTask (s : State) (n idx d : Nat) : State :=
  let c := CoreId.app ⟨n % 4, Nat.mod_lt n (by decide)⟩
  let t := s.desc idx
  let s1 := s.setDesc idx { t with state := .running, core := n }
  let s2 := s1.setDisCore n { s1.disCore n with cur := some idx }
  s2.setCore c (((s2.core c).setReg d t.entry).setReg (d + 1) t.arg)

/-- A wake condition of a stopped core ends Doze (R549). -/
def State.leaveDoze (s : State) : State :=
  if s.pwr = .doze then { s with pwr := .run }.setFld PWR_STAT 0 2 0 else s

/-- A blocked TAKE of core `n` retires with a task (R126), which is the core's wake condition (R549). -/
def State.retireTake (s : State) (n idx d : Nat) : State :=
  let c := CoreId.app ⟨n % 4, Nat.mod_lt n (by decide)⟩
  let s1 := s.deliverTask n idx d
  (s1.setCore c { s1.core c with run := .running, pc := (s1.core c).pc + 4 }).leaveDoze

/-- TASK_HANDOVER (R147): to core `n`, blocked in TAKE in Ask mode. -/
def execTaskHandover (n : Fin 4) (pick : Nat) (s : State) : Out :=
  done (
    if s.palm n.val || s.disWaits then s
    else
      match s.inTake n.val, s.choose n.val pick with
      | some d, some idx => if s.firstReceiver idx n.val then s.retireTake n.val idx d else s
      | _, _ => s)

/-- Put a task into the palm slot of core `n`; a TAKE waiting for the slot receives it at once (R126, R148). -/
def State.fillSlot (s : State) (n idx : Nat) : State :=
  match s.inTake n with
  | some d => s.retireTake n idx d
  | none =>
    let s1 := s.setDesc idx { s.desc idx with state := .slotted, core := n }
    s1.setDisCore n { s1.disCore n with slot := some idx, slotAt := s1.disTime }

/-- The slotted task of core `n` returns to READY. -/
def State.unslot (s : State) (n : Nat) : State :=
  match (s.disCore n).slot with
  | none => s
  | some idx =>
    let s1 := s.setDesc idx { s.desc idx with state := .ready, core := 0 }
    s1.setDisCore n { s1.disCore n with slot := none, slotAt := 0 }

/-- SLOT_FILL (R148): the empty palm slot of core `n` is filled. -/
def execSlotFill (n : Fin 4) (pick : Nat) (s : State) : Out :=
  done (
    if !s.palm n.val || s.disWaits || (s.disCore n.val).slot.isSome then s
    else
      match s.choose n.val pick with
      | some idx => if s.firstReceiver idx n.val then s.fillSlot n.val idx else s
      | none => s)

/-- SLOT_SWAP (R148): a READY task of a lower PRIO number replaces the slotted one. -/
def execSlotSwap (n : Fin 4) (pick : Nat) (s : State) : Out :=
  done (
    if !s.palm n.val || s.disWaits then s
    else
      match (s.disCore n.val).slot, s.choose n.val pick with
      | some old, some idx =>
        if (s.desc idx).prio < (s.desc old).prio then (s.unslot n.val).fillSlot n.val idx else s
      | _, _ => s)

/-- SLOT_MIGRATE (R149): a task slotted in core `n` longer than SLOTAGE moves to the lowest-numbered Ask-mode core
that is blocked in TAKE and may run it. -/
def execSlotMigrate (n : Fin 4) (s : State) : Out :=
  done (
    let age := s.fld (DIS_CORE n.val) 16 16
    match (s.disCore n.val).slot with
    | none => s
    | some idx =>
      if age ≠ 0 ∧ age < s.disTime - (s.disCore n.val).slotAt ∧ s.disWaits = false then
        let t := s.unslot n.val
        match (List.range 4).find? (fun m => m != n.val && !t.palm m && (t.inTake m).isSome && t.taskEligible idx m) with
        | none => s
        | some m =>
          match t.inTake m with
          | some d => t.retireTake m idx d
          | none => s
      else s)

/-- A write to DIS_CORE (R150). -/
def State.writeDisCore (s : State) (n : Nat) (v : Word) : State :=
  let s1 := s.setRg (DIS_CORE n) (v &&& 0xFFFF0F01)
  match (s1.disCore n).slot with
  | none => s1
  | some idx =>
    if !s1.palm n || decide (s1.fld (DIS_CORE n) 8 4 < (s1.desc idx).prio) then s1.unslot n else s1

/-- DIS_CORE_WRITE (R150). -/
def execDisCoreWrite (i : Initiator) (n : Fin 4) (v : Word) (s : State) : Out :=
  done (s.guardW i (DIS_CORE n.val) v (fun t => t.writeDisCore n.val v))

/-! ### Event-bound tasks (R153 to R155, R179) -/

/-- A write to DIS_BIND[k] (R154). -/
def State.writeBind (s : State) (k : Nat) (v : Word) : State :=
  let en := bitOf v 31
  let src := fieldOf v 0 10
  let idx := fieldOf v 16 12
  let badState := (en && (s.desc idx).state != .bound) ||
    (s.bit (DIS_BIND k) 31 && (s.desc (s.fld (DIS_BIND k) 16 12)).state != .bound)
  let dup := (List.range 64).any (fun j => j != k && s.bit (DIS_BIND j) 31 && s.fld (DIS_BIND j) 0 10 == src)
  s.command disPort false (s.dis.busy || badState) (en && (!liveSource src || dup)) (fun t =>
    let t1 := t.setRg (DIS_BIND k) (v &&& 0x8FFF03FF)
    { t1 with dis := { t1.dis with unboundSeen := [] } })

/-- DIS_BIND_WRITE (R154). -/
def execDisBindWrite (i : Initiator) (k : Fin 64) (v : Word) (s : State) : Out :=
  done (s.guardW i (DIS_BIND k.val) v (fun t => t.writeBind k.val v))

/-- The descriptor an enabled DIS_BIND entry binds a source to. -/
def State.bindingOf (s : State) (src : Nat) : Option Nat :=
  ((List.range 64).find? (fun k => s.bit (DIS_BIND k) 31 && s.fld (DIS_BIND k) 0 10 == src)).map
    (fun k => s.fld (DIS_BIND k) 16 12)

/-- The source the ECX offers the Dispatcher next: ascending from the last offer, then from the lowest (R179). -/
def State.nextOffer (s : State) : Option Nat :=
  let from0 := s.ecx.offerAt
  match (List.range 1024).find? (fun n => decide (from0 ≤ n) && s.eligible n 5) with
  | some n => some n
  | none => s.lowestEligible 5

/-- ECX_OFFER (R179, R153, R155). -/
def execEcxOffer (s : State) : Out :=
  done (
    match s.nextOffer with
    | none => s
    | some src =>
      let s0 := { s with ecx := { s.ecx with offerAt := src + 1 } }
      match s0.bindingOf src with
      | some idx =>
        if (s0.desc idx).state = .bound then
          let s1 := s0.deliver src 5 .dispatcher
          let s2 := { s1 with dis := { s1.dis with madeReadyBy := (idx, src) :: s1.dis.madeReadyBy.filter (fun e => e.1 != idx) } }
          s2.makeReady idx
        else s0
      | none =>
        if s0.dis.unboundSeen.contains src then s0
        else
          let s1 := (s0.setRg DIS_UNBOUND (w32 src)).event DIS_EVT 3 35
          { s1 with dis := { s1.dis with unboundSeen := src :: s1.dis.unboundSeen } })

/-! ### Core reset and what the registers show -/

/-- The Dispatcher's part of a reset of core `n` alone (R156). -/
def State.disCoreReset (s : State) (n : Nat) : State :=
  let s1 := s.unslot n
  match (s1.disCore n).cur with
  | none => s1
  | some idx =>
    let s2 := s1.setDesc idx { s1.desc idx with state := .halted, core := n }
    (s2.setDisCore n { s2.disCore n with cur := none }).event DIS_EVT 2 34

/-- DIS_STAT, DIS_RDYMAP, DIS_DLYMAP, DIS_CSTAT and DIS_DWIN as they read. -/
def State.disShow (s : State) (a : Nat) : Option Word :=
  if a = DIS_STAT then some (w32 (s.freeCount + (if s.dis.busy then 65536 else 0)))
  else if a = DIS_RDYMAP then
    some (wordOfBits ((s.dis.desc.filter (fun e => e.2.state == .ready)).map (fun e => e.2.prio)))
  else if a = DIS_DLYMAP then some (wordOfBits ((List.range 8).filter (fun l => s.delayList l != [])))
  else if DIS_CSTAT 0 ≤ a ∧ a ≤ DIS_CSTAT 3 then
    let n := (a - DIS_CSTAT 0) / 4
    let k := s.disCore n
    let slot := match k.slot with
      | some i => 0x80000000 + i * 65536
      | none => 0
    let cur := match k.cur with
      | some i => 0x8000 + i
      | none => 0
    some (w32 (slot + cur + (if (s.inTake n).isSome then 0x4000 else 0)))
  else if DIS_DWIN 0 ≤ a ∧ a ≤ DIS_DWIN 7 then
    some ((s.desc (s.fld DIS_DSEL 0 12)).word ((a - DIS_DWIN 0) / 4))
  else none

end Sys2Proof.Machine
end

