-- ==== Sys2Proof/Machine/Gauntlet.lean ====
section
/-! DEFINITION. The Gauntlet (spec/08): its log, the watchdog, the fault manager's commands, the key store and
the start of crypto operations. What ends in a reset of the device stands in Machine/Edge.lean, and the crypto
engine's work, which reaches memory and registers, in Machine/CryptoRun.lean. -/

namespace Sys2Proof.Machine

/-! ### Log (R211) -/

/-- GNT_LOGPOP (R211): the oldest entry is removed. -/
def State.writeLogpop (s : State) (v : Word) : State :=
  if bitOf v 0 then { s with gnt := { s.gnt with log := s.gnt.log.drop 1 } } else s

/-- GNT_LOGPOP. -/
def execGntLogpop (i : Initiator) (s : State) : Out := done (s.guardW i GNT_LOGPOP 1 (fun t => t.writeLogpop 1))

/-! ### Watchdog (R214 to R217) -/

/-- The watchdog's command port. -/
def wdgPort : CmdPort := { st := WDG_CMDST, rejects := WDG_REJECT, evt := none, src := some 102 }

/-- COUNT restarts: a new service interval (R215). -/
def State.wdgRestart (s : State) : State :=
  let t := s.setRg WDG_COUNT 0
  { t with gnt := { t.gnt with wdgWarned := false } }

/-- The KICK sequence stands at its second value. -/
def State.wdgSeqTo (s : State) (b : Bool) : State := { s with gnt := { s.gnt with wdgSeq := b } }

/-- A violation: REASON 1 LATE, 2 EARLY, 3 BADKEY (R216); none is recorded during the grace time. -/
def State.wdgViolation (s : State) (reason : Nat) : State :=
  if s.gnt.wdgGrace.isSome then s
  else
    let s1 := ((s.wdgSeqTo false).setFld WDG_STAT 0 2 reason).raise 101
    if s1.bit WDG_CFG 1 then s1.wdgRestart
    else { s1 with gnt := { s1.gnt with wdgGrace := some reason } }

/-- A write to WDG_KICK (R214). -/
def State.writeWdgKick (s : State) (v : Word) : State :=
  if !s.bit WDG_CFG 0 then s.wdgSeqTo false
  else if s.gnt.wdgGrace.isSome then s
  else if v = 0xC35A ∧ s.gnt.wdgSeq = false then s.wdgSeqTo true
  else if v = 0x3CA5 ∧ s.gnt.wdgSeq = true then
    if (s.rg WDG_COUNT).toNat < (s.rg WDG_OPEN).toNat then s.wdgViolation 2 else (s.wdgSeqTo false).wdgRestart
  else s.wdgViolation 3

/-- A write to WDG_CFG (R217). -/
def State.writeWdgCfg (s : State) (v : Word) : State :=
  let late := (s.rg WDG_TIMEOUT).toNat
  let bad := bitOf v 0 && !decide ((s.rg WDG_OPEN).toNat < late ∧ (s.rg WDG_WARN).toNat < late)
  s.command wdgPort false (s.bit WDG_CFG 0) bad (fun t =>
    let u := t.setRg WDG_CFG (v &&& 0x3FF0007)
    if bitOf v 0 then (u.wdgSeqTo false).wdgRestart else u)

/-- A write to WDG_TIMEOUT, WDG_OPEN or WDG_WARN, at `a` (R217). -/
def State.writeWdgLimit (s : State) (a : Nat) (v : Word) : State :=
  s.command wdgPort false (s.bit WDG_CFG 0) false (fun t => t.setRg a (if a = WDG_WARN then v &&& 0xFFFF else v &&& 0xFFFFFF))

/-- WDG_KICK. -/
def execWdgKick (i : Initiator) (v : Word) (s : State) : Out := done (s.guardW i WDG_KICK v (fun t => t.writeWdgKick v))

/-- WDG_CFG_WRITE. -/
def execWdgCfgWrite (i : Initiator) (v : Word) (s : State) : Out :=
  done (s.guardW i WDG_CFG v (fun t => t.writeWdgCfg v))

/-- WDG_LIMIT_WRITE: register 0 WDG_TIMEOUT, 1 WDG_OPEN, 2 WDG_WARN. -/
def execWdgLimitWrite (i : Initiator) (r : Fin 3) (v : Word) (s : State) : Out :=
  let a := WDG_TIMEOUT + 4 * r.val
  done (s.guardW i a v (fun t => t.writeWdgLimit a v))

/-- WDG_LATE (R214, R218): COUNT reaches TIMEOUT. -/
def execWdgLate (s : State) : Out :=
  done (if s.wdgCounts then (s.setRg WDG_COUNT (s.rg WDG_TIMEOUT)).wdgViolation 1 else s)

/-- WDG_WARN (R215, R218): COUNT reaches TIMEOUT − WARN; once per service interval. -/
def execWdgWarn (s : State) : Out :=
  done (
    if s.wdgCounts && !s.gnt.wdgWarned then
      let at_ := (s.rg WDG_TIMEOUT).toNat - (s.rg WDG_WARN).toNat
      let s1 := (s.setRg WDG_COUNT (w32 (max (s.rg WDG_COUNT).toNat at_))).raise 100
      { s1 with gnt := { s1.gnt with wdgWarned := true } }
    else s)

/-! ### Fault manager (R220 to R224) -/

/-- FAULT_REPORT (R221): a block reports an error with its detail word. A link port counts it in LNK_PERR (R291): an FCS error has
this row alone, with [3:0] = 1 and the window in the detail. -/
def execFaultReport (ch : Fin 4096) (detail : Word) (s : State) : Out :=
  let t := if 0x810 ≤ ch.val ∧ ch.val ≤ 0x812 then s.countWrap (LNK_PERR (ch.val - 0x810)) 1 else s
  done (t.faultReport ch.val detail)

/-- FAULT_WINDOW_END (R221): a SUSPECT channel whose window is over returns to OK. -/
def execFaultWindowEnd (ch : Fin 4096) (s : State) : Out :=
  done (
    match chanClass ch.val with
    | none => s
    | some cls =>
      if s.chanState ch.val = 1 ∧ s.chanFirst ch.val + s.fld (FLT_POLICY cls) 16 16 ≤ s.beatNo then
        s.setChan ch.val (s.chanFirst ch.val) 0 0
      else s)

/-- The fault manager's command port. -/
def fltPort : CmdPort := { st := FLT_CMDST, rejects := FLT_REJECT, evt := some (FLT_EVT, 0), src := some 104 }

/-- REQUAL (R224). -/
def State.fltRequal (s : State) (ch : Nat) : State :=
  let known := (chanClass ch).isSome
  s.command fltPort false (known && s.chanState ch != 2) (!known) (fun t => (t.setFld (FLT_CHSTAT ch) 0 2 3).requalBlock ch)

/-- REINSTATE (R224, R191, R223). -/
def State.fltReinstate (s : State) (ch : Nat) : State :=
  let known := (chanClass ch).isSome
  s.command fltPort false (known && s.chanState ch != 3) (!known) (fun t =>
    let t1 := (t.setChan ch 0 0 0).event FLT_EVT 3 107
    let addr := if ch < 0x800 then 0x10000000 + ch * 4096 else 0
    (t1.queueRecord ch 2 0 0 0 addr).reinstateBlock ch)

/-- ABORT (R224). -/
def State.fltAbort (s : State) (ch : Nat) : State :=
  let known := (chanClass ch).isSome
  s.command fltPort false (known && s.chanState ch != 3) (!known) (fun t => (t.setFld (FLT_CHSTAT ch) 0 2 2).abortBlock ch)

/-- Reset core `n` alone and hold it (R224, R547): its bit in SYS_CRUN and its lock-up bit clear, and the
Dispatcher applies R156. -/
def State.resetCore (s : State) (n : Fin 4) : State :=
  let s1 := s.setCore (CoreId.app n) (Core.atReset 1)
  ((s1.setBit SYS_CRUN n.val false).setBit FLT_CORESTAT n.val false).disCoreReset n.val

/-- CORERST (R224). -/
def State.fltCorerst (s : State) (chan : Nat) : State :=
  s.command fltPort false false (decide (4 ≤ chan)) (fun t =>
    if h : chan < 4 then t.resetCore ⟨chan, h⟩ else t)

/-- A write to FLT_CMD (R224). -/
def State.writeFltCmd (s : State) (v : Word) : State :=
  let chan := fieldOf v 0 12
  match fieldOf v 28 4 with
  | 1 => s.fltRequal chan
  | 2 => s.fltReinstate chan
  | 3 => s.fltAbort chan
  | 4 => s.fltCorerst chan
  | _ => s

/-- The FLT_CMD word of an operation. -/
def fltWord (op chan : Nat) : Word := w32 (op * 0x10000000 + chan)

/-- FLT_REQUAL. -/
def execFltRequal (i : Initiator) (ch : Fin 4096) (s : State) : Out :=
  done (s.guardW i FLT_CMD (fltWord 1 ch.val) (fun t => t.fltRequal ch.val))

/-- FLT_REINSTATE. -/
def execFltReinstate (i : Initiator) (ch : Fin 4096) (s : State) : Out :=
  done (s.guardW i FLT_CMD (fltWord 2 ch.val) (fun t => t.fltReinstate ch.val))

/-- FLT_ABORT. -/
def execFltAbort (i : Initiator) (ch : Fin 4096) (s : State) : Out :=
  done (s.guardW i FLT_CMD (fltWord 3 ch.val) (fun t => t.fltAbort ch.val))

/-- CORERST. -/
def execCorerst (i : Initiator) (ch : Fin 4096) (s : State) : Out :=
  done (s.guardW i FLT_CMD (fltWord 4 ch.val) (fun t => t.fltCorerst ch.val))

/-! ### Key store (R227 to R230) -/

/-- The key store's command port. -/
def keyPort : CmdPort := { st := KEY_STAT, rejects := KEY_REJECT, evt := none, src := some 113 }

/-- RNGFAIL in a status field. -/
abbrev ST_RNGFAIL : Nat := 7

/-- Key slot `n`. -/
def State.keySlot (s : State) (n : Nat) : KeySlot := smGet (fun _ => KeySlot.empty) s.gnt.keys n

/-- KEY_ATTR of slot `n` (R227). -/
def State.keyAttr (s : State) (n : Nat) : Word :=
  let k := s.keySlot n
  w32 (k.type * 65536 + k.usage * 256 + (if k.lock then 1 else 0))

/-- A write to KEY_IN (R230). -/
def State.writeKeyIn (s : State) (n : Nat) (v : Word) : State :=
  { s with gnt := { s.gnt with keyIn := smSet (fun _ => 0) s.gnt.keyIn n v } }

/-- The 256 bits of KEY_IN, word 0 first. -/
def State.keyInValue (s : State) : Nat :=
  (List.range 8).foldl (fun acc n => acc * 0x100000000 + (smGet (fun _ => (0 : Word)) s.gnt.keyIn n).toNat) 0

/-- KEY_IN reads as zero to the KEY block after every LOAD (R228). -/
def State.clearKeyIn (s : State) : State := { s with gnt := { s.gnt with keyIn := [] } }

/-- A key command runs: the slot takes `k` when it ends. `rng` says that the command is GEN. -/
def State.keyBegin (s : State) (rng : Bool) (slot : Nat) (k : KeySlot) : State :=
  let t := s.setBit KEY_STAT 31 true
  { t with gnt := { t.gnt with keyOp := some (slot, k), keyRng := rng } }

/-- TYPE and USAGE that GEN and LOAD accept (R228). -/
def keyTypeOk (type usage : Nat) : Bool := decide (1 ≤ type ∧ type ≤ 3) && (type != 3 || usage == 0)

/-- KEY_STAT.BUSY. -/
def State.keyBusy (s : State) : Bool := s.bit KEY_STAT 31

/-- GEN (R228, R234). -/
def State.keyGen (s : State) (slot type usage : Nat) : State :=
  let badState := s.keyBusy || (s.keySlot slot).type != 0
  if !badState && keyTypeOk type usage && s.bit CRY_STAT 8 then s.reject keyPort ST_RNGFAIL
  else
    s.command keyPort false badState (!keyTypeOk type usage) (fun t =>
      let (f, u) := t.draw
      let key := if type = 3 then f % (p256n - 1) + 1
        else if type = 1 then f % 2 ^ 128 * 2 ^ 128 else f % 2 ^ 256
      u.keyBegin true slot { type := type, usage := usage, lock := false, key := key })

/-- LOAD (R228, R230). -/
def State.keyLoad (s : State) (slot type usage : Nat) : State :=
  let v := s.keyInValue
  let bad := !keyTypeOk type usage || (type == 3 && !decide (1 ≤ v ∧ v < p256n))
  (s.command keyPort false (s.keyBusy || (s.keySlot slot).type != 0) bad (fun t =>
    t.keyBegin false slot { type := type, usage := usage, lock := false, key := if type = 1 then v / 2 ^ 128 * 2 ^ 128 else v })).clearKeyIn

/-- A running CRY operation uses the slot (R228). -/
def State.cryUses (s : State) (slot : Nat) : Bool :=
  match s.gnt.cryOp with
  | none => false
  | some o => o.slot == slot && (o.op != 1 && (o.op != 6 || o.flags.testBit 3))

/-- ERASE (R228). -/
def State.keyErase (s : State) (slot : Nat) : State :=
  s.command keyPort false (s.keyBusy || (s.keySlot slot).lock || s.cryUses slot) false
    (fun t => t.keyBegin false slot KeySlot.empty)

/-- LOCK (R228). -/
def State.keyLock (s : State) (slot : Nat) : State :=
  s.command keyPort false (s.keyBusy || (s.keySlot slot).type == 0) false
    (fun t => t.keyBegin false slot { t.keySlot slot with lock := true })

/-- A write to KEY_CMD (R228). -/
def State.writeKeyCmd (s : State) (v : Word) : State :=
  let slot := fieldOf v 0 4
  match fieldOf v 28 4 with
  | 1 => s.keyGen slot (fieldOf v 16 4) (fieldOf v 8 2)
  | 2 => s.keyLoad slot (fieldOf v 16 4) (fieldOf v 8 2)
  | 3 => s.keyErase slot
  | 4 => s.keyLock slot
  | _ => s

/-- The KEY_CMD word of an operation. -/
def keyWord (op type usage slot : Nat) : Word := w32 (op * 0x10000000 + type * 65536 + usage * 256 + slot)

/-- KEY_GEN. -/
def execKeyGen (i : Initiator) (slot type : Fin 16) (usage : Fin 4) (s : State) : Out :=
  done (s.guardW i KEY_CMD (keyWord 1 type.val usage.val slot.val) (fun t => t.keyGen slot.val type.val usage.val))

/-- KEY_LOAD. -/
def execKeyLoad (i : Initiator) (slot type : Fin 16) (usage : Fin 4) (s : State) : Out :=
  done (s.guardW i KEY_CMD (keyWord 2 type.val usage.val slot.val) (fun t => t.keyLoad slot.val type.val usage.val))

/-- KEY_ERASE. -/
def execKeyErase (i : Initiator) (slot : Fin 16) (s : State) : Out :=
  done (s.guardW i KEY_CMD (keyWord 3 0 0 slot.val) (fun t => t.keyErase slot.val))

/-- KEY_LOCK. -/
def execKeyLock (i : Initiator) (slot : Fin 16) (s : State) : Out :=
  done (s.guardW i KEY_CMD (keyWord 4 0 0 slot.val) (fun t => t.keyLock slot.val))

/-- No key command runs. -/
def State.gntKeyFree (s : State) : State := { s with gnt := { s.gnt with keyOp := none, keyRng := false } }

/-- KEY_DONE (R229, R230, R234): the running key command ends; the slot takes its contents, attributes last. A GEN
that ends while RNGERR is set ends with RNGFAIL instead and leaves its slot as it was (log entry 16). -/
def execKeyDone (s : State) : Out :=
  done (
    match s.gnt.keyOp with
    | none => s
    | some (slot, k) =>
      let t := s.gntKeyFree.setBit KEY_STAT 31 false
      if s.gnt.keyRng && s.bit CRY_STAT 8 then t.reject keyPort ST_RNGFAIL
      else
        let keys := smSet (fun _ => KeySlot.empty) s.gnt.keys slot k
        { t with gnt := { t.gnt with keys := keys } }.raise 112)

/-! ### Crypto engine (R231 to R234) -/

/-- The crypto engine's command port. -/
def cryPort : CmdPort := { st := CRY_STAT, rejects := CRY_REJECT, evt := none, src := some 115 }

/-- A number held in `n` registers from `a` up, most significant word first (R230). -/
def State.rgBe (s : State) (a n : Nat) : Nat :=
  (List.range n).foldl (fun acc k => acc * 0x100000000 + (s.rg (a + 4 * k)).toNat) 0

/-- Load `n` registers from `a` up with a number, most significant word first (R230). -/
def State.setRgBe (s : State) (a n v : Nat) : State :=
  (List.range n).foldl (fun t k => t.setRg (a + 4 * k) (w32 (v / 0x100000000 ^ (n - 1 - k)))) s

/-- The conditions of R231 for rejection with ARG. Bit 0 of `flags` is DEC, 1 FIRST, 2 LAST, 3 PUBSLOT. -/
def State.cryBad (s : State) (op flags slot : Nat) : Bool :=
  let k := s.keySlot slot
  let len := (s.rg CRY_LEN).toNat
  let aes := k.type == 1 || k.type == 2
  let use_ := if flags.testBit 0 && op != 3 then k.usage.testBit 1 else k.usage.testBit 0
  match op with
  | 1 => !flags.testBit 2 && len % 64 != 0
  | 2 => !aes || !use_ || len % 16 != 0 || len == 0
  | 3 => !aes || !use_ || len == 0
  | 4 => !aes || !use_ || (len == 0 && (s.rg CRY_AADLEN).toNat == 0)
  | 5 => k.type != 3
  | 6 => if flags.testBit 3 then k.type != 3 else !onCurve (s.rgBe (CRY_PUB 0) 8) (s.rgBe (CRY_PUB 8) 8)
  | 7 => k.type != 3
  | _ => true

/-- Start a crypto operation (R231): BUSY is set and the input registers are taken. -/
def State.cryStart (s : State) (op flags slot : Nat) : State :=
  s.command cryPort false (s.bit CRY_STAT 31) (s.cryBad op flags slot) (fun t =>
    let u := t.setBit CRY_STAT 31 true
    let regs := (List.range 60).map (fun k => u.rg (CRY_SRC + 4 * k))
    { u with gnt := { u.gnt with cryOp := some { op := op, flags := flags, slot := slot, regs := regs } } })

/-- A write to CRY_CMD (R231). -/
def State.writeCryCmd (s : State) (v : Word) : State := s.cryStart (fieldOf v 28 4) (fieldOf v 24 4) (fieldOf v 0 4)

/-- The CRY_CMD word of an operation. -/
def cryWord (op flags slot : Nat) : Word := w32 (op * 0x10000000 + flags * 0x1000000 + slot)

/-- The start of operation `op` by a register write. -/
def State.cryCommand (s : State) (i : Initiator) (op flags slot : Nat) : State :=
  s.guardW i CRY_CMD (cryWord op flags slot) (fun t => t.cryStart op flags slot)

/-- SHA256. -/
def execSha256 (i : Initiator) (flags slot : Fin 16) (s : State) : Out := done (s.cryCommand i 1 flags.val slot.val)
/-- AES_CBC. -/
def execAesCbc (i : Initiator) (flags slot : Fin 16) (s : State) : Out := done (s.cryCommand i 2 flags.val slot.val)
/-- AES_CTR. -/
def execAesCtr (i : Initiator) (flags slot : Fin 16) (s : State) : Out := done (s.cryCommand i 3 flags.val slot.val)
/-- AES_GCM. -/
def execAesGcm (i : Initiator) (flags slot : Fin 16) (s : State) : Out := done (s.cryCommand i 4 flags.val slot.val)
/-- ECDSA_SIGN. -/
def execEcdsaSign (i : Initiator) (flags slot : Fin 16) (s : State) : Out := done (s.cryCommand i 5 flags.val slot.val)
/-- ECDSA_VERIFY. -/
def execEcdsaVerify (i : Initiator) (flags slot : Fin 16) (s : State) : Out := done (s.cryCommand i 6 flags.val slot.val)
/-- PUBLIC_KEY. -/
def execPublicKey (i : Initiator) (flags slot : Fin 16) (s : State) : Out := done (s.cryCommand i 7 flags.val slot.val)

/-- TRNG_HEALTH_FAIL (R234). -/
def execTrngHealthFail (s : State) : Out := done (s.setBit CRY_STAT 8 true)

/-- The value a read of CRY_RNG returns (R213, R234): 32 fresh bits to G0, 0 to the others or after a failure. -/
def State.readRng (s : State) (g0 : Bool) : Nat × State :=
  if !g0 || s.bit CRY_STAT 8 then (0, s)
  else
    let (f, t) := s.draw
    (f % 0x100000000, t)

/-- CRY_RNG_READ (R234, R546). -/
def execCryRngRead (i : Initiator) (s : State) : Out :=
  done ({ s with rdata := 0 }.guardR i CRY_RNG (fun t =>
    let (v, u) := t.readRng (i == Initiator.g0 || t.bootKeys (.gauntlet 2) i)
    { u with rdata := v }))

end Sys2Proof.Machine
end

