-- ==== Sys2Proof/Machine/Pins.lean ====
section
/-! DEFINITION. The pins: pad levels, the synchronised input and its interrupt signals, GPIO data, pin configuration and the
lock sequence (spec/18 R476 to R490). -/

namespace Sys2Proof.Machine

/-- The timer unit whose signal function `f` of pin `n` of port `p` carries (R477). -/
def pinTimer (p n f : Nat) : Option (Nat × Nat) :=
  if f = 1 ∧ p = 1 ∧ 16 ≤ n then some ((n - 16) / 2, n % 2)
  else if f = 1 ∧ p = 2 ∧ n < 16 then some (8 + n / 2, n % 2)
  else if f = 2 ∧ p = 2 ∧ 16 ≤ n then some (n - 16, 0)
  else none

/-- Function `f` of the pin is an input alone (R477). -/
def pinInput (p n f : Nat) : Bool :=
  if f = 1 ∧ p = 0 ∧ n < 24 then n % 4 == 1 || n % 4 == 3
  else if (f = 1 ∧ p = 0 ∧ n < 28) ∨ f = 4 then n % 2 == 1
  else if f = 1 ∧ p = 1 ∧ n < 15 then n % 5 == 2
  else if f = 1 ∧ p = 1 ∧ n = 15 then true
  else if f = 3 then n % 2 == 1
  else f == 5

/-- PIN_CFG fields. -/
def State.pinFunc (s : State) (p n : Nat) : Nat := s.fld (PIN_CFG p n) 0 3
def State.pinMode (s : State) (p n : Nat) : Nat := s.fld (PIN_CFG p n) 12 3

/-- The data that the pin puts out, where the spec gives it: GPIO data with DIR = 1 (R480), or the level of a compare unit
(R464); in Off every pad is high-impedance (R487). -/
def State.pinData (s : State) (p n : Nat) : Option Bool :=
  let f := s.pinFunc p n
  if s.pwr = .off then none
  else if f = 0 then (if s.bit (PIN_CFG p n) 3 then some (s.bit (GPIO_OUT p) n) else none)
  else
    match pinTimer p n f with
    | some (t, x) => if s.lvBit (TMR_CCCFG t x) 0 then none else some (s.bit (TMR_OUT t) x)
    | none => none

/-- What the pad is driven to (R480): an open-drain pad drives only low. -/
def State.pinDrive (s : State) (p n : Nat) : Option Bool :=
  match s.pinData p n with
  | some true => if s.bit (PIN_CFG p n) 7 then none else some true
  | d => d

/-- Whether the pad drives, where the spec says: a peripheral's own choice is open (R478). -/
def State.pinDrives (s : State) (p n : Nat) : Option Bool :=
  let f := s.pinFunc p n
  if f = 0 ∨ (pinTimer p n f).isSome then some (s.pinDrive p n).isSome
  else if pinInput p n f then some false
  else none

/-- GPIO_DRV of a port: bits that the spec leaves to a peripheral are free values (log entry 24). -/
def State.gpioDrv (s : State) (p : Nat) : Nat × State :=
  let (f, t) := s.draw
  (((List.range 32).foldl (fun acc n =>
    let b := match s.pinDrives p n with
      | some b => b
      | none => f.testBit n
    acc + (if b then 2 ^ n else 0)) 0), t)

/-- The level at the pad of a pin. -/
def State.padLevel (s : State) (p n : Nat) : Bool := smGet (fun _ => false) s.pads (32 * p + n)

/-- The signal that a pin gives its source for a synchronised level (R483). -/
def pinSteady (mode : Nat) (v : Bool) : Bool := (mode == 4 && v) || (mode == 5 && !v)

/-- The synchronised level of a pin becomes `v` (R482, R483). -/
def State.pinSync (s : State) (p n : Nat) (v : Bool) : State :=
  let old := s.bit (GPIO_IN p) n
  let t := s.setBit (GPIO_IN p) n v
  let mode := s.pinMode p n
  let src := 608 + 32 * p + n
  if mode = 4 ∨ mode = 5 then t.signal src (pinSteady mode v)
  else if v != old && (mode == 3 || (mode == 1 && v) || (mode == 2 && !v)) then t.raise src
  else t

/-- PAD_CHANGE (R482, R483): the level at a pad becomes what the device drives there, or `v` where it does not drive; a bank
whose supply is low gives a free level (R553). It reaches the synchroniser while the core domain is powered (R487). -/
def execPadChange (p : Fin 5) (n : Fin 32) (v : Bool) (s : State) : Out :=
  done (
    let (f, s0) := if s.bit PWR_STAT (8 + p.val) then (0, s) else s.draw
    let lvl := if s.bit PWR_STAT (8 + p.val) then (s.pinDrive p.val n.val).getD v else f % 2 == 1
    let t := { s0 with pads := smSet (fun _ => false) s0.pads (32 * p.val + n.val) lvl }
    if t.powered then t.pinSync p.val n.val lvl else t)

/-- The synchronisers restart from the pad levels on return from Park (R484, R487): no edge pulses; a level mode gives its
level. -/
def State.pinRestart (s : State) : State :=
  (List.range 160).foldl (fun t k =>
    let p := k / 32
    let n := k % 32
    let u := t.setBit (GPIO_IN p) n (t.padLevel p n)
    let mode := u.pinMode p n
    if mode = 4 ∨ mode = 5 then u.signal (608 + k) (pinSteady mode (t.padLevel p n)) else u) s

/-- A write to GPIO_OUT, and to the registers that set, clear and invert its bits (R480). -/
def State.writeGpioOut (s : State) (p : Nat) (v : Word) : State := s.setRg (GPIO_OUT p) v
def State.writeGpioSet (s : State) (p : Nat) (v : Word) : State := s.setRg (GPIO_OUT p) (s.rg (GPIO_OUT p) ||| v)
def State.writeGpioClr (s : State) (p : Nat) (v : Word) : State := s.setRg (GPIO_OUT p) (s.rg (GPIO_OUT p) &&& ~~~v)
def State.writeGpioTgl (s : State) (p : Nat) (v : Word) : State := s.setRg (GPIO_OUT p) (s.rg (GPIO_OUT p) ^^^ v)

/-- A write to PIN_CFG (R481, R483, R484): no change of mode gives a pulse; the source's signal follows the new mode. -/
def State.writePinCfg (s : State) (p n : Nat) (v : Word) : State :=
  let t := s.setRg (PIN_CFG p n) (v &&& 0x73FF)
  t.signal (608 + 32 * p + n) (pinSteady (t.pinMode p n) (t.bit (GPIO_IN p) n))

/-- A write to PIN_LKKEY (R485, R486). -/
def State.writePinLkkey (s : State) (p : Nat) (v : Word) : State :=
  let step := s.fld (PIN_LKSTAT p) 0 2
  if v = 0xA55A then
    if step = 2 then
      (s.setRg (PIN_LOCKED p) (s.rg (PIN_LOCKED p) ||| s.rg (PIN_LKMASK p))).setFld (PIN_LKSTAT p) 0 2 0
    else s.setFld (PIN_LKSTAT p) 0 2 1
  else if v = 0x5AA5 ∧ step = 1 then s.setFld (PIN_LKSTAT p) 0 2 2
  else s.setFld (PIN_LKSTAT p) 0 2 0

/-- A write to PIN_LKMASK (R485). -/
def State.writePinLkmask (s : State) (p : Nat) (v : Word) : State :=
  (s.setRg (PIN_LKMASK p) v).setFld (PIN_LKSTAT p) 0 2 0

/-- GPIO_OUT_WRITE (R480). -/
def execGpioOutWrite (i : Initiator) (p : Fin 5) (v : Word) (s : State) : Out :=
  done (s.guardW i (GPIO_OUT p.val) v (fun t => t.writeGpioOut p.val v))

/-- GPIO_SET (R480). -/
def execGpioSet (i : Initiator) (p : Fin 5) (v : Word) (s : State) : Out :=
  done (s.guardW i (GPIO_SET p.val) v (fun t => t.writeGpioSet p.val v))

/-- GPIO_CLR (R480). -/
def execGpioClr (i : Initiator) (p : Fin 5) (v : Word) (s : State) : Out :=
  done (s.guardW i (GPIO_CLR p.val) v (fun t => t.writeGpioClr p.val v))

/-- GPIO_TGL (R480). -/
def execGpioTgl (i : Initiator) (p : Fin 5) (v : Word) (s : State) : Out :=
  done (s.guardW i (GPIO_TGL p.val) v (fun t => t.writeGpioTgl p.val v))

/-- PIN_CFG_WRITE (R481): a reserved encoding and a locked pin refuse the write (R36, R486). -/
def execPinCfgWrite (i : Initiator) (p : Fin 5) (n : Fin 32) (v : Word) (s : State) : Out :=
  done (s.guardW i (PIN_CFG p.val n.val) v (fun t => t.writePinCfg p.val n.val v))

/-- PIN_LKKEY_WRITE (R485). -/
def execPinLkkeyWrite (i : Initiator) (p : Fin 5) (v : Word) (s : State) : Out :=
  done (s.guardW i (PIN_LKKEY p.val) v (fun t => t.writePinLkkey p.val v))

/-- PIN_LKMASK_WRITE (R485). -/
def execPinLkmaskWrite (i : Initiator) (p : Fin 5) (v : Word) (s : State) : Out :=
  done (s.guardW i (PIN_LKMASK p.val) v (fun t => t.writePinLkmask p.val v))

end Sys2Proof.Machine
end

