-- ==== Sys2Proof/Machine/Mitten.lean ====
section
/-! DEFINITION. The Mitten backup domain (spec/19 R491 to R513). Each tick is a command: a write that takes effect at a tick
comes before that tick's RTC_TICK, and a SET stands for its whole tick (log entry 25). -/

namespace Sys2Proof.Machine

/-- An event bit of the Mitten (R495): its source is raised while the core domain is powered. -/
def State.mitEvt (s : State) (k : Nat) : State :=
  let t := s.setBit MIT_EVT k true
  if t.powered then t.raise (832 + k) else t

/-- The Mitten's command port (R506): MIT_ERR is bit 0 of MIT_EVT with source 832. -/
def State.mitReject (s : State) (code : Nat) : State :=
  ((s.setFld MIT_CMDST 0 4 code).count MIT_REJECT 1).mitEvt 0

/-- PWRON follows HOLD and the wake flags (R510). -/
def State.pwron (s : State) : State := s.setBit MIT_PWRON 1 (s.bit MIT_PWRON 0 || s.rg MIT_WAKEF != 0)

/-- Wake flag `k` is set (R511). -/
def State.mitWake (s : State) (k : Nat) : State := (s.setBit MIT_WAKEF k true).pwron

/-! ### Calendar (R500) -/

/-- Whether a year of the Gregorian calendar is a leap year. -/
def leapYear (y : Nat) : Bool := (y % 4 == 0 && y % 100 != 0) || y % 400 == 0

/-- The lengths of the months of a year. -/
def monthDays (y : Nat) : List Nat := [31, if leapYear y then 29 else 28, 31, 30, 31, 30, 31, 31, 30, 31, 30, 31]

/-- The month and day (from 1) of day `d` (from 0) of a year whose months have these lengths. -/
def monthOf : List Nat → Nat → Nat → Nat × Nat
  | [], m, d => (m, d + 1)
  | n :: l, m, d => if d < n then (m, d + 1) else monthOf l (m + 1) (d - n)

/-- The year within a 400-year span that starts with a leap century, and the day within it (from 0). -/
def yearOf (d : Nat) : Nat × Nat :=
  let c := if d < 36525 then 0 else 1 + (d - 36525) / 36524
  let dc := if d < 36525 then d else (d - 36525) % 36524
  -- the first four years of a century that does not start with a leap year have 1,460 days
  let lead := if c = 0 then 1461 else 1460
  let q := if dc < lead then 0 else 1 + (dc - lead) / 1461
  let dq := if dc < lead then dc else (dc - lead) % 1461
  let first := if q = 0 ∧ c ≠ 0 then 365 else 366
  let y := if dq < first then 0 else 1 + (dq - first) / 365
  let dy := if dq < first then dq else (dq - first) % 365
  (100 * c + 4 * q + y, dy)

/-- The calendar view of a second: second, minute, hour, day, month, weekday, year. -/
structure Cal where
  second : Nat
  minute : Nat
  hour : Nat
  day : Nat
  month : Nat
  weekday : Nat
  year : Nat
deriving DecidableEq, Repr

/-- SEC = 0 is 2000-01-01 00:00:00, a Saturday. -/
def calendar (sec : Nat) : Cal :=
  let days := sec / 86400
  let rem := sec % 86400
  let (y, d) := yearOf (days % 146097)
  let year := 2000 + 400 * (days / 146097) + y
  let (m, dd) := monthOf (monthDays year) 1 d
  { second := rem % 60, minute := rem / 60 % 60, hour := rem / 3600, day := dd, month := m, weekday := (days + 6) % 7
    year := year % 65536 }

/-- SEC and SUBSEC take values, and the calendar view with them (R498 to R500). -/
def State.setRtc (s : State) (sec sub : Nat) : State :=
  let c := calendar (sec % 0x1000000000000)
  (((s.setRg MIT_RTC_SUB (w32 (sub % 32768))).setRg64 MIT_RTC_SEC_LO (sec % 0x1000000000000)).setRg MIT_RTC_CAL0
    (w32 (c.second + 256 * c.minute + 65536 * c.hour + 16777216 * c.weekday))).setRg MIT_RTC_CAL1
    (w32 (c.day + 256 * c.month + 65536 * c.year))

/-- SEC. -/
def State.rtcSec (s : State) : Nat := s.rg64 MIT_RTC_SEC_LO % 0x1000000000000

/-! ### What a new second judges (R493, R503, R507, R508) -/

/-- Alarm `a` matches a calendar view. -/
def State.almMatches (s : State) (a : Nat) (c : Cal) : Bool :=
  let m := fun (k : Nat) => s.bit (ALM_CTL a) k
  s.bit (ALM_CTL a) 8 &&
  (m 0 || s.fld (ALM_VAL a) 0 6 == c.second) && (m 1 || s.fld (ALM_VAL a) 8 6 == c.minute) &&
  (m 2 || s.fld (ALM_VAL a) 16 5 == c.hour) && (m 3 || s.fld (ALM_DATE a) 0 5 == c.day) &&
  (m 4 || s.fld (ALM_DATE a) 8 4 == c.month) && (m 5 || s.fld (ALM_VAL a) 24 3 == c.weekday)

/-- An alarm is judged (R507). -/
def State.almJudge (s : State) (a : Nat) (c : Cal) : State :=
  if s.almMatches a c then
    let t := s.mitEvt (1 + a)
    if t.bit (ALM_CTL a) 9 then t.mitWake (1 + a) else t
  else s

/-- SEC has taken a new value, with VBAT at `vbat` millivolts. -/
def State.newSecond (s : State) (vbat : Nat) : State :=
  let c := calendar s.rtcSec
  let s1 := (s.almJudge 0 c).almJudge 1 c
  let mode := s1.fld MIT_PER 0 2
  let s2 := if mode = 1 ∨ (mode = 2 ∧ c.second = 0) then s1.mitEvt 3 else s1
  let low := decide (vbat < 1500)
  let s3 := if low && !s2.bit MIT_STAT 3 then s2.mitEvt 5 else s2
  let s4 := s3.setBit MIT_STAT 3 low
  if s4.rtcSec % 64 = 0 then { s4 with mit := { s4.mit with converting := true } } else s4

/-! ### Trim (R503 to R506) -/

/-- A point of a curve: temperature in whole degrees and correction in 1/16 ppm. -/
def curvePoint (w : Word) : Int × Int := (signed 8 (fieldOf w 0 8), signed 13 (fieldOf w 16 13))

/-- The correction at `t` quarter degrees on the points of a curve (R504). -/
def curveAt (t : Int) : List (Int × Int) → Int
  | [] => 0
  | [p] => p.2
  | p :: q :: l =>
    if t ≤ 4 * p.1 then p.2
    else if t < 4 * q.1 then p.2 + ((q.2 - p.2) * (t - 4 * p.1)).tdiv (4 * (q.1 - p.1))
    else curveAt t (q :: l)

/-- c is recomputed from MIT_TEMP and the live curve; MIT_CORR shows it, or 0 while EN is 0 (R504). -/
def State.trimCompute (s : State) : State :=
  let t := signed 12 (s.fld MIT_TEMP 0 12)
  let c := curveAt t ((List.range s.mit.npts).map (fun k => curvePoint (s.rg (MIT_TLIVE k))))
  { s with mit := { s.mit with corr := c } }

/-- MIT_CORR follows EN. -/
def State.trimShow (s : State) : State :=
  s.setRg MIT_CORR (if s.bit MIT_TCTL 0 then w32i s.mit.corr &&& 0x1FFF else 0)

/-- The temperatures of the first `n` staging points ascend strictly (R506). -/
def State.curveAscends (s : State) (n : Nat) : Bool :=
  (List.range (n - 1)).all (fun k => decide ((curvePoint (s.rg (MIT_TCURVE k))).1 < (curvePoint (s.rg (MIT_TCURVE (k + 1)))).1))

/-- A write to MIT_TCTL takes effect (R504, R506). -/
def State.writeMitTctl (s : State) (v : Word) : State :=
  let n := fieldOf v 8 5
  if bitOf v 31 then
    if s.curveAscends n then
      let s1 := (s.setFld MIT_CMDST 0 4 0).setRg MIT_TCTL (v &&& 0x1F01)
      let s2 := (List.range n).foldl (fun t k => t.setRg (MIT_TLIVE k) (t.rg (MIT_TCURVE k))) s1
      let s3 := { s2 with mit := { s2.mit with npts := n } }
      s3.trimCompute.trimShow
    else s.mitReject ST_ARG
  else (s.setRg MIT_TCTL (v &&& 0x1F01)).trimShow

/-! ### Writes (R497) -/

/-- A MIT register write is served: it waits for its tick. The write that commits a SET takes the lower words its initiator
holds (R501). -/
def State.mitWrite (s : State) (i : Initiator) (a : Nat) (v : Word) : State :=
  let set := decide (a = MIT_SET_SEC_HI)
  let sub := if set then s.pendingWord i MIT_SET_SUB else none
  let lo := if set then s.pendingWord i MIT_SET_SEC_LO else none
  let t := if set then s.clearPending i MIT_SET_SEC_HI 3 else s
  let w : MitWrite := { addr := a, val := v, sub := sub, lo := lo }
  { t with mit := { t.mit with waiting := t.mit.waiting ++ [w] } }.setBit MIT_STAT 4 true

/-- A SET takes effect (R501): the tick makes no advance, its trim and slew steps are discarded, the accumulator is kept, and
the second it loads is judged. A word that was not written keeps the value of the last SET (log entry 25). -/
def State.mitSet (s : State) (w : MitWrite) (vbat : Nat) : State :=
  let sub := w.sub.getD (s.rg MIT_SET_SUB)
  let lo := w.lo.getD (s.rg MIT_SET_SEC_LO)
  let s1 := ((s.setRg MIT_SET_SUB sub).setRg MIT_SET_SEC_LO lo).setRg MIT_SET_SEC_HI (w.val &&& 0xFFFF)
  let sec := lo.toNat + 0x100000000 * (w.val.toNat % 65536)
  let acc := s1.mit.acc
  let s2 := (((s1.setRtc sec sub.toNat).setBit MIT_STAT 0 true).mitEvt 7).setRg MIT_ADJ 0
  let m := { s2.mit with
    late := false
    trim := if 15625 ≤ acc then 1 else if acc ≤ -15625 then -1 else 0
    acc := if 15625 ≤ acc then acc - 15625 else if acc ≤ -15625 then acc + 15625 else acc }
  { s2 with mit := m }.newSecond vbat

/-- A write takes effect on its register. -/
def State.mitEffect (s : State) (w : MitWrite) (vbat : Nat) : State :=
  if w.addr = MIT_SET_SEC_HI then s.mitSet w vbat
  else if w.addr = MIT_ADJ then
    { s.setRg MIT_ADJ (w.val &&& 0xFFFF) with mit := { s.mit with slewIn := 257, late := false } }
  else if w.addr = MIT_TCTL then s.writeMitTctl w.val
  else if w.addr = MIT_WAKEF then (s.setRg MIT_WAKEF (s.rg MIT_WAKEF &&& ~~~w.val)).pwron
  else if w.addr = MIT_WAKESET then (if bitOf w.val 0 then s.mitWake 0 else s)
  else if w.addr = MIT_PWRON then (s.setBit MIT_PWRON 0 (bitOf w.val 0)).pwron
  else
    match regAt w.addr with
    | some (row, _, _) => s.storeReg w.addr row w.val
    | none => s

/-- MIT_WRITE_EFFECT (R497): the oldest waiting write of the register at `a` takes effect; a SET judges VBAT at `vbat`
millivolts (R493). -/
def execMitWriteEffect (a : Word) (vbat : Word) (s : State) : Out :=
  done (
    match s.mit.waiting.find? (fun w => w.addr == a.toNat) with
    | none => s
    | some w =>
      let rest := s.mit.waiting.erase w
      let t := { s with mit := { s.mit with waiting := rest } }
      (t.setBit MIT_STAT 4 (!rest.isEmpty)).mitEffect w vbat.toNat)

/-- MIT_APPLY (R506): a write of 1 to MIT_TCTL.APPLY is served; it copies the curve when it takes effect (R497). -/
def execMitApply (i : Initiator) (v : Word) (s : State) : Out :=
  done (s.guardW i MIT_TCTL (v ||| 0x80000000) (fun t => t.mitWrite i MIT_TCTL (v ||| 0x80000000)))

/-- MIT_WAKESET (R511): a write of 1 to MIT_WAKESET.SW is served; the flag is set when it takes effect (R497). -/
def execMitWakeset (i : Initiator) (s : State) : Out :=
  done (s.guardW i MIT_WAKESET 1 (fun t => t.mitWrite i MIT_WAKESET 1))

/-! ### Ticks (R498, R502, R505) -/

/-- RTC_TICK (R498): one tick of XIN32, with VBAT at `vbat` millivolts. -/
def execRtcTick (vbat : Word) (s : State) : Out :=
  done (
    if !s.mit.alive then s
    else
      let t := s.mit.trim
      let adj := signed 16 (s.fld MIT_ADJ 0 16)
      let left := s.mit.slewIn - 1
      let due := decide (adj ≠ 0) && (left == 0 || s.mit.late)
      let put := due && decide (adj < 0) && decide (t = -1)
      let j : Int := if due && !put then (if 0 < adj then 1 else -1) else 0
      let sum := (((s.rg MIT_RTC_SUB).toNat : Int) + 1 + t + j).toNat
      let full := decide (32768 ≤ sum)
      let c := signed 13 (s.fld MIT_CORR 0 13)
      let acc := if full then s.mit.acc + 32 * c else s.mit.acc
      let m := { s.mit with
        slewIn := if left = 0 then 256 else left
        late := put
        trim := if 15625 ≤ acc then 1 else if acc ≤ -15625 then -1 else 0
        acc := if 15625 ≤ acc then acc - 15625 else if acc ≤ -15625 then acc + 15625 else acc
        converting := s.mit.converting || s.mit.first
        first := false }
      let s1 := ({ s with mit := m }).setRg MIT_ADJ (w32i (adj - j) &&& 0xFFFF)
      if full then (s1.setRtc (s1.rtcSec + 1) (sum - 32768)).newSecond vbat.toNat
      else s1.setRg MIT_RTC_SUB (w32 sum))

/-- TEMP_CONVERSION_DONE (R503): the conversion that runs gives `t` quarter degrees. -/
def execTempConversionDone (t : BitVec 12) (s : State) : Out :=
  done (
    if s.mit.converting then
      let u := { s with mit := { s.mit with converting := false } }
      (((u.setRg MIT_TEMP (w32 t.toNat)).mitEvt 6).trimCompute).trimShow
    else s)

/-! ### Supplies (R492, R494) -/

/-- SUPPLY_SWITCH (R492): the supplies stand at `vsys` and `vbat` millivolts. -/
def execSupplySwitch (vsys vbat : Word) (s : State) : Out :=
  done (
    let th := 1600 + 50 * s.fld MIT_SUPPLY 0 5
    let a := vsys.toNat
    let b := vbat.toNat
    if !s.mit.alive then s
    else if s.bit MIT_STAT 2 then (if max b th + 100 < a then (s.setBit MIT_STAT 2 false).mitEvt 4 else s)
    else if a + 100 < b ∨ a < th then (s.setBit MIT_STAT 2 true).mitEvt 4
    else s)

/-- A MIT register. -/
def isMit (a : Nat) : Bool := decide (0x50050000 ≤ a ∧ a < 0x50060000)

/-- The state that the Mitten takes when a supply returns (R494, R498, R503): every register at its Reset value. -/
def State.mitFresh (s : State) (alive : Bool) : State :=
  { s with regs := smDrop isMit s.regs, mit := { MitSt.init with wk := s.mit.wk.map (fun e => (e.1, { e.2 with runs := 0, level := false })), alive := alive } }

/-- MITTEN_STATE_LOSS (R494): both supplies are below their range, and the state is lost. -/
def execMittenStateLoss (s : State) : Out := done (s.mitFresh false)

/-- MITTEN_SUPPLY_RETURN (R494): after a loss a supply returns: every MIT register takes its Reset value. -/
def execMittenSupplyReturn (s : State) : Out := done (if s.mit.alive then s else s.mitFresh true)

/-! ### Wake pins (R509) -/

/-- The state of wake pin `n`. -/
def State.wkPin (s : State) (n : Nat) : WkPin := smGet (fun _ => WkPin.blank) s.mit.wk n

/-- WAKE_PIN_SAMPLE (R509): wake pin `n` is sampled at level `v`. -/
def execWakePinSample (n : Fin 8) (v : Bool) (s : State) : Out :=
  done (
    if !s.mit.alive then s
    else
      let w := s.wkPin n.val
      let runs := if w.last = v then min 64 (w.runs + 1) else 1
      let take := decide (s.fld (WK_CFG n.val) 8 6 + 1 ≤ runs) && v != w.level
      let x : WkPin := { last := v, runs := runs, level := if take then v else w.level }
      let t := { s with mit := { s.mit with wk := smSet (fun _ => WkPin.blank) s.mit.wk n.val x } }
      let mode := s.fld (WK_CFG n.val) 0 2
      if take && (mode == 3 || (mode == 1 && v) || (mode == 2 && !v)) then
        let u := t.mitEvt (8 + n.val)
        if s.bit (WK_CFG n.val) 2 then u.mitWake (8 + n.val) else u
      else t)

/-- GPIO_WKIN (R489, R509): the unfiltered levels of the wake pins. -/
def State.wkin (s : State) : Nat :=
  (List.range 8).foldl (fun acc n => acc + (if (s.wkPin n).last then 2 ^ n else 0)) 0

end Sys2Proof.Machine
end

