-- ==== Sys2Proof/Machine/Reset.lean ====
section
/-! DEFINITION. Resets and what they keep (spec/21 R535 to R537; spec/02 R57), the power states (R548 to R552), supplies and the
power-fail warning (R553, R554). -/

namespace Sys2Proof.Machine

/-! ### What a reset keeps (R537) -/

/-- The BEAT registers that hardware and firmware keep over a reset of kinds 3 to 6 (R57). -/
def beatKept (a : Nat) : Bool :=
  [BEAT_CTRL, BEAT_GEN_NUM, BEAT_GEN_DEN, BEAT_HOLDMAX, BEAT_COUNT_LO, BEAT_COUNT_HI, BEAT_STAT, BEAT_PHASE, BEAT_LAST,
    BEAT_OFFS].contains a || (List.range 16).any (fun k => a == BEAT_DLINE k)

/-- BEAT_COUNT. -/
def beatCount (a : Nat) : Bool := a == BEAT_COUNT_LO || a == BEAT_COUNT_HI

/-- Channel states, spare rows and holes (R191, R222). -/
def channelReg (a : Nat) : Bool :=
  decide (FLT_CHSTAT 0 ≤ a ∧ a ≤ FLT_CHSTAT 4095) || (List.range 8).any (fun b => a == MEM_REMAP b) ||
  (List.range 64).any (fun k => a == MEM_HOLE k)

/-- The registers of the GPIO and PIN blocks. -/
def pinReg (a : Nat) : Bool := decide (0x40130000 ≤ a ∧ a < 0x40150000)

/-- A reset of kind `k` keeps the register at `a`. -/
def keepsReg (k a : Nat) : Bool :=
  isMit a || (k != 1 && (channelReg a || a == FLT_CAUSE)) ||
  (decide (3 ≤ k ∧ k ≤ 6) && beatKept a) || (k == 7 && beatCount a) || (decide (4 ≤ k) && pinReg a) ||
  (decide (3 ≤ k) && a == REC_MQLEN)

/-- A reset of kind `k` keeps the byte at `a`; the contents of the others are undefined, and count as memory that nothing has
written (log entry 6). Bank 7's spare rows serve retention SRAM. -/
def keepsByte (k a : Nat) : Bool :=
  decide (0x18000000 ≤ a ∧ a ≤ 0x181FFFFF) ||
  (decide (3 ≤ k ∧ k ≤ 6) && (decide (0x10000000 ≤ a ∧ a ≤ 0x107FFFFF) || decide (0x100000000 ≤ a))) ||
  (k == 7 && (decide (0x107C0000 ≤ a ∧ a ≤ 0x107FFFFF) || decide (sparePhys 7 0 0 ≤ a)))

/-- Programs that an interruption of the supply cuts short leave the old or the new word, a free choice (R193). -/
def State.mramCut (s : State) : State :=
  let t := s.ms.programming.foldl (fun (u : State) (p : MramProgram) =>
    let (f, w) := u.draw
    if f % 2 = 0 then w.pokeBytes p.addr p.old else w) s
  { t with ms := { t.ms with programming := [] } }

/-- Every register, memory and state at its reset value, but for what a reset of kind `k` keeps (R537). -/
def State.cleared (s : State) (k : Nat) : State :=
  let cold := decide (k ≤ 2)
  let keepEcc := s.ms.ecc.filter (fun e => keepsByte k e.1)
  { State.reset with
    regs := s.regs.filter (fun e => keepsReg k e.1)
    live := s.live.filter (fun e => decide (3 ≤ k ∧ k ≤ 6) && beatKept e.1)
    mem := s.mem.filter (fun e => keepsByte k e.1)
    beat := if 3 ≤ k ∧ k ≤ 6 then { s.beat with copying := [], marks := [], silent := false, dueAtEdge := [] } else BeatSt.init
    ms := { MemSt.init with
      ecc := keepEcc, copies := if k = 1 then [] else s.ms.copies, restored := if k = 1 then [] else s.ms.restored }
    gnt := { GntSt.init with
      chanFirst := if k = 1 then [] else s.gnt.chanFirst
      records := if cold then [] else s.gnt.records
      keys := s.gnt.keys }
    ldg := { LdgSt.init with
      slots := s.ldg.slots, defective := if k = 1 then [] else s.ldg.defective, weak := s.ldg.weak, tallies := s.ldg.tallies, nv := s.ldg.nv, lastReset := k }
    out := { OutSt.init with te := s.out.te }
    recorder := { RecSt.init with markers := if cold then [] else s.recorder.markers }
    pads := s.pads
    mit := s.mit
    rdata := s.rdata
    drawn := s.drawn
    subUs := s.subUs
    pending := s.pending }

/-- A reset of kind `k` (R535 to R537): `sel` is BOOTSEL and `ext` an external core supply, each as sampled where this kind
samples it (R536, R553); SEEN keeps the kinds that have occurred since power-on; the synchronisers start from the pads. -/
def State.deviceReset (s : State) (k sel : Nat) (ext : Bool) : State :=
  let s0 := if k ≤ 2 then s.mramCut else s
  let seen := if k = 1 then 0 else (s.rg PWR_RSTCAUSE).toNat / 0x20000 % 128
  let t := s0.cleared k
  let t1 := t.setRg PWR_RSTCAUSE (w32 (k + 0x20000 * seen ||| (if k = 1 then 0 else 2 ^ (16 + k))))
  let t2 := t1.setFld BOOT_STAT 0 3 (if k ≤ 3 then sel else s.fld BOOT_STAT 0 3)
  let t3 := t2.setBit PWR_STAT 5 (if k = 1 then ext else s.bit PWR_STAT 5)
  let t4 := t3.setLnk { t3.lnk with woken := k == 7 && s.lnk.wakeAsked }
  t4.pinRestart

/-- A watchdog reset with cause `c` (R225, R226). -/
def State.wdgReset (s : State) (c : Nat) : State := (s.setFld FLT_CAUSE 0 4 c).deviceReset 4 0 false

/-- POWER_ON_RESET (R535, R536, R553): BOOTSEL and BUCK_EN are sampled. -/
def execPowerOnReset (sel : Fin 8) (buckEn : Bool) (s : State) : Out := done (s.deviceReset 1 sel.val (!buckEn))

/-- BROWN_OUT_RESET (R535): VSYS or VCORE is low while VSYS stays above 1.30 V; in Off there is nothing to reset. -/
def execBrownOutReset (sel : Fin 8) (s : State) : Out := done (if s.pwr = .off then s else s.deviceReset 2 sel.val false)

/-- PIN_RESET (R535, R551): RST_N is low; Off is left by a power-on reset alone (R548). -/
def execPinReset (sel : Fin 8) (s : State) : Out := done (if s.pwr = .off then s else s.deviceReset 3 sel.val false)

/-- The command port of the power controller: a rejection sets PWR_EVT bit 2 and raises source 20. -/
def pwrPort : CmdPort := { st := PWR_CMDST, rejects := PWR_REJECT, evt := some (PWR_EVT, 2), src := some 20 }

/-- A write to PWR_SWRST (R535, R556). -/
def State.writeSwrst (s : State) (v : Word) : State :=
  s.command pwrPort false false (v != 0x5A3C) (fun t => t.deviceReset 5 0 false)

/-- SW_RESET (R535). -/
def execSwReset (i : Initiator) (v : Word) (s : State) : Out := done (s.guardW i PWR_SWRST v (fun t => t.writeSwrst v))

/-- WDG_GRACE_END (R216): the grace time of a violation ends in a watchdog reset. -/
def execWdgGraceEnd (s : State) : Out :=
  done (
    match s.gnt.wdgGrace with
    | none => s
    | some r => s.wdgReset r)

/-- G0_MISMATCH (R73, R225): the two halves of G0 disagree: a watchdog reset at once. -/
def execG0Mismatch (s : State) : Out := done (if s.powered then s.wdgReset 5 else s)

/-- A RESET frame delivered here (R308): the lead resets this device by its UID and its Ledger term; any other is counted. -/
def State.resetRx (s : State) (f : LinkFrame) : State :=
  let mine := fieldAt f.payload 0 8 == Config.dieUid.toNat && fieldAt f.payload 8 4 == s.ldg.nv.term
  if s.bit LNK_RSTAUTH 0 && s.lnk.hasLead && f.src == s.leadId && mine && decide (12 ≤ f.payload.length) then
    s.deviceReset 6 0 false
  else s.lnkIgnore

/-- RESET_FRAME_RX (R308). -/
def execResetFrameRx (p : Fin 2) (f : Llp) (s : State) : Out :=
  let r := s.receive p.val (frameOf f 12)
  done (if r.deliver then r.st.resetRx (frameOf f 12) else r.st)

/-! ### Doze (R549) -/

/-- A core is stopped under R90, held or locked up; one whose DONE or POST waits is not. -/
def Core.stopped (k : Core) : Bool :=
  match k.run with
  | .running => false
  | .disp _ _ => false
  | _ => true

/-- DOZE_ENTRY (R549). -/
def execDozeEntry (s : State) : Out :=
  done (
    if s.pwr = .run ∧ s.bit PWR_CTL 0 ∧ allCores.all (fun c => (s.core c).stopped) then
      { s with pwr := .doze }.setFld PWR_STAT 0 2 1
    else s)

/-! ### Park and Off (R550 to R552) -/

/-- Hold every core at its next instruction boundary. -/
def State.stopCores (s : State) : State := allCores.foldl (fun t c => t.setCore c { t.core c with run := .held }) s

/-- The power-fail warning rises (R554). -/
def State.pfwRise (s : State) : State := ((s.setBit PWR_STAT 4 true).event PWR_EVT 0 18).ldgPowerFail

/-- Any wake flag is set. -/
def State.wakeFlag (s : State) : Bool := s.rg MIT_WAKEF != 0

/-- A write to PWR_CMD (R550, R552): OP 1 PARK, 2 OFF. -/
def State.writePwrCmd (s : State) (v : Word) : State :=
  let park := fieldOf v 28 4 == 1
  let bad := if park then s.bit BEAT_STAT 3 else s.bit MIT_PWRON 0 || s.wakeFlag
  s.command pwrPort false bad (fieldOf v 0 16 != 0x5041) (fun t =>
    if park then { t.stopCores.leaveDoze with pwr := .toPark }
    else { (if t.bit PWR_STAT 4 then t else t.pfwRise) with pwr := .toOff })

/-- PWR_PARK. -/
def execPwrPark (i : Initiator) (key : BitVec 16) (s : State) : Out :=
  let v := w32 (0x10000000 + key.toNat)
  done (s.guardW i PWR_CMD v (fun t => t.writePwrCmd v))

/-- PWR_OFF. -/
def execPwrOff (i : Initiator) (key : BitVec 16) (s : State) : Out :=
  let v := w32 (0x20000000 + key.toNat)
  done (s.guardW i PWR_CMD v (fun t => t.writePwrCmd v))

/-- The Ledger has no acceptance queued or running, and what a power-fail warning starts has ended (R550, R556). -/
def State.ldgStill (s : State) : Bool := s.ldg.queue.isEmpty && (!s.bit PWR_STAT 4 || s.bit LDG_STAT 8)

/-- The core domain is off in Park: what a Park wake keeps is kept, with what the link wake receivers need (R309, R548). -/
def State.parked (s : State) : State :=
  let t := s.cleared 7
  let u := [LNK_PORT 0, LNK_PORT 1, LNK_ID].foldl (fun w a => w.setRg a (s.rg a)) t
  let x := u.setRg PWR_RSTCAUSE (s.rg PWR_RSTCAUSE)
  let y := (x.setFld BOOT_STAT 0 3 (s.fld BOOT_STAT 0 3)).setBit PWR_STAT 5 (s.bit PWR_STAT 5)
  { y.setLnk { y.lnk with wakeAsked := s.lnk.wakeAsked } with pwr := .park }

/-- PARK_ENTRY_DONE (R550). -/
def execParkEntryDone (s : State) : Out := done (if s.pwr = .toPark ∧ s.ldgStill then s.parked else s)

/-- PARK_WAKE (R551): a wake flag or a WAKE frame ends Park with a reset of kind 7. -/
def execParkWake (s : State) : Out :=
  done (if s.pwr = .park ∧ (s.wakeFlag ∨ s.lnk.wakeAsked) then s.deviceReset 7 0 false else s)

/-- The core domain is off in Off: the Mitten and the MRAM alone are kept until the power-on reset that ends it. -/
def State.offState (s : State) : State := { s.mramCut.cleared 1 with pwr := .off }

/-- OFF_ENTRY_DONE (R552): the Ledger is QUIET. -/
def execOffEntryDone (s : State) : Out := done (if s.pwr = .toOff ∧ s.bit LDG_STAT 8 then s.offState else s)

/-- VSYS_LOSS (R548): VSYS falls below 1.30 V. -/
def execVsysLoss (s : State) : Out := done s.offState

/-! ### Supplies (R553, R554) -/

/-- REGULATOR_FAULT (R553). -/
def execRegulatorFault (s : State) : Out := done (if s.powered then s.event PWR_EVT 4 22 else s)

/-- VIO_LOW (R553): bank `b` falls below 1.62 V. -/
def execVioLow (b : Fin 5) (s : State) : Out :=
  done (if s.powered then (s.setBit PWR_STAT (8 + b.val) false).event PWR_EVT 3 21 else s)

/-- VIO_RETURN (R553): bank `b` is back in range. -/
def execVioReturn (b : Fin 5) (s : State) : Out := done (if s.powered then s.setBit PWR_STAT (8 + b.val) true else s)

/-- V_PFW in millivolts. -/
def State.vPfw (s : State) : Nat := 2000 + 50 * s.fld PWR_PFW 0 5

/-- The power-fail warning ends (R554). -/
def State.pfwEnd (s : State) : State := (s.setBit PWR_STAT 4 false).event PWR_EVT 1 19

/-- A write to PWR_PFW (R554): with EN = 0 the warning is low, but for the one that OFF raised. -/
def State.writePfw (s : State) (v : Word) : State :=
  let t := s.setRg PWR_PFW (v &&& 0x8000001F)
  if t.bit PWR_STAT 4 && !bitOf v 31 && t.pwr != .toOff then t.pfwEnd else t

/-- PFW_RISE (R554): VSYS has stayed at `vsys` millivolts for 1 µs. -/
def execPfwRise (vsys : Word) (s : State) : Out :=
  done (
    if s.powered && s.bit PWR_PFW 31 && !s.bit PWR_STAT 4 && decide (vsys.toNat < s.vPfw) then s.pfwRise else s)

/-- PFW_FALL (R554): VSYS has risen to `vsys` millivolts. The warning that OFF raised stays (R552). -/
def execPfwFall (vsys : Word) (s : State) : Out :=
  done (
    if s.powered && s.bit PWR_STAT 4 && s.pwr != .toOff && decide (s.vPfw + 50 < vsys.toNat) then s.pfwEnd else s)

end Sys2Proof.Machine
end

