-- ==== Sys2Proof/Machine/Boot.lean ====
section
/-! DEFINITION. Boot (spec/21 R536 to R546): the boot ROM's checks of a copy and the handover, the boot records, and the start
of cores (R547). What the boot ROM reads from flash or eMMC is an operand (log entry 30). -/

namespace Sys2Proof.Machine

/-! ### Images (R539, R540) -/

/-- A field of an image: `n` bytes at `o`, little-endian. -/
def imgField (img : List Byte) (o n : Nat) : Nat := ofLe ((img.drop o).take n)

/-- Byte values of part of an image. -/
def imgBytes (img : List Byte) (o n : Nat) : List Nat := ((img.drop o).take n).map (fun b => b.toNat)

/-- Round up to a multiple of `m`. -/
def roundUp (n m : Nat) : Nat := (n + m - 1) / m * m

/-- Header fields. -/
def imgNseg (img : List Byte) : Nat := imgField img 4 4 / 0x100000 % 16
def imgNcompat (img : List Byte) : Nat := imgField img 4 4 / 0x1000000
def imgLen (img : List Byte) : Nat := imgField img 8 4
def imgEntry (img : List Byte) : Nat := imgField img 0x14 4

/-- A segment: load address, length, offset, and whether it is encrypted. -/
structure BootSeg where
  dest : Nat
  len : Nat
  offs : Nat
  enc : Bool
deriving DecidableEq, Repr

/-- The segments of an image. -/
def imgSegs (img : List Byte) : List BootSeg :=
  (List.range (imgNseg img)).map (fun k =>
    { dest := imgField img (0x80 + 16 * k) 4, len := imgField img (0x84 + 16 * k) 4, offs := imgField img (0x88 + 16 * k) 4
      enc := imgField img (0x8C + 16 * k) 4 % 2 == 1 })

/-- The segments lie one after another, each at a multiple of 16; the end of the last is answered. -/
def segsFrom : Nat → List BootSeg → Option Nat
  | o, [] => some o
  | o, g :: l => if g.offs = roundUp o 16 then segsFrom (g.offs + g.len) l else none

/-- Bytes from `a` up to `b` are 0. -/
def imgZero (img : List Byte) (a b : Nat) : Bool := ((img.drop a).take (b - a)).all (fun c => c == 0)

/-- The padding of an image is 0: from `o` to the first segment, between segments, and up to the signature. -/
def padsZero (img : List Byte) : Nat → List BootSeg → Bool
  | o, [] => imgZero img o (roundUp o 16)
  | o, g :: l => imgZero img o g.offs && padsZero img (g.offs + g.len) l

/-- Step 2 of R541: the format of an image of kind `k` (1 Gauntlet, 2 application). -/
def imgFormatOk (img : List Byte) (k : Nat) : Bool :=
  let w1 := imgField img 4 4
  let n := imgNseg img
  let nc := imgNcompat img
  let segs := imgSegs img
  let first := 0x100 + 8 * nc
  let last := segsFrom first segs
  let head := imgField img 0 4 == 0x4E494D47 && w1 % 256 == k && w1 / 256 % 256 == 1 && w1 / 0x20000 % 8 == 0 &&
    decide (1 ≤ n ∧ n ≤ 8) && decide (nc ≤ (if k = 1 then 0 else 64)) && imgField img 0x10 4 / 16 % 4096 == 0 &&
    imgEntry img % 4 == 0 && imgField img 0x18 4 == (if k = 1 then 0 else 1) && imgField img 0x1C 4 == 0 &&
    (k != 1 || imgField img 0x0C 4 < 0x10000) && imgZero img 0x70 0x80 && imgZero img (0x80 + 16 * n) 0x100
  let flags := (List.range n).all (fun j => imgField img (0x8C + 16 * j) 4 < 2)
  let compat := (List.range nc).all (fun j => imgField img (0x105 + 8 * j) 3 == 0)
  let fits := match last with
    | some e => imgLen img == roundUp e 16 + 64
    | none => false
  head && flags && compat && fits && padsZero img first segs

/-- SHA-256 of a byte string. -/
def sha256 (l : List Nat) : List Nat :=
  let p := shaPad l.length
  (shaBlocks shaInit (l ++ p) ((l.length + p.length) / 64)).flatMap (fun w => natBytes 4 w.toNat)

/-- Step 4 of R541: the signature. -/
def imgSigOk (img : List Byte) : Bool :=
  let n := imgLen img
  let x := bytesNat (imgBytes img 0x20 32)
  let y := bytesNat (imgBytes img 0x40 32)
  onCurve x y &&
    ecVerify (bytesNat (sha256 (imgBytes img 0 (n - 64)))) (bytesNat (imgBytes img (n - 64) 32)) (bytesNat (imgBytes img (n - 32) 32))
      (some (x, y))

/-! ### Boot records (R542, R543, R545) -/

/-- Bytes of the boot records area. -/
def State.recordBytes (s : State) (a n : Nat) : List Nat := (List.range n).map (fun k => (s.byteAt (a + k)).toNat)

/-- Root `k`. -/
def rootAddr (k : Nat) : Nat := 0x181F0080 + 32 * k

/-- The words of root `k` are readable; one that is not is neither zero nor equal to a digest (log entry 30). -/
def State.rootReads (s : State) (k : Nat) : Bool := (List.range 4).all (fun j => (s.mramWord (rootAddr k + 8 * j)).isSome)

/-- Root `k` is all zero. -/
def State.rootZero (s : State) (k : Nat) : Bool := s.rootReads k && (s.recordBytes (rootAddr k) 32).all (fun b => b == 0)

/-- The boot ROM or BOOT_CMD reads the boot records from `a` to `b`: their errors are found (R194). -/
def State.recordSeen (s : State) (a b : Nat) : State := s.mramSeen (fun x => decide (a ≤ x ∧ x < b))

/-- The lifecycle is OPEN (R542). -/
def State.lifeOpen (s : State) : Bool := s.rootZero 0 || s.rootZero 1

/-- Anti-rollback counter `k`. -/
def State.arb (s : State) (k : Nat) : Nat := s.peek (0x181F0000 + 8 * k) 2

/-- The device record (R545), where MAGIC and CRC check: ID and MGR. -/
def State.deviceRecord (s : State) : Option (Nat × Bool) :=
  let a := 0x181F0100
  if (s.mramWord a).isSome ∧ (s.mramWord (a + 8)).isSome ∧ s.peek a 4 = 0x52444544 ∧ s.peek (a + 12) 4 = crc32 (s.recordBytes a 12) then
    some (s.peek (a + 4) 4 % 64, s.peek (a + 4) 4 / 256 % 2 == 1)
  else none

/-- BOOT_STAT as read: OPEN shows the lifecycle (R542). -/
def State.bootShow (s : State) : Word := withBit (s.rg BOOT_STAT) 9 s.lifeOpen

/-! ### A copy (R538, R541) -/

/-- The copies that BOOTSEL names, in order: 0 OSPI A, 1 OSPI B, 2 eMMC A, 3 eMMC B, 4 link. -/
def bootCopies (sel : Nat) : List Nat :=
  match sel with
  | 0 => [0, 1]
  | 1 => [2, 3]
  | 2 => [4]
  | 3 => [0, 1, 4]
  | _ => []

/-- ERR codes of BOOT_STAT. -/
abbrev E_READ : Nat := 1
abbrev E_FORMAT : Nat := 2
abbrev E_ROOT : Nat := 3
abbrev E_SIG : Nat := 4
abbrev E_ARB : Nat := 5
abbrev E_DEST : Nat := 6
abbrev E_KEY : Nat := 7
abbrev E_DEVREC : Nat := 8
abbrev E_SEL : Nat := 9

/-- Two spans (address, length) overlap. -/
def spansMeet (p q : Nat × Nat) : Bool := decide (p.1 < q.1 + q.2 ∧ q.1 < p.1 + p.2 ∧ 0 < p.2 ∧ 0 < q.2)

/-- The spans of an image. -/
def imgSpans (img : List Byte) : List (Nat × Nat) := (imgSegs img).map (fun g => (g.dest, g.len))

/-- No two spans of a list overlap. -/
def spansApart : List (Nat × Nat) → Bool
  | [] => true
  | p :: l => l.all (fun q => !spansMeet p q) && spansApart l

/-- Step 6 of R541; `other` are the spans of the image checked before. -/
def destOk (img : List Byte) (k : Nat) (other : List (Nat × Nat)) (link : Bool) : Bool :=
  let l := imgSpans img
  let within := fun (a b : Nat) (p : Nat × Nat) => decide (a ≤ p.1 ∧ p.1 + p.2 ≤ b)
  let bar := (0x107C0000, 0x40000) :: (if link then [(stagingBase, stagingEnd - stagingBase)] else [])
  l.all (fun p => within 0x10000000 0x10800000 p || (k == 2 && within 0x08100000 0x08140000 p)) &&
    spansApart (l ++ other) && l.all (fun p => bar.all (fun q => !spansMeet p q)) &&
    l.any (fun p => decide (p.1 ≤ imgEntry img ∧ imgEntry img < p.1 + p.2))

/-- Place the segments of an image. -/
def State.placeSegs (s : State) (img : List Byte) : State :=
  (imgSegs img).foldl (fun t g => (t.writeRun .c0 g.dest ((img.drop g.offs).take g.len)).2) s

/-- Decrypt the encrypted segments where they stand: AES-256-CTR with key slot 15 and counter IV + OFFSET / 16. -/
def State.decryptSegs (s : State) (img : List Byte) : State :=
  let keys := aesKeys (natBytes 32 (s.keySlot 15).key) 8
  let iv := bytesNat (imgBytes img 0x60 16)
  (imgSegs img).foldl (fun t g =>
    if g.enc then
      let d := aesCtr keys 8 128 ((iv + g.offs / 16) % 2 ^ 128) (imgBytes img g.offs g.len) ((g.len + 15) / 16)
      (t.writeRun .c0 g.dest (d.map (fun n => BitVec.ofNat 8 n))).2
    else t) s

/-- Clear the spans of an image. -/
def State.clearSegs (s : State) (img : List Byte) : State :=
  (imgSegs img).foldl (fun t g => (t.writeRun .c0 g.dest (List.replicate g.len 0)).2) s

/-- Step 3 of R541: in LOCKED the signing key's digest equals the root. -/
def State.rootOk (s : State) (img : List Byte) (k : Nat) : Bool :=
  s.lifeOpen || (s.rootReads (k - 1) && sha256 (imgBytes img 0x20 64) == s.recordBytes (rootAddr (k - 1)) 32)

/-- The steps of R541 for one image: its ERR code, or 0. -/
def State.checkImage (s0 : State) (img : List Byte) (k : Nat) (other : List (Nat × Nat)) (link : Bool) : Nat × State :=
  if img.length < 256 ∨ img.length < imgLen img then (E_READ, s0)
  else if !imgFormatOk img k then (E_FORMAT, s0)
  else
  let s := s0.recordSeen (rootAddr 0) (rootAddr 2)
  if !s.rootOk img k then (E_ROOT, s)
  else
    let w := imgField img 0x10 4
    let t := (s.placeSegs img).recordSeen (0x181F0000 + 8 * (w % 16)) (0x181F0008 + 8 * (w % 16))
    let key := t.keySlot 15
    if !imgSigOk img then (E_SIG, t)
    else if t.eccAt (0x181F0000 + 8 * (w % 16)) = some .uncorrectable ∨ w / 65536 < t.arb (w % 16) then (E_ARB, t)
    else if !destOk img k other link then (E_DEST, t)
    else if (imgSegs img).any (fun g => g.enc) && !(key.type == 2 && key.usage.testBit 1) then (E_KEY, t)
    else (0, t.decryptSegs img)

/-- Both images of a bundle: the ERR code of the copy, or 0. A copy that fails has its spans cleared. -/
def State.checkBundle (s : State) (b : List Byte) (link : Bool) : Nat × State :=
  let app := b.drop (roundUp (imgLen b) 4096)
  match s.checkImage b 1 [] link with
  | (0, t) =>
    match t.checkImage app 2 (imgSpans b) link with
    | (0, u) => (0, u)
    | (e, u) => (e, if imgFormatOk app 2 && decide (imgLen app ≤ app.length) then (u.clearSegs b).clearSegs app else u.clearSegs b)
  | (e, t) => (e, if imgFormatOk b 1 && decide (imgLen b ≤ b.length) then t.clearSegs b else t)

/-! ### The boot ROM's steps -/

/-- C0 stops in IDLE with IE = 0, until the next reset (R541). -/
def State.bootStop (s : State) : State := { s with c0 := { s.c0 with run := .idleLoop, status := withBit s.c0.status 2 false } }

/-- A failure: ERR and FAILS (R541). -/
def State.bootErr (s : State) (e : Nat) : State := (s.setFld BOOT_STAT 12 4 e).setFld BOOT_STAT 16 2 (s.fld BOOT_STAT 16 2 + 1)

/-- A write of the boot ROM to the register at `a`. -/
def State.romWrite (s : State) (a : Nat) (v : Word) : State :=
  match regAt a with
  | some (row, _, _) => s.storeReg a row v
  | none => s

/-- LNK_ID and LNK_CFG.MGR from a device record, once (R545). -/
def State.useRecord (s0 : State) : State :=
  let s := s0.recordSeen 0x181F0100 0x181F0110
  match s.deviceRecord with
  | none => s
  | some (id, mgr) =>
    if s.wosSpent.contains LNK_ID then s else (s.romWrite LNK_ID (w32 id)).setBit LNK_CFG 0 mgr

/-- The copy that the boot ROM tries next. -/
def State.nextCopy (s : State) : Option Nat := (bootCopies (s.fld BOOT_STAT 0 3))[s.fld BOOT_STAT 16 2]?

/-- Go on to the next copy: a link boot needs a device record with MGR = 0, starts the link and asks for the bundle (R304, R538);
with no copy left, C0 stops (R541). -/
def State.bootNext (s : State) : State :=
  match s.nextCopy with
  | none => s.bootStop
  | some 4 =>
    match s.deviceRecord with
    | some (_, false) =>
      let t := (s.useRecord.setBit BOOT_STAT 11 true).writeLnkCmd 0x10000000
      let reqs := (List.range 8).map (fun k => (1024 * k, 1024))
      reqs.foldl (fun u e => u.sendReq e.1 e.2) (t.setLnk { t.lnk with bootReqs := reqs })
    | _ => (s.bootErr E_DEVREC).bootStop
  | some _ => s

/-- C0 executes the boot ROM (R546). -/
def State.inBoot (s : State) : Bool := s.c0.run == .running && !s.bit BOOT_STAT 10 && s.powered

/-- BOOT_START (R536): the cause has ended, XIN runs and PLL_SYS is locked; C0 starts the boot ROM at Host level. -/
def execBootStart (s : State) : Out :=
  done (
    if s.c0.run = .held ∧ s.bit BOOT_STAT 10 = false ∧ s.pwr = .run then
      let t := { s with c0 := { s.c0 with run := .running, pc := 0 } }
      let u := (t.clockOk 0).clockOk 3
      if (bootCopies (u.fld BOOT_STAT 0 3)).isEmpty then (u.setFld BOOT_STAT 12 4 E_SEL).bootStop else u.bootNext
    else s)

/-- The Compat entries of the application image (R540). -/
def compatOf (app : List Byte) : List Nat := (List.range (imgNcompat app)).map (fun k => imgField app (0x100 + 8 * k) 8)

/-- XIP as the boot ROM leaves it (R538, R546): `mode` 0 is 8D-8D-8D at 200 MHz with DQS, 1 is 1-1-8 at 100 MHz, 2 is 1-1-1 at
25 MHz with opcode 0x03. Opcode, dummy cycles and extension of the first two come from SFDP: free values. -/
def State.xipOn (s : State) (mode : Nat) : State :=
  let cfg := fun (proto div dqs ext dly : Nat) => w32 (1 + 2 * proto + 256 * div + 65536 * dqs + 262144 * ext + 1048576 * dly)
  if mode = 2 then ((s.setRg OSPI_CFG (cfg 0 8 0 0 0)).setRg OSPI_XRD 3).setRg OSPI_XCTL 1
  else
    let (f, s1) := s.draw
    let (g, s2) := s1.draw
    let c := if mode = 0 then cfg 3 1 1 (f % 3) (f / 3 % 256) else cfg 1 2 0 0 (f / 3 % 256)
    let addr4 := f / 768 % 2
    ((s2.setRg OSPI_CFG (withBit c 17 (addr4 == 1))).setRg OSPI_XRD (w32 (g % 256 + 65536 * (g / 256 % 32)))).setRg OSPI_XCTL 1

/-- Handover (R544 to R546), from copy `from_`. -/
def State.handover (s : State) (b : List Byte) (from_ mode : Nat) : State :=
  let app := b.drop (roundUp (imgLen b) 4096)
  let link := from_ == 4
  let s1 := if link then (s.writeLnkCmd 0x20000000).setBit BOOT_STAT 11 false else s
  let s2 := if link then (s1.writeRun .c0 stagingBase (List.replicate (stagingEnd - stagingBase) 0)).2 else s1
  let s3 := s2.useRecord
  let gntver := imgField b 0x0C 2
  let gen := imgField app 0x18 1
  let step := if Config.stepA1 then 1 else 0
  let compat := compatOf app
  let tuple := step + 256 + 65536 * gntver + 0x100000000 * gen
  let restr := !compat.contains tuple
  let s4 := ((s3.setRg BOOT_GNTVER (w32 gntver)).setRg BOOT_APPVER (w32 (imgField app 0x0C 4))).setRg BOOT_TUPLE
    (w32 (step + 256 + 65536 * gen))
  let s5 := (List.range 64).foldl (fun t k =>
    let e := compat.getD k 0
    (t.setRg (BOOT_COMPAT_LO k) (w32 e)).setRg (BOOT_COMPAT_HI k) (w32 (e / 0x100000000))) (s4.setRg BOOT_NCOMPAT (w32 compat.length))
  let s6 := s5.romWrite LDG_RESTR (if restr then 1 else 0)
  let s7 := s6.setRg SYS_CLKEN (w32 (1 + 65536 + (if from_ = 2 ∨ from_ = 3 then 262144 else 0)))
  let s8 := if from_ < 2 then s7.xipOn mode else s7
  let s9 := ((s8.setFld BOOT_STAT 4 3 from_).setBit BOOT_STAT 8 restr).setBit BOOT_STAT 10 true
  let s10 := (s9.setBit SYS_CRUN 0 true).setBit SYS_CRUN 4 true
  let e := imgEntry app
  let pc := if 0x08100000 ≤ e ∧ e ≤ 0x0810FFFF then e - 0x100000 else e
  let s11 : State := { s10 with
    c0 := { Core.atReset 1 with run := .running, pc := w32 pc, cycle := s10.c0.cycle }
    g0 := { Core.atReset 2 with run := .running, pc := w32 (imgEntry b), cycle := s10.g0.cycle } }
  if s11.fld BOOT_STAT 16 2 ≠ 0 then s11.event BOOT_EVT 0 23 else s11

/-- The LEN of the image that the boot ROM reads at `a` of the staging area. -/
def State.stagedLen (s : State) (a : Nat) : Option Nat × State :=
  if stagingEnd < a + 12 then (none, s)
  else
    match s.fabRead .c0 (a + 8) .word with
    | (.ok v, t) => (some v, t)
    | (.err _, t) => (none, t)

/-- The bundle that came over the link, as C0 reads it from the staging area; none for a read error or one longer than the area
(R538, R541). -/
def State.stagedBundle (s : State) : Option (List Byte) × State :=
  match s.stagedLen stagingBase with
  | (none, t) => (none, t)
  | (some n, t) =>
    let g := roundUp n 4096
    match t.stagedLen (stagingBase + g) with
    | (none, u) => (none, u)
    | (some m, u) =>
      if stagingEnd < stagingBase + g + m then (none, u)
      else
        match u.readRun .c0 stagingBase (g + m) with
        | (l, none, x) => (some l, x)
        | (_, some _, x) => (none, x)

/-- BOOT_HANDOVER (R538, R541, R546): the boot ROM has read the next copy: `bundle` is what the flash or eMMC gave (none: a read
error), and for the link what stands in the staging area. A copy that passes is handed over; one that fails is cleared and
counted, and the next is tried. `mode` is the fastest mode that the flash advertises. -/
def execBootHandover (bundle : Option (List Byte)) (mode : Fin 3) (s : State) : Out :=
  done (
    if !s.inBoot then s
    else
      match s.nextCopy with
      | none => s
      | some c =>
        match if c = 4 then s.stagedBundle else (bundle, s) with
        | (none, r) => (r.bootErr E_READ).bootNext
        | (some b, r) =>
          match r.checkBundle b (c == 4) with
          | (0, t) => t.handover b c mode.val
          | (e, t) => (t.bootErr e).bootNext)

/-! ### BOOT_CMD (R543) -/

/-- The BOOT command port: a rejection sets BOOT_EVT.ERR and raises source 23. -/
def bootPort : CmdPort := { st := BOOT_CMDST, rejects := BOOT_REJECT, evt := some (BOOT_EVT, 0), src := some 23 }

/-- Program words into the boot records, in ascending order (R192, R193). -/
def State.recordWrite (s : State) : Nat → List Nat → State
  | _, [] => s
  | a, v :: l => State.recordWrite (s.mramPut a v) (a + 8) l

/-- A counter as BOOT_CMD reads it: a free value where it is unreadable (log entry 30). -/
def State.arbRead (s : State) (k : Nat) : Nat × State :=
  let t := s.recordSeen (0x181F0000 + 8 * k) (0x181F0008 + 8 * k)
  match t.mramWord (0x181F0000 + 8 * k) with
  | some v => (v % 65536, t)
  | none => let (f, u) := t.draw; (f % 65536, u)

/-- The digest in CRY_HASH as the four words of a root, its first byte at the lowest address. -/
def State.digestWords (s : State) : List Nat :=
  let l := (natBytes 32 (s.rgBe (CRY_HASH 0) 8)).map (fun n => BitVec.ofNat 8 n)
  (List.range 4).map (fun k => ofLe ((l.drop (8 * k)).take 8))

/-- ADVANCE (R543): counter `k` takes value `v`; source 24. -/
def State.bootAdvance (s : State) (k v : Nat) : State := (s.recordWrite (0x181F0000 + 8 * k) [v]).event BOOT_EVT 1 24

/-- A write to BOOT_CMD (R543, R556): PROVISION takes the digest in CRY_HASH. -/
def State.writeBootCmd (s : State) (v : Word) : State :=
  let k := fieldOf v 16 4
  if fieldOf v 28 4 = 1 then
    let (c, t) := s.arbRead k
    t.command bootPort false false (decide (fieldOf v 0 16 < c)) (fun u => u.bootAdvance k (fieldOf v 0 16))
  else
    let t := if k < 2 then s.recordSeen (rootAddr k) (rootAddr (k + 1)) else s
    t.command bootPort false (decide (k < 2) && !t.rootZero k) (decide (2 ≤ k)) (fun u => u.recordWrite (rootAddr k) u.digestWords)

/-- BOOT_ADVANCE. -/
def execBootAdvance (i : Initiator) (idx : Fin 16) (val : BitVec 16) (s : State) : Out :=
  let v := w32 (0x10000000 + 65536 * idx.val + val.toNat)
  done (s.guardW i BOOT_CMD v (fun t => t.writeBootCmd v))

/-- BOOT_PROVISION. -/
def execBootProvision (i : Initiator) (idx : Fin 16) (s : State) : Out :=
  let v := w32 (0x20000000 + 65536 * idx.val)
  done (s.guardW i BOOT_CMD v (fun t => t.writeBootCmd v))

/-! ### Starting cores (R547) -/

/-- Where core Cn may fetch (R80). -/
def appMayFetch (a : Nat) : Bool :=
  match regionOf a with
  | some .rom => true
  | some .ownTcm => true
  | some .sram => true
  | some .xip => true
  | _ => false

/-- SYS_CENTRY[n]: that of C0 stands at offset 0x12C. -/
def State.centry (s : State) (n : Nat) : Nat := (s.rg (SYS_CENTRY n)).toNat

/-- Core Cn has been started since the last reset of the device and its last CORERST. -/
def State.started (s : State) (n : Nat) : Bool := s.bit SYS_CRUN n || (n == 0 && s.c0.run != .held)

/-- Start core Cn at SYS_CENTRY[n], at Host level, with the state of R546. -/
def State.startCore (s : State) (n : Nat) : State :=
  let c := if n = 0 then CoreId.c0 else if n = 1 then .c1 else if n = 2 then .c2 else .c3
  (s.setCore c { Core.atReset 1 with run := .running, pc := w32 (s.centry n), cycle := (s.core c).cycle }).setBit SYS_CRUN n true

/-- A write to SYS_CSTART (R547). -/
def State.writeCstart (s : State) (v : Word) : State :=
  let l := bitsSet v 4
  if l.isEmpty then s
  else
    s.command pwrPort false (l.any s.started) (l.any (fun n => s.centry n % 4 != 0 || !appMayFetch (s.centry n)))
      (fun t => l.foldl State.startCore t)

/-- SYS_CSTART. -/
def execSysCstart (i : Initiator) (v : Word) (s : State) : Out := done (s.guardW i SYS_CSTART v (fun t => t.writeCstart v))

end Sys2Proof.Machine
end

