-- ==== Sys2Proof/Machine/Can.lean ====
section
/-! DEFINITION. The CAN controllers (spec/20 R514 to R520). The bus is outside the block: each frame, error and idle
condition that a controller meets there is a command (log entry 26). -/

namespace Sys2Proof.Machine

/-- CAN_STAT.STATE codes, in the order of R517. -/
abbrev N_INIT : Nat := 0
abbrev N_ACTIVE : Nat := 1
abbrev N_PASSIVE : Nat := 2
abbrev N_BUSOFF : Nat := 3

/-- The command port of controller `c` (R514). -/
def canPort (c : Nat) : CmdPort :=
  { st := CAN_CMDST c, rejects := CAN_REJECT c, evt := some (CAN_EVT c, 3), src := some (771 + 4 * c) }

/-- What controller `c` holds besides its registers. -/
def State.can (s : State) (c : Nat) : CanSt := smGet (fun _ => CanSt.blank) s.cans c

/-- Store it. -/
def State.setCan (s : State) (c : Nat) (x : CanSt) : State := { s with cans := smSet (fun _ => CanSt.blank) s.cans c x }

/-- An event of controller `c`: bit `k` with source 768 + 4c + k. -/
def State.canEvt (s : State) (c k : Nat) : State := s.event (CAN_EVT c) k (768 + 4 * c + k)

/-- CAN_STAT fields. -/
def State.canState (s : State) (c : Nat) : Nat := s.fld (CAN_STAT c) 0 2
def State.canTec (s : State) (c : Nat) : Nat := s.fld (CAN_STAT c) 8 8
def State.canRec (s : State) (c : Nat) : Nat := s.fld (CAN_STAT c) 16 8

/-- The controller is clocked and takes part in bus traffic. -/
def State.canOn (s : State) (c : Nat) : Bool :=
  s.bit SYS_CLKEN (8 + c) && (s.canState c == N_ACTIVE || s.canState c == N_PASSIVE)

/-- A change of state (R517): source 770 + 4c; every entry to BUSOFF is reported with detail kind 1 (R220). -/
def State.canTo (s : State) (c st : Nat) : State :=
  if s.canState c = st then s
  else
    let t := (s.setFld (CAN_STAT c) 0 2 st).canEvt c 2
    if st = N_BUSOFF then t.faultReport (0x820 + c) 1 else t

/-- The error counters take values and the state follows them, as ISO 11898-1 has it: PASSIVE from 128, BUSOFF from 256. The
field of a counter beyond 255 is a free value (log entry 26). -/
def State.canCounters (s : State) (c tec rx : Nat) : State :=
  let (f, t0) := if 256 ≤ tec then s.draw else (tec, s)
  let t := (t0.setFld (CAN_STAT c) 8 8 f).setFld (CAN_STAT c) 16 8 (min 255 rx)
  t.canTo c (if 256 ≤ tec then N_BUSOFF else if 128 ≤ tec ∨ 128 ≤ rx then N_PASSIVE else N_ACTIVE)

/-- A STOP that waited for the frame in progress ends in INIT (R517). -/
def State.canFrameEnd (s : State) (c : Nat) : State :=
  if (s.can c).stopping then (s.setCan c { s.can c with stopping := false }).canTo c N_INIT else s

/-- START (R517): the controller waits to join. -/
def State.canStart (s : State) (c : Nat) : State := s.setCan c { s.can c with joining := true }

/-- STOP (R517): INIT, after the frame in progress if there is one. -/
def State.canStop (s : State) (c : Nat) (frame : Bool) : State :=
  let x := s.can c
  if frame && s.canOn c then s.setCan c { x with stopping := true }
  else (s.setCan c { x with joining := false, stopping := false, recovering := false }).canTo c N_INIT

/-- RECOVER (R517). -/
def State.canRecover (s : State) (c : Nat) : State := s.setCan c { s.can c with recovering := true }

/-- A write to CAN_CMD (R514, R517, R520): in REQUAL, START is refused outside loopback. `frame` tells whether a frame is in
progress. -/
def State.writeCanCmd (s : State) (c : Nat) (v : Word) (frame : Bool) : State :=
  let start := bitOf v 0
  let stop := bitOf v 1
  let rcv := bitOf v 2
  if !start && !stop && !rcv then s
  else
    let st := s.canState c
    let bad :=
      if start then st != N_INIT || (s.chanState (0x820 + c) == 3 && s.fld (CAN_CFG c) 0 2 != 3)
      else if stop then st == N_INIT
      else st != N_BUSOFF || s.bit (CAN_CFG c) 2
    s.command (canPort c) ((start && stop) || (start && rcv) || (stop && rcv)) bad false
      (fun t => if start then t.canStart c else if stop then t.canStop c frame else t.canRecover c)

/-- CAN_CMD written over the bus: whether a frame is in progress is a free value (log entry 26). -/
def State.writeCanCmdFree (s : State) (c : Nat) (v : Word) : State :=
  let (f, t) := s.draw
  t.writeCanCmd c v (f % 2 == 1)

/-- CAN_START. -/
def execCanStart (i : Initiator) (c : Fin 2) (s : State) : Out :=
  done (s.guardW i (CAN_CMD c.val) 1 (fun t => t.writeCanCmd c.val 1 false))

/-- CAN_STOP: `frame` tells whether a frame is in progress on the bus. -/
def execCanStop (i : Initiator) (c : Fin 2) (frame : Bool) (s : State) : Out :=
  done (s.guardW i (CAN_CMD c.val) 2 (fun t => t.writeCanCmd c.val 2 frame))

/-- CAN_RECOVER. -/
def execCanRecover (i : Initiator) (c : Fin 2) (s : State) : Out :=
  done (s.guardW i (CAN_CMD c.val) 4 (fun t => t.writeCanCmd c.val 4 false))

/-- CAN_BUS_JOIN (R517): 11 recessive bits have passed; the controller joins with both error counters 0 (log entry 26). -/
def execCanBusJoin (c : Fin 2) (s : State) : Out :=
  done (
    let x := s.can c.val
    if x.joining && s.canState c.val == N_INIT && s.bit SYS_CLKEN (8 + c.val) then
      (s.setCan c.val { x with joining := false }).canCounters c.val 0 0
    else s)

/-! ### Rings (R518, R519) -/

/-- Slots of a ring. -/
def State.canSlots (s : State) (ctl : Nat) : Nat := 2 ^ s.fld ctl 0 4

/-- The address of a slot. -/
def State.canSlot (s : State) (base n : Nat) : Nat := (s.rg base).toNat + 80 * n

/-- Data bytes of a frame: DLC as ISO 11898-1 codes it; a remote frame has none. -/
def canLen (id dlc : Nat) : Nat :=
  if id / 0x40000000 % 2 = 1 then 0
  else if id / 0x80000000 = 1 then
    (if dlc ≤ 8 then dlc else [12, 16, 20, 24, 32, 48, 64].getD (dlc - 9) 64)
  else min 8 dlc

/-- Filter `f` matches an identifier word (R518). -/
def State.canMatch (s : State) (c f : Nat) (id : Word) : Bool :=
  let r := s.rg (CAN_FID c f)
  bitOf r 31 && ((id ^^^ r) &&& (s.rg (CAN_FMASK c f) &&& 0x1FFFFFFF)) == 0 && bitOf id 29 == bitOf r 29

/-- The controller neither stores nor sends (R520): it is retired, or in REQUAL outside loopback. -/
def State.canBarred (s : State) (c : Nat) : Bool :=
  s.retired (0x820 + c) || (s.chanState (0x820 + c) == 3 && s.fld (CAN_CFG c) 0 2 != 3)

/-- A correct frame is received (R518): stored at the lowest matching filter, or refused. -/
def State.canStore (s : State) (c : Nat) (id : Word) (ctl : Nat) (data : List Byte) : State :=
  match (List.range 16).find? (fun f => s.canMatch c f id) with
  | none => s
  | some f =>
    let m := s.canSlots (CAN_RXCTL c)
    let wr := s.fld (CAN_RXWR c) 0 10
    if s.canBarred c then s
    else if (wr + 1) % m = s.fld (CAN_RXRD c) 0 10 then (s.count (CAN_RXOVF c) 1).canEvt c 3
    else
      let a := s.canSlot (CAN_RXBASE c) wr
      let n := canLen id.toNat (ctl % 16)
      let head := leBytes 4 id.toNat ++ leBytes 4 (ctl % 64 + 256 * f) ++ leBytes 4 (s.beatNo % 0x100000000) ++ leBytes 4 (min s.offsUs 65535)
      let t := (s.writeRun .camera a (head ++ data.take n)).2
      (t.setFld (CAN_RXWR c) 0 10 ((wr + 1) % m)).canEvt c 0

/-- A frame was received correctly: REC counts down; from PASSIVE it takes a value from 119 to 127 that the standard leaves
open. -/
def State.canRxGood (s : State) (c : Nat) : State :=
  let r := s.canRec c
  if r = 0 then s
  else if r ≤ 127 then s.canCounters c (s.canTec c) (r - 1)
  else
    let (f, t) := s.draw
    t.canCounters c (t.canTec c) (119 + f % 9)

/-- CAN_FRAME_RX (R518): a correct frame on the bus: the first header word, DLC with BRS and ESI, and the data. An FD frame
needs FDEN; in loopback the bus is not heard. -/
def execCanFrameRx (c : Fin 2) (id : Word) (ctl : Fin 64) (data : List Byte) (s : State) : Out :=
  done (
    if s.canOn c.val && s.fld (CAN_CFG c.val) 0 2 != 3 && (s.bit (CAN_CFG c.val) 3 || !bitOf id 31) then
      ((s.canStore c.val id ctl.val data).canRxGood c.val).canFrameEnd c.val
    else s)

/-- A write to CAN_RXRD (R518, R176). -/
def State.writeCanRxrd (s : State) (c : Nat) (v : Word) : State :=
  let m := s.canSlots (CAN_RXCTL c)
  let n := fieldOf v 0 10
  let rd := s.fld (CAN_RXRD c) 0 10
  let wr := s.fld (CAN_RXWR c) 0 10
  let bad := decide (m ≤ n) || decide ((wr + m - rd % m) % m < (n + m - rd % m) % m)
  s.command (canPort c) false false bad (fun t => t.setRg (CAN_RXRD c) (w32 n))

/-- CAN_RXRD_WRITE. -/
def execCanRxrdWrite (i : Initiator) (c : Fin 2) (v : Word) (s : State) : Out :=
  done (s.guardW i (CAN_RXRD c.val) v (fun t => t.writeCanRxrd c.val v))

/-- A write to CAN_TXWR (R519, R363). -/
def State.writeCanTxwr (s : State) (c : Nat) (v : Word) : State :=
  let m := s.canSlots (CAN_TXCTL c)
  let n := fieldOf v 0 10
  let wr := s.fld (CAN_TXWR c) 0 10
  let rd := s.fld (CAN_TXRD c) 0 10
  let bad := decide ((rd + m - wr % m - 1) % m < (n + m - wr % m) % m)
  s.command (canPort c) false false bad (fun t => t.setRg (CAN_TXWR c) (w32 (n % m)))

/-- CAN_TXWR_WRITE. -/
def execCanTxwrWrite (i : Initiator) (c : Fin 2) (v : Word) (s : State) : Out :=
  done (s.guardW i (CAN_TXWR c.val) v (fun t => t.writeCanTxwr c.val v))

/-- A fabric word read; a free value where it ends in an error (log entry 26). -/
def State.serialWord (s : State) (a : Nat) : Nat × State :=
  match s.fabRead .camera a .word with
  | (.ok v, t) => (v, t)
  | (.err _, t) =>
    let (f, u) := t.draw
    (f % 0x100000000, u)

/-- The slot at TXRD has been sent (R519): BEAT and OFFS are written, TXRD advances, source 769 + 4c. In loopback the frame is
received as well. -/
def State.canSent (s : State) (c : Nat) : State :=
  let rd := s.fld (CAN_TXRD c) 0 10
  let a := s.canSlot (CAN_TXBASE c) rd
  let (id, s1) := s.serialWord a
  let (ctl, s2) := s1.serialWord (a + 4)
  let (data, s3) := s2.fabReadBytes .camera (a + 16) (canLen id (ctl % 16))
  let s4 := (s3.fabWrite .camera (a + 8) .word (s3.beatNo % 0x100000000)).2
  let s5 := (s4.fabWrite .camera (a + 12) .half (min s4.offsUs 65535)).2
  let s6 := s5.setCan c { s5.can c with sent := some (w32 id, w32 (ctl % 64), data) }
  let s7 := (s6.setFld (CAN_TXRD c) 0 10 ((rd + 1) % s6.canSlots (CAN_TXCTL c))).canEvt c 1
  if s7.fld (CAN_CFG c) 0 2 = 3 then s7.canStore c (w32 id) (ctl % 64) data
  else s7.canCounters c (s7.canTec c - 1) (s7.canRec c)

/-- CAN_TX_DONE (R519): the frame of the slot at TXRD is transmitted. A listening controller sends nothing (R515), nor does one
that R520 bars. -/
def execCanTxDone (c : Fin 2) (s : State) : Out :=
  done (
    if s.canOn c.val && s.fld (CAN_CFG c.val) 0 2 != 2 && !s.canBarred c.val
        && s.fld (CAN_TXRD c.val) 0 10 != s.fld (CAN_TXWR c.val) 0 10 then (s.canSent c.val).canFrameEnd c.val
    else s)

/-- CAN_BUS_ERROR (R517): an error frame. `kind` says how ISO 11898-1 counts it: 0 transmitter, TEC + 8; 1 receiver, REC + 1;
2 receiver with a dominant bit after its flag, REC + 8; 3 an error that counts nothing. -/
def execCanBusError (c : Fin 2) (kind : Fin 4) (s : State) : Out :=
  done (
    if s.canOn c.val then
      let t := s.countWrap (CAN_ERRCNT c.val) 1
      let tec := t.canTec c.val + (if kind = 0 then 8 else 0)
      let rx := t.canRec c.val + (if kind = 1 then 1 else if kind = 2 then 8 else 0)
      (t.canCounters c.val tec rx).canFrameEnd c.val
    else s)

/-- CAN_RECOVERY_DONE (R517): 128 occurrences of 11 recessive bits have passed in a recovery that runs by RECOVER or by
AUTOREC. -/
def execCanRecoveryDone (c : Fin 2) (s : State) : Out :=
  done (
    let x := s.can c.val
    if s.canState c.val == N_BUSOFF && (x.recovering || s.bit (CAN_CFG c.val) 2) && s.bit SYS_CLKEN (8 + c.val) then
      (s.setCan c.val { x with recovering := false }).canCounters c.val 0 0
    else s)

/-- A write to a register that only INIT may write (STATE). -/
def State.writeCanInit (s : State) (c a : Nat) (v : Word) : State :=
  match regAt a with
  | some (row, _, _) => s.command (canPort c) false (s.canState c != N_INIT) false (fun t => t.storeReg a row v)
  | none => s

end Sys2Proof.Machine
end

