-- ==== Sys2Proof/Machine/CoreCtl.lean ====
section
/-! DEFINITION. A core's levels, protection regions, caches and control registers (spec/03 R75 to R82, R91, R92), up to the
core-private control space at 0xF000_0000. -/

namespace Sys2Proof.Machine

/-! ### Levels and regions (R76 to R79) -/

/-- STATUS.LVL: 0 Task, 1 Host, 2 Guard. -/
def Core.lvl (k : Core) : Nat := fieldOf k.status 0 2

/-- RGN_BASE[r] and RGN_CFG[r]. -/
def Core.base (k : Core) (r : Nat) : Word := smGet (fun _ => 0) k.rgnBase r
def Core.cfg (k : Core) (r : Nat) : Word := smGet (fun _ => 0) k.rgnCfg r

/-- Region `r` is enabled and covers address `a` (R78). -/
def Core.covers (k : Core) (r a : Nat) : Bool :=
  bitOf (k.cfg r) 0 && decide (fieldOf (k.base r) 12 20 ≤ a / 4096 ∧ a / 4096 ≤ fieldOf (k.cfg r) 12 20)

/-- RGN_CFG of the lowest-numbered enabled region that covers `a` (R78). -/
def Core.decides (k : Core) (a : Nat) : Option Word := ((List.range 8).find? (fun r => k.covers r a)).map k.cfg

/-- The region rights: bit 1 read, 2 write, 3 fetch (R78). -/
def Core.permits (k : Core) (bit a : Nat) : Bool :=
  k.lvl != 0 ||
  match k.decides a with
  | some w => bitOf w bit
  | none => false

/-- The access is cacheable (R79); on G0 C has no effect. -/
def State.cacheable (s : State) (c : CoreId) (a : Nat) : Bool :=
  c != .g0 &&
  (match regionOf a with
   | some .sram => true
   | some .rom => true
   | some .xip => true
   | _ => false) &&
  match (s.core c).decides a with
  | some w => bitOf w 4
  | none => false

/-! ### Caches (R73, R91, R92) -/

/-- Lines that share a set: 32 KB, 4 ways, 32-byte lines give 256 sets, indexed by the low bits of the line number (log
entry 31). -/
def sameSet (n m : Nat) : Bool := n % 256 == m % 256

/-- A line of the data cache. -/
def Core.dline (k : Core) (n : Nat) : Option CacheLine := ((k.dcache.find? (fun e => e.1 == n)).map (fun e => e.2))

/-- A line of the instruction cache. -/
def Core.iline (k : Core) (n : Nat) : Option CacheLine := ((k.icache.find? (fun e => e.1 == n)).map (fun e => e.2))

/-- Store a line of the data cache. -/
def State.setDline (s : State) (c : CoreId) (n : Nat) (l : CacheLine) : State :=
  s.setCore c { s.core c with dcache := smPut (s.core c).dcache n l }

/-- Drop a line of the data cache. -/
def State.dropDline (s : State) (c : CoreId) (n : Nat) : State :=
  s.setCore c { s.core c with dcache := smErase (s.core c).dcache n }

/-- Write a line back: the first error, and the state. -/
def State.writeLine (s : State) (c : CoreId) (n : Nat) (l : List Byte) : Option (ErrKind × Nat) × State :=
  s.writeRun c.init (32 * n) l

/-- An error response to a buffered store or a write-back is on its way (R89). -/
def State.imprecise (s : State) (c : CoreId) (a : Nat) (k : ErrKind) : State :=
  s.setCore c { s.core c with storeErrs := (s.core c).storeErrs ++ [{ addr := a, kind := k.code }] }

/-- Make room in the set of line `n` of the data cache: which of four lines leaves is not stated (a free value, log entry 31);
a dirty one is written back through the write buffer (R89). A dirty line with an error cannot leave: false (R83, log
entry 12). -/
def State.evict (s : State) (c : CoreId) (n : Nat) : Bool × State :=
  let set := (s.core c).dcache.filter (fun e => sameSet e.1 n)
  if set.length < 4 then (true, s)
  else
    let (f, t) := s.draw
    match set[f % set.length]? with
    | none => (true, t)
    | some (m, l) =>
      let u := t.dropDline c m
      if l.dirty && l.err then (false, t)
      else if l.dirty then
        match u.writeLine c m l.bytes with
        | (some (k, a), x) => (true, x.imprecise c a k)
        | (none, x) => (true, x)
      else (true, u)

/-- Fill line `n` of the data cache: its bytes, or the vector and the fabric kind of the error. -/
def State.loadLine (s : State) (c : CoreId) (n : Nat) : Except (Nat × Nat) CacheLine × State :=
  match s.readRun c.init (32 * n) 32 with
  | (_, some (k, _), t) => (.error (5, k.code), t)
  | (b, none, t) =>
    let l : CacheLine := { bytes := b, dirty := false, err := false }
    match t.evict c n with
    | (true, u) => (.ok l, u.setDline c n l)
    | (false, u) => (.error (9, 0), u)

/-- The line `n` of the data cache, filled where it is absent: its bytes, or the vector (5 BUSERR, 9 MEMERR) and the fabric kind
of the error. A clean line with an error is invalidated and fetched again (R94); a dirty one ends the access (R83). -/
def State.fillLine (s : State) (c : CoreId) (n : Nat) : Except (Nat × Nat) CacheLine × State :=
  match (s.core c).dline n with
  | none => s.loadLine c n
  | some l =>
    if !l.err then (.ok l, s)
    else if l.dirty then (.error (9, 0), s)
    else (s.dropDline c n).loadLine c n

/-- Fill line `n` of the instruction cache. -/
def State.loadInstr (s : State) (c : CoreId) (n : Nat) : Option ErrKind × State :=
  match s.readRun c.init (32 * n) 32 with
  | (_, some (k, _), t) => (some k, t)
  | (b, none, t) =>
    let set := (t.core c).icache.filter (fun e => sameSet e.1 n)
    let (f, u) := t.draw
    let kept := match set[f % 4]? with
      | some (m, _) => if 4 ≤ set.length then smErase (u.core c).icache m else (u.core c).icache
      | none => (u.core c).icache
    (none, u.setCore c { u.core c with icache := smPut kept n { bytes := b, dirty := false, err := false } })

/-- The line `n` of the instruction cache, filled where it is absent, and again where an error stands in it (R94). -/
def State.fillInstr (s : State) (c : CoreId) (n : Nat) : Option ErrKind × State :=
  match (s.core c).iline n with
  | none => s.loadInstr c n
  | some l =>
    if !l.err then (none, s)
    else (s.setCore c { s.core c with icache := smErase (s.core c).icache n }).loadInstr c n

/-- What ends a cache operation: the error response of its write-back, or a dirty line with an error (R83). -/
inductive CacheErr where
  | bus (k : ErrKind) (a : Nat)
  | memory (a : Nat)
deriving DecidableEq, Repr

/-- Replace bytes of a line from offset `o` up. -/
def putBytes (l : List Byte) (o : Nat) (b : List Byte) : List Byte := l.take o ++ b ++ l.drop (o + b.length)

/-- A cache operation on one line (R92): write it back if dirty, then keep or drop it. Whether a line whose write-back fails
takes the operation's effect is not stated: a free value (log entry 31). A dirty line with an error is not written back and
stays; a clean one with an error is invalidated (R83, R94, log entry 12). -/
def State.cleanLine (s : State) (c : CoreId) (n : Nat) (drop : Bool) : Option CacheErr × State :=
  match (s.core c).dline n with
  | none => (none, s)
  | some l =>
    let finish := fun (t : State) => if drop then t.dropDline c n else t.setDline c n { l with dirty := false }
    if l.err then if l.dirty then (some (.memory (32 * n)), s) else (none, s.dropDline c n)
    else if l.dirty then
      match s.writeLine c n l.bytes with
      | (none, t) => (none, finish t)
      | (some (k, a), t) =>
        let (f, u) := t.draw
        (some (.bus k a), if f % 2 = 0 then finish u else u)
    else (none, finish s)

/-- The whole data cache is cleaned and invalidated, in ascending order of its lines: the first error (R92). -/
def State.cleanAll (s : State) (c : CoreId) : Option CacheErr × State :=
  ((s.core c).dcache.map (fun e => e.1)).foldl (fun (acc : Option CacheErr × State) n =>
    match acc.2.cleanLine c n true with
    | (e, t) => (acc.1.or e, t)) (none, s)

/-- The cache operation of control register `n`, 16 to 22, on the written address (R92). On G0 it has no effect. -/
def State.cacheOp (s : State) (c : CoreId) (n a : Nat) : Option CacheErr × State :=
  let line := a / 32
  let k := s.core c
  if c = .g0 then (none, s)
  else
    match n with
    | 16 => (none, s.setCore c { k with icache := smErase k.icache line })
    | 17 => s.cleanLine c line false
    | 18 => s.cleanLine c line true
    | 19 => (none, s.dropDline c line)
    | 20 => (none, s.setCore c { k with icache := [] })
    | 21 => s.cleanAll c
    | _ => (none, s.setCore c { k with dcache := [] })

/-! ### Control registers (R81, R82) -/

/-- The registers that Host and Guard level read, and those that they write. -/
def ctlReads (n : Nat) : Bool :=
  decide (n ≤ 8) || n == 10 || n == 12 || n == 13 || n == 24 || decide (32 ≤ n ∧ n ≤ 47)
def ctlWrites (n : Nat) : Bool := decide (1 ≤ n ∧ n ≤ 8) || decide (16 ≤ n ∧ n ≤ 22) || n == 24 || decide (32 ≤ n ∧ n ≤ 47)

/-- The registers that Task level reads, and those that it writes. -/
def ctlTaskReads (n : Nat) : Bool := n == 0 || n == 2 || n == 12 || n == 13 || n == 24
def ctlTaskWrites (n : Nat) : Bool := n == 2 || decide (16 ≤ n ∧ n ≤ 18) || n == 24

/-- The control registers whose Task column is refused and that are writable at Guard level only on G0 (R77). -/
def ctlGuardOnly (n : Nat) : Bool := ctlWrites n && !ctlTaskWrites n

/-- A read of control register `n`: its value, and the latch of CYCLE_HI (R28, R82). -/
def State.ctlRead (s : State) (c : CoreId) (n : Nat) : Word × State :=
  let k := s.core c
  match n with
  | 0 => (w32 (0x100 + c.num), s)
  | 1 => (k.status, s)
  | 2 => (k.flags, s)
  | 3 => (k.epc, s)
  | 4 => (k.ecause, s)
  | 5 => (k.eaddr, s)
  | 6 => (k.scratch0, s)
  | 7 => (k.scratch1, s)
  | 8 => (k.vbase, s)
  | 10 => (if s.line c.num then 1 else 0, s)
  | 12 => (w32 k.cycle.toNat, s.setCore c { k with cycleLatch := w32 (k.cycle.toNat / 0x100000000) })
  | 13 => (k.cycleLatch, s)
  | 24 => (k.tp, s)
  | _ => (if n % 2 = 0 then k.base ((n - 32) / 2) else k.cfg ((n - 32) / 2), s)

/-- A write to control register `n`: the error that a cache operation meets, and the state. -/
def State.ctlWrite (s : State) (c : CoreId) (n : Nat) (v : Word) : Option CacheErr × State :=
  let k := s.core c
  let set := fun (k' : Core) => ((none : Option CacheErr), s.setCore c k')
  match n with
  | 1 => set { k with status := (v &&& 0x7C) ||| (k.status &&& 3) }
  | 2 => set { k with flags := v &&& 0xF8000000 }
  | 3 => set { k with epc := v }
  | 4 => set { k with ecause := v &&& 0x8001FF3F }
  | 5 => set { k with eaddr := v }
  | 6 => set { k with scratch0 := v }
  | 7 => set { k with scratch1 := v }
  | 8 => set { k with vbase := v &&& 0xFFFFFF00 }
  | 24 => set { k with tp := v }
  | _ =>
    if 16 ≤ n ∧ n ≤ 22 then s.cacheOp c n v.toNat
    else if 32 ≤ n ∧ n ≤ 47 then
      let r := (n - 32) / 2
      if n % 2 = 0 then set { k with rgnBase := smSet (fun _ => 0) k.rgnBase r (v &&& 0xFFFFF000) }
      else set { k with rgnCfg := smSet (fun _ => 0) k.rgnCfg r (v &&& 0xFFFFF01F) }
    else (none, s)

/-! ### The core-private control space (R81, R82) -/

/-- The control register that an address of the private space names. -/
def privReg (a : Nat) : Nat := (a - 0xF0000000) / 4

/-- A word read of the private space by its core: NOREG where R82 has a fault. -/
def State.privRead (s : State) (c : CoreId) (a : Nat) : Reply × State :=
  if a < 0xF0000100 ∧ ctlReads (privReg a) then
    let (v, t) := s.ctlRead c (privReg a)
    (.ok v.toNat, t)
  else (.err .noreg, s.ferr c.init a false .word .noreg)

/-- A word write of the private space by its core. A cache operation that meets a dirty line with an error answers UNCORR here, as
an alias access of a TCM does (R94, log entry 12). -/
def State.privWrite (s : State) (c : CoreId) (a : Nat) (v : Word) : Reply × State :=
  if a < 0xF0000100 ∧ ctlWrites (privReg a) then
    match s.ctlWrite c (privReg a) v with
    | (some (.bus k _), t) => (.err k, t)
    | (some (.memory _), t) => (.err .uncorr, t.ferr c.init a true .word .uncorr)
    | (none, t) => (.ok 0, t)
  else (.err .noreg, s.ferr c.init a true .word .noreg)

end Sys2Proof.Machine
end

