-- ==== Sys2Proof/Machine/Jpeg.lean ====
section
/-! DEFINITION. The recorder's baseline JPEG streams (spec/15 R410, R419, R420). The tables of ISO/IEC 10918-1 Annex K, which
the spec names without printing them, are those of the standard (log entry 21). -/

namespace Sys2Proof.Machine

/-! ### Tables -/

/-- Row-order position of each zigzag position. -/
def zigzag : List Nat :=
  [0, 1, 8, 16, 9, 2, 3, 10, 17, 24, 32, 25, 18, 11, 4, 5, 12, 19, 26, 33, 40, 48, 41, 34, 27, 20, 13, 6, 7, 14, 21, 28] ++
  [35, 42, 49, 56, 57, 50, 43, 36, 29, 22, 15, 23, 30, 37, 44, 51, 58, 59, 52, 45, 38, 31, 39, 46, 53, 60, 61, 54, 47, 55, 62, 63]

/-- Table K.1, in row order. -/
def quantLuma : List Nat :=
  [16, 11, 10, 16, 24, 40, 51, 61, 12, 12, 14, 19, 26, 58, 60, 55, 14, 13, 16, 24, 40, 57, 69, 56, 14, 17, 22, 29, 51, 87, 80, 62] ++
  [18, 22, 37, 56, 68, 109, 103, 77, 24, 35, 55, 64, 81, 104, 113, 92, 49, 64, 78, 87, 103, 121, 120, 101] ++
  [72, 92, 95, 98, 112, 100, 103, 99]

/-- Table K.2, in row order. -/
def quantChroma : List Nat :=
  [17, 18, 24, 47, 99, 99, 99, 99, 18, 21, 26, 66, 99, 99, 99, 99, 24, 26, 56, 99, 99, 99, 99, 99, 47, 66, 99, 99, 99, 99, 99, 99] ++
  List.replicate 32 99

/-- A Huffman table: 16 BITS bytes, then HUFFVAL. -/
structure Huff where
  bits : List Nat
  vals : List Nat
deriving DecidableEq, Repr

/-- Tables K.3 and K.4. -/
def huffDcLuma : Huff := { bits := [0, 1, 5, 1, 1, 1, 1, 1, 1, 0, 0, 0, 0, 0, 0, 0], vals := List.range 12 }
def huffDcChroma : Huff := { bits := [0, 3, 1, 1, 1, 1, 1, 1, 1, 1, 1, 0, 0, 0, 0, 0], vals := List.range 12 }

/-- Symbols of run `r` and sizes `lo` to 10. -/
def acRun (r lo : Nat) : List Nat := (List.range (11 - lo)).map (fun k => 16 * r + lo + k)

/-- Table K.5. -/
def huffAcLuma : Huff :=
  { bits := [0, 2, 1, 3, 3, 2, 4, 3, 5, 5, 4, 4, 0, 0, 1, 0x7D]
    vals := [0x01, 0x02, 0x03, 0x00, 0x04, 0x11, 0x05, 0x12, 0x21, 0x31, 0x41, 0x06, 0x13, 0x51, 0x61, 0x07, 0x22, 0x71, 0x14] ++
      [0x32, 0x81, 0x91, 0xA1, 0x08, 0x23, 0x42, 0xB1, 0xC1, 0x15, 0x52, 0xD1, 0xF0, 0x24, 0x33, 0x62, 0x72, 0x82] ++
      acRun 0 9 ++ acRun 1 6 ++ acRun 2 5 ++ acRun 3 4 ++ acRun 4 3 ++ acRun 5 3 ++ acRun 6 3 ++ acRun 7 3 ++ acRun 8 3 ++
      acRun 9 2 ++ acRun 10 2 ++ acRun 11 2 ++ acRun 12 2 ++ acRun 13 2 ++ acRun 14 1 ++ acRun 15 1 }

/-- Table K.6. -/
def huffAcChroma : Huff :=
  { bits := [0, 2, 1, 2, 4, 4, 3, 4, 7, 5, 4, 4, 0, 1, 2, 0x77]
    vals := [0x00, 0x01, 0x02, 0x03, 0x11, 0x04, 0x05, 0x21, 0x31, 0x06, 0x12, 0x41, 0x51, 0x07, 0x61, 0x71, 0x13, 0x22, 0x32] ++
      [0x81, 0x08, 0x14, 0x42, 0x91, 0xA1, 0xB1, 0xC1, 0x09, 0x23, 0x33, 0x52, 0xF0, 0x15, 0x62, 0x72, 0xD1, 0x0A, 0x16] ++
      [0x24, 0x34, 0xE1, 0x25, 0xF1] ++ acRun 1 7 ++ acRun 2 6 ++ acRun 3 5 ++ acRun 4 3 ++ acRun 5 3 ++ acRun 6 3 ++ acRun 7 3 ++
      acRun 8 2 ++ acRun 9 2 ++ acRun 10 2 ++ acRun 11 2 ++ acRun 12 2 ++ acRun 13 2 ++ acRun 14 2 ++ acRun 15 2 }

/-- The codes of a table: symbol, code, length (Annex C). -/
def huffCodes (h : Huff) : List (Nat × Nat × Nat) :=
  let step := fun (acc : List (Nat × Nat × Nat) × Nat × List Nat) (p : Nat × Nat) =>
    let (out, code, left) := acc
    let mine := left.take p.2
    (out ++ mine.mapIdx (fun i v => (v, code + i, p.1 + 1)), (code + mine.length) * 2, left.drop p.2)
  ((List.range 16).zip h.bits |>.foldl step ([], 0, h.vals)).1

/-- A table is valid (Annex C): no length has more codes than it can hold, the code of all ones is not used, and HUFFVAL
fits its register. -/
def huffValid (h : Huff) : Bool :=
  let step := fun (acc : Bool × Nat) (p : Nat × Nat) =>
    let e := acc.2 + p.2
    (acc.1 && (p.2 == 0 || decide (e < 2 ^ (p.1 + 1))), e * 2)
  ((List.range 16).zip h.bits |>.foldl step (true, 0)).1 && decide (h.bits.foldl (· + ·) 0 ≤ 240)

/-! ### Settings -/

/-- What an encoding uses: geometry, data type, the REC_CFG of its start, the four Huffman tables in the order of REC_HT
and the two quantisation tables in zigzag order. -/
structure Jpeg where
  w : Nat
  h : Nat
  dt : Nat
  sub : Bool
  rst : Nat
  q0 : List Nat
  q1 : List Nat
  dc0 : Huff
  ac0 : Huff
  dc1 : Huff
  ac1 : Huff

/-- Standard quantisation scaled by QSCALE, in zigzag order (R420). -/
def quantStd (t : List Nat) (scale : Nat) : List Nat :=
  zigzag.map (fun k => min 255 (max 1 ((t.getD k 1 * scale + 8) / 16)))

/-- Raw data are encoded as one component. -/
def rawData (dt : Nat) : Bool := dt == 0x2A || dt == 0x2B || dt == 0x2C

/-! ### Samples (R419) -/

/-- The stored bytes of pixel (x, y), clamped to the frame, as a little-endian number. -/
def Jpeg.pixel (j : Jpeg) (bpp : Nat) (rows : List (List Byte)) (x y : Nat) : Nat :=
  let row := rows.getD (min y (j.h - 1)) []
  ofLe ((row.drop (bpp * min x (j.w - 1))).take bpp)

/-- Red, green and blue of a stored pixel. -/
def rgbOf (dt v : Nat) : Nat × Nat × Nat :=
  if dt = 0x22 then
    let r := v / 2048 % 32
    let g := v / 32 % 64
    let b := v % 32
    (r * 8 + r / 4, g * 4 + g / 16, b * 8 + b / 4)
  else (v / 65536 % 256, v / 256 % 256, v % 256)

/-- Y, Cb and Cr of ITU-T T.871. -/
def ycc (c : Nat × Nat × Nat) : Nat × Nat × Nat :=
  let (r, g, b) := c
  let ri : Int := r
  let gi : Int := g
  let bi : Int := b
  ((clampI 0 255 (divNear (299 * ri + 587 * gi + 114 * bi) 1000)).toNat,
   (clampI 0 255 (divNear (-299 * ri - 587 * gi + 886 * bi) 1772 + 128)).toNat,
   (clampI 0 255 (divNear (701 * ri - 587 * gi - 114 * bi) 1402 + 128)).toNat)

/-- Luminance at (x, y): for raw data the 8 most significant bits. -/
def Jpeg.luma (j : Jpeg) (rows : List (List Byte)) (x y : Nat) : Nat :=
  match j.dt with
  | 0x2A => j.pixel 1 rows x y
  | 0x2B => j.pixel 2 rows x y / 4 % 256
  | 0x2C => j.pixel 2 rows x y / 16 % 256
  | 0x1E => j.pixel 2 rows x y / 256
  | 0x22 => (ycc (rgbOf 0x22 (j.pixel 2 rows x y))).1
  | _ => (ycc (rgbOf 0x24 (j.pixel 3 rows x y))).1

/-- Chrominance `c` (0 Cb, 1 Cr) of the pixel pair `i` of row `y`. -/
def Jpeg.chromaRow (j : Jpeg) (rows : List (List Byte)) (c i y : Nat) : Nat :=
  if j.dt = 0x1E then j.pixel 2 rows (2 * min i ((j.w - 1) / 2) + c) y % 256
  else
    let one := fun (x : Nat) =>
      let q := ycc (rgbOf j.dt (j.pixel (if j.dt = 0x22 then 2 else 3) rows x y))
      if c = 0 then q.2.1 else q.2.2
    Config.chromaPair (one (2 * min i ((j.w - 1) / 2))) (one (2 * min i ((j.w - 1) / 2) + 1)) % 256

/-- Chrominance at (i, k) of its plane: for 4:2:0 vertically adjacent samples are averaged, halves rounding up. -/
def Jpeg.chroma (j : Jpeg) (rows : List (List Byte)) (c i k : Nat) : Nat :=
  if j.sub then j.chromaRow rows c i k
  else
    let k1 := min k ((j.h - 1) / 2)
    (j.chromaRow rows c i (2 * k1) + j.chromaRow rows c i (2 * k1 + 1) + 1) / 2

/-! ### Entropy coding -/

/-- `n` bits of a number, most significant first. -/
def bitsOf (n v : Nat) : List Bool := (List.range n).map (fun i => v.testBit (n - 1 - i))

/-- Size category of a value. -/
def category (v : Int) : Nat := if v = 0 then 0 else Nat.log2 v.natAbs + 1

/-- The bits that follow a symbol. -/
def valueBits (v : Int) : List Bool :=
  let n := category v
  bitsOf n (if v < 0 then (v + (2 ^ n : Nat) - 1).toNat else v.toNat)

/-- The code of a symbol. -/
def symbolBits (codes : List (Nat × Nat × Nat)) (sym : Nat) : List Bool :=
  match codes.find? (fun e => e.1 == sym) with
  | some (_, c, n) => bitsOf n c
  | none => []

/-- The AC coefficients, in zigzag order, after a run of zeros. -/
def acBits (codes : List (Nat × Nat × Nat)) : Nat → List Int → List Bool
  | run, [] => if run = 0 then [] else symbolBits codes 0
  | run, v :: l =>
    if v = 0 then acBits codes (run + 1) l
    else
      (List.replicate (run / 16) (symbolBits codes 0xF0)).flatten ++ symbolBits codes (16 * (run % 16) + category v) ++
        valueBits v ++ acBits codes 0 l

/-- One block: its bits and its DC coefficient. -/
def blockBits (q : List Nat) (dc ac : List (Nat × Nat × Nat)) (pred : Int) (samples : List Nat) : List Bool × Int :=
  let xs := samples.map (fun v => (v : Int) - 128)
  let coef := (List.range 64).map (fun k =>
    let v := Config.dctCoef xs (zigzag.getD k 0) (q.getD k 1)
    if k = 0 then clampI (-1024) 1023 v else clampI (-1023) 1023 v)
  let d := coef.getD 0 0
  (symbolBits dc (category (d - pred)) ++ valueBits (d - pred) ++ acBits ac 0 (coef.drop 1), d)

/-- The 64 samples of the block at (bx, by) of a plane. -/
def blockAt (f : Nat → Nat → Nat) (bx by_ : Nat) : List Nat := (List.range 64).map (fun k => f (8 * bx + k % 8) (8 * by_ + k / 8))

/-- The blocks of MCU (mx, my): component and samples. -/
def Jpeg.mcu (j : Jpeg) (rows : List (List Byte)) (mx my : Nat) : List (Nat × List Nat) :=
  let y := j.luma rows
  if rawData j.dt then [(0, blockAt y mx my)]
  else
    let ys := if j.sub then [(0, blockAt y (2 * mx) my), (0, blockAt y (2 * mx + 1) my)]
      else [(0, blockAt y (2 * mx) (2 * my)), (0, blockAt y (2 * mx + 1) (2 * my)), (0, blockAt y (2 * mx) (2 * my + 1)),
            (0, blockAt y (2 * mx + 1) (2 * my + 1))]
    ys ++ [(1, blockAt (j.chroma rows 0) mx my), (2, blockAt (j.chroma rows 1) mx my)]

/-- MCUs in a row, and rows of MCUs. -/
def Jpeg.mcuSize (j : Jpeg) : Nat × Nat :=
  if rawData j.dt then ((j.w + 7) / 8, (j.h + 7) / 8)
  else ((j.w + 15) / 16, if j.sub then (j.h + 7) / 8 else (j.h + 15) / 16)

/-- The bits of a run of blocks, with the three DC predictions. -/
def Jpeg.blocks (j : Jpeg) : List (Nat × List Nat) → Int × Int × Int → List Bool
  | [], _ => []
  | (c, b) :: l, (p0, p1, p2) =>
    let q := if c = 0 then j.q0 else j.q1
    let dc := huffCodes (if c = 0 then j.dc0 else j.dc1)
    let ac := huffCodes (if c = 0 then j.ac0 else j.ac1)
    let (bits, d) := blockBits q dc ac (if c = 0 then p0 else if c = 1 then p1 else p2) b
    bits ++ Jpeg.blocks j l (if c = 0 then (d, p1, p2) else if c = 1 then (p0, d, p2) else (p0, p1, d))

/-- Bits to bytes: the last byte filled with ones, and a zero after every 0xFF. The first argument bounds the bytes. -/
def packBits : Nat → List Bool → List Nat
  | 0, _ => []
  | n + 1, l =>
    if l.isEmpty then []
    else
      let b := ((l.take 8) ++ List.replicate (8 - l.length) true).foldl (fun v x => 2 * v + (if x then 1 else 0)) 0
      (if b = 255 then [255, 0] else [b]) ++ packBits n (l.drop 8)

/-- Restart intervals: each starts with fresh predictions and ends on a byte. -/
def Jpeg.scan (j : Jpeg) (per : Nat) : Nat → Nat → List (List (Nat × List Nat)) → List Nat
  | 0, _, _ => []
  | fuel + 1, m, l =>
    let bits := j.blocks (l.take per).flatten (0, 0, 0)
    let rest := l.drop per
    packBits (bits.length + 1) bits ++ (if rest.isEmpty then [] else [0xFF, 0xD0 + m % 8] ++ Jpeg.scan j per fuel (m + 1) rest)

/-! ### The stream (R419) -/

/-- A number in two bytes, most significant first. -/
def be2 (n : Nat) : List Nat := [n / 256 % 256, n % 256]

/-- A marker segment. -/
def segment (m : Nat) (body : List Nat) : List Nat := [0xFF, m] ++ be2 (body.length + 2) ++ body

/-- Marker segments of tables: one for all, or one each. -/
def tableSegments (m : Nat) (l : List (List Nat)) : List Nat :=
  if Config.jpegJoin then segment m l.flatten else (l.map (segment m)).flatten

/-- The stream of a frame whose rows hold the stored bytes. -/
def Jpeg.stream (j : Jpeg) (rows : List (List Byte)) : List Nat :=
  let raw := rawData j.dt
  let hv := if raw then 0x11 else if j.sub then 0x21 else 0x22
  let dqt := tableSegments 0xDB ([0 :: j.q0] ++ (if raw then [] else [1 :: j.q1]))
  let comps := [[1, hv, 0]] ++ (if raw then [] else [[2, 0x11, 1], [3, 0x11, 1]])
  let sof := segment 0xC0 ([8] ++ be2 j.h ++ be2 j.w ++ [comps.length] ++ comps.flatten)
  let dht := tableSegments 0xC4 ([(0x00 :: j.dc0.bits) ++ j.dc0.vals, (0x10 :: j.ac0.bits) ++ j.ac0.vals] ++
    (if raw then [] else [(0x01 :: j.dc1.bits) ++ j.dc1.vals, (0x11 :: j.ac1.bits) ++ j.ac1.vals]))
  let dri := if j.rst = 0 then [] else segment 0xDD (be2 j.rst)
  let sos := segment 0xDA ([comps.length] ++ (if raw then [1, 0x00] else [1, 0x00, 2, 0x11, 3, 0x11]) ++ [0, 63, 0])
  let (cols, lines) := j.mcuSize
  let mcus := (List.range (cols * lines)).map (fun k => j.mcu rows (k % cols) (k / cols))
  [0xFF, 0xD8] ++ dqt ++ sof ++ dht ++ dri ++ sos ++
    j.scan (if j.rst = 0 then mcus.length else j.rst) (mcus.length + 1) 0 mcus ++ [0xFF, 0xD9]

end Sys2Proof.Machine
end

