-- ==== Sys2Proof/Machine/Camera.lean ====
section
/-! DEFINITION. The camera inputs and the frame holders (spec/15 R411 to R418). -/

namespace Sys2Proof.Machine

/-- The camera command port. -/
def camPort : CmdPort := { st := CAM_CMDST, rejects := CAM_REJECT, evt := some (CAM_EVT, 0), src := some 416 }

/-- A CAM event: bit `k` with source 416 + `k`. -/
def State.camEvt (s : State) (k : Nat) : State := s.event CAM_EVT k (416 + k)

/-- The state of an input besides its registers. -/
def State.cam (s : State) (x : Nat) : CamSt := smGet (fun _ => CamSt.blank) s.cams x

/-- Store the state of an input. -/
def State.setCam (s : State) (x : Nat) (c : CamSt) : State :=
  { s with cams := smSet (fun _ => CamSt.blank) s.cams x c }

/-- Buffer states of CAM_BSTAT. -/
abbrev F_FREE : Nat := 0
abbrev F_FILL : Nat := 1
abbrev F_HELD : Nat := 2

/-- The state of buffer `b`. -/
def State.bufState (s : State) (x b : Nat) : Nat := s.fld (CAM_BSTAT x) (2 * b) 2

/-- The holds of buffer `b`: bit 0 REC, 1 XPA, 2 FW. -/
def State.bufHolds (s : State) (x b : Nat) : Nat := s.fld (CAM_BHOLD x) (3 * b) 3

/-- FLAGS bits of a frame (R423). -/
abbrev FL_SHORT : Nat := 0
abbrev FL_LONG : Nat := 1
abbrev FL_CRCERR : Nat := 2
abbrev FL_NOFE : Nat := 3
abbrev FL_CUT : Nat := 4

/-- A flag of a frame. -/
def CamFrame.has (f : CamFrame) (k : Nat) : Bool := f.flags.testBit k

/-- Set a flag of a frame. -/
def CamFrame.mark (f : CamFrame) (k : Nat) : CamFrame := if f.has k then f else { f with flags := f.flags + 2 ^ k }

/-- Release hold `k` of buffer `b`; a buffer with no hold becomes FREE (R415). -/
def State.camRelease (s : State) (x b k : Nat) : State :=
  let t := s.setBit (CAM_BHOLD x) (3 * b + k) false
  if t.bufState x b = F_HELD ∧ t.bufHolds x b = 0 then
    (t.setFld (CAM_BSTAT x) (2 * b) 2 F_FREE).setCam x { t.cam x with frames := (t.cam x).frames.filter (fun f => f.buf != b) }
  else t

/-- An error of an input (R418): source 427 + x, CAM_PERRCNT and a report on its channel; 1 ECC, 2 CRC, 3 PHY, 4 NOFE. -/
def State.camError (s : State) (x kind : Nat) : State :=
  ((s.count (CAM_PERRCNT x) 1).camEvt (11 + x)).faultReport (0x814 + x) (w32 kind)

/-- The frame becomes SHORT: counted once a frame (R416). -/
def State.camShort (s : State) (x : Nat) (f : CamFrame) : CamFrame × State :=
  if f.has FL_SHORT then (f, s) else (f.mark FL_SHORT, (s.count (CAM_SHORTCNT x) 1).camEvt (3 + x))

/-- The frame becomes LONG: counted once a frame (R416). -/
def State.camLong (s : State) (x : Nat) (f : CamFrame) : CamFrame × State :=
  if f.has FL_LONG then (f, s) else (f.mark FL_LONG, (s.count (CAM_LONGCNT x) 1).camEvt (5 + x))

/-- The stored bytes of a pixel (R412). -/
def storedPixel (dt v : Nat) : List Byte :=
  match dt with
  | 0x2B => leBytes 2 (v % 1024)
  | 0x2C => leBytes 2 (v % 4096)
  | _ => leBytes (camBytes dt) v

/-- Store line `y` of a frame: the pixels received, then the fill pixel to the end of the line. -/
def State.camStore (s : State) (f : CamFrame) (y : Nat) (px : List Nat) : State :=
  let got := (px.take f.w).flatMap (storedPixel f.dt)
  let rest := (List.replicate (f.w - px.length) (leBytes (camBytes f.dt) f.fill)).flatten
  (s.writeRun .camera (f.addr + y * f.pitch) (got ++ rest)).2

/-- Fill lines `y` and up, `n` of them. -/
def State.fillLines (s : State) (f : CamFrame) : Nat → Nat → State
  | _, 0 => s
  | y, n + 1 => State.fillLines (s.camStore f y []) f (y + 1) n

/-- The recorder takes a frame into its queue (R415, R419). -/
def State.recTake (s : State) (x : Nat) (f : CamFrame) : State :=
  let t := s.setFld REC_STAT 16 4 (s.fld REC_STAT 16 4 + 1)
  { t with recorder := { t.recorder with queue := t.recorder.queue ++ [{ input := x, frame := f, ended := s.beatNo }] } }

/-- The holds of a frame that ends (R415, R418). -/
def State.camHolds (s : State) (x : Nat) (f : CamFrame) : Nat :=
  let use_ := s.lvFld (CAM_USE x) 0 3
  let requal := s.chanState (0x814 + x) == 3
  let rec_ := use_.testBit 0 && !requal && s.fld REC_STAT 0 2 == 1 && s.lvBit REC_CFG x
  let xpa := use_.testBit 1 && !requal && !f.has FL_SHORT
  (if rec_ then 1 else 0) + (if xpa then 2 else 0) + (if use_.testBit 2 then 4 else 0)

/-- The open frame ends with the further flags `marks` (R415 to R417). -/
def State.camEnd (s : State) (x : Nat) (marks : List Nat) : State :=
  match (s.cam x).cur with
  | none => s
  | some f0 =>
    let (f1, s1) := if f0.lines < f0.h then
        let (f, t) := s.camShort x f0
        (f, t.fillLines f f.lines (f.h - f.lines))
      else if marks.contains FL_SHORT then s.camShort x f0
      else (f0, s)
    let f := marks.foldl CamFrame.mark f1
    let holds := s1.camHolds x f
    let s2 := s1.setFld (CAM_BHOLD x) (3 * f.buf) 3 holds
    let s3 := if holds = 0 then (s2.setFld (CAM_BSTAT x) (2 * f.buf) 2 F_FREE).setCam x { s2.cam x with cur := none }
      else (s2.setFld (CAM_BSTAT x) (2 * f.buf) 2 F_HELD).setCam x
        { s2.cam x with cur := none, frames := (s2.cam x).frames ++ [f] }
    let s4 := if holds % 2 = 1 then s3.recTake x f else s3
    let s5 := (s4.setRg (CAM_LAST x) (w32 (f.buf + f.flags * 256 + f.lines % 8192 * 65536))).setRg (CAM_LASTSEQ x) (w32 f.fseq)
    (s5.setRg64 (CAM_LASTBEAT_LO x) f.beat).camEvt (1 + x)

/-- The input captures: enabled, clocked and not retired (R411, R418). -/
def State.camOn (s : State) (x : Nat) : Bool := s.bit SYS_CLKEN 3 && !s.retired (0x814 + x)

/-- The packet belongs to the input's stream (R411); parallel mode has no packets. -/
def State.camVc (s : State) (x : Nat) (vc : BitVec 2) : Bool :=
  s.lvBit (CAM_CTL x) 1 || s.lvFld (CAM_CTL x) 4 2 == vc.toNat

/-- FS_PULSE (R413): the FS pin is active for FSW microseconds from FSOFF after the edge. -/
def execFsPulse (x : Fin 2) (s : State) : Out :=
  let off := s.lvFld (CAM_FS x.val) 2 14
  done (
    if s.lvBit (CAM_FS x.val) 0 && s.bit SYS_CLKEN 3 then
      let t := s.advanceTo (400 * off)
      t.setCam x.val { t.cam x.val with fs := some (off, t.lvFld (CAM_FS x.val) 16 16) }
    else s)

/-- The lowest FREE buffer (R414). -/
def State.freeBuf (s : State) (x : Nat) : Option Nat :=
  (List.range (s.lvFld (CAM_NBUF x) 0 4)).find? (fun b => s.bufState x b == F_FREE)

/-- A frame starts (R414): CAM_FSEQ, and the lowest FREE buffer or the drop of the frame. -/
def State.camStart (s : State) (x : Nat) : State :=
  let s1 := s.setRg (CAM_FSEQ x) (s.rg (CAM_FSEQ x) + 1)
  match s1.freeBuf x with
  | none => (s1.count (CAM_DROPCNT x) 1).camEvt (7 + x)
  | some b =>
    let pitch := (s1.lv (CAM_FPITCH x)).toNat
    let h := s1.lvFld (CAM_GEOM x) 16 13
    let f : CamFrame :=
      { buf := b, addr := (s1.lv (CAM_FBASE x)).toNat + b * pitch * h, pitch := pitch, w := s1.lvFld (CAM_GEOM x) 0 13, h := h
        dt := s1.lvFld (CAM_CTL x) 8 6, fill := s1.lvFld (CAM_FILL x) 0 24, lines := 0, flags := 0
        fseq := (s1.rg (CAM_FSEQ x)).toNat, beat := s1.beatNo, rtc := s1.rtcWord }
    (s1.setFld (CAM_BSTAT x) (2 * b) 2 F_FILL).setCam x { s1.cam x with cur := some f }

/-- The input listens: it is on, and it is enabled or a frame is open (R417, R430). -/
def State.camListens (s : State) (x : Nat) : Bool :=
  s.camOn x && (s.lvBit (CAM_CTL x) 0 || (s.cam x).cur.isSome)

/-- A frame start ends the open frame with NOFE (R417), which may retire the input (R418). -/
def State.camNoEnd (s : State) (x : Nat) : State :=
  if (s.cam x).cur.isSome then (s.camEnd x [FL_NOFE]).camError x 4 else s

/-- CAMERA_FRAME_START (R414, R417, R418): `err` 1 is an uncorrectable header, 3 a synchronisation error of the D-PHY. -/
def execCameraFrameStart (x : Fin 2) (vc : BitVec 2) (err : Fin 4) (s : State) : Out :=
  let n := x.val
  done (
    if !s.camListens n then s
    else if err = 1 ∨ err = 3 then s.camError n err.val
    else if s.camVc n vc then
      let t := s.camNoEnd n
      if t.camOn n && t.lvBit (CAM_CTL n) 0 then t.camStart n else t
    else s)

/-- A line of the open frame (R416). -/
def State.camLine (s : State) (x : Nat) (f : CamFrame) (px : List Nat) (crc : Bool) : State :=
  let f0 := if crc then f.mark FL_CRCERR else f
  let (f1, s1) := if f0.h ≤ f0.lines then s.camLong x f0
    else
      let (a, t) := if px.length < f0.w then s.camShort x f0
        else if f0.w < px.length then s.camLong x f0 else (f0, s)
      (a, t.camStore a a.lines px)
  let s2 := s1.setCam x { s1.cam x with cur := some { f1 with lines := f1.lines + 1 } }
  if crc then s2.camError x 2 else s2

/-- CAMERA_LINE (R411, R416, R418): a long packet with its pixels; `err` 1 is an uncorrectable header, 2 a failed payload
CRC, 3 a synchronisation error. Lines that belong to no open frame are discarded; their errors are reported. -/
def execCameraLine (x : Fin 2) (vc : BitVec 2) (dt : BitVec 6) (px : List (BitVec 24)) (err : Fin 4) (s : State) : Out :=
  let n := x.val
  done (
    if !s.camListens n then s
    else if err = 1 ∨ err = 3 then s.camError n err.val
    else
      match (s.cam n).cur with
      | some f =>
        if s.lvBit (CAM_CTL n) 1 || (s.camVc n vc && f.dt == dt.toNat) then
          s.camLine n f (px.map (fun v => v.toNat)) (err = 2)
        else s.count (CAM_VCDROP n) 1
      | none =>
        if s.lvBit (CAM_CTL n) 1 || (s.camVc n vc && s.lvFld (CAM_CTL n) 8 6 == dt.toNat) then
          (if err = 2 then s.camError n 2 else s)
        else s.count (CAM_VCDROP n) 1)

/-- CAMERA_FRAME_END (R415, R418). -/
def execCameraFrameEnd (x : Fin 2) (vc : BitVec 2) (err : Fin 4) (s : State) : Out :=
  let n := x.val
  done (
    if !s.camListens n then s
    else if err = 1 ∨ err = 3 then s.camError n err.val
    else if s.camVc n vc then s.camEnd n [] else s)

/-- A write to CAM_REL (R415). -/
def State.writeCamRel (s : State) (x : Nat) (v : Word) : State :=
  let b := fieldOf v 0 3
  let outside := decide (s.lvFld (CAM_NBUF x) 0 4 ≤ b)
  s.command camPort false (!outside && !(s.bufHolds x b).testBit 2) outside (fun t => t.camRelease x b 2)

/-- CAM_REL. -/
def execCamRel (i : Initiator) (x : Fin 2) (v : Word) (s : State) : Out :=
  done (s.guardW i (CAM_REL x.val) v (fun t => t.writeCamRel x.val v))

/-- The deadline of an input's beat client (R417): an open frame is cut. True where the client has overrun. -/
def State.camDeadline (s : State) (x : Nat) : Bool × State :=
  if (s.cam x).cur.isSome then (true, (s.camEnd x [FL_SHORT, FL_CUT]).camEvt (9 + x)) else (false, s)

end Sys2Proof.Machine
end

