-- ==== Sys2Proof/Machine/Recorder.lean ====
section
/-! DEFINITION. The clip recorder (spec/15 R419 to R429) and its port in the EMMC block (spec/20 R531, R532). -/

namespace Sys2Proof.Machine

/-- The recorder's command port. -/
def recPort : CmdPort := { st := REC_CMDST, rejects := REC_REJECT, evt := some (REC_EVT, 0), src := some 448 }

/-- A REC event: bit `k` with source 448 + `k`. -/
def State.recEvt (s : State) (k : Nat) : State := s.event REC_EVT k (448 + k)

/-- REC_STAT.STATE codes. -/
abbrev R_OFF : Nat := 0
abbrev R_RUN : Nat := 1
abbrev R_HALT : Nat := 2

/-- REC_STAT.STATE. -/
def State.recState (s : State) : Nat := s.fld REC_STAT 0 2

/-- Frames held by the recorder (REC_STAT.QLEN). -/
def RecSt.held (r : RecSt) : List RecFrame :=
  (r.units.map (fun u => u.held)) ++ (match r.enc with | some e => [e.1] | none => []) ++ r.queue

/-- Replace what the recorder holds; QLEN and REC_MQLEN follow. -/
def State.setRec (s : State) (r : RecSt) : State :=
  ({ s with recorder := r }.setFld REC_STAT 16 4 r.held.length).setFld REC_MQLEN 0 4 r.markers.length

/-- The recorder halts (R429): ERR 1 EMMC, 2 FABRIC. It waits for a START or a STOP of its own; one served before ends here. -/
def State.recHalt (s : State) (err kind : Nat) : State :=
  let t := ((s.setFld REC_STAT 0 2 R_HALT).setFld REC_STAT 4 2 err).setFld REC_STAT 8 4 kind
  ((t.setRec { t.recorder with wr := none, stopping := false }).setBit EMMC_STAT 1 false).recEvt 8

/-! ### Encoding (R419 to R421) -/

/-- Bytes of REC_HT table `h`. -/
def State.recHuff (s : State) (h : Nat) : Huff :=
  let l := (List.range 64).flatMap (fun w => (leBytes 4 (s.rg (REC_HT h w)).toNat).map (fun b => b.toNat))
  let bits := l.take 16
  { bits := bits, vals := (l.drop 16).take (bits.foldl (· + ·) 0) }

/-- The settings of an encoding (R420): `cfg` is REC_CFG as it was live when the encoding started. -/
def State.recJpeg (s : State) (f : CamFrame) (cfg : Word) : Jpeg :=
  let qstd := bitOf cfg 3
  let hstd := bitOf cfg 4
  let scale := fieldOf cfg 8 8
  let qt := fun (t : Nat) => (List.range 64).map (fun i => s.fld (REC_QT t i) 0 8)
  { w := f.w, h := f.h, dt := f.dt, sub := bitOf cfg 2, rst := fieldOf cfg 16 16
    q0 := if qstd then quantStd quantLuma scale else qt 0
    q1 := if qstd then quantStd quantChroma scale else qt 1
    dc0 := if hstd then huffDcLuma else s.recHuff 0
    ac0 := if hstd then huffAcLuma else s.recHuff 1
    dc1 := if hstd then huffDcChroma else s.recHuff 2
    ac1 := if hstd then huffAcChroma else s.recHuff 3 }

/-- Read the lines of a frame, up to the first error. -/
def State.frameRows (s : State) (f : CamFrame) : Nat → Nat → List (List Byte) × Option (ErrKind × Nat) × State
  | _, 0 => ([], none, s)
  | y, n + 1 =>
    match s.readRun .camera (f.addr + y * f.pitch) (f.w * camBytes f.dt) with
    | (_, some e, t) => ([], some e, t)
    | (l, none, t) =>
      let (m, e, u) := State.frameRows t f (y + 1) n
      (l :: m, e, u)

/-- REC_ENCODE_START (R419): the oldest held frame, with the encoding settings live now. -/
def execRecEncodeStart (s : State) : Out :=
  let r := s.recorder
  done (
    match r.queue, r.enc with
    | f :: l, none => if s.recState = R_RUN ∧ !r.stopping then s.setRec { r with queue := l, enc := some (f, s.lv REC_CFG) } else s
    | _, _ => s)

/-- REC_OSIZE in bytes. -/
def State.ringBytes (s : State) : Nat := s.fld REC_OSIZE 0 24

/-- Write a stream into the output ring. -/
def State.ringWrite (s : State) (pos : Nat) (l : List Byte) : Option (ErrKind × Nat) × State :=
  let b := (s.rg REC_OBASE).toNat
  let n := s.ringBytes - pos
  match s.writeRun .camera (b + pos) (l.take n) with
  | (some e, t) => (some e, t)
  | (none, t) => t.writeRun .camera b (l.drop n)

/-- Read `n` bytes of the output ring from `pos`. -/
def State.ringRead (s : State) (pos n : Nat) : List Byte × Option (ErrKind × Nat) × State :=
  let b := (s.rg REC_OBASE).toNat
  let k := min n (s.ringBytes - pos)
  match s.readRun .camera (b + pos) k with
  | (l, some e, t) => (l, some e, t)
  | (l, none, t) =>
    let (m, e, u) := t.readRun .camera b (n - k)
    (l ++ m, e, u)

/-! ### Writing the clip ring (R422 to R425, R532) -/

/-- Blocks of a unit, header included. -/
def RecUnit.blocks (u : RecUnit) : Nat := 1 + (u.len + 511) / 512

/-- The next free block and the units written of the open segment. -/
def State.segBlock (s : State) : Nat := s.fld REC_SEGPOS 0 16
def State.segUnits (s : State) : Nat := s.fld REC_SEGPOS 16 8

/-- First eMMC block of segment `n` (R422). -/
def State.segLba (s : State) (n : Nat) : Nat :=
  (s.rg REC_LBA0).toNat + n % max 1 (s.fld REC_NSEG 0 16) * s.fld REC_SEGBLK 0 16

/-- Pad to whole blocks. -/
def padBlocks (l : List Byte) : List Byte := l ++ List.replicate ((512 - l.length % 512) % 512) 0

/-- CRC-32 of bytes, in four bytes. -/
def crcBytes (l : List Byte) : List Byte := leBytes 4 (crc32 (l.map (fun b => b.toNat)))

/-- The header block of a unit (R423). -/
def State.unitHeader (s : State) (u : RecUnit) : List Byte :=
  let f := u.held.frame
  let head := leBytes 4 (0x4655 + u.held.input * 65536 + f.flags * 0x1000000) ++ leBytes 4 (s.rg REC_SEG).toNat ++
    leBytes 4 f.fseq ++ leBytes 4 u.len ++ leBytes 8 f.beat ++ leBytes 8 f.rtc ++ leBytes 2 f.w ++ leBytes 2 f.h ++
    leBytes 4 u.crc
  padBlocks (head ++ crcBytes head)

/-- The index block of the open segment (R424). -/
def State.indexBlock (s : State) : List Byte :=
  let l := s.recorder.entries
  let first := match l.head? with | some e => e.beat | none => 0
  let last := match l.getLast? with | some e => e.beat | none => 0
  let head := leBytes 4 (0x4958 + l.length * 65536) ++ leBytes 4 (s.rg REC_SEG).toNat ++ leBytes 8 first ++ leBytes 8 last ++
    leBytes 4 0
  let body := l.flatMap (fun e => leBytes 4 (e.offs + e.input * 65536 + e.flags * 0x1000000) ++ leBytes 4 e.fseq)
  let tail := body ++ List.replicate (480 - body.length) 0
  head ++ crcBytes (head ++ tail) ++ tail

/-- What the recorder's command writes: the first block and the bytes. -/
def State.clipData (s : State) (what : Nat) : Nat × (List Byte × Option (ErrKind × Nat) × State) :=
  let base := s.segLba (s.rg REC_SEG).toNat
  match what, s.recorder.units with
  | 0, u :: _ =>
    let (l, e, t) := s.ringRead u.start u.len
    (base + s.segBlock + 1, padBlocks l, e, t)
  | 1, u :: _ => (base + s.segBlock, s.unitHeader u, none, s)
  | _, _ => (base, s.indexBlock, none, s)

/-- The recorder's waiting command starts on the bus: CMD23 and CMD25 (R532). -/
def State.recIssue (s : State) (w : ClipWrite) : State :=
  match s.clipData w.what with
  | (_, _, some (k, _), t) => t.recHalt 2 k.code
  | (lba, l, none, t) =>
    let u := t.setRec { t.recorder with wr := some { w with active := true } }
    { u with emmc := { u.emmc with sent := some (25, lba, l) } }.setBit EMMC_STAT 1 true

/-- The port's next command at a boundary (R532): firmware's and the recorder's take turns. `fwLast` tells whose ran last. -/
def State.emmcKick (s : State) (fwLast : Bool) : State :=
  let fwWaits := match s.emmc.fw with | some c => !c.active | none => false
  let fwRuns := match s.emmc.fw with | some c => c.active | none => false
  let goFw := match s.emmc.fw with
    | some c => { s with emmc := { s.emmc with fw := some { c with active := true } } }
    | none => s
  match s.recorder.wr with
  | some w =>
    if w.active || fwRuns then s
    else if fwWaits && !fwLast then goFw
    else if s.chanState 0x824 == 3 then (if fwWaits then goFw else s)
    else s.recIssue w
  | none => if fwWaits then goFw else s

/-- The head unit does not fit the open segment. -/
def State.unitTooBig (s : State) (u : RecUnit) : Bool := decide (s.fld REC_SEGBLK 0 16 < s.segBlock + u.blocks)

/-- The recorder's next command, if one is due: a unit under way goes on; a full segment, or one that the next unit does not
fit, or a STOP, writes the index. -/
def State.recNext (s : State) : State :=
  let r := s.recorder
  let put := fun (what : Nat) => (s.setRec { r with wr := some { what := what, tries := 0, active := false } }).emmcKick false
  if r.wr.isSome || (s.recState != R_RUN && !(s.recState == R_HALT && r.stopping)) then s
  else
    match r.units with
    | u :: _ =>
      if u.stage = 2 then s
      else if u.stage = 1 then put 1
      else if r.stopping || decide (60 ≤ s.segUnits) || s.unitTooBig u then put 2
      else put 0
    | [] => if r.stopping || decide (60 ≤ s.segUnits) then put 2 else s

/-- Replace the head unit's stage. -/
def State.unitStage (s : State) (n : Nat) : State :=
  match s.recorder.units with
  | u :: l => s.setRec { s.recorder with units := { u with stage := n } :: l }
  | [] => s

/-- Open the next segment (R422). -/
def State.openSegment (s : State) (n : Word) : State :=
  let t := (s.setRg REC_SEG n).setRg REC_SEGPOS 1
  t.setRec { t.recorder with entries := [] }

/-- Release the recorder's hold on a frame. -/
def State.recRelease (s : State) (f : RecFrame) : State := s.camRelease f.input f.frame.buf 0

/-- STOP ends (R428): holds on frames not written are released and counted, then OFF. -/
def State.recOff (s : State) : State :=
  let l := s.recorder.held
  let t := l.foldl State.recRelease ((s.count REC_UNRECCNT l.length).openSegment (s.rg REC_SEG + 1))
  let u := t.setRec { t.recorder with queue := [], enc := none, units := [], wr := none, stopping := false, opos := 0 }
  ((u.setFld REC_STAT 0 2 R_OFF).setRg REC_SEGPOS 0)

/-- A segment's index is written (R422): source 454, the next segment, source 455 where the ring starts again. -/
def State.segmentClosed (s : State) : State :=
  let n := s.rg REC_SEG + 1
  let t := (s.recEvt 6).openSegment n
  if n.toNat % max 1 (s.fld REC_NSEG 0 16) = 0 then t.recEvt 7 else t

/-- REC_ENCODE_DONE (R421): the stream enters the output ring, which must have room, or exceeds REC_JMAX. -/
def execRecEncodeDone (s : State) : Out :=
  done (
    match s.recorder.enc with
    | none => s
    | some (f, cfg) =>
      if s.recState ≠ R_RUN then s
      else
        match s.frameRows f.frame 0 f.frame.h with
        | (_, some (k, _), t) => t.recHalt 2 k.code
        | (rows, none, t) =>
          let l : List Byte := ((t.recJpeg f.frame cfg).stream rows).map (fun n => BitVec.ofNat 8 n)
          let used := t.recorder.units.foldl (fun n u => n + u.len) 0
          if t.fld REC_JMAX 0 24 < l.length then
            let u := ((t.count REC_OVSZCNT 1).recEvt 3).setRec { t.recorder with enc := none }
            u.recRelease f
          else if t.ringBytes < used + l.length then s
          else
            match t.ringWrite t.recorder.opos l with
            | (some (k, _), u) => u.recHalt 2 k.code
            | (none, u) =>
              let x : RecUnit := { held := f, start := u.recorder.opos, len := l.length, crc := crc32 (l.map (fun b => b.toNat)), stage := 0 }
              (u.setRec { u.recorder with
                enc := none, units := u.recorder.units ++ [x], opos := (u.recorder.opos + l.length) % max 1 u.ringBytes }).recNext)

/-- A block transfer that may be repeated: CCRC, DTO or DCRC (R531). -/
def repeatable (res : Nat) : Bool := decide (2 ≤ res ∧ res ≤ 4)

/-- The port's answer: a retired port ends every command with RETIRED (R531). -/
def State.emmcResult (s : State) (res : Nat) : Nat := if s.retired 0x824 then 6 else res

/-- A failed attempt (R531): counted, and reported on the channel. -/
def State.emmcFailed (s : State) (res : Nat) : State := (s.countWrap EMMC_ERRCNT 1).faultReport 0x824 (w32 res)

/-- The recorder's command has ended in success. -/
def State.recWritten (s : State) (w : ClipWrite) : State :=
  let t := ((s.setRec { s.recorder with wr := none }).setBit EMMC_STAT 1 false).event EMMC_EVT 2 808
  let u := match w.what with
    | 0 => t.unitStage 1
    | 1 => t.unitStage 2
    | _ => if t.recorder.stopping then t.recOff else t.segmentClosed
  u.emmcKick false |>.recNext

/-- REC_EMMC_DONE (R429, R531, R532): an attempt of the recorder's command ends with result `res`. -/
def execRecEmmcDone (res : Fin 6) (s : State) : Out :=
  done (
    match s.recorder.wr with
    | none => s
    | some w =>
      if !w.active then s
      else
        let r := s.emmcResult res.val
        if r = 0 then s.recWritten w
        else
          let t := s.emmcFailed r
          if repeatable r && decide (w.tries < s.fld EMMC_RETRY 0 3) && t.recorder.wr.isSome then
            t.setRec { t.recorder with wr := some { w with tries := w.tries + 1 } }
          else
            let u := t.event EMMC_EVT 2 808
            (if u.recorder.wr.isSome then u.recHalt 1 0 else u).emmcKick false)

/-- The payload of a bound marker (R427). -/
def State.markerPayload (s : State) (m : Marker) (u : RecUnit) (offs : Nat) : List Nat :=
  let f := u.held.frame
  [m.input + f.flags * 256 + m.reason * 65536 + f.fseq * 0x100000000,
   (s.rg REC_SEG).toNat + (offs + u.blocks * 65536) * 0x100000000,
   f.beat % 0x100000000 + m.tag.toNat * 0x100000000]

/-- UNIT_COMPLETE (R425, R427): the hold is released, the unit enters the index, and markers of its input bind. -/
def execUnitComplete (s : State) : Out :=
  done (
    match s.recorder.units with
    | [] => s
    | u :: l =>
      if u.stage ≠ 2 then s
      else
        let offs := s.segBlock
        let f := u.held.frame
        let e : RecEntry := { offs := offs, input := u.held.input, flags := f.flags, fseq := f.fseq, beat := f.beat }
        let marks := s.recorder.markers.map (fun m =>
          if m.bound.isNone && m.input == u.held.input then { m with bound := some (s.markerPayload m u offs) } else m)
        let t := (s.setRg REC_SEGPOS (w32 (offs + u.blocks + (s.segUnits + 1) * 65536))).setRec
          { s.recorder with units := l, entries := s.recorder.entries ++ [e], markers := marks }
        (((t.recRelease u.held).setRg REC_FRAMECNT (t.rg REC_FRAMECNT + 1)).recEvt 1).recNext)

/-! ### Commands (R420, R427, R428) -/

/-- START is refused with ARG (R428). -/
def State.recBad (s : State) : Bool :=
  let nseg := s.fld REC_NSEG 0 16
  let segblk := s.fld REC_SEGBLK 0 16
  let jmax := s.fld REC_JMAX 0 24
  let osize := s.ringBytes
  let obase := (s.rg REC_OBASE).toNat
  decide (nseg < 2 ∨ segblk < 64 ∨ Config.emmcBlocks < (s.rg REC_LBA0).toNat + nseg * segblk ∨ osize % 512 ≠ 0) ||
  !decide (0x10000000 ≤ obase ∧ obase + osize ≤ 0x10800000) || decide (osize < 2 * jmax ∨ segblk < (jmax + 511) / 512 + 2) ||
  (!s.lvBit REC_CFG 4 && !(List.range 4).all (fun h => huffValid (s.recHuff h)))

/-- START (R428): from HALT the failed unit is retried from its first block. -/
def State.recStart (s : State) : State :=
  let t := (s.setFld REC_STAT 4 2 0).setFld REC_STAT 8 4 0
  if s.recState = R_OFF then
    let u := t.openSegment (t.rg REC_SEG)
    (u.setRec { u.recorder with opos := 0, stopping := false }).setFld REC_STAT 0 2 R_RUN
  else
    let u := if (t.recorder.units.head?.map (fun x => x.stage)) == some 1 then t.unitStage 0 else t
    ((u.setRec { u.recorder with stopping := false }).setFld REC_STAT 0 2 R_RUN).recNext

/-- STOP (R428): a unit being written is completed, unless the recorder has halted. -/
def State.recStop (s : State) : State :=
  let t := s.setRec { s.recorder with stopping := true }
  if s.recState = R_HALT then
    (if (t.recorder.units.head?.map (fun x => x.stage)) == some 1 then t.unitStage 0 else t).recNext
  else t.recNext

/-- A write to REC_CTRL. -/
def State.writeRecCtrl (s : State) (v : Word) : State :=
  let a := bitOf v 0
  let b := bitOf v 1
  if a then s.command recPort b (s.recState == R_RUN) s.recBad State.recStart
  else if b then s.command recPort false (s.recState == R_OFF) false State.recStop
  else s

/-- REC_START. -/
def execRecStart (i : Initiator) (s : State) : Out := done (s.guardW i REC_CTRL 1 (fun t => t.writeRecCtrl 1))

/-- REC_STOP. -/
def execRecStop (i : Initiator) (s : State) : Out := done (s.guardW i REC_CTRL 2 (fun t => t.writeRecCtrl 2))

/-- Store a register as its row says, in state OFF only (R428); REC_SEGBLK has the range 64 to 65,535 (R38). -/
def State.writeRecConfig (s : State) (a : Nat) (v : Word) : State :=
  s.command recPort false (s.recState != R_OFF) (a == REC_SEGBLK && decide (fieldOf v 0 16 < 64)) (fun t =>
    match regAt a with
    | some (row, _, _) => t.storeReg a row v
    | none => t)

/-- The registers that are writable in OFF only. -/
def recConfigReg (r : Nat) : Nat :=
  match r with
  | 0 => REC_SEG | 1 => REC_LBA0 | 2 => REC_NSEG | 3 => REC_SEGBLK | 4 => REC_OBASE | 5 => REC_OSIZE | _ => REC_JMAX

/-- REC_CONFIG_WRITE. -/
def execRecConfigWrite (i : Initiator) (r : Fin 7) (v : Word) (s : State) : Out :=
  done (s.guardW i (recConfigReg r.val) v (fun t => t.writeRecConfig (recConfigReg r.val) v))

/-- A write to a table register (R420). -/
def State.writeRecTable (s : State) (a : Nat) (v : Word) : State :=
  s.command recPort false (s.recState == R_RUN) false (fun t =>
    match regAt a with
    | some (row, _, _) => t.storeReg a row v
    | none => t)

/-- Entry `i` of table `k`: REC_QT[0], REC_QT[1], then REC_HT[0] to REC_HT[3]. -/
def recTableReg (k i : Nat) : Nat := if k < 2 then REC_QT k i else REC_HT (k - 2) i

/-- REC_TABLE_WRITE. -/
def execRecTableWrite (i : Initiator) (k : Fin 6) (e : Fin 64) (v : Word) (s : State) : Out :=
  done (s.guardW i (recTableReg k.val e.val) v (fun t => t.writeRecTable (recTableReg k.val e.val) v))

/-- A write to REC_MARK (R427): STATE, ARG, then FULL (0x1). -/
def State.writeRecMark (s : State) (v : Word) : State :=
  let x := fieldOf v 0 1
  s.command recPort false (s.recState != R_RUN) (!s.lvBit REC_CFG x) (fun t =>
    if 8 ≤ t.recorder.markers.length then t.reject recPort 1
    else t.setRec { t.recorder with
      markers := t.recorder.markers ++ [{ input := x, reason := fieldOf v 16 16, tag := t.rg REC_MTAG, bound := none }] })

/-- REC_MARK. -/
def execRecMark (i : Initiator) (v : Word) (s : State) : Out := done (s.guardW i REC_MARK v (fun t => t.writeRecMark v))

/-- Offer a record of the recorder or the fault manager to the Ledger (R223, R250, R427): it is refused outside RUN, under
PFW, and while no slot is free. -/
def State.offerRecord (s : State) (type : Nat) (pay : List Nat) : Bool × State :=
  if s.ldgState = L_RUN ∧ !s.bit PWR_STAT 4 then
    let (code, t) := s.ownRecord type false none pay
    (code == 0, t)
  else (false, s)

/-- MARKER_OFFER (R427): the oldest bound marker is offered to the Ledger. -/
def execMarkerOffer (s : State) : Out :=
  done (
    match s.recorder.markers.find? (fun m => m.bound.isSome) with
    | some { bound := some pay, input := x, reason := r, tag := g } =>
      match s.offerRecord 3 pay with
      | (true, t) => (t.setRec { t.recorder with markers := t.recorder.markers.erase { bound := some pay, input := x, reason := r, tag := g } }).recEvt 4
      | (false, t) => t.recEvt 5
    | _ => s)

/-- The recorder's deadline (R426): a frame that ended before the beat's edge is not yet written. -/
def State.recDeadline (s : State) : Bool × State :=
  if s.recorder.held.any (fun f => decide (f.ended < s.beatNo)) then (true, (s.count REC_OVRCNT 1).recEvt 2) else (false, s)

end Sys2Proof.Machine
end

