-- ==== Sys2Proof/Machine/Emmc.lean ====
section
/-! DEFINITION. The eMMC port's commands from firmware (spec/20 R530 to R532). What the card answers is an operand of EMMC_DONE
(log entry 29). -/

namespace Sys2Proof.Machine

/-- The command port (R514). -/
def emmcPort : CmdPort := { st := EMMC_CMDST, rejects := EMMC_REJECT, evt := some (EMMC_EVT, 1), src := some 807 }

/-- EMMC_STAT.BUSY and RBUSY. -/
def State.emmcBusy (s : State) : Bool := s.bit EMMC_STAT 0
def State.emmcRbusy (s : State) : Bool := s.bit EMMC_STAT 1

/-- EMMC_CMDW fields. -/
def State.emmcIndex (s : State) : Nat := s.fld EMMC_CMDW 0 6
def State.emmcData (s : State) : Nat := s.fld EMMC_CMDW 9 2
def State.emmcBytes (s : State) : Nat := 512 * s.fld EMMC_CMDW 16 16

/-- The buffer of a data command lies outside SRAM (R530). -/
def State.emmcBadBuf (s : State) : Bool :=
  let a := (s.rg EMMC_BUF).toNat
  s.emmcData != 0 && !decide (0x10000000 ≤ a ∧ a + s.emmcBytes ≤ 0x10800000)

/-- A firmware command enters the port: 0 ISSUE, 1 TUNE. -/
def State.emmcPut (s : State) (op : Nat) : State :=
  let t := s.setBit EMMC_STAT 0 true
  { t with emmc := { t.emmc with fw := some { op := op, tries := 0, active := false } } }.emmcKick false

/-- A write to EMMC_CMD (R514, R530, R531): in REQUAL only ISSUE from G0 is served. -/
def State.writeEmmcCmd (s : State) (i : Initiator) (v : Word) : State :=
  let l := bitsSet v 4
  match l with
  | [] => s
  | op :: _ =>
    let requal := s.chanState 0x824 == 3 && !(op == 0 && i == .g0)
    let bad := requal ||
      (if op = 0 then s.emmcBusy
       else if op = 1 then !s.emmcBusy
       else if op = 2 then s.emmcBusy || s.emmcRbusy || s.fld EMMC_CFG 3 2 != 2
       else false)
    s.command emmcPort (decide (1 < l.length)) bad (op == 0 && s.emmcBadBuf) (fun t =>
      match op with
      | 0 => t.emmcPut 0
      | 1 =>
        match t.emmc.fw with
        | some c => { t with emmc := { t.emmc with fw := some { c with tries := 8 } } }
        | none => t
      | 2 => t.emmcPut 1
      | _ => t)

/-- EMMC_ISSUE. -/
def execEmmcIssue (i : Initiator) (s : State) : Out := done (s.guardW i EMMC_CMD 1 (fun t => t.writeEmmcCmd i 1))

/-- EMMC_ABORT: the command in progress is not repeated (log entry 29). -/
def execEmmcAbort (i : Initiator) (s : State) : Out := done (s.guardW i EMMC_CMD 2 (fun t => t.writeEmmcCmd i 2))

/-- EMMC_TUNE. -/
def execEmmcTune (i : Initiator) (s : State) : Out := done (s.guardW i EMMC_CMD 4 (fun t => t.writeEmmcCmd i 4))

/-- EMMC_HWRESET: EM_RST_N pulses low for 10 µs, which changes nothing inside the device. -/
def execEmmcHwreset (i : Initiator) (s : State) : Out := done (s.guardW i EMMC_CMD 8 (fun t => t.writeEmmcCmd i 8))

/-- The runs of consecutive passing phases: first phase and length. -/
def phaseRuns (m : BitVec 64) : List (Nat × Nat) :=
  (List.range 64).foldl (fun l k =>
    if m.getLsbD k then
      match l with
      | (a, n) :: r => if a + n = k then (a, n + 1) :: r else (k, 1) :: l
      | [] => [(k, 1)]
    else l) []

/-- The middle of the longest passing run (R530); which run of equal ones, and which of two middles, is a free choice. -/
def State.tapOf (s : State) (m : BitVec 64) : Nat × State :=
  let l := phaseRuns m
  let best := l.foldl (fun n r => max n r.2) 0
  let c := l.filter (fun r => r.2 == best)
  let (f, t) := s.draw
  let r := c.getD (f % max 1 c.length) (0, 0)
  let (g, u) := t.draw
  (r.1 + (r.2 - 1 + g % 2) / 2, u)

/-- A command of firmware ends with result `r` (R530). -/
def State.emmcEnd (s : State) (r : Nat) : State :=
  let t := ((s.setFld EMMC_STAT 4 4 r).setBit EMMC_STAT 0 false).event EMMC_EVT 0 806
  let u := if r = 0 then t else t.event EMMC_EVT 1 807
  ({ u with emmc := { u.emmc with fw := none } }.emmcKick true).recNext

/-- An attempt failed (R531): reported, and repeated whole where it is a block transfer with attempts left. -/
def State.emmcAttempt (s : State) (c : EmmcRun) (r : Nat) : State :=
  let t := s.emmcFailed r
  let block := [17, 18, 24, 25].contains s.emmcIndex && c.op == 0
  if block && repeatable r && decide (c.tries < s.fld EMMC_RETRY 0 3) then
    { t with emmc := { t.emmc with fw := some { c with tries := c.tries + 1 } } }
  else t.emmcEnd r

/-- The response that EMMC_RESP takes: four words for R2, one for the others. -/
def State.emmcResp (s : State) (r0 r1 r2 r3 : Word) : State :=
  let k := s.fld EMMC_CMDW 6 3
  if k = 0 then s
  else if k = 3 then (((s.setRg (EMMC_RESP 0) r0).setRg (EMMC_RESP 1) r1).setRg (EMMC_RESP 2) r2).setRg (EMMC_RESP 3) r3
  else s.setRg (EMMC_RESP 0) r0

/-- The data of a command that ended well: blocks read go to the buffer, those written come from it (R530). -/
def State.emmcMove (s : State) (data : List Byte) : State :=
  let n := s.emmcBytes
  let a := (s.rg EMMC_BUF).toNat
  let keep := fun (t : State) (l : List Byte) => { t with emmc := { t.emmc with sent := some (t.emmcIndex, (t.rg EMMC_ARG).toNat, l) } }
  if s.emmcData = 1 then
    let g := data.take n
    let (l, t) := s.drawBytes (n - g.length)
    (keep (t.writeRun .camera a (g ++ l)).2 []).setFld EMMC_STAT 16 16 (s.fld EMMC_CMDW 16 16)
  else if s.emmcData = 2 then
    let (l, _, t) := s.readRun .camera a n
    (keep t l).setFld EMMC_STAT 16 16 (s.fld EMMC_CMDW 16 16)
  else keep s []

/-- EMMC_DONE (R530, R531): an attempt of firmware's command ends with result `res` (0 to 5), the response, the data of a read,
and, for TUNE, the phases that passed. -/
def execEmmcDone (res : Fin 6) (r0 r1 r2 r3 : Word) (data : List Byte) (phases : BitVec 64) (s : State) : Out :=
  done (
    match s.emmc.fw with
    | none => s
    | some c =>
      if !c.active then s
      else
        let ok := if c.op = 1 ∧ phases = 0 then 7 else if c.op = 1 then 0 else res.val
        let r := s.emmcResult ok
        if r = 0 then
          if c.op = 1 then
            let (tap, t) := s.tapOf phases
            (t.setRg EMMC_TAP (w32 tap)).emmcEnd 0
          else ((s.emmcResp r0 r1 r2 r3).emmcMove data).emmcEnd 0
        else s.emmcAttempt c r)

end Sys2Proof.Machine
end

