-- ==== Sys2Proof/Machine/Outputs.lean ====
section
/-! DEFINITION. The display outputs and the Visor (spec/12). -/

namespace Sys2Proof.Machine

/-! ### Outputs -/

/-- An OUT event: bit `k` with source 264 + `k` (OUT_EVT). -/
def State.outEvt (s : State) (k : Nat) : State := s.event OUT_EVT k (264 + k)

/-- The OUT command port. -/
def outPort : CmdPort := { st := OUT_CMDST, rejects := OUT_REJECT, evt := some (OUT_EVT, 0), src := some 264 }

/-- Replace what the outputs hold. -/
def State.setOut (s : State) (x : OutSt) : State := { s with out := x }

/-- The OUT clock runs. -/
def State.outClock (s : State) : Bool := s.bit SYS_CLKEN 22

/-- Output A runs free (R340). -/
def State.freeRun (s : State) : Bool := s.bit BEAT_STAT 3 && !s.lvBit BEAT_CTRL 0

/-- Output B is in command mode, and self-refresh is on (R345, R348). -/
def State.cmdMode (s : State) : Bool := s.lvFld OUT_B_CTL 4 2 == 2
def State.psrOn (s : State) : Bool := s.cmdMode && s.lvBit OUT_B_CTL 17

/-- OUT_B_STAT.PSR (SLEEP) and XFER. -/
def State.asleep (s : State) : Bool := s.bit OUT_B_STAT 17
def State.moving (s : State) : Bool := s.bit OUT_B_STAT 18

/-- The pins of output `o` are driven (R342, R352). -/
def State.pinsDriven (s : State) (o : Nat) : Bool :=
  (match o with | 0 => s.lvBit OUT_A_CTL 0 | 1 => s.lvBit OUT_B_CTL 0 | _ => s.lvBit OUT_C_CTL 0) && s.chanState (0x818 + o) != 2

/-- An output reports an error on its channel (R352); every kind but 1 raises source 271. -/
def State.outError (s : State) (o kind rep : Nat) : State :=
  let t := s.faultReport (0x818 + o) (w32 (kind + rep * 65536))
  if kind = 1 then t else t.outEvt 7

/-! ### Vertical timing of Outputs A and B (R338 to R341) -/

/-- The vertical timing of output `o` (0 A, 1 B). -/
def State.vert (s : State) (o : Nat) : VertSt := if o = 0 then s.out.vertA else s.out.vertB

/-- Replace the vertical timing of an output. -/
def State.setVert (s : State) (o : Nat) (x : VertSt) : State :=
  s.setOut (if o = 0 then { s.out with vertA := x } else { s.out with vertB := x })

/-- Cycles since the last beat edge. -/
def State.phase (s : State) : Nat := (s.rg BEAT_PHASE).toNat

/-- A cycle after the edge comes before the next one, as far as that has a place. -/
def State.inBeat (s : State) (d : Nat) : Bool :=
  match s.beat.len with
  | none => true
  | some n => decide (d < n)

/-- A register of Output A or of Output B. -/
def outReg (o a b : Nat) : Nat := if o = 0 then a else b

/-- The length of a line in pixel clocks, and the frequency of the pixel clock in kHz. -/
def State.lineClocks (s : State) (o : Nat) : Nat :=
  s.lvFld (outReg o OUT_A_HTIM0 OUT_B_HTIM0) 0 13 + s.lvFld (outReg o OUT_A_HTIM0 OUT_B_HTIM0) 16 13 +
    s.lvFld (outReg o OUT_A_HTIM1 OUT_B_HTIM1) 0 13 + s.lvFld (outReg o OUT_A_HTIM1 OUT_B_HTIM1) 16 13
def State.khz (s : State) (o : Nat) : Nat := s.lvFld (OUT_PCLK o) 0 18

/-- The lines of a frame: front porch, sync, and all of its vertical blanking. -/
def State.vfp (s : State) (o : Nat) : Nat := s.lvFld (outReg o OUT_A_VTIM0 OUT_B_VTIM0) 16 13
def State.vsw (s : State) (o : Nat) : Nat := s.lvFld (outReg o OUT_A_VTIM1 OUT_B_VTIM1) 0 13
def State.blankLines (s : State) (o : Nat) : Nat :=
  s.vfp o + s.vsw o + s.lvFld (outReg o OUT_A_VTIM1 OUT_B_VTIM1) 16 13

/-- The FCLK cycles that `k` lines take, rounded up, and the whole lines in `d` cycles. The pixel clock is taken at its set
frequency inside a frame (log entry 35). -/
def State.lineCycles (s : State) (o k : Nat) : Nat := ceilDiv (k * s.lineClocks o * 400000) (s.khz o)
def State.linesIn (s : State) (o d : Nat) : Nat := d * s.khz o / (s.lineClocks o * 400000)

/-- The output is slaved to the beat (R340). -/
def State.slaved (s : State) (o : Nat) : Bool := o != 0 || !s.freeRun

/-- The line of the vertical timing that output `o` sends, counted from the start of vertical blanking; blanking lines after the
active ones count on (log entry 35). -/
def State.vertLine (s : State) (o : Nat) : Option Nat :=
  match (s.vert o).plan, (s.vert o).zero with
  | some (_, k), _ => some k
  | none, some z => some (s.linesIn o ((s.phase : Int) - z).toNat)
  | none, none => none

/-- Output `o` is in vertical blanking, or sends no frame yet. -/
def State.inVblank (s : State) (o : Nat) : Bool :=
  match s.vertLine o with
  | none => true
  | some k => decide (k < s.blankLines o) || decide (s.blankLines o + s.activeH o ≤ k)

/-- The cycle after the last edge at which vertical blanking starts, where it may: for a slaved output the end of the line that
the edge fell in; for a free-running one the end of its frame, to which `t` is held within 50 ppm (R342), and for its first
frame `t` (R340). -/
def State.vblankAt (s : State) (o t : Nat) : Option Nat :=
  match (s.vert o).plan, (s.vert o).zero with
  | some (p, _), _ => some p
  | none, none => if s.slaved o then none else some t
  | none, some z =>
    if s.slaved o then none
    else
      let n := s.lineCycles o (s.blankLines o + s.activeH o + s.lvFld OUT_A_VFP2 0 13)
      let mid := (z + n).toNat
      some (max (mid - n * 50 / 1000000) (min t (mid + n * 50 / 1000000)))

/-- While the pixel clock relocks the output stays in blanking and its frame is over (R342). -/
def State.vertLost (s : State) (o : Nat) : State := if o < 2 then s.setVert o { s.vert o with zero := none } else s

/-- Vertical blanking of output `o` starts now (R338). -/
def State.vblankHere (s : State) (o : Nat) : State :=
  s.setVert o { s.vert o with zero := some s.phase, plan := none }

/-- The vertical timing at a beat edge: a slaved output will start vertical blanking when the line in progress ends (R340). -/
def State.vertEdge (s : State) (o : Nat) : State :=
  let x := s.vert o
  let e := (s.rg BEAT_LAST).toNat
  if !s.outClock then s.setVert o { x with zero := none, plan := none }
  else
    let next := match x.plan, x.zero with
      | none, some z =>
        let d := ((e : Int) - z).toNat
        (s.lineCycles o (ceilDiv (d * s.khz o) (s.lineClocks o * 400000)) - d, s.linesIn o d)
      | _, _ => (0, 0)
    let video := o = 0 || !s.cmdMode
    s.setVert o { x with
      zero := if video then x.zero.map (fun z => z - e) else none
      plan := if s.slaved o then some (if video then next else (0, 0)) else none }

/-! ### Visor (R353 to R360) -/

/-- The Visor's state of pipe `p`. -/
def State.visor (s : State) (p : Nat) : VisorSt := smGet (fun _ => VisorSt.blank) s.visors p

/-- Store the Visor's state of pipe `p`. -/
def State.setVisor (s : State) (p : Nat) (x : VisorSt) : State :=
  { s with visors := smSet (fun _ => VisorSt.blank) s.visors p x }

/-- A VIS event: bit `k` with source 280 + `k`. -/
def State.visEvt (s : State) (k : Nat) : State := s.event VIS_EVT k (280 + k)

/-- Rectangles enabled on pipe `p`. -/
def State.rects (s : State) (p : Nat) : List Nat := (List.range 16).filter (fun r => s.lvBit (VIS_RCFG p r) 0)

/-- The corners of a rectangle. -/
def State.rectX0 (s : State) (p r : Nat) : Nat := s.lvFld (VIS_RXY0 p r) 0 11
def State.rectY0 (s : State) (p r : Nat) : Nat := s.lvFld (VIS_RXY0 p r) 16 11
def State.rectX1 (s : State) (p r : Nat) : Nat := s.lvFld (VIS_RXY1 p r) 0 11
def State.rectY1 (s : State) (p r : Nat) : Nat := s.lvFld (VIS_RXY1 p r) 16 11

/-- A rectangle contains a pixel. -/
def State.rectHas (s : State) (p r x y : Nat) : Bool :=
  decide (s.rectX0 p r ≤ x ∧ x ≤ s.rectX1 p r) && decide (s.rectY0 p r ≤ y ∧ y ≤ s.rectY1 p r)

/-- A pixel's three bytes into a CRC register: red, green, blue (R353). -/
def crcPixel (c px : Nat) : Nat := crcByte (crcByte (crcByte c (px / 65536 % 256)) (px / 256 % 256)) (px % 256)

/-- The pixels `l` of line `y` from column `x` on, into the CRC registers of frame and rectangles. -/
def State.visPixels (s : State) (p y : Nat) (rects : List Nat) (v : VisorSt) : Nat → List Nat → VisorSt
  | _, [] => v
  | x, px :: l =>
    let crcs := rects.foldl (fun m r =>
      if s.rectHas p r x y then smPut m r (crcPixel (smGet (fun _ => 0xFFFFFFFF) m r) px) else m) v.crcs
    State.visPixels s p y rects { v with crcs := crcs, frame := crcPixel v.frame px } (x + 1) l

/-- A mismatch of a rectangle (R355, R357). -/
def State.visMiss (s : State) (p r : Nat) (inc : Bool) : State :=
  let s1 := (((s.setBit (VIS_RES p) r true).setBit (VIS_RES p) (16 + r) inc).count (VIS_MISCNT p) 1).visEvt p
  let s2 := if s1.lvBit (VIS_RCFG p r) 3 then s1.setBit (VIS_STKY p) r true else s1
  s2.setVisor p { s2.visor p with missed := (s2.visor p).missed ++ [r], judged := (s2.visor p).judged ++ [r] }

/-- Judge a rectangle by its CRC (R355). -/
def State.visJudge (s : State) (p r : Nat) : State :=
  let crc := w32 (smGet (fun _ => 0xFFFFFFFF) (s.visor p).crcs r ^^^ 0xFFFFFFFF)
  let s1 := s.setRg (VIS_RCRC p r) crc
  if crc = s1.lv (VIS_EXP p r) then
    let s2 := (s1.setBit (VIS_RES p) r false).setBit (VIS_RES p) (16 + r) false
    s2.setVisor p { s2.visor p with judged := (s2.visor p).judged ++ [r] }
  else s1.visMiss p r false

/-- Source 286 + p, once every enabled rectangle of the frame has been judged. -/
def State.visTold (s : State) (p : Nat) : State :=
  let v := s.visor p
  let l := s.rects p
  if !v.told && !l.isEmpty && l.all (fun r => v.judged.contains r) then
    (s.setVisor p { v with told := true }).visEvt (6 + p)
  else s

/-- A line of `w` pixels has been delivered: the rectangles whose last pixel it holds are judged. A rectangle whose clipped
area is empty is judged with CRC 0 at the first line (R354, R355). -/
def State.visLine (s : State) (p y : Nat) (px : List Nat) : State :=
  let w := px.length
  let h := s.activeH p
  let l := s.rects p
  let s1 := s.setVisor p (s.visPixels p y l (s.visor p) 0 px)
  let empty := fun (r : Nat) => decide (w ≤ s.rectX0 p r) || decide (h ≤ s.rectY0 p r)
  let due := l.filter (fun r =>
    !(s1.visor p).judged.contains r &&
      (if empty r then y == 0 else y == min (s.rectY1 p r) (h - 1)))
  let s2 := due.foldl (fun t r => t.visJudge p r) s1
  let s3 := s2.visTold p
  if y + 1 = h then
    (s3.setVisor p { s3.visor p with prior := some (s3.rg (VIS_FCRC p)) }).setRg (VIS_FCRC p)
      (w32 ((s3.visor p).frame ^^^ 0xFFFFFFFF))
  else s3

/-- The Visor at a beat edge (R355, R357, R359): what is not judged is a mismatch, and the actions of the new frame come
into force. `l` are the rectangles that were enabled in the old frame. -/
def State.visEdgeJudge (s : State) (p : Nat) : State :=
  let v := s.visor p
  let left := (s.rects p).filter (fun r => !v.judged.contains r)
  (left.foldl (fun t r => t.visMiss p r true) s).visTold p

/-- The action set of the frame that starts (R357, R359), after the edge's copies. -/
def State.visEdgeAct (s : State) (p : Nat) : State :=
  let v := s.visor p
  let now := s.rects p
  let fresh := now.filter (fun r => !v.was.contains r)
  let act := (List.range 16).filter (fun r => (v.missed.contains r || s.bit (VIS_STKY p) r) && !fresh.contains r)
  let fs := act.any (fun r => s.lvFld (VIS_RCFG p r) 1 2 == 2)
  let s1 := s.setRg (VIS_ACT p) (wordOfBits act ||| (if fs then 0x10000 else 0))
  let s2 := s1.setVisor p { VisorSt.blank with was := now, fresh := fresh }
  if fs then s2.visEvt (3 + p) else s2

/-- A pixel as it is sent, after the Visor's actions (R357, R358). -/
def State.sentPixel (s : State) (p x y px : Nat) : Nat × State :=
  if s.bit (VIS_ACT p) 16 then
    let a := (s.lv (VIS_FSADDR p)).toNat + y * s.lvFld (VIS_FSPITCH p) 4 12 * 16 + 2 * x
    match s.fabRead .raster (a % 0x100000000) .half with
    | (.ok v, t) => (rgb565 v % 0x1000000, t)
    | (.err _, t) => (t.lvFld (VIS_FSCOL p) 0 24, t)
  else if (List.range 16).any (fun r => s.bit (VIS_ACT p) r && s.lvFld (VIS_RCFG p r) 1 2 == 1 && s.rectHas p r x y) then
    (s.lvFld (VIS_BLANKCOL p) 0 24, s)
  else (px, s)

/-- A line as it is sent. -/
def State.sentLine (s : State) (p y : Nat) : Nat → List Nat → List Nat × State
  | _, [] => ([], s)
  | x, px :: l =>
    let (v, t) := s.sentPixel p x y px
    let (m, u) := State.sentLine t p y (x + 1) l
    (v :: m, u)

/-! ### What each output sends (R343 to R345, R349, R350) -/

/-- The 35 slots of one pixel clock of an LVDS link (R343), pair D0 slot 0 first: bit 7·pair + slot, the clock pair last. `hs`,
`vs` and `de` say which are active, in the polarities of OUT_A_CTL. In 18-bit mode pair D3 carries nothing and its bits are 0. -/
def lvdsPixel (ctl : Word) (hs vs de : Bool) (px : Nat) : Nat :=
  let r := px / 65536 % 256
  let g := px / 256 % 256
  let b := px % 256
  let bit := fun (n k : Nat) => if n.testBit k then 1 else 0
  let level := fun (active : Bool) (k : Nat) => if active then 1 - bit ctl.toNat k else bit ctl.toNat k
  let jeida := bitOf ctl 6 || !bitOf ctl 5
  let o := if jeida then 2 else 0
  let d0 := [bit g o, bit r (o + 5), bit r (o + 4), bit r (o + 3), bit r (o + 2), bit r (o + 1), bit r o]
  let d1 := [bit b (o + 1), bit b o, bit g (o + 5), bit g (o + 4), bit g (o + 3), bit g (o + 2), bit g (o + 1)]
  let d2 := [level de 3, level vs 2, level hs 1, bit b (o + 5), bit b (o + 4), bit b (o + 3), bit b (o + 2)]
  let h := if jeida then 0 else 6
  let d3 := if bitOf ctl 5 then [0, bit b (h + 1), bit b h, bit g (h + 1), bit g h, bit r (h + 1), bit r h] else [0, 0, 0, 0, 0, 0, 0]
  (d0 ++ d1 ++ d2 ++ d3 ++ [1, 1, 0, 0, 0, 1, 1]).foldr (fun x acc => x + 2 * acc) 0

/-- The pixel clocks of one line of Output A (R338, R343): its pixels with DE active (`none` for a blanking line, whose colours
the spec leaves open), front porch, horizontal sync, back porch. -/
def State.lvdsClocks (s : State) (vs : Bool) (px : Option (List Nat)) : List Nat :=
  let ctl := s.lv OUT_A_CTL
  let idle := fun (hs : Bool) (n : Nat) => List.replicate n (lvdsPixel ctl hs vs false Config.lvdsBlank.toNat)
  (match px with
    | some l => l.map (lvdsPixel ctl false vs true)
    | none => idle false (s.lvFld OUT_A_HTIM0 0 13)) ++
  idle false (s.lvFld OUT_A_HTIM0 16 13) ++ idle true (s.lvFld OUT_A_HTIM1 0 13) ++ idle false (s.lvFld OUT_A_HTIM1 16 13)

/-- Every second element of a list, from the first. -/
def evens {α : Type} : List α → List α
  | a :: _ :: l => a :: evens l
  | l => l

/-- Pixel clocks on the links (R337, R343): on one link, or even columns on link 0 and odd ones on link 1. -/
def lvdsLinks (ctl : Word) (l : List Nat) : List LvdsLink :=
  let link := fun (x : List Nat) => { d3 := bitOf ctl 5, clocks := x : LvdsLink }
  if bitOf ctl 4 then [link (evens l), link (evens (l.drop 1))] else [link l]

/-- What the LVDS pins carry for the line that Output A sends: nothing (none) while they are high-impedance (R342). The active
line is the one sent last, while the vertical timing is at it. -/
def State.lvdsPins (s : State) : Option (List LvdsLink) :=
  if !s.pinsDriven 0 then none
  else
    let k := (s.vertLine 0).getD 0
    let vs := (s.vertLine 0).isSome && decide (s.vfp 0 ≤ k ∧ k < s.vfp 0 + s.vsw 0)
    let px := match s.out.vertA.sent with
      | some (y, px) => if s.vertLine 0 = some (s.blankLines 0 + y) then some px else none
      | none => none
    some (lvdsLinks (s.lv OUT_A_CTL) (s.lvdsClocks vs px))

/-- The end of an HS transmission (R344). -/
def State.dsiEot (s : State) : List DsiSent := if s.lvBit OUT_B_CTL 13 then [.eot] else []

/-- A blanking period of `n` pixel clocks on the lanes (R344): with LPBLANK they return to LP-11 where it is long enough. -/
def State.dsiGap (s : State) (n : Nat) : List DsiSent :=
  if s.lvBit OUT_B_CTL 12 && Config.lpFits n then s.dsiEot ++ [.lp11] else [.blanking (s.lvFld OUT_B_CTL 10 2) n]

/-- Bits of a pixel on Output B's link, as its format says. -/
def State.dsiBpp (s : State) : Nat := dsiBits (s.lvFld OUT_B_CTL 8 2)

/-- The total lane rate of Output B in units of 10 Mb/s. -/
def State.laneRate (s : State) : Nat := (s.lvFld OUT_B_CTL 6 2 + 1) * s.lvFld OUT_B_PHY 0 7

/-- The packets of an active line of Output B (R344, R345). In burst mode the pixel stream takes its bits at the full link rate,
and the rest of the line is blanking. -/
def State.dsiLine (s : State) (y : Nat) (px : List Nat) : List DsiSent :=
  let fmt := s.lvFld OUT_B_CTL 8 2
  let vc := s.lvFld OUT_B_CTL 10 2
  match s.lvFld OUT_B_CTL 4 2 with
  | 0 => [.hss vc] ++ s.dsiGap (s.lvFld OUT_B_HTIM1 16 13) ++ [.pixels vc fmt px] ++ s.dsiGap (s.lvFld OUT_B_HTIM0 16 13)
  | 1 => [.hss vc, .pixels vc fmt px] ++ s.dsiGap (s.lineClocks 1 - ceilDiv (px.length * s.dsiBpp * s.khz 1) (s.laneRate * 10000))
  | _ => [.longWrite vc (if y = 0 then 0x2C else 0x3C) fmt px] ++ s.dsiEot

/-- The packets of blanking line `k` of Output B in video mode (R344). -/
def State.dsiBlank (s : State) (k : Nat) : List DsiSent :=
  let vc := s.lvFld OUT_B_CTL 10 2
  (if k = s.vfp 1 then DsiSent.vss vc else .hss vc) :: s.dsiGap (s.lineClocks 1)

/-- What the DSI lanes carry (R342, R344, R348): LP-11 while disabled; in video mode the line of the vertical timing, or the
command sent in blanking; in command mode the transfer's packets and the command, else LP-11 or ULPS. -/
def State.dsiPins (s : State) : List DsiSent :=
  if !s.pinsDriven 1 then [.lp11]
  else if s.moving || s.out.bta then s.out.dsi
  else if s.cmdMode then (if s.out.ulps then [.ulps] else [.lp11])
  else
    match s.out.dsi, s.vertLine 1 with
    | .command dt vc lp data :: l, _ => .command dt vc lp data :: l
    | l, some k => if s.inVblank 1 then s.dsiBlank k else l
    | _, none => [.lp11]

/-- A stored colour of Output C through OUT_C_GAMMA: 10 bits a colour, red in [29:20] (R349). -/
def State.gamma (s : State) (px : Nat) : Nat :=
  s.fld (OUT_C_GAMMA 0 (px / 65536 % 256)) 0 10 * 0x100000 + s.fld (OUT_C_GAMMA 1 (px / 256 % 256)) 0 10 * 0x400 +
    s.fld (OUT_C_GAMMA 2 (px % 256)) 0 10

/-- The key of a pixel in the frame stores. -/
def storeKey (store x y : Nat) : Nat := store * 32768 + y * 512 + x

/-- Store a line into the store that is not scanned (R349). -/
def State.storeLine (s : State) (y : Nat) (px : List Nat) : State :=
  let back := 1 - s.fld OUT_C_STAT 4 1
  let m := (List.range px.length).foldl (fun m x =>
    smSet (fun _ => 0) m (storeKey back x y) (s.gamma (px.getD x 0))) s.out.stores
  s.setOut { s.out with stores := m }

/-- A line is sent by output `o`. -/
def State.sendLine (s : State) (o y : Nat) (px : List Nat) : State :=
  match o with
  | 0 => s.setVert 0 { s.vert 0 with sent := some (y, px) }
  | 1 =>
    let t := s.setVert 1 { s.vert 1 with sent := some (y, px) }
    if t.pinsDriven 1 && !t.asleep then t.setOut { t.out with dsi := t.dsiLine y px } else t
  | _ => s.storeLine y px

/-! ### Lines (R313, R335, R348, R349) -/

/-- The first 32 µs of a beat have passed (R314, R345, R348, R349). -/
abbrev lineStart : Nat := 12800

/-- The cycles that `k` line packets of a transfer take at the lane rate: DCS command, pixels and 6 bytes of packet overhead
each (R345 and its example). -/
def State.packetCycles (s : State) (k : Nat) : Nat :=
  ceilDiv (k * (s.activeW 1 * (if s.lvFld OUT_B_CTL 8 2 = 0 then 3 else 2) + 7) * 320) s.laneRate

/-- The cycle after the edge at which output `o` requests its next line, where it does: Outputs A and B in video mode after
vertical blanking (R338), Output B in command mode at the pace of a transfer, also while it sleeps (R345, R348), Output C from
edge + 32 µs (R349). -/
def State.lineDue (s : State) (o : Nat) : Option Nat :=
  let y := (s.pipe o).line
  if o = 2 then some lineStart
  else if o = 1 && s.cmdMode then
    if s.moving then some (s.out.movedAt + s.packetCycles y)
    else if s.asleep then some (lineStart + s.packetCycles y) else none
  else
    match (s.vert o).plan, (s.vert o).zero with
    | none, some z => some (z + s.lineCycles o (s.blankLines o + y)).toNat
    | _, _ => none

/-- Output `o` has a line to request before the next edge. -/
def State.mayRequest (s : State) (o : Nat) : Bool :=
  s.outClock && !s.out.relock.contains o && decide (0 < s.activeW o) && decide ((s.pipe o).line < s.activeH o) &&
  (s.lineDue o).any s.inBeat

/-- The composed frame of Output B differs from the one last transferred (R348, R360). -/
def State.frameDiffers (s : State) : Bool :=
  s.rg (VIS_FCRC 1) != s.rg OUT_B_PSRCRC || (s.rg (VIS_ACT 1) &&& 0x1FFFF) != s.rg OUT_B_PSRACT

/-- The sleeping Output B has found that the frame differs: the ULPS exit starts (R348). -/
def State.sleepDiffers (s : State) : State := s.setOut { s.out with differs := true, leaving := s.out.ulps }

/-- The last line of the frame has been delivered while Output B sleeps (R348). -/
def State.sleepFrameEnd (s : State) : State := if s.asleep && s.frameDiffers then s.sleepDiffers else s

/-- OUTPUT_LINE_REQUEST (R313, R338): when it is due, output `o` takes the next line of its pipe; a pixel not composed is
RAS_BGCOL (R335); the Visor takes the line before any action (R353), and the output sends it. -/
def execOutputLineRequest (o : Fin 3) (s : State) : Out :=
  let p := o.val
  done (
    if !s.mayRequest p then s
    else
      let y := (s.pipe p).line
      let w := s.activeW p
      let s1 := (s.advanceTo ((s.lineDue p).getD 0)).compose p ((y + 1) * w)
      let x := s1.pipe p
      let got := x.ahead.take w
      let px := got ++ List.replicate (w - got.length) (s1.lvFld (RAS_BGCOL p) 0 24)
      let late := decide (got.length < w)
      let s2 := s1.setPipe p { x with line := y + 1, ahead := x.ahead.drop w, under := x.under || late }
      let s3 := if late then
          let t := s2.count (RAS_LUNDER p) 1
          if x.under then t else t.rasEvt p 5
        else s2
      let s4 := (s3.rasAt p (y + 1)).visLine p y px
      let (sent, s5) := s4.sentLine p y 0 px
      let s6 := s5.sendLine p y sent
      if p == 1 && y + 1 == s6.activeH 1 then s6.sleepFrameEnd else s6)

/-! ### Output B: transfers and self-refresh (R345, R346, R348) -/

/-- A transfer starts (R345). -/
def State.startTransfer (s : State) : State :=
  (s.setBit OUT_B_STAT 18 true).setOut { s.out with moved := true, movedAt := s.phase, due := false }

/-- A transfer is due: it starts, or waits for the queued command, which is sent before it (R347). -/
def State.beginTransfer (s : State) : State :=
  if s.out.cmd.isSome then s.setOut { s.out with due := true } else s.startTransfer

/-- Output B waits for a TE event in this beat. -/
def State.awaitsTe (s : State) : Bool :=
  s.outClock && s.cmdMode && !s.asleep && !s.moving && !s.out.moved && !s.out.due && !s.out.leaving && !s.out.relock.contains 1

/-- The panel's signal where TESRC selects the pin: OB_TE takes its other level (R346). -/
def State.tePin (s : State) : State :=
  if s.lvFld OUT_B_CTL 14 2 = 1 then s.setOut { s.out with te := !s.out.te } else s

/-- The panel's signal is a TE event (R346): with TESRC = 1 it is the edge of OB_TE that TEPOL selects, from low with TEPOL = 0 and
from high with TEPOL = 1; with TESRC = 2 the message. -/
def State.isTe (s : State) : Bool :=
  match s.lvFld OUT_B_CTL 14 2 with
  | 1 => s.out.te == s.lvBit OUT_B_CTL 16
  | 2 => true
  | _ => false

/-- With TESRC = 2 the panel has the bus from edge + 32 µs until its message (R346). -/
def State.busAway (s : State) : Bool :=
  s.awaitsTe && s.lvFld OUT_B_CTL 14 2 == 2 && decide (lineStart ≤ s.phase)

/-- TE_EVENT (R345, R346): the panel's signal, and the first TE event in the window; with TESRC = 0 the start at edge + 32 µs. -/
def execTeEvent (s : State) : Out :=
  done (
    if s.lvFld OUT_B_CTL 14 2 = 0 then
      if s.awaitsTe && s.inBeat lineStart then (s.advanceTo lineStart).beginTransfer else s
    else if s.awaitsTe && s.isTe && decide (lineStart ≤ s.phase ∧ s.phase ≤ s.lvFld OUT_B_TEWIN 0 16 * 400) then
      let t := s.tePin.beginTransfer
      t.setOut { t.out with teMiss := 0 }
    else s.tePin)

/-- TE_WINDOW_END (R345, R352): a miss; the eighth in a row is reported. -/
def execTeWindowEnd (s : State) : Out :=
  let at_ := s.lvFld OUT_B_TEWIN 0 16 * 400
  done (
    if s.awaitsTe && s.lvFld OUT_B_CTL 14 2 != 0 && s.inBeat at_ then
      let s1 := (s.advanceTo at_).beginTransfer
      let s2 := (s1.count OUT_B_TEMISSCNT 1).outEvt 5
      let n := s2.out.teMiss + 1
      if n = 8 then (s2.setOut { s2.out with teMiss := 0 }).outError 1 5 0 else s2.setOut { s2.out with teMiss := n }
    else s)

/-- TRANSFER_END (R345, R348): the last packet has ended. -/
def execTransferEnd (s : State) : Out :=
  let at_ := s.out.movedAt + s.packetCycles (s.activeH 1)
  done (
    if s.moving ∧ s.activeH 1 ≤ (s.pipe 1).line ∧ s.inBeat at_ then
      let n := if s.psrOn && !s.frameDiffers then s.out.equal + 1 else 0
      let s1 := ((s.advanceTo at_).setBit OUT_B_STAT 18 false).outEvt 3
      let s2 := (s1.setRg OUT_B_PSRCRC (s1.rg (VIS_FCRC 1))).setRg OUT_B_PSRACT (s1.rg (VIS_ACT 1) &&& 0x1FFFF)
      s2.setOut { s2.out with equal := n }
    else s)

/-- ULPS_EXIT_DONE (R348). -/
def execUlpsExitDone (s : State) : Out :=
  done (if s.out.leaving then s.setOut { s.out with leaving := false, ulps := false } else s)

/-- PSR_SLEEP and PSR_WAKE at a beat edge (R348). -/
def State.psrEdge (s : State) : State :=
  if s.asleep then
    if s.out.differs || !s.psrOn then
      let t := s.setBit OUT_B_STAT 17 false
      (t.setOut { t.out with differs := false, equal := 0, leaving := t.out.ulps }).outEvt 8
    else s
  else if s.psrOn && decide (s.lvFld OUT_B_PSRB 0 16 ≤ s.out.equal) && decide (0 < s.out.equal) then
    let t := s.setBit OUT_B_STAT 17 true
    (t.setOut { t.out with equal := 0, ulps := t.lvBit OUT_B_CTL 18 }).outEvt 8
  else s

/-! ### Output B: commands (R347, R352) -/

/-- A packet of a data type is long (R347): the DSI long packet types, whose low hex digit is 9 or above (PRESUMED,
log entry 18). -/
def longPacket (dt : Nat) : Bool := decide (9 ≤ dt % 16)

/-- A write to OUT_B_CMDHDR (R347). -/
def State.writeCmdhdr (s : State) (v : Word) : State :=
  s.command outPort false (s.bit OUT_B_CMDST 31) (longPacket (fieldOf v 0 6) && decide (64 < fieldOf v 8 16))
    (fun t => (t.setBit OUT_B_CMDST 31 true).setOut { t.out with cmd := some (v &&& 0x3FFFFFF) })

/-- OUT_B_CMDHDR_WRITE. -/
def execOutBCmdhdrWrite (i : Initiator) (v : Word) (s : State) : Out :=
  done (s.guardW i OUT_B_CMDHDR v (fun t => t.writeCmdhdr v))

/-- A command completes: BUSY clears, ST is set, source 270 is raised (R347), and a transfer that waited for it starts. -/
def State.dsiDone (s : State) (st : Nat) : State :=
  let t := (s.setBit OUT_B_CMDST 31 false).setFld OUT_B_CMDST 0 4 st
  let u := (t.setOut { t.out with cmd := none, bta := false }).outEvt 6
  if u.out.due then u.startTransfer else u

/-- The payload bytes of a long packet, from OUT_B_CMDBUF. -/
def State.cmdBytes (s : State) (n : Nat) : List Byte :=
  ((List.range 16).flatMap (fun i => leBytes 4 (s.rg (OUT_B_CMDBUF i)).toNat)).take n

/-- The queued packet may be sent (R347): in video mode in vertical blanking, in command mode between transfers, once a ULPS exit
that runs has ended, and not while the panel has the bus. -/
def State.mayPacket (s : State) : Bool :=
  s.outClock && !s.out.bta && !s.out.leaving && (if s.cmdMode then !s.moving && !s.busAway else s.inVblank 1)

/-- DSI_PACKET_SEND (R347, R348): lanes in ULPS leave it for the packet, and the state of self-refresh does not change.
`contention` tells that the PHY detected contention (R352). -/
def execDsiPacketSend (contention : Bool) (s : State) : Out :=
  done (
    match s.out.cmd with
    | none => s
    | some v =>
      if !s.mayPacket then s
      else
        let dt := fieldOf v 0 6
        let wc := fieldOf v 8 16
        let data := if longPacket dt then s.cmdBytes wc else leBytes 2 wc
        let pkt := .command dt (fieldOf v 6 2) (bitOf v 24) data :: (if bitOf v 24 then [] else s.dsiEot)
        let s1 := s.setOut { s.out with dsi := if s.pinsDriven 1 then pkt else s.out.dsi }
        if contention then (s1.dsiDone 6).outError 1 4 0
        else if bitOf v 25 then s1.setOut { s1.out with bta := true }
        else s1.dsiDone 0)

/-- DSI_READ_REPLY (R347, R352): the panel's reply of up to 16 bytes, and its error report. -/
def execDsiReadReply (d : List Byte) (rep : BitVec 16) (s : State) : Out :=
  done (
    if s.out.bta then
      let l := d.take 16
      let at_ := fun (i : Nat) => w32 (ofLe ((l.drop (4 * i)).take 4))
      let s1 := if l.isEmpty then s
        else ((List.range 4).foldl (fun t i => t.setRg (OUT_B_RDATA i) (at_ i)) s)
      let s2 := s1.setFld OUT_B_CMDST 8 5 l.length
      if rep = 0 then s2.dsiDone 0
      else ((s2.setRg OUT_B_ERRRPT (w32 rep.toNat)).dsiDone 5).outError 1 2 rep.toNat
    else s)

/-- DSI_BTA_TIMEOUT (R347, R352). -/
def execDsiBtaTimeout (s : State) : Out := done (if s.out.bta then (s.dsiDone 4).outError 1 3 0 else s)

/-- DPHY_PLL_UNLOCK (R352): kind 1. -/
def execDphyPllUnlock (s : State) : Out := done (s.outError 1 1 0)

/-! ### Clocks and Output C -/

/-- PLL_PIX_RELOCK (R342): the relock of output `o` ends; the refreshes of Output C start over from here. -/
def execPllPixRelock (o : Fin 3) (s : State) : Out :=
  let was := s.out.relock.contains o.val && o.val == 2
  done (s.setOut { s.out with
    relock := s.out.relock.filter (fun k => k != o.val), litAt := if was then s.phase else s.out.litAt })

/-- The bits of a pixel's plane on the three colours of one data set. -/
def planeBits (v k : Nat) : Nat :=
  (if v.testBit (20 + k) then 1 else 0) + (if v.testBit (10 + k) then 2 else 0) + (if v.testBit k then 4 else 0)

/-- The length of plane `k`'s slot (R350), in PIXC cycles. -/
def State.slotCycles (s : State) (k : Nat) : Nat := max (s.activeW 2) (2 ^ k * s.lvFld OUT_C_TIM 0 8) + 1

/-- The lengths of the stretches of one refresh (R350): the lead-in, then for each address the GHOST wait and ten slots. -/
def State.ledLengths (s : State) : List Nat :=
  (s.activeW 2 + 1) :: (List.range (s.activeH 2 / 2)).flatMap (fun _ =>
    s.lvFld OUT_C_TIM 16 8 :: (List.range 10).map s.slotCycles)

/-- The column data of plane `k` at address `a` of the scanned store, in descending columns: data set 0 in bits [2:0] and data set 1
in bits [5:3]. -/
def State.planeRow (s : State) (a k : Nat) : List Nat :=
  let w := s.activeW 2
  let at_ := fun (x y : Nat) => smGet (fun _ => 0) s.out.stores (storeKey (s.fld OUT_C_STAT 4 1) x y)
  (List.range w).map (fun i =>
    let x := w - 1 - i
    planeBits (at_ x a) k + 8 * planeBits (at_ x (a + s.activeH 2 / 2)) k)

/-- One refresh of the scanned store (R350). In the last slot no plane is left to shift. -/
def State.ledScan (s : State) : List LedSlot :=
  let n := s.activeH 2 / 2
  let next := fun (a k : Nat) => if k < 9 then s.planeRow a (k + 1) else if a + 1 < n then s.planeRow (a + 1) 0 else []
  { cycles := s.activeW 2 + 1, addr := none, lit := 0, shift := s.planeRow 0 0, lat := true } ::
  (List.range n).flatMap (fun a =>
    { cycles := s.lvFld OUT_C_TIM 16 8, addr := some a, lit := 0, shift := [], lat := false } ::
    (List.range 10).map (fun k =>
      { cycles := s.slotCycles k, addr := none, lit := 2 ^ k * s.lvFld OUT_C_TIM 0 8, shift := next a k, lat := true }))

/-- The FCLK cycles that `n` PIXC cycles take. -/
def State.pixcCycles (s : State) (n : Nat) : Nat := ceilDiv (n * 400000) (s.khz 2)

/-- The cycle after the edge at which the refresh that comes next ends: refreshes run back to back (R351). -/
def State.refreshEnd (s : State) : Nat := s.out.litAt + s.pixcCycles ((s.out.refs + 1) * s.ledLengths.sum)

/-- What Output C's pins carry (R342, R351). -/
def State.ledPins (s : State) : LedPins :=
  if !s.pinsDriven 2 then .off
  else if s.lvFld OUT_C_CTL 8 4 ≤ s.out.refs then .dark else s.out.led

/-- LED_REFRESH (R350, R351): the next of the NREF refreshes of the beat runs to its end. -/
def execLedRefresh (s : State) : Out :=
  done (
    if s.outClock && !s.out.relock.contains 2 && s.out.lit && decide (s.out.refs < s.lvFld OUT_C_CTL 8 4) &&
        s.inBeat s.refreshEnd then
      let t := s.advanceTo s.refreshEnd
      t.setOut { t.out with refs := t.out.refs + 1, led := .scan t.ledScan }
    else s)

/-- The end of the stretch that runs `pos` cycles into a refresh. -/
def stretchEnd : List Nat → Nat → Nat → Nat
  | [], acc, _ => acc
  | n :: l, acc, pos => if pos ≤ acc then acc else stretchEnd l (acc + n) pos

/-- The FCLK cycles from an edge until the refresh that runs has finished its slot (R351). -/
def State.slotRest (s : State) : Nat :=
  let e := (s.rg BEAT_LAST).toNat - (s.out.litAt + s.pixcCycles (s.out.refs * s.ledLengths.sum))
  s.pixcCycles (stretchEnd s.ledLengths 0 (e * s.khz 2 / 400000)) - e

/-- Output C at a beat edge (R349, R351): the stores swap if pipe C completed its frame, refreshes not done are abandoned at
the end of their slot, and those of the new beat start. -/
def State.ledEdge (s : State) : State :=
  if !s.outClock then s.setOut { s.out with refs := 0, lit := false, litAt := 0, led := .dark }
  else
    let done_ := decide (0 < s.activeW 2) && decide (s.activeH 2 ≤ (s.pipe 2).line) && !(s.pipe 2).under
    let s1 := if done_ then (s.setFld OUT_C_STAT 4 1 (1 - s.fld OUT_C_STAT 4 1)).outEvt 9
      else (s.count OUT_C_HOLDCNT 1).outEvt 10
    let short := s1.out.lit && decide (s1.out.refs < s1.lvFld OUT_C_CTL 8 4)
    let s2 := if short then (s1.count OUT_C_SHORTCNT 1).outEvt 11 else s1
    (s2.setFld OUT_C_STAT 0 4 s2.out.refs).setOut
      { s2.out with refs := 0, lit := true, litAt := if short then s.slotRest else 0 }

/-- A cut frame has no frame CRC (R360): VIS_FCRC goes back to the last completed frame's. -/
def State.dropCrc (s : State) (p : Nat) : State :=
  match (s.visor p).prior with
  | some v => s.setRg (VIS_FCRC p) v
  | none => s

/-- The slaved frame of an output has not ended at the edge: its vertical blanking has not started, active lines are left, or
the last one is in progress (R341). -/
def State.frameShort (s : State) (o : Nat) : Bool :=
  match (s.vert o).plan, (s.vert o).zero with
  | some _, _ => true
  | none, some z =>
    decide ((s.pipe o).line < s.activeH o) ||
      decide (((s.rg BEAT_LAST).toNat : Int) < z + s.lineCycles o (s.blankLines o + s.activeH o))
  | none, none => false

/-- A frame of Output A or B is cut at a beat edge (R341); one that the sleeping Output B has not finished counts as differing
(R360). -/
def State.cutFrame (s : State) (o : Nat) : State :=
  if !s.outClock || s.activeW o == 0 then s
  else if o = 0 then
    if s.slaved 0 && s.frameShort 0 then ((s.count OUT_A_CUTCNT 1).outEvt 2).dropCrc 0 else s
  else if s.cmdMode && s.asleep then
    if (s.pipe 1).line < s.activeH 1 then s.sleepDiffers else s
  else if (if s.cmdMode then s.moving else s.frameShort 1) then
    let t := ((s.count OUT_B_CUTCNT 1).outEvt 4).dropCrc 1
    (t.setBit OUT_B_STAT 18 false).setOut { t.out with equal := 0 }
  else s

/-- The outputs at a beat edge, before the copies: cut frames, the vertical timing, the Visor's judgement, and Output C. -/
def State.outEdge (s : State) : State :=
  let s1 := (((s.cutFrame 0).cutFrame 1).vertEdge 0).vertEdge 1
  let s2 := [0, 1, 2].foldl (fun t p => t.visEdgeJudge p) s1
  let s3 := s2.ledEdge
  s3.setOut { s3.out with moved := false, movedAt := 0, due := false }

/-- OUT_x_STAT.LINE: the line of the vertical timing, held at the last line of a free-running frame until the next starts; in
command mode the spec gives it no meaning. -/
def State.lineShown (s : State) (o : Nat) : Nat :=
  let last := if s.slaved o then 8191 else s.blankLines o + s.activeH o + s.lvFld OUT_A_VFP2 0 13 - 1
  if o = 1 && s.cmdMode then (Config.cmdLine (s.pipe 1).line).toNat else min ((s.vertLine o).getD 0) (min last 8191)

/-- A register of the outputs that shows other state. -/
def State.outShow (s : State) (a : Nat) : Option Word :=
  if a = OUT_A_STAT then some (w32 (s.lineShown 0 + (if s.freeRun then 0x10000 else 0)))
  else if a = OUT_B_STAT then some (withField (s.rg OUT_B_STAT) 0 13 (s.lineShown 1))
  else none

end Sys2Proof.Machine
end

