-- ==== Sys2Proof/Machine/Spi.lean ====
section
/-! DEFINITION. SPI1 to SPI3, the Octal SPI controller with its execute-in-place window, the I2C controllers and the PPS input
(spec/20 R525 to R529, R533). What the device on the far side answers is an operand of the command that starts a transfer;
beyond it, answers are free values (log entry 28). -/

namespace Sys2Proof.Machine

/-! ### SPI1 to SPI3 (R525) -/

/-- The command port of SPI unit `n` (R514). -/
def spiPort (n : Nat) : CmdPort :=
  { st := SPI_CMDST n, rejects := SPI_REJECT n, evt := some (SPI_EVT n, 1), src := some (795 + 2 * n) }

/-- What SPI unit `n` holds besides its registers. -/
def State.spi (s : State) (n : Nat) : SpiSt := smGet (fun _ => SpiSt.blank) s.spis n

/-- Store it; SPI_STAT shows the FIFO levels. -/
def State.setSpi (s : State) (n : Nat) (x : SpiSt) : State :=
  ({ s with spis := smSet (fun _ => SpiSt.blank) s.spis n x }.setFld (SPI_STAT n) 8 5 x.tx.length).setFld (SPI_STAT n) 16 5 x.rx.length

/-- SPI_STAT.BUSY. -/
def State.spiBusy (s : State) (n : Nat) : Bool := s.bit (SPI_STAT n) 0

/-- The mask of a word of WLEN bits. -/
def State.spiMask (s : State) (n : Nat) : Word := w32 (2 ^ (s.fld (SPI_CFG n) 4 5 + 1) - 1)

/-- Move words while the transfer has some left, the transmit FIFO holds one and the receive FIFO has room. The first argument
bounds the words: no FIFO holds more than 16. -/
def State.spiPump (s : State) (n : Nat) : Nat → State
  | 0 => s
  | fuel + 1 =>
    let x := s.spi n
    match x.tx with
    | [] => s
    | w :: l =>
      if s.spiBusy n && !x.aborting && decide (0 < x.left) && decide (x.rx.length < 16) then
        let (v, t) := match x.miso with
          | m :: _ => (m, s)
          | [] => let (f, t) := s.draw; (w32 f, t)
        let y : SpiSt := { x with
          tx := l, rx := x.rx ++ [v &&& s.spiMask n], left := x.left - 1, miso := x.miso.tail, mosi := x.mosi ++ [w &&& s.spiMask n] }
        State.spiPump (t.setSpi n y) n fuel
      else s

/-- START (R525). -/
def State.spiStart (s : State) (n : Nat) (miso : List Word) : State :=
  let t := s.setBit (SPI_STAT n) 0 true
  (t.setSpi n { t.spi n with left := s.fld (SPI_XFER n) 0 16, miso := miso, mosi := [], aborting := false, cs := true }).spiPump n 16

/-- A write to SPI_CMD (R514, R525). -/
def State.writeSpiCmd (s : State) (n : Nat) (v : Word) (miso : List Word) : State :=
  let start := bitOf v 0
  let abort := bitOf v 1
  if !start && !abort then s
  else
    s.command (spiPort n) (start && abort) (if start then s.spiBusy n else !s.spiBusy n)
      (start && s.fld (SPI_XFER n) 0 16 == 0)
      (fun t => if start then t.spiStart n miso else t.setSpi n { t.spi n with aborting := true })

/-- SPI_START: `miso` is what the target answers, word by word. -/
def execSpiStart (i : Initiator) (n : Fin 3) (miso : List Word) (s : State) : Out :=
  done (s.guardW i (SPI_CMD (n.val + 1)) 1 (fun t => t.writeSpiCmd (n.val + 1) 1 miso))

/-- SPI_ABORT. -/
def execSpiAbort (i : Initiator) (n : Fin 3) (s : State) : Out :=
  done (s.guardW i (SPI_CMD (n.val + 1)) 2 (fun t => t.writeSpiCmd (n.val + 1) 2 []))

/-- SPI_DONE (R525): the transfer has moved its words, or ends by ABORT; the chip select stays asserted with HOLD = 1. -/
def execSpiDone (n : Fin 3) (s : State) : Out :=
  done (
    let k := n.val + 1
    let x := s.spi k
    if s.spiBusy k && (x.left == 0 || x.aborting) then
      let t := s.setSpi k { x with left := 0, aborting := false, cs := s.bit (SPI_XFER k) 16 }
      (t.setBit (SPI_STAT k) 0 false).event (SPI_EVT k) 0 (794 + 2 * k)
    else s)

/-- A push to SPI_TX; a full FIFO refuses it (log entry 28). -/
def State.writeSpiTx (s : State) (n : Nat) (v : Word) : State :=
  let x := s.spi n
  if 16 ≤ x.tx.length then s else (s.setSpi n { x with tx := x.tx ++ [v] }).spiPump n 16

/-- A read of SPI_RX: the oldest received word; of an empty FIFO a free value. -/
def State.readSpiRx (s : State) (n : Nat) : Nat × State :=
  let x := s.spi n
  match x.rx with
  | [] => let (f, t) := s.draw; (f % 0x100000000, t)
  | w :: l => (w.toNat, (s.setSpi n { x with rx := l }).spiPump n 16)

/-! ### Octal SPI (R526, R527) -/

/-- The command port of SPI0 (R514). -/
def ospiPort : CmdPort := { st := OSPI_CMDST, rejects := OSPI_REJECT, evt := some (OSPI_EVT, 1), src := some 795 }

/-- Store what the controller holds; OSPI_STAT shows the bytes in its FIFO. -/
def State.setOspi (s : State) (x : OspiSt) : State :=
  ({ s with ospi := x }.setFld OSPI_STAT 8 7 x.rx.length).setFld OSPI_STAT 16 7 x.tx.length

/-- OSPI_STAT.BUSY. -/
def State.ospiBusy (s : State) : Bool := s.bit OSPI_STAT 0

/-- Move bytes of the indirect command while the FIFO allows. The first argument bounds the bytes: the FIFO holds at most 64. -/
def State.ospiPump (s : State) : Nat → State
  | 0 => s
  | fuel + 1 =>
    let x := s.ospi
    let dir := s.fld OSPI_ICMD 22 2
    if !s.ospiBusy || x.aborting || x.left == 0 then s
    else if dir = 2 then
      match x.tx with
      | [] => s
      | b :: l => State.ospiPump (s.setOspi { x with tx := l, left := x.left - 1, sent := x.sent ++ [b] }) fuel
    else if dir = 1 && decide (x.rx.length < 64) then
      let (b, t) := match x.answer with
        | b :: _ => (b, s)
        | [] => let (f, t) := s.draw; (BitVec.ofNat 8 f, t)
      State.ospiPump (t.setOspi { x with rx := x.rx ++ [b], left := x.left - 1, answer := x.answer.tail }) fuel
    else s

/-- START (R527): the indirect command runs; the prefetch line is invalidated (R526). -/
def State.ospiStart (s : State) (answer : List Byte) : State :=
  let n := if s.fld OSPI_ICMD 22 2 = 0 then 0 else s.fld OSPI_ILEN 0 13
  let t := s.setBit OSPI_STAT 0 true
  (t.setOspi { t.ospi with left := n, answer := answer, sent := [], aborting := false, line := none }).ospiPump 64

/-- The indirect command's fields lie outside their ranges: ALEN 0, 3 or 4, DIR 0 to 2, ILEN to 4,096 (R38). -/
def State.ospiBad (s : State) : Bool :=
  let alen := s.fld OSPI_ICMD 8 3
  !(alen == 0 || alen == 3 || alen == 4) || s.fld OSPI_ICMD 22 2 == 3 || decide (4096 < s.fld OSPI_ILEN 0 13)

/-- A write to OSPI_CMD (R514, R527). -/
def State.writeOspiCmd (s : State) (v : Word) (answer : List Byte) : State :=
  let start := bitOf v 0
  let abort := bitOf v 1
  if !start && !abort then s
  else
    s.command ospiPort (start && abort) (if start then s.ospiBusy else !s.ospiBusy) (start && s.ospiBad)
      (fun t => if start then t.ospiStart answer else t.setOspi { t.ospi with aborting := true })

/-- OSPI_START: `answer` is what the flash answers, byte by byte. -/
def execOspiStart (i : Initiator) (answer : List Byte) (s : State) : Out :=
  done (s.guardW i OSPI_CMD 1 (fun t => t.writeOspiCmd 1 answer))

/-- OSPI_ABORT. -/
def execOspiAbort (i : Initiator) (s : State) : Out := done (s.guardW i OSPI_CMD 2 (fun t => t.writeOspiCmd 2 []))

/-- OSPI_DONE (R527): the indirect command has moved its bytes, or ends by ABORT. -/
def execOspiDone (s : State) : Out :=
  done (
    if s.ospiBusy && (s.ospi.left == 0 || s.ospi.aborting) then
      let t := s.setOspi { s.ospi with left := 0, aborting := false, line := none }
      (t.setBit OSPI_STAT 0 false).event OSPI_EVT 0 794
    else s)

/-- A push of a word to OSPI_DATA: four bytes, lowest first; what a full FIFO cannot hold is refused (log entry 28). -/
def State.writeOspiData (s : State) (v : Word) : State :=
  (s.setOspi { s.ospi with tx := (s.ospi.tx ++ leBytes 4 v.toNat).take 64 }).ospiPump 64

/-- A pop of a word from OSPI_DATA: up to four bytes, lowest first; the bytes of an empty FIFO are free values. -/
def State.readOspiData (s : State) : Nat × State :=
  let g := s.ospi.rx.take 4
  let (l, t) := s.drawBytes (4 - g.length)
  (ofLe (g ++ l), (t.setOspi { t.ospi with rx := t.ospi.rx.drop 4 }).ospiPump 64)

/-- XIP_READ (R526): a read of the XIP window at address `a`; `line` is the flash's 64-byte line, read where the prefetch line
does not hold it. -/
def execXipRead (i : Initiator) (a : Word) (size : Fin 4) (line : List Byte) (s : State) : Out :=
  done (
    let z := Size.ofCode size.val
    if !s.powered || regionOf a.toNat != some .xip then s
    else
      match s.judge i a.toNat false z 0 with
      | some (k, log) => { s with rdata := 0 }.refuse i a.toNat false z k log
      | none =>
        let (l, t) := s.xipLine a.toNat line
        { t with rdata := ofLe ((l.drop (a.toNat % 64)).take z.bytes) })

/-! ### I2C (R528, R529) -/

/-- The command port of I2C controller `n` (R514). -/
def i2cPort (n : Nat) : CmdPort :=
  { st := I2C_CMDST n, rejects := I2C_REJECT n, evt := some (I2C_EVT n, 1), src := some (803 + 2 * n) }

/-- What I2C controller `n` holds besides its registers. -/
def State.i2c (s : State) (n : Nat) : I2cSt := smGet (fun _ => I2cSt.blank) s.i2cs n

/-- Store it. -/
def State.setI2c (s : State) (n : Nat) (x : I2cSt) : State := { s with i2cs := smSet (fun _ => I2cSt.blank) s.i2cs n x }

/-- I2C_STAT.BUSY. -/
def State.i2cBusy (s : State) (n : Nat) : Bool := s.bit (I2C_STAT n) 0

/-- I2C_STAT.DONE counts the bytes that the transaction has moved (log entry 28). -/
def State.i2cMoved (s : State) (n : Nat) : State := s.setFld (I2C_STAT n) 8 8 (s.fld (I2C_STAT n) 8 8 + 1)

/-- Move bytes of the transaction: first those to write, while the FIFO holds some, then those to read, while it has room. The
first argument bounds the bytes: up to 16 that the FIFO held and 16 that it takes. -/
def State.i2cPump (s : State) (n : Nat) : Nat → State
  | 0 => s
  | fuel + 1 =>
    let x := s.i2c n
    if !s.i2cBusy n || x.aborting || x.recovering then s
    else if 0 < x.wleft then
      match x.fifo with
      | [] => s
      | b :: l => State.i2cPump ((s.setI2c n { x with fifo := l, wleft := x.wleft - 1, sent := x.sent ++ [b] }).i2cMoved n) n fuel
    else if 0 < x.rleft ∧ x.fifo.length < 16 then
      let (b, t) := match x.answer with
        | b :: _ => (b, s)
        | [] => let (f, t) := s.draw; (BitVec.ofNat 8 f, t)
      State.i2cPump ((t.setI2c n { x with fifo := x.fifo ++ [b], rleft := x.rleft - 1, answer := x.answer.tail }).i2cMoved n) n fuel
    else s

/-- START (R528): one transaction; the bus is busy while it runs. -/
def State.i2cStart (s : State) (n : Nat) (answer : List Byte) : State :=
  let t := ((s.setBit (I2C_STAT n) 0 true).setBit (I2C_STAT n) 1 true).setFld (I2C_STAT n) 8 8 0
  let x := t.i2c n
  (t.setI2c n { x with
    wleft := s.fld (I2C_XACT n) 8 8, rleft := s.fld (I2C_XACT n) 16 8, answer := answer, sent := [], aborting := false
    recovering := false, held := false }).i2cPump n 32

/-- RECOVER (R529). -/
def State.i2cRecover (s : State) (n : Nat) : State :=
  let t := (s.setBit (I2C_STAT n) 0 true).setBit (I2C_STAT n) 1 true
  t.setI2c n { t.i2c n with recovering := true, aborting := false }

/-- A write to I2C_CMD (R514, R528, R529). A bus that this controller holds after NOSTOP is idle for its own START (log entry
28). -/
def State.writeI2cCmd (s : State) (n : Nat) (v : Word) (answer : List Byte) : State :=
  let start := bitOf v 0
  let abort := bitOf v 1
  let rcv := bitOf v 2
  if !start && !abort && !rcv then s
  else
    s.command (i2cPort n) ((start && abort) || (start && rcv) || (abort && rcv))
      (if abort then !s.i2cBusy n else s.i2cBusy n)
      (start && s.fld (I2C_XACT n) 8 8 == 0 && s.fld (I2C_XACT n) 16 8 == 0)
      (fun t =>
        if start then t.i2cStart n answer
        else if abort then t.setI2c n { t.i2c n with aborting := true }
        else t.i2cRecover n)

/-- I2C_START: `answer` is what the target answers, byte by byte. -/
def execI2cStart (i : Initiator) (n : Fin 2) (answer : List Byte) (s : State) : Out :=
  done (s.guardW i (I2C_CMD n.val) 1 (fun t => t.writeI2cCmd n.val 1 answer))

/-- I2C_ABORT. -/
def execI2cAbort (i : Initiator) (n : Fin 2) (s : State) : Out :=
  done (s.guardW i (I2C_CMD n.val) 2 (fun t => t.writeI2cCmd n.val 2 []))

/-- I2C_RECOVER. -/
def execI2cRecover (i : Initiator) (n : Fin 2) (s : State) : Out :=
  done (s.guardW i (I2C_CMD n.val) 4 (fun t => t.writeI2cCmd n.val 4 []))

/-- A result that the operation can end with: STUCK (5) is RECOVER's, OK needs every byte moved or an ABORT, TIMEOUT needs
TOUT (R528, R529). -/
def State.i2cMayEnd (s : State) (n res : Nat) : Bool :=
  let x := s.i2c n
  if x.recovering then res == 0 || res == 5
  else if res = 0 then (x.wleft == 0 && x.rleft == 0) || x.aborting
  else if res = 4 then s.fld (I2C_TOUT n) 0 16 != 0
  else res != 5

/-- I2C_DONE (R528, R529): a transaction or a RECOVER ends with its result. Lost arbitration flushes the FIFO and leaves no
STOP (R534). -/
def execI2cDone (n : Fin 2) (res : Fin 6) (s : State) : Out :=
  done (
    let k := n.val
    if s.i2cBusy k && s.i2cMayEnd k res.val then
      let x := s.i2c k
      let keep := s.bit (I2C_XACT k) 24 && decide (res.val = 0) && !x.recovering && !x.aborting
      let t := s.setI2c k { x with
        wleft := 0, rleft := 0, aborting := false, recovering := false, held := keep
        fifo := if res.val = 3 then [] else x.fifo }
      let u := ((t.setFld (I2C_STAT k) 4 4 res.val).setBit (I2C_STAT k) 0 false).setBit (I2C_STAT k) 1 keep
      let w := u.event (I2C_EVT k) 0 (802 + 2 * k)
      if res.val = 0 then w else w.event (I2C_EVT k) 1 (803 + 2 * k)
    else s)

/-- A push to I2C_DATA; a full FIFO refuses it (log entry 28). -/
def State.writeI2cData (s : State) (n : Nat) (v : Word) : State :=
  let x := s.i2c n
  if 16 ≤ x.fifo.length then s
  else (s.setI2c n { x with fifo := x.fifo ++ [BitVec.ofNat 8 v.toNat] }).i2cPump n 32

/-- A pop from I2C_DATA; of an empty FIFO a free value. -/
def State.readI2cData (s : State) (n : Nat) : Nat × State :=
  let x := s.i2c n
  match x.fifo with
  | [] => let (f, t) := s.draw; (f % 256, t)
  | b :: l => (b.toNat, (s.setI2c n { x with fifo := l }).i2cPump n 32)

/-! ### PPS (R533) -/

/-- PPS_EDGE (R477, R533): an edge at PB15 with function 1; one of the polarity that FALL sets loads the snapshot. -/
def execPpsEdge (rising : Bool) (s : State) : Out :=
  done (
    if s.bit SYS_CLKEN 17 && s.bit PPS_CFG 0 && s.pinFunc 1 15 == 1 && rising != s.bit PPS_CFG 1 then
      let t := if s.pps.unread then s.setBit PPS_EVT 2 true else s
      let u := ((((t.setRg64 PPS_BEAT_LO t.beatNo).setRg PPS_PHASE (t.rg BEAT_PHASE)).setRg PPS_RTCSUB (t.rg MIT_RTC_SUB)).setRg PPS_RTCSEC
        (t.rg MIT_RTC_SEC_LO)).event PPS_EVT 0 809
      { u with pps := { unread := true, lost := false } }
    else s)

/-- PPS_LOSS (R533): 1.5 s without an edge; told once. -/
def execPpsLoss (s : State) : Out :=
  done (
    if s.bit SYS_CLKEN 17 && s.bit PPS_CFG 0 && !s.pps.lost then
      { s with pps := { s.pps with lost := true } }.event PPS_EVT 1 810
    else s)

/-- A read of PPS_BEAT_LO reads the snapshot. -/
def State.readPps (s : State) : State := { s with pps := { s.pps with unread := false } }

end Sys2Proof.Machine
end

