-- ==== Sys2Proof/Machine/Timers.lean ====
section
/-! DEFINITION. The timers, the trigger matrix's actions and the converter (spec/17 R458 to R475). Each tick, filter output
edge and matrix action is a command of its own; a command served between an event and the action that it causes is served
in the action's cycle (log entry 23). -/

namespace Sys2Proof.Machine

/-! ### Timers -/

/-- The TMR command port (R460): a rejection raises source 592. -/
def tmrPort : CmdPort := { st := TMR_CMDST, rejects := TMR_REJECT, evt := none, src := some 592 }

/-- TMR_STAT.RUN. -/
def State.tmrRun (s : State) (n : Nat) : Bool := s.bit (TMR_STAT n) 0

/-- TMR_STAT.ARMED. -/
def State.tmrArmed (s : State) (n : Nat) : Bool := s.bit (TMR_STAT n) 1

/-- Timer `n` is the odd half of a cascaded pair (R462). -/
def State.tmrOdd (s : State) (n : Nat) : Bool := decide (n % 2 = 1) && s.lvBit (TMR_CFG n) 3

/-- Timer `n` is the even half of a cascaded pair (R462). -/
def State.tmrEven (s : State) (n : Nat) : Bool := decide (n % 2 = 0) && s.lvBit (TMR_CFG (n + 1)) 3

/-- The timers on which a command of timer `n` acts (R462). -/
def State.tmrHalves (s : State) (n : Nat) : List Nat := if s.tmrEven n then [n, n + 1] else [n]

/-- Timer `n` counts down (R458, R462). -/
def State.tmrDown (s : State) (n : Nat) : Bool := s.lvBit (TMR_CFG (if s.tmrOdd n then n - 1 else n)) 1

/-- COUNT as RESET loads it (R468). -/
def State.tmrHome (s : State) (n : Nat) : Word := if s.tmrDown n then s.lv (TMR_TOP n) else 0

/-- The next step of timer `n` ends its period (R459). -/
def State.tmrEnds (s : State) (n : Nat) : Bool :=
  if s.tmrDown n then s.rg (TMR_COUNT n) == 0 else decide ((s.lv (TMR_TOP n)).toNat ≤ (s.rg (TMR_COUNT n)).toNat)

/-- The output of unit `x` acts (R464). A period end and a match in one cycle leave OUTMODE 4 a free level (log entry 23). -/
def State.tmrOutAct (s : State) (n x : Nat) (ended matched : Bool) : State :=
  let mode := s.lvFld (TMR_CCCFG n x) 1 3
  if mode = 1 ∧ matched then s.setBit (TMR_OUT n) x true
  else if mode = 2 ∧ matched then s.setBit (TMR_OUT n) x false
  else if mode = 3 ∧ matched then s.setBit (TMR_OUT n) x (!s.bit (TMR_OUT n) x)
  else if mode = 4 then
    if ended && matched then
      let (f, t) := s.draw
      t.setBit (TMR_OUT n) x (f % 2 == 1)
    else if ended then s.setBit (TMR_OUT n) x true
    else if matched then s.setBit (TMR_OUT n) x false
    else s
  else s

/-- Unit `x` of timer `n` sets CCxF, raises its source and signals the matrix (R463, R466, R467). -/
def State.tmrUnitEvent (s : State) (n x : Nat) : State :=
  ((s.setBit (TMR_STAT n) (9 + x) true).raise (545 + 3 * n + x)).trigger (2 + 3 * n + x)

/-- After a step of timer `n` that changed COUNT or not, and ended a period or not, unit `x` compares (R463, R464): a value above
TOP never matches. -/
def State.tmrUnit (s : State) (n x : Nat) (changed ended : Bool) : State :=
  let k := s.rg (TMR_CC n x)
  let matched := changed && !s.lvBit (TMR_CCCFG n x) 0 && s.rg (TMR_COUNT n) == k && decide (k.toNat ≤ (s.lv (TMR_TOP n)).toNat)
  let t := s.tmrOutAct n x ended matched
  if matched then t.tmrUnitEvent n x else t

/-- OVF of timer `n` is set (R459, R467). -/
def State.tmrOvf (s : State) (n : Nat) : State :=
  ((s.setBit (TMR_STAT n) 8 true).raise (544 + 3 * n)).trigger (1 + 3 * n)

/-- A counting step of one timer that wraps at a period end (R459, R463, R464). -/
def State.tmrCount (s : State) (n : Nat) : State :=
  let c := s.rg (TMR_COUNT n)
  let ended := s.tmrEnds n
  let v := if ended then s.tmrHome n else if s.tmrDown n then c - 1 else c + 1
  let s1 := s.setRg (TMR_COUNT n) v
  let s2 := if ended then s1.tmrOvf n else s1
  (s2.tmrUnit n 0 (v != c) ended).tmrUnit n 1 (v != c) ended

/-- A period end that sticks (R459): COUNT keeps its value, OVF is set, RUN becomes 0 and STUCK 1. -/
def State.tmrStick (s : State) (n : Nat) : State :=
  let s1 := ((s.tmrOvf n).setBit (TMR_STAT n) 0 false).setBit (TMR_STAT n) 2 true
  (s1.tmrUnit n 0 false true).tmrUnit n 1 false true

/-- A tick of timer `n`, which is no odd half: one step, of the pair where it is cascaded (R459, R462). -/
def State.tmrTick (s : State) (n : Nat) : State :=
  if !s.tmrRun n then s
  else if s.tmrEven n then
    let ends := s.tmrEnds n
    if ends && s.tmrEnds (n + 1) && s.lvBit (TMR_CFG (n + 1)) 2 && s.tmrRun (n + 1) then (s.tmrStick n).tmrStick (n + 1)
    else
      let t := s.tmrCount n
      if ends && t.tmrRun (n + 1) then t.tmrCount (n + 1) else t
  else if s.tmrEnds n && s.lvBit (TMR_CFG n) 2 then s.tmrStick n
  else s.tmrCount n

/-- TIMER_STEP (R458, R459): timer `n`'s prescaler delivers a tick. -/
def execTimerStep (n : Fin 16) (s : State) : Out :=
  done (if s.tmrOdd n.val || s.lvBit (TMR_CFG n.val) 0 || !s.bit SYS_CLKEN 6 then s else s.tmrTick n.val)

/-- Timer `n` alone starts (R460): a stuck one is first loaded as by RESET; OUTMODE 4 sets its outputs (R464). -/
def State.tmrStartOne (s : State) (n : Nat) : State :=
  let s1 := if s.bit (TMR_STAT n) 2 then (s.setRg (TMR_COUNT n) (s.tmrHome n)).setBit (TMR_STAT n) 2 false else s
  let s2 := (s1.setBit (TMR_STAT n) 0 true).setBit (TMR_STAT n) 1 false
  (s2.tmrOutAct n 0 true false).tmrOutAct n 1 true false

/-- Timer `n`, with its odd half, starts. -/
def State.tmrStart (s : State) (n : Nat) : State := (s.tmrHalves n).foldl (fun t k => t.tmrStartOne k) s

/-- Timer `n`, with its odd half, is armed. -/
def State.tmrArm (s : State) (n : Nat) : State :=
  (s.tmrHalves n).foldl (fun t k => t.setBit (TMR_STAT k) 1 true) s

/-- Timer `n`, with its odd half, stops. -/
def State.tmrStop (s : State) (n : Nat) : State :=
  (s.tmrHalves n).foldl (fun t k =>
    let u := (t.setBit (TMR_STAT k) 0 false).setBit (TMR_STAT k) 1 false
    { u with tmr := { u.tmr with due := u.tmr.due.filter (fun m => m != k) } }) s

/-- START of timer `n` is legal (R460, R462). -/
def State.tmrMayStart (s : State) (n : Nat) : Bool := !s.tmrRun n && !s.tmrArmed n && !s.tmrOdd n

/-- STOP of timer `n` is legal (R460, R462). -/
def State.tmrMayStop (s : State) (n : Nat) : Bool := (s.tmrRun n || s.tmrArmed n) && !s.tmrOdd n

/-- A write to TMR_CMD (R460, R469): an accepted command discards a matrix action of the opposite kind. -/
def State.writeTmrCmd (s : State) (n : Nat) (v : Word) : State :=
  let start := bitOf v 0
  let arm := bitOf v 1
  let stop := bitOf v 2
  if !start && !arm && !stop then s
  else
    s.command tmrPort ((start && arm) || (start && stop) || (arm && stop)) (if stop then !s.tmrMayStop n else !s.tmrMayStart n) false
      (fun t =>
        if start then (t.tmrStart n).dropAct A_STOP n
        else if arm then (t.tmrArm n).dropAct A_STOP n
        else (t.tmrStop n).dropAct A_START n)

/-- A write to TMR_GSTART (R460). -/
def State.writeTmrGstart (s : State) (v : Word) : State :=
  s.command tmrPort false (!(bitsSet v 16).all s.tmrMayStart) false
    (fun t => (bitsSet v 16).foldl (fun u n => (u.tmrStart n).dropAct A_STOP n) t)

/-- A write to TMR_GSTOP (R460). -/
def State.writeTmrGstop (s : State) (v : Word) : State :=
  s.command tmrPort false (!(bitsSet v 16).all s.tmrMayStop) false
    (fun t => (bitsSet v 16).foldl (fun u n => (u.tmrStop n).dropAct A_START n) t)

/-- TMR_START (R460): a write of START alone. -/
def execTmrStart (i : Initiator) (n : Fin 16) (s : State) : Out :=
  done (s.guardW i (TMR_CMD n.val) 1 (fun t => t.writeTmrCmd n.val 1))

/-- TMR_AT (R460): a write of AT alone. -/
def execTmrAt (i : Initiator) (n : Fin 16) (s : State) : Out :=
  done (s.guardW i (TMR_CMD n.val) 2 (fun t => t.writeTmrCmd n.val 2))

/-- TMR_STOP (R460): a write of STOP alone. -/
def execTmrStop (i : Initiator) (n : Fin 16) (s : State) : Out :=
  done (s.guardW i (TMR_CMD n.val) 4 (fun t => t.writeTmrCmd n.val 4))

/-- TMR_GSTART (R460). -/
def execTmrGstart (i : Initiator) (v : Word) (s : State) : Out :=
  done (s.guardW i TMR_GSTART v (fun t => t.writeTmrGstart v))

/-- TMR_GSTOP (R460). -/
def execTmrGstop (i : Initiator) (v : Word) (s : State) : Out :=
  done (s.guardW i TMR_GSTOP v (fun t => t.writeTmrGstop v))

/-- A beat edge reaches the timers (R460, R461, R467): armed ones become due to start, and the matrix sees source 49. -/
def State.tmrEdge (s : State) : State :=
  if s.bit SYS_CLKEN 6 then
    { s with tmr := { s.tmr with due := (List.range 16).filter (fun n => s.tmrArmed n) } }.trigger 49
  else s

/-- TMR_ARMED_START (R460): armed timer `n`, which the last beat edge reached, starts; a matrix STOP of that cycle
prevails (R469). -/
def execTmrArmedStart (n : Fin 16) (s : State) : Out :=
  done (
    if s.tmr.due.contains n.val && s.tmrArmed n.val && !s.tmrOdd n.val && s.bit SYS_CLKEN 6 && !s.actDue A_STOP n.val then
      let t := s.tmrStart n.val
      { t with tmr := { t.tmr with due := t.tmr.due.filter (fun m => !(s.tmrHalves n.val).contains m) } }
    else s)

/-- TMR_CC_WRITE (R463): the value is in force for every later step; a write never matches by itself. -/
def execTmrCcWrite (i : Initiator) (n : Fin 16) (x : Fin 2) (v : Word) (s : State) : Out :=
  done (s.guardW i (TMR_CC n.val x.val) v (fun t => t.setRg (TMR_CC n.val x.val) v))

/-! ### Capture (R465, R466) -/

/-- Edges that the prescaler of unit `x` of timer `n` has counted. -/
def State.tmrEdges (s : State) (n x : Nat) : Nat := smGet (fun _ => 0) s.tmr.edges (2 * n + x)

/-- Store that count. -/
def State.setTmrEdges (s : State) (n x k : Nat) : State :=
  { s with tmr := { s.tmr with edges := smSet (fun _ => 0) s.tmr.edges (2 * n + x) k } }

/-- A passed edge latches COUNT (R466). -/
def State.tmrCapture (s : State) (n x : Nat) : State :=
  let s1 := if s.bit (TMR_STAT n) (9 + x) then s.setBit (TMR_STAT n) (11 + x) true else s
  (s1.setRg (TMR_CC n x) (s1.rg (TMR_COUNT n))).tmrUnitEvent n x

/-- CAPTURE_EDGE (R465, R466): the filter output of a capture unit has an edge. One that EDGE names qualifies, and the
prescaler passes every EPSC-th of them. -/
def execCaptureEdge (n : Fin 16) (x : Fin 2) (rising : Bool) (s : State) : Out :=
  done (
    let a := TMR_CCCFG n.val x.val
    if s.lvBit a 0 && s.lvBit a (if rising then 6 else 7) && s.bit SYS_CLKEN 6 then
      let k := s.tmrEdges n.val x.val + 1
      if s.lvFld a 20 8 + 1 ≤ k then (s.setTmrEdges n.val x.val 0).tmrCapture n.val x.val
      else s.setTmrEdges n.val x.val k
    else s)

/-- What a commit of domain 13 does beyond the copy (R464, R465): `old` is the state before it. -/
def State.tmrCommitUnit (s old : State) (n x : Nat) : State :=
  let a := TMR_CCCFG n x
  if s.lv a = old.lv a then s
  else
    let t := s.setTmrEdges n x 0
    if t.lvFld a 1 3 = old.lvFld a 1 3 then t else t.setBit (TMR_OUT n) x (t.lvBit a 4)

def State.tmrCommit (s old : State) : State :=
  (List.range 16).foldl (fun t n => (t.tmrCommitUnit old n 0).tmrCommitUnit old n 1) s

/-! ### Actions of the matrix (R468, R469) -/

/-- ACTION_START: timer `n` starts where that is legal; a STOP due in the same cycle prevails. -/
def execActionStart (n : Fin 16) (s : State) : Out :=
  done (
    if s.actDue A_START n.val then
      let t := s.dropAct A_START n.val
      if !s.actDue A_STOP n.val && s.tmrMayStart n.val then t.tmrStart n.val else t
    else s)

/-- ACTION_STOP: timer `n` stops where that is legal, and a START due in the same cycle is discarded. -/
def execActionStop (n : Fin 16) (s : State) : Out :=
  done (
    if s.actDue A_STOP n.val then
      let t := (s.dropAct A_STOP n.val).dropAct A_START n.val
      if s.tmrMayStop n.val then t.tmrStop n.val else t
    else s)

/-- ACTION_COUNT: a tick of timer `n` with CLKSRC = 1; a RESET due in the same cycle discards it. -/
def execActionCount (n : Fin 16) (s : State) : Out :=
  done (
    if s.actDue A_COUNT n.val then
      let t := s.dropAct A_COUNT n.val
      if !s.actDue A_RESET n.val && s.lvBit (TMR_CFG n.val) 0 && !s.tmrOdd n.val then t.tmrTick n.val else t
    else s)

/-- ACTION_RESET: COUNT is reloaded and STUCK cleared; the timer does not start, and a tick due in the same cycle is
discarded. -/
def execActionReset (n : Fin 16) (s : State) : Out :=
  done (
    if s.actDue A_RESET n.val then
      let t := (s.dropAct A_RESET n.val).dropAct A_COUNT n.val
      (t.setRg (TMR_COUNT n.val) (s.tmrHome n.val)).setBit (TMR_STAT n.val) 2 false
    else s)

/-- ACTION_DMA: a pulse on DMA trigger `n` + 1. -/
def execActionDma (n : Fin 16) (s : State) : Out :=
  done (if s.actDue A_DMA n.val then (s.dropAct A_DMA n.val).dmaPulse (n.val + 1) else s)

/-! ### Converter (R470 to R474) -/

/-- ADC_STAT.STATE codes. -/
abbrev ADC_OFF : Nat := 0
abbrev ADC_SETTLE : Nat := 1
abbrev ADC_IDLE : Nat := 2
abbrev ADC_RUN : Nat := 3

/-- The ADC command port (R473): a rejection sets ADC_EVT.ERR and raises source 595. -/
def adcPort : CmdPort := { st := ADC_CMDST, rejects := ADC_REJECT, evt := some (ADC_EVT, 2), src := some 595 }

/-- ADC_STAT.STATE. -/
def State.adcState (s : State) : Nat := s.fld ADC_STAT 0 2

/-- ADC_STAT.UNREAD. -/
def State.adcUnread (s : State) : Nat := s.fld ADC_STAT 16 5

/-- A start is admitted (R473). -/
def State.adcReady (s : State) : Bool := s.adcState == ADC_IDLE && s.adcUnread == 0

/-- An admitted start: every VALID bit clears and entry 0 begins (R473). -/
def State.adcBegin (s : State) : State :=
  let s1 := (List.range 16).foldl (fun t k => t.setBit (ADC_RES k) 31 false) s
  { (s1.setFld ADC_STAT 0 2 ADC_RUN).setFld ADC_STAT 4 4 0 with adc := { made := 0, stopping := false, fresh := false } }

/-- A matrix start (R473): admitted, or refused with ADC_MISS and source 594. -/
def State.adcMatrix (s : State) : State :=
  if !s.bit SYS_CLKEN 7 then s
  else if s.adcReady then s.adcBegin
  else (s.count ADC_MISS 1).event ADC_EVT 1 594

/-- ACTION_ADC (R468, R473). -/
def execActionAdc (s : State) : Out :=
  done (if s.actDue A_ADC 0 then (s.dropAct A_ADC 0).adcMatrix else s)

/-- A write to ADC_CTL (R471): legal in OFF and IDLE, and where it changes EN alone. -/
def State.writeAdcCtl (s : State) (v : Word) : State :=
  let en := bitOf v 0
  let was := s.bit ADC_CTL 0
  let onlyEn := en != was && fieldOf v 8 4 == s.fld ADC_CTL 8 4
  s.command adcPort false (!(s.adcState == ADC_OFF || s.adcState == ADC_IDLE || onlyEn)) false (fun t =>
    let t1 := t.setRg ADC_CTL (v &&& 0xF01)
    if en = was then t1
    else if t.adcState = ADC_RUN then
      { t1 with adc := { t1.adc with stopping := true, fresh := en } }
    else t1.setFld ADC_STAT 0 2 (if en then ADC_SETTLE else ADC_OFF))

/-- A write to ADC_SEQ[k] (R471). -/
def State.writeAdcSeq (s : State) (k : Nat) (v : Word) : State :=
  s.command adcPort false (!(s.adcState == ADC_OFF || s.adcState == ADC_IDLE)) false (fun t => t.setRg (ADC_SEQ k) (v &&& 0xFF1F))

/-- A write to ADC_CMD (R472 to R474): START, STOP and FLUSH exclude one another. -/
def State.writeAdcCmd (s : State) (v : Word) : State :=
  let start := bitOf v 0
  let stop := bitOf v 1
  let flush := bitOf v 2
  if !start && !stop && !flush then s
  else
    s.command adcPort ((start && stop) || (start && flush) || (stop && flush))
      (if start then !s.adcReady else if stop then s.adcState != ADC_RUN else s.adcState != ADC_IDLE) false
      (fun t =>
        if start then t.adcBegin
        else if stop then { t with adc := { t.adc with stopping := true } }
        else t.setFld ADC_STAT 16 5 0)

/-- ADC_CTL_WRITE (R471). -/
def execAdcCtlWrite (i : Initiator) (v : Word) (s : State) : Out := done (s.guardW i ADC_CTL v (fun t => t.writeAdcCtl v))

/-- ADC_SEQ_WRITE (R471). -/
def execAdcSeqWrite (i : Initiator) (k : Fin 16) (v : Word) (s : State) : Out :=
  done (s.guardW i (ADC_SEQ k.val) v (fun t => t.writeAdcSeq k.val v))

/-- ADC_START (R473): a write of START alone. -/
def execAdcStart (i : Initiator) (s : State) : Out := done (s.guardW i ADC_CMD 1 (fun t => t.writeAdcCmd 1))

/-- ADC_STOP (R472): a write of STOP alone. -/
def execAdcStop (i : Initiator) (s : State) : Out := done (s.guardW i ADC_CMD 2 (fun t => t.writeAdcCmd 2))

/-- ADC_FLUSH (R474): a write of FLUSH alone. -/
def execAdcFlush (i : Initiator) (s : State) : Out := done (s.guardW i ADC_CMD 4 (fun t => t.writeAdcCmd 4))

/-- A read of ADC_DATA (R474): the oldest unread result, which then counts as read, or 0. -/
def State.readAdcData (s : State) : Nat × State :=
  let n := s.adcUnread
  if n = 0 then (0, s) else ((s.rg (ADC_RES (s.adc.made - n))).toNat, s.setFld ADC_STAT 16 5 (n - 1))

/-- ADC_DATA_READ (R474). -/
def execAdcDataRead (i : Initiator) (s : State) : Out :=
  done ({ s with rdata := 0 }.guardR i ADC_DATA (fun t =>
    let (v, u) := t.readAdcData
    { u with rdata := v }))

/-- ADC_SETTLE_END (R471). -/
def execAdcSettleEnd (s : State) : Out :=
  done (if s.adcState = ADC_SETTLE then s.setFld ADC_STAT 0 2 ADC_IDLE else s)

/-- The code of an input (R470): `x` is the voltage in microvolts, or the temperature sensor's own code. -/
def adcCode (ch x : Nat) : Nat :=
  if ch < 16 then min 4095 ((2 * 4096 * x + 1600000) / 3200000)
  else if ch = 16 then x % 4096
  else min 4095 ((2 * 4096 * x + 4800000) / 9600000)

/-- ADC_CONVERSION_END (R472): the entry that converts ends with input `x`. -/
def execAdcConversionEnd (x : Word) (s : State) : Out :=
  done (
    if s.adcState = ADC_RUN then
      let k := s.fld ADC_STAT 4 4
      let ch := s.fld (ADC_SEQ k) 0 5
      let s1 := s.setRg (ADC_RES k) (w32 (adcCode ch x.toNat + 65536 * ch + 0x80000000))
      let s2 := { s1.setFld ADC_STAT 16 5 (s.adcUnread + 1) with adc := { s.adc with made := k + 1 } }
      let en := s.bit ADC_CTL 0
      if s.adc.stopping then { s2.setFld ADC_STAT 0 2 (if !en then ADC_OFF else if s.adc.fresh then ADC_SETTLE else ADC_IDLE)
        with adc := { s2.adc with stopping := false, fresh := false } }
      else if k = s.fld ADC_CTL 8 4 then ((s2.setFld ADC_STAT 0 2 ADC_IDLE).event ADC_EVT 0 593).trigger 58
      else s2.setFld ADC_STAT 4 4 (k + 1)
    else s)

end Sys2Proof.Machine
end

