-- ==== Sys2Proof/Machine/Uart.lean ====
section
/-! DEFINITION. The UARTs and the smart-card interfaces (spec/20 R521 to R524). Characters and time-outs on the line are
commands (log entry 27). -/

namespace Sys2Proof.Machine

/-- UART_STAT.SCST codes. -/
abbrev SC_OFF : Nat := 0
abbrev SC_ACTIVATING : Nat := 1
abbrev SC_ACTIVE : Nat := 2

/-- The command port of UART `u` (R514). -/
def uartPort (u : Nat) : CmdPort :=
  { st := UART_CMDST u, rejects := UART_REJECT u, evt := some (UART_EVT u, 2), src := some (778 + 3 * u) }

/-- What UART `u` holds besides its registers. -/
def State.uart (s : State) (u : Nat) : UartSt := smGet (fun _ => UartSt.blank) s.uarts u

/-- Store it; UART_STAT shows the FIFO levels. -/
def State.setUart (s : State) (u : Nat) (x : UartSt) : State :=
  (({ s with uarts := smSet (fun _ => UartSt.blank) s.uarts u x }.setFld (UART_STAT u) 0 6 x.rx.length).setFld (UART_STAT u) 8 6
    x.tx.length)

/-- An event of UART `u`: bit `k` with source 776 + 3u + k. -/
def State.uartEvt (s : State) (u k : Nat) : State := s.event (UART_EVT u) k (776 + 3 * u + k)

/-- The port is clocked and enabled. -/
def State.uartOn (s : State) (u : Nat) : Bool := s.bit SYS_CLKEN (10 + u) && s.bit (UART_CFG u) 0

/-- UART_CFG.SC. -/
def State.uartSc (s : State) (u : Nat) : Nat := s.fld (UART_CFG u) 12 2

/-- UART_STAT.SCST. -/
def State.scst (s : State) (u : Nat) : Nat := s.fld (UART_STAT u) 24 2

/-- The CTS input: the level at its pin, or 1 where no pin selects it (R477, R479). -/
def State.ctsLine (s : State) (u : Nat) : Bool :=
  if s.pinFunc 0 (4 * u + 3) = 1 then s.padLevel 0 (4 * u + 3) else true

/-- UART_STAT as read: CTS is active while its line is low (log entry 27). -/
def State.uartShow (s : State) (u : Nat) : Word := withBit (s.rg (UART_STAT u)) 17 (!s.ctsLine u)

/-- The condition of source 776 + 3u and its DMA trigger (R521). -/
def State.uartRxReq (s : State) (u : Nat) : Bool :=
  let x := s.uart u
  decide (s.fld (UART_FIFO u) 0 5 ≤ x.rx.length) || (x.idle && !x.rx.isEmpty)

/-- The condition of source 777 + 3u and its DMA trigger (R521). -/
def State.uartTxReq (s : State) (u : Nat) : Bool := decide ((s.uart u).tx.length ≤ s.fld (UART_FIFO u) 8 5)

/-- UART_STAT.TXIDLE. -/
def State.txIdle (s : State) (u : Nat) (b : Bool) : State := s.setBit (UART_STAT u) 16 b

/-- SCRES takes an error, with source 778 + 3u (R523, R524). -/
def State.scFail (s : State) (u res : Nat) : State := (s.setFld (UART_STAT u) 28 3 res).uartEvt u 2

/-- ACT (R523). -/
def State.scAct (s : State) (u : Nat) : State :=
  let t := (s.setFld (UART_STAT u) 24 2 SC_ACTIVATING).setFld (UART_STAT u) 28 3 0
  t.setUart u { t.uart u with scRst := false, tries := 0, halted := false }

/-- DEACT (R523, R534): a character in exchange is abandoned. -/
def State.scDeact (s : State) (u : Nat) : State :=
  let t := s.setFld (UART_STAT u) 24 2 SC_OFF
  t.setUart u { t.uart u with scRst := false, tries := 0 }

/-- A write to UART_CMD (R514, R523). -/
def State.writeUartCmd (s : State) (u : Nat) (v : Word) : State :=
  let l := bitsSet v 5
  match l with
  | [] => s
  | op :: _ =>
    let bad :=
      if op = 3 then s.uartSc u == 0 || s.scst u != SC_OFF
      else if op = 4 then s.uartSc u == 0 || s.scst u == SC_OFF
      else false
    s.command (uartPort u) (decide (1 < l.length)) bad false (fun t =>
      match op with
      | 0 => t.setUart u { t.uart u with sent := some none }
      | 1 => t.setUart u { t.uart u with rx := [], idle := false }
      | 2 => (t.setUart u { t.uart u with tx := [], tries := 0, halted := false }).txIdle u true
      | 3 => t.scAct u
      | _ => t.scDeact u)

/-- UART_BREAK. -/
def execUartBreak (i : Initiator) (u : Fin 6) (s : State) : Out :=
  done (s.guardW i (UART_CMD u.val) 1 (fun t => t.writeUartCmd u.val 1))

/-- UART_FLUSHRX. -/
def execUartFlushrx (i : Initiator) (u : Fin 6) (s : State) : Out :=
  done (s.guardW i (UART_CMD u.val) 2 (fun t => t.writeUartCmd u.val 2))

/-- UART_FLUSHTX. -/
def execUartFlushtx (i : Initiator) (u : Fin 6) (s : State) : Out :=
  done (s.guardW i (UART_CMD u.val) 4 (fun t => t.writeUartCmd u.val 4))

/-- SC_ACT. -/
def execScAct (i : Initiator) (u : Fin 6) (s : State) : Out :=
  done (s.guardW i (UART_CMD u.val) 8 (fun t => t.writeUartCmd u.val 8))

/-- SC_DEACT. -/
def execScDeact (i : Initiator) (u : Fin 6) (s : State) : Out :=
  done (s.guardW i (UART_CMD u.val) 16 (fun t => t.writeUartCmd u.val 16))

/-- SC_RESET_RELEASE (R523): RSTLOW clocks after ACT, SCRST goes high. -/
def execScResetRelease (u : Fin 6) (s : State) : Out :=
  done (if s.scst u.val = SC_ACTIVATING then s.setUart u.val { s.uart u.val with scRst := true } else s)

/-- SC_ATR_TIMEOUT (R523): no start bit within 40,000 clocks of the release; ACT ends with NOATR, and the card counts as
activated until DEACT (log entry 27). -/
def execScAtrTimeout (u : Fin 6) (s : State) : Out :=
  done (
    if s.scst u.val = SC_ACTIVATING ∧ (s.uart u.val).scRst then (s.setFld (UART_STAT u.val) 24 2 SC_ACTIVE).scFail u.val 1 else s)

/-- SC_WAIT_TIMEOUT (R524): WT ETUs without a start bit while the transmit FIFO is empty. -/
def execScWaitTimeout (u : Fin 6) (s : State) : Out :=
  done (
    if s.uartSc u.val ≠ 0 ∧ s.scst u.val = SC_ACTIVE ∧ (s.uart u.val).tx.isEmpty then s.scFail u.val 3 else s)

/-- A write to UART_TXD (R521). -/
def State.writeUartTxd (s : State) (u : Nat) (v : Word) : State :=
  s.command (uartPort u) false (decide (32 ≤ (s.uart u).tx.length)) false
    (fun t => (t.setUart u { t.uart u with tx := (t.uart u).tx ++ [fieldOf v 0 9] }).txIdle u false)

/-- UART_TXD_WRITE. -/
def execUartTxdWrite (i : Initiator) (u : Fin 6) (v : Word) (s : State) : Out :=
  done (s.guardW i (UART_TXD u.val) v (fun t => t.writeUartTxd u.val v))

/-- A read of UART_DATA (R521): the oldest character with VALID, or 0. -/
def State.readUartData (s : State) (u : Nat) : Nat × State :=
  let x := s.uart u
  match x.rx with
  | [] => (0, s)
  | c :: l => (c + 0x80000000, s.setUart u { x with rx := l, idle := x.idle && !l.isEmpty })

/-- UART_DATA_READ. -/
def execUartDataRead (i : Initiator) (u : Fin 6) (s : State) : Out :=
  done ({ s with rdata := 0 }.guardR i (UART_DATA u.val) (fun t =>
    let (v, w) := t.readUartData u.val
    { w with rdata := v }))

/-- The mask of a character's bits: 7, 8 or 9 (R515); a card's has 8 (R523). -/
def State.uartMask (s : State) (u : Nat) : Nat :=
  if s.uartSc u ≠ 0 then 256 else 2 ^ (7 + min 2 (s.fld (UART_CFG u) 1 2))

/-- A received character enters the FIFO, or is refused (R521). -/
def State.uartStore (s : State) (u c : Nat) : State :=
  let x := s.uart u
  if 32 ≤ x.rx.length then (s.count (UART_OVRCNT u) 1).uartEvt u 2
  else
    let t := s.setUart u { x with rx := x.rx ++ [c], idle := false }
    if x.rx.length + 1 = s.fld (UART_FIFO u) 0 5 then t.uartEvt u 0 else t

/-- UART_CHAR_RX (R521 to R524): a character with its framing, parity and break flags. With RS485 = 1 and ECHO = 0 the line is
not heard while DE is active; in T=0 a character with a parity error is signalled and not stored; the first character after
the release of a card's reset ends its activation. -/
def execUartCharRx (u : Fin 6) (c : Fin 512) (fe pe brk : Bool) (s : State) : Out :=
  done (
    let n := u.val
    let deaf := s.bit (UART_CFG n) 7 && !s.bit (UART_CFG n) 8 && !s.bit (UART_STAT n) 16
    let off := s.uartSc n != 0 && s.scst n == SC_OFF
    if !s.uartOn n || deaf || off then s
    else
      let t := if s.uartSc n ≠ 0 ∧ s.scst n = SC_ACTIVATING ∧ (s.uart n).scRst then s.setFld (UART_STAT n) 24 2 SC_ACTIVE else s
      if t.uartSc n = 1 ∧ pe then t
      else
        t.uartStore n (c.val % t.uartMask n + (if fe then 512 else 0) + (if pe then 1024 else 0) + (if brk then 2048 else 0)))

/-- UART_CHAR_TX (R521, R522, R524): the oldest character of the transmit FIFO is sent; in T=0 the card may signal it back. No
character begins while CTSEN = 1 and CTS is inactive, after TXFAIL, or to a card that is not active. -/
def execUartCharTx (u : Fin 6) (signalled : Bool) (s : State) : Out :=
  done (
    let n := u.val
    let x := s.uart n
    match x.tx with
    | [] => s
    | c :: l =>
      if !s.uartOn n || (s.bit (UART_CFG n) 9 && s.ctsLine n) || x.halted || (s.uartSc n != 0 && s.scst n != SC_ACTIVE) then s
      else
        let gone := (s.setUart n { x with tx := l, tries := 0, sent := some (some (c % s.uartMask n)) }).txIdle n l.isEmpty
        let fell := if l.length = s.fld (UART_FIFO n) 8 5 then gone.uartEvt n 1 else gone
        if signalled && s.uartSc n == 1 then
          if x.tries < s.fld (SC_RETRY n) 0 3 then s.setUart n { x with tries := x.tries + 1, sent := some (some (c % 256)) }
          else (fell.setUart n { fell.uart n with halted := true }).scFail n 2
        else fell)

/-- UART_RX_TIMEOUT (R521): RXTO idle bit times pass with characters in the receive FIFO. -/
def execUartRxTimeout (u : Fin 6) (s : State) : Out :=
  done (
    let x := s.uart u.val
    if s.uartOn u.val && s.fld (UART_FIFO u.val) 16 16 != 0 && !x.rx.isEmpty then
      (s.setUart u.val { x with idle := true }).uartEvt u.val 0
    else s)

/-- A write to a register marked cfg (R514): refused while EN is 1, unless it changes only EN. -/
def State.writeCfg (s : State) (p : CmdPort) (cfg a : Nat) (v : Word) : State :=
  match regAt a with
  | none => s
  | some (row, _, _) =>
    let only := decide (a = cfg) && ((v &&& w32 row.rw) ^^^ s.rg a) &&& 0xFFFFFFFE == 0
    s.command p false (s.bit cfg 0 && !only) false (fun t => t.storeReg a row v)

end Sys2Proof.Machine
end

