-- ==== Sys2Proof/Machine/XpaLoad.lean ====
section
/-! DEFINITION. The commands of the expert array (spec/16 R433, R444, R453) and the checks of blobs and tables (R454 to R456). -/

namespace Sys2Proof.Machine

/-- The array's command port. -/
def xpaPort : CmdPort := { st := XPA_CMDST, rejects := XPA_REJECT, evt := some (XPA_EVT, 0), src := some 480 }

/-- An XPA event: bit `k` with source 480 + `k`. -/
def State.xpaEvt (s : State) (k : Nat) : State := s.event XPA_EVT k (480 + k)

/-- Replace what the array holds. -/
def State.setXpa (s : State) (x : XpaSt) : State := { s with xpa := x }

/-- Engine `n` is retired or in REQUAL. -/
def State.engineOut (s : State) (n : Nat) : Bool := s.chanState (0x800 + n) == 2 || s.chanState (0x800 + n) == 3

/-! ### Checks of a blob (R454, R456) -/

/-- A cause and its index. -/
abbrev Bad : Type := Option (Nat × Nat)

/-- The first finding of a list. -/
def firstBad (l : List Bad) : Bad := (l.find? (fun b => b.isSome)).join

/-- The first index of a list for which a check fails. -/
def badAt (cause : Nat) (l : List Nat) (ok : Nat → Bool) : Bad := (l.find? (fun k => !ok k)).map (fun k => (cause, k))

/-- A little-endian word of a byte list. -/
def wordAt (l : List Byte) (o : Nat) : Word := w32 (ofLe ((l.drop o).take 4))

/-- Bits outside `mask` are 0. -/
def only (w mask : Word) : Bool := (w &&& ~~~mask) == 0

/-- The words of a record. -/
def wordsAt (l : List Byte) (o n : Nat) : List Word := (List.range n).map (fun k => wordAt l (o + 4 * k))

/-- A blob's layer and section records. -/
structure Blob where
  bytes : List Byte
  layers : List (List Word)
  sections : List (List Word)

/-- Read the records of a blob. -/
def blobOf (l : List Byte) : Blob :=
  let nl := fieldOf (wordAt l 4) 8 8
  let ns := fieldOf (wordAt l 4) 16 8
  { bytes := l, layers := (List.range nl).map (fun k => wordsAt l (0x20 + 64 * k) 16)
    sections := (List.range ns).map (fun k => wordsAt l (0x20 + 64 * nl + 16 * k) 4) }

/-- Cause 3 in the header. -/
def headBad (l : List Byte) (own : Nat) : Bad :=
  let w := wordAt l 4
  let nl := fieldOf w 8 8
  let len := (wordAt l 8).toNat
  let ok := fieldOf w 0 8 == 1 && decide (1 ≤ nl ∧ nl ≤ 16) && only w 0x3FFFFFFF && fieldOf w 24 6 == own && len % 16 == 0 &&
    decide (0x20 + 64 * nl + 16 * fieldOf w 16 8 ≤ len) && (wordsAt l 0x10 4).all (fun v => v == 0)
  if ok then none else some (3, 0)

/-- A layer record in its format (cause 3): ranges, reserved encodings and zero bits. -/
def layerFormat (k : Nat) (l : List Word) : Bool :=
  let unused := l.all (fun w => w == 0)
  let m := fun (j : Nat) (mask : Word) => only (l.getD j 0) mask
  let fine := lKind l != 0 && lTopk l != 3 && recField l 0 6 2 != 3 && m 0 0x1FFFFF && m 1 0x07FF07FF && m 2 0xFFFF01FF &&
    m 3 0x0FFF01FF && (List.range 8).all (fun j => m (8 + j) 0x7F3F7F3F) &&
    decide (1 ≤ lDin l ∧ lDin l ≤ 1024 ∧ 1 ≤ lDout l ∧ lDout l ≤ 1024 ∧ 1 ≤ lNtok l ∧ lNtok l ≤ 256) &&
    decide (1 ≤ lQdepth l ∧ lQdepth l ≤ 256) && (decide (lKind l = K_EMBED) || (lPw l == 0 && lPh l == 0)) &&
    (lIn l == 0 || (k == 0 && lKind l == K_MOE)) && (lKind l != K_EMBED || (lPw l != 0 && lPh l != 0)) &&
    (lKind l != K_MOE || decide (lFallback l < lNexp l))
  unused || fine

/-- A section record in its format (cause 3). -/
def sectionFormat (nl : Nat) (l : List Word) : Bool :=
  (sKind l == 1 || sKind l == 2) && only (l.getD 0 0) 0xFFF3 && decide (sLayer l < nl)

/-- The header of an expert block in its format (cause 3, R454): bits not named are 0, and so are M2 and S2 where H is 0. -/
def blockFormat (b : Blob) (l : List Word) : Bool :=
  let w := fun (k : Nat) => wordAt b.bytes (sSrc l + 4 * k)
  sKind l != 1 || (only (w 0) 0x7FF && only (w 1) 0x1FFFFF && only (w 2) (if fieldOf (w 0) 0 11 = 0 then 0 else 0x1FFFFF) && w 3 == 0)

/-- Cause 4 of one layer. -/
def layerOk (x : XpaSt) (own k : Nat) : Bool :=
  let l := x.layer k
  let local0 := fun (e : Nat) => lDev l e == own
  let belowOk := match x.below k with
    | some j => lDin l == lDout (x.layer j)
    | none => true
  match lKind l with
  | 1 => k == 0 && lNexp l == 1 && lTopk l == 0 && !lResid l && local0 0
  | 2 => lTopk l != 0 && decide (lTopk l ≤ lNexp l) && belowOk && (!lResid l || lDin l == lDout l) && local0 (lFallback l)
  | 3 => (List.range (lNexp l)).any local0 && (!lResid l || lDin l == lDout l)
  | _ => true

/-- More than one layer has a remote expert (cause 4): the second of them. -/
def secondRemote (x : XpaSt) (own : Nat) : Bad :=
  match (List.range x.layers.length).filter (fun k => hasRemote (x.layer k) own) with
  | _ :: k :: _ => some (4, k)
  | _ => none

/-- Bytes of an expert block (R454). -/
def expertLen (l : List Word) (h : Nat) : Nat :=
  let r1 := if h = 0 then lDout l else h
  16 + dp (r1 * lDin l) + 4 * r1 + (if h = 0 then 0 else dp (lDout l * h) + 4 * lDout l)

/-- Two sections overlap in one memory. -/
def overlap (a b : List Word) : Bool :=
  (sKind a == sKind b) && (sKind a == 2 || sEngine a == sEngine b) && decide (sDst a < sDst b + sLen b ∧ sDst b < sDst a + sLen a)

/-- Section `n` is placed rightly (cause 5). -/
def State.sectionOk (s : State) (b : Blob) (x : XpaSt) (n : Nat) : Bool :=
  let c := x.sections.getD n []
  let l := x.layer (sLayer c)
  let limit := if sKind c = 1 then 0x20000 else 0x10000
  let h := fieldOf (wordAt b.bytes (sSrc c)) 0 11
  let lenOk := if sKind c = 1 then decide (h ≤ 1024) && sLen c == expertLen l h else sLen c == lNexp l * lDin l
  decide (sDst c + sLen c ≤ limit) && sDst c % 16 == 0 && sSrc c % 16 == 0 && decide (sSrc c + sLen c ≤ b.bytes.length) && lenOk &&
    (List.range n).all (fun m => !overlap (x.sections.getD m []) c) && !(sKind c == 1 && s.engineOut (sEngine c))

/-- Layer `k` has the sections it needs (cause 5). -/
def layerPlaced (x : XpaSt) (own k : Nat) : Bool :=
  let l := x.layer k
  lKind l == 0 ||
  ((List.range (lNexp l)).all (fun e =>
    lDev l e != own || (x.sections.filter (fun c => sKind c == 1 && sLayer c == k && sExpert c == e)).length == 1) &&
   (lKind l != K_MOE || x.sections.any (fun c => sKind c == 2 && sLayer c == k && sDst c == lGate l)))

/-- A buffer lies aligned in SRAM. -/
def bufferOk (a n : Nat) : Bool := decide (a % 16 = 0 ∧ 0x10000000 ≤ a ∧ a + n ≤ 0x10800000)

/-- The buffers of layer `k` (cause 6). -/
def layerBuffers (x : XpaSt) (k : Nat) : Bool :=
  let l := x.layer k
  let q := bufferOk (lQ l) (lNexp l * lQdepth l * dp (lDin l))
  match lKind l with
  | 0 => true
  | 3 => q
  | _ => q && bufferOk (lOut l) (2 * lNtok l * dp (lDout l)) && bufferOk (lRes l) ((2 + max 1 (lTopk l)) * lNtok l * dp (lDout l)) &&
    (!(k == 0 && lKind l == K_MOE) || bufferOk (lIn l) (2 * lNtok l * dp (lDin l)))

/-- The findings in a blob, in the order of R456. -/
def State.blobBad (s : State) (b : Blob) : Bad :=
  let own := s.ownId
  let x := { s.xpa with layers := b.layers, sections := b.sections }
  let ls := List.range b.layers.length
  let ss := List.range b.sections.length
  firstBad [
    headBad b.bytes own,
    badAt 3 ls (fun k => layerFormat k (x.layer k)),
    badAt 3 ss (fun n => sectionFormat b.layers.length (x.sections.getD n []) && blockFormat b (x.sections.getD n [])),
    badAt 4 ls (fun k => layerOk x own k),
    secondRemote x own,
    badAt 5 ss (fun n => s.sectionOk b x n),
    badAt 5 ls (fun k => layerPlaced x own k),
    badAt 6 ls (fun k => layerBuffers x k)]

/-- Read a blob: its bytes, or cause 1, 2 or 12. -/
def State.readBlob (s : State) (a : Nat) : (List Byte × Bad) × State :=
  match s.readRun .expert a 32 with
  | (_, some _, t) => (([], some (12, 0)), t)
  | (h, none, t) =>
    if wordAt h 0 ≠ 0x4C584D42 then (([], some (1, 0)), t)
    else
      let len := (wordAt h 8).toNat
      if len < 32 ∨ len % 16 ≠ 0 then (([], some (3, 0)), t)
      else
        match t.readRun .expert a len with
        | (_, some _, u) => (([], some (12, 0)), u)
        | (l, none, u) =>
          if crc32 ((l.drop 0x10).map (fun b => b.toNat)) ≠ (wordAt h 12).toNat then (([], some (2, 0)), u) else ((l, none), u)

/-! ### Checks of a table (R455, R456) -/

/-- Cause 3 of one step. -/
def stepFormat (x : XpaSt) (t : Word × Word) : Bool :=
  only t.1 0x13FFFFFF && only t.2 0x01FF0FFF && tOp t != 0 && decide (tLayer t < x.layers.length) && lKind (x.layer (tLayer t)) != 0 &&
  (if tOp t = T_SLOT then decide (1 ≤ tCap t ∧ tCap t ≤ 256) else tCap t == 0 && tExpert t == 0 && tEngine t == 0)

/-- Steps of one operation on a layer. -/
def stepsOf (l : List (Word × Word)) (op k : Nat) : List (Word × Word) := l.filter (fun t => tOp t == op && tLayer t == k)

/-- Step `n` keeps the order (cause 7). -/
def stepOrder (x : XpaSt) (own : Nat) (l : List (Word × Word)) (n : Nat) : Bool :=
  let t := l.getD n (0, 0)
  let k := tLayer t
  let ph := x.phaseOf own t
  (n == 0 || decide (tStart (l.getD (n - 1) (0, 0)) ≤ tStart t)) &&
  (match tOp t with
    | 1 => (stepsOf l T_SLOT k).all (fun u => decide (x.stepEnd t ≤ tStart u))
    | 2 => (stepsOf l T_GATHER k).all (fun u => x.phaseOf own u != ph || decide (x.stepEnd t ≤ tStart u))
    | _ =>
      match ((List.range x.layers.length).drop (k + 1)).find? (fun j => runs (x.layer j)) with
      | some j => (stepsOf l T_ROUTE j).all (fun u => x.phaseOf own u != ph || decide (x.stepEnd t ≤ tStart u))
      | none => true)

/-- Layer `k` has its steps (cause 7). -/
def layerSteps (x : XpaSt) (own : Nat) (l : List (Word × Word)) (k : Nat) : Bool :=
  let y := x.layer k
  let slotOk := fun (e : Nat) =>
    lDev y e != own ||
    (match x.section_ k e with
      | some c =>
        let m := (stepsOf l T_SLOT k).filter (fun t => tExpert t == e)
        m.length == 1 && m.all (fun t => tEngine t == sEngine c)
      | none => true)
  lKind y == 0 ||
  ((!runs y || ((stepsOf l T_ROUTE k).length == 1 && (stepsOf l T_GATHER k).length == 1)) && (List.range (lNexp y)).all slotOk)

/-- Two steps run on one unit. -/
def sameUnit (a b : Word × Word) : Bool :=
  if tOp a = T_SLOT then tOp b == T_SLOT && tEngine a == tEngine b else tOp b != T_SLOT

/-- Step `n` overlaps no earlier one on its unit (cause 8). -/
def stepApart (x : XpaSt) (l : List (Word × Word)) (n : Nat) : Bool :=
  let t := l.getD n (0, 0)
  (l.take n).all (fun u => !sameUnit t u || decide (x.stepEnd u ≤ tStart t))

/-- Remap entry `n` is right (cause 11). -/
def remapOk (x : XpaSt) (l : List (Word × Word)) (r : List Nat) (n : Nat) : Bool :=
  let v := r.getD n 0
  let t := v % 16
  v < 128 ||
  (t != n && decide (r.getD t 0 < 128) && !x.sections.any (fun c => sKind c == 1 && sEngine c == t) &&
    !l.any (fun u => tOp u == T_SLOT && tEngine u == t))

/-- The findings in a table, in the order of R456. -/
def State.tableBad (s : State) (k : XpaBank) : Bad :=
  let x := s.xpa
  let own := s.ownId
  let ns := List.range k.steps.length
  let st := fun (n : Nat) => k.steps.getD n (0, 0)
  firstBad [
    badAt 3 ns (fun n => stepFormat x (st n)),
    badAt 3 (List.range 16) (fun n => k.remap.getD n 0 / 16 % 8 == 0),
    badAt 7 ns (fun n => stepOrder x own k.steps n),
    badAt 7 (List.range x.layers.length) (fun n => layerSteps x own k.steps n),
    badAt 8 ns (fun n => stepApart x k.steps n),
    badAt 9 ns (fun n => tPhase (st n) == x.phaseOf own (st n)),
    badAt 10 ns (fun n => tOp (st n) != T_SLOT || decide (tCap (st n) ≤ lQdepth (x.layer (tLayer (st n))))),
    badAt 11 (List.range 16) (fun n => remapOk x k.steps k.remap n)]

/-- Read a table: the bank, or cause 1, 2, 3 or 12. -/
def State.readTable (s : State) (a : Nat) : (XpaBank × Bad) × State :=
  let none_ : XpaBank := { steps := [], remap := [] }
  match s.readRun .expert a 32 with
  | (_, some _, t) => ((none_, some (12, 0)), t)
  | (h, none, t) =>
    let n := fieldOf (wordAt h 4) 0 9
    if wordAt h 0 ≠ 0x4C585343 then ((none_, some (1, 0)), t)
    else if n = 0 ∨ 256 < n ∨ !only (wordAt h 4) 0x1FF ∨ wordAt h 12 ≠ 0 then ((none_, some (3, 0)), t)
    else
      match t.readRun .expert a (32 + 8 * n) with
      | (_, some _, u) => ((none_, some (12, 0)), u)
      | (l, none, u) =>
        let bank : XpaBank :=
          { steps := (List.range n).map (fun k => (wordAt l (0x20 + 8 * k), wordAt l (0x24 + 8 * k)))
            remap := ((l.drop 0x10).take 16).map (fun b => b.toNat) }
        if crc32 ((l.drop 0x10).map (fun b => b.toNat)) ≠ (wordAt h 8).toNat then ((none_, some (2, 0)), u) else ((bank, none), u)

/-! ### Commands (R433) -/

/-- Enter OFF: the model and both banks are discarded, and with them the remaps (R452). Steps and spare copies that still run
end here (log entry 22). -/
def State.xpaDiscard (s : State) : State :=
  let t := (((s.setFld XPA_STAT 0 2 X_OFF).setFld XPA_STAT 4 2 0).setBit XPA_STAT 9 false).setFld XPA_ENGSTAT 16 16 0
  t.setXpa { t.xpa with
    layers := [], sections := [], hidden := [], banks := [], spares := [], copied := [], copying := [], frame := none
    routing := none, began := [], ended := [], running := [], queue := [], choices := [], back := [] }

/-- A command begins: BUSY. -/
def State.xpaBegin (s : State) (op arg : Nat) : State := (s.setBit XPA_STAT 8 true).setXpa { s.xpa with cmd := some (op, arg) }

/-- An address is a multiple of 16 that lies in SRAM, or where `xip` holds in the XIP window. -/
def blobPlace (a : Nat) (xip : Bool) : Bool :=
  a % 16 == 0 && (decide (0x10000000 ≤ a ∧ a ≤ 0x107FFFFF) || (xip && decide (0x30000000 ≤ a ∧ a ≤ 0x3FFFFFFF)))

/-- Domain 11 is armed in an OPEN group. -/
def State.domain11Armed (s : State) : Bool := (List.range 8).any (fun k => s.cgOpen k && s.bit (CG_ARMED k) 11)

/-- A write to XPA_CMD (R433). -/
def State.writeXpaCmd (s : State) (v : Word) : State :=
  let arg := fieldOf v 0 4
  let b := arg % 2
  let st := s.xpaState
  let busy := s.bit XPA_STAT 8
  match fieldOf v 28 4 with
  | 1 => s.command xpaPort false (busy || st == X_RUN) (!blobPlace (s.rg XPA_BLOB).toNat true) (fun t => t.xpaDiscard.xpaBegin 1 0)
  | 2 =>
    let live := (st == X_RUN && s.liveBank == b) || (s.domain11Armed && s.fld XPA_SCHSEL 0 1 == b)
    s.command xpaPort false (busy || st == X_OFF || live) (!blobPlace (s.rg XPA_SCHADDR).toNat false)
      (fun t => (t.setBit XPA_STAT (4 + b) false).xpaBegin 2 b)
  | 3 => s.command xpaPort false (busy || s.chanState (0x800 + arg) != 3) false (fun t => (t.setRg XPA_TESTST (w32 (arg * 16))).xpaBegin 3 arg)
  | 4 => s.command xpaPort false (busy || st == X_RUN) false (fun t => t.xpaDiscard.xpaBegin 4 0)
  | _ => s

/-- The XPA_CMD word of a command. -/
def xpaWord (op arg : Nat) : Word := w32 (op * 0x10000000 + arg)

/-- XPA_LOAD. -/
def execXpaLoad (i : Initiator) (s : State) : Out := done (s.guardW i XPA_CMD (xpaWord 1 0) (fun t => t.writeXpaCmd (xpaWord 1 0)))
/-- XPA_LOADSCHED. -/
def execXpaLoadsched (i : Initiator) (b : Fin 2) (s : State) : Out :=
  done (s.guardW i XPA_CMD (xpaWord 2 b.val) (fun t => t.writeXpaCmd (xpaWord 2 b.val)))
/-- XPA_TEST. -/
def execXpaTest (i : Initiator) (n : Fin 16) (s : State) : Out :=
  done (s.guardW i XPA_CMD (xpaWord 3 n.val) (fun t => t.writeXpaCmd (xpaWord 3 n.val)))
/-- XPA_UNLOAD. -/
def execXpaUnload (i : Initiator) (s : State) : Out := done (s.guardW i XPA_CMD (xpaWord 4 0) (fun t => t.writeXpaCmd (xpaWord 4 0)))

/-- Where an engine's memory begins. -/
abbrev engineBase (n : Nat) : Nat := 0x20000000 + n * 0x20000

/-- Write bytes into an engine's memory from `a`, a 64-bit word at a time; a shorter last one follows R187 (R195). -/
def State.placeBytes (s : State) (engine a : Nat) (l : List Byte) : State :=
  (List.range ((l.length + 7) / 8)).foldl (fun t k =>
    let w := (l.drop (8 * k)).take 8
    (t.eccWrite (.expert engine) (a + 8 * k) (a + 8 * k) w.length (ofLe w)).2) s

/-- Write a section into engine `n`'s memory, or the router's. -/
def State.placeSection (s : State) (b : List Byte) (c : List Word) (engine : Nat) : State :=
  let l := (b.drop (sSrc c)).take (sLen c)
  if sKind c = 1 then s.placeBytes engine (engineBase engine + sDst c) l
  else
    let m := (l.mapIdx (fun k v => (sDst c + k, v))).foldl (fun m e => smSet (fun _ => 0) m e.1 e.2) s.xpa.rmem
    s.setXpa { s.xpa with rmem := m }

/-- A model is loaded (R433, R453). -/
def State.xpaInstall (s : State) (b : Blob) : State :=
  let t := b.sections.foldl (fun t c => t.placeSection b.bytes c (sEngine c)) s
  let h := (b.sections.filter (fun c => sKind c == 1)).map (fun c => (sLayer c, sExpert c, fieldOf (wordAt b.bytes (sSrc c)) 0 11))
  (t.setXpa { t.xpa with layers := b.layers, sections := b.sections, hidden := h, blob := (t.rg XPA_BLOB).toNat, bare := [] }).setFld
    XPA_STAT 0 2 (if t.lvBit XPA_CTRL 0 then X_RUN else X_READY)

/-- A command ends (R433, R456): ST, CAUSE and INDEX, BUSY, source 481. -/
def State.xpaEnd (s : State) (bad : Bad) : State :=
  let w := match bad with
    | none => 0
    | some (c, k) => w32 (4 + c * 256 + k * 65536)
  let t := (s.setRg XPA_CMDST w).setBit XPA_STAT 8 false
  (t.setXpa { t.xpa with cmd := none }).xpaEvt 1

/-- The end of LOAD: nothing of a faulty blob takes effect. -/
def State.loadEnd (s : State) : State :=
  match s.readBlob (s.rg XPA_BLOB).toNat with
  | ((_, some e), t) => t.xpaEnd (some e)
  | ((l, none), t) =>
    let b := blobOf l
    match t.blobBad b with
    | some e => t.xpaEnd (some e)
    | none => (t.xpaInstall b).xpaEnd none

/-- The end of LOADSCHED. -/
def State.loadschedEnd (s : State) (b : Nat) : State :=
  match s.readTable (s.rg XPA_SCHADDR).toNat with
  | ((_, some e), t) => t.xpaEnd (some e)
  | ((k, none), t) =>
    match t.tableBad k with
    | some e => t.xpaEnd (some e)
    | none => ((t.setXpa { t.xpa with banks := smPut t.xpa.banks b k }).setBit XPA_STAT (4 + b) true).xpaEnd none

/-- After a TEST the engine's memory is undefined (R453); every word of it has been written, so none holds an error. -/
def State.engineTested (s : State) (n : Nat) : State :=
  let t := s.scramble (engineBase n) 0x20000
  { t with ms := { t.ms with ecc := t.ms.ecc.filter (fun e => !decide (engineBase n ≤ e.1 ∧ e.1 < engineBase (n + 1))) } }

/-- XPA_CMD_DONE (R433, R453): the command that runs ends; `pass` is the result of a TEST. -/
def execXpaCmdDone (pass : Bool) (s : State) : Out :=
  done (
    match s.xpa.cmd with
    | none => s
    | some (1, _) => s.loadEnd
    | some (2, b) => s.loadschedEnd b
    | some (3, n) =>
      ((s.engineTested n).setRg XPA_TESTST (w32 (n * 16 + (if pass then 1 else 2)))).xpaEnd none
    | some _ => s.xpaEnd none)

end Sys2Proof.Machine
end

