-- ==== Sys2Proof/Machine/Xpa.lean ====
section
/-! DEFINITION. The expert array at work (spec/16): the expert function, frames, routing and scatter, slots, gathers, remote
experts, spares and the beat edge. -/

namespace Sys2Proof.Machine

/-! ### The expert function (R431) -/

/-- A number wrapped to 32 bits, two's complement. -/
def wrap32 (x : Int) : Int := signed 32 (x % 0x100000000).toNat

/-- rq(a, m, s) of R431. -/
def rq (a : Int) (m sh : Nat) : Int := clampI (-128) 127 ((a * m + (if 0 < sh then (2 ^ (sh - 1) : Nat) else 0 : Nat)) / (2 ^ sh : Nat))

/-- `n` int8 elements from a physical address. -/
def State.int8s (s : State) (a n : Nat) : List Int := (List.range n).map (fun k => signed 8 (s.byteAt (a + k)).toNat)

/-- A dot product. -/
def dot (a b : List Int) : Int := (List.zipWith (· * ·) a b).foldl (· + ·) 0

/-- One layer of an expert: `rows` rows of weights at `w`, biases at `b`, applied to `x`. -/
def State.dense (s : State) (w b rows m sh : Nat) (x : List Int) : List Int :=
  let n := x.length
  (List.range rows).map (fun r => rq (wrap32 (signed 32 (s.peek (b + 4 * r) 4) + dot (s.int8s (w + r * n) n) x)) m sh)

/-- The expert at `base` of an engine's memory, applied to a token (R431, R454). -/
def State.runExpert (s : State) (base : Nat) (l : List Word) (x : List Int) : List Int :=
  let h := s.peek base 4 % 2048
  let m1 := s.peek (base + 4) 2
  let s1 := s.peek (base + 6) 1 % 32
  let m2 := s.peek (base + 8) 2
  let s2 := s.peek (base + 10) 1 % 32
  let r1 := if h = 0 then lDout l else h
  let b1 := base + 16 + dp (r1 * lDin l)
  let y := s.dense (base + 16) b1 r1 m1 s1 x
  if h = 0 then y
  else
    let g := y.map (fun v => max 0 v)
    let w2 := b1 + 4 * r1
    s.dense w2 (w2 + dp (lDout l * h)) (lDout l) m2 s2 g

/-! ### Drops and availability (R439, R440) -/

/-- A choice is dropped (R439): XPA_TOKDROP, and source 484 once in a beat. -/
def State.dropChoice (s : State) : State :=
  let t := s.count XPA_TOKDROP 1
  if t.xpa.dropTold then t else (t.setXpa { t.xpa with dropTold := true }).xpaEvt 4

/-- The spare that serves engine `n`, or the engine itself. -/
def State.engineFor (s : State) (n : Nat) : Nat :=
  match s.xpa.spares.find? (fun e => e.1 == n) with
  | some e => e.2
  | none => n

/-- Engine `n`'s slots run: on itself or on a spare, which holds weights (R440, R453). -/
def State.engineUp (s : State) (n : Nat) : Bool :=
  let m := s.engineFor n
  !s.engineOut m && !s.xpa.bare.contains m

/-- The device takes part as an Observer or keeps another out (R440). -/
def State.remoteUp (s : State) (d : Nat) : Bool := s.admitted d && !s.mapBit LNK_OBS_LO d && !s.observer

/-- The live bank's steps. -/
def State.liveSteps (s : State) : List (Word × Word) :=
  match s.xpa.bank s.liveBank with
  | some b => b.steps
  | none => []

/-- The slot step of an expert in the live bank, with its number. -/
def State.slotOf (s : State) (k e : Nat) : Option (Nat × Word × Word) :=
  ((s.liveSteps.mapIdx (fun n t => (n, t))).find? (fun p => tOp p.2 == T_SLOT && tLayer p.2 == k && tExpert p.2 == e)).map
    (fun p => (p.1, p.2.1, p.2.2))

/-- An expert is available (R440). -/
def State.expertUp (s : State) (k e : Nat) : Bool :=
  let l := s.xpa.layer k
  if lDev l e = s.ownId then
    match s.xpa.section_ k e with
    | some c => s.engineUp (sEngine c)
    | none => false
  else s.remoteUp (lDev l e)

/-- An expert's limit (R439): the CAP of its slot, or the QUOTA of a remote expert. -/
def State.expertLimit (s : State) (k e : Nat) : Nat :=
  let l := s.xpa.layer k
  if lDev l e = s.ownId then
    match s.slotOf k e with
    | some (_, t) => tCap t
    | none => 0
  else lQuota l e

/-! ### Buffers (R435) -/

/-- The input beat of a step's phase. -/
def State.inputBeat (s : State) (t : Word × Word) : Nat := if tPhase t = 0 then s.beatNo else s.beatNo - 1

/-- Address of input token `i` of layer `k`. -/
def State.tokenAddr (s : State) (k par i : Nat) : Nat :=
  let l := s.xpa.layer k
  match s.xpa.below k with
  | some j => lOut (s.xpa.layer j) + (par * lNtok (s.xpa.layer j) + i) * dp (lDout (s.xpa.layer j))
  | none => lIn l + (par * lNtok l + i) * dp (lDin l)

/-- Address of the result of token `i`, choice `c`. -/
def State.resultAddr (s : State) (k par i c : Nat) : Nat :=
  let l := s.xpa.layer k
  lRes l + ((2 * par + c) * lNtok l + i) * dp (lDout l)

/-- Address of queue entry `j` of expert `e`. -/
def State.entryAddr (s : State) (k e j : Nat) : Nat :=
  let l := s.xpa.layer k
  lQ l + (e * lQdepth l + j) * dp (lDin l)

/-- Read int8 elements over the fabric. -/
def State.readElems (s : State) (a n : Nat) : List Int × State :=
  let (l, t) := s.fabReadBytes .expert a n
  (l.map (fun b => signed 8 b.toNat), t)

/-- Write int8 elements over the fabric. -/
def State.writeElems (s : State) (a : Nat) (l : List Int) : State :=
  (s.writeRun .expert a (l.map (fun v => BitVec.ofInt 8 v))).2

/-! ### Routing (R437 to R439) -/

/-- One sample of a frame: the 8 most significant bits less 128 (R437). -/
def State.frameSample (s : State) (f : CamFrame) (col row : Nat) : Int × State :=
  let line := f.addr + row * f.pitch
  let one := fun (a : Nat) (z : Size) (sh : Nat) =>
    match s.fabRead .expert a z with
    | (.ok v, t) => ((v / 2 ^ sh % 256 : Nat) - (128 : Int), t)
    | (.err _, t) =>
      let (v, u) := t.draw
      ((v % 256 : Nat) - (128 : Int), u)
  match f.dt with
  | 0x2A => one (line + col) .byte 0
  | 0x2B => one (line + 2 * col) .half 2
  | 0x2C => one (line + 2 * col) .half 4
  | _ => one (line + 2 * col + 1) .byte 0

/-- A token cut from a frame (R437). -/
def State.cutToken (s : State) (l : List Word) (f : CamFrame) (i : Nat) : List Nat → List Int × State
  | [] => ([], s)
  | j :: r =>
    let nu := f.w / max 1 (lPw l * lSub l)
    let u := i % max 1 nu
    let v := i / max 1 nu
    let (x, t) := s.frameSample f ((u * lPw l + j % max 1 (lPw l)) * lSub l) ((v * lPh l + j / max 1 (lPw l)) * lSub l)
    let (m, w) := State.cutToken t l f i r
    (x :: m, w)

/-- Logits of a token (R438). -/
def State.logits (s : State) (l : List Word) (x : List Int) : List Int :=
  (List.range (lNexp l)).map (fun e =>
    wrap32 (dot ((List.range (lDin l)).map (fun j => signed 8 (smGet (fun _ => (0 : Byte)) s.xpa.rmem (lGate l + e * lDin l + j)).toNat)) x))

/-- The expert with the largest logit, ties to the lower number, other than `skip`. -/
def bestExpert (l : List Int) (skip : Option Nat) : Nat :=
  let step := fun (b : Option (Nat × Int)) (p : Nat × Int) =>
    if skip = some p.1 then b
    else
      match b with
      | none => some p
      | some q => if q.2 < p.2 then some p else some q
  match (l.mapIdx (fun k v => (k, v))).foldl step none with
  | some p => p.1
  | none => 0

/-- The choices of a token: expert and gate (R438). -/
def State.choicesOf (s : State) (l : List Word) (x : List Int) : List (Nat × Nat) :=
  if lKind l = K_EMBED then [(0, 256)]
  else
    let g := s.logits l x
    let c0 := bestExpert g none
    if lTopk l = 1 then [(c0, 256)]
    else
      let c1 := bestExpert g (some c0)
      let d := min 255 ((g.getD c0 0 - g.getD c1 0) / (2 ^ lGsh l : Nat)).toNat
      [(c0, 128 + d / 2), (c1, 256 - (128 + d / 2))]

/-- The payload of a TOKEN frame (R285, R446). -/
def tokenPayload (kind layer expert choice beat tok : Nat) (x : List Int) : List Byte :=
  [BitVec.ofNat 8 kind, BitVec.ofNat 8 layer, BitVec.ofNat 8 expert, BitVec.ofNat 8 choice] ++ beBytes 4 (beat % 0x100000000) ++
    beBytes 2 tok ++ beBytes 2 x.length ++ beBytes 4 0 ++ x.map (fun v => BitVec.ofInt 8 v)

/-- Choices already sent to an expert for an input (R439). -/
def State.sentTo (s : State) (k beat e : Nat) : Nat :=
  (s.xpa.choices.filter (fun c => c.layer == k && c.beat == beat && c.expert == e)).length

/-- Send a choice to expert `e` (R439, R446). -/
def State.sendChoice (s : State) (k beat i c e gate : Nat) (x : List Int) : State :=
  let l := s.xpa.layer k
  let remote := lDev l e != s.ownId
  let n := s.sentTo k beat e
  let ch : XpaChoice := { layer := k, beat := beat, tok := i, choice := c, expert := e, gate := gate, remote := remote, got := false }
  let t := s.setXpa { s.xpa with choices := s.xpa.choices ++ [ch] }
  if remote then t.sendFrame 8 (lDev l e) 3 (tokenPayload 0 k e c s.beatNo i x)
  else
    let u := t.writeElems (t.entryAddr k e n) x
    u.setXpa { u.xpa with
      queue := u.xpa.queue ++ [{ layer := k, expert := e, src := none, tok := i, choice := c, entry := n, beat := beat }] }

/-- The scatter of one choice (R439). -/
def State.scatter (s : State) (k beat i c e gate : Nat) (x : List Int) : State :=
  let open_ := fun (e : Nat) => s.expertUp k e && decide (s.sentTo k beat e < s.expertLimit k e)
  let fb := lFallback (s.xpa.layer k)
  if open_ e then s.sendChoice k beat i c e gate x
  else if open_ fb then (s.count XPA_FALLCNT 1).sendChoice k beat i c fb gate x
  else s.dropChoice

/-- Route token `i` of layer `k`. -/
def State.routeToken (s : State) (k beat i : Nat) : State :=
  let l := s.xpa.layer k
  let (x, t) := if lKind l = K_EMBED then
      (match s.xpa.routing with
        | some (_, f) => s.cutToken l f i (List.range (lDin l))
        | none => ([], s))
    else s.readElems (s.tokenAddr k (beat % 2) i) (lDin l)
  ((t.choicesOf l x).mapIdx (fun c p => (c, p))).foldl (fun u p => u.scatter k beat i p.1 p.2.1 p.2.2 x) t

/-! ### Steps (R441 to R443) -/

/-- The phase of a step runs in this beat. -/
def State.phaseRuns (s : State) (t : Word × Word) : Bool := if tPhase t = 0 then s.xpa.ph0 else s.xpa.ph1

/-- A running step that satisfies `p`. -/
def State.runningStep (s : State) (p : Word × Word → Bool) : Option XpaRun := s.xpa.running.find? (fun r => p r.what)

/-- Step `n` may start now (R441, R442). -/
def State.stepDue (s : State) (n op : Nat) : Option (Word × Word) :=
  match s.liveSteps[n]? with
  | none => none
  | some t =>
    let layerBusy := fun (o : Nat) => (s.runningStep (fun u => tOp u == o && tLayer u == tLayer t && (o != T_SLOT || tPhase u == tPhase t))).isSome
    let waits := (op == T_SLOT && layerBusy T_ROUTE) || (op == T_GATHER && layerBusy T_SLOT)
    if tOp t == op && s.xpaState == X_RUN && s.bit SYS_CLKEN 5 && s.phaseRuns t && !s.xpa.began.contains n &&
        (s.runningStep (fun u => sameUnit t u)).isNone && !waits then some t
    else none

/-- The step cuts the frame of an EMBED layer. -/
def XpaSt.cuts (x : XpaSt) (t : Word × Word) : Bool := tOp t == T_ROUTE && lKind (x.layer (tLayer t)) == K_EMBED

/-- A step begins at its START, from the end of the brim window; a ROUTE of the EMBED layer takes up the beat's frame. -/
def State.stepBegin (s : State) (n : Nat) (t : Word × Word) : State :=
  let u := s.advanceTo (6400 + tStart t)
  let v := u.setXpa { u.xpa with
    began := n :: u.xpa.began, running := u.xpa.running ++ [{ step := n, what := t, input := u.inputBeat t, old := false }] }
  if u.xpa.cuts t then v.setXpa { v.xpa with frame := none, routing := u.xpa.frame } else v

/-- A step ends; one that began before the last edge is no step of this beat (R450). -/
def State.stepEnd (s : State) (r : XpaRun) : State :=
  s.setXpa { s.xpa with running := s.xpa.running.erase r, ended := if r.old then s.xpa.ended else r.step :: s.xpa.ended }

/-- XPA_ROUTE (R438, R439). -/
def execXpaRoute (n : Fin 256) (s : State) : Out :=
  done (
    match s.stepDue n.val T_ROUTE with
    | none => s
    | some t =>
      let u := s.stepBegin n.val t
      let k := tLayer t
      let b := u.inputBeat t
      (List.range (lNtok (u.xpa.layer k))).foldl (fun w i => w.routeToken k b i) u)

/-- XPA_ROUTE_END (R436): the end of a layer-0 ROUTE releases the hold of the frame it cut. -/
def execXpaRouteEnd (s : State) : Out :=
  done (
    match s.runningStep (fun t => tOp t == T_ROUTE) with
    | none => s
    | some r =>
      let t := s.stepEnd r
      match t.xpa.routing with
      | some (x, f) => if t.xpa.cuts r.what then (t.camRelease x f.buf 1).setXpa { t.xpa with routing := none } else t
      | none => t)

/-- The queue of an expert, in arrival order. -/
def State.queueOf (s : State) (k e : Nat) : List XpaTok := s.xpa.queue.filter (fun q => q.layer == k && q.expert == e)

/-- Remove a token from its queue. -/
def State.unqueue (s : State) (q : XpaTok) : State := s.setXpa { s.xpa with queue := s.xpa.queue.erase q }

/-- The detail word of an engine's report (R451). -/
def engineDetail (kind expert layer : Nat) : Word := w32 (kind + expert * 16 + layer * 256)

/-- Where an expert's block lies: the engine that serves it, the first address and the length. -/
def State.expertPlace (s : State) (k e : Nat) : Option (Nat × Nat × Nat) :=
  (s.xpa.section_ k e).map (fun c => (s.engineFor (sEngine c), engineBase (s.engineFor (sEngine c)) + sDst c, sLen c))

/-- An engine's own access meets an uncorrectable word of its memory (R195, R451): it is counted and captured, and reported as
kind 1. -/
def State.engineUe (s : State) (m a e k : Nat) : State :=
  (s.eccCount 1 a false true).faultReport (0x800 + m) (engineDetail 1 e k)

/-- The engine reads an expert's block for one token (R195): every single-bit error in it is corrected, written back and counted;
false where a word cannot be corrected, the lowest of which is found. -/
def State.engineRead (s : State) (m a n e k : Nat) : Bool × State :=
  let inside := fun (w : Nat) => decide (a < w + 8 ∧ w < a + n)
  let t := (s.ms.ecc.filter (fun x => inside x.1 && x.2 == some .single)).foldl
    (fun (u : State) x => (u.setEcc x.1 none).eccCount 1 x.1 false false) s
  match t.ms.ecc.find? (fun x => inside x.1 && x.2 == some .uncorrectable) with
  | none => (true, t)
  | some x => (false, t.engineUe m x.1 e k)

/-- A dropped token leaves its queue. -/
def State.dropToken (s : State) (q : XpaTok) : State := (s.unqueue q).dropChoice

/-- An error of the engine while `q` is in process (R451): a failed residue check, or an uncorrectable word, which falls anywhere
in the expert's block (a free value). -/
def State.engineError (s : State) (q : XpaTok) (residue : Bool) : State :=
  match s.expertPlace q.layer q.expert with
  | none => s
  | some (m, a, n) =>
    let t := s.dropToken q
    if residue then t.faultReport (0x800 + m) (engineDetail 2 q.expert q.layer)
    else
      let (v, u) := t.draw
      let w := a + 8 * (v % max 1 (n / 8))
      (u.setEcc w (some .uncorrectable)).engineUe m w q.expert q.layer

/-- XPA_SLOT (R442, R451, R452): the slot of an engine that runs no slots drops its queue. `err` is an error of the engine:
the place in the queue of the token in process, and kind 1 or 2. -/
def execXpaSlot (n : Fin 256) (err : Option (Fin 256 × Bool)) (s : State) : Out :=
  done (
    match s.stepDue n.val T_SLOT with
    | none => s
    | some t =>
      let u := s.stepBegin n.val t
      let l := u.queueOf (tLayer t) (tExpert t)
      if u.engineUp (tEngine t) then
        match err with
        | none => u
        | some (j, residue) =>
          match l[j.val]? with
          | none => u
          | some q => u.engineError q residue
      else (l.foldl State.dropToken u).stepEnd { step := n.val, what := t, input := u.inputBeat t, old := false })

/-- Mark a choice's result as present. -/
def State.gotResult (s : State) (k beat i c : Nat) : State :=
  s.setXpa { s.xpa with choices := s.xpa.choices.map (fun h =>
    if h.layer = k ∧ h.beat = beat ∧ h.tok = i ∧ h.choice = c then { h with got := true } else h) }

/-- The engine serves a token (R431, R442, R447): a result in the result buffer, or a frame for its sender. A token whose weights
cannot be read is dropped (R451), and so is every one after the engine's retirement (R457). -/
def State.serve (s : State) (q : XpaTok) : State :=
  let l := s.xpa.layer q.layer
  match s.expertPlace q.layer q.expert with
  | none => s.dropToken q
  | some (m, a, n) =>
    if !s.expertUp q.layer q.expert then s.dropToken q
    else
      match s.engineRead m a n q.expert q.layer with
      | (false, t) => t.dropToken q
      | (true, t0) =>
        let (x, t) := t0.readElems (t0.entryAddr q.layer q.expert q.entry) (lDin l)
        let y := t.runExpert a l x
        let u := t.unqueue q
        match q.src with
        | none => (u.writeElems (u.resultAddr q.layer (q.beat % 2) q.tok q.choice) y).gotResult q.layer q.beat q.tok q.choice
        | some d => u.setXpa { u.xpa with back := u.xpa.back ++ [(d, tokenPayload 1 q.layer q.expert q.choice q.beat q.tok y)] }

/-- Tokens still queued when a slot reaches its end (R442). -/
def State.slotCut (s : State) (q : XpaTok) : State := ((s.dropToken q).count XPA_SLOTCUT 1).xpaEvt 7

/-- XPA_SLOT_END (R442, R457): the slot has served `served` tokens; it ends with its queue empty, at its reserved end, or by the
retirement of its engine, after which the tokens still queued are dropped choices. -/
def execXpaSlotEnd (n : Fin 256) (served : Fin 257) (s : State) : Out :=
  done (
    match s.xpa.running.find? (fun r => r.step == n.val && tOp r.what == T_SLOT) with
    | none => s
    | some r =>
      let t := r.what
      let u := ((s.queueOf (tLayer t) (tExpert t)).take served.val).foldl State.serve s
      let rest := u.queueOf (tLayer t) (tExpert t)
      let w := if rest.isEmpty then u
        else if u.engineUp (tEngine t) then rest.foldl State.slotCut (if r.old then u else u.advanceTo (6400 + u.xpa.stepEnd t))
        else rest.foldl State.dropToken u
      w.stepEnd r)

/-- The output token of a GATHER (R449). -/
def gatherToken (resid : Bool) (x : List Int) (ys : List (Nat × List Int)) (n : Nat) : List Int :=
  (List.range n).map (fun j =>
    let acc := ys.foldl (fun a p => a + (p.1 : Int) * p.2.getD j 0) 0
    clampI (-128) 127 ((if resid then x.getD j 0 else 0) + (acc + 128) / 256))

/-- Read the results that a token has. -/
def State.readResults (s : State) (k par n : Nat) : List XpaChoice → List (Nat × List Int) × State
  | [] => ([], s)
  | c :: l =>
    let (y, t) := s.readElems (s.resultAddr k par c.tok c.choice) n
    let (m, u) := State.readResults t k par n l
    ((c.gate, y) :: m, u)

/-- Gather token `i` of layer `k` for the input of `beat`. -/
def State.gatherOne (s : State) (k beat i : Nat) : State :=
  let l := s.xpa.layer k
  let (x, t) := if lResid l then s.readElems (s.tokenAddr k (beat % 2) i) (lDin l) else ([], s)
  let mine := t.xpa.choices.filter (fun c => c.layer == k && c.beat == beat && c.tok == i && c.got)
  let (ys, u) := t.readResults k (beat % 2) (lDout l) mine
  u.writeElems (lOut l + (beat % 2 * lNtok l + i) * dp (lDout l)) (gatherToken (lResid l) x ys (lDout l))

/-- XPA_GATHER (R448, R449): remote results still missing are dropped choices. -/
def execXpaGather (n : Fin 256) (s : State) : Out :=
  done (
    match s.stepDue n.val T_GATHER with
    | none => s
    | some t =>
      let u := s.stepBegin n.val t
      let k := tLayer t
      let b := u.inputBeat t
      let missing := u.xpa.choices.filter (fun c => c.layer == k && c.beat == b && c.remote && !c.got)
      let w := missing.foldl (fun v _ => v.dropChoice) u
      let z := (List.range (lNtok (w.xpa.layer k))).foldl (fun v i => v.gatherOne k b i) w
      z.setXpa { z.xpa with choices := z.xpa.choices.filter (fun c => !(c.layer == k && c.beat == b)) })

/-- XPA_GATHER_END (R449): the end of the highest layer's GATHER loads XPA_OUTBEAT. -/
def execXpaGatherEnd (s : State) : Out :=
  done (
    match s.runningStep (fun t => tOp t == T_GATHER) with
    | none => s
    | some r =>
      let t := s.stepEnd r
      if some (tLayer r.what) = s.xpa.top then (t.setRg64 XPA_OUTBEAT_LO r.input).xpaEvt 3 else t)

/-! ### Remote experts (R446 to R448) -/

/-- A discarded token or result. -/
def State.xpaDiscardRx (s : State) : State := (s.count XPA_RDISC 1).xpaEvt 5

/-- A host receives a token (R447). -/
def State.tokenRx (s : State) (src : Nat) (pl : List Byte) : State :=
  let k := fieldAt pl 1 1
  let e := fieldAt pl 2 1
  let c := fieldAt pl 3 1
  let i := fieldAt pl 8 2
  let l := s.xpa.layer k
  let key := (src, k, e, c, i)
  let slotOk := match s.slotOf k e with
    | some (n, _) => !s.xpa.began.contains n
    | none => false
  let ok := s.xpaState == X_RUN && lKind l == K_HOST && placedOn l e s.ownId && fieldAt pl 0xA 2 == lDin l &&
    fieldAt pl 4 4 == s.beatNo % 0x100000000 && slotOk && !s.xpa.seen.contains key
  if !ok then s.xpaDiscardRx
  else
    let n := (s.queueOf k e).length
    if s.expertLimit k e ≤ n then (s.count XPA_QFULL 1).xpaEvt 10
    else
      let x := (pl.drop 0x10).take (lDin l) |>.map (fun b => signed 8 b.toNat)
      let t := s.writeElems (s.entryAddr k e n) x
      t.setXpa { t.xpa with
        seen := key :: t.xpa.seen
        queue := t.xpa.queue ++ [{ layer := k, expert := e, src := some src, tok := i, choice := c, entry := n, beat := t.beatNo }] }

/-- A requester receives a result (R448). -/
def State.resultRx (s : State) (src : Nat) (pl : List Byte) : State :=
  let k := fieldAt pl 1 1
  let l := s.xpa.layer k
  let hit := s.xpa.choices.find? (fun h =>
    h.layer == k && h.expert == fieldAt pl 2 1 && h.choice == fieldAt pl 3 1 && h.tok == fieldAt pl 8 2 &&
    h.beat % 0x100000000 == fieldAt pl 4 4 && h.remote && !h.got && lDev l h.expert == src)
  match hit with
  | some h =>
    if fieldAt pl 0xA 2 = lDout l then
      let y := (pl.drop 0x10).take (lDout l) |>.map (fun b => signed 8 b.toNat)
      (s.writeElems (s.resultAddr k (h.beat % 2) h.tok h.choice) y).gotResult k h.beat h.tok h.choice
    else s.xpaDiscardRx
  | none => s.xpaDiscardRx

/-- A TOKEN frame of kind `kind` is received; Observers take no part (R296). -/
def State.tokenFrame (s : State) (p kind : Nat) (f : Llp) (act : State → LinkFrame → State) : State :=
  let fr := frameOf f 8
  let r := s.receive p fr
  if r.deliver && fieldAt fr.payload 0 1 == kind && !r.st.observer then act r.st fr else r.st

/-- TOKEN_RX (R447). -/
def execTokenRx (p : Fin 2) (f : Llp) (s : State) : Out := done (s.tokenFrame p.val 0 f (fun t fr => t.tokenRx fr.src fr.payload))

/-- RESULT_RX (R448). -/
def execResultRx (p : Fin 2) (f : Llp) (s : State) : Out := done (s.tokenFrame p.val 1 f (fun t fr => t.resultRx fr.src fr.payload))

/-! ### Spares (R452) -/

/-- XPA_REMAP_DONE (R452): the oldest spare copy ends. The blob's CRC is checked again and its expert sections for the engine are
copied, which gives the spare weights; a failed check or read sets RLFAIL. -/
def execXpaRemapDone (s : State) : Out :=
  done (
    match s.xpa.copying with
    | [] => s
    | (n, t) :: l =>
      let s0 := (s.setXpa { s.xpa with copying := l }).setBit XPA_STAT 9 (!l.isEmpty)
      match s0.readBlob s0.xpa.blob with
      | ((_, some _), u) => (u.setBit XPA_STAT 11 true).xpaEvt 9
      | ((b, none), u) =>
        let w := (u.xpa.sections.filter (fun c => sKind c == 1 && sEngine c == n)).foldl (fun v c => v.placeSection b c t) u
        ((w.setXpa { w.xpa with copied := w.xpa.copied ++ [(n, t)], bare := w.xpa.bare.filter (fun m => m != t) }).setBit XPA_ENGSTAT (16 + n) true).xpaEvt 9)

/-! ### The beat edge (R436, R443, R444, R447) -/

/-- Release every XPA hold of an input, but for the frame taken at this edge and the one that a running ROUTE still cuts. -/
def State.xpaRelease (s : State) (x : Nat) : State :=
  let free := fun (f : CamFrame) => s.xpa.frame != some (x, f) && s.xpa.routing != some (x, f)
  ((s.cam x).frames.filter (fun f => (s.bufHolds x f.buf).testBit 1 && free f)).foldl (fun t f => t.camRelease x f.buf 1) s

/-- The frame that the edge takes from input `x` (R436): the last to end with an XPA hold, after the one taken before. -/
def State.xpaFrame (s : State) (x : Nat) : Option CamFrame :=
  let l : List CamFrame := (s.cam x).frames
  let last := s.xpa.taken.find? (fun e => e.1 == x)
  let after : List CamFrame := match last with
    | some e => if l.any (fun f => f.fseq == e.2) then (l.dropWhile (fun f => f.fseq != e.2)).drop 1 else l
    | none => l
  (after.filter (fun f => (s.bufHolds x f.buf).testBit 1)).getLast?

/-- A frame does not fit the layer (R437). -/
def frameUnfit (l : List Word) (f : CamFrame) : Bool :=
  f.dt == 0x22 || f.dt == 0x24 || f.w / max 1 (lPw l * lSub l) * (f.h / max 1 (lPh l * lSub l)) != lNtok l || lPw l * lPh l != lDin l

/-- Take this beat's frame (R436, R437): whether phase 0 runs. -/
def State.xpaTake (s : State) (l : List Word) : Bool × State :=
  let x := lCam l
  match s.xpaFrame x with
  | none => (false, ((s.xpaRelease x).count XPA_NOFRAME 1).xpaEvt 6)
  | some f =>
    let t := s.setXpa { s.xpa with taken := (x, f.fseq) :: s.xpa.taken.filter (fun e => e.1 != x) }
    if frameUnfit l f then (false, (t.xpaRelease x).xpaEvt 8)
    else (true, (t.setXpa { t.xpa with frame := some (x, f) }).xpaRelease x)

/-- The steps that the array runs at an edge belong to the beat before (R450). -/
def XpaRun.past (r : XpaRun) : XpaRun := { r with old := true }

/-- A queued token stays over an edge: one of this device, or one whose slot still runs. -/
def XpaSt.keeps (x : XpaSt) (q : XpaTok) : Bool :=
  q.src.isNone || x.running.any (fun r => tLayer r.what == q.layer && tExpert r.what == q.expert)

/-- The array at an edge: `changed` tells whether a changed EN or SCHSEL applies at this edge. Phase 1 runs where phase 0 ran for
the beat before, whose number is one less. Observers send no TOKEN frames (R296). -/
def State.xpaEdge (s : State) (changed : Bool) : State :=
  let on := s.lvBit XPA_CTRL 0 && s.xpaState != X_OFF
  let s0 := if s.xpaState = X_OFF then s else s.setFld XPA_STAT 0 2 (if s.lvBit XPA_CTRL 0 then X_RUN else X_READY)
  let s1 := s0.setXpa { s0.xpa with spares := s0.xpa.spares ++ s0.xpa.copied, copied := [], frame := none }
  let l := s1.xpa.layer 0
  let embed := lKind l == K_EMBED
  let (p0, s2) := if on && embed then s1.xpaTake l else (on, s1)
  let s3 := [0, 1].foldl (fun t x => if on && embed && x == lCam l then t else t.xpaRelease x) s2
  let p1 := on && s.xpa.ph0 && !changed && s.beatNo == s.xpa.in0 + 1
  let s4 := (s3.setBit XPA_STAT 10 p0).setXpa { s3.xpa with
    ph0 := p0, ph1 := p1, in0 := s.beatNo, began := [], ended := [], seen := [], back := [], dropTold := false
    running := s3.xpa.running.map XpaRun.past, queue := s3.xpa.queue.filter s3.xpa.keeps }
  if s.observer then s4 else s.xpa.back.foldl (fun t b => t.sendFrame 8 b.1 3 b.2) s4

/-- The deadline of client 7 (R450): a due step has not ended, or one that began before the edge still runs. -/
def State.xpaDeadline (s : State) : Bool × State :=
  let due := s.xpaState == X_RUN && (s.liveSteps.mapIdx (fun n t => (n, t))).any (fun p =>
    s.phaseRuns p.2 && !s.xpa.ended.contains p.1)
  if due || s.xpa.running.any (fun r => r.old) then (true, (s.count XPA_OVRCNT 1).xpaEvt 2) else (false, s)

end Sys2Proof.Machine
end

