-- ==== Sys2Proof/Machine/Bus.lean ====
section
/-! DEFINITION. Reads and writes over the fabric, registers included (spec/00 R8, spec/01 R14 to R36): which register does more
than its field types say, what every register reads as, and the commands REGISTER_WRITE, READ_CLEAR, LATCH_READ and
MULTIWORD_COMMIT. -/

namespace Sys2Proof.Machine

/-! ### Writes -/

/-- A write in STOPPED only, of the highest word of a multi-word register of the Ledger (R29, R263): rejected, it discards the
pending words. -/
def State.writeIbase (s : State) (i : Initiator) (v : Word) : State :=
  match regAt (LDG_IBASE_HI) with
  | none => s
  | some (row, _, _) =>
    if s.ldgState != L_STOPPED then (s.reject ldgPort ST_STATE).clearPending i LDG_IBASE_HI 2
    else (s.accept ldgPort).commitWords i LDG_IBASE_HI row v

/-- A write to LNK_QTX_CTL or LNK_QRX_CTL, legal in STOPPED only (log entry 17). -/
def State.writeRingCtl (s : State) (a : Nat) (v : Word) : State :=
  s.command lnkPort false (s.adm != A_STOPPED) false (fun t =>
    match regAt a with
    | some (row, _, _) => t.storeReg a row v
    | none => t)

/-- A commit to a cascaded timer pair: COUNT of timer 2k and of timer 2k + 1, where a word that is not pending keeps its value
(R29, R462). -/
def State.writePair (s : State) (i : Initiator) (k : Nat) (v : Word) : State :=
  let lo := TMR_PAIR_LO k
  let t := match s.pendingWord i lo with
    | some w => s.setRg (TMR_COUNT (2 * k)) w
    | none => s
  (t.setRg (TMR_COUNT (2 * k + 1)) v).clearPending i (TMR_PAIR_HI k) 2

/-- SYS and PWR. -/
def State.wrSys (s : State) (a : Nat) (v : Word) : Option State :=
  if a = SYS_CLKEN then some (s.writeClken v)
  else if a = SYS_FERR_INFO then some (s.writeFerrInfo v)
  else if a = PWR_CMD then some (s.writePwrCmd v)
  else if a = PWR_SWRST then some (s.writeSwrst v)
  else if a = PWR_PFW then some (s.writePfw v)
  else if a = SYS_CSTART then some (s.writeCstart v)
  else none

/-- BEAT. -/
def State.wrBeat (s : State) (i : Initiator) (a k : Nat) (v : Word) : Option State :=
  if a = CG_CTRL k then some (s.writeCgCtrl k v)
  else if a = CG_ARMED k then some (s.writeCgArmed k v)
  else if a = CG_MEMBERS k then some (s.writeCgMembers k v)
  else if a = CG_BEAT_HI k then some (s.writeCgBeat i k v)
  else none

/-- DIS. -/
def State.wrDis (s : State) (a k : Nat) (v : Word) : Option State :=
  if a = DIS_CMD then some (s.writeDisCmd v)
  else if a = DIS_TICK then some (s.writeTick v)
  else if a = DIS_DWIN k then some (s.writeDwin k v)
  else if a = DIS_CORE k then some (s.writeDisCore k v)
  else if a = DIS_BIND k then some (s.writeBind k v)
  else none

/-- ECX. -/
def State.wrEcx (s : State) (i : Initiator) (a k : Nat) (v : Word) : Option State :=
  if a = ECX_SWTRIG then some (s.writeSwtrig i v)
  else if a = ECX_DONE then some (s.writeDone i v)
  else if a = ECX_TCTL k then some (s.writeTctl k v)
  else if a = ECX_QBASE k then some (s.writeQbase k v)
  else if a = ECX_QRD k then some (s.writeQrd k v)
  else if a = ECX_MASK k then some (s.writeMask i k v)
  else if a = ECX_PEND k then some (s.writePend i k v)
  else if a = ECX_TYPE k then some (s.writeType i k v)
  else if a = ECX_HOLD k then some (s.writeHold i k v)
  else if ECX_TGT 0 ≤ a then some (s.writeTgt ((a - ECX_TGT 0) / 4) v)
  else none

/-- DMA. -/
def State.wrDma (s : State) (a k : Nat) (v : Word) : Option State :=
  if a = DMA_CH_CTRL k then some (s.writeDmaCtrl k v)
  else if a = DMA_CH_CFG k then some (s.writeDmaCfg k v)
  else if a = DMA_CH_DESC k then some (s.writeDmaDesc k v)
  else none

/-- LDG. -/
def State.wrLdg (s : State) (i : Initiator) (a k : Nat) (v : Word) : Option State :=
  if a = LDG_CMD then some (s.writeLdgCmd v)
  else if a = LDG_PUT then
    match i.core? with
    | some c => some (s.writeLdgPut c.num v)
    | none => none
  else if a = LDG_HWM ∨ a = LDG_IPERIOD ∨ a = LDG_TDEF_A k ∨ a = LDG_TDEF_B k then some (s.writeStopped a v)
  else if a = LDG_IBASE_HI then some (s.writeIbase i v)
  else none

/-- LNK. -/
def State.wrLnk (s : State) (i : Initiator) (a k : Nat) (v : Word) : Option State :=
  if a = LNK_CMD then some (s.writeLnkCmd v)
  else if a = LNK_CFG then some (s.writeLnkStopped a v 7)
  else if a = LNK_ETYPE then some (s.writeLnkStopped a v 0xFFFF)
  else if a = LNK_PORT k then some (s.writeLnkPort k v)
  else if a = LNK_QTX_BASE ∨ a = LNK_QRX_BASE then some (s.writeLnkStopped a v 0xFFFFFFE0)
  else if a = LNK_QTX_CTL ∨ a = LNK_QRX_CTL then some (s.writeRingCtl a v)
  else if a = LNK_DEPUTY then some (s.writeLnkDeputy v)
  else if a = LNK_ANN_CTL k then some (s.writeLnkAnn k v)
  else if a = LNK_ANN_BEAT_HI k ∨ a = LNK_ANN_TAG k then some (s.writeLnkAnnData i a v)
  else if a = LNK_BOOTCTL then some (s.writeBootctl v)
  else if a = LNK_QRX_RD then some ((s.setRg a (v &&& 0xFF)).qrxLevel.offerAll)
  else if a = LNK_ASTR k then some (s.writeAstr k v)
  else none

/-- RAS, pipe `p`. -/
def State.wrRas (s : State) (p a k : Nat) (v : Word) : Option State :=
  if a = RAS_READY p then some (s.writeReady p v)
  else if a = RAS_UNREADY p then some (s.writeUnready p v)
  else if a = LBUF_BACK p k then some (s.writeBack p k v)
  else none

/-- BLT. -/
def State.wrBlt (s : State) (a : Nat) (v : Word) : Option State :=
  if a = BLT_CTRL then some (s.writeBltCtrl v)
  else if a = BLT_RBASE ∨ a = BLT_RSIZE then some (s.writeBltRing a v)
  else if a = BLT_WR then some (s.writeBltWr v)
  else none

/-- AUD. -/
def State.wrAud (s : State) (a k : Nat) (v : Word) : Option State :=
  if a = AUD_VCMD then some (s.writeVcmd v)
  else if a = V_CFG k ∨ a = V_START k ∨ a = V_LEN k ∨ a = V_LOOPS k ∨ a = V_LOOPE k then some (s.writeVoice a k v)
  else none

/-- REC. -/
def State.wrRec (s : State) (a : Nat) (v : Word) : Option State :=
  if a = REC_CTRL then some (s.writeRecCtrl v)
  else if a = REC_MARK then some (s.writeRecMark v)
  else if (List.range 7).any (fun r => a == recConfigReg r) then some (s.writeRecConfig a v)
  else if REC_QT 0 0 ≤ a ∧ a < REC_HT 4 0 then some (s.writeRecTable a v)
  else none

/-- TMR. -/
def State.wrTmr (s : State) (i : Initiator) (a k : Nat) (v : Word) : Option State :=
  if a = TMR_CMD k then some (s.writeTmrCmd k v)
  else if a = TMR_GSTART then some (s.writeTmrGstart v)
  else if a = TMR_GSTOP then some (s.writeTmrGstop v)
  else if a = TMR_PAIR_HI k then some (s.writePair i k v)
  else none

/-- ADC. -/
def State.wrAdc (s : State) (a k : Nat) (v : Word) : Option State :=
  if a = ADC_CTL then some (s.writeAdcCtl v)
  else if a = ADC_SEQ k then some (s.writeAdcSeq k v)
  else if a = ADC_CMD then some (s.writeAdcCmd v)
  else none

/-- GPIO and PIN. -/
def State.wrPins (s : State) (a p n : Nat) (v : Word) : Option State :=
  if a = GPIO_OUT p then some (s.writeGpioOut p v)
  else if a = GPIO_SET p then some (s.writeGpioSet p v)
  else if a = GPIO_CLR p then some (s.writeGpioClr p v)
  else if a = GPIO_TGL p then some (s.writeGpioTgl p v)
  else if a = PIN_CFG p n then some (s.writePinCfg p n v)
  else if a = PIN_LKKEY p then some (s.writePinLkkey p v)
  else if a = PIN_LKMASK p then some (s.writePinLkmask p v)
  else none

/-- CAN, controller `c`. -/
def State.wrCan (s : State) (c a : Nat) (v : Word) : Option State :=
  if a = CAN_CMD c then some (s.writeCanCmdFree c v)
  else if a = CAN_RXRD c then some (s.writeCanRxrd c v)
  else if a = CAN_TXWR c then some (s.writeCanTxwr c v)
  else if a = CAN_CFG c ∨ a = CAN_NBT c ∨ a = CAN_DBT c ∨ a = CAN_TDCO c ∨ a = CAN_RXBASE c ∨ a = CAN_RXCTL c ∨
      a = CAN_TXBASE c ∨ a = CAN_TXCTL c then some (s.writeCanInit c a v)
  else none

/-- UART, port `u`: the registers marked "cfg" are those of the last line. -/
def State.wrUart (s : State) (u a : Nat) (v : Word) : Option State :=
  if a = UART_CMD u then some (s.writeUartCmd u v)
  else if a = UART_TXD u then some (s.writeUartTxd u v)
  else if a = UART_CFG u ∨ a = UART_BAUD u ∨ a = UART_DE u ∨ a = SC_CLK u ∨ a = SC_ETU u ∨ a = SC_GT u ∨ a = SC_RETRY u ∨
      a = SC_RSTLOW u then some (s.writeCfg (uartPort u) (UART_CFG u) a v)
  else none

/-- SPI, unit `n`; unit 0 is the Octal SPI controller. -/
def State.wrSpi (s : State) (n a : Nat) (v : Word) : Option State :=
  if n = 0 then
    if a = OSPI_CMD then some (s.writeOspiCmd v [])
    else if a = OSPI_CFG ∨ a = OSPI_XRD then some (s.writeCfg ospiPort OSPI_CFG a v)
    else if a = OSPI_DATA then some (s.writeOspiData v)
    else none
  else if a = SPI_CMD n then some (s.writeSpiCmd n v [])
  else if a = SPI_CFG n then some (s.writeCfg (spiPort n) (SPI_CFG n) a v)
  else if a = SPI_TX n then some (s.writeSpiTx n v)
  else none

/-- I2C, unit `n`. -/
def State.wrI2c (s : State) (n a : Nat) (v : Word) : Option State :=
  if a = I2C_CMD n then some (s.writeI2cCmd n v [])
  else if a = I2C_CFG n then some (s.writeCfg (i2cPort n) (I2C_CFG n) a v)
  else if a = I2C_DATA n then some (s.writeI2cData n v)
  else none

/-- EMMC. -/
def State.wrEmmc (s : State) (i : Initiator) (a : Nat) (v : Word) : Option State :=
  if a = EMMC_CMD then some (s.writeEmmcCmd i v)
  else if a = EMMC_CFG then some (s.writeCfg emmcPort EMMC_CFG a v)
  else none

/-- The Gauntlet's blocks GNT, KEY, CRY, WDG and FLT. -/
def State.wrGnt (s : State) (a k : Nat) (v : Word) : Option State :=
  if a = GNT_LOGPOP then some (s.writeLogpop v)
  else if a = KEY_IN k then some (s.writeKeyIn k v)
  else if a = KEY_CMD then some (s.writeKeyCmd v)
  else if a = CRY_CMD then some (s.writeCryCmd v)
  else if a = WDG_KICK then some (s.writeWdgKick v)
  else if a = WDG_CFG then some (s.writeWdgCfg v)
  else if a = WDG_TIMEOUT ∨ a = WDG_OPEN ∨ a = WDG_WARN then some (s.writeWdgLimit a v)
  else if a = FLT_CMD then some (s.writeFltCmd v)
  else none

/-- The write of a register that does more than its field types say: `b` is the window, `x` and `y` the register's array
indices. -/
def State.wrSpecial (s : State) (i : Initiator) (b a x y : Nat) (v : Word) : Option State :=
  match b with
  | 0x4000 => s.wrSys a v
  | 0x4001 => s.wrBeat i a x v
  | 0x4002 => s.wrDis a x v
  | 0x4003 => s.wrEcx i a x v
  | 0x4004 => s.wrDma a x v
  | 0x4006 => s.wrLdg i a x v
  | 0x4007 => s.wrLnk i a x v
  | 0x4008 => s.wrRas 0 a x v
  | 0x4009 => s.wrRas 1 a x v
  | 0x400A => s.wrRas 2 a x v
  | 0x400B => if a = OUT_B_CMDHDR then some (s.writeCmdhdr v) else none
  | 0x400C => s.wrBlt a v
  | 0x400D => s.wrAud a x v
  | 0x400E => if a = CAM_REL x then some (s.writeCamRel x v) else none
  | 0x400F => s.wrRec a v
  | 0x4010 => if a = XPA_CMD then some (s.writeXpaCmd v) else none
  | 0x4011 => s.wrTmr i a x v
  | 0x4012 => s.wrAdc a x v
  | 0x4013 => s.wrPins a x y v
  | 0x4014 => s.wrPins a x y v
  | 0x4015 => s.wrCan 0 a v
  | 0x4016 => s.wrCan 1 a v
  | 0x4017 => s.wrUart 0 a v
  | 0x4018 => s.wrUart 1 a v
  | 0x4019 => s.wrUart 2 a v
  | 0x401A => s.wrUart 3 a v
  | 0x401B => s.wrUart 4 a v
  | 0x401C => s.wrUart 5 a v
  | 0x401D => s.wrSpi (a / 0x1000 % 16) a v
  | 0x401E => s.wrI2c (a / 0x1000 % 16) a v
  | 0x401F => s.wrEmmc i a v
  | 0x4020 => if a = BOOT_CMD then some (s.writeBootCmd v) else none
  | 0x5000 => s.wrGnt a x v
  | 0x5002 => s.wrGnt a x v
  | 0x5003 => s.wrGnt a x v
  | 0x5004 => s.wrGnt a x v
  | 0x5005 => some (s.mitWrite i a v)
  | _ => none

/-- Where the value of a register stands for an initiator: a per-core register has a view of its own for each core. -/
def regKey (i : Initiator) (row : RegRow) (a : Nat) : Nat :=
  match row.perCore, i.core? with
  | true, some c => viewKey c.num a
  | _, _ => a

/-- The write of any other register, by its field types (R8, R29, R62). -/
def State.wrPlain (s : State) (i : Initiator) (row : RegRow) (a : Nat) (v : Word) : State :=
  if row.word + 1 = row.words ∧ 1 < row.words then s.commitWords i a row v
  else if row.sh.isSome then s.writeShadow a v
  else s.storeReg (regKey i row a) row v

/-- A write of a register that the fabric lets through. -/
def State.writeReg (s : State) (i : Initiator) (a : Nat) (v : Word) : State :=
  match regAt a with
  | none => s
  | some (row, x, y) =>
    if row.holds then s.holdWord i a v
    else (s.wrSpecial i (a / 0x10000) a x y v).getD (s.wrPlain i row a v)

/-- A write over the fabric, to a register or a memory. With the core domain off there is none (R548). -/
def State.busWrite (s : State) (i : Initiator) (a : Nat) (z : Size) (v : Nat) : Reply × State :=
  if !s.powered then (.ok 0, s)
  else
    match s.judge i a true z v with
    | some (k, log) => (.err k, s.refuse i a true z k log)
    | none =>
      match decodeFor i a with
      | some (.periph _) => (.ok 0, s.writeReg i a (w32 v))
      | some (.gauntlet _) => (.ok 0, s.writeReg i a (w32 v))
      | some .private0 =>
        match i.core? with
        | some c => s.privWrite c a (w32 v)
        | none => (.err .decode, s.ferr i a true z .decode)
      | _ => s.fabWrite i a z v

/-! ### Reads -/

/-- ECX: ACTIVE bits, the request line and threshold, and the status of the last claim, which is 0 for an initiator that is not a
core (DESIGN CHOICE; log entry 33). -/
def State.ecxShow (s : State) (i : Initiator) (a k : Nat) : Option Word :=
  let group := fun (w : Word) => if k = 0 then w &&& 0xFFFFFFFE else if k = 31 then w &&& 0x0FFFFFFF else w
  if a = ECX_ACT k then some (wordOfBits ((List.range 32).filter (fun n => s.isActive (32 * k + n))))
  else if a = ECX_MASK k ∨ a = ECX_PEND k ∨ a = ECX_TYPE k ∨ a = ECX_LVL k then some (group (s.rg a))
  else if a = ECX_TSTAT k then some (withField (withBit (s.rg a) 31 (s.line k)) 16 11 (s.thr k))
  else if a = ECX_CLAIMST then
    match i.core? with
    | some c => some (s.claimStatus c.num)
    | none => some 0
  else none

/-- The violation log's oldest entry, records queued, and key attributes. -/
def State.gntShow (s : State) (i : Initiator) (a k : Nat) : Option Word :=
  if a = GNT_LOGCNT then some (w32 s.gnt.log.length)
  else if a = GNT_LOGADDR then some (w32 ((s.gnt.log.head?.map (fun e => e.addr)).getD 0))
  else if a = GNT_LOGINFO then
    match s.gnt.log with
    | [] => some 0
    | e :: _ => some (w32 (0x80000000 + e.type * 0x1000000 + e.beat * 256 + e.init * 16))
  else if a = FLT_RQCNT then some (w32 s.gnt.records.length)
  else if a = KEY_ATTR k then some (s.keyAttr k)
  else if a = CRY_IV k then
    if i == Initiator.g0 || s.bootKeys (.gauntlet 2) i then none else some 0
  else none

/-- LNK: the plan's CRC, health, the retired ports and the die's identity. -/
def State.lnkShow (s : State) (a k : Nat) : Option Word :=
  if a = LNK_PLANCRC then some (w32 s.planCrc)
  else if a = LNK_STAT then some (withBit (s.rg a) 10 s.healthy)
  else if a = LNK_PSTAT k then some (withBit (s.rg a) 1 (s.retired (0x810 + k)))
  else if a = LNK_UID_LO then some (w32 Config.dieUid.toNat)
  else if a = LNK_UID_HI then some (w32 (Config.dieUid.toNat / 0x100000000))
  else none

/-- TMR: the running timers, and COUNT of a pair. -/
def State.tmrShow (s : State) (a k : Nat) : Option Word :=
  if a = TMR_RUNMAP then some (wordOfBits ((List.range 16).filter (fun n => s.bit (TMR_STAT n) 0)))
  else if a = TMR_PAIR_LO k then some (s.rg (TMR_COUNT (2 * k)))
  else if a = TMR_PAIR_HI k then some (s.rg (TMR_COUNT (2 * k + 1)))
  else none

/-- A register that shows other state than its own. -/
def State.rdShow (s : State) (i : Initiator) (b a x : Nat) : Option Word :=
  match b with
  | 0x4000 => if a = SYS_ID then some (if Config.stepA1 then 0x24000101 else 0x24000100) else none
  | 0x4001 => if a = CG_MISSING x ∧ s.cgOpen x then some (s.cgMissing x) else none
  | 0x4002 => s.disShow a
  | 0x4003 => s.ecxShow i a x
  | 0x4004 =>
    if a = DMA_RUNMAP then some (wordOfBits ((List.range 16).filter s.dmaBusy))
    else if a = DMA_CH_LEFT x then some ((s.dmaShowLeft x).rg a)
    else none
  | 0x4006 => s.ldgShow a
  | 0x4007 => s.lnkShow a x
  | 0x400B => s.outShow a
  | 0x4010 =>
    if a = XPA_ENGSTAT then some ((s.rg a &&& 0xFFFF0000) ||| wordOfBits ((List.range 16).filter s.engineOut)) else none
  | 0x4011 => s.tmrShow a x
  | 0x4012 => if a = ADC_TCAL then some Config.tcal else none
  | 0x4013 => if a = GPIO_WKIN then some (w32 s.wkin) else none
  | 0x4015 => if a = CAN_STAT 0 then some (withBit (s.rg a) 4 (s.retired 0x820)) else none
  | 0x4016 => if a = CAN_STAT 1 then some (withBit (s.rg a) 4 (s.retired 0x821)) else none
  | 0x4017 => if a = UART_STAT 0 then some (s.uartShow 0) else none
  | 0x4018 => if a = UART_STAT 1 then some (s.uartShow 1) else none
  | 0x4019 => if a = UART_STAT 2 then some (s.uartShow 2) else none
  | 0x401A => if a = UART_STAT 3 then some (s.uartShow 3) else none
  | 0x401B => if a = UART_STAT 4 then some (s.uartShow 4) else none
  | 0x401C => if a = UART_STAT 5 then some (s.uartShow 5) else none
  | 0x4020 =>
    if a = BOOT_STAT then some s.bootShow
    else if a = BOOT_ARB x then some (w32 (s.arb x))
    else none
  | 0x5000 => s.gntShow i a x
  | 0x5002 => s.gntShow i a x
  | 0x5004 => s.gntShow i a x
  | _ => none

/-- What a register shows: write-only fields read as 0 (R8). -/
def State.regShow (s : State) (i : Initiator) (a : Nat) (row : RegRow) (x : Nat) : Word :=
  ((s.rdShow i (a / 0x10000) a x).getD (s.rg (regKey i row a))) &&& ~~~(w32 row.wo)

/-- The read of a register whose read changes state, or whose value the spec leaves open: the claim, the FIFOs, the random number
generator, the drive level of pins, and the link's signal quality. -/
def State.rdSpecial (s : State) (i : Initiator) (a x : Nat) : Option (Nat × State) :=
  if a = ECX_CLAIM then
    let (v, t) := s.readClaim i
    some (v.toNat, t)
  else if a = CRY_RNG then some (s.readRng (i == Initiator.g0 || s.bootKeys (.gauntlet 2) i))
  else if a = ADC_DATA then some s.readAdcData
  else if a = OSPI_DATA then some s.readOspiData
  else if a / 0x10000 = 0x401D ∧ a = SPI_RX (a / 0x1000 % 16) ∧ a / 0x1000 % 16 ≠ 0 then some (s.readSpiRx (a / 0x1000 % 16))
  else if a / 0x10000 = 0x401E ∧ a = I2C_DATA (a / 0x1000 % 16) then some (s.readI2cData (a / 0x1000 % 16))
  else if 0x4017 ≤ a / 0x10000 ∧ a / 0x10000 ≤ 0x401C ∧ a = UART_DATA (a / 0x10000 - 0x4017) then
    some (s.readUartData (a / 0x10000 - 0x4017))
  else if a = GPIO_DRV x then some (s.gpioDrv x)
  else if a = LNK_PSTAT x then
    let (f, t) := s.draw
    some ((withField ((s.lnkShow a x).getD 0) 2 3 f).toNat, t)
  else none

/-- A read of the lowest word of a multi-word register loads the reader's latch with the higher words (R28). -/
def State.latchWords (s : State) (i : Initiator) (a : Nat) (row : RegRow) (x : Nat) : State :=
  (List.range row.words).foldl (fun t k =>
    if k = 0 then t
    else
      match regAt (a + 4 * k) with
      | some (q, _, _) => { t with latch := smSet (fun _ => 0) t.latch (viewKey i.code (a + 4 * k)) (s.regShow i (a + 4 * k) q x) }
      | none => t) s

/-- A read of a register that the fabric lets through. -/
def State.readReg (s : State) (i : Initiator) (a : Nat) : Nat × State :=
  match regAt a with
  | none => (0, s)
  | some (row, x, _) =>
    if 0 < row.word then ((smGet (fun _ => (0 : Word)) s.latch (viewKey i.code a)).toNat, s)
    else if 1 < row.words then
      let t := s.latchWords i a row x
      ((s.regShow i a row x).toNat, if a = PPS_BEAT_LO then t.readPps else t)
    else
      match s.rdSpecial i a x with
      | some r => r
      | none =>
        let v := s.regShow i a row x
        (v.toNat, if row.rc = 0 then s else s.setRg (regKey i row a) (s.rg (regKey i row a) &&& ~~~(w32 row.rc)))

/-- A read over the fabric, of a register or a memory. -/
def State.busRead (s : State) (i : Initiator) (a : Nat) (z : Size) : Reply × State :=
  if !s.powered then (.ok 0, s)
  else
    match s.judge i a false z 0 with
    | some (k, log) => (.err k, s.refuse i a false z k log)
    | none =>
      match decodeFor i a with
      | some (.periph _) => let (v, t) := s.readReg i a; (.ok v, t)
      | some (.gauntlet _) => let (v, t) := s.readReg i a; (.ok v, t)
      | some .private0 =>
        match i.core? with
        | some c => s.privRead c a
        | none => (.err .decode, s.ferr i a false z .decode)
      | _ => s.fabRead i a z

/-! ### The commands -/

/-- A word read whose value `rdata` keeps: 0 for a read that ends in an error response (R19; log entry 7). -/
def State.readWord (s : State) (i : Initiator) (a : Nat) : State :=
  match s.busRead i a .word with
  | (.ok v, t) => { t with rdata := v }
  | (.err _, t) => { t with rdata := 0 }

/-- REGISTER_WRITE (R8): a word write to address `a`. A register-access command stands for the access on the fabric: with a core
as its initiator it meets the fabric's rights, not that core's level and regions (DESIGN CHOICE; log entry 7). -/
def execRegisterWrite (i : Initiator) (a v : Word) (s : State) : Out := done (s.busWrite i a.toNat .word v.toNat).2

/-- READ_CLEAR (R8): a word read of address `a`; RC fields clear. -/
def execReadClear (i : Initiator) (a : Word) (s : State) : Out := done (s.readWord i a.toNat)

/-- LATCH_READ (R28): a word read of address `a`; the lowest word of a multi-word register loads the reader's latch, and a higher
one is read from it. -/
def execLatchRead (i : Initiator) (a : Word) (s : State) : Out :=
  let t := s.readWord i a.toNat
  done t

/-- MULTIWORD_COMMIT (R29): a word write to address `a`; the highest word of a multi-word register applies it with the writer's
pending words. -/
def execMultiwordCommit (i : Initiator) (a v : Word) (s : State) : Out :=
  let r := s.busWrite i a.toNat .word v.toNat
  done r.2

end Sys2Proof.Machine
end

