-- ==== Sys2Proof/Machine/Flags.lean ====
section
/-! DEFINITION. The condition flags N, Z, C, V and the saturation flag Q of control register c2, and the arithmetic that writes
them (spec/03 R75; spec/04 R109 to R119). -/

namespace Sys2Proof.Machine

/-- The flags as bits of c2. -/
def flagN (f : Word) : Bool := bitOf f 31
def flagZ (f : Word) : Bool := bitOf f 30
def flagC (f : Word) : Bool := bitOf f 29
def flagV (f : Word) : Bool := bitOf f 28
def flagQ (f : Word) : Bool := bitOf f 27

/-- N and Z of a result. -/
def setNZ (f r : Word) : Word := withBit (withBit f 31 r.msb) 30 (r == 0)

/-- What a flag-writing operation computes: its result, and C and V where it writes them (R110). -/
structure Alu where
  r : Word
  c : Option Bool
  v : Option Bool
deriving DecidableEq, Repr

/-- The flags after an operation that writes them (R110). -/
def Alu.flags (a : Alu) (f : Word) : Word :=
  let f1 := setNZ f a.r
  let f2 := match a.c with
    | some c => withBit f1 29 c
    | none => f1
  match a.v with
  | some v => withBit f2 28 v
  | none => f2

/-- x + y + carry: C is the carry out of bit 31, V signed overflow (R110). -/
def addCarry (x y : Word) (cin : Bool) : Alu :=
  let sum := x.toNat + y.toNat + cin.toNat
  let r := w32 sum
  { r := r, c := some (decide (0x100000000 ≤ sum)), v := some (x.msb == y.msb && r.msb != x.msb) }

/-- x − y, as x + ~y + 1: C = 1 means no borrow (R109, R110). -/
def subBorrow (x y : Word) : Alu := addCarry x (~~~y) true

/-- A logical operation writes N and Z only. -/
def logic (r : Word) : Alu := { r := r, c := none, v := none }

/-- Shifts and the rotation by `n` bits, 0 to 31: C takes the last bit shifted out, and stays for n = 0 (R110). -/
def shlBy (x : Word) (n : Nat) : Alu := { r := x <<< n, c := if n = 0 then none else some (bitOf x (32 - n)), v := none }
def shrBy (x : Word) (n : Nat) : Alu := { r := x >>> n, c := if n = 0 then none else some (bitOf x (n - 1)), v := none }
def sarBy (x : Word) (n : Nat) : Alu := { r := x.sshiftRight n, c := if n = 0 then none else some (bitOf x (n - 1)), v := none }
def rorBy (x : Word) (n : Nat) : Alu :=
  let r := x.rotateRight n
  { r := r, c := if n = 0 then none else some r.msb, v := none }

/-- A saturated result, with whether it was clamped (R111). -/
structure Sat where
  r : Word
  q : Bool
deriving DecidableEq, Repr

/-- The flags after a saturating operation: Q is sticky (R111). -/
def Sat.flags (a : Sat) (f : Word) : Word := if a.q then withBit f 27 true else f

/-- sat32. -/
def sat32 (i : Int) : Sat :=
  let j := clampI (-0x80000000) 0x7FFFFFFF i
  { r := w32i j, q := j != i }

/-- Clamp to the unsigned range. -/
def satU32 (i : Int) : Sat :=
  let j := clampI 0 0xFFFFFFFF i
  { r := w32i j, q := j != i }

/-! ### Lanes (R113) -/

/-- The two 16-bit lanes. -/
def loLane (x : Word) : Nat := fieldOf x 0 16
def hiLane (x : Word) : Nat := fieldOf x 16 16

/-- Join two lanes. -/
def joinLanes (lo hi : Nat) : Word := w32 (lo % 65536 + hi % 65536 * 65536)

/-- A wrapping operation on each lane. -/
def lanes (f : Nat → Nat → Nat) (x y : Word) : Word := joinLanes (f (loLane x) (loLane y)) (f (hiLane x) (hiLane y))

/-- A lane clamped to a range: its 16 bits, and whether it was clamped. -/
def clampLane (lo hi i : Int) : Nat × Bool :=
  let j := clampI lo hi i
  ((j % 65536).toNat, j != i)

/-- A saturating operation on each lane, over the signed or unsigned range. -/
def satLanes (lo hi : Int) (read : Nat → Int) (f : Int → Int → Int) (x y : Word) : Sat :=
  let a := clampLane lo hi (f (read (loLane x)) (read (loLane y)))
  let b := clampLane lo hi (f (read (hiLane x)) (read (hiLane y)))
  { r := joinLanes a.1 b.1, q := a.2 || b.2 }

/-- Signed lanes: sat16. -/
def satS16 (f : Int → Int → Int) (x y : Word) : Sat := satLanes (-32768) 32767 (signed 16) f x y

/-- Unsigned lanes. -/
def satU16 (f : Int → Int → Int) (x y : Word) : Sat := satLanes 0 65535 (fun n => (n : Int)) f x y

/-! ### Conditions (R119) -/

/-- Condition `n` of BC holds; 15 is reserved. -/
def condHolds (n : Nat) (f : Word) : Bool :=
  match n with
  | 0 => flagZ f
  | 1 => !flagZ f
  | 2 => flagC f
  | 3 => !flagC f
  | 4 => flagN f
  | 5 => !flagN f
  | 6 => flagV f
  | 7 => !flagV f
  | 8 => flagC f && !flagZ f
  | 9 => !flagC f || flagZ f
  | 10 => flagN f == flagV f
  | 11 => flagN f != flagV f
  | 12 => !flagZ f && flagN f == flagV f
  | 13 => flagZ f || flagN f != flagV f
  | _ => true

end Sys2Proof.Machine
end

