-- ==== Sys2Proof/Machine/Operands.lean ====
section
/-! DEFINITION. The operand forms of the cores' instructions (spec/04 R105, R112, R116, R118, R120): immediates, effective
addresses and branch targets. -/

namespace Sys2Proof.Machine

/-- sext(imm18). -/
def simm18 (imm : BitVec 18) : Word := imm.signExtend 32

/-- zext(imm18). -/
def zimm18 (imm : BitVec 18) : Word := imm.setWidth 32

/-- sext(imm22). -/
def simm22 (imm : BitVec 22) : Word := imm.signExtend 32

/-- imm22 << 10. -/
def high22 (imm : BitVec 22) : Word := imm.setWidth 32 <<< 10

/-- The target of a branch: pc + 4 × sext(imm18). -/
def branchTo (pc : Word) (imm : BitVec 18) : Word := pc + 4 * simm18 imm

/-- The target of a jump: pc + 4 × sext(off26). -/
def jumpTo (pc : Word) (off : BitVec 26) : Word := pc + 4 * off.signExtend 32

/-- The address of a load or store (R116): base plus offset, or the base itself in the post-increment form. -/
def memAddr (base : Word) (imm : BitVec 18) (post : Bool) : Word := if post then base else base + simm18 imm

/-- The amount of a shift by a register: its low five bits. -/
def shiftAmount (x : Word) : Nat := fieldOf x 0 5

end Sys2Proof.Machine
end

