-- ==== Sys2Proof/Machine/CpuBase.lean ====
section
/-! DEFINITION. How a core executes (spec/03): instruction fetch, data accesses, exceptions, entry and return, lock-up. An
instruction command carries its decoded operands; the word in memory is not compared with it (log entry 31). -/

namespace Sys2Proof.Machine

/-! ### Exceptions (R83, R84, R87, R88) -/

/-- A synchronous exception: its vector, and what EPC, EADDR and ECAUSE take. -/
structure Exc where
  vec : Nat
  epc : Word
  addr : Word
  cause : Word
deriving DecidableEq, Repr

abbrev V_UNDEF : Nat := 1
abbrev V_PRIV : Nat := 2
abbrev V_IALIGN : Nat := 3
abbrev V_DALIGN : Nat := 4
abbrev V_BUSERR : Nat := 5
abbrev V_IPROT : Nat := 6
abbrev V_DPROT : Nat := 7
abbrev V_DIVZ : Nat := 8
abbrev V_MEMERR : Nat := 9
abbrev V_BRK : Nat := 10
abbrev V_EVENT : Nat := 32

/-- The bits of ECAUSE. -/
abbrev C_WR : Nat := 0x4000
abbrev C_FETCH : Nat := 0x2000
abbrev C_IMP : Nat := 0x1000
abbrev C_MULTI : Nat := 0x8000
abbrev C_ATOM : Nat := 0x10000
abbrev C_EVT : Nat := 0x80000000

/-- An exception of the instruction at `pc`: `extra` holds ECAUSE bits beside VEC. -/
def excAt (pc : Word) (vec : Nat) (addr : Word) (extra : Nat) : Exc :=
  { vec := vec, epc := pc, addr := addr, cause := w32 (vec + extra) }

/-- The precise exception of an instruction whose cache operation met an error: the failing write-back's BUSERR, or MEMERR. -/
def CacheErr.exc (pc : Word) : CacheErr → Exc
  | .bus k a => excAt pc V_BUSERR (w32 a) (C_WR + k.code * 256)
  | .memory a => excAt pc V_MEMERR (w32 a) 0

/-- UNDEF, PRIV. -/
def excUndef (pc : Word) : Exc := excAt pc V_UNDEF 0 0
def excPriv (pc : Word) : Exc := excAt pc V_PRIV 0 0

/-- STATUS.IE, EXC and LVL. -/
def Core.ie (k : Core) : Bool := bitOf k.status 2
def Core.exc (k : Core) : Bool := bitOf k.status 3

/-- The level of a core inside a handler (R84). -/
def handlerLevel (c : CoreId) : Nat := if c = .g0 then 2 else 1

/-- STATUS after an entry (R84). -/
def entryStatus (st : Word) (lvl : Nat) : Word := w32 (lvl + 8 + fieldOf st 0 2 * 16 + fieldOf st 2 1 * 64)

/-- Lock-up (R88, R225): Cn stops with its registers, is recorded and reported; G0 takes a watchdog reset. -/
def State.lockUp (s : State) (c : CoreId) : State :=
  let t := s.setCore c { s.core c with run := .locked }
  if c = .g0 then t.wdgReset 4
  else ((t.setBit FLT_CORESTAT c.num true).event FLT_EVT 4 108).queueRecord c.num 3 0 0 0 0

/-! ### Data accesses (R79, R89, R94) -/

/-- How an access of a core ends: the value, or the vector and the fabric kind of its error. -/
inductive CoreReply where
  | ok (v : Nat)
  | err (vec kind : Nat)
deriving DecidableEq, Repr

/-- Where an access of a core to its own TCM or to G0's private SRAM lands on the memory map. -/
def ownMemory (c : CoreId) (a : Nat) : Option (Region × Nat) :=
  match regionOf a with
  | some .ownTcm => if c = .g0 then none else some (.tcm c.num, 0x08100000 + c.num * 0x10000 + (a - 0x08000000))
  | some .g0sram => if c = .g0 then some (.g0sram, a) else none
  | _ => none

/-- A read by core `c` past its caches. -/
def State.directRead (s : State) (c : CoreId) (a : Nat) (z : Size) : CoreReply × State :=
  match ownMemory c a with
  | some (r, p) =>
    match s.memRead r (c == .g0) p z.bytes with
    | (some v, t) => (.ok v, t)
    | (none, t) => (.err V_MEMERR 0, t)
  | none =>
    match s.busRead c.init a z with
    | (.ok v, t) => (.ok v, t)
    | (.err k, t) => (.err V_BUSERR k.code, t)

/-- A write by core `c` past its caches. -/
def State.directWrite (s : State) (c : CoreId) (a : Nat) (z : Size) (v : Nat) : Option (Nat × Option ErrKind) × State :=
  match ownMemory c a with
  | some (r, p) =>
    match s.memWrite r (some c) p z.bytes v with
    | (true, t) => (none, t)
    | (false, t) => (some (V_MEMERR, none), t)
  | none =>
    match s.busWrite c.init a z v with
    | (.ok _, t) => (none, t)
    | (.err k, t) => (some (V_BUSERR, some k), t)

/-- A read by core `c` after its checks. -/
def State.coreRead (s : State) (c : CoreId) (a : Nat) (z : Size) : CoreReply × State :=
  if s.cacheable c a then
    match s.fillLine c (a / 32) with
    | (.ok l, t) => (.ok (ofLe ((l.bytes.drop (a % 32)).take z.bytes)), t)
    | (.error (vec, kind), t) => (.err vec kind, t)
  else s.directRead c a z

/-- A store goes through the write buffer: SRAM and expert memory (R89). -/
def bufferedStore (a : Nat) : Bool :=
  match regionOf a with
  | some .sram => true
  | some (.expert _) => true
  | _ => false

/-- A write by core `c` after its checks: the error of a buffered store is imprecise. -/
def State.coreWrite (s : State) (c : CoreId) (a : Nat) (z : Size) (v : Nat) : CoreReply × State :=
  if s.cacheable c a then
    match s.fillLine c (a / 32) with
    | (.ok l, t) =>
      (.ok 0, t.setDline c (a / 32) { bytes := putBytes l.bytes (a % 32) (leBytes z.bytes v), dirty := true, err := false })
    | (.error (vec, kind), t) => (.err vec kind, t)
  else
    match s.directWrite c a z v with
    | (none, t) => (.ok 0, t)
    | (some (vec, none), t) => (.err vec 0, t)
    | (some (vec, some k), t) => if bufferedStore a then (.ok 0, t.imprecise c a k) else (.err vec k.code, t)

/-- The checks of a data access at `a` by the instruction at `pc`, in the order of R87: PRIV for a store of G0 at Host level to a
control register of R77, DALIGN, and DPROT by R76 to R78. -/
def dataCheck (k : Core) (c : CoreId) (a : Nat) (z : Size) (wr : Bool) : Option Exc :=
  let extra := if wr then C_WR else 0
  let priv := decide (0xF0000000 ≤ a ∧ a ≤ 0xF000FFFF)
  if c == .g0 && k.lvl == 1 && wr && z == .word && priv && decide (a < 0xF0000100) && a % 4 == 0 && ctlGuardOnly (privReg a) then
    some (excPriv k.pc)
  else if a % z.bytes ≠ 0 then some (excAt k.pc V_DALIGN (w32 a) extra)
  else if (k.lvl == 0 && priv) || !k.permits (if wr then 2 else 1) a ||
      (c == .g0 && k.lvl != 2 && decide (0x50000000 ≤ a ∧ a ≤ 0x5005FFFF)) then
    some (excAt k.pc V_DPROT (w32 a) extra)
  else none

/-! ### Entry (R84, R88) -/

/-- What a core does after an entry: its handler, or, with c8 at 0, the boot ROM's routine, which stops it until a reset (R546). -/
def Core.handles (k : Core) : CoreRun := if k.vbase = 0 then .idleLoop else .running

/-- Exception entry: the registers take their values, the reservation clears (R100), and pc takes the vector's handler. A failed
read of the vector entry locks the core up (R88). -/
def State.enter (s : State) (c : CoreId) (e : Exc) : State :=
  let k := s.core c
  let t := s.setCore c { k with
    epc := e.epc, eaddr := e.addr, ecause := e.cause, status := entryStatus k.status (handlerLevel c), reserved := none, run := .running }
  match t.coreRead c ((k.vbase.toNat + 4 * e.vec) % 0x100000000) .word with
  | (.ok v, u) => u.setCore c { u.core c with pc := w32 (v / 4 * 4), run := k.handles }
  | (.err _ _, u) => u.lockUp c

/-- A synchronous exception: entry, or lock-up inside a handler (R88). -/
def State.raiseExc (s : State) (c : CoreId) (e : Exc) : State := if (s.core c).exc then s.lockUp c else s.enter c e

/-! ### Fetch (R78, R80) -/

/-- The regions a core fetches from (R80). -/
def fetchable (c : CoreId) (a : Nat) : Bool :=
  match regionOf a with
  | some .rom => c != .g0
  | some .ownTcm => c != .g0
  | some .sram => true
  | some .xip => true
  | some .g0sram => c == .g0
  | _ => false

/-- The fetch of the instruction at pc: nothing, or its exception. -/
def State.fetch (s : State) (c : CoreId) : Option Exc × State :=
  let k := s.core c
  let a := k.pc.toNat
  if !fetchable c a || !k.permits 3 a then (some (excAt k.pc V_IPROT k.pc C_FETCH), s)
  else
    match ownMemory c a with
    | some (r, p) =>
      match s.memRead r (c == .g0) p 4 with
      | (some _, t) => (none, t)
      | (none, t) => (some (excAt k.pc V_MEMERR k.pc C_FETCH), t)
    | none =>
      if s.cacheable c a then
        match s.fillInstr c (a / 32) with
        | (none, t) => (none, t)
        | (some e, t) => (some (excAt k.pc V_BUSERR k.pc (C_FETCH + e.code * 256)), t)
      else
        match s.fabRead c.init a .word with
        | (.ok _, t) => (none, t)
        | (.err e, t) => (some (excAt k.pc V_BUSERR k.pc (C_FETCH + e.code * 256)), t)

/-! ### Instructions -/

/-- Core `c` runs, in a powered core domain (R90, R547, R548). -/
def State.runs (s : State) (c : CoreId) : Bool := s.powered && (s.core c).run == .running

/-- Execute an instruction of core `c`: a core that does not run executes nothing; a fault of the fetch comes first (R87). -/
def State.instr (s : State) (c : CoreId) (body : State → State) : State :=
  if s.runs c then
    match s.fetch c with
    | (some e, t) => t.raiseExc c e
    | (none, t) => body t
  else s

/-- The instruction retires with the core's new state `k`, at the next address. A core that its own access has reset or stopped
keeps that. -/
def State.retire_ (s : State) (c : CoreId) (f : Core → Core) : State :=
  let k := s.core c
  if k.run = .running then s.setCore c { f k with pc := k.pc + 4 } else s

end Sys2Proof.Machine
end

