-- ==== Sys2Proof/Machine/CpuSys.lean ====
section
/-! DEFINITION. Control-register and system instructions, the cache operations, undefined words, events and wake-ups of the
cores (spec/03 R81 to R92, R97; spec/04 R106, R122, R123, R130). -/

namespace Sys2Proof.Machine

/-! ### Control registers (R122) -/

/-- CTLR: absent and write-only registers raise UNDEF, those refused at Task level PRIV. -/
def execCtlr (c : CoreId) (d : Fin 16) (n : Fin 64) (s : State) : Out :=
  done (s.instr c (fun t =>
    let k := t.core c
    if !ctlReads n.val then t.raiseExc c (excUndef k.pc)
    else if k.lvl == 0 && !ctlTaskReads n.val then t.raiseExc c (excPriv k.pc)
    else
      match t.ctlRead c n.val with
      | (v, u) => u.retire_ c (fun q => q.setReg d.val v)))

/-- A write of control register `n` by an instruction: absent and read-only registers raise UNDEF; those refused at the level
PRIV; a write-back that it forces and that ends in an error response a precise BUSERR; a dirty line with an error MEMERR. -/
def State.ctlWriteInstr (s : State) (c : CoreId) (n a : Nat) : State :=
  s.instr c (fun t =>
    let k := t.core c
    if !ctlWrites n then t.raiseExc c (excUndef k.pc)
    else if (k.lvl == 0 && !ctlTaskWrites n) || (c == .g0 && k.lvl == 1 && ctlGuardOnly n) then t.raiseExc c (excPriv k.pc)
    else
      match t.ctlWrite c n (k.reg a) with
      | (some e, u) => u.raiseExc c (e.exc k.pc)
      | (none, u) => u.retire_ c (fun q => q))

/-- CTLW. -/
def execCtlw (c : CoreId) (n : Fin 64) (a : Fin 16) (s : State) : Out := done (s.ctlWriteInstr c n.val a.val)
/-- ICINV. -/
def execIcinv (c : CoreId) (a : Fin 16) (s : State) : Out := done (s.ctlWriteInstr c 16 a.val)
/-- DCCLEAN. -/
def execDcclean (c : CoreId) (a : Fin 16) (s : State) : Out := done (s.ctlWriteInstr c 17 a.val)
/-- DCCLINV. -/
def execDcclinv (c : CoreId) (a : Fin 16) (s : State) : Out := done (s.ctlWriteInstr c 18 a.val)
/-- DCINV. -/
def execDcinv (c : CoreId) (a : Fin 16) (s : State) : Out := done (s.ctlWriteInstr c 19 a.val)
/-- ICINVALL. -/
def execIcinvall (c : CoreId) (a : Fin 16) (s : State) : Out := done (s.ctlWriteInstr c 20 a.val)
/-- DCCLINVALL. -/
def execDcclinvall (c : CoreId) (a : Fin 16) (s : State) : Out := done (s.ctlWriteInstr c 21 a.val)
/-- DCINVALL. -/
def execDcinvall (c : CoreId) (a : Fin 16) (s : State) : Out := done (s.ctlWriteInstr c 22 a.val)

/-! ### System instructions (R123) -/

/-- STATUS.PLVL and PIE. -/
def Core.plvl (k : Core) : Nat := fieldOf k.status 4 2
def Core.pie (k : Core) : Bool := bitOf k.status 6

/-- STATUS after ERET (R85). -/
def returnStatus (st : Word) : Word :=
  w32 (fieldOf st 4 2 + fieldOf st 6 1 * 4 + fieldOf st 4 2 * 16 + fieldOf st 6 1 * 64)

/-- ERET: UNDEF for a PLVL that the core has not, then PRIV at Task level (R85, R87). -/
def execEret (c : CoreId) (s : State) : Out :=
  done (s.instr c (fun t =>
    let k := t.core c
    if k.plvl == 3 || (k.plvl == 2 && c != .g0) then t.raiseExc c (excUndef k.pc)
    else if k.lvl == 0 then t.raiseExc c (excPriv k.pc)
    else t.setCore c { k with status := returnStatus k.status, pc := k.epc &&& 0xFFFFFFFC, reserved := none }))

/-- BRK. -/
def execBrk (c : CoreId) (s : State) : Out :=
  done (s.instr c (fun t => t.raiseExc c (excAt (t.core c).pc V_BRK 0 0)))

/-- TRAP n: c3 holds the next instruction. -/
def execTrap (c : CoreId) (n : Fin 16) (s : State) : Out :=
  done (s.instr c (fun t => t.raiseExc c (excAt ((t.core c).pc + 4) (48 + n.val) 0 0)))

/-- FENCE (R97): the commands before it have completed at their targets. -/
def execFence (c : CoreId) (s : State) : Out := done (s.instr c (fun t => t.retire_ c (fun q => q)))

/-- IDLE (R90): PRIV at Task level; it retires at once where LINE is 1. -/
def execIdle (c : CoreId) (s : State) : Out :=
  done (s.instr c (fun t =>
    let k := t.core c
    if k.lvl == 0 then t.raiseExc c (excPriv k.pc)
    else if t.line c.num then t.retire_ c (fun q => { q with reserved := none })
    else t.setCore c { k with reserved := none, run := .idle }))

/-- UNDEFINED_WORD (R106): a fetched word that is no instruction raises UNDEF; a word that is one is not this row's. -/
def execUndefinedWord (c : CoreId) (w : Word) (s : State) : Out :=
  done (
    match decodeRyux c w with
    | some _ => s
    | none => s.instr c (fun t => t.raiseExc c (excUndef (t.core c).pc)))

/-! ### Wake-ups (R90, R130) -/

/-- A stopped instruction of core `c` retires. -/
def State.wakeCore (s : State) (c : CoreId) (f : Core → Core) : State :=
  let k := s.core c
  (s.setCore c { f k with run := .running, pc := k.pc + 4 }).leaveDoze

/-- IDLE_WAKE: LINE is 1. -/
def execIdleWake (c : CoreId) (s : State) : Out :=
  done (if s.powered && (s.core c).run == .idle && s.line c.num then s.wakeCore c (fun k => k) else s)

/-- The WBEAT or WBEATN of core `c` whose end has come retires. -/
def State.beatWake (s : State) (c : CoreId) : State :=
  match (s.core c).run with
  | .wbeat d (some b) => s.wakeCore c (fun k => k.setReg d (w32 b))
  | .wbeatn d _ (some b) => s.wakeCore c (fun k => k.setReg d (w32 b))
  | _ => s

/-- WBEAT_WAKE: the edge has come. -/
def execWbeatWake (c : CoreId) (s : State) : Out :=
  done (
    match (s.core c).run with
    | .wbeat _ _ => if s.powered then s.beatWake c else s
    | _ => s)

/-- WBEATN_WAKE: an edge after which BEAT_COUNT has reached the target has come. -/
def execWbeatnWake (c : CoreId) (s : State) : Out :=
  done (
    match (s.core c).run with
    | .wbeatn _ _ _ => if s.powered then s.beatWake c else s
    | _ => s)

/-! ### Events and imprecise errors (R86, R89, R90) -/

/-- An imprecise BUSERR is due: held, with EXC 0 (R89). -/
def Core.impDue (k : Core) : Bool := k.heldErr.isSome && !k.exc

/-- Where EVENT resumes: after IDLE, at a blocked TAKE, WBEAT or WBEATN, or at the next instruction (R90). -/
def Core.resumeAt (k : Core) : Word := if k.run = .idle then k.pc + 4 else k.pc

/-- The core stands between two instructions or is stopped under R90: not in reset, not locked up, and not in a DONE or POST
that waits. -/
def Core.interruptible (k : Core) : Bool :=
  match k.run with
  | .held => false
  | .locked => false
  | .idleLoop => false
  | .disp _ _ => false
  | _ => true

/-- EVENT may be taken: LINE and IE are 1, between two instructions or while stopped (R86). -/
def State.eventDue (s : State) (c : CoreId) : Bool :=
  let k := s.core c
  s.powered && k.interruptible && k.ie && s.line c.num

/-- EVENT_ENTRY: LINE and IE are 1, between two instructions or while stopped; a held imprecise BUSERR comes first (R87). -/
def execEventEntry (c : CoreId) (s : State) : Out :=
  let t := s.beatWake c
  let k := t.core c
  done (
    if !t.eventDue c || k.impDue then s
    else (t.enter c { vec := V_EVENT, epc := k.resumeAt, addr := 0, cause := w32 (C_EVT + V_EVENT) }).leaveDoze)

/-- IMPRECISE_BUSERR: the oldest error response on its way arrives. It is held, or lost where one is held (R89). -/
def execImpreciseBuserr (c : CoreId) (s : State) : Out :=
  let k := s.core c
  done (
    match k.storeErrs with
    | [] => s
    | e :: rest =>
      match k.heldErr with
      | none => s.setCore c { k with storeErrs := rest, heldErr := some e, ecause := k.ecause ||| w32 C_IMP }
      | some _ => s.setCore c { k with storeErrs := rest, lostErr := true, ecause := k.ecause ||| w32 C_MULTI })

/-- The core stands at a boundary at which an imprecise error can be taken: between two instructions, or where IDLE ends or EVENT
would end a blocked instruction (R86, R87, R90; log entry 31). -/
def State.impBoundary (s : State) (c : CoreId) : Bool :=
  s.runs c || s.eventDue c || (s.powered && (s.core c).run == .idle && s.line c.num)

/-- IMPRECISE_BUSERR_TAKE: a held error is taken at a boundary once EXC is 0. -/
def execImpreciseBuserrTake (c : CoreId) (s : State) : Out :=
  let t := s.beatWake c
  let k := t.core c
  done (
    match k.heldErr with
    | none => s
    | some e =>
      if t.impBoundary c && k.impDue then
        let extra := C_WR + C_IMP + e.kind * 256 + if k.lostErr then C_MULTI else 0
        ((t.setCore c { k with heldErr := none, lostErr := false }).enter c (excAt k.resumeAt V_BUSERR (w32 e.addr) extra)).leaveDoze
      else s)

end Sys2Proof.Machine
end

