-- ==== Sys2Proof/Machine/CpuDis.lean ====
section
/-! DEFINITION. The Dispatcher and beat instructions (spec/04 R124 to R131). Their FENCE costs no step: the commands before one of
these have completed when it is served. -/

namespace Sys2Proof.Machine

/-- TAKE, SLOT and DONE are undefined on G0; a destination pair starts at an even register (R124). -/
def pairBad (c : CoreId) (d : Nat) : Bool := c == .g0 || d % 2 == 1

/-- TAKE (R125, R126): UNDEF with a current task; in Palm mode a full slot delivers at once; otherwise the core stops. -/
def execTake (c : CoreId) (d : Fin 16) (s : State) : Out :=
  done (s.instr c (fun t =>
    let k := t.core c
    let n := c.num
    if pairBad c d.val || (t.disCore n).cur.isSome then t.raiseExc c (excUndef k.pc)
    else
      match t.palm n, (t.disCore n).slot with
      | true, some idx =>
        let u := (t.setDisCore n { t.disCore n with slot := none, slotAt := 0 }).deliverTask n idx d.val
        u.retire_ c (fun q => { q with reserved := none })
      | _, _ => t.setCore c { k with reserved := none, run := .take d.val }))

/-- SLOT (R127). -/
def execSlot (c : CoreId) (d : Fin 16) (s : State) : Out :=
  done (s.instr c (fun t =>
    let k := t.core c
    let n := c.num
    if pairBad c d.val || (t.disCore n).cur.isSome then t.raiseExc c (excUndef k.pc)
    else
      match t.palm n, (t.disCore n).slot with
      | true, some idx =>
        let u := (t.setDisCore n { t.disCore n with slot := none, slotAt := 0 }).deliverTask n idx d.val
        u.retire_ c (fun q => { q with reserved := none, flags := withBit q.flags 30 false })
      | _, _ => t.retire_ c (fun q =>
          { (q.setReg d.val 0).setReg (d.val + 1) 0 with reserved := none, flags := withBit q.flags 30 true })))

/-- DONE (R128): it waits under R131 and R138; `pick` chooses the successor's descriptor, which the spec leaves open. -/
def execDone (c : CoreId) (d : Fin 16) (pick : Nat) (s : State) : Out :=
  done (s.instr c (fun t =>
    if c = .g0 then t.raiseExc c (excUndef (t.core c).pc)
    else if t.disWaits then t.setCore c { t.core c with reserved := none, run := .disp d.val (.done pick) }
    else
      match t.taskDone c.num pick with
      | (r, u) => u.retire_ c (fun q => { q.setReg d.val r with reserved := none })))

/-- POST (R129): it waits under R131 and R138; `pick` chooses the descriptor, which the spec leaves open. -/
def execPost (c : CoreId) (d a b : Fin 16) (pick : Nat) (s : State) : Out :=
  done (s.instr c (fun t =>
    let k := t.core c
    if t.disWaits then t.setCore c { k with run := .disp d.val (.post (k.reg a.val).toNat (k.reg b.val) pick) }
    else
      match t.post (k.reg a.val).toNat (k.reg b.val) pick with
      | (r, u) => u.retire_ c (fun q => q.setReg d.val r)))

/-- WBEAT (R130): the core stops until the next edge. -/
def execWbeat (c : CoreId) (d : Fin 16) (s : State) : Out :=
  done (s.instr c (fun t => t.setCore c { t.core c with reserved := none, run := .wbeat d.val none }))

/-- The 64-bit target of WBEATN. -/
def beatTarget (k : Core) (a : Nat) : Nat := (k.reg a).toNat + (k.reg (a + 1)).toNat * 0x100000000

/-- WBEATN (R130): it retires at once where BEAT_COUNT has reached the target. -/
def execWbeatn (c : CoreId) (d a : Fin 16) (s : State) : Out :=
  done (s.instr c (fun t =>
    let k := t.core c
    let n := beatTarget k a.val
    if a.val % 2 = 1 then t.raiseExc c (excUndef k.pc)
    else if n ≤ t.beatNo then t.retire_ c (fun q => { q.setReg d.val (w32 t.beatNo) with reserved := none })
    else t.setCore c { k with reserved := none, run := .wbeatn d.val n none }))

end Sys2Proof.Machine
end

