-- ==== Sys2Proof/Machine/CpuFlow.lean ====
section
/-! DEFINITION. Branches and jumps of the cores (spec/04 R118 to R120). -/

namespace Sys2Proof.Machine

/-- A compare branch: gd with gs. -/
def State.branchIf (s : State) (c : CoreId) (d a : Nat) (imm : BitVec 18) (op : Word → Word → Bool) : State :=
  s.instr c (fun t =>
    let k := t.core c
    t.setCore c { k with pc := if op (k.reg d) (k.reg a) then branchTo k.pc imm else k.pc + 4 })

/-- BEQ. -/
def execBeq (c : CoreId) (d a : Fin 16) (imm : BitVec 18) (s : State) : Out :=
  done (s.branchIf c d.val a.val imm (fun x y => x == y))
/-- BNE. -/
def execBne (c : CoreId) (d a : Fin 16) (imm : BitVec 18) (s : State) : Out :=
  done (s.branchIf c d.val a.val imm (fun x y => x != y))
/-- BLT. -/
def execBlt (c : CoreId) (d a : Fin 16) (imm : BitVec 18) (s : State) : Out :=
  done (s.branchIf c d.val a.val imm (fun x y => x.slt y))
/-- BGE. -/
def execBge (c : CoreId) (d a : Fin 16) (imm : BitVec 18) (s : State) : Out :=
  done (s.branchIf c d.val a.val imm (fun x y => !x.slt y))
/-- BLTU. -/
def execBltu (c : CoreId) (d a : Fin 16) (imm : BitVec 18) (s : State) : Out :=
  done (s.branchIf c d.val a.val imm (fun x y => x.ult y))
/-- BGEU. -/
def execBgeu (c : CoreId) (d a : Fin 16) (imm : BitVec 18) (s : State) : Out :=
  done (s.branchIf c d.val a.val imm (fun x y => !x.ult y))

/-- BC: condition 15 is reserved and raises UNDEF (R106, R119). -/
def execBc (c : CoreId) (cond : Fin 16) (imm : BitVec 18) (s : State) : Out :=
  done (s.instr c (fun t =>
    let k := t.core c
    if cond.val = 15 then t.raiseExc c (excUndef k.pc)
    else t.setCore c { k with pc := if condHolds cond.val k.flags then branchTo k.pc imm else k.pc + 4 }))

/-- J. -/
def execJ (c : CoreId) (off : BitVec 26) (s : State) : Out :=
  done (s.instr c (fun t => t.setCore c { t.core c with pc := jumpTo (t.core c).pc off }))

/-- CALL. -/
def execCall (c : CoreId) (off : BitVec 26) (s : State) : Out :=
  done (s.instr c (fun t =>
    let k := t.core c
    t.setCore c { k.setReg 15 (k.pc + 4) with pc := jumpTo k.pc off }))

/-- A jump to the address in a register: IALIGN, with nothing written, where it is not a multiple of 4. -/
def State.jumpReg (s : State) (c : CoreId) (a : Nat) (link : Bool) : State :=
  s.instr c (fun t =>
    let k := t.core c
    let target := k.reg a
    if target.toNat % 4 ≠ 0 then t.raiseExc c (excAt k.pc V_IALIGN target 0)
    else t.setCore c { (if link then k.setReg 15 (k.pc + 4) else k) with pc := target })

/-- JR. -/
def execJr (c : CoreId) (a : Fin 16) (s : State) : Out := done (s.jumpReg c a.val false)
/-- CALLR. -/
def execCallr (c : CoreId) (a : Fin 16) (s : State) : Out := done (s.jumpReg c a.val true)

end Sys2Proof.Machine
end

