-- ==== Sys2Proof/Machine/CpuInt.lean ====
section
/-! DEFINITION. Integer, immediate, pair SIMD, multiply and divide instructions (spec/04 R109 to R115). -/

namespace Sys2Proof.Machine

/-- An operation on registers s and t that writes d, and the flags where F is 1 (R109, R110). -/
def State.aluOp (s : State) (c : CoreId) (d a b : Nat) (f : Bool) (op : Word → Word → Word → Alu) : State :=
  s.instr c (fun t => t.retire_ c (fun k =>
    let r := op k.flags (k.reg a) (k.reg b)
    { k.setReg d r.r with flags := if f then r.flags k.flags else k.flags }))

/-- An operation on registers s and t that writes d and no flag. -/
def State.plainOp (s : State) (c : CoreId) (d a b : Nat) (op : Word → Word → Word) : State :=
  s.instr c (fun t => t.retire_ c (fun k => k.setReg d (op (k.reg a) (k.reg b))))

/-- A saturating operation (R111). -/
def State.satOp (s : State) (c : CoreId) (d a b : Nat) (op : Word → Word → Sat) : State :=
  s.instr c (fun t => t.retire_ c (fun k =>
    let r := op (k.reg a) (k.reg b)
    { k.setReg d r.r with flags := r.flags k.flags }))

/-- An operation on register s and an immediate that writes d and no flag (R112). -/
def State.immOp (s : State) (c : CoreId) (d a : Nat) (op : Word → Word) : State :=
  s.instr c (fun t => t.retire_ c (fun k => k.setReg d (op (k.reg a))))

/-- A comparison that writes the flags alone. -/
def State.cmpOp (s : State) (c : CoreId) (op : Core → Alu) : State :=
  s.instr c (fun t => t.retire_ c (fun k => { k with flags := (op k).flags k.flags }))

/-- 1 or 0. -/
def boolWord (b : Bool) : Word := if b then 1 else 0

/-- ADD. -/
def execAdd (c : CoreId) (d a b : Fin 16) (f : Bool) (s : State) : Out :=
  done (s.aluOp c d.val a.val b.val f (fun _ x y => addCarry x y false))
/-- SUB. -/
def execSub (c : CoreId) (d a b : Fin 16) (f : Bool) (s : State) : Out :=
  done (s.aluOp c d.val a.val b.val f (fun _ x y => subBorrow x y))
/-- ADC. -/
def execAdc (c : CoreId) (d a b : Fin 16) (f : Bool) (s : State) : Out :=
  done (s.aluOp c d.val a.val b.val f (fun fl x y => addCarry x y (flagC fl)))
/-- SBC. -/
def execSbc (c : CoreId) (d a b : Fin 16) (f : Bool) (s : State) : Out :=
  done (s.aluOp c d.val a.val b.val f (fun fl x y => addCarry x (~~~y) (flagC fl)))
/-- AND. -/
def execAndR (c : CoreId) (d a b : Fin 16) (f : Bool) (s : State) : Out :=
  done (s.aluOp c d.val a.val b.val f (fun _ x y => logic (x &&& y)))
/-- OR. -/
def execOrR (c : CoreId) (d a b : Fin 16) (f : Bool) (s : State) : Out :=
  done (s.aluOp c d.val a.val b.val f (fun _ x y => logic (x ||| y)))
/-- XOR. -/
def execXorR (c : CoreId) (d a b : Fin 16) (f : Bool) (s : State) : Out :=
  done (s.aluOp c d.val a.val b.val f (fun _ x y => logic (x ^^^ y)))
/-- ANDN. -/
def execAndn (c : CoreId) (d a b : Fin 16) (f : Bool) (s : State) : Out :=
  done (s.aluOp c d.val a.val b.val f (fun _ x y => logic (x &&& ~~~y)))
/-- SHL. -/
def execShl (c : CoreId) (d a b : Fin 16) (f : Bool) (s : State) : Out :=
  done (s.aluOp c d.val a.val b.val f (fun _ x y => shlBy x (shiftAmount y)))
/-- SHR. -/
def execShr (c : CoreId) (d a b : Fin 16) (f : Bool) (s : State) : Out :=
  done (s.aluOp c d.val a.val b.val f (fun _ x y => shrBy x (shiftAmount y)))
/-- SAR. -/
def execSar (c : CoreId) (d a b : Fin 16) (f : Bool) (s : State) : Out :=
  done (s.aluOp c d.val a.val b.val f (fun _ x y => sarBy x (shiftAmount y)))
/-- ROR. -/
def execRor (c : CoreId) (d a b : Fin 16) (f : Bool) (s : State) : Out :=
  done (s.aluOp c d.val a.val b.val f (fun _ x y => rorBy x (shiftAmount y)))
/-- SLT. -/
def execSlt (c : CoreId) (d a b : Fin 16) (s : State) : Out :=
  done (s.plainOp c d.val a.val b.val (fun x y => boolWord (x.slt y)))
/-- SLTU. -/
def execSltu (c : CoreId) (d a b : Fin 16) (s : State) : Out :=
  done (s.plainOp c d.val a.val b.val (fun x y => boolWord (x.ult y)))
/-- MIN. -/
def execMin (c : CoreId) (d a b : Fin 16) (s : State) : Out :=
  done (s.plainOp c d.val a.val b.val (fun x y => if x.slt y then x else y))
/-- MAX. -/
def execMax (c : CoreId) (d a b : Fin 16) (s : State) : Out :=
  done (s.plainOp c d.val a.val b.val (fun x y => if x.slt y then y else x))
/-- MINU. -/
def execMinu (c : CoreId) (d a b : Fin 16) (s : State) : Out :=
  done (s.plainOp c d.val a.val b.val (fun x y => if x.ult y then x else y))
/-- MAXU. -/
def execMaxu (c : CoreId) (d a b : Fin 16) (s : State) : Out :=
  done (s.plainOp c d.val a.val b.val (fun x y => if x.ult y then y else x))
/-- ADDS. -/
def execAdds (c : CoreId) (d a b : Fin 16) (s : State) : Out :=
  done (s.satOp c d.val a.val b.val (fun x y => sat32 (x.toInt + y.toInt)))
/-- SUBS. -/
def execSubs (c : CoreId) (d a b : Fin 16) (s : State) : Out :=
  done (s.satOp c d.val a.val b.val (fun x y => sat32 (x.toInt - y.toInt)))
/-- ADDUS. -/
def execAddus (c : CoreId) (d a b : Fin 16) (s : State) : Out :=
  done (s.satOp c d.val a.val b.val (fun x y => satU32 ((x.toNat : Int) + y.toNat)))
/-- SUBUS. -/
def execSubus (c : CoreId) (d a b : Fin 16) (s : State) : Out :=
  done (s.satOp c d.val a.val b.val (fun x y => satU32 ((x.toNat : Int) - y.toNat)))

/-- Leading zero bits of a word. -/
def clzOf (x : Word) : Nat := ((List.range 32).takeWhile (fun i => !bitOf x (31 - i))).length

/-- CLZ. -/
def execClz (c : CoreId) (d a : Fin 16) (s : State) : Out := done (s.immOp c d.val a.val (fun x => w32 (clzOf x)))
/-- CMP. -/
def execCmp (c : CoreId) (a b : Fin 16) (s : State) : Out := done (s.cmpOp c (fun k => subBorrow (k.reg a.val) (k.reg b.val)))

/-! ### Immediates (R112) -/

/-- ADDI. -/
def execAddi (c : CoreId) (d a : Fin 16) (imm : BitVec 18) (s : State) : Out := done (s.immOp c d.val a.val (fun x => x + simm18 imm))
/-- SLTI. -/
def execSlti (c : CoreId) (d a : Fin 16) (imm : BitVec 18) (s : State) : Out :=
  done (s.immOp c d.val a.val (fun x => boolWord (x.slt (simm18 imm))))
/-- SLTIU. -/
def execSltiu (c : CoreId) (d a : Fin 16) (imm : BitVec 18) (s : State) : Out :=
  done (s.immOp c d.val a.val (fun x => boolWord (x.ult (simm18 imm))))
/-- ANDI. -/
def execAndi (c : CoreId) (d a : Fin 16) (imm : BitVec 18) (s : State) : Out := done (s.immOp c d.val a.val (fun x => x &&& zimm18 imm))
/-- ORI. -/
def execOri (c : CoreId) (d a : Fin 16) (imm : BitVec 18) (s : State) : Out := done (s.immOp c d.val a.val (fun x => x ||| zimm18 imm))
/-- XORI. -/
def execXori (c : CoreId) (d a : Fin 16) (imm : BitVec 18) (s : State) : Out := done (s.immOp c d.val a.val (fun x => x ^^^ zimm18 imm))
/-- SHLI. -/
def execShli (c : CoreId) (d a : Fin 16) (n : Fin 32) (s : State) : Out := done (s.immOp c d.val a.val (fun x => (shlBy x n.val).r))
/-- SHRI. -/
def execShri (c : CoreId) (d a : Fin 16) (n : Fin 32) (s : State) : Out := done (s.immOp c d.val a.val (fun x => (shrBy x n.val).r))
/-- SARI. -/
def execSari (c : CoreId) (d a : Fin 16) (n : Fin 32) (s : State) : Out := done (s.immOp c d.val a.val (fun x => (sarBy x n.val).r))
/-- CMPI. -/
def execCmpi (c : CoreId) (a : Fin 16) (imm : BitVec 18) (s : State) : Out :=
  done (s.cmpOp c (fun k => subBorrow (k.reg a.val) (simm18 imm)))
/-- LI. -/
def execLi (c : CoreId) (d : Fin 16) (imm : BitVec 22) (s : State) : Out := done (s.immOp c d.val d.val (fun _ => simm22 imm))
/-- LUI. -/
def execLui (c : CoreId) (d : Fin 16) (imm : BitVec 22) (s : State) : Out := done (s.immOp c d.val d.val (fun _ => high22 imm))

/-! ### Pair SIMD (R113) -/

/-- PADD. -/
def execPadd (c : CoreId) (d a b : Fin 16) (s : State) : Out := done (s.plainOp c d.val a.val b.val (lanes (fun x y => x + y)))
/-- PSUB. -/
def execPsub (c : CoreId) (d a b : Fin 16) (s : State) : Out := done (s.plainOp c d.val a.val b.val (lanes (fun x y => x + 65536 - y)))
/-- PADDS. -/
def execPadds (c : CoreId) (d a b : Fin 16) (s : State) : Out := done (s.satOp c d.val a.val b.val (satS16 (fun x y => x + y)))
/-- PSUBS. -/
def execPsubs (c : CoreId) (d a b : Fin 16) (s : State) : Out := done (s.satOp c d.val a.val b.val (satS16 (fun x y => x - y)))
/-- PADDUS. -/
def execPaddus (c : CoreId) (d a b : Fin 16) (s : State) : Out := done (s.satOp c d.val a.val b.val (satU16 (fun x y => x + y)))
/-- PSUBUS. -/
def execPsubus (c : CoreId) (d a b : Fin 16) (s : State) : Out := done (s.satOp c d.val a.val b.val (satU16 (fun x y => x - y)))
/-- PMULQ: Q15 products with rounding. -/
def execPmulq (c : CoreId) (d a b : Fin 16) (s : State) : Out :=
  done (s.satOp c d.val a.val b.val (satS16 (fun x y => (x * y + 0x4000) / 0x8000)))

/-- The exact sum of PDOT. -/
def dotSum (acc x y : Word) : Int :=
  acc.toInt + signed 16 (loLane x) * signed 16 (loLane y) + signed 16 (hiLane x) * signed 16 (hiLane y)

/-- PDOT: gd is the accumulator. -/
def execPdot (c : CoreId) (d a b : Fin 16) (s : State) : Out :=
  done (s.instr c (fun t => t.retire_ c (fun k =>
    let r := sat32 (dotSum (k.reg d.val) (k.reg a.val) (k.reg b.val))
    { k.setReg d.val r.r with flags := r.flags k.flags })))

/-! ### Multiply and divide (R114, R115) -/

/-- MUL. -/
def execMul (c : CoreId) (d a b : Fin 16) (s : State) : Out := done (s.plainOp c d.val a.val b.val (fun x y => x * y))
/-- MULH. -/
def execMulh (c : CoreId) (d a b : Fin 16) (s : State) : Out :=
  done (s.plainOp c d.val a.val b.val (fun x y => w32i ((x.toInt * y.toInt) / 0x100000000)))
/-- MULHU. -/
def execMulhu (c : CoreId) (d a b : Fin 16) (s : State) : Out :=
  done (s.plainOp c d.val a.val b.val (fun x y => w32 (x.toNat * y.toNat / 0x100000000)))
/-- MAC. -/
def execMac (c : CoreId) (d a b : Fin 16) (s : State) : Out :=
  done (s.instr c (fun t => t.retire_ c (fun k => k.setReg d.val (k.reg d.val + k.reg a.val * k.reg b.val))))

/-- A division: DIVZ for a divisor of 0, with gd unchanged (R115). -/
def State.divOp (s : State) (c : CoreId) (d a b : Nat) (op : Word → Word → Word) : State :=
  s.instr c (fun t =>
    let k := t.core c
    if k.reg b = 0 then t.raiseExc c (excAt k.pc V_DIVZ 0 0)
    else t.retire_ c (fun k => k.setReg d (op (k.reg a) (k.reg b))))

/-- DIV: toward zero; 0x8000_0000 by −1 wraps to itself. -/
def execDiv (c : CoreId) (d a b : Fin 16) (s : State) : Out :=
  done (s.divOp c d.val a.val b.val (fun x y => w32i (x.toInt.tdiv y.toInt)))
/-- DIVU. -/
def execDivu (c : CoreId) (d a b : Fin 16) (s : State) : Out :=
  done (s.divOp c d.val a.val b.val (fun x y => w32 (x.toNat / y.toNat)))
/-- REM: the sign follows gs. -/
def execRem (c : CoreId) (d a b : Fin 16) (s : State) : Out :=
  done (s.divOp c d.val a.val b.val (fun x y => w32i (x.toInt.tmod y.toInt)))
/-- REMU. -/
def execRemu (c : CoreId) (d a b : Fin 16) (s : State) : Out :=
  done (s.divOp c d.val a.val b.val (fun x y => w32 (x.toNat % y.toNat)))

end Sys2Proof.Machine
end

