-- ==== Sys2Proof/Machine/CpuMem.lean ====
section
/-! DEFINITION. Loads, stores and atomics of the cores (spec/03 R99, R100; spec/04 R116, R117, R121). -/

namespace Sys2Proof.Machine

/-- A load (R116, R117): gd takes the extended value, and in the post-increment form gs moves on. -/
def State.load (s : State) (c : CoreId) (d a : Nat) (imm : BitVec 18) (post : Bool) (z : Size) (ext : Nat → Word) : State :=
  s.instr c (fun t =>
    let k := t.core c
    let addr := (memAddr (k.reg a) imm post).toNat
    if post && d == a then t.raiseExc c (excUndef k.pc)
    else
      match dataCheck k c addr z false with
      | some e => t.raiseExc c e
      | none =>
        match t.coreRead c addr z with
        | (.err vec kind, u) => u.raiseExc c (excAt k.pc vec (w32 addr) (kind * 256))
        | (.ok v, u) => u.retire_ c (fun q =>
            let q1 := q.setReg d (ext v)
            if post then q1.setReg a (k.reg a + simm18 imm) else q1))

/-- A store (R116, R117): the low bytes of gd, as it was before the increment. -/
def State.store (s : State) (c : CoreId) (d a : Nat) (imm : BitVec 18) (post : Bool) (z : Size) : State :=
  s.instr c (fun t =>
    let k := t.core c
    let addr := (memAddr (k.reg a) imm post).toNat
    match dataCheck k c addr z true with
    | some e => t.raiseExc c e
    | none =>
      match t.coreWrite c addr z ((k.reg d).toNat % 2 ^ (8 * z.bytes)) with
      | (.err vec kind, u) => u.raiseExc c (excAt k.pc vec (w32 addr) (C_WR + kind * 256))
      | (.ok _, u) => u.retire_ c (fun q => if post then q.setReg a (k.reg a + simm18 imm) else q))

/-- The extensions of the loads. -/
def sextByte (v : Nat) : Word := w32i (signed 8 v)
def sextHalf (v : Nat) : Word := w32i (signed 16 v)

/-- LDB. -/
def execLdb (c : CoreId) (d a : Fin 16) (imm : BitVec 18) (s : State) : Out := done (s.load c d.val a.val imm false .byte sextByte)
/-- LDBU. -/
def execLdbu (c : CoreId) (d a : Fin 16) (imm : BitVec 18) (s : State) : Out := done (s.load c d.val a.val imm false .byte w32)
/-- LDH. -/
def execLdh (c : CoreId) (d a : Fin 16) (imm : BitVec 18) (s : State) : Out := done (s.load c d.val a.val imm false .half sextHalf)
/-- LDHU. -/
def execLdhu (c : CoreId) (d a : Fin 16) (imm : BitVec 18) (s : State) : Out := done (s.load c d.val a.val imm false .half w32)
/-- LDW. -/
def execLdw (c : CoreId) (d a : Fin 16) (imm : BitVec 18) (s : State) : Out := done (s.load c d.val a.val imm false .word w32)
/-- LDBP. -/
def execLdbp (c : CoreId) (d a : Fin 16) (imm : BitVec 18) (s : State) : Out := done (s.load c d.val a.val imm true .byte sextByte)
/-- LDBUP. -/
def execLdbup (c : CoreId) (d a : Fin 16) (imm : BitVec 18) (s : State) : Out := done (s.load c d.val a.val imm true .byte w32)
/-- LDHP. -/
def execLdhp (c : CoreId) (d a : Fin 16) (imm : BitVec 18) (s : State) : Out := done (s.load c d.val a.val imm true .half sextHalf)
/-- LDHUP. -/
def execLdhup (c : CoreId) (d a : Fin 16) (imm : BitVec 18) (s : State) : Out := done (s.load c d.val a.val imm true .half w32)
/-- LDWP. -/
def execLdwp (c : CoreId) (d a : Fin 16) (imm : BitVec 18) (s : State) : Out := done (s.load c d.val a.val imm true .word w32)
/-- STB. -/
def execStb (c : CoreId) (d a : Fin 16) (imm : BitVec 18) (s : State) : Out := done (s.store c d.val a.val imm false .byte)
/-- STH. -/
def execSth (c : CoreId) (d a : Fin 16) (imm : BitVec 18) (s : State) : Out := done (s.store c d.val a.val imm false .half)
/-- STW. -/
def execStw (c : CoreId) (d a : Fin 16) (imm : BitVec 18) (s : State) : Out := done (s.store c d.val a.val imm false .word)
/-- STBP. -/
def execStbp (c : CoreId) (d a : Fin 16) (imm : BitVec 18) (s : State) : Out := done (s.store c d.val a.val imm true .byte)
/-- STHP. -/
def execSthp (c : CoreId) (d a : Fin 16) (imm : BitVec 18) (s : State) : Out := done (s.store c d.val a.val imm true .half)
/-- STWP. -/
def execStwp (c : CoreId) (d a : Fin 16) (imm : BitVec 18) (s : State) : Out := done (s.store c d.val a.val imm true .word)

/-! ### Atomics -/

/-- The regions of LDX and STC (R99). -/
def atomRegion (c : CoreId) (a : Nat) : Bool :=
  match regionOf a with
  | some .sram => true
  | some (.expert _) => true
  | some .ownTcm => c != .g0
  | _ => false

/-- The checks of an LDX or STC: alignment, the regions of R99, then the rights of R78. DESIGN CHOICE (log entry 31): ATOM is set
where R99 refuses the region; an LDX or STC in an allowed region that R78's rights refuse leaves it 0. -/
def atomCheck (k : Core) (c : CoreId) (a : Nat) (wr : Bool) : Option Exc :=
  let extra := if wr then C_WR else 0
  if a % 4 ≠ 0 then some (excAt k.pc V_DALIGN (w32 a) extra)
  else if !atomRegion c a then some (excAt k.pc V_DPROT (w32 a) (C_ATOM + extra))
  else dataCheck k c a .word wr

/-- The line of an LDX is cleaned and invalidated first (R99). -/
def State.cleanForLdx (s : State) (c : CoreId) (a : Nat) : Option CacheErr × State :=
  if c = .g0 then (none, s) else s.cleanLine c (a / 32) true

/-- LDX: gd takes the word, and the reservation is set on its granule. -/
def execLdx (c : CoreId) (d a : Fin 16) (s : State) : Out :=
  done (s.instr c (fun t =>
    let k := t.core c
    let addr := (k.reg a.val).toNat
    match atomCheck k c addr false with
    | some e => t.raiseExc c e
    | none =>
      match t.cleanForLdx c addr with
      | (some e, u) => u.raiseExc c (e.exc k.pc)
      | (none, u) =>
        match u.directRead c addr .word with
        | (.err vec kind, x) => x.raiseExc c (excAt k.pc vec (w32 addr) (kind * 256))
        | (.ok v, x) => x.retire_ c (fun q => { q.setReg d.val (w32 v) with reserved := some (addr / 32) })))

/-- STC: gt is stored where the reservation is held, and gd says whether; the reservation is cleared. -/
def execStc (c : CoreId) (d b a : Fin 16) (s : State) : Out :=
  done (s.instr c (fun t =>
    let k := t.core c
    let addr := (k.reg a.val).toNat
    match atomCheck k c addr true with
    | some e => t.raiseExc c e
    | none =>
      if k.reserved = some (addr / 32) then
        match t.directWrite c addr .word (k.reg b.val).toNat with
        | (some (vec, e), u) =>
          let kind := match e with
            | some x => x.code
            | none => 0
          u.raiseExc c (excAt k.pc vec (w32 addr) (C_WR + kind * 256))
        | (none, u) => u.retire_ c (fun q => { q.setReg d.val 0 with reserved := none })
      else t.retire_ c (fun q => { q.setReg d.val 1 with reserved := none })))

end Sys2Proof.Machine
end

