-- ==== Sys2Proof/Machine/CryptoRun.lean ====
section
/-! DEFINITION. The end of a crypto operation (spec/08 R231 to R234): what the engine has read, computed and written. -/

namespace Sys2Proof.Machine

/-- Word at register `a` of the input registers that a running operation took. -/
def CryOp.word (o : CryOp) (a : Nat) : Nat := (o.regs.getD ((a - CRY_SRC) / 4) 0).toNat

/-- A number held in `n` of them from `a` up, most significant word first (R230). -/
def CryOp.be (o : CryOp) (a n : Nat) : Nat := (List.range n).foldl (fun acc k => acc * 0x100000000 + o.word (a + 4 * k)) 0

/-- Bytes as numbers, and back. -/
def natsOf (l : List Byte) : List Nat := l.map (fun b => b.toNat)
def bytesOf (l : List Nat) : List Byte := l.map (BitVec.ofNat 8)

/-- The status codes of CRY_STAT.ST beyond those of every block. -/
abbrev CRY_TAGFAIL : Nat := 4
abbrev CRY_BADSIG : Nat := 5
abbrev CRY_BUSERR : Nat := 6

/-- The operation ends with status `st`: source 114 for OK, 115 otherwise (R233; for RNGFAIL, log entry 16). -/
def State.cryEnd (s : State) (st : Nat) : State :=
  let t := (s.setBit CRY_STAT 31 false).setFld CRY_STAT 0 4 st
  { t with gnt := { t.gnt with cryOp := none } }.raise (if st = 0 then 114 else 115)

/-- SHA-256 (R232). The digest of an operation that continues after one with LAST = 1, whose length is no whole number of blocks,
is not stated: free values. -/
def State.cryHash (s : State) (o : CryOp) : State :=
  match s.readRun .g0 (o.word CRY_SRC) (o.word CRY_LEN) with
  | (_, some _, t) => t.cryEnd CRY_BUSERR
  | (b, none, t) =>
    let first := o.flags.testBit 1
    let len0 := if first then 0 else t.gnt.shaLen
    let h0 := if first then shaInit else (List.range 8).map (fun k => w32 (o.word (CRY_HASH k)))
    let total := len0 + b.length
    let msg := if o.flags.testBit 2 then natsOf b ++ shaPad total else natsOf b
    let h := shaBlocks h0 msg (msg.length / 64)
    let u := { t with gnt := { t.gnt with shaLen := total } }
    let put := (List.range 8).foldl (fun (x : State) k =>
      if len0 % 64 = 0 then x.setRg (CRY_HASH k) (h.getD k 0)
      else
        let (f, y) := x.draw
        y.setRg (CRY_HASH k) (w32 f)) u
    put.cryEnd 0

/-- The key of an AES operation: its words in 32 bits, and the round keys. -/
def State.cryKeys (s : State) (slot : Nat) : Nat × List (List Nat) :=
  let k := s.keySlot slot
  let nk := if k.type = 1 then 4 else 8
  (nk, aesKeys ((natBytes 32 k.key).take (4 * nk)) nk)

/-- Write the output of an AES operation. -/
def State.cryWrite (s : State) (o : CryOp) (l : List Nat) : Bool × State :=
  match s.writeRun .g0 (o.word CRY_DST) (bytesOf l) with
  | (none, t) => (true, t)
  | (some _, t) => (false, t)

/-- An AES operation whose input ends in an error after the bytes `l`: how many whole blocks of output were written before is not
stated (a free value), and they stay written (R233). -/
def State.cryCut (s : State) (o : CryOp) (out : List Nat) : State :=
  let (f, t) := s.draw
  (t.cryWrite o (out.take (f % (out.length / 16 + 1) * 16))).2.cryEnd CRY_BUSERR

/-- AES-CBC: CRY_IV takes the last ciphertext block. -/
def State.cryCbc (s : State) (o : CryOp) : State :=
  let (nk, keys) := s.cryKeys o.slot
  let iv := natBytes 16 (o.be (CRY_IV 0) 4)
  let (b, e, t) := s.readRun .g0 (o.word CRY_SRC) (o.word CRY_LEN)
  let r := aesCbc keys nk (o.flags.testBit 0) iv (natsOf b) (b.length / 16)
  match e with
  | some _ => t.cryCut o r.1
  | none =>
    match t.cryWrite o r.1 with
    | (false, u) => u.cryEnd CRY_BUSERR
    | (true, u) => (u.setRgBe (CRY_IV 0) 4 (bytesNat r.2)).cryEnd 0

/-- AES-CTR: CRY_IV is the counter, advanced modulo 2^128. -/
def State.cryCtr (s : State) (o : CryOp) : State :=
  let (nk, keys) := s.cryKeys o.slot
  let iv := o.be (CRY_IV 0) 4
  let (b, e, t) := s.readRun .g0 (o.word CRY_SRC) (o.word CRY_LEN)
  let n := (b.length + 15) / 16
  let out := aesCtr keys nk 128 iv (natsOf b) n
  match e with
  | some _ => t.cryCut o out
  | none =>
    match t.cryWrite o out with
    | (false, u) => u.cryEnd CRY_BUSERR
    | (true, u) => (u.setRgBe (CRY_IV 0) 4 ((iv + n) % 2 ^ 128)).cryEnd 0

/-- AES-GCM: a decryption whose tag differs writes zeros (R233). -/
def State.cryGcm (s : State) (o : CryOp) : State :=
  let (nk, keys) := s.cryKeys o.slot
  let iv := o.be (CRY_IV 0) 3
  let dec := o.flags.testBit 0
  match s.readRun .g0 (o.word CRY_AAD) (o.word CRY_AADLEN) with
  | (_, some _, t) => t.cryEnd CRY_BUSERR
  | (aad, none, t) =>
    let (b, e, u) := t.readRun .g0 (o.word CRY_SRC) (o.word CRY_LEN)
    let out := aesCtr keys nk 32 (iv * 2 ^ 32 + 2) (natsOf b) ((b.length + 15) / 16)
    match e with
    | some _ => u.cryCut o out
    | none =>
      let tag := gcmTag keys nk iv (natsOf aad) (if dec then natsOf b else out)
      let good := !dec || tag == o.be (CRY_TAG 0) 4
      match u.cryWrite o (if good then out else out.map (fun _ => 0)) with
      | (false, x) => x.cryEnd CRY_BUSERR
      | (true, x) =>
        if !good then x.cryEnd CRY_TAGFAIL
        else if dec then x.cryEnd 0
        else (x.setRgBe (CRY_TAG 0) 4 tag).cryEnd 0

/-- The public key of a private key. -/
def pubOf (d : Nat) : Option (Nat × Nat) := ecMul d p256g

/-- ECDSA signature: the nonce is random, a free value. -/
def State.crySign (s : State) (o : CryOp) : State :=
  if s.bit CRY_STAT 8 then s.cryEnd ST_RNGFAIL
  else
    let (f, t) := s.draw
    let sig := ecSign (o.be (CRY_HASH 0) 8) (s.keySlot o.slot).key (f % (p256n - 1) + 1)
    ((t.setRgBe (CRY_SIG 0) 8 sig.1).setRgBe (CRY_SIG 8) 8 sig.2).cryEnd 0

/-- ECDSA verification. -/
def State.cryVerify (s : State) (o : CryOp) : State :=
  let q := if o.flags.testBit 3 then pubOf (s.keySlot o.slot).key else some (o.be (CRY_PUB 0) 8, o.be (CRY_PUB 8) 8)
  s.cryEnd (if ecVerify (o.be (CRY_HASH 0) 8) (o.be (CRY_SIG 0) 8) (o.be (CRY_SIG 8) 8) q then 0 else CRY_BADSIG)

/-- Public key of a slot. -/
def State.cryPublic (s : State) (o : CryOp) : State :=
  match pubOf (s.keySlot o.slot).key with
  | none => s.cryEnd 0
  | some (x, y) => ((s.setRgBe (CRY_PUB 0) 8 x).setRgBe (CRY_PUB 8) 8 y).cryEnd 0

/-- CRY_DONE (R233): the running operation ends. -/
def execCryDone (s : State) : Out :=
  done (
    match s.gnt.cryOp with
    | none => s
    | some o =>
      match o.op with
      | 1 => s.cryHash o
      | 2 => s.cryCbc o
      | 3 => s.cryCtr o
      | 4 => s.cryGcm o
      | 5 => s.crySign o
      | 6 => s.cryVerify o
      | _ => s.cryPublic o)

end Sys2Proof.Machine
end

