-- ==== Sys2Proof/Machine/DmaMove.lean ====
section
/-! DEFINITION. The movement of the DMA (spec/07 R198 to R206): descriptor fetches, elements, level triggers and the end of a
descriptor; and remote register access over the link (spec/10 R307), which uses the bus in the same way. -/

namespace Sys2Proof.Machine

/-- The channel is WAIT or RUN, and the DMA is clocked (R13). -/
def State.dmaLive (s : State) (n : Nat) : Bool := s.bit SYS_CLKEN 0 && s.dmaBusy n

/-- DMA_DESC_FETCH (R200, R201, R206): the fetch of channel `n` completes: a fault halts it, a valid descriptor starts its first
burst, or waits for a trigger. -/
def execDmaDescFetch (n : Fin 16) (s : State) : Out :=
  let a := (s.rg (DMA_CH_DESC n.val)).toNat
  done (
    if s.dmaLive n.val && s.dmaPhase n.val == .fetch then
      match s.readRun .dma a 32 with
      | (_, some (k, e), t) => t.dmaHalt n.val 3 k.code e
      | (b, none, t) =>
        let r : DmaRun := { words := (List.range 8).map (fun j => w32 (ofLe ((b.drop (4 * j)).take 4))), row := 0, col := 0, burstLeft := 0 }
        let u := (t.setDmaRun n.val r).setDmaPhase n.val .move
        if r.invalid then u.dmaHalt n.val 4 0 a
        else if u.dmaTrig n.val = 0 then u.dmaBurst n.val
        else u.dmaWake n.val
    else s)

/-- The request of a level trigger (R202): UARTs, SPIs, I2Cs and the converter. -/
def State.dmaLevel (s : State) (t : Nat) : Bool :=
  if 32 ≤ t ∧ t ≤ 43 then
    let u := (t - 32) / 2
    if t % 2 = 0 then s.uartRxReq u else s.uartTxReq u
  else if t = 44 then !s.ospi.rx.isEmpty
  else if t = 45 then decide (s.ospi.tx.length < 64)
  else if 46 ≤ t ∧ t ≤ 51 then
    let x := s.spi ((t - 44) / 2)
    if t % 2 = 0 then !x.rx.isEmpty else decide (x.tx.length < 16)
  else if 52 ≤ t ∧ t ≤ 55 then
    let x := s.i2c ((t - 52) / 2)
    if t % 2 = 0 then !x.fifo.isEmpty && x.wleft == 0 else decide (x.fifo.length < 16) && decide (0 < x.wleft)
  else t == 56 && decide (0 < s.adcUnread)

/-- DMA_LEVEL_TRIGGER (R203): a request that is 1 starts a burst of channel `n` in WAIT. -/
def execDmaLevelTrigger (n : Fin 16) (s : State) : Out :=
  done (
    if s.dmaLive n.val && s.dmaState n.val == D_WAIT && s.dmaPhase n.val == .move && s.dmaLevel (s.dmaTrig n.val) then
      s.dmaBurst n.val
    else s)

/-- A channel has an element to move. -/
def State.dmaReady (s : State) (n : Nat) : Bool :=
  s.dmaState n == D_RUN && s.dmaPhase n == .move && decide (0 < (s.dmaRun n).burstLeft)

/-- DMA_CH_CFG.PRIO. -/
def State.dmaPrio (s : State) (n : Nat) : Nat := s.fld (DMA_CH_CFG n) 8 2

/-- The channel of PRIO `p` served last. -/
def State.dmaLast (s : State) (p : Nat) : Nat := smGet (fun _ => 15) s.dma.lastServed p

/-- The channel whose element is issued next (R204): the lowest PRIO, in rotation from the one of that PRIO served last. -/
def State.dmaNext (s : State) : Option Nat :=
  let ready := (List.range 16).filter s.dmaReady
  let best := ready.foldl (fun m n => min m (s.dmaPrio n)) 4
  ((List.range 16).map (fun k => (s.dmaLast best + 1 + k) % 16)).find? (fun n => s.dmaReady n && s.dmaPrio n == best)

/-- Channel `n` has moved an element: the next column or row, the end of the descriptor, or the end of a burst (R199, R202). -/
def State.dmaStep (s : State) (n : Nat) : State :=
  let r := s.dmaRun n
  let x := fieldOf (r.at_ 3) 0 16
  let y := fieldOf (r.at_ 3) 16 16
  let wrap := decide (x ≤ r.col + 1)
  let r1 : DmaRun := { r with col := if wrap then 0 else r.col + 1, row := if wrap then r.row + 1 else r.row, burstLeft := r.burstLeft - 1 }
  let t := s.setDmaRun n r1
  if y ≤ r1.row then t.setDmaPhase n .ending
  else if 0 < r1.burstLeft then t
  else if t.dmaTrig n = 0 then t.dmaBurst n
  else (t.setFld (DMA_CH_STAT n) 0 3 D_WAIT).dmaWake n

/-- DMA_ELEMENT (R204, R206): one element of the channel chosen is read and written. -/
def execDmaElement (s : State) : Out :=
  done (
    if !s.bit SYS_CLKEN 0 then s
    else
      match s.dmaNext with
      | none => s
      | some n =>
        let r := s.dmaRun n
        let w0 := r.at_ 0
        let z := Size.ofCode (fieldOf w0 0 2)
        let src := r.addr 1 4 (fieldOf w0 2 2)
        let dst := r.addr 2 5 (fieldOf w0 4 2)
        let s1 := { s with dma := { s.dma with lastServed := smSet (fun _ => 15) s.dma.lastServed (s.dmaPrio n) n } }
        match s1.busRead .dma src z with
        | (.err k, t) => t.dmaHalt n 1 k.code src
        | (.ok v, t) =>
          match t.busWrite .dma dst z v with
          | (.err k, u) => u.dmaHalt n 2 k.code dst
          | (.ok _, u) => if u.dmaReady n then u.dmaStep n else u)

/-- DMA_DESC_END (R205, R206): every write of channel `n`'s descriptor has completed: write-back, source 64 + n, then IDLE or
the next descriptor. -/
def execDmaDescEnd (n : Fin 16) (s : State) : Out :=
  let r := s.dmaRun n.val
  let w0 := r.at_ 0
  let a := (s.rg (DMA_CH_DESC n.val)).toNat
  done (
    if s.dmaLive n.val && s.dmaPhase n.val == .ending then
      let back := if bitOf w0 10 then s.busWrite .dma (a + 28) .word (r.at_ 7 ||| 0x80000000).toNat else (.ok 0, s)
      match back with
      | (.err k, t) => t.dmaHalt n.val 5 k.code (a + 28)
      | (.ok _, t) =>
        let t1 := if bitOf w0 9 then t.raise (64 + n.val) else t
        if bitOf w0 11 then t1.dmaIdle n.val
        else
          let t2 := (t1.setRg (DMA_CH_DESC n.val) (r.at_ 6)).setDmaPhase n.val .fetch
          t2.setFld (DMA_CH_STAT n.val) 0 3 (if t2.dmaTrig n.val = 0 then D_RUN else D_WAIT)
    else s)

/-! ### Remote register access (R307) -/

/-- One entry of a RACC request: OP, TAG, ADDR and DATA. -/
structure RaccEntry where
  op : Nat
  tag : Nat
  addr : Nat
  data : Nat
deriving DecidableEq, Repr

/-- The requests of a RACC payload (R285): at most 32 entries of 12 bytes; an entry with another OP is no request (log entry
17). -/
def raccEntries (pl : List Byte) : List RaccEntry :=
  ((List.range (min 32 (pl.length / 12))).map (fun k =>
    { op := fieldAt pl (12 * k) 1, tag := fieldAt pl (12 * k + 2) 2, addr := fieldAt pl (12 * k + 4) 4
      data := fieldAt pl (12 * k + 8) 4 })).filter (fun (e : RaccEntry) => e.op == 1 || e.op == 2)

/-- Execute one entry as initiator 6, or refuse it with PROTECT where the sender is not allowed: the reply's bytes. DATA of a
write's reply is not stated: a free value. -/
def State.raccOne (s : State) (allowed : Bool) (e : RaccEntry) : List Byte × State :=
  let out := if !allowed then (Reply.err .protect, s)
    else if e.op = 1 then s.busRead .link e.addr .word
    else s.busWrite .link e.addr .word e.data
  let kind := match out.1 with
    | .ok _ => 0
    | .err k => k.code
  let val := match out.1 with
    | .ok v => v
    | .err _ => 0
  let s1 := if kind = 0 then out.2 else out.2.lnkEvt 12
  let d := if e.op = 1 then (val, s1) else s1.draw
  ([BitVec.ofNat 8 (0x80 + e.op), BitVec.ofNat 8 kind] ++ beBytes 2 e.tag ++ beBytes 4 e.addr ++ beBytes 4 d.1, d.2)

/-- Execute the entries in order and collect the replies. -/
def State.raccAll (s : State) (allowed : Bool) : List RaccEntry → List Byte × State
  | [] => ([], s)
  | e :: l =>
    let (b, t) := s.raccOne allowed e
    let (bs, u) := State.raccAll t allowed l
    (b ++ bs, u)

/-- A RACC frame delivered here (R307): the replies leave in one frame of the bulk window. -/
def State.raccRx (s : State) (f : LinkFrame) : State :=
  let entries := raccEntries f.payload
  if entries.isEmpty then s
  else
    let (b, t) := s.raccAll (s.admitted f.src && s.mapBit LNK_RACL_LO f.src) entries
    t.sendFrame 10 f.src 4 b

/-- RACC_REQUEST_RX (R307): a RACC frame arrives on ring port `p`. -/
def execRaccRequestRx (p : Fin 2) (f : Llp) (s : State) : Out :=
  let r := s.receive p.val (frameOf f 10)
  done (if r.deliver then r.st.raccRx (frameOf f 10) else r.st)

end Sys2Proof.Machine
end

