-- ==== Sys2Proof/Machine/Edge.lean ====
section
/-! DEFINITION. The beat edge (spec/02 R43 to R70) with what every block does at it, the beat clients' deadlines, the start of
vertical blanking, the clock monitor's losses, and the fault manager's offers to the Ledger. -/

namespace Sys2Proof.Machine

/-! ### Which edge comes, and its number -/

/-- What places an edge: the generator or a follower's own placing, Output A's vertical blanking (R46), or the loss of it
(R47). -/
inductive EdgeKind where
  | placed | vblank | loss
deriving DecidableEq, Repr

/-- The lead takes its edges from Output A's vertical blanking (R46, R51). -/
def State.byVblank (s : State) : Bool := s.freeRun && !s.beat.forceGen

/-- The generator or a follower's placing decides the next edge: not in the silence of R50, and not while the lead waits for
vertical blanking. -/
def State.edgePlaced (s : State) : Bool :=
  s.powered && !s.beat.silent && (!s.byVblank || s.bit BEAT_STAT 4 || s.beat.len.isSome)

/-- The manager's number that the follower takes at this edge: at a step, and at the first edge after FREE (R54). -/
def State.managerNumber (s : State) : Option Nat :=
  let st := s.beatState
  if st = B_FREE ∨ st = B_LEAD then none
  else
    match s.beat.stepTo, s.beat.numbered, s.beat.frame with
    | some m, _, _ => some m
    | none, false, some b => some ((b.m : Int) + nearestEdge (s.rg64 LNK_TIME_LO - b.edge) b.num b.den).toNat
    | _, _, _ => none

/-- BEAT_COUNT at the edge (R54, R56): one more, or the manager's larger number; a smaller one ends the following. -/
def State.numberEdge (s : State) : State :=
  let n := s.beatNo + 1
  let up := fun (k : Nat) => s.setRg64 BEAT_COUNT_LO (k % 2 ^ 64)
  match s.managerNumber with
  | none => up n
  | some m =>
    let taken := fun (t : State) => { t with beat := { t.beat with numbered := true, stepTo := none } }
    if m = n then taken (up n)
    else if n < m then ((taken (up m)).setBit BEAT_EVT 5 true).raise 5
    else (((up n).setBit BEAT_EVT 6 true).raise 5).toBeatState B_FREE

/-- The rate announcement whose beat this edge reaches (R299): the follower takes it as its disciplined period,
provisionally (R300). -/
def State.takeRate (s : State) : State :=
  let st := s.beatState
  if st = B_FREE ∨ st = B_LEAD then s
  else
    match s.lnk.anns.find? (fun a => decide (a.beat ≤ s.beatNo)) with
    | none => s
    | some a =>
      let den := max 1 a.arg
      { s with
        beat := { s.beat with period := some (a.tag, den) }
        lnk := { s.lnk with
          rateTaken := some (a.beat, a.tag, den), anns := s.lnk.anns.filter (fun b => decide (s.beatNo < b.beat)) } }

/-- The counts of beats that R52, R275, R297 and R302 keep. -/
def State.countBeat (s : State) : State :=
  let hold := if s.beatState = B_HOLDOVER then s.beat.holdBeats + 1 else s.beat.holdBeats
  let s1 := { s with
    beat := { s.beat with
      noSync := if s.beat.heard then 0 else s.beat.noSync + 1
      inTol := if s.beat.heard then s.beat.inTol else 0
      holdBeats := hold, heard := false }
    lnk := { s.lnk with
      noBeat := if s.beat.heard then 0 else s.lnk.noBeat + 1
      members := s.lnk.members.map (fun m => { m with silent := m.silent + 1 }) } }
  let s2 := [0, 1].foldl (fun t p =>
    let x := t.port p
    t.setPort p { x with silent := x.silent + 1, beatLast := x.beatNow, beatNow := false }) s1
  if s2.leads then s2 else s2.followTopology

/-! ### Commit groups (R65, R66, R70) -/

/-- What follows the copy of domain `d`; `old` is the state before the copies. Any copy of domain 0 counts as firmware's commit of
BEAT_GEN values (R51), those that leave the pair as it was too (DESIGN CHOICE; log entry 8). -/
def State.afterCopy (s old : State) (d : Nat) : State :=
  if d = 0 then { s with beat := { s.beat with forceGen := false } }
  else if d ≤ 3 then s.setPipe (d - 1) { s.pipe (d - 1) with saved := [] }
  else if d ≤ 6 then
    let o := d - 4
    if s.lvFld (OUT_PCLK o) 0 18 ≠ old.lvFld (OUT_PCLK o) 0 18 ∧ ¬s.out.relock.contains o then
      (s.setOut { s.out with relock := o :: s.out.relock }).vertLost o
    else s
  else if d = 13 then s.tmrCommit old
  else s

/-- The copies of an applied group's domains. -/
def State.copyGroup (s : State) (n : Nat) : State :=
  (bitsSet (s.rg (CG_MEMBERS n)) 15).foldl (fun t d => (t.copyDomain d).afterCopy t d)
    { s with beat := { s.beat with copying := s.beat.copying ++ [n] } }

/-- Group `n` at the edge: judged at its target, and LATE past it. -/
def State.judgeGroup (s : State) (n : Nat) : State :=
  if s.cgOpen n && decide (s.cgBeat n ≤ s.beatNo) then
    if s.cgBeat n = s.beatNo ∧ s.cgMissing n = 0 then s.copyGroup n else s.cgLate n (s.cgMissing n)
  else s

/-- Every group at the edge; with no copies BEAT_BRIMUSE.LAST is 0. -/
def State.judgeGroups (s : State) : State :=
  let t := (List.range 8).foldl (fun u n => u.judgeGroup n) s
  if t.beat.copying.isEmpty then t.setFld BEAT_BRIMUSE 0 16 0 else t

/-! ### The length of the next beat (R44, R46, R51, R52) -/

/-- The period in force: the last disciplined one for a follower out of FREE and for a lead by failover, else the live
values. -/
def State.nextPeriod (s : State) : Nat × Nat :=
  let live := ((s.lv BEAT_GEN_NUM).toNat, max 1 (s.lvFld BEAT_GEN_DEN 0 8))
  let st := s.beatState
  if st = B_FREE ∨ (st = B_LEAD ∧ s.beat.forceGen = false) then live else s.beat.period.getD live

/-- Place the end of the beat that begins; a lead on vertical blanking waits for it. -/
def State.placeNext (s : State) : State :=
  if s.byVblank && !s.bit BEAT_STAT 4 then { s with beat := { s.beat with len := none } }
  else
    let q := s.nextPeriod
    let sum := s.beat.acc + q.1
    { s with beat := { s.beat with len := some (sum / max 1 q.2), acc := sum % max 1 q.2 } }

/-! ### Cores and audio at the edge -/

/-- A WBEAT that waits has seen its edge, and a WBEATN the first edge after which BEAT_COUNT has reached its target (R130). -/
def Core.seeEdge (k : Core) (n : Nat) : Core :=
  match k.run with
  | .wbeat d none => { k with run := .wbeat d (some n) }
  | .wbeatn d t none => if t ≤ n then { k with run := .wbeatn d t (some n) } else k
  | _ => k

/-- Every core at the edge. -/
def State.coresEdge (s : State) : State :=
  { s with c0 := s.c0.seeEdge s.beatNo, c1 := s.c1.seeEdge s.beatNo, c2 := s.c2.seeEdge s.beatNo,
           c3 := s.c3.seeEdge s.beatNo, g0 := s.g0.seeEdge s.beatNo }

/-- The audio output meets the edge (R384; log entry 20): a slip after a step, an adoption, a change of source or the first beat at
a new period, where the edge is more than a sample off. The frame clock was steered by the length of the beat before. -/
def State.slipEdge (s old : State) (len : Nat) : State :=
  let was := (old.rg BEAT_LAST).toNat
  let n := samplesIn (if was ≤ len then len - was else was - len)
  let adopted := s.beatNo != old.beatNo + 1
  let cause := old.beat.stepTo.isSome || adopted || s.bit BEAT_STAT 4 != old.bit BEAT_STAT 4 || old.aud.fresh
  let t := if adopted || (cause && decide (1 ≤ n)) then s.audSlip n else s
  t.setAud { t.aud with fresh := s.nextPeriod != old.nextPeriod }

/-! ### Deadlines (R58, R59) -/

/-- Client `k`'s deadline in cycles after the edge, where it has a place: 0 in BEAT_DLINE means the next edge, which a lead that
waits for vertical blanking has not placed. The period of a non-zero DLINE is the length of the present beat, and a product that
is no whole number of cycles is rounded down (DESIGN CHOICE; log entry 8). -/
def State.deadlineAt (s : State) (k : Nat) : Option Nat :=
  let d := s.lvFld (BEAT_DLINE k) 0 16
  if d = 0 then s.beat.len else some (d * s.beatLen / 65536)

/-- The judgement of client `k`'s work: whether it overruns, with its own OVERRUN event. -/
def State.clientLate (s : State) (k : Nat) : Bool × State :=
  if k ≤ 2 then
    let late := s.rasEnabled k && (decide ((s.pipe k).line < s.activeH k) || (s.pipe k).under)
    (late, if late then s.rasEvt k 1 else s)
  else if k = 3 then
    let late := s.lvBit AUD_CTRL 0 && s.aud.ready != some (s.beatNo + 1)
    (late, if late then s.audEvt 1 else s)
  else if k ≤ 5 then s.camDeadline (k - 4)
  else if k = 6 then s.recDeadline
  else if k = 7 then s.xpaDeadline
  else
    let late := s.bit BLT_STAT 4 && !s.blt.overran
    (late, if late then ((s.count BLT_OVRCNT 1).setBlt { s.blt with overran := true }).bltEvt 2 else s)

/-- Client `k` is judged at its deadline: an overrun sets its bit in BEAT_OVRSTAT and raises source 6 (R59). -/
def State.judgeClient (s : State) (k : Nat) : State :=
  match s.clientLate k with
  | (true, t) => (t.setBit BEAT_OVRSTAT k true).raise 6
  | (false, t) => t

/-- The clients whose deadline is this edge (R72). -/
def State.judgeAtEdge (s : State) : State :=
  s.beat.dueAtEdge.foldl (fun t k => t.judgeClient k) { s with beat := { s.beat with dueAtEdge := [] } }

/-! ### The edge -/

/-- SRCACT from this edge on (R47): the source that a lead uses; `was` tells whether it took its edges from vertical
blanking before the copies. -/
def State.sourceEdge (s : State) (k : EdgeKind) (was : Bool) : State :=
  let t := if k = .loss then { s with beat := { s.beat with acc := 0 } } else s
  let gen := match k with
    | .vblank => false
    | .loss => true
    | .placed => was && s.bit BEAT_STAT 4
  t.setBit BEAT_STAT 4 (s.beatState == B_LEAD && (!s.byVblank || gen))

/-- The generator's part: the phase and the length of the beat that ended, the number, the rate and the counts of beats. -/
def State.clockEdge (s : State) : State :=
  ((((s.setRg BEAT_LAST (s.rg BEAT_PHASE)).setRg BEAT_PHASE 0).numberEdge).takeRate).countBeat

/-- The blocks' part: what ended beats, then the groups' copies, then what begins with the beat. -/
def State.blocksEdge (s : State) : State :=
  let fs0 := (s.lvBit XPA_CTRL 0, s.lvBit XPA_SCHSEL 0)
  let s1 := (s.outEdge.audEdge).judgeGroups
  let changed := (s1.lvBit XPA_CTRL 0, s1.lvBit XPA_SCHSEL 0) != fs0
  let s2 := ((((s1.visEdgeAct 0).visEdgeAct 1).visEdgeAct 2).psrEdge).inputEdge
  let s3 := ((s2.rasEdge 0).rasEdge 1).rasEdge 2
  ((s3.bltEdge).xpaEdge changed).ldgEdge

/-- BRIM and the marks of the new beat (R58, R69), and what the edge causes. -/
def State.brimEdge (s : State) : State :=
  let s1 := { s with beat := { s.beat with marks := (List.range 8).map (fun m => (s.rg (BEAT_MARK m)).toNat) } }
  (((s1.setBit BEAT_STAT 8 true).raise 1).tmrEdge).dmaPulse 17

/-- A beat edge at the present moment. -/
def State.beatEdge (s0 : State) (k : EdgeKind) : State :=
  let s := s0.judgeAtEdge
  let s1 := (s.clockEdge.blocksEdge.brimEdge).sourceEdge k s.byVblank
  (s1.placeNext.slipEdge s (s.rg BEAT_PHASE).toNat).coresEdge

/-- BEAT_EDGE (R44, R48, R52): the beat's placed end has come. -/
def execBeatEdge (s : State) : Out :=
  done (if s.edgePlaced then (s.advanceTo s.beatLen).beatEdge .placed else s)

/-- SOURCE_LOSS (R47): 1.25 nominal periods after the edge without a usable start of vertical blanking. Where that is no whole
number of cycles the edge falls in the next one (DESIGN CHOICE; log entry 8). -/
def execSourceLoss (s : State) : Out :=
  done (
    if s.powered && s.byVblank && !s.bit BEAT_STAT 4 && s.beat.len.isNone then
      let num := (s.lv BEAT_GEN_NUM).toNat
      let den := 4 * max 1 (s.lvFld BEAT_GEN_DEN 0 8)
      (((s.advanceTo ((5 * num + den - 1) / den)).setBit BEAT_EVT 7 true).raise 7).beatEdge .loss
    else s)

/-- At least half a nominal period has passed since the edge (R46). -/
def State.halfPeriod (s : State) : Bool :=
  decide ((s.lv BEAT_GEN_NUM).toNat ≤ 2 * (s.rg BEAT_PHASE).toNat * max 1 (s.lvFld BEAT_GEN_DEN 0 8))

/-- VBLANK_START (R338, R340, R46, R47): Output `o` (0 A, 1 B in video mode) starts vertical blanking where its timing places
that, or now where that has passed; `t` is the cycle after the edge of a start that a free-running output's timing leaves open. -/
def execVblankStart (o : Fin 2) (t : Word) (s : State) : Out :=
  done (
    match s.vblankAt o.val t.toNat with
    | none => s
    | some n =>
      if !s.powered || !s.outClock || s.out.relock.contains o.val || (o.val == 1 && s.cmdMode) || !s.inBeat n then s
      else if o.val = 1 then ((s.advanceTo n).vblankHere 1).outEvt 3
      else
        let s2 := ((s.advanceTo n).vblankHere 0).outEvt 1
        if s2.byVblank && !s2.beat.silent && s2.halfPeriod && (s2.bit BEAT_STAT 4 || s2.beat.len.isNone) then s2.beatEdge .vblank
        else s2)

/-- CLIENT_DEADLINE (R59): client `k`'s deadline comes; one that has no place yet is judged in the cycle of the next edge. -/
def execClientDeadline (k : Fin 9) (s : State) : Out :=
  done (
    if !s.powered then s
    else
      match s.deadlineAt k.val with
      | some n => (s.advanceTo n).judgeClient k.val
      | none =>
        if s.beat.dueAtEdge.contains k.val then s
        else { s with beat := { s.beat with dueAtEdge := s.beat.dueAtEdge ++ [k.val] } })

/-! ### Clock losses (R11, R225) -/

/-- CLOCK_LOSS: PLL_SYS (0), PLL_AUD (1), PLL_PIX (2) loses lock, or XIN (3) stops. -/
def execClockLoss (k : Fin 4) (s : State) : Out :=
  done (
    if !s.powered then s
    else
      let t := ((s.setBit SYS_CLKSTAT k.val false).setBit SYS_CLKEVT k.val true).raise 29
      match k.val with
      | 0 => t.wdgReset 7
      | 1 => (t.faultReport 0x81C 1).faultReport 0x81D 1
      | 2 => ((t.outError 0 1 0).outError 1 1 0).outError 2 1 0
      | _ => t.wdgReset 6)

/-! ### Fault records (R223) -/

/-- Words as 64-bit memory words, low word first. -/
def pairWords : List Word → List Nat
  | a :: b :: l => (a.toNat + b.toNat * 0x100000000) :: pairWords l
  | [a] => [a.toNat]
  | [] => []

/-- FAULT_RECORD_OFFER: the head of the queue leaves it where the Ledger accepts it. -/
def execFaultRecordOffer (s : State) : Out :=
  done (
    match s.gnt.records with
    | [] => s
    | r :: rest =>
      if !s.powered then s
      else
        match s.offerRecord 0x20 (pairWords r) with
        | (true, t) => { t with gnt := { t.gnt with records := rest } }
        | (false, t) => t)

end Sys2Proof.Machine
end

