-- ==== Sys2Proof/Machine/LinkServe.lean ====
section
/-! DEFINITION. The link's reception of a whole frame by its class (spec/10 R273, R284), and the start of a window, which offers the
frames that stay in the receive buffers again (R286 to R291). -/

namespace Sys2Proof.Machine

/-! ### Windows (R286 to R291) -/

/-- A bulk frame that was held is offered again, by its type (R290). -/
def State.bulkAgain (s : State) (f : LinkFrame) : Bool × State :=
  match f.type with
  | 9 => s.msgAgain f
  | 10 => (true, s.raccRx f)
  | 11 => (true, if fieldAt f.payload 0 1 == 1 then s.bootReqRx f else s.bootDataRx f)
  | 12 => (true, s.resetRx f)
  | _ => (true, s)

/-- Every frame held in the bulk buffers is offered again. -/
def State.offerBulk (s : State) : State :=
  [0, 1].foldl (fun t p => t.offerHeld p 4 State.bulkAgain ((t.port p).win 4).held) s

/-- WINDOW_START (R286 to R291): window `w` of the beat opens. -/
def execWindowStart (w : Fin 5) (s : State) : Out :=
  let s0 := s.advanceTo (s.winStart w.val)
  let s1 := if w.val < 2 then s0 else s0.setFld (LNK_HELD (w.val - 1)) 0 16 (min 65535 (s0.waitingIn (w.val - 1)))
  let s2 := if w.val = 0 then s1.setFld (LNK_HELD 4) 0 16 (min 65535 (s1.waitingIn 4)) else s1
  done (
    if s2.adm = A_STOPPED ∨ w.val = 0 then s2
    else
      let s3 := if w.val = 1 then s2.ledgerWindow else s2
      let s4 := s3.offerAll.offerBulk
      [0, 1].foldl (fun t p => (t.resend p w.val).sendCredit p) s4)

/-! ### Frames by class (R273, R284) -/

/-- The LLP frame in the bytes of an Ethernet frame (R283): its TYPE, and the rest. -/
def llpOf (d : List Byte) : Nat × Llp :=
  let b := d.drop 14
  (fieldAt b 1 1,
    { gen := BitVec.ofNat 8 (fieldAt b 0 1), dst := BitVec.ofNat 8 (fieldAt b 2 1), src := BitVec.ofNat 8 (fieldAt b 3 1)
      hops := BitVec.ofNat 8 (fieldAt b 4 1), win := BitVec.ofNat 4 (fieldAt b 5 1 / 16), beat := w32 (fieldAt b 8 4)
      hseq := BitVec.ofNat 16 (fieldAt b 12 2), payload := (b.drop 16).take (fieldAt b 6 2) })

/-- A frame whose bytes are those of an LLP frame goes where the row of its TYPE takes it; a reserved TYPE is discarded and counted
(R284). -/
def llpRx (p : Fin 2) (type : Nat) (f : Llp) (s : State) : Out :=
  let kind := fieldAt f.payload 0 1
  match type with
  | 1 => execBeatFrameRx p f s
  | 2 => execHelloRx p f s
  | 3 => execAdmitRx p f s
  | 4 => execTopoRx p f s
  | 5 => execCreditRx p f s
  | 6 =>
    match kind with
    | 1 => execHandoffRx p f s
    | 2 => execAckRx p f s
    | 3 => execMirrorRx p f s
    | 4 => execConfirmRx p f s
    | 5 => execReleaseCursorRx p f s
    | _ => done (s.receive p.val (frameOf f 6)).st
  | 7 => execAudioFrameRx p f s
  | 8 => if kind = 0 then execTokenRx p f s else execResultRx p f s
  | 9 => execMsgRx p f s
  | 10 => execRaccRequestRx p f s
  | 11 => if kind = 1 then execBootReqRx p f s else execBootDataRx p f s
  | 12 => execResetFrameRx p f s
  | 13 => execWakeFrameRx p f s
  | t => done (s.receive p.val (frameOf f t)).st

/-- A frame on a ring port is a gPTP message (R273). -/
def isGptp (d : List Byte) : Bool := d.take 6 == gptpHead && (d.drop 12).take 2 == gptpType

/-- A frame on a ring port is an LLP frame (R273). -/
def State.isLlp (s : State) (d : List Byte) : Bool :=
  d.take 6 == llpHead && (d.drop 12).take 2 == beBytes 2 (s.fld LNK_ETYPE 0 16)

/-- RAW_FRAME_RX (R273, R284, R292, R310): the bytes `d` of a frame without FCS arrive on port `p`. On a ring port gPTP is consumed
by the port, whose own rows bring what it says, LLP goes to the row of its type, and the rest is raw; on port C all is raw. A ring
port in REQUAL carries peer-delay exchanges alone. -/
def execRawFrameRx (p : Fin 3) (d : List Byte) (s : State) : Out :=
  if !s.portUp p.val || s.chanState (0x810 + p.val) == 3 then done s
  else if h : p.val < 2 then
    if isGptp d then done (s.heardOn p.val)
    else if s.isLlp d then llpRx ⟨p.val, h⟩ (llpOf d).1 (llpOf d).2 s
    else done ((s.heardOn p.val).rawRx p.val d)
  else done (s.rawRx p.val d)

end Sys2Proof.Machine
end

