-- ==== Sys2Proof/Machine/Dispatch.lean ====
section
/-! DEFINITION. The dispatch: one arm a command. -/

namespace Sys2Proof.Machine

/-- The effect of a command on everything but the queue. -/
def exec (i : Instr) (s : State) : Host.Outcome State Fault Refusal :=
  match i with
  | .registerWrite who a v => Sys2Proof.Machine.execRegisterWrite who a v s
  | .readClear who a => Sys2Proof.Machine.execReadClear who a s
  | .latchRead who a => Sys2Proof.Machine.execLatchRead who a s
  | .multiwordCommit who a v => Sys2Proof.Machine.execMultiwordCommit who a v s
  | .sysClkenWrite who v => Sys2Proof.Machine.execSysClkenWrite who v s
  | .clockLoss k => Sys2Proof.Machine.execClockLoss k s
  | .ferrRearm who => Sys2Proof.Machine.execFerrRearm who s
  | .beatEdge => Sys2Proof.Machine.execBeatEdge s
  | .sourceLoss => Sys2Proof.Machine.execSourceLoss s
  | .discoveryEnd => Sys2Proof.Machine.execDiscoveryEnd s
  | .holdover => Sys2Proof.Machine.execHoldover s
  | .holdmaxExpiry => Sys2Proof.Machine.execHoldmaxExpiry s
  | .cgApplied n => Sys2Proof.Machine.execCgApplied n s
  | .brimEnd => Sys2Proof.Machine.execBrimEnd s
  | .clientDeadline k => Sys2Proof.Machine.execClientDeadline k s
  | .beatMark m => Sys2Proof.Machine.execBeatMark m s
  | .cgOpen who n => Sys2Proof.Machine.execCgOpen who n s
  | .cgCancel who n => Sys2Proof.Machine.execCgCancel who n s
  | .cgArm who n v => Sys2Proof.Machine.execCgArm who n v s
  | .cgMembersWrite who n v => Sys2Proof.Machine.execCgMembersWrite who n v s
  | .cgBeatWrite who n v => Sys2Proof.Machine.execCgBeatWrite who n v s
  | .shadowWrite who a v => Sys2Proof.Machine.execShadowWrite who a v s
  | .add c d a b f => Sys2Proof.Machine.execAdd c d a b f s
  | .sub c d a b f => Sys2Proof.Machine.execSub c d a b f s
  | .adc c d a b f => Sys2Proof.Machine.execAdc c d a b f s
  | .sbc c d a b f => Sys2Proof.Machine.execSbc c d a b f s
  | .andR c d a b f => Sys2Proof.Machine.execAndR c d a b f s
  | .orR c d a b f => Sys2Proof.Machine.execOrR c d a b f s
  | .xorR c d a b f => Sys2Proof.Machine.execXorR c d a b f s
  | .andn c d a b f => Sys2Proof.Machine.execAndn c d a b f s
  | .shl c d a b f => Sys2Proof.Machine.execShl c d a b f s
  | .shr c d a b f => Sys2Proof.Machine.execShr c d a b f s
  | .sar c d a b f => Sys2Proof.Machine.execSar c d a b f s
  | .ror c d a b f => Sys2Proof.Machine.execRor c d a b f s
  | .slt c d a b => Sys2Proof.Machine.execSlt c d a b s
  | .sltu c d a b => Sys2Proof.Machine.execSltu c d a b s
  | .min c d a b => Sys2Proof.Machine.execMin c d a b s
  | .max c d a b => Sys2Proof.Machine.execMax c d a b s
  | .minu c d a b => Sys2Proof.Machine.execMinu c d a b s
  | .maxu c d a b => Sys2Proof.Machine.execMaxu c d a b s
  | .adds c d a b => Sys2Proof.Machine.execAdds c d a b s
  | .subs c d a b => Sys2Proof.Machine.execSubs c d a b s
  | .addus c d a b => Sys2Proof.Machine.execAddus c d a b s
  | .subus c d a b => Sys2Proof.Machine.execSubus c d a b s
  | .clz c d a => Sys2Proof.Machine.execClz c d a s
  | .cmp c a b => Sys2Proof.Machine.execCmp c a b s
  | .addi c d a imm => Sys2Proof.Machine.execAddi c d a imm s
  | .slti c d a imm => Sys2Proof.Machine.execSlti c d a imm s
  | .sltiu c d a imm => Sys2Proof.Machine.execSltiu c d a imm s
  | .andi c d a imm => Sys2Proof.Machine.execAndi c d a imm s
  | .ori c d a imm => Sys2Proof.Machine.execOri c d a imm s
  | .xori c d a imm => Sys2Proof.Machine.execXori c d a imm s
  | .shli c d a n => Sys2Proof.Machine.execShli c d a n s
  | .shri c d a n => Sys2Proof.Machine.execShri c d a n s
  | .sari c d a n => Sys2Proof.Machine.execSari c d a n s
  | .cmpi c a imm => Sys2Proof.Machine.execCmpi c a imm s
  | .li c d imm => Sys2Proof.Machine.execLi c d imm s
  | .lui c d imm => Sys2Proof.Machine.execLui c d imm s
  | .padd c d a b => Sys2Proof.Machine.execPadd c d a b s
  | .psub c d a b => Sys2Proof.Machine.execPsub c d a b s
  | .padds c d a b => Sys2Proof.Machine.execPadds c d a b s
  | .psubs c d a b => Sys2Proof.Machine.execPsubs c d a b s
  | .paddus c d a b => Sys2Proof.Machine.execPaddus c d a b s
  | .psubus c d a b => Sys2Proof.Machine.execPsubus c d a b s
  | .pmulq c d a b => Sys2Proof.Machine.execPmulq c d a b s
  | .pdot c d a b => Sys2Proof.Machine.execPdot c d a b s
  | .mul c d a b => Sys2Proof.Machine.execMul c d a b s
  | .mulh c d a b => Sys2Proof.Machine.execMulh c d a b s
  | .mulhu c d a b => Sys2Proof.Machine.execMulhu c d a b s
  | .mac c d a b => Sys2Proof.Machine.execMac c d a b s
  | .div c d a b => Sys2Proof.Machine.execDiv c d a b s
  | .divu c d a b => Sys2Proof.Machine.execDivu c d a b s
  | .rem c d a b => Sys2Proof.Machine.execRem c d a b s
  | .remu c d a b => Sys2Proof.Machine.execRemu c d a b s
  | .ldb c d a imm => Sys2Proof.Machine.execLdb c d a imm s
  | .ldbu c d a imm => Sys2Proof.Machine.execLdbu c d a imm s
  | .ldh c d a imm => Sys2Proof.Machine.execLdh c d a imm s
  | .ldhu c d a imm => Sys2Proof.Machine.execLdhu c d a imm s
  | .ldw c d a imm => Sys2Proof.Machine.execLdw c d a imm s
  | .stb c d a imm => Sys2Proof.Machine.execStb c d a imm s
  | .sth c d a imm => Sys2Proof.Machine.execSth c d a imm s
  | .stw c d a imm => Sys2Proof.Machine.execStw c d a imm s
  | .ldbp c d a imm => Sys2Proof.Machine.execLdbp c d a imm s
  | .ldbup c d a imm => Sys2Proof.Machine.execLdbup c d a imm s
  | .ldhp c d a imm => Sys2Proof.Machine.execLdhp c d a imm s
  | .ldhup c d a imm => Sys2Proof.Machine.execLdhup c d a imm s
  | .ldwp c d a imm => Sys2Proof.Machine.execLdwp c d a imm s
  | .stbp c d a imm => Sys2Proof.Machine.execStbp c d a imm s
  | .sthp c d a imm => Sys2Proof.Machine.execSthp c d a imm s
  | .stwp c d a imm => Sys2Proof.Machine.execStwp c d a imm s
  | .beq c d a imm => Sys2Proof.Machine.execBeq c d a imm s
  | .bne c d a imm => Sys2Proof.Machine.execBne c d a imm s
  | .blt c d a imm => Sys2Proof.Machine.execBlt c d a imm s
  | .bge c d a imm => Sys2Proof.Machine.execBge c d a imm s
  | .bltu c d a imm => Sys2Proof.Machine.execBltu c d a imm s
  | .bgeu c d a imm => Sys2Proof.Machine.execBgeu c d a imm s
  | .bc c cond imm => Sys2Proof.Machine.execBc c cond imm s
  | .j c off => Sys2Proof.Machine.execJ c off s
  | .call c off => Sys2Proof.Machine.execCall c off s
  | .jr c a => Sys2Proof.Machine.execJr c a s
  | .callr c a => Sys2Proof.Machine.execCallr c a s
  | .ldx c d a => Sys2Proof.Machine.execLdx c d a s
  | .stc c d b a => Sys2Proof.Machine.execStc c d b a s
  | .ctlr c d n => Sys2Proof.Machine.execCtlr c d n s
  | .ctlw c n a => Sys2Proof.Machine.execCtlw c n a s
  | .icinv c a => Sys2Proof.Machine.execIcinv c a s
  | .dcclean c a => Sys2Proof.Machine.execDcclean c a s
  | .dcclinv c a => Sys2Proof.Machine.execDcclinv c a s
  | .dcinv c a => Sys2Proof.Machine.execDcinv c a s
  | .icinvall c a => Sys2Proof.Machine.execIcinvall c a s
  | .dcclinvall c a => Sys2Proof.Machine.execDcclinvall c a s
  | .dcinvall c a => Sys2Proof.Machine.execDcinvall c a s
  | .eret c => Sys2Proof.Machine.execEret c s
  | .brk c => Sys2Proof.Machine.execBrk c s
  | .trap c n => Sys2Proof.Machine.execTrap c n s
  | .fence c => Sys2Proof.Machine.execFence c s
  | .idle c => Sys2Proof.Machine.execIdle c s
  | .take c d => Sys2Proof.Machine.execTake c d s
  | .slot c d => Sys2Proof.Machine.execSlot c d s
  | .done c d pick => Sys2Proof.Machine.execDone c d pick s
  | .post c d a b pick => Sys2Proof.Machine.execPost c d a b pick s
  | .wbeat c d => Sys2Proof.Machine.execWbeat c d s
  | .wbeatn c d a => Sys2Proof.Machine.execWbeatn c d a s
  | .eventEntry c => Sys2Proof.Machine.execEventEntry c s
  | .impreciseBuserr c => Sys2Proof.Machine.execImpreciseBuserr c s
  | .impreciseBuserrTake c => Sys2Proof.Machine.execImpreciseBuserrTake c s
  | .idleWake c => Sys2Proof.Machine.execIdleWake c s
  | .wbeatWake c => Sys2Proof.Machine.execWbeatWake c s
  | .wbeatnWake c => Sys2Proof.Machine.execWbeatnWake c s
  | .disDwinWrite who w v => Sys2Proof.Machine.execDisDwinWrite who w v s
  | .mktpl who idx => Sys2Proof.Machine.execMktpl who idx s
  | .mkbnd who idx => Sys2Proof.Machine.execMkbnd who idx s
  | .disFree who idx => Sys2Proof.Machine.execDisFree who idx s
  | .disReady who idx => Sys2Proof.Machine.execDisReady who idx s
  | .disCancel who idx => Sys2Proof.Machine.execDisCancel who idx s
  | .disFlush who idx => Sys2Proof.Machine.execDisFlush who idx s
  | .flushDone => Sys2Proof.Machine.execFlushDone s
  | .disTickWrite who v => Sys2Proof.Machine.execDisTickWrite who v s
  | .disTimeTick => Sys2Proof.Machine.execDisTimeTick s
  | .delayWake l => Sys2Proof.Machine.execDelayWake l s
  | .taskHandover n pick => Sys2Proof.Machine.execTaskHandover n pick s
  | .slotFill n pick => Sys2Proof.Machine.execSlotFill n pick s
  | .slotSwap n pick => Sys2Proof.Machine.execSlotSwap n pick s
  | .slotMigrate n => Sys2Proof.Machine.execSlotMigrate n s
  | .disCoreWrite who n v => Sys2Proof.Machine.execDisCoreWrite who n v s
  | .disBindWrite who k v => Sys2Proof.Machine.execDisBindWrite who k v s
  | .sourceSignal src v => Sys2Proof.Machine.execSourceSignal src v s
  | .ecxSwtrig who v => Sys2Proof.Machine.execEcxSwtrig who v s
  | .ecxTgtWrite who src v => Sys2Proof.Machine.execEcxTgtWrite who src v s
  | .ecxPendWrite who g v => Sys2Proof.Machine.execEcxPendWrite who g v s
  | .ecxClaim who => Sys2Proof.Machine.execEcxClaim who s
  | .ecxDone who v => Sys2Proof.Machine.execEcxDone who v s
  | .ecxTctlWrite who t v => Sys2Proof.Machine.execEcxTctlWrite who t v s
  | .ecxQbaseWrite who t v => Sys2Proof.Machine.execEcxQbaseWrite who t v s
  | .queueRecordWrite t => Sys2Proof.Machine.execQueueRecordWrite t s
  | .queueRecordDone t => Sys2Proof.Machine.execQueueRecordDone t s
  | .ecxQrdWrite who t v => Sys2Proof.Machine.execEcxQrdWrite who t v s
  | .ecxOffer => Sys2Proof.Machine.execEcxOffer s
  | .holdoffEnd g t => Sys2Proof.Machine.execHoldoffEnd g t s
  | .scrubStep hit => Sys2Proof.Machine.execScrubStep hit s
  | .spareCopyDone b => Sys2Proof.Machine.execSpareCopyDone b s
  | .mramProgramDone r => Sys2Proof.Machine.execMramProgramDone r s
  | .dmaStart who n => Sys2Proof.Machine.execDmaStart who n s
  | .dmaStop who n => Sys2Proof.Machine.execDmaStop who n s
  | .dmaCfgWrite who n v => Sys2Proof.Machine.execDmaCfgWrite who n v s
  | .dmaDescWrite who n v => Sys2Proof.Machine.execDmaDescWrite who n v s
  | .dmaDescFetch n => Sys2Proof.Machine.execDmaDescFetch n s
  | .dmaTriggerPulse t => Sys2Proof.Machine.execDmaTriggerPulse t s
  | .dmaLevelTrigger n => Sys2Proof.Machine.execDmaLevelTrigger n s
  | .dmaElement => Sys2Proof.Machine.execDmaElement s
  | .dmaDescEnd n => Sys2Proof.Machine.execDmaDescEnd n s
  | .gntLogpop who => Sys2Proof.Machine.execGntLogpop who s
  | .wdgKick who v => Sys2Proof.Machine.execWdgKick who v s
  | .wdgLate => Sys2Proof.Machine.execWdgLate s
  | .wdgWarn => Sys2Proof.Machine.execWdgWarn s
  | .wdgGraceEnd => Sys2Proof.Machine.execWdgGraceEnd s
  | .wdgCfgWrite who v => Sys2Proof.Machine.execWdgCfgWrite who v s
  | .wdgLimitWrite who r v => Sys2Proof.Machine.execWdgLimitWrite who r v s
  | .faultReport ch detail => Sys2Proof.Machine.execFaultReport ch detail s
  | .faultWindowEnd ch => Sys2Proof.Machine.execFaultWindowEnd ch s
  | .faultRecordOffer => Sys2Proof.Machine.execFaultRecordOffer s
  | .fltRequal who ch => Sys2Proof.Machine.execFltRequal who ch s
  | .fltReinstate who ch => Sys2Proof.Machine.execFltReinstate who ch s
  | .fltAbort who ch => Sys2Proof.Machine.execFltAbort who ch s
  | .corerst who ch => Sys2Proof.Machine.execCorerst who ch s
  | .g0Mismatch => Sys2Proof.Machine.execG0Mismatch s
  | .keyGen who slot type usage => Sys2Proof.Machine.execKeyGen who slot type usage s
  | .keyLoad who slot type usage => Sys2Proof.Machine.execKeyLoad who slot type usage s
  | .keyErase who slot => Sys2Proof.Machine.execKeyErase who slot s
  | .keyLock who slot => Sys2Proof.Machine.execKeyLock who slot s
  | .keyDone => Sys2Proof.Machine.execKeyDone s
  | .sha256 who flags slot => Sys2Proof.Machine.execSha256 who flags slot s
  | .aesCbc who flags slot => Sys2Proof.Machine.execAesCbc who flags slot s
  | .aesCtr who flags slot => Sys2Proof.Machine.execAesCtr who flags slot s
  | .aesGcm who flags slot => Sys2Proof.Machine.execAesGcm who flags slot s
  | .ecdsaSign who flags slot => Sys2Proof.Machine.execEcdsaSign who flags slot s
  | .ecdsaVerify who flags slot => Sys2Proof.Machine.execEcdsaVerify who flags slot s
  | .publicKey who flags slot => Sys2Proof.Machine.execPublicKey who flags slot s
  | .cryDone => Sys2Proof.Machine.execCryDone s
  | .trngHealthFail => Sys2Proof.Machine.execTrngHealthFail s
  | .cryRngRead who => Sys2Proof.Machine.execCryRngRead who s
  | .ldgPut who v => Sys2Proof.Machine.execLdgPut who v s
  | .ldgAcceptance pick bad => Sys2Proof.Machine.execLdgAcceptance pick bad s
  | .ldgStart who => Sys2Proof.Machine.execLdgStart who s
  | .ldgRelease who => Sys2Proof.Machine.execLdgRelease who s
  | .ldgSnap who => Sys2Proof.Machine.execLdgSnap who s
  | .tsched who => Sys2Proof.Machine.execTsched who s
  | .tcancel who => Sys2Proof.Machine.execTcancel who s
  | .ldgFormat who => Sys2Proof.Machine.execLdgFormat who s
  | .tdefWrite who t w v => Sys2Proof.Machine.execTdefWrite who t w v s
  | .ldgRecovery => Sys2Proof.Machine.execLdgRecovery s
  | .ledgerHandoff => Sys2Proof.Machine.execLedgerHandoff s
  | .handoffRx p f => Sys2Proof.Machine.execHandoffRx p f s
  | .mirrorSend => Sys2Proof.Machine.execMirrorSend s
  | .mirrorRx p f => Sys2Proof.Machine.execMirrorRx p f s
  | .confirmRx p f => Sys2Proof.Machine.execConfirmRx p f s
  | .ackSend d => Sys2Proof.Machine.execAckSend d s
  | .ackRx p f => Sys2Proof.Machine.execAckRx p f s
  | .catchupSend high => Sys2Proof.Machine.execCatchupSend high s
  | .releaseCursorRx p f => Sys2Proof.Machine.execReleaseCursorRx p f s
  | .pfwRise vsys => Sys2Proof.Machine.execPfwRise vsys s
  | .ldgQuiet => Sys2Proof.Machine.execLdgQuiet s
  | .pfwRestore => Sys2Proof.Machine.execPfwRestore s
  | .pfwFall vsys => Sys2Proof.Machine.execPfwFall vsys s
  | .rawFrameRx p d => Sys2Proof.Machine.execRawFrameRx p d s
  | .portUp p => Sys2Proof.Machine.execPortUp p s
  | .portDown p => Sys2Proof.Machine.execPortDown p s
  | .portSilence p => Sys2Proof.Machine.execPortSilence p s
  | .gptpSyncRx p time => Sys2Proof.Machine.execGptpSyncRx p time s
  | .pdelayExchange p => Sys2Proof.Machine.execPdelayExchange p s
  | .pdelayReqRx p => Sys2Proof.Machine.execPdelayReqRx p s
  | .beatFrameSend => Sys2Proof.Machine.execBeatFrameSend s
  | .beatFrameRx p f => Sys2Proof.Machine.execBeatFrameRx p f s
  | .beatRelay => Sys2Proof.Machine.execBeatRelay s
  | .helloSend => Sys2Proof.Machine.execHelloSend s
  | .helloRx p f => Sys2Proof.Machine.execHelloRx p f s
  | .admitSend => Sys2Proof.Machine.execAdmitSend s
  | .admitRx p f => Sys2Proof.Machine.execAdmitRx p f s
  | .topoSend => Sys2Proof.Machine.execTopoSend s
  | .topoRx p f => Sys2Proof.Machine.execTopoRx p f s
  | .memberTimeout d => Sys2Proof.Machine.execMemberTimeout d s
  | .windowStart w => Sys2Proof.Machine.execWindowStart w s
  | .frameSend p w => Sys2Proof.Machine.execFrameSend p w s
  | .creditSend p => Sys2Proof.Machine.execCreditSend p s
  | .creditRx p f => Sys2Proof.Machine.execCreditRx p f s
  | .lnkStart who => Sys2Proof.Machine.execLnkStart who s
  | .lnkStop who => Sys2Proof.Machine.execLnkStop who s
  | .forget who d => Sys2Proof.Machine.execForget who d s
  | .lnkDeputyWrite who v => Sys2Proof.Machine.execLnkDeputyWrite who v s
  | .lnkAnnWrite who k v => Sys2Proof.Machine.execLnkAnnWrite who k v s
  | .takeover => Sys2Proof.Machine.execTakeover s
  | .lnkBootctlWrite who v => Sys2Proof.Machine.execLnkBootctlWrite who v s
  | .bootReqRx p f => Sys2Proof.Machine.execBootReqRx p f s
  | .bootDataRx p f => Sys2Proof.Machine.execBootDataRx p f s
  | .bootReqRetry => Sys2Proof.Machine.execBootReqRetry s
  | .audioFrameRx p f => Sys2Proof.Machine.execAudioFrameRx p f s
  | .tokenRx p f => Sys2Proof.Machine.execTokenRx p f s
  | .resultRx p f => Sys2Proof.Machine.execResultRx p f s
  | .raccRequestRx p f => Sys2Proof.Machine.execRaccRequestRx p f s
  | .resetFrameRx p f => Sys2Proof.Machine.execResetFrameRx p f s
  | .wakeFrameRx p f => Sys2Proof.Machine.execWakeFrameRx p f s
  | .msgRx p f => Sys2Proof.Machine.execMsgRx p f s
  | .qtxSend => Sys2Proof.Machine.execQtxSend s
  | .bsqFrameStart p => Sys2Proof.Machine.execBsqFrameStart p s
  | .outputLineRequest o => Sys2Proof.Machine.execOutputLineRequest o s
  | .lbufBackWrite who p l v => Sys2Proof.Machine.execLbufBackWrite who p l v s
  | .rasReadyWrite who p v => Sys2Proof.Machine.execRasReadyWrite who p v s
  | .rasUnreadyWrite who p v => Sys2Proof.Machine.execRasUnreadyWrite who p v s
  | .bsqEnd p => Sys2Proof.Machine.execBsqEnd p s
  | .bsqWait p => Sys2Proof.Machine.execBsqWait p s
  | .bsqWaitRelease p => Sys2Proof.Machine.execBsqWaitRelease p s
  | .bsqMove p => Sys2Proof.Machine.execBsqMove p s
  | .bsqMmove p => Sys2Proof.Machine.execBsqMmove p s
  | .bsqSkipif p => Sys2Proof.Machine.execBsqSkipif p s
  | .bsqLoop p => Sys2Proof.Machine.execBsqLoop p s
  | .bsqEvent p => Sys2Proof.Machine.execBsqEvent p s
  | .bsqFlip p => Sys2Proof.Machine.execBsqFlip p s
  | .vblankStart o t => Sys2Proof.Machine.execVblankStart o t s
  | .pllPixRelock o => Sys2Proof.Machine.execPllPixRelock o s
  | .teEvent => Sys2Proof.Machine.execTeEvent s
  | .teWindowEnd => Sys2Proof.Machine.execTeWindowEnd s
  | .transferEnd => Sys2Proof.Machine.execTransferEnd s
  | .outBCmdhdrWrite who v => Sys2Proof.Machine.execOutBCmdhdrWrite who v s
  | .dsiPacketSend contention => Sys2Proof.Machine.execDsiPacketSend contention s
  | .dsiReadReply d rep => Sys2Proof.Machine.execDsiReadReply d rep s
  | .dsiBtaTimeout => Sys2Proof.Machine.execDsiBtaTimeout s
  | .ulpsExitDone => Sys2Proof.Machine.execUlpsExitDone s
  | .ledRefresh => Sys2Proof.Machine.execLedRefresh s
  | .bltStart who => Sys2Proof.Machine.execBltStart who s
  | .bltStop who => Sys2Proof.Machine.execBltStop who s
  | .bltSkip who => Sys2Proof.Machine.execBltSkip who s
  | .bltRingConfigWrite who r v => Sys2Proof.Machine.execBltRingConfigWrite who r v s
  | .bltWrWrite who v => Sys2Proof.Machine.execBltWrWrite who v s
  | .bltNop => Sys2Proof.Machine.execBltNop s
  | .bltFill cut => Sys2Proof.Machine.execBltFill cut s
  | .bltCopy cut => Sys2Proof.Machine.execBltCopy cut s
  | .bltRop3 cut => Sys2Proof.Machine.execBltRop3 cut s
  | .bltXform cut => Sys2Proof.Machine.execBltXform cut s
  | .bltLayer => Sys2Proof.Machine.execBltLayer s
  | .bltLayerRelease => Sys2Proof.Machine.execBltLayerRelease s
  | .bltEvent => Sys2Proof.Machine.execBltEvent s
  | .bltSync => Sys2Proof.Machine.execBltSync s
  | .bltSyncRelease => Sys2Proof.Machine.execBltSyncRelease s
  | .bltCommandEnd => Sys2Proof.Machine.execBltCommandEnd s
  | .audioRenderStart => Sys2Proof.Machine.execAudioRenderStart s
  | .audioGroup => Sys2Proof.Machine.execAudioGroup s
  | .keyon who v due => Sys2Proof.Machine.execKeyon who v due s
  | .keyoff who v due => Sys2Proof.Machine.execKeyoff who v due s
  | .kill who v due => Sys2Proof.Machine.execKill who v due s
  | .voiceCommandAct v => Sys2Proof.Machine.execVoiceCommandAct v s
  | .voiceParamWrite who v r w => Sys2Proof.Machine.execVoiceParamWrite who v r w s
  | .inputLock who hz => Sys2Proof.Machine.execInputLock who hz s
  | .inputLockLoss who => Sys2Proof.Machine.execInputLockLoss who s
  | .fsPulse x => Sys2Proof.Machine.execFsPulse x s
  | .cameraFrameStart x vc err => Sys2Proof.Machine.execCameraFrameStart x vc err s
  | .cameraLine x vc dt px err => Sys2Proof.Machine.execCameraLine x vc dt px err s
  | .cameraFrameEnd x vc err => Sys2Proof.Machine.execCameraFrameEnd x vc err s
  | .camRel who x v => Sys2Proof.Machine.execCamRel who x v s
  | .recEncodeStart => Sys2Proof.Machine.execRecEncodeStart s
  | .recEncodeDone => Sys2Proof.Machine.execRecEncodeDone s
  | .unitComplete => Sys2Proof.Machine.execUnitComplete s
  | .recStart who => Sys2Proof.Machine.execRecStart who s
  | .recStop who => Sys2Proof.Machine.execRecStop who s
  | .recConfigWrite who r v => Sys2Proof.Machine.execRecConfigWrite who r v s
  | .recTableWrite who k e v => Sys2Proof.Machine.execRecTableWrite who k e v s
  | .recMark who v => Sys2Proof.Machine.execRecMark who v s
  | .markerOffer => Sys2Proof.Machine.execMarkerOffer s
  | .recEmmcDone res => Sys2Proof.Machine.execRecEmmcDone res s
  | .xpaLoad who => Sys2Proof.Machine.execXpaLoad who s
  | .xpaLoadsched who b => Sys2Proof.Machine.execXpaLoadsched who b s
  | .xpaTest who n => Sys2Proof.Machine.execXpaTest who n s
  | .xpaUnload who => Sys2Proof.Machine.execXpaUnload who s
  | .xpaCmdDone pass => Sys2Proof.Machine.execXpaCmdDone pass s
  | .xpaRoute n => Sys2Proof.Machine.execXpaRoute n s
  | .xpaRouteEnd => Sys2Proof.Machine.execXpaRouteEnd s
  | .xpaSlot n err => Sys2Proof.Machine.execXpaSlot n err s
  | .xpaSlotEnd n served => Sys2Proof.Machine.execXpaSlotEnd n served s
  | .xpaGather n => Sys2Proof.Machine.execXpaGather n s
  | .xpaGatherEnd => Sys2Proof.Machine.execXpaGatherEnd s
  | .xpaRemapDone => Sys2Proof.Machine.execXpaRemapDone s
  | .tmrStart who n => Sys2Proof.Machine.execTmrStart who n s
  | .tmrAt who n => Sys2Proof.Machine.execTmrAt who n s
  | .tmrStop who n => Sys2Proof.Machine.execTmrStop who n s
  | .tmrGstart who v => Sys2Proof.Machine.execTmrGstart who v s
  | .tmrGstop who v => Sys2Proof.Machine.execTmrGstop who v s
  | .tmrArmedStart n => Sys2Proof.Machine.execTmrArmedStart n s
  | .timerStep n => Sys2Proof.Machine.execTimerStep n s
  | .tmrCcWrite who n x v => Sys2Proof.Machine.execTmrCcWrite who n x v s
  | .captureEdge n x rising => Sys2Proof.Machine.execCaptureEdge n x rising s
  | .actionStart n => Sys2Proof.Machine.execActionStart n s
  | .actionStop n => Sys2Proof.Machine.execActionStop n s
  | .actionCount n => Sys2Proof.Machine.execActionCount n s
  | .actionReset n => Sys2Proof.Machine.execActionReset n s
  | .actionDma n => Sys2Proof.Machine.execActionDma n s
  | .actionAdc => Sys2Proof.Machine.execActionAdc s
  | .adcCtlWrite who v => Sys2Proof.Machine.execAdcCtlWrite who v s
  | .adcSeqWrite who k v => Sys2Proof.Machine.execAdcSeqWrite who k v s
  | .adcStart who => Sys2Proof.Machine.execAdcStart who s
  | .adcStop who => Sys2Proof.Machine.execAdcStop who s
  | .adcFlush who => Sys2Proof.Machine.execAdcFlush who s
  | .adcDataRead who => Sys2Proof.Machine.execAdcDataRead who s
  | .adcSettleEnd => Sys2Proof.Machine.execAdcSettleEnd s
  | .adcConversionEnd x => Sys2Proof.Machine.execAdcConversionEnd x s
  | .padChange p n v => Sys2Proof.Machine.execPadChange p n v s
  | .gpioOutWrite who p v => Sys2Proof.Machine.execGpioOutWrite who p v s
  | .gpioSet who p v => Sys2Proof.Machine.execGpioSet who p v s
  | .gpioClr who p v => Sys2Proof.Machine.execGpioClr who p v s
  | .gpioTgl who p v => Sys2Proof.Machine.execGpioTgl who p v s
  | .pinCfgWrite who p n v => Sys2Proof.Machine.execPinCfgWrite who p n v s
  | .pinLkkeyWrite who p v => Sys2Proof.Machine.execPinLkkeyWrite who p v s
  | .pinLkmaskWrite who p v => Sys2Proof.Machine.execPinLkmaskWrite who p v s
  | .rtcTick vbat => Sys2Proof.Machine.execRtcTick vbat s
  | .tempConversionDone t => Sys2Proof.Machine.execTempConversionDone t s
  | .mitWriteEffect a vbat => Sys2Proof.Machine.execMitWriteEffect a vbat s
  | .mitApply who v => Sys2Proof.Machine.execMitApply who v s
  | .mitWakeset who => Sys2Proof.Machine.execMitWakeset who s
  | .supplySwitch vsys vbat => Sys2Proof.Machine.execSupplySwitch vsys vbat s
  | .mittenStateLoss => Sys2Proof.Machine.execMittenStateLoss s
  | .wakePinSample n v => Sys2Proof.Machine.execWakePinSample n v s
  | .canStart who c => Sys2Proof.Machine.execCanStart who c s
  | .canStop who c frame => Sys2Proof.Machine.execCanStop who c frame s
  | .canRecover who c => Sys2Proof.Machine.execCanRecover who c s
  | .canBusJoin c => Sys2Proof.Machine.execCanBusJoin c s
  | .canFrameRx c id ctl data => Sys2Proof.Machine.execCanFrameRx c id ctl data s
  | .canRxrdWrite who c v => Sys2Proof.Machine.execCanRxrdWrite who c v s
  | .canTxwrWrite who c v => Sys2Proof.Machine.execCanTxwrWrite who c v s
  | .canTxDone c => Sys2Proof.Machine.execCanTxDone c s
  | .canBusError c kind => Sys2Proof.Machine.execCanBusError c kind s
  | .canRecoveryDone c => Sys2Proof.Machine.execCanRecoveryDone c s
  | .uartBreak who u => Sys2Proof.Machine.execUartBreak who u s
  | .uartFlushrx who u => Sys2Proof.Machine.execUartFlushrx who u s
  | .uartFlushtx who u => Sys2Proof.Machine.execUartFlushtx who u s
  | .scAct who u => Sys2Proof.Machine.execScAct who u s
  | .scDeact who u => Sys2Proof.Machine.execScDeact who u s
  | .scResetRelease u => Sys2Proof.Machine.execScResetRelease u s
  | .scAtrTimeout u => Sys2Proof.Machine.execScAtrTimeout u s
  | .scWaitTimeout u => Sys2Proof.Machine.execScWaitTimeout u s
  | .uartTxdWrite who u v => Sys2Proof.Machine.execUartTxdWrite who u v s
  | .uartDataRead who u => Sys2Proof.Machine.execUartDataRead who u s
  | .uartCharRx u c fe pe brk => Sys2Proof.Machine.execUartCharRx u c fe pe brk s
  | .uartCharTx u signalled => Sys2Proof.Machine.execUartCharTx u signalled s
  | .uartRxTimeout u => Sys2Proof.Machine.execUartRxTimeout u s
  | .spiStart who n miso => Sys2Proof.Machine.execSpiStart who n miso s
  | .spiAbort who n => Sys2Proof.Machine.execSpiAbort who n s
  | .spiDone n => Sys2Proof.Machine.execSpiDone n s
  | .ospiStart who answer => Sys2Proof.Machine.execOspiStart who answer s
  | .ospiAbort who => Sys2Proof.Machine.execOspiAbort who s
  | .ospiDone => Sys2Proof.Machine.execOspiDone s
  | .xipRead who a size line => Sys2Proof.Machine.execXipRead who a size line s
  | .i2cStart who n answer => Sys2Proof.Machine.execI2cStart who n answer s
  | .i2cAbort who n => Sys2Proof.Machine.execI2cAbort who n s
  | .i2cRecover who n => Sys2Proof.Machine.execI2cRecover who n s
  | .i2cDone n res => Sys2Proof.Machine.execI2cDone n res s
  | .emmcIssue who => Sys2Proof.Machine.execEmmcIssue who s
  | .emmcAbort who => Sys2Proof.Machine.execEmmcAbort who s
  | .emmcTune who => Sys2Proof.Machine.execEmmcTune who s
  | .emmcHwreset who => Sys2Proof.Machine.execEmmcHwreset who s
  | .emmcDone res r0 r1 r2 r3 data phases => Sys2Proof.Machine.execEmmcDone res r0 r1 r2 r3 data phases s
  | .ppsEdge rising => Sys2Proof.Machine.execPpsEdge rising s
  | .ppsLoss => Sys2Proof.Machine.execPpsLoss s
  | .powerOnReset sel buckEn => Sys2Proof.Machine.execPowerOnReset sel buckEn s
  | .brownOutReset sel => Sys2Proof.Machine.execBrownOutReset sel s
  | .pinReset sel => Sys2Proof.Machine.execPinReset sel s
  | .swReset who v => Sys2Proof.Machine.execSwReset who v s
  | .parkWake => Sys2Proof.Machine.execParkWake s
  | .bootStart => Sys2Proof.Machine.execBootStart s
  | .bootHandover bundle mode => Sys2Proof.Machine.execBootHandover bundle mode s
  | .sysCstart who v => Sys2Proof.Machine.execSysCstart who v s
  | .pwrPark who key => Sys2Proof.Machine.execPwrPark who key s
  | .parkEntryDone => Sys2Proof.Machine.execParkEntryDone s
  | .pwrOff who key => Sys2Proof.Machine.execPwrOff who key s
  | .offEntryDone => Sys2Proof.Machine.execOffEntryDone s
  | .dozeEntry => Sys2Proof.Machine.execDozeEntry s
  | .regulatorFault => Sys2Proof.Machine.execRegulatorFault s
  | .vioLow b => Sys2Proof.Machine.execVioLow b s
  | .bootAdvance who idx val => Sys2Proof.Machine.execBootAdvance who idx val s
  | .bootProvision who idx => Sys2Proof.Machine.execBootProvision who idx s
  | .undefinedWord c w => Sys2Proof.Machine.execUndefinedWord c w s
  | .bsqReservedOp p => Sys2Proof.Machine.execBsqReservedOp p s
  | .bltReservedOp => Sys2Proof.Machine.execBltReservedOp s
  | .pdelayResponseRx p t1 t2 t3 t4 => Sys2Proof.Machine.execPdelayResponseRx p t1 t2 t3 t4 s
  | .pdelayTimeout p => Sys2Proof.Machine.execPdelayTimeout p s
  | .dphyPllUnlock => Sys2Proof.Machine.execDphyPllUnlock s
  | .pllLockRegained pll => Sys2Proof.Machine.execPllLockRegained pll s
  | .mittenSupplyReturn => Sys2Proof.Machine.execMittenSupplyReturn s
  | .vioReturn b => Sys2Proof.Machine.execVioReturn b s
  | .vsysLoss => Sys2Proof.Machine.execVsysLoss s

end Sys2Proof.Machine
end

