-- ==== Sys2Proof/Safety.lean ====
section
/-! DEFINITION. What counts as a safe run, and the terms in which the statements are written. -/

namespace Sys2Proof.Machine

/-- The command completes, and its next state satisfies `P`. -/
def Ends (i : Instr) (s : State) (P : State → Prop) : Prop := ∃ t, exec i s = .next t ∧ P t

/-- A state from which `n` steps complete. -/
def SafeFor : Nat → State → Prop
  | 0, _ => True
  | n + 1, s => ∃ t, step s = .next t ∧ SafeFor n t

/-- The sparse maps of registers and memory are in their one canonical form: keys strictly rising, and no entry equal to what
an unlisted key reads as. -/
def State.canonical (s : State) : Bool := smWf resetOf s.regs && smWf resetOf s.live && Memory.wf s.mem

/-- The core domain has power, and the fabric lets initiator `i`'s word write of `v` to the register at `a` through (R577). -/
def State.serves (s : State) (i : Initiator) (a : Nat) (v : Word) : Bool :=
  s.powered && (s.judge i a true .word v.toNat).isNone

/-- The same for a word read. -/
def State.servesRead (s : State) (i : Initiator) (a : Nat) : Bool := s.powered && (s.judge i a false .word 0).isNone

/-- The state after core `c`'s fetch. -/
def State.fetched (s : State) (c : CoreId) : State := (s.fetch c).2

/-- Core `c` runs, its fetch finds its instruction, and it still runs then. -/
def State.fetches (s : State) (c : CoreId) : Bool := s.runs c && (s.fetch c).1.isNone && (s.fetched c).runs c

/-- Address `a` lies in core `c`'s own TCM, in SRAM, in expert memory or in G0's private SRAM, at the physical address `p`, in an ECC
word without error. -/
def State.soundAt (s : State) (c : CoreId) (a p : Nat) : Prop :=
  (c ≠ .g0 ∧ 0x08000000 ≤ a ∧ a ≤ 0x0800FFFF ∧ p = 0x08100000 + c.num * 0x10000 + (a - 0x08000000) ∧ s.eccAt (p / 4 * 4) = none) ∨
  (0x10000000 ≤ a ∧ a ≤ 0x107FFFFF ∧ s.physOf .sram (c == .g0) a = some p ∧ s.eccAt (p / 8 * 8) = none) ∨
  (0x20000000 ≤ a ∧ a ≤ 0x201FFFFF ∧ p = a ∧ s.eccAt (p / 8 * 8) = none) ∨
  (c = .g0 ∧ 0x50100000 ≤ a ∧ a ≤ 0x5011FFFF ∧ p = a ∧ s.eccAt (p / 4 * 4) = none)

/-- The granule of address `a` on the memory map, by which reservations are held (R100): the own TCM has the physical address `p`. -/
def granuleOf (a p : Nat) : Nat := (if 0x08000000 ≤ a ∧ a ≤ 0x0800FFFF then p else a) / 32

/-- The regions that LDX and STC reach (R99). -/
def atomReach (c : CoreId) (a : Nat) : Prop :=
  (c ≠ .g0 ∧ 0x08000000 ≤ a ∧ a ≤ 0x0800FFFF) ∨ (0x10000000 ≤ a ∧ a ≤ 0x107FFFFF) ∨ (0x20000000 ≤ a ∧ a ≤ 0x201FFFFF)

/-- `n` bytes at `a`, aligned and with the right that `bit` names (1 read, 2 write; R78), lie without error at `p`. -/
def State.plainAt (s : State) (c : CoreId) (bit a n p : Nat) : Prop :=
  a % n = 0 ∧ (s.core c).permits bit a = true ∧ s.soundAt c a p

/-- Core `c`'s entry `n` of the vector table (R83) reads as `w`, past the caches, from a memory that soundAt admits. -/
def State.vectorAt (s : State) (c : CoreId) (n w : Nat) : Prop :=
  ∃ p, ((s.core c).vbase.toNat + 4 * n) % 2 ^ 32 % 4 = 0 ∧ s.soundAt c (((s.core c).vbase.toNat + 4 * n) % 2 ^ 32) p ∧
    s.cacheable c (((s.core c).vbase.toNat + 4 * n) % 2 ^ 32) = false ∧ w = s.peek p 4

/-- The core after the entry of an exception or event (R84): the level and IE go to PLVL and PIE, EXC is set, IE is clear, the
level is that of a handler, and pc takes the vector entry `w` with its low two bits clear. -/
def Core.entered (k : Core) (c : CoreId) (epc addr cause : Word) (w : Nat) : Core :=
  { k with
    epc := epc, eaddr := addr, ecause := cause, reserved := none, run := .running, pc := BitVec.ofNat 32 (w / 4 * 4)
    status := BitVec.ofNat 32 ((if c = .g0 then 2 else 1) + 8 + 16 * (k.status.toNat % 4) + 64 * (k.status.toNat / 4 % 2)) }

/-- The condition flags after an operation with result `r`: where `f` holds, N and Z of the result, C and V where given, and
the rest of c2 as before (R110). -/
def AluFlags (f : Bool) (old new r : Word) (c v : Option Bool) : Prop :=
  if f then
    bitOf new 31 = r.msb ∧ bitOf new 30 = (r == 0) ∧ bitOf new 29 = c.getD (bitOf old 29) ∧
      bitOf new 28 = v.getD (bitOf old 28) ∧ ∀ i, i < 28 → bitOf new i = bitOf old i
  else new = old

/-- The flags after a saturating operation: Q is set where `q` holds, and nothing else changes (R111). -/
def SatFlags (old new : Word) (q : Bool) : Prop :=
  bitOf new 27 = (bitOf old 27 || q) ∧ ∀ i, i < 32 → i ≠ 27 → bitOf new i = bitOf old i

/-- The core retires its instruction: `k` with pc at the next instruction. -/
def Core.retired (k : Core) (pc : Word) : Core := { k with pc := pc + 4 }

/-- Every byte of memory outside `n` bytes from `p` reads as before. -/
def SameBytesBut (s t : State) (p n : Nat) : Prop := ∀ q, ¬(p ≤ q ∧ q < p + n) → t.byteAt q = s.byteAt q

/-- Every register outside a list of addresses keeps its value. -/
def SameRegsBut (s t : State) (l : List Nat) : Prop := ∀ a, a ∉ l → t.rg a = s.rg a

end Sys2Proof.Machine
end

