-- ==== Sys2Proof/WellFormed.lean ====
section
/-! DEFINITION. What the types of `Instr` do not say of a command: the operands that an instruction word cannot carry
(spec/04 R106, R119, R122, R124). An ill-formed command still has its meaning, which takes UNDEF where the spec does. -/

namespace Sys2Proof

/-- Register pairs start at an even register, condition 15 is reserved, the writes of c16 to c22 are rows of their own, and
an undefined word is no instruction. -/
def Instr.wellFormed (i : Instr) : Bool :=
  match i with
  | .take _ d => evenReg d
  | .slot _ d => evenReg d
  | .wbeatn _ _ a => evenReg a
  | .bc _ cond _ => decide (cond.val < 15)
  | .ctlw _ n _ => !decide (16 ≤ n.val ∧ n.val ≤ 22)
  | .undefinedWord c w => (decodeRyux c w).isNone
  | _ => true

end Sys2Proof
end

