-- ==== Sys2Proof/Certificates/Slice0/Obligations.lean ====
section
/-! DEFINITION. The statements for the provers. `Ends i s P` says that command `i` completes on `s` in a next state that
satisfies `P`; `serves` that the fabric lets a register write through; `fetches` that a core runs and has fetched. -/

open Sys2Proof Sys2Proof.Machine

/-- For every state in which a core runs and has fetched, ADD, SUB, ADC and SBC complete: gd takes the sum or difference of gs and gt (with the carry of c2 for ADC and SBC), pc moves to the next instruction, and where F is 1 N, Z, C (carry out of the sum as written; 1 means no borrow) and V (signed overflow) are written. CMP and CMPI always write the flags of the subtraction and no register. Every other part of the core, every other core, every register of the device and all of memory are as after the fetch. -/
def Obligations.AddSubtractCompare : Prop :=
  ∀ (s : State) (c : CoreId) (d a b : Fin 16) (f : Bool) (imm : BitVec 18), s.fetches c = true →
    let t := s.fetched c
    let k := t.core c
    let x := k.reg a.val
    let y := k.reg b.val
    let z := imm.signExtend 32
    let cy : Nat := if bitOf k.flags 29 then 1 else 0
    let w : Word := if bitOf k.flags 29 then 1 else 0
    let sum : Int := x.toInt + y.toInt + cy
    let dif : Int := x.toInt - y.toInt - (1 - cy)
    (∃ n, AluFlags f k.flags n (x + y) (some (decide (2 ^ 32 ≤ x.toNat + y.toNat))) (some (x.saddOverflow y)) ∧
      exec (.add c d a b f) s = .next (t.setCore c { (k.setReg d.val (x + y)).retired k.pc with flags := n })) ∧
    (∃ n, AluFlags f k.flags n (x - y) (some (decide (y.toNat ≤ x.toNat))) (some (x.ssubOverflow y)) ∧
      exec (.sub c d a b f) s = .next (t.setCore c { (k.setReg d.val (x - y)).retired k.pc with flags := n })) ∧
    (∃ n, AluFlags f k.flags n (x + y + w) (some (decide (2 ^ 32 ≤ x.toNat + y.toNat + cy)))
        (some (decide (sum < -2 ^ 31 ∨ 2 ^ 31 ≤ sum))) ∧
      exec (.adc c d a b f) s = .next (t.setCore c { (k.setReg d.val (x + y + w)).retired k.pc with flags := n })) ∧
    (∃ n, AluFlags f k.flags n (x - y - 1 + w) (some (decide (y.toNat + 1 ≤ x.toNat + cy)))
        (some (decide (dif < -2 ^ 31 ∨ 2 ^ 31 ≤ dif))) ∧
      exec (.sbc c d a b f) s = .next (t.setCore c { (k.setReg d.val (x - y - 1 + w)).retired k.pc with flags := n })) ∧
    (∃ n, AluFlags true k.flags n (x - y) (some (decide (y.toNat ≤ x.toNat))) (some (x.ssubOverflow y)) ∧
      exec (.cmp c a b) s = .next (t.setCore c { k.retired k.pc with flags := n })) ∧
    (∃ n, AluFlags true k.flags n (x - z) (some (decide (z.toNat ≤ x.toNat))) (some (x.ssubOverflow z)) ∧
      exec (.cmpi c a imm) s = .next (t.setCore c { k.retired k.pc with flags := n }))

/-- For every state in which a core runs and has fetched, AND, OR, XOR and ANDN write the bitwise result of gs and gt to gd, and where F is 1 N and Z, leaving C and V. ANDI, ORI and XORI take the zero-extended immediate and write no flag; ADDI adds the sign-extended immediate; LI loads the sign-extended 22-bit immediate and LUI the immediate shifted left by 10. Nothing else changes but pc. -/
def Obligations.LogicInstructions : Prop :=
  ∀ (s : State) (c : CoreId) (d a b : Fin 16) (f : Bool) (imm : BitVec 18) (u : BitVec 22), s.fetches c = true →
    let t := s.fetched c
    let k := t.core c
    let x := k.reg a.val
    let y := k.reg b.val
    let gives := fun (r : Word) => Host.Outcome.next (t.setCore c ((k.setReg d.val r).retired k.pc))
    (∃ n, AluFlags f k.flags n (x &&& y) none none ∧
      exec (.andR c d a b f) s = .next (t.setCore c { (k.setReg d.val (x &&& y)).retired k.pc with flags := n })) ∧
    (∃ n, AluFlags f k.flags n (x ||| y) none none ∧
      exec (.orR c d a b f) s = .next (t.setCore c { (k.setReg d.val (x ||| y)).retired k.pc with flags := n })) ∧
    (∃ n, AluFlags f k.flags n (x ^^^ y) none none ∧
      exec (.xorR c d a b f) s = .next (t.setCore c { (k.setReg d.val (x ^^^ y)).retired k.pc with flags := n })) ∧
    (∃ n, AluFlags f k.flags n (x &&& ~~~y) none none ∧
      exec (.andn c d a b f) s = .next (t.setCore c { (k.setReg d.val (x &&& ~~~y)).retired k.pc with flags := n })) ∧
    exec (.andi c d a imm) s = gives (x &&& imm.setWidth 32) ∧
    exec (.ori c d a imm) s = gives (x ||| imm.setWidth 32) ∧
    exec (.xori c d a imm) s = gives (x ^^^ imm.setWidth 32) ∧
    exec (.addi c d a imm) s = gives (x + imm.signExtend 32) ∧
    exec (.li c d u) s = gives (u.signExtend 32) ∧
    exec (.lui c d u) s = gives (u.setWidth 32 <<< 10)

/-- For every state in which a core runs and has fetched, SHL, SHR, SAR and ROR shift gs by the low five bits n of gt. Where F is 1, N and Z follow the result, and C takes the last bit shifted out (for ROR, result bit 31), which stays for n = 0; V stays. SHLI, SHRI and SARI shift by the immediate and write no flag. -/
def Obligations.ShiftInstructions : Prop :=
  ∀ (s : State) (c : CoreId) (d a b : Fin 16) (f : Bool) (m : Fin 32), s.fetches c = true →
    let t := s.fetched c
    let k := t.core c
    let x := k.reg a.val
    let n := (k.reg b.val).toNat % 32
    let out := fun (i : Nat) => if n = 0 then none else some (bitOf x i)
    let gives := fun (r : Word) => Host.Outcome.next (t.setCore c ((k.setReg d.val r).retired k.pc))
    let givesF := fun (r w : Word) => Host.Outcome.next (t.setCore c { (k.setReg d.val r).retired k.pc with flags := w })
    (∃ w, AluFlags f k.flags w (x <<< n) (out (32 - n)) none ∧ exec (.shl c d a b f) s = givesF (x <<< n) w) ∧
    (∃ w, AluFlags f k.flags w (x >>> n) (out (n - 1)) none ∧ exec (.shr c d a b f) s = givesF (x >>> n) w) ∧
    (∃ w, AluFlags f k.flags w (x.sshiftRight n) (out (n - 1)) none ∧
      exec (.sar c d a b f) s = givesF (x.sshiftRight n) w) ∧
    (∃ w, AluFlags f k.flags w (x.rotateRight n) (if n = 0 then none else some (x.rotateRight n).msb) none ∧
      exec (.ror c d a b f) s = givesF (x.rotateRight n) w) ∧
    exec (.shli c d a m) s = gives (x <<< m.val) ∧
    exec (.shri c d a m) s = gives (x >>> m.val) ∧
    exec (.sari c d a m) s = gives (x.sshiftRight m.val)

/-- For every state in which a core runs and has fetched, SLT, SLTU, SLTI and SLTIU write 1 or 0 by the signed or unsigned comparison, MIN, MAX, MINU and MAXU the smaller or larger value, and CLZ the number r of leading zero bits of gs, from 0 to 32. No flag is written and nothing else changes but pc. -/
def Obligations.CompareAndSelect : Prop :=
  ∀ (s : State) (c : CoreId) (d a b : Fin 16) (imm : BitVec 18), s.fetches c = true →
    let t := s.fetched c
    let k := t.core c
    let x := k.reg a.val
    let y := k.reg b.val
    let z := imm.signExtend 32
    let gives := fun (r : Word) => Host.Outcome.next (t.setCore c ((k.setReg d.val r).retired k.pc))
    exec (.slt c d a b) s = gives (if x.toInt < y.toInt then 1 else 0) ∧
    exec (.sltu c d a b) s = gives (if x.toNat < y.toNat then 1 else 0) ∧
    exec (.slti c d a imm) s = gives (if x.toInt < z.toInt then 1 else 0) ∧
    exec (.sltiu c d a imm) s = gives (if x.toNat < z.toNat then 1 else 0) ∧
    exec (.min c d a b) s = gives (if x.toInt ≤ y.toInt then x else y) ∧
    exec (.max c d a b) s = gives (if x.toInt ≤ y.toInt then y else x) ∧
    exec (.minu c d a b) s = gives (if x.toNat ≤ y.toNat then x else y) ∧
    exec (.maxu c d a b) s = gives (if x.toNat ≤ y.toNat then y else x) ∧
    (∃ r : Nat, exec (.clz c d a) s = gives (BitVec.ofNat 32 r) ∧ r ≤ 32 ∧ x.toNat < 2 ^ (32 - r) ∧
      (r < 32 → 2 ^ (31 - r) ≤ x.toNat))

/-- For every state in which a core runs and has fetched, ADDS and SUBS write the signed sum or difference clamped to the signed 32-bit range, and ADDUS and SUBUS the unsigned one clamped to 0 to 0xFFFF_FFFF. Q of c2 is set where the result is clamped and left as it is otherwise; no other flag changes. -/
def Obligations.SaturatingInstructions : Prop :=
  ∀ (s : State) (c : CoreId) (d a b : Fin 16), s.fetches c = true →
    let t := s.fetched c
    let k := t.core c
    let x := k.reg a.val
    let y := k.reg b.val
    let clamp := fun (lo hi i : Int) => max lo (min hi i)
    let clamps := fun (i : Instr) (lo hi v : Int) => ∃ w, SatFlags k.flags w (decide (v < lo ∨ hi < v)) ∧
      exec i s = .next (t.setCore c { (k.setReg d.val (BitVec.ofInt 32 (clamp lo hi v))).retired k.pc with flags := w })
    clamps (.adds c d a b) (-2 ^ 31) (2 ^ 31 - 1) (x.toInt + y.toInt) ∧
    clamps (.subs c d a b) (-2 ^ 31) (2 ^ 31 - 1) (x.toInt - y.toInt) ∧
    clamps (.addus c d a b) 0 (2 ^ 32 - 1) (x.toNat + y.toNat) ∧
    clamps (.subus c d a b) 0 (2 ^ 32 - 1) (x.toNat - y.toNat)

/-- For every state in which a core runs and has fetched, PADD and PSUB write each lane's sum or difference modulo 65,536; PADDS, PSUBS, PADDUS and PSUBUS clamp each lane to its signed or unsigned range; PMULQ writes the rounded Q15 product clamped to the signed range; PDOT writes gd plus both signed lane products, clamped to 32 bits. The saturating ones set Q where some result is clamped and change no other flag. -/
def Obligations.PairSimd : Prop :=
  ∀ (s : State) (c : CoreId) (d a b : Fin 16), s.fetches c = true →
    let t := s.fetched c
    let k := t.core c
    let x := k.reg a.val
    let y := k.reg b.val
    let lo := fun (w : Word) => w.setWidth 16
    let hi := fun (w : Word) => (w >>> 16).setWidth 16
    let join := fun (h l : BitVec 16) => (h ++ l : BitVec 32)
    let plain := fun (i : Instr) (r : Word) => exec i s = .next (t.setCore c ((k.setReg d.val r).retired k.pc))
    let sat := fun (i : Instr) (l u : Int) (v w : Int) => ∃ n, SatFlags k.flags n (decide (v < l ∨ u < v ∨ w < l ∨ u < w)) ∧
      exec i s = .next (t.setCore c { (k.setReg d.val (join (BitVec.ofInt 16 (max l (min u w)))
        (BitVec.ofInt 16 (max l (min u v))))).retired k.pc with flags := n })
    let dot := (k.reg d.val).toInt + (lo x).toInt * (lo y).toInt + (hi x).toInt * (hi y).toInt
    plain (.padd c d a b) (join (hi x + hi y) (lo x + lo y)) ∧
    plain (.psub c d a b) (join (hi x - hi y) (lo x - lo y)) ∧
    sat (.padds c d a b) (-32768) 32767 ((lo x).toInt + (lo y).toInt) ((hi x).toInt + (hi y).toInt) ∧
    sat (.psubs c d a b) (-32768) 32767 ((lo x).toInt - (lo y).toInt) ((hi x).toInt - (hi y).toInt) ∧
    sat (.paddus c d a b) 0 65535 ((lo x).toNat + (lo y).toNat) ((hi x).toNat + (hi y).toNat) ∧
    sat (.psubus c d a b) 0 65535 ((lo x).toNat - (lo y).toNat) ((hi x).toNat - (hi y).toNat) ∧
    sat (.pmulq c d a b) (-32768) 32767 (((lo x).toInt * (lo y).toInt + 0x4000) / 2 ^ 15)
      (((hi x).toInt * (hi y).toInt + 0x4000) / 2 ^ 15) ∧
    (∃ n, SatFlags k.flags n (decide (dot < -2 ^ 31 ∨ 2 ^ 31 - 1 < dot)) ∧
      exec (.pdot c d a b) s = .next (t.setCore c
        { (k.setReg d.val (BitVec.ofInt 32 (max (-2 ^ 31) (min (2 ^ 31 - 1) dot)))).retired k.pc with flags := n }))

/-- For every state in which a core runs and has fetched, MUL writes the low word of the product, MULH and MULHU the high word of the signed and unsigned product, and MAC adds the low word to gd. With gt other than 0, DIV rounds toward zero (0x8000_0000 by −1 gives 0x8000_0000), REM's sign follows gs, and DIVU and REMU divide unsigned. No flag changes. With gt = 0 each division raises DIVZ, whose entry or lock-up is that of every synchronous exception, on the state after the fetch, so that gd is unchanged. -/
def Obligations.MultiplyDivide : Prop :=
  ∀ (s : State) (c : CoreId) (d a b : Fin 16), s.fetches c = true →
    let t := s.fetched c
    let k := t.core c
    let x := k.reg a.val
    let y := k.reg b.val
    let gives := fun (r : Word) => Host.Outcome.next (t.setCore c ((k.setReg d.val r).retired k.pc))
    let divz := Host.Outcome.next (t.raiseExc c { vec := 8, epc := k.pc, addr := 0, cause := 8 })
    exec (.mul c d a b) s = gives (BitVec.ofNat 32 (x.toNat * y.toNat)) ∧
    exec (.mulh c d a b) s = gives (BitVec.ofInt 32 (x.toInt * y.toInt / 2 ^ 32)) ∧
    exec (.mulhu c d a b) s = gives (BitVec.ofNat 32 (x.toNat * y.toNat / 2 ^ 32)) ∧
    exec (.mac c d a b) s = gives (k.reg d.val + BitVec.ofNat 32 (x.toNat * y.toNat)) ∧
    (y ≠ 0 →
      exec (.div c d a b) s = gives (BitVec.ofInt 32 (x.toInt.tdiv y.toInt)) ∧
      exec (.divu c d a b) s = gives (BitVec.ofNat 32 (x.toNat / y.toNat)) ∧
      exec (.rem c d a b) s = gives (BitVec.ofInt 32 (x.toInt.tmod y.toInt)) ∧
      exec (.remu c d a b) s = gives (BitVec.ofNat 32 (x.toNat % y.toNat))) ∧
    (y = 0 → exec (.div c d a b) s = divz ∧ exec (.divu c d a b) s = divz ∧ exec (.rem c d a b) s = divz ∧
      exec (.remu c d a b) s = divz)

/-- For every state in which a core runs and has fetched, and every address that plainAt admits (aligned, permitted, in the own TCM, SRAM, expert memory or G0's private SRAM, without an ECC error) and that is not cacheable, LDB, LDBU, LDH, LDHU and LDW read the little-endian bytes at gs + sext(imm18) and write the sign- or zero-extended value to gd. The post-increment forms read at gs itself and then write gs + sext(imm18) to gs; with gd = gs they raise UNDEF. No flag changes, and nothing else does but pc. -/
def Obligations.LoadInstructions : Prop :=
  ∀ (s : State) (c : CoreId) (d a : Fin 16) (imm : BitVec 18), s.fetches c = true →
    let t := s.fetched c
    let k := t.core c
    let x := k.reg a.val
    let y := x + imm.signExtend 32
    let undef := Host.Outcome.next (t.raiseExc c { vec := 1, epc := k.pc, addr := 0, cause := 1 })
    let sb := fun (v : Nat) => (BitVec.ofNat 8 v).signExtend 32
    let sh := fun (v : Nat) => (BitVec.ofNat 16 v).signExtend 32
    let zx := fun (v : Nat) => BitVec.ofNat 32 v
    let plain := fun (i : Instr) (n : Nat) (ext : Nat → Word) => ∀ p, t.plainAt c 1 y.toNat n p →
      t.cacheable c y.toNat = false →
      exec i s = .next (t.setCore c ((k.setReg d.val (ext (t.peek p n))).retired k.pc))
    let post := fun (i : Instr) (n : Nat) (ext : Nat → Word) =>
      (d ≠ a → ∀ p, t.plainAt c 1 x.toNat n p → t.cacheable c x.toNat = false →
        exec i s = .next (t.setCore c (((k.setReg d.val (ext (t.peek p n))).setReg a.val y).retired k.pc))) ∧
      (d = a → exec i s = undef)
    plain (.ldb c d a imm) 1 sb ∧ plain (.ldbu c d a imm) 1 zx ∧ plain (.ldh c d a imm) 2 sh ∧
    plain (.ldhu c d a imm) 2 zx ∧ plain (.ldw c d a imm) 4 zx ∧
    post (.ldbp c d a imm) 1 sb ∧ post (.ldbup c d a imm) 1 zx ∧ post (.ldhp c d a imm) 2 sh ∧
    post (.ldhup c d a imm) 2 zx ∧ post (.ldwp c d a imm) 4 zx

/-- For every state in which a core runs and has fetched, and every address that plainAt admits and that is not cacheable, STB, STH and STW store the low 1, 2 or 4 bytes of gd, little-endian, at gs + sext(imm18), and the post-increment forms at gs, after which gs takes gs + sext(imm18). Every other byte of memory reads as before, every register of the device keeps its value, and the core changes no general register but gs in the post-increment forms. Another core changes exactly where it held a reservation on the granule stored to, which it loses. -/
def Obligations.StoreInstructions : Prop :=
  ∀ (s : State) (c : CoreId) (d a : Fin 16) (imm : BitVec 18), s.fetches c = true →
    let t := s.fetched c
    let k := t.core c
    let x := k.reg a.val
    let y := x + imm.signExtend 32
    let stores := fun (i : Instr) (addr n : Nat) (k' : Core) => ∀ p, t.plainAt c 2 addr n p → t.cacheable c addr = false →
      ∃ u, exec i s = .next u ∧ u.peek p n = (k.reg d.val).toNat % 2 ^ (8 * n) ∧ SameBytesBut t u p n ∧ u.regs = t.regs ∧
        u.live = t.live ∧ u.core c = k' ∧
        ∀ e, e ≠ c → u.core e =
          if (t.core e).reserved = some (granuleOf addr p) then { t.core e with reserved := none } else t.core e
    let k1 := k.retired k.pc
    let k2 := (k.setReg a.val y).retired k.pc
    stores (.stb c d a imm) y.toNat 1 k1 ∧ stores (.sth c d a imm) y.toNat 2 k1 ∧ stores (.stw c d a imm) y.toNat 4 k1 ∧
    stores (.stbp c d a imm) x.toNat 1 k2 ∧ stores (.sthp c d a imm) x.toNat 2 k2 ∧ stores (.stwp c d a imm) x.toNat 4 k2

/-- For every state in which a core runs and has fetched, and every word address in gs that plainAt admits in the own TCM of an application core, in SRAM or in expert memory: an LDX, on a core whose data cache holds no dirty copy of the line, writes the word to gd, takes the reservation of the granule and drops the line; one whose line is dirty with an error raises MEMERR; an STC stores gt and writes 0 to gd where the core holds the reservation of that granule, storing no other byte, and writes 1 and stores nothing where it does not. Every STC clears the reservation, and one that stores clears those of other cores on its granule. A misaligned address raises DALIGN; every other address raises DPROT with ATOM. -/
def Obligations.AtomicInstructions : Prop :=
  ∀ (s : State) (c : CoreId) (d b a : Fin 16), s.fetches c = true →
    let t := s.fetched c
    let k := t.core c
    let addr := (k.reg a.val).toNat
    (∀ p, t.plainAt c 1 addr 4 p → atomReach c addr → (∀ l, k.dline (addr / 32) = some l → l.dirty = false) →
      ∃ q : Core, exec (.ldx c d a) s = .next (t.setCore c q) ∧ q.reg d.val = BitVec.ofNat 32 (t.peek p 4) ∧
        (∀ r, r ≠ d.val → q.reg r = k.reg r) ∧ q.reserved = some (addr / 32) ∧ q.pc = k.pc + 4 ∧ q.flags = k.flags ∧
        q.status = k.status ∧ (c ≠ .g0 → q.dline (addr / 32) = none)) ∧
    (∀ l, c ≠ .g0 → addr % 4 = 0 → atomReach c addr → k.permits 1 addr = true → k.dline (addr / 32) = some l → l.dirty = true →
      l.err = true → exec (.ldx c d a) s =
        .next (t.raiseExc c { vec := 9, epc := k.pc, addr := BitVec.ofNat 32 (addr / 32 * 32), cause := 9 })) ∧
    (∀ p, t.plainAt c 2 addr 4 p → atomReach c addr → k.reserved = some (addr / 32) →
      ∃ u, exec (.stc c d b a) s = .next u ∧ u.peek p 4 = (k.reg b.val).toNat ∧ SameBytesBut t u p 4 ∧ u.regs = t.regs ∧
        u.core c = { (k.setReg d.val 0).retired k.pc with reserved := none } ∧
        ∀ e, e ≠ c → u.core e =
          if (t.core e).reserved = some (granuleOf addr p) then { t.core e with reserved := none } else t.core e) ∧
    (∀ p, t.plainAt c 2 addr 4 p → atomReach c addr → k.reserved ≠ some (addr / 32) →
      exec (.stc c d b a) s = .next (t.setCore c { (k.setReg d.val 1).retired k.pc with reserved := none })) ∧
    (addr % 4 ≠ 0 →
      exec (.ldx c d a) s = .next (t.raiseExc c { vec := 4, epc := k.pc, addr := k.reg a.val, cause := 4 }) ∧
      exec (.stc c d b a) s = .next (t.raiseExc c { vec := 4, epc := k.pc, addr := k.reg a.val, cause := 0x4004 })) ∧
    (addr % 4 = 0 → ¬atomReach c addr →
      exec (.ldx c d a) s = .next (t.raiseExc c { vec := 7, epc := k.pc, addr := k.reg a.val, cause := 0x10007 }) ∧
      exec (.stc c d b a) s = .next (t.raiseExc c { vec := 7, epc := k.pc, addr := k.reg a.val, cause := 0x14007 }))

/-- For every state in which a core runs and has fetched, at every address (on G0, below the private control space): LDH, LDHU and STH at an odd address, and LDW and STW at an address that is no multiple of 4, raise DALIGN (vector 4); LDW and STW at an aligned address that the deciding protection region forbids, at Task level in the private control space of an application core, or of G0 at Host level in the Gauntlet's registers, raise DPROT (vector 7). EPC takes the instruction's address, EADDR the data address, and ECAUSE the vector with WR (bit 14) for a store. No general register and no byte of memory is written by the instruction. -/
def Obligations.LoadStoreTraps : Prop :=
  ∀ (s : State) (c : CoreId) (d a : Fin 16) (imm : BitVec 18), s.fetches c = true →
    let t := s.fetched c
    let k := t.core c
    let y := k.reg a.val + imm.signExtend 32
    (c = .g0 → y.toNat < 0xF0000000) →
    let traps := fun (i : Instr) (vec : Nat) (cause : Word) =>
      exec i s = .next (t.raiseExc c { vec := vec, epc := k.pc, addr := y, cause := cause })
    (y.toNat % 2 ≠ 0 → traps (.ldh c d a imm) 4 4 ∧ traps (.ldhu c d a imm) 4 4 ∧ traps (.sth c d a imm) 4 0x4004) ∧
    (y.toNat % 4 ≠ 0 → traps (.ldw c d a imm) 4 4 ∧ traps (.stw c d a imm) 4 0x4004) ∧
    (y.toNat % 4 = 0 → k.permits 1 y.toNat = false → traps (.ldw c d a imm) 7 7) ∧
    (y.toNat % 4 = 0 → k.permits 2 y.toNat = false → traps (.stw c d a imm) 7 0x4007) ∧
    (y.toNat % 4 = 0 → k.lvl = 0 → 0xF0000000 ≤ y.toNat → y.toNat ≤ 0xF000FFFF →
      traps (.ldw c d a imm) 7 7 ∧ traps (.stw c d a imm) 7 0x4007) ∧
    (c = .g0 → k.lvl = 1 → y.toNat % 4 = 0 → 0x50000000 ≤ y.toNat → y.toNat ≤ 0x5005FFFF →
      traps (.ldw c d a imm) 7 7 ∧ traps (.stw c d a imm) 7 0x4007)

/-- For every state in which a core runs and has fetched, and every aligned and permitted word address that is cacheable and whose line the data cache holds without an error: LDW writes gd with the word of the line and STW puts gd's bytes into the line and marks it dirty; no byte of memory changes. Where the line is dirty with an error, both raise MEMERR. The operations DCCLEAN and DCCLINV write a sound dirty line of SRAM back, byte for byte, and nothing else; on a line that is not dirty they write nothing back. DCCLINV and DCINV drop the line, ICINV drops the line of the instruction cache, and ICINVALL, DCINVALL and, where no line is dirty, DCCLINVALL drop every line. ICINV, DCCLEAN and DCCLINV run at every level; the others raise PRIV at Task level and, on G0, at Host level. On G0, which has no caches, they otherwise retire without effect. -/
def Obligations.CachedAccesses : Prop :=
  ∀ (s : State) (c : CoreId) (d a : Fin 16) (imm : BitVec 18), s.fetches c = true →
    let t := s.fetched c
    let k := t.core c
    let y := (k.reg a.val + imm.signExtend 32).toNat
    let line := (k.reg a.val).toNat / 32
    let gives := fun (i : Instr) (P : Core → Prop) => ∃ q : Core, exec i s = .next (t.setCore c q) ∧ q.g = k.g ∧ q.pc = k.pc + 4 ∧
      q.flags = k.flags ∧ q.status = k.status ∧ P q
    let memerr := fun (w : Word) => Host.Outcome.next (t.raiseExc c { vec := 9, epc := k.pc, addr := BitVec.ofNat 32 y, cause := w })
    let priv := Host.Outcome.next (t.raiseExc c { vec := 2, epc := k.pc, addr := 0, cause := 2 })
    (∀ l, y % 4 = 0 → t.cacheable c y = true → k.dline (y / 32) = some l → l.err = false → k.permits 1 y = true →
      exec (.ldw c d a imm) s =
        .next (t.setCore c ((k.setReg d.val (BitVec.ofNat 32 (ofLe ((l.bytes.drop (y % 32)).take 4)))).retired k.pc))) ∧
    (∀ l, y % 4 = 0 → t.cacheable c y = true → k.dline (y / 32) = some l → l.err = false → k.permits 2 y = true →
      l.bytes.length = 32 →
      ∃ (q : Core) (l' : CacheLine), exec (.stw c d a imm) s = .next (t.setCore c (q.retired k.pc)) ∧ q.g = k.g ∧ q.pc = k.pc ∧
        q.dline (y / 32) = some l' ∧ l'.dirty = true ∧ l'.err = false ∧ l'.bytes.length = 32 ∧
        ofLe ((l'.bytes.drop (y % 32)).take 4) = (k.reg d.val).toNat ∧
        (∀ j, j < 32 → ¬(y % 32 ≤ j ∧ j < y % 32 + 4) → l'.bytes[j]? = l.bytes[j]?)) ∧
    (∀ l, y % 4 = 0 → t.cacheable c y = true → k.dline (y / 32) = some l → l.err = true → l.dirty = true →
      (k.permits 1 y = true → exec (.ldw c d a imm) s = memerr 9) ∧
      (k.permits 2 y = true → exec (.stw c d a imm) s = memerr 0x4009)) ∧
    (c ≠ .g0 →
      gives (.icinv c a) (fun q => q.iline line = none ∧ q.dcache = k.dcache) ∧
      ((∀ l, k.dline line = some l → l.dirty = false ∧ l.err = false) →
        gives (.dcclean c a) (fun q => ∀ n, q.dline n = k.dline n)) ∧
      ((∀ l, k.dline line = some l → l.dirty = false) → gives (.dcclinv c a) (fun q => q.dline line = none)) ∧
      (∀ l p, k.dline line = some l → l.dirty = true → l.err = false → l.bytes.length = 32 → 0x10000000 ≤ 32 * line →
        32 * line ≤ 0x107FFFFF → t.physOf .sram false (32 * line) = some p →
        let writes := fun (i : Instr) (P : Core → Prop) => ∃ u, exec i s = .next u ∧
          (∀ (j : Nat) (b : Byte), l.bytes[j]? = some b → u.byteAt (p + j) = b) ∧ SameBytesBut t u p 32 ∧ u.regs = t.regs ∧
          (u.core c).g = k.g ∧ (u.core c).pc = k.pc + 4 ∧ P (u.core c)
        writes (.dcclean c a) (fun q => q.dline line = some { l with dirty := false }) ∧
        writes (.dcclinv c a) (fun q => q.dline line = none)) ∧
      (k.lvl ≠ 0 →
        gives (.dcinv c a) (fun q => q.dline line = none ∧ q.icache = k.icache) ∧
        gives (.icinvall c a) (fun q => q.icache = [] ∧ q.dcache = k.dcache) ∧
        gives (.dcinvall c a) (fun q => q.dcache = [] ∧ q.icache = k.icache) ∧
        ((∀ e ∈ k.dcache, e.2.dirty = false) → gives (.dcclinvall c a) (fun q => ∀ n, q.dline n = none)))) ∧
    (c = .g0 → ∀ i ∈ [Instr.icinv c a, .dcclean c a, .dcclinv c a], exec i s = .next (t.setCore c (k.retired k.pc))) ∧
    (∀ i ∈ [Instr.dcinv c a, .icinvall c a, .dcclinvall c a, .dcinvall c a],
      ((k.lvl = 0 ∨ (c = .g0 ∧ k.lvl = 1)) → exec i s = priv) ∧
      (c = .g0 → k.lvl = 2 → exec i s = .next (t.setCore c (k.retired k.pc))))

/-- For every state in which a core runs and has fetched, BEQ, BNE, BLT, BGE, BLTU and BGEU compare gd with gs and BC tests the flag condition 0 to 14; the taken target is pc + 4 × sext(imm18), otherwise pc + 4. BC with condition 15 raises UNDEF. J jumps to pc + 4 × sext(off26) and CALL also writes pc + 4 to g15. JR and CALLR jump to gs, CALLR with the link; an address that is no multiple of 4 raises IALIGN with that address in EADDR and writes nothing. No flag and no other register changes. -/
def Obligations.BranchesAndJumps : Prop :=
  ∀ (s : State) (c : CoreId) (d a cond : Fin 16) (imm : BitVec 18) (off : BitVec 26), s.fetches c = true →
    let t := s.fetched c
    let k := t.core c
    let x := k.reg d.val
    let y := k.reg a.val
    let n := bitOf k.flags 31
    let z := bitOf k.flags 30
    let cy := bitOf k.flags 29
    let v := bitOf k.flags 28
    let goes := fun (i : Instr) (b : Bool) => exec i s =
      .next (t.setCore c { k with pc := if b then k.pc + 4 * imm.signExtend 32 else k.pc + 4 })
    let ialign := Host.Outcome.next (t.raiseExc c { vec := 3, epc := k.pc, addr := y, cause := 3 })
    goes (.beq c d a imm) (decide (x = y)) ∧ goes (.bne c d a imm) (decide (x ≠ y)) ∧
    goes (.blt c d a imm) (decide (x.toInt < y.toInt)) ∧ goes (.bge c d a imm) (decide (y.toInt ≤ x.toInt)) ∧
    goes (.bltu c d a imm) (decide (x.toNat < y.toNat)) ∧ goes (.bgeu c d a imm) (decide (y.toNat ≤ x.toNat)) ∧
    (∀ b, [z, !z, cy, !cy, n, !n, v, !v, cy && !z, !cy || z, n == v, n != v, !z && n == v, z || n != v, true][cond.val]? = some b →
      goes (.bc c cond imm) b) ∧
    (cond.val = 15 → exec (.bc c cond imm) s = .next (t.raiseExc c { vec := 1, epc := k.pc, addr := 0, cause := 1 })) ∧
    exec (.j c off) s = .next (t.setCore c { k with pc := k.pc + 4 * off.signExtend 32 }) ∧
    exec (.call c off) s = .next (t.setCore c { k.setReg 15 (k.pc + 4) with pc := k.pc + 4 * off.signExtend 32 }) ∧
    (y.toNat % 4 = 0 → exec (.jr c a) s = .next (t.setCore c { k with pc := y }) ∧
      exec (.callr c a) s = .next (t.setCore c { k.setReg 15 (k.pc + 4) with pc := y })) ∧
    (y.toNat % 4 ≠ 0 → exec (.jr c a) s = ialign ∧ exec (.callr c a) s = ialign)

/-- For every state in which a core runs and has fetched above Task level, CTLR writes to gd the core number with the version for c0, and the value of STATUS, the flags, EPC, ECAUSE, EADDR, the scratch registers, VBASE, LINE, TP, and RGN_BASE and RGN_CFG; c12 gives the low word of CYCLE and latches the high word, which c13 reads. Numbers 9, 11, 14 to 23, 25 to 31 and 48 to 63 raise UNDEF. At Task level c0, c2, c12, c13 and c24 alone are read, and the others raise PRIV. -/
def Obligations.ControlRegisterReads : Prop :=
  ∀ (s : State) (c : CoreId) (d : Fin 16) (n : Fin 64) (r : Fin 8), s.fetches c = true →
    let t := s.fetched c
    let k := t.core c
    let reads := fun (m : Fin 64) (v : Word) => exec (.ctlr c d m) s = .next (t.setCore c ((k.setReg d.val v).retired k.pc))
    (k.lvl ≠ 0 →
      reads 0 (BitVec.ofNat 32 (0x100 + c.num)) ∧ reads 1 k.status ∧ reads 2 k.flags ∧ reads 3 k.epc ∧ reads 4 k.ecause ∧
      reads 5 k.eaddr ∧ reads 6 k.scratch0 ∧ reads 7 k.scratch1 ∧ reads 8 k.vbase ∧
      reads 10 (if t.line c.num then 1 else 0) ∧
      exec (.ctlr c d 12) s = .next (t.setCore c
        { (k.setReg d.val (k.cycle.setWidth 32)).retired k.pc with cycleLatch := (k.cycle >>> 32).setWidth 32 }) ∧
      reads 13 k.cycleLatch ∧ reads 24 k.tp ∧
      (∀ m : Fin 64, m.val = 32 + 2 * r.val → reads m (k.base r.val)) ∧
      (∀ m : Fin 64, m.val = 33 + 2 * r.val → reads m (k.cfg r.val))) ∧
    (n.val = 9 ∨ n.val = 11 ∨ (14 ≤ n.val ∧ n.val ≤ 23) ∨ (25 ≤ n.val ∧ n.val ≤ 31) ∨ 48 ≤ n.val →
      exec (.ctlr c d n) s = .next (t.raiseExc c { vec := 1, epc := k.pc, addr := 0, cause := 1 })) ∧
    (k.lvl = 0 → ((1 ≤ n.val ∧ n.val ≤ 8 ∧ n.val ≠ 2) ∨ n.val = 10 ∨ (32 ≤ n.val ∧ n.val ≤ 47)) →
      exec (.ctlr c d n) s = .next (t.raiseExc c { vec := 2, epc := k.pc, addr := 0, cause := 2 })) ∧
    (k.lvl = 0 → reads 0 (BitVec.ofNat 32 (0x100 + c.num)) ∧ reads 2 k.flags ∧ reads 13 k.cycleLatch ∧ reads 24 k.tp ∧
      exec (.ctlr c d 12) s = .next (t.setCore c
        { (k.setReg d.val (k.cycle.setWidth 32)).retired k.pc with cycleLatch := (k.cycle >>> 32).setWidth 32 }))

/-- For every state in which a core runs and has fetched, above Task level and on G0 at Guard level, CTLW writes STATUS but for LVL, the flags, EPC, ECAUSE, EADDR, the scratch registers, VBASE (256-byte aligned), TP, and RGN_BASE and RGN_CFG, keeping reserved fields 0. Numbers 0, 9 to 15, 23, 25 to 31 and 48 to 63 raise UNDEF. At Task level c2 and c24 are written, and c1, c3 to c8, c19 to c22 and c32 to c47 raise PRIV, as they do on G0 at Host level. -/
def Obligations.ControlRegisterWrites : Prop :=
  ∀ (s : State) (c : CoreId) (a : Fin 16) (n : Fin 64) (r : Fin 8), s.fetches c = true →
    let t := s.fetched c
    let k := t.core c
    let v := k.reg a.val
    let writes := fun (m : Fin 64) (k' : Core) => exec (.ctlw c m a) s = .next (t.setCore c (k'.retired k.pc))
    (k.lvl ≠ 0 → (c = .g0 → k.lvl = 2) →
      writes 1 { k with status := (v &&& 0x7C) ||| (k.status &&& 3) } ∧ writes 2 { k with flags := v &&& 0xF8000000 } ∧
      writes 3 { k with epc := v } ∧ writes 4 { k with ecause := v &&& 0x8001FF3F } ∧ writes 5 { k with eaddr := v } ∧
      writes 6 { k with scratch0 := v } ∧ writes 7 { k with scratch1 := v } ∧ writes 8 { k with vbase := v &&& 0xFFFFFF00 } ∧
      writes 24 { k with tp := v } ∧
      (∀ m : Fin 64, m.val = 32 + 2 * r.val → ∃ q : Core, q.base r.val = v &&& 0xFFFFF000 ∧ (∀ j, j ≠ r.val → q.base j = k.base j) ∧
        writes m { k with rgnBase := q.rgnBase }) ∧
      (∀ m : Fin 64, m.val = 33 + 2 * r.val → ∃ q : Core, q.cfg r.val = v &&& 0xFFFFF01F ∧ (∀ j, j ≠ r.val → q.cfg j = k.cfg j) ∧
        writes m { k with rgnCfg := q.rgnCfg })) ∧
    (n.val = 0 ∨ (9 ≤ n.val ∧ n.val ≤ 15) ∨ n.val = 23 ∨ (25 ≤ n.val ∧ n.val ≤ 31) ∨ 48 ≤ n.val →
      exec (.ctlw c n a) s = .next (t.raiseExc c { vec := 1, epc := k.pc, addr := 0, cause := 1 })) ∧
    ((k.lvl = 0 ∨ (c = .g0 ∧ k.lvl = 1)) → (n.val = 1 ∨ (3 ≤ n.val ∧ n.val ≤ 8) ∨ (19 ≤ n.val ∧ n.val ≤ 22) ∨
        (32 ≤ n.val ∧ n.val ≤ 47)) →
      exec (.ctlw c n a) s = .next (t.raiseExc c { vec := 2, epc := k.pc, addr := 0, cause := 2 })) ∧
    (k.lvl = 0 → writes 2 { k with flags := v &&& 0xF8000000 } ∧ writes 24 { k with tp := v })

/-- For every state in which a core runs and has fetched, outside a handler and with a readable vector entry: BRK enters vector 10 with EPC at itself, TRAP n vector 48 + n with EPC at the next instruction, and a word that is no instruction vector 1. ERET restores LVL and IE from PLVL and PIE and takes pc from EPC with its low two bits clear; it raises UNDEF for a PLVL that the core has not, and PRIV at Task level. FENCE retires. IDLE at Host or Guard level stops the core, or retires at once where LINE is 1, and raises PRIV at Task level. ERET and IDLE clear the reservation. -/
def Obligations.SystemInstructions : Prop :=
  ∀ (s : State) (c : CoreId) (n : Fin 16) (w : Word), s.fetches c = true →
    let t := s.fetched c
    let k := t.core c
    let priv := Host.Outcome.next (t.raiseExc c { vec := 2, epc := k.pc, addr := 0, cause := 2 })
    let plvl := k.status.toNat / 16 % 4
    let pie := k.status.toNat / 64 % 2
    (k.exc = false →
      (∀ x, t.vectorAt c 10 x → exec (.brk c) s = .next (t.setCore c (k.entered c k.pc 0 10 x))) ∧
      (∀ x, t.vectorAt c (48 + n.val) x →
        exec (.trap c n) s = .next (t.setCore c (k.entered c (k.pc + 4) 0 (BitVec.ofNat 32 (48 + n.val)) x))) ∧
      (∀ x, decodeRyux c w = none → t.vectorAt c 1 x →
        exec (.undefinedWord c w) s = .next (t.setCore c (k.entered c k.pc 0 1 x)))) ∧
    (plvl ≠ 3 → (plvl = 2 → c = .g0) → k.lvl ≠ 0 →
      exec (.eret c) s = .next (t.setCore c { k with
        status := BitVec.ofNat 32 (plvl + 4 * pie + 16 * plvl + 64 * pie), pc := k.epc &&& 0xFFFFFFFC, reserved := none })) ∧
    ((plvl = 3 ∨ (plvl = 2 ∧ c ≠ .g0)) →
      exec (.eret c) s = .next (t.raiseExc c { vec := 1, epc := k.pc, addr := 0, cause := 1 })) ∧
    (plvl ≠ 3 → (plvl = 2 → c = .g0) → k.lvl = 0 → exec (.eret c) s = priv) ∧
    exec (.fence c) s = .next (t.setCore c (k.retired k.pc)) ∧
    (k.lvl ≠ 0 → t.line c.num = false → exec (.idle c) s = .next (t.setCore c { k with reserved := none, run := .idle })) ∧
    (k.lvl ≠ 0 → t.line c.num = true → exec (.idle c) s = .next (t.setCore c { k.retired k.pc with reserved := none })) ∧
    (k.lvl = 0 → exec (.idle c) s = priv)

/-- For every state in which an application core runs and has fetched with EXC = 1, BRK stops the core: its registers keep their values, FLT_CORESTAT shows it locked, FLT_EVT bit 4 is set, and no register but FLT_CORESTAT, FLT_EVT, FLT_RECOVF and the pending word of the fault sources changes; no byte of memory and no other core changes. -/
def Obligations.LockUp : Prop :=
  ∀ (s : State) (c : CoreId), s.fetches c = true → c ≠ .g0 → ((s.fetched c).core c).exc = true →
    let t := s.fetched c
    Ends (.brk c) s (fun u => u.core c = { t.core c with run := .locked } ∧ u.bit FLT_CORESTAT c.num = true ∧
      u.bit FLT_EVT 4 = true ∧ SameRegsBut t u [FLT_CORESTAT, FLT_EVT, FLT_RECOVF, ECX_PEND 3] ∧ u.mem = t.mem ∧
      ∀ e, e ≠ c → u.core e = t.core e)

/-- In a powered device: EVENT_ENTRY on a core with IE and LINE 1 and no imprecise error due, that runs or is stopped by IDLE, a blocked TAKE, or a WBEAT or WBEATN whose end has not come, enters vector 32, with EPC at the instruction at which it resumes: the one after IDLE, a blocked one itself, else the next one; without IE or LINE it changes nothing. An arriving imprecise error is held with IMP set, or lost with MULTI set where one is held; a held one is taken by a running core with EXC 0 as vector 5 with WR, IMP, its kind and MULTI. IDLE_WAKE retires IDLE where LINE is 1; WBEAT_WAKE retires a WBEAT, and WBEATN_WAKE a WBEATN, with the number of the edge that ended it in gd, and changes nothing before that edge; each end wakes the device from Doze. -/
def Obligations.EventsAndWakes : Prop :=
  ∀ (s : State) (c : CoreId), s.powered = true →
    let k := s.core c
    let wakes := fun (i : Instr) (q : Core) => ∃ u, exec i s = .next u ∧
      u.core c = { q with run := .running, pc := k.pc + 4 } ∧ u.pwr = (if s.pwr = .doze then .run else s.pwr) ∧
      SameRegsBut s u [PWR_STAT] ∧ u.mem = s.mem ∧ ∀ e, e ≠ c → u.core e = s.core e
    (∀ w, s.pwr ≠ .doze → k.ie = true → s.line c.num = true → k.impDue = false → s.vectorAt c 32 w →
      let enters := fun (epc : Word) => exec (.eventEntry c) s = .next (s.setCore c (k.entered c epc 0 0x80000020 w))
      (k.run = .running → enters k.pc) ∧ (k.run = .idle → enters (k.pc + 4)) ∧
      ∀ d n, k.run = .take d ∨ k.run = .wbeat d none ∨ k.run = .wbeatn d n none → enters k.pc) ∧
    ((k.ie = false ∨ s.line c.num = false) → (∀ d b, k.run ≠ .wbeat d (some b)) → (∀ d n b, k.run ≠ .wbeatn d n (some b)) →
      exec (.eventEntry c) s = .next s) ∧
    (∀ e l, k.storeErrs = e :: l → k.heldErr = none →
      exec (.impreciseBuserr c) s =
        .next (s.setCore c { k with storeErrs := l, heldErr := some e, ecause := k.ecause ||| 0x1000 })) ∧
    (∀ e l f, k.storeErrs = e :: l → k.heldErr = some f →
      exec (.impreciseBuserr c) s =
        .next (s.setCore c { k with storeErrs := l, lostErr := true, ecause := k.ecause ||| 0x8000 })) ∧
    (∀ e w, s.pwr ≠ .doze → k.heldErr = some e → k.run = .running → k.exc = false → s.vectorAt c 5 w →
      exec (.impreciseBuserrTake c) s = .next (s.setCore c
        ({ k with heldErr := none, lostErr := false }.entered c k.pc (BitVec.ofNat 32 e.addr)
          (BitVec.ofNat 32 (0x5005 + 256 * e.kind + if k.lostErr then 0x8000 else 0)) w))) ∧
    (k.run = .idle → s.line c.num = true → wakes (.idleWake c) k) ∧
    (∀ d b, k.run = .wbeat d (some b) → wakes (.wbeatWake c) (k.setReg d (BitVec.ofNat 32 b))) ∧
    (∀ d n b, k.run = .wbeatn d n (some b) → wakes (.wbeatnWake c) (k.setReg d (BitVec.ofNat 32 b))) ∧
    (∀ d n, (k.run = .wbeat d none → exec (.wbeatWake c) s = .next s) ∧
      (k.run = .wbeatn d n none → exec (.wbeatnWake c) s = .next s))

/-- For every state in which a core runs and has fetched: on C0 to C3 without a current task, TAKE stops the core unless a task waits in its palm slot, and TAKE and SLOT take that one into g(d) and g(d+1), which becomes RUNNING and current; SLOT with none writes zeros and Z = 1. DONE gives 1 without a current task and 0 when it frees a posted task; with a successor the template's task with the ARG that SARGT selects has then taken a FREE descriptor. POST gives 3 where no template is named, 1 with a NOSLOT count where no descriptor is left for it, and else the index of a FREE descriptor that becomes the template's task. WBEAT stops the core; WBEATN too, unless BEAT_COUNT has reached its target. While shadow copies run or a FLUSH is in progress a DONE (but on G0) or POST stops the core with its operands, and is served once neither does. Each but POST clears the reservation. -/
def Obligations.TaskInstructions : Prop :=
  ∀ (s : State) (c : CoreId) (d a b : Fin 16) (pick : Nat), s.fetches c = true →
    let t := s.fetched c
    let k := t.core c
    let v := t.disCore c.num
    let palm := t.bit (DIS_CORE c.num) 0
    let undef := Host.Outcome.next (t.raiseExc c { vec := 1, epc := k.pc, addr := 0, cause := 1 })
    let takes := fun (i : Instr) (n : Nat) (f : Word) => Ends i s (fun u =>
      u.core c = { ((k.setReg d.val (t.desc n).entry).setReg (d.val + 1) (t.desc n).arg).retired k.pc with reserved := none, flags := f } ∧
      (u.desc n).state = .running ∧ (u.disCore c.num).cur = some n ∧ (u.disCore c.num).slot = none ∧
      (∀ m, m ≠ n → u.desc m = t.desc m) ∧ u.regs = t.regs ∧ u.mem = t.mem)
    let tpl := (k.reg a.val).toNat
    let refused := t.fld DIS_ADMIT 16 4 < (t.desc tpl).prio ∧ t.freeCount ≤ min 4096 (t.fld DIS_ADMIT 0 13)
    let target := (k.reg a.val).toNat + 2 ^ 32 * (k.reg (a.val + 1)).toNat
    (c ≠ .g0 → d.val % 2 = 0 → v.cur = none →
      ((palm = false ∨ v.slot = none) →
        exec (.take c d) s = .next (t.setCore c { k with reserved := none, run := .take d.val }) ∧
        exec (.slot c d) s = .next (t.setCore c { ((k.setReg d.val 0).setReg (d.val + 1) 0).retired k.pc with
          reserved := none, flags := withBit k.flags 30 true })) ∧
      (∀ n, palm = true → v.slot = some n → takes (.take c d) n k.flags ∧ takes (.slot c d) n (withBit k.flags 30 false))) ∧
    ((c = .g0 ∨ d.val % 2 = 1 ∨ v.cur ≠ none) → exec (.take c d) s = undef ∧ exec (.slot c d) s = undef) ∧
    (c = .g0 → exec (.done c d pick) s = undef) ∧
    (c ≠ .g0 → t.disWaits = true →
      exec (.done c d pick) s = .next (t.setCore c { k with reserved := none, run := .disp d.val (.done pick) })) ∧
    (t.disWaits = true →
      exec (.post c d a b pick) s = .next (t.setCore c { k with run := .disp d.val (.post tpl (k.reg b.val) pick) })) ∧
    (c ≠ .g0 → t.disWaits = false → v.cur = none →
      exec (.done c d pick) s = .next (t.setCore c { (k.setReg d.val 1).retired k.pc with reserved := none })) ∧
    (∀ n, c ≠ .g0 → t.disWaits = false → v.cur = some n → (t.desc n).sen = false → (t.desc n).kind = .posted →
      Ends (.done c d pick) s (fun u => u.core c = { (k.setReg d.val 0).retired k.pc with reserved := none } ∧
        u.desc n = Desc.blank ∧ (u.disCore c.num).cur = none ∧ (∀ m, m ≠ n → u.desc m = t.desc m) ∧ u.regs = t.regs)) ∧
    (∀ n x, c ≠ .g0 → t.disWaits = false → v.cur = some n → n < 4096 → (t.desc n).sen = true → (t.desc n).kind = .posted →
      (t.desc n).sidx = x → x ≠ n →
      ∃ u, exec (.done c d pick) s = .next u ∧ u.core c = { (k.setReg d.val 0).retired k.pc with reserved := none } ∧
        (u.disCore c.num).cur = none ∧ ∃ m, m < 4096 ∧ (m = n ∨ (t.desc m).state = .free) ∧ (u.desc m).entry = (t.desc x).entry ∧
          (u.desc m).arg = (if (t.desc n).sargt then (t.desc x).arg else (t.desc n).arg) ∧ (u.desc m).kind = .posted ∧
          ∀ j, j ≠ n → j ≠ m → u.desc j = t.desc j) ∧
    (t.disWaits = false → (4096 ≤ tpl ∨ (t.desc tpl).state ≠ .template) →
      exec (.post c d a b pick) s = .next (t.setCore c ((k.setReg d.val 3).retired k.pc))) ∧
    (t.disWaits = false → tpl < 4096 → (t.desc tpl).state = .template → (refused ∨ t.freeList = []) →
      Ends (.post c d a b pick) s (fun u => u.core c = (k.setReg d.val 1).retired k.pc ∧
        u.rg DIS_NOSLOTCNT = satInc (t.rg DIS_NOSLOTCNT) 1 ∧ u.bit DIS_EVT 1 = true ∧ ∀ m, u.desc m = t.desc m)) ∧
    (t.disWaits = false → tpl < 4096 → (t.desc tpl).state = .template → ¬refused → t.freeList ≠ [] →
      Ends (.post c d a b pick) s (fun u => ∃ n, n < 4096 ∧ (t.desc n).state = .free ∧
        u.core c = (k.setReg d.val (BitVec.ofNat 32 (n * 65536))).retired k.pc ∧
        (u.desc n).entry = (t.desc tpl).entry ∧ (u.desc n).arg = k.reg b.val ∧ (u.desc n).prio = (t.desc tpl).prio ∧
        (u.desc n).state = (if (t.desc tpl).delay = 0 then .ready else .delayed) ∧ ∀ m, m ≠ n → u.desc m = t.desc m)) ∧
    exec (.wbeat c d) s = .next (t.setCore c { k with reserved := none, run := .wbeat d.val none }) ∧
    (a.val % 2 = 1 → exec (.wbeatn c d a) s = undef) ∧
    (a.val % 2 = 0 → target ≤ t.beatNo →
      exec (.wbeatn c d a) s = .next (t.setCore c { (k.setReg d.val (BitVec.ofNat 32 t.beatNo)).retired k.pc with reserved := none })) ∧
    (a.val % 2 = 0 → t.beatNo < target →
      exec (.wbeatn c d a) s = .next (t.setCore c { k with reserved := none, run := .wbeatn d.val target none }))

/-- In a state where the fabric serves the write and no FLUSH is in progress: MKTPL and MKBND make a FREE descriptor with a legal ENTRY and CORES, and SEN 0, a TEMPLATE or BOUND; FREE clears an unused TEMPLATE to all zeros; READY makes a BOUND one READY, or DELAYED on its list with WAKE; CANCEL frees a posted READY task; FLUSH cancels every task of the list and sets BUSY, which FLUSH_DONE clears, serving the DONE or POST that waited for it; a DIS_DWIN write stores the RW fields of its word, in a FREE descriptor any values and in a TEMPLATE or BOUND one legal ones; DIS_TICK, DIS_CORE and DIS_BIND writes store their fields. No other descriptor changes and the status reads OK. READY from another state, and a DIS_DWIN write to a task that is READY, DELAYED, SLOTTED, RUNNING or HALTED, is rejected with STATE. -/
def Obligations.DispatcherCommands : Prop :=
  ∀ (s : State) (i : Initiator) (n : Fin 4096) (w : Fin 8) (v : Word) (c : Fin 4) (b : Fin 64), s.dis.busy = false →
    let d := s.desc n.val
    let ok := fun (op : Nat) => s.serves i DIS_CMD (BitVec.ofNat 32 (op * 0x10000000 + n.val)) = true
    let made := fun (j : Instr) (d' : Desc) => Ends j s (fun u => u.desc n.val = d' ∧
      (∀ m, m ≠ n.val → u.desc m = s.desc m) ∧ u.fld DIS_CMDST 0 4 = 0 ∧ u.mem = s.mem)
    let good := d.state = .free ∧ d.entry ≠ 0 ∧ d.entry.toNat % 4 = 0 ∧ d.cores ≠ 0 ∧ d.sen = false
    let x := s.fld DIS_DSEL 0 12
    let e := s.desc x
    (ok 1 → good → made (.mktpl i n) { d with state := .template, kind := .template }) ∧
    (ok 2 → good → made (.mkbnd i n) { d with state := .bound, kind := .bound }) ∧
    (ok 3 → d.state = .template → s.templateUsed n.val = false → made (.disFree i n) Desc.blank) ∧
    (ok 4 → d.state = .bound → d.delay = 0 → made (.disReady i n) { d with state := .ready, core := 0, wake := 0 }) ∧
    (ok 4 → d.state = .bound → d.delay ≠ 0 →
      made (.disReady i n) { d with state := .delayed, core := 0, wake := (s.disTime + d.delay.toNat) % 2 ^ 64 } ∧
      Ends (.disReady i n) s (fun u => n.val ∈ u.delayList d.dlist)) ∧
    (ok 4 → d.state ≠ .bound → d.state ≠ .halted → exec (.disReady i n) s = .next (s.reject disPort ST_STATE)) ∧
    (ok 5 → d.state = .ready → d.kind = .posted → made (.disCancel i n) Desc.blank) ∧
    (ok 6 → n.val < 8 → (∀ m ∈ s.delayList n.val, (s.desc m).state = .delayed ∧ (s.desc m).kind = .posted ∧
        (s.desc m).dlist = n.val) →
      Ends (.disFlush i n) s (fun u => u.dis.busy = true ∧ u.delayList n.val = [] ∧
        (∀ m, m ∈ s.delayList n.val → u.desc m = Desc.blank) ∧ ∀ m, m ∉ s.delayList n.val → u.desc m = s.desc m)) ∧
    (∀ t : State, (t.beat.copying ≠ [] ∨ ∀ (c : CoreId) x y, (t.core c).run ≠ .disp x y) →
      exec .flushDone t = .next { t with dis := { t.dis with busy := false } }) ∧
    (∀ (t : State) (k : CoreId) (r p : Nat), t.beat.copying = [] → (∀ e x y, e ≠ k → (t.core e).run ≠ .disp x y) →
      ((t.core k).run = .disp r (.done p) → (t.disCore k.num).cur = none → Ends .flushDone t (fun u => u.dis.busy = false ∧
        u.core k = { (t.core k).setReg r 1 with run := .running, pc := (t.core k).pc + 4 })) ∧
      (∀ tpl arg, (t.core k).run = .disp r (.post tpl arg p) → (t.desc tpl).state ≠ .template →
        Ends .flushDone t (fun u => u.dis.busy = false ∧
          u.core k = { (t.core k).setReg r 3 with run := .running, pc := (t.core k).pc + 4 }))) ∧
    (s.serves i (DIS_DWIN w.val) v = true → e.state ≠ .free → e.state ≠ .template → e.state ≠ .bound →
      exec (.disDwinWrite i w v) s = .next (s.reject disPort ST_STATE)) ∧
    (∀ e', s.serves i (DIS_DWIN w.val) v = true →
      (e.state = .free ∨ ((e.state = .template ∨ e.state = .bound) ∧ (w.val = 0 → v ≠ 0 ∧ v.toNat % 4 = 0) ∧
        (w.val = 2 → v.toNat / 16 % 16 ≠ 0) ∧ (w.val = 6 → v.msb = false))) →
      [{ e with entry := v }, { e with arg := v },
        { e with prio := v.toNat % 16, cores := v.toNat / 16 % 16, dlist := v.toNat / 256 % 8 }, { e with delay := v }, e, e,
        { e with sen := v.msb, sargt := bitOf v 30, sidx := v.toNat % 4096 }, { e with tag := v }][w.val]? = some e' →
      Ends (.disDwinWrite i w v) s (fun u => u.desc x = e' ∧ (∀ m, m ≠ x → u.desc m = s.desc m) ∧ u.fld DIS_CMDST 0 4 = 0)) ∧
    (s.serves i DIS_TICK v = true → (∀ l, l < 8 → s.delayList l = []) →
      Ends (.disTickWrite i v) s (fun u => u.rg DIS_TICK = v &&& 0x7F ∧ SameRegsBut s u [DIS_TICK, DIS_CMDST])) ∧
    (s.serves i (DIS_CORE c.val) v = true → (s.disCore c.val).slot = none →
      Ends (.disCoreWrite i c v) s (fun u => u.rg (DIS_CORE c.val) = v &&& 0xFFFF0F01 ∧ SameRegsBut s u [DIS_CORE c.val] ∧
        u.dis = s.dis)) ∧
    (s.serves i (DIS_BIND b.val) v = true → v.msb = false → s.bit (DIS_BIND b.val) 31 = false →
      Ends (.disBindWrite i b v) s (fun u => u.rg (DIS_BIND b.val) = v &&& 0x8FFF03FF ∧ u.fld DIS_CMDST 0 4 = 0))

/-- A tick adds 1 to DIS_TIME modulo 2^64. A due first task of a delay list leaves it and becomes READY. Whatever task the Dispatcher chooses for a core is eligible and of the lowest PRIO among the eligible ones; handed over to a core blocked in TAKE it becomes RUNNING and current, its ENTRY and ARG go to g(d) and g(d+1), and TAKE retires; put into an empty palm slot it becomes SLOTTED; one of lower PRIO returns the slotted task to READY; one slotted past SLOTAGE moves to the lowest-numbered Ask-mode core that waits for it; all of these while neither shadow copies nor a FLUSH runs. An offered source that is bound to a BOUND descriptor is delivered and makes it READY, or DELAYED with a DELAY; an unbound one is recorded once. -/
def Obligations.DispatcherEvents : Prop :=
  ∀ (s : State) (l : Fin 8) (n : Fin 4) (pick idx d : Nat),
    let v := s.disCore n.val
    let runs := fun (j : Instr) (m : Fin 4) => Ends j s (fun u => (u.desc idx).state = .running ∧ (u.desc idx).core = m.val ∧
      (u.disCore m.val).cur = some idx ∧ (u.core (.app m)).reg d = (s.desc idx).entry ∧
      (u.core (.app m)).reg (d + 1) = (s.desc idx).arg ∧ (u.core (.app m)).run = .running ∧
      (u.core (.app m)).pc = (s.core (.app m)).pc + 4 ∧ u.mem = s.mem)
    let slots := fun (j : Instr) => Ends j s (fun u => (u.desc idx).state = .slotted ∧ (u.desc idx).core = n.val ∧
      (u.disCore n.val).slot = some idx ∧ u.regs = s.regs ∧ u.mem = s.mem ∧ ∀ old, v.slot = some old → (u.desc old).state = .ready)
    Ends .disTimeTick s (fun u => u.rg64 DIS_TIME_LO = (s.rg64 DIS_TIME_LO + 1) % 2 ^ 64 ∧
      SameRegsBut s u [DIS_TIME_LO, DIS_TIME_LO + 4]) ∧
    (∀ m rest, s.delayList l.val = m :: rest → (s.desc m).wake ≤ s.disTime →
      Ends (.delayWake l) s (fun u => u.delayList l.val = rest ∧ u.desc m = { s.desc m with state := .ready, wake := 0 } ∧
        ∀ j, j ≠ m → u.desc j = s.desc j)) ∧
    (s.choose n.val pick = some idx → s.taskEligible idx n.val = true ∧
      ∀ m, s.taskEligible m n.val = true → (s.desc idx).prio ≤ (s.desc m).prio) ∧
    (s.palm n.val = false → s.disWaits = false → s.inTake n.val = some d → s.choose n.val pick = some idx →
      s.firstReceiver idx n.val = true → runs (.taskHandover n pick) n) ∧
    (s.palm n.val = true → s.disWaits = false → v.slot = none → s.inTake n.val = none → s.choose n.val pick = some idx →
      s.firstReceiver idx n.val = true → slots (.slotFill n pick)) ∧
    (∀ old, s.palm n.val = true → s.disWaits = false → v.slot = some old → s.inTake n.val = none →
      s.choose n.val pick = some idx → (s.desc idx).prio < (s.desc old).prio → slots (.slotSwap n pick)) ∧
    (∀ m : Fin 4, v.slot = some idx → s.disWaits = false → s.fld (DIS_CORE n.val) 16 16 ≠ 0 →
      s.fld (DIS_CORE n.val) 16 16 < s.disTime - v.slotAt → m ≠ n → s.palm m.val = false → s.inTake m.val = some d →
      (s.unslot n.val).taskEligible idx m.val = true →
      (∀ j, j < m.val → j = n.val ∨ s.palm j = true ∨ s.inTake j = none ∨ (s.unslot n.val).taskEligible idx j = false) →
      runs (.slotMigrate n) m) ∧
    (∀ src, s.nextOffer = some src → s.bindingOf src = some idx → (s.desc idx).state = .bound → (s.desc idx).delay = 0 →
      Ends .ecxOffer s (fun u => (u.desc idx).state = .ready ∧ u.isActive src = true ∧ u.pendOf src = false)) ∧
    (∀ src, s.nextOffer = some src → s.bindingOf src = some idx → (s.desc idx).state = .bound → (s.desc idx).delay ≠ 0 →
      Ends .ecxOffer s (fun u => (u.desc idx).state = .delayed ∧ u.isActive src = true ∧ u.pendOf src = false)) ∧
    (∀ src, s.nextOffer = some src → s.bindingOf src = none → s.dis.unboundSeen.contains src = false →
      Ends .ecxOffer s (fun u => u.rg DIS_UNBOUND = BitVec.ofNat 32 src ∧ u.bit DIS_EVT 3 = true ∧ u.isActive src = s.isActive src))

/-- A rising signal sets PEND of an edge source, and PEND of a level source that is not ACTIVE follows its signal, but for a fall in the cycle in which software wrote its PEND to 1, which leaves PEND. In a state where the fabric serves the access: ECX_SWTRIG sets a software source pending; ECX_TGT and ECX_QBASE store; a PEND write stores the bits of edge sources that the writer may change, and PEND of a level source that is not ACTIVE, whose signal did not fall in this cycle, stays its signal; a core's ECX_CLAIM in line mode answers its lowest eligible source and makes it ACTIVE, or answers 0 and changes nothing; ECX_DONE by the claimer completes it; ECX_TCTL enters queue mode with QWR and QRD 0; ECX_QRD consumes records and completes their sources. A record write begins for the lowest eligible source while no shadow copies run, or, where the ring is full, sets QOVF; when it completes, the record names the source, its type, signal and SW and the old QSEQ, QWR and QSEQ advance and the source is ACTIVE. A hold-off ends. -/
def Obligations.EventConcentrator : Prop :=
  ∀ (s : State) (i : Initiator) (src : Fin 1024) (g : Fin 32) (t : Fin 5) (v : Word),
    (0 < src.val → src.val < 864 → s.isLevel src.val = false → s.lvlOf src.val = false →
      Ends (.sourceSignal src true) s (fun u => u.pendOf src.val = true ∧ u.lvlOf src.val = true)) ∧
    (∀ b, 0 < src.val → src.val < 864 → s.isLevel src.val = true → s.isActive src.val = false →
      (b = true ∨ (s.lvlOf src.val = true ∧ s.ecx.swPend.contains src.val = false)) →
      Ends (.sourceSignal src b) s (fun u => u.pendOf src.val = b ∧ u.lvlOf src.val = b)) ∧
    (0 < src.val → src.val < 864 → s.isLevel src.val = true → s.isActive src.val = false → s.ecx.swPend.contains src.val = true →
      Ends (.sourceSignal src false) s (fun u => u.pendOf src.val = s.pendOf src.val ∧ u.lvlOf src.val = false)) ∧
    (∀ n, n = v.toNat % 1024 → s.serves i ECX_SWTRIG v = true → 864 ≤ n → n ≤ 1019 → (i = .g0 ∨ s.tgtOf n ≠ 4) →
      Ends (.ecxSwtrig i v) s (fun u => u.pendOf n = true ∧ u.fld ECX_CMDST 0 4 = 0)) ∧
    (s.serves i (ECX_TGT src.val) v = true → s.isActive src.val = false →
      Ends (.ecxTgtWrite i src v) s (fun u => u.rg (ECX_TGT src.val) = v &&& 7 ∧ SameRegsBut s u [ECX_TGT src.val, ECX_CMDST])) ∧
    (s.serves i (ECX_TGT src.val) v = true → s.isActive src.val = true →
      exec (.ecxTgtWrite i src v) s = .next (s.reject ecxPort ST_STATE)) ∧
    (s.serves i (ECX_PEND g.val) v = true → (∀ b, b < 32 → s.isLevel (32 * g.val + b) = false) →
      Ends (.ecxPendWrite i g v) s (fun u => ∀ b, b < 32 → u.pendOf (32 * g.val + b) =
        if liveSource (32 * g.val + b) = true ∧ (i = .g0 ∨ s.tgtOf (32 * g.val + b) ≠ 4) then bitOf v b
        else s.pendOf (32 * g.val + b))) ∧
    (∀ b, b < 32 → s.serves i (ECX_PEND g.val) v = true → liveSource (32 * g.val + b) = true → s.isLevel (32 * g.val + b) = true →
      s.isActive (32 * g.val + b) = false → s.ecx.fell.contains (32 * g.val + b) = false →
      Ends (.ecxPendWrite i g v) s (fun u => u.pendOf (32 * g.val + b) = s.lvlOf (32 * g.val + b))) ∧
    (∀ c n, s.servesRead i ECX_CLAIM = true → i.core? = some c → s.queueMode c.num = false → s.lowestEligible c.num = some n →
      Ends (.ecxClaim i) s (fun u => u.rdata = n ∧ u.isActive n = true ∧ u.pendOf n = false)) ∧
    (s.servesRead i ECX_CLAIM = true → (∀ c, i.core? = some c → s.queueMode c.num = true ∨ s.lowestEligible c.num = none) →
      exec (.ecxClaim i) s = .next { s with rdata := 0 }) ∧
    (∀ c n k, n = v.toNat % 1024 → s.serves i ECX_DONE v = true → liveSource n = true → i.core? = some c →
      s.claimOf n = some k → k.holder = .core c.num →
      Ends (.ecxDone i v) s (fun u => u.isActive n = false ∧ u.fld ECX_CMDST 0 4 = 0)) ∧
    (s.serves i (ECX_TCTL t.val) v = true → s.queueMode t.val = false → bitOf v 0 = true → s.targetActive t.val = false →
      inSram (s.rg (ECX_QBASE t.val)).toNat (16 * 2 ^ fieldOf v 8 4) = true →
      Ends (.ecxTctlWrite i t v) s (fun u => u.rg (ECX_TCTL t.val) = v &&& 0xF01 ∧ u.rg (ECX_QWR t.val) = 0 ∧
        u.rg (ECX_QRD t.val) = 0)) ∧
    (s.serves i (ECX_QBASE t.val) v = true → s.queueMode t.val = false →
      Ends (.ecxQbaseWrite i t v) s (fun u => u.rg (ECX_QBASE t.val) = v &&& 0xFFFFFFE0)) ∧
    (∀ n, s.beat.copying = [] → s.queueMode t.val = true → s.bit (ECX_TSTAT t.val) 1 = false →
      (∀ e ∈ s.ecx.recWrites, e.1 ≠ t.val) → s.lowestEligible t.val = some n →
      (s.ringFull t.val = false →
        Ends (.queueRecordWrite t) s (fun u => u.beingWritten n = true ∧ u.regs = s.regs ∧ u.mem = s.mem)) ∧
      (s.ringFull t.val = true → s.ecx.fullReported.contains t.val = false →
        Ends (.queueRecordWrite t) s (fun u => u.bit (ECX_TSTAT t.val) 0 = true ∧ u.rg (ECX_QWR t.val) = s.rg (ECX_QWR t.val) ∧
          u.ecx.recWrites = s.ecx.recWrites))) ∧
    (∀ e, s.ecx.recWrites.find? (fun e => e.1 == t.val) = some e → e.2 < 1024 →
      (∀ a, 0x10000000 ≤ a → a ≤ 0x107FFFFF → s.physOf .sram false a = some a) → (∀ p, s.eccAt p = none) →
      inSram (s.rg (ECX_QBASE t.val)).toNat (16 * s.ringSlots t.val) = true → (s.rg (ECX_QBASE t.val)).toNat % 32 = 0 →
      (s.rg (ECX_QWR t.val)).toNat < s.ringSlots t.val →
      Ends (.queueRecordDone t) s (fun u =>
        u.rg (ECX_QWR t.val) = BitVec.ofNat 32 (((s.rg (ECX_QWR t.val)).toNat + 1) % s.ringSlots t.val) ∧
        u.rg (ECX_QSEQ t.val) = s.rg (ECX_QSEQ t.val) + 1 ∧ u.isActive e.2 = true ∧
        u.peek ((s.rg (ECX_QBASE t.val)).toNat + 16 * (s.rg (ECX_QWR t.val)).toNat) 4 = e.2 +
          (if s.isLevel e.2 then 0x10000 else 0) + (if s.lvlOf e.2 then 0x20000 else 0) + (if (s.stampOf e.2).sw then 0x40000 else 0) ∧
        u.peek ((s.rg (ECX_QBASE t.val)).toNat + 16 * (s.rg (ECX_QWR t.val)).toNat + 12) 4 = (s.rg (ECX_QSEQ t.val)).toNat ∧
        SameBytesBut s u ((s.rg (ECX_QBASE t.val)).toNat + 16 * (s.rg (ECX_QWR t.val)).toNat) 16)) ∧
    (∀ n k rd wr slots, n = v.toNat % 4096 → slots = s.ringSlots t.val → rd = (s.rg (ECX_QRD t.val)).toNat →
      wr = (s.rg (ECX_QWR t.val)).toNat → s.serves i (ECX_QRD t.val) v = true → s.queueMode t.val = true → n < slots →
      k = (n + slots - rd % slots) % slots → k ≤ (wr + slots - rd % slots) % slots →
      Ends (.ecxQrdWrite i t v) s (fun u => u.rg (ECX_QRD t.val) = BitVec.ofNat 32 n ∧
        ∀ x ∈ (s.ringOf t.val).take k, u.isActive x = false)) ∧
    (∀ x : Fin 6, Ends (.holdoffEnd g x) s (fun u => u.heldOff g.val x.val = false ∧ u.regs = s.regs ∧ u.mem = s.mem))

/-- In a powered device a word write that the fabric lets through stores a plain register's RW bits, clears its W1C bits where 1 is written and sets its W1S bits, and changes no other register and no memory; a read answers the register and clears its RC bits. A word write to SRAM stores the word and no other byte. A refused write counts in SYS_FERR_COUNT, and so does a refused read, which answers 0; each is captured in SYS_FERR_ADDR and SYS_FERR_INFO where no capture is held, and a held capture stays. The low word of BEAT_COUNT latches the high word as it then stands. A write of the high word of LDG_TAT applies it with the writer's pending low word. -/
def Obligations.FabricAccesses : Prop :=
  ∀ (s : State) (i : Initiator) (a v lo w : Word),
    let n := a.toNat
    (∀ row x y, regAt n = some (row, x, y) → 0x40000000 ≤ n → n ≤ 0x4020FFFF → row.words = 1 → row.word = 0 → row.sh = none →
      row.perCore = false → s.wrSpecial i (n / 0x10000) n x y v = none → s.serves i n v = true →
      Ends (.registerWrite i a v) s (fun u =>
        u.rg n = ((((s.rg n &&& ~~~(BitVec.ofNat 32 row.rw)) ||| (v &&& BitVec.ofNat 32 row.rw)) &&&
          ~~~(v &&& BitVec.ofNat 32 row.w1c)) ||| (v &&& BitVec.ofNat 32 row.w1s)) ∧ SameRegsBut s u [n] ∧ u.mem = s.mem)) ∧
    (∀ row x y, regAt n = some (row, x, y) → 0x40000000 ≤ n → n ≤ 0x4020FFFF → row.words = 1 → row.word = 0 → row.perCore = false →
      s.rdSpecial i n x = none → s.rdShow i (n / 0x10000) n x = none → s.servesRead i n = true →
      Ends (.readClear i a) s (fun u => u.rdata = (s.rg n &&& ~~~(BitVec.ofNat 32 row.wo)).toNat ∧
        u.rg n = s.rg n &&& ~~~(BitVec.ofNat 32 row.rc) ∧ SameRegsBut s u [n] ∧ u.mem = s.mem)) ∧
    (∀ p, s.powered = true → 0x10000000 ≤ n → n ≤ 0x107FFFFF → n % 4 = 0 → s.physOf .sram (i == .g0) n = some p →
      s.eccAt (p / 8 * 8) = none →
      Ends (.registerWrite i a v) s (fun u => u.peek p 4 = v.toNat ∧ SameBytesBut s u p 4 ∧ u.regs = s.regs)) ∧
    (∀ k, s.powered = true → s.judge i n true .word v.toNat = some (k, none) → s.bit SYS_FERR_INFO 31 = false →
      Ends (.registerWrite i a v) s (fun u => u.rg SYS_FERR_COUNT = satInc (s.rg SYS_FERR_COUNT) 1 ∧ u.rg SYS_FERR_ADDR = a ∧
        u.rg SYS_FERR_INFO = BitVec.ofNat 32 (0x80000000 + 2 * 512 + 256 + 16 * i.code + k.code) ∧
        SameRegsBut s u [SYS_FERR_COUNT, SYS_FERR_ADDR, SYS_FERR_INFO, ECX_PEND 0] ∧ u.mem = s.mem)) ∧
    (∀ k, s.powered = true → s.judge i n false .word 0 = some (k, none) → s.bit SYS_FERR_INFO 31 = false →
      Ends (.readClear i a) s (fun u => u.rdata = 0 ∧ u.rg SYS_FERR_COUNT = satInc (s.rg SYS_FERR_COUNT) 1 ∧ u.rg SYS_FERR_ADDR = a ∧
        u.rg SYS_FERR_INFO = BitVec.ofNat 32 (0x80000000 + 2 * 512 + 16 * i.code + k.code) ∧
        SameRegsBut s u [SYS_FERR_COUNT, SYS_FERR_ADDR, SYS_FERR_INFO, ECX_PEND 0] ∧ u.mem = s.mem)) ∧
    (∀ k, s.powered = true → s.bit SYS_FERR_INFO 31 = true →
      (s.judge i n true .word v.toNat = some (k, none) → Ends (.registerWrite i a v) s (fun u =>
        u.rg SYS_FERR_COUNT = satInc (s.rg SYS_FERR_COUNT) 1 ∧ SameRegsBut s u [SYS_FERR_COUNT, ECX_PEND 0] ∧ u.mem = s.mem)) ∧
      (s.judge i n false .word 0 = some (k, none) → Ends (.readClear i a) s (fun u => u.rdata = 0 ∧
        u.rg SYS_FERR_COUNT = satInc (s.rg SYS_FERR_COUNT) 1 ∧ SameRegsBut s u [SYS_FERR_COUNT, ECX_PEND 0] ∧ u.mem = s.mem))) ∧
    (s.servesRead i BEAT_COUNT_LO = true → s.servesRead i (BEAT_COUNT_LO + 4) = true →
      Ends (.latchRead i (BitVec.ofNat 32 BEAT_COUNT_LO)) s (fun t => t.rdata = (s.rg BEAT_COUNT_LO).toNat ∧ t.regs = s.regs ∧
        Ends (.latchRead i (BitVec.ofNat 32 (BEAT_COUNT_LO + 4))) (t.setRg (BEAT_COUNT_LO + 4) w) (fun u =>
          u.rdata = (s.rg (BEAT_COUNT_LO + 4)).toNat))) ∧
    (s.serves i LDG_TAT_LO lo = true →
      Ends (.multiwordCommit i (BitVec.ofNat 32 LDG_TAT_LO) lo) s (fun u => u.pendingWord i LDG_TAT_LO = some lo ∧ u.regs = s.regs)) ∧
    (s.serves i LDG_TAT_HI v = true → s.pendingWord i LDG_TAT_LO = some lo →
      Ends (.multiwordCommit i (BitVec.ofNat 32 LDG_TAT_HI) v) s (fun u => u.rg LDG_TAT_LO = lo ∧ u.rg LDG_TAT_HI = v ∧
        u.pendingWord i LDG_TAT_LO = none ∧ SameRegsBut s u [LDG_TAT_LO, LDG_TAT_HI]))

/-- In a memory without ECC errors a scrubber step with SCRUB enabled only moves its position by one word modulo 131,072, and with it disabled changes nothing. A single-bit error at its position in an expert memory is corrected, counted in MEM_CECNT and captured in MEM_ERR_ADDR, and no byte changes. An upset that makes a word of a retired row that a spare serves uncorrectable is counted in MEM_UECNT, and the word stays so. A row copy to either spare that ends is recorded in its half of MEM_REMAP with the valid bit, and MEM_EVT bit 2 is set. An MRAM program that ends is no longer in progress. -/
def Obligations.MemoryMaintenance : Prop :=
  ∀ (s : State) (b : Fin 8) (r : Fin 2),
    ((∀ p, s.eccAt p = none) → s.bit MEM_CTRL 0 = true →
      exec (.scrubStep none) s = .next { s with ms := { s.ms with scrubAt := (s.ms.scrubAt + 1) % 131072 } }) ∧
    (s.bit MEM_CTRL 0 = false → exec (.scrubStep none) s = .next s) ∧
    (∀ a : Word, (∀ p, s.eccAt p = none) → s.bit MEM_CTRL 0 = true → s.ms.scrubAt < 131072 → a.toNat = 0x20000000 + s.ms.scrubAt % 16384 * 8 →
      Ends (.scrubStep (some (.word a false))) s (fun u => u.eccAt a.toNat = none ∧ u.rg MEM_CECNT = satInc (s.rg MEM_CECNT) 1 ∧
        u.rg MEM_ERR_ADDR = a ∧ u.mem = s.mem)) ∧
    (∀ (a : Word) q, (∀ p, s.eccAt p = none) → s.bit MEM_CTRL 0 = true → s.ms.scrubAt < 131072 → a.toNat = 0x10000000 + s.ms.scrubAt * 8 →
      s.bit (MEM_HOLE (s.ms.scrubAt / 512 / 32)) (s.ms.scrubAt / 512 % 32) = false →
      s.physOf .sram false a.toNat = some q → s.chanState (s.ms.scrubAt / 512) = 2 →
      Ends (.scrubStep (some (.word a true))) s (fun u => u.eccAt q = some .uncorrectable ∧
        u.rg MEM_UECNT = satInc (s.rg MEM_UECNT) 1 ∧ u.rg MEM_ERR_ADDR = a ∧ u.mem = s.mem)) ∧
    (∀ c, s.ms.copies.find? (fun c => c.bank == b.val) = some c → c.spare = 0 → c.row < 256 →
      Ends (.spareCopyDone b) s (fun u => u.fld (MEM_REMAP b.val) 0 8 = c.row ∧ u.bit (MEM_REMAP b.val) 15 = true ∧
        u.bit MEM_EVT 2 = true ∧ SameRegsBut s u [MEM_REMAP b.val, MEM_EVT, ECX_PEND 1] ∧ u.mem = s.mem)) ∧
    (∀ c, s.ms.copies.find? (fun c => c.bank == b.val) = some c → c.spare = 1 → c.row < 256 →
      Ends (.spareCopyDone b) s (fun u => u.fld (MEM_REMAP b.val) 16 8 = c.row ∧ u.bit (MEM_REMAP b.val) 31 = true ∧
        u.bit MEM_EVT 2 = true ∧ SameRegsBut s u [MEM_REMAP b.val, MEM_EVT, ECX_PEND 1] ∧ u.mem = s.mem)) ∧
    Ends (.mramProgramDone r) s (fun u => (∀ e ∈ u.ms.programming, e.region ≠ r.val) ∧ u.regs = s.regs ∧ u.mem = s.mem)

/-- In a state where the fabric serves the write, START of an IDLE or HALT channel enters RUN where TRIG is 0 and else WAIT, with ERR and STOPPED clear; STOP of one in WAIT or RUN makes it IDLE and STOPPED with the first descriptor in DMA_CH_DESC; configuration writes store in IDLE and HALT; what is illegal in its state is rejected with STATE. A pulse counts in TPEND of the channel that selects it while its descriptor is fetched, starts a burst of one that waits, and is missed by one in IDLE or HALT. A fetched valid descriptor of a channel without trigger puts it into RUN; an invalid one halts it with ERR 4, and a failed fetch with ERR 3. A request starts a burst of a waiting channel. An element whose read or write ends in an error halts the channel with ERR 1 or 2 and the address; one that succeeds inside its burst and row moves on by one column. The last descriptor's end leaves the channel IDLE with the first descriptor in DMA_CH_DESC; another's names the next one; either raises source 64 + n where IRQ is 1. -/
def Obligations.DmaChannels : Prop :=
  ∀ (s : State) (i : Initiator) (n : Fin 16) (v : Word) (t : Fin 64),
    let st := s.dmaState n.val
    let still := st = 0 ∨ st = 3
    let r := s.dmaRun n.val
    let first := smGet (fun _ => (0 : Word)) s.dma.first n.val
    let z := Size.ofCode (fieldOf (r.at_ 0) 0 2)
    let src := r.addr 1 4 (fieldOf (r.at_ 0) 2 2)
    let dst := r.addr 2 5 (fieldOf (r.at_ 0) 4 2)
    let s1 := { s with dma := { s.dma with lastServed := smSet (fun _ => 15) s.dma.lastServed (s.dmaPrio n.val) n.val } }
    let halted := fun (x : State) (err a : Nat) => x.dmaState n.val = 3 ∧ x.fld (DMA_CH_STAT n.val) 4 4 = err ∧
      x.rg (DMA_CH_ERRADDR n.val) = BitVec.ofNat 32 a
    let live := s.bit SYS_CLKEN 0 = true ∧ (st = 1 ∨ st = 2)
    (s.serves i (DMA_CH_CTRL n.val) 1 = true → still →
      Ends (.dmaStart i n) s (fun u => u.dmaState n.val = (if s.dmaTrig n.val = 0 then 2 else 1) ∧
        u.fld (DMA_CH_STAT n.val) 4 4 = 0 ∧ u.bit (DMA_CH_STAT n.val) 12 = false ∧ u.dmaPhase n.val = .fetch ∧
        SameRegsBut s u [DMA_CH_STAT n.val, DMA_CMDST] ∧ u.mem = s.mem)) ∧
    (s.serves i (DMA_CH_CTRL n.val) 1 = true → ¬still → exec (.dmaStart i n) s = .next (s.reject dmaPort ST_STATE)) ∧
    (s.serves i (DMA_CH_CTRL n.val) 2 = true → ¬still →
      Ends (.dmaStop i n) s (fun u => u.dmaState n.val = 0 ∧ u.bit (DMA_CH_STAT n.val) 12 = true ∧
        u.rg (DMA_CH_DESC n.val) = first ∧ SameRegsBut s u [DMA_CH_STAT n.val, DMA_CH_DESC n.val, DMA_CMDST] ∧ u.mem = s.mem)) ∧
    (s.serves i (DMA_CH_CFG n.val) v = true → still →
      Ends (.dmaCfgWrite i n v) s (fun u => u.dmaTrig n.val = v.toNat % 64 ∧ u.fld (DMA_CH_CFG n.val) 8 2 = v.toNat / 256 % 4 ∧
        SameRegsBut s u [DMA_CH_CFG n.val, DMA_CMDST])) ∧
    (s.serves i (DMA_CH_DESC n.val) v = true → still →
      Ends (.dmaDescWrite i n v) s (fun u => u.rg (DMA_CH_DESC n.val) = v &&& 0xFFFFFFE0 ∧
        SameRegsBut s u [DMA_CH_DESC n.val, DMA_CMDST])) ∧
    (s.bit SYS_CLKEN 0 = true → 1 ≤ t.val → t.val ≤ 25 → s.dmaTrig n.val = t.val → (∀ m, m < 16 → m ≠ n.val → s.dmaTrig m ≠ t.val) →
      s.fld (DMA_CH_STAT n.val) 16 4 < 15 →
      ((st = 1 ∨ st = 2) → s.dmaPhase n.val = .fetch → Ends (.dmaTriggerPulse t) s (fun u =>
        u.fld (DMA_CH_STAT n.val) 16 4 = s.fld (DMA_CH_STAT n.val) 16 4 + 1 ∧ SameRegsBut s u [DMA_CH_STAT n.val])) ∧
      (st = 1 → s.dmaPhase n.val = .move → Ends (.dmaTriggerPulse t) s (fun u => u.dmaState n.val = 2 ∧
        u.fld (DMA_CH_STAT n.val) 16 4 = s.fld (DMA_CH_STAT n.val) 16 4 ∧ (u.dmaRun n.val).burstLeft = r.burst)) ∧
      (still → Ends (.dmaTriggerPulse t) s (fun u => u.rg (DMA_CH_TMISS n.val) = satInc (s.rg (DMA_CH_TMISS n.val)) 1 ∧
        u.bit DMA_EVT 1 = true ∧ u.rg (DMA_CH_STAT n.val) = s.rg (DMA_CH_STAT n.val)))) ∧
    (∀ b e u (d : DmaRun), live → s.dmaPhase n.val = .fetch → s.readRun .dma (s.rg (DMA_CH_DESC n.val)).toNat 32 = (b, e, u) →
      d = ⟨(List.range 8).map (fun j => BitVec.ofNat 32 (ofLe ((b.drop (4 * j)).take 4))), 0, 0, 0⟩ →
      (e = none → d.invalid = false → u.dmaTrig n.val = 0 → Ends (.dmaDescFetch n) s (fun x => x.dmaState n.val = 2 ∧
        x.dmaPhase n.val = .move ∧ x.dmaRun n.val = { d with burstLeft := d.burst } ∧ x.mem = u.mem)) ∧
      (e = none → d.invalid = true → Ends (.dmaDescFetch n) s (fun x =>
        halted x 4 (s.rg (DMA_CH_DESC n.val)).toNat ∧ x.mem = u.mem)) ∧
      (∀ k p, e = some (k, p) → Ends (.dmaDescFetch n) s (fun x => halted x 3 p ∧ x.fld (DMA_CH_STAT n.val) 8 4 = k.code ∧
        x.mem = u.mem))) ∧
    (live → st = 1 → s.dmaPhase n.val = .move → s.dmaLevel (s.dmaTrig n.val) = true →
      Ends (.dmaLevelTrigger n) s (fun u => u.dmaState n.val = 2 ∧ (u.dmaRun n.val).burstLeft = r.burst)) ∧
    (∀ k u, s.bit SYS_CLKEN 0 = true → s.dmaNext = some n.val → s1.busRead .dma src z = (.err k, u) →
      Ends .dmaElement s (fun x => halted x 1 src ∧ x.fld (DMA_CH_STAT n.val) 8 4 = k.code ∧ x.mem = u.mem)) ∧
    (∀ e u w, s.bit SYS_CLKEN 0 = true → s.dmaNext = some n.val → s1.busRead .dma src z = (.ok e, u) →
      (∀ k, u.busWrite .dma dst z e = (.err k, w) →
        Ends .dmaElement s (fun x => halted x 2 dst ∧ x.fld (DMA_CH_STAT n.val) 8 4 = k.code ∧ x.mem = w.mem)) ∧
      (u.busWrite .dma dst z e = (.ok 0, w) →
        Ends .dmaElement s (fun x => x.mem = w.mem ∧ x.dma.lastServed = w.dma.lastServed ∧
          (w.dmaReady n.val = true → 1 < (w.dmaRun n.val).burstLeft →
            (w.dmaRun n.val).col + 1 < fieldOf ((w.dmaRun n.val).at_ 3) 0 16 →
            (w.dmaRun n.val).row < fieldOf ((w.dmaRun n.val).at_ 3) 16 16 →
            x.dmaRun n.val = { w.dmaRun n.val with
              col := (w.dmaRun n.val).col + 1, burstLeft := (w.dmaRun n.val).burstLeft - 1 })))) ∧
    (live → s.dmaPhase n.val = .ending → bitOf (r.at_ 0) 10 = false →
      (bitOf (r.at_ 0) 11 = true → Ends (.dmaDescEnd n) s (fun u => u.dmaState n.val = 0 ∧ u.rg (DMA_CH_DESC n.val) = first ∧
        u.mem = s.mem ∧ (bitOf (r.at_ 0) 9 = true → s.isLevel (64 + n.val) = false → u.pendOf (64 + n.val) = true))) ∧
      (bitOf (r.at_ 0) 11 = false → Ends (.dmaDescEnd n) s (fun u => u.dmaState n.val = (if s.dmaTrig n.val = 0 then 2 else 1) ∧
        u.rg (DMA_CH_DESC n.val) = r.at_ 6 ∧ u.dmaPhase n.val = .fetch ∧ u.mem = s.mem ∧
        (bitOf (r.at_ 0) 9 = true → s.isLevel (64 + n.val) = false → u.pendOf (64 + n.val) = true))))

/-- In a state where the fabric serves the write: GNT_LOGPOP removes the oldest log entry. With the watchdog enabled and no grace time running, 0xC35A begins the kick sequence, 0x3CA5 after it restarts COUNT where COUNT has reached OPEN, and is an EARLY violation where it has not; any other value is BADKEY. While COUNT advances, COUNT reaching TIMEOUT is LATE, and the warning comes once per interval; in Doze with DOZE set COUNT does not advance and neither comes. A violation is shown in WDG_STAT and starts the grace time, or with bit 1 of WDG_CFG set restarts COUNT. WDG_CFG and the limits are written while the watchdog is disabled, with both limits below TIMEOUT, and rejected with STATE while it is enabled. -/
def Obligations.WatchdogAndLog : Prop :=
  ∀ (s : State) (i : Initiator) (v : Word) (r : Fin 3),
    let on := s.bit WDG_CFG 0 = true
    let counts := on ∧ s.powered = true ∧ (s.bit WDG_CFG 2 = true → s.pwr ≠ .doze)
    let kick := on ∧ s.gnt.wdgGrace = none ∧ s.serves i WDG_KICK v = true
    let violates := fun (j : Instr) (reason : Nat) => Ends j s (fun u => u.fld WDG_STAT 0 2 = reason ∧ u.gnt.wdgSeq = false ∧
      (s.bit WDG_CFG 1 = false → u.gnt.wdgGrace = some reason) ∧
      (s.bit WDG_CFG 1 = true → u.gnt.wdgGrace = none ∧ u.rg WDG_COUNT = 0))
    (s.serves i GNT_LOGPOP 1 = true →
      Ends (.gntLogpop i) s (fun u => u.gnt.log = s.gnt.log.drop 1 ∧ u.regs = s.regs ∧ u.mem = s.mem)) ∧
    (kick → v = 0xC35A → s.gnt.wdgSeq = false → Ends (.wdgKick i v) s (fun u => u.gnt.wdgSeq = true ∧ u.regs = s.regs)) ∧
    (kick → v = 0x3CA5 → s.gnt.wdgSeq = true → (s.rg WDG_OPEN).toNat ≤ (s.rg WDG_COUNT).toNat →
      Ends (.wdgKick i v) s (fun u => u.gnt.wdgSeq = false ∧ u.rg WDG_COUNT = 0 ∧ u.gnt.wdgWarned = false ∧
        SameRegsBut s u [WDG_COUNT])) ∧
    (kick → v = 0x3CA5 → s.gnt.wdgSeq = true → (s.rg WDG_COUNT).toNat < (s.rg WDG_OPEN).toNat → violates (.wdgKick i v) 2) ∧
    (kick → v ≠ 0xC35A → v ≠ 0x3CA5 → violates (.wdgKick i v) 3) ∧
    (counts → s.gnt.wdgGrace = none → violates .wdgLate 1) ∧
    (counts → s.gnt.wdgWarned = false → Ends .wdgWarn s (fun u => u.gnt.wdgWarned = true ∧
      SameRegsBut s u [WDG_COUNT, ECX_PEND 3])) ∧
    (on → s.gnt.wdgWarned = true → exec .wdgWarn s = .next s) ∧
    (s.bit WDG_CFG 2 = true → s.pwr = .doze → exec .wdgLate s = .next s ∧ exec .wdgWarn s = .next s ∧
      ∀ n, (s.advance n).rg WDG_COUNT = s.rg WDG_COUNT) ∧
    (s.serves i WDG_CFG v = true → ¬on → (s.rg WDG_OPEN).toNat < (s.rg WDG_TIMEOUT).toNat →
      (s.rg WDG_WARN).toNat < (s.rg WDG_TIMEOUT).toNat →
      Ends (.wdgCfgWrite i v) s (fun u => u.rg WDG_CFG = v &&& 0x3FF0007 ∧ u.fld WDG_CMDST 0 4 = 0 ∧
        (bitOf v 0 = true → u.rg WDG_COUNT = 0))) ∧
    (s.serves i WDG_CFG v = true → on → exec (.wdgCfgWrite i v) s = .next (s.reject wdgPort ST_STATE)) ∧
    (s.serves i (WDG_TIMEOUT + 4 * r.val) v = true → ¬on →
      Ends (.wdgLimitWrite i r v) s (fun u => u.rg (WDG_TIMEOUT + 4 * r.val) = (if r = 2 then v &&& 0xFFFF else v &&& 0xFFFFFF) ∧
        SameRegsBut s u [WDG_TIMEOUT + 4 * r.val, WDG_CMDST])) ∧
    (s.serves i (WDG_TIMEOUT + 4 * r.val) v = true → on → exec (.wdgLimitWrite i r v) s = .next (s.reject wdgPort ST_STATE))

/-- An error on an OK channel within its retries makes it SUSPECT with count 1 and opens its window; one on a SUSPECT channel inside its window counts on; one past the retries retires it, records it in FLT_LASTCH and queues or counts a fault record, and outside the SRAM rows changes no byte of memory; an error on a RETIRED or REQUAL channel changes nothing more. A link port counts every report in LNK_PERR besides. A SUSPECT channel whose window is over returns to OK. In a state where the fabric serves the write, REQUAL moves a RETIRED channel to REQUAL, and a port whose PHY has link and which is enabled comes UP; REINSTATE moves a REQUAL one to OK, and a row is no hole then; ABORT moves it back to RETIRED, and a port is DOWN; each is rejected with STATE from other states. CORERST puts a core into reset, out of SYS_CRUN, and is rejected with ARG for another channel. -/
def Obligations.FaultManager : Prop :=
  ∀ (s : State) (i : Initiator) (ch : Fin 4096) (detail : Word) (cls : Nat), chanClass ch.val = some cls →
    let st := s.chanState ch.val
    let op := fun (n : Nat) => s.serves i FLT_CMD (BitVec.ofNat 32 (n * 0x10000000 + ch.val)) = true
    let port := 0x810 ≤ ch.val ∧ ch.val ≤ 0x812
    let perr := LNK_PERR (ch.val - 0x810)
    let s1 := if port then s.setRg perr (s.rg perr + 1) else s
    let retries := s.fld (FLT_POLICY cls) 0 4
    let window := s.fld (FLT_POLICY cls) 16 16
    let cnt := s.fld (FLT_CHSTAT ch.val) 8 8
    let retires := fun (n : Nat) => Ends (.faultReport ch detail) s (fun u => u.chanState ch.val = 2 ∧
      u.rg FLT_LASTCH = BitVec.ofNat 32 ch.val ∧ u.bit FLT_EVT 2 = true ∧ (0x800 ≤ ch.val → u.mem = s.mem) ∧
      (s.gnt.records.length < 16 → ∃ r, u.gnt.records = s.gnt.records ++ [r] ∧
        r[0]? = some (BitVec.ofNat 32 (ch.val + 0x10000 + n * 0x1000000)) ∧ r[3]? = some detail))
    (st = 0 → 1 ≤ retries →
      Ends (.faultReport ch detail) s (fun u => u.chanState ch.val = 1 ∧ u.fld (FLT_CHSTAT ch.val) 8 8 = 1 ∧
        u.chanFirst ch.val = s.beatNo ∧ u.bit FLT_EVT 1 = true ∧
        SameRegsBut s1 u [FLT_CHSTAT ch.val, FLT_EVT, ECX_PEND 3] ∧ u.mem = s.mem)) ∧
    (st = 1 → s.beatNo < s.chanFirst ch.val + window → cnt + 1 ≤ retries →
      Ends (.faultReport ch detail) s (fun u => u.chanState ch.val = 1 ∧ u.fld (FLT_CHSTAT ch.val) 8 8 = cnt + 1 ∧
        u.chanFirst ch.val = s.chanFirst ch.val ∧ SameRegsBut s1 u [FLT_CHSTAT ch.val, FLT_EVT, ECX_PEND 3] ∧ u.mem = s.mem)) ∧
    (st = 0 → retries = 0 → retires 1) ∧
    (st = 1 → s.beatNo < s.chanFirst ch.val + window → retries < cnt + 1 → retires (cnt + 1)) ∧
    ((st = 2 ∨ st = 3) → exec (.faultReport ch detail) s = .next s1) ∧
    (st = 1 → s.chanFirst ch.val + window ≤ s.beatNo →
      Ends (.faultWindowEnd ch) s (fun u => u.chanState ch.val = 0 ∧ SameRegsBut s u [FLT_CHSTAT ch.val])) ∧
    (op 1 → st = 2 → Ends (.fltRequal i ch) s (fun u => u.chanState ch.val = 3 ∧ u.mem = s.mem ∧
      (¬port → SameRegsBut s u [FLT_CHSTAT ch.val, FLT_CMDST]) ∧
      (port → (s.port (ch.val - 0x810)).phy = true → s.bit (LNK_PORT (ch.val - 0x810)) 0 = true →
        (ch.val = 0x812 ∨ s.fld LNK_STAT 0 3 ≠ 0) → u.portUp (ch.val - 0x810) = true))) ∧
    (op 1 → st ≠ 2 → exec (.fltRequal i ch) s = .next (s.reject fltPort ST_STATE)) ∧
    (op 2 → st = 3 → Ends (.fltReinstate i ch) s (fun u => u.chanState ch.val = 0 ∧ u.fld FLT_CMDST 0 4 = 0 ∧
      u.bit FLT_EVT 3 = true ∧ (ch.val < 0x800 → u.bit (MEM_HOLE (ch.val / 32)) (ch.val % 32) = false))) ∧
    (op 2 → st ≠ 3 → exec (.fltReinstate i ch) s = .next (s.reject fltPort ST_STATE)) ∧
    (op 3 → st = 3 → Ends (.fltAbort i ch) s (fun u => u.chanState ch.val = 2 ∧ u.mem = s.mem ∧
      (¬port → SameRegsBut s u [FLT_CHSTAT ch.val, FLT_CMDST]) ∧ (port → u.portUp (ch.val - 0x810) = false))) ∧
    (op 3 → st ≠ 3 → exec (.fltAbort i ch) s = .next (s.reject fltPort ST_STATE)) ∧
    (∀ n : Fin 4, ch.val = n.val → op 4 →
      Ends (.corerst i ch) s (fun u => u.core (.app n) = Core.atReset 1 ∧ u.bit SYS_CRUN n.val = false ∧
        u.bit FLT_CORESTAT n.val = false ∧ (u.disCore n.val).slot = none ∧ (u.disCore n.val).cur = none ∧
        ∀ e, e ≠ .app n → u.core e = s.core e)) ∧
    (4 ≤ ch.val → op 4 → exec (.corerst i ch) s = .next (s.reject fltPort ST_ARG))

/-- In a state where the fabric serves the write and the key block is not busy: LOAD with a legal TYPE and USAGE into an empty slot begins with the key of KEY_IN (for a P-256 key one from 1 to n − 1), which then reads 0; GEN begins with a free value as key; ERASE of an unlocked slot that no operation uses begins to empty it; LOCK of a full slot begins to lock it. Each sets BUSY and changes the slot only at KEY_DONE, which clears BUSY and raises source 112. A GEN of a full slot is rejected with STATE, and after a health failure with RNGFAIL; one that ends while RNGERR is set ends with RNGFAIL and leaves every slot. CRY_RNG reads 32 bits of a fresh free value to G0, 0 after a failure, and always 0 to another core after the handover. -/
def Obligations.KeyStore : Prop :=
  ∀ (s : State) (i : Initiator) (slot type : Fin 16) (usage : Fin 4),
    let k := s.keySlot slot.val
    let op := fun (w : Nat) => s.serves i KEY_CMD (BitVec.ofNat 32 w) = true
    let arg := type.val * 65536 + usage.val * 256 + slot.val
    let begins := fun (j : Instr) (q : KeySlot → Prop) => Ends j s (fun u => u.bit KEY_STAT 31 = true ∧ u.fld KEY_STAT 0 4 = 0 ∧
      u.gnt.keys = s.gnt.keys ∧ (∃ x, u.gnt.keyOp = some (slot.val, x) ∧ q x) ∧ SameRegsBut s u [KEY_STAT] ∧ u.mem = s.mem)
    let idle := s.bit KEY_STAT 31 = false
    let legal := (1 ≤ type.val ∧ type.val ≤ 2) ∨ (type.val = 3 ∧ usage.val = 0)
    (op (0x10000000 + arg) → idle → k.type = 0 → legal → s.bit CRY_STAT 8 = false →
      begins (.keyGen i slot type usage) (fun x => x.type = type.val ∧ x.usage = usage.val ∧ x.lock = false)) ∧
    (op (0x10000000 + arg) → idle → k.type ≠ 0 → exec (.keyGen i slot type usage) s = .next (s.reject keyPort ST_STATE)) ∧
    (op (0x10000000 + arg) → idle → k.type = 0 → legal → s.bit CRY_STAT 8 = true →
      exec (.keyGen i slot type usage) s = .next (s.reject keyPort ST_RNGFAIL)) ∧
    (op (0x20000000 + arg) → idle → k.type = 0 → legal → (type.val = 3 → 1 ≤ s.keyInValue ∧ s.keyInValue < p256n) →
      begins (.keyLoad i slot type usage) (fun x => x.type = type.val ∧ x.usage = usage.val ∧ x.lock = false ∧
        x.key = if type.val = 1 then s.keyInValue / 2 ^ 128 * 2 ^ 128 else s.keyInValue) ∧
      Ends (.keyLoad i slot type usage) s (fun u => u.keyInValue = 0)) ∧
    (op (0x30000000 + slot.val) → idle → k.lock = false → s.gnt.cryOp = none →
      begins (.keyErase i slot) (fun x => x = KeySlot.empty)) ∧
    (op (0x30000000 + slot.val) → k.lock = true → exec (.keyErase i slot) s = .next (s.reject keyPort ST_STATE)) ∧
    (op (0x40000000 + slot.val) → idle → k.type ≠ 0 → begins (.keyLock i slot) (fun x => x = { k with lock := true })) ∧
    (∀ n x, s.gnt.keyOp = some (n, x) → s.gnt.keyRng = true → s.bit CRY_STAT 8 = true → Ends .keyDone s (fun u =>
      u.gnt.keys = s.gnt.keys ∧ u.bit KEY_STAT 31 = false ∧ u.fld KEY_STAT 0 4 = 7 ∧ u.gnt.keyOp = none ∧
      u.rg KEY_REJECT = satInc (s.rg KEY_REJECT) 1 ∧ SameRegsBut s u [KEY_STAT, KEY_REJECT, ECX_PEND 3])) ∧
    (∀ n x, s.gnt.keyOp = some (n, x) → (s.gnt.keyRng = false ∨ s.bit CRY_STAT 8 = false) → Ends .keyDone s (fun u => u.keySlot n = x ∧ (∀ m, m ≠ n → u.keySlot m = s.keySlot m) ∧
      u.bit KEY_STAT 31 = false ∧ u.gnt.keyOp = none ∧ SameRegsBut s u [KEY_STAT, ECX_PEND 3])) ∧
    Ends .trngHealthFail s (fun u => u.bit CRY_STAT 8 = true ∧ SameRegsBut s u [CRY_STAT] ∧ u.mem = s.mem) ∧
    (s.servesRead .g0 CRY_RNG = true → s.bit CRY_STAT 8 = true → Ends (.cryRngRead .g0) s (fun u => u.rdata = 0 ∧ u.regs = s.regs)) ∧
    (s.servesRead .g0 CRY_RNG = true → s.bit CRY_STAT 8 = false → Ends (.cryRngRead .g0) s (fun u => u.rdata < 2 ^ 32 ∧
      u.drawn = s.drawn + 1 ∧ u.regs = s.regs)) ∧
    (s.servesRead i CRY_RNG = true → i ≠ .g0 → s.bit BOOT_STAT 10 = true →
      Ends (.cryRngRead i) s (fun u => u.rdata = 0 ∧ u.regs = s.regs))

/-- In a state where the fabric serves the write, the engine is idle and the conditions of R231 hold, each of the seven operations sets BUSY, keeps its registers and changes no memory; while BUSY it is rejected with STATE, and where a condition fails with ARG. At the end of a SHA-256 over bytes that are read without error, begun with FIRST and LAST, CRY_HASH holds the digest and the status reads OK; a verification ends OK for a valid signature and BADSIG otherwise; a PUBLIC_KEY writes the key's point. A read error ends SHA-256 with BUSERR, and RNGERR a signature with RNGFAIL. Whatever the operation, its end clears BUSY and no operation runs. -/
def Obligations.CryptoOperations : Prop :=
  ∀ (s : State) (i : Initiator) (flags slot : Fin 16),
    let op := fun (n : Nat) => s.serves i CRY_CMD (BitVec.ofNat 32 (n * 0x10000000 + flags.val * 0x1000000 + slot.val)) = true
    let idle := s.bit CRY_STAT 31 = false
    let k := s.keySlot slot.val
    let len := (s.rg CRY_LEN).toNat
    let dec := flags.val.testBit 0 = true
    let aes := fun (b : Nat) => (k.type = 1 ∨ k.type = 2) ∧ k.usage.testBit b = true
    let starts := fun (j : Instr) (n : Nat) => Ends j s (fun u => u.bit CRY_STAT 31 = true ∧ u.fld CRY_STAT 0 4 = 0 ∧
      (∃ o, u.gnt.cryOp = some o ∧ o.op = n ∧ o.flags = flags.val ∧ o.slot = slot.val ∧ ∀ m, m < 60 → o.word (CRY_SRC + 4 * m) =
        (s.rg (CRY_SRC + 4 * m)).toNat) ∧ SameRegsBut s u [CRY_STAT] ∧ u.mem = s.mem)
    (op 1 → idle → (len % 64 = 0 ∨ flags.val.testBit 2 = true) → starts (.sha256 i flags slot) 1) ∧
    (op 2 → idle → ((dec ∧ aes 1) ∨ (¬dec ∧ aes 0)) → len % 16 = 0 → len ≠ 0 → starts (.aesCbc i flags slot) 2) ∧
    (op 3 → idle → aes 0 → len ≠ 0 → starts (.aesCtr i flags slot) 3) ∧
    (op 4 → idle → ((dec ∧ aes 1) ∨ (¬dec ∧ aes 0)) → (len ≠ 0 ∨ (s.rg CRY_AADLEN).toNat ≠ 0) → starts (.aesGcm i flags slot) 4) ∧
    (op 5 → idle → k.type = 3 → starts (.ecdsaSign i flags slot) 5) ∧
    (op 6 → idle → (if flags.val.testBit 3 = true then k.type = 3 else onCurve (s.rgBe (CRY_PUB 0) 8) (s.rgBe (CRY_PUB 8) 8) = true) →
      starts (.ecdsaVerify i flags slot) 6) ∧
    (op 7 → idle → k.type = 3 → starts (.publicKey i flags slot) 7) ∧
    (op 5 → ¬idle → exec (.ecdsaSign i flags slot) s = .next (s.reject cryPort ST_STATE)) ∧
    (op 5 → idle → k.type ≠ 3 → exec (.ecdsaSign i flags slot) s = .next (s.reject cryPort ST_ARG)) ∧
    (∀ o : CryOp, s.gnt.cryOp = some o → Ends .cryDone s (fun u => u.bit CRY_STAT 31 = false ∧ u.gnt.cryOp = none)) ∧
    (∀ o : CryOp, s.gnt.cryOp = some o → o.op = 5 → s.bit CRY_STAT 8 = true →
      Ends .cryDone s (fun u => u.fld CRY_STAT 0 4 = 7 ∧ SameRegsBut s u [CRY_STAT, ECX_PEND 3] ∧ u.mem = s.mem)) ∧
    (∀ (o : CryOp) b t, s.gnt.cryOp = some o → o.op = 1 → o.flags.testBit 1 = true → o.flags.testBit 2 = true →
      s.readRun .g0 (o.word CRY_SRC) (o.word CRY_LEN) = (b, none, t) →
      Ends .cryDone s (fun u => u.bit CRY_STAT 31 = false ∧ u.fld CRY_STAT 0 4 = 0 ∧ u.gnt.cryOp = none ∧ u.mem = t.mem ∧
        ∀ n, n < 8 → u.rg (CRY_HASH n) =
          (shaBlocks shaInit (natsOf b ++ shaPad b.length) ((natsOf b ++ shaPad b.length).length / 64)).getD n 0)) ∧
    (∀ (o : CryOp) b e t, s.gnt.cryOp = some o → o.op = 1 → s.readRun .g0 (o.word CRY_SRC) (o.word CRY_LEN) = (b, some e, t) →
      Ends .cryDone s (fun u => u.bit CRY_STAT 31 = false ∧ u.fld CRY_STAT 0 4 = 6 ∧ u.gnt.cryOp = none ∧ u.mem = t.mem)) ∧
    (∀ o : CryOp, s.gnt.cryOp = some o → o.op = 6 → o.flags.testBit 3 = false →
      Ends .cryDone s (fun u => u.bit CRY_STAT 31 = false ∧ u.mem = s.mem ∧ u.fld CRY_STAT 0 4 =
        if ecVerify (o.be (CRY_HASH 0) 8) (o.be (CRY_SIG 0) 8) (o.be (CRY_SIG 8) 8) (some (o.be (CRY_PUB 0) 8, o.be (CRY_PUB 8) 8)) = true
        then 0 else 5)) ∧
    (∀ (o : CryOp) x y, s.gnt.cryOp = some o → o.op = 7 → ecMul (s.keySlot o.slot).key p256g = some (x, y) →
      Ends .cryDone s (fun u => u.bit CRY_STAT 31 = false ∧ u.mem = s.mem ∧ u.rg (CRY_PUB 7) = BitVec.ofNat 32 x ∧
        u.rg (CRY_PUB 15) = BitVec.ofNat 32 y))

/-- In a state where the fabric serves the write: SYS_CLKEN stores where no gated block is busy and else is rejected; a group opens with its bits disarmed where it has members, shares none and its beat is ahead, and becomes LATE with every member missing where its beat has come; CANCEL ends an OPEN group; arming adds member bits whose shadows pass their check; members and beat are written outside OPEN; an SH register's write stores in the shadow and leaves every live value, but one of domain 0 is rejected with STATE while that domain is armed. Four beats without sync lead to HOLDOVER or with HOLDMAX 0 to FREE, and a HOLDOVER past HOLDMAX to FREE. BRIM_END clears BRIM; an enabled mark raises its source; CG_APPLIED makes the group APPLIED. -/
def Obligations.BeatCommands : Prop :=
  ∀ (s : State) (i : Initiator) (n : Fin 8) (v lo : Word) (pll : Fin 3),
    (s.serves i SYS_CLKEN v = true → (∀ b, b < 23 → s.bit SYS_CLKEN b = true → bitOf v b = false → s.clkBusy b = false) →
      Ends (.sysClkenWrite i v) s (fun u => u.rg SYS_CLKEN = v &&& 0x7FFFFF ∧ SameRegsBut s u [SYS_CLKEN, SYS_CMDST])) ∧
    (∀ b, s.serves i SYS_CLKEN v = true → b < 23 → s.bit SYS_CLKEN b = true → bitOf v b = false → s.clkBusy b = true →
      exec (.sysClkenWrite i v) s = .next (s.reject sysPort ST_STATE)) ∧
    (s.serves i SYS_FERR_INFO 0x80000000 = true →
      Ends (.ferrRearm i) s (fun u => u.rg SYS_FERR_INFO = 0 ∧ u.rg SYS_FERR_ADDR = 0 ∧ SameRegsBut s u [SYS_FERR_INFO, SYS_FERR_ADDR])) ∧
    Ends (.pllLockRegained pll) s (fun u => u.bit SYS_CLKSTAT pll.val = true ∧ SameRegsBut s u [SYS_CLKSTAT]) ∧
    ((s.beatState = 1 ∨ s.beatState = 2) → 4 ≤ s.beat.noSync →
      Ends .holdover s (fun u => u.beatState = if s.rg BEAT_HOLDMAX = 0 then 0 else 3)) ∧
    (s.beatState = 3 → (s.rg BEAT_HOLDMAX).toNat < s.beat.holdBeats →
      Ends .holdmaxExpiry s (fun u => u.beatState = 0 ∧ u.beat.numbered = false)) ∧
    (s.beat.copying.contains n.val = true →
      Ends (.cgApplied n) s (fun u => u.cgState n.val = 2 ∧ u.bit BEAT_EVT 0 = true ∧ u.beat.copying.contains n.val = false)) ∧
    (s.bit BEAT_STAT 8 = true → Ends .brimEnd s (fun u => u.bit BEAT_STAT 8 = false ∧ u.mem = s.mem)) ∧
    (∀ w, s.beat.marks[n.val]? = some w → w / 2 ^ 31 % 2 = 1 → s.isLevel (8 + n.val) = false →
      Ends (.beatMark n) s (fun u => u.pendOf (8 + n.val) = true ∧ u.mem = s.mem)) ∧
    (s.serves i (CG_CTRL n.val) 1 = true → s.cgHeld n.val = false → s.cgShared n.val (s.rg (CG_MEMBERS n.val)) = false →
      s.rg (CG_MEMBERS n.val) ≠ 0 → s.beatNo < s.cgBeat n.val →
      Ends (.cgOpen i n) s (fun u => u.cgState n.val = 1 ∧ u.rg (CG_ARMED n.val) = 0 ∧ u.fld BEAT_CMDST 0 4 = 0 ∧
        SameRegsBut s u [CG_STAT n.val, CG_ARMED n.val, CG_MISSING n.val, BEAT_CMDST])) ∧
    (s.serves i (CG_CTRL n.val) 1 = true → s.cgHeld n.val = false → s.cgShared n.val (s.rg (CG_MEMBERS n.val)) = false →
      s.rg (CG_MEMBERS n.val) ≠ 0 → s.cgBeat n.val ≤ s.beatNo →
      Ends (.cgOpen i n) s (fun u => u.cgState n.val = 3 ∧ u.rg (CG_MISSING n.val) = s.rg (CG_MEMBERS n.val) ∧
        u.bit BEAT_EVT 1 = true)) ∧
    (s.serves i (CG_CTRL n.val) 2 = true → s.cgOpen n.val = true →
      Ends (.cgCancel i n) s (fun u => u.cgState n.val = 4 ∧ SameRegsBut s u [CG_STAT n.val, CG_MISSING n.val, BEAT_CMDST] ∧
        u.live = s.live)) ∧
    (s.serves i (CG_CTRL n.val) 2 = true → s.cgOpen n.val = false → exec (.cgCancel i n) s = .next (s.reject beatPort ST_STATE)) ∧
    (s.serves i (CG_ARMED n.val) v = true → s.cgOpen n.val = true → v &&& 0x7FFF ≠ 0 →
      (v &&& 0x7FFF) &&& ~~~(s.rg (CG_MEMBERS n.val)) = 0 → (∀ d, d < 15 → bitOf v d = true → s.armOk d = true) →
      Ends (.cgArm i n v) s (fun u => u.rg (CG_ARMED n.val) = s.rg (CG_ARMED n.val) ||| (v &&& 0x7FFF) ∧
        SameRegsBut s u [CG_ARMED n.val, BEAT_CMDST])) ∧
    (∀ d, s.serves i (CG_ARMED n.val) v = true → s.cgOpen n.val = true → d < 15 → bitOf v d = true → s.armOk d = false →
      exec (.cgArm i n v) s = .next (s.reject beatPort ST_ARG)) ∧
    (s.serves i (CG_MEMBERS n.val) v = true → s.cgHeld n.val = false →
      Ends (.cgMembersWrite i n v) s (fun u => u.rg (CG_MEMBERS n.val) = v &&& 0x7FFF ∧ SameRegsBut s u [CG_MEMBERS n.val, BEAT_CMDST])) ∧
    (s.serves i (CG_BEAT_HI n.val) v = true → s.cgHeld n.val = false → s.pendingWord i (CG_BEAT_LO n.val) = some lo →
      Ends (.cgBeatWrite i n v) s (fun u => u.cgBeat n.val = lo.toNat + 2 ^ 32 * v.toNat)) ∧
    (∀ a row x y d, regAt a = some (row, x, y) → row.sh = some d → a < 2 ^ 32 → s.serves i a v = true →
      (d ≠ 0 ∨ s.domain0Armed = false) →
      Ends (.shadowWrite i (BitVec.ofNat 32 a) v) s (fun u =>
        u.rg a = ((((s.rg a &&& ~~~(BitVec.ofNat 32 row.rw)) ||| (v &&& BitVec.ofNat 32 row.rw)) &&&
          ~~~(v &&& BitVec.ofNat 32 row.w1c)) ||| (v &&& BitVec.ofNat 32 row.w1s)) ∧ SameRegsBut s u [a, BEAT_CMDST] ∧
        (d ≠ 0 → u.rg BEAT_CMDST = s.rg BEAT_CMDST) ∧ u.live = s.live)) ∧
    (∀ a row x y, regAt a = some (row, x, y) → row.sh = some 0 → a < 2 ^ 32 → s.serves i a v = true → s.domain0Armed = true →
      exec (.shadowWrite i (BitVec.ofNat 32 a) v) s = .next (s.reject beatPort ST_STATE))

/-- A placed edge comes at the beat's length: the clients that waited for it are judged, BEAT_LAST takes the phase reached, BEAT_PHASE becomes 0 and, for a device in FREE or LEAD, BEAT_COUNT grows by 1 modulo 2^64; then the blocks, the brim, the marks, the source, the next length, a slip and the cores follow in this order. The next length takes the floor of accumulator and numerator over the denominator and keeps the rest. A complete group at its beat copies its members' shadows and no others, every other OPEN group past or at its beat becomes LATE, and WBEAT and WBEATN see the edge. Vertical blanking starts where the output's timing places it; a lead on it takes its edge from Output A's once half a period has passed, and after 1.25 periods without one, rounded up (model's choice, log entry 8), sets BEAT_EVT bit 7 and takes the edge from the generator. A client is judged at its deadline, which in a beat of another length counts by that length, rounded down (model's choice, log entry 8), or at the next edge where DLINE is 0 and none is placed; a late pipe, audio block or batch sets its BEAT_OVRSTAT bit. Clock losses show in SYS_CLKSTAT and SYS_CLKEVT, and those of PLL_SYS and XIN reset the device; an accepted fault record leaves the queue. -/
def Obligations.BeatEdges : Prop :=
  ∀ (s : State) (k : EdgeKind) (t : Word) (o : Fin 2) (c : Fin 9),
    let x := s.judgeAtEdge
    let r := x.clockEdge
    let q := r.blocksEdge.brimEdge.sourceEdge k x.byVblank
    let den := max 1 s.nextPeriod.2
    let dline := s.lvFld (BEAT_DLINE c.val) 0 16
    let lost := fun (b : Nat) => ((s.setBit SYS_CLKSTAT b false).setBit SYS_CLKEVT b true).raise 29
    let late := fun (b : Bool) (n : Nat) => Ends (.clientDeadline c) s (fun u =>
      (b = true → u.bit BEAT_OVRSTAT c.val = true) ∧ (b = false → u.rg BEAT_OVRSTAT = s.rg BEAT_OVRSTAT) ∧
      (u.rg BEAT_PHASE).toNat = max (s.rg BEAT_PHASE).toNat n % 2 ^ 32 ∧ u.mem = s.mem)
    s.beatEdge k = (q.placeNext.slipEdge x (x.rg BEAT_PHASE).toNat).coresEdge ∧
    r.rg BEAT_LAST = x.rg BEAT_PHASE ∧ r.rg BEAT_PHASE = 0 ∧
    ((x.beatState = 0 ∨ x.beatState = 4) → r.rg64 BEAT_COUNT_LO = (x.beatNo + 1) % 2 ^ 64) ∧
    (s.byVblank = false ∨ s.bit BEAT_STAT 4 = true → ∃ len, s.placeNext.beat.len = some len ∧ s.placeNext.beat.acc < den ∧
      len * den + s.placeNext.beat.acc = s.beat.acc + s.nextPeriod.1) ∧
    (s.byVblank = true → s.bit BEAT_STAT 4 = false → s.placeNext.beat.len = none) ∧
    (∀ (m : CoreId) d w, ((s.core m).run = .wbeat d none → (s.coresEdge.core m).run = .wbeat d (some s.beatNo)) ∧
      ((s.core m).run = .wbeatn d w none → (s.coresEdge.core m).run = .wbeatn d w (if w ≤ s.beatNo then some s.beatNo else none))) ∧
    (∀ n, n < 8 → s.canonical = true → s.cgOpen n = true → s.cgBeat n = s.beatNo → s.cgMissing n = 0 →
      ∀ a row y z d, regAt a = some (row, y, z) → row.sh = some d → d < 15 →
        (s.judgeGroup n).lv a = if bitOf (s.rg (CG_MEMBERS n)) d = true then s.rg a else s.lv a) ∧
    (∀ n, n < 8 → s.cgOpen n = true → s.cgBeat n ≤ s.beatNo → (s.cgBeat n < s.beatNo ∨ s.cgMissing n ≠ 0) →
      (s.judgeGroup n).cgState n = 3 ∧ (s.judgeGroup n).rg (CG_MISSING n) = s.cgMissing n ∧ (s.judgeGroup n).bit BEAT_EVT 1 = true ∧
      (s.judgeGroup n).live = s.live) ∧
    (s.edgePlaced = true → exec .beatEdge s = .next ((s.advanceTo s.beatLen).beatEdge .placed)) ∧
    (∀ n, s.powered = true → s.byVblank = true → s.bit BEAT_STAT 4 = false → s.beat.len = none →
      (let p := 4 * max 1 (s.lvFld BEAT_GEN_DEN 0 8)
        let five := 5 * (s.lv BEAT_GEN_NUM).toNat
        five ≤ p * n ∧ ∀ j, j < n → p * j < five) →
      exec .sourceLoss s = .next ((((s.advanceTo n).setBit BEAT_EVT 7 true).raise 7).beatEdge .loss)) ∧
    (∀ n, s.powered = true → s.outClock = true → s.out.relock.contains o.val = false → s.vblankAt o.val t.toNat = some n →
      s.inBeat n = true → (o = 1 → s.cmdMode = false) →
      let v := ((s.advanceTo n).vblankHere o.val).outEvt (if o = 0 then 1 else 3)
      (v.vert o.val).zero = some (v.rg BEAT_PHASE).toNat ∧ v.vertLine o.val = some 0 ∧ v.mem = s.mem ∧
      (o = 1 ∨ s.byVblank = false ∨ s.beat.silent = true ∨ v.halfPeriod = false ∨ (s.bit BEAT_STAT 4 = false ∧ s.beat.len ≠ none) →
        exec (.vblankStart o t) s = .next v) ∧
      (o = 0 → s.byVblank = true → s.beat.silent = false → v.halfPeriod = true → (s.bit BEAT_STAT 4 = true ∨ s.beat.len = none) →
        exec (.vblankStart o t) s = .next (v.beatEdge .vblank))) ∧
    (∀ n, s.powered = true → (if dline = 0 then s.beat.len = some n else n = dline * s.beatLen / 65536) →
      exec (.clientDeadline c) s = .next ((s.advanceTo n).judgeClient c.val) ∧
      (c.val ≤ 2 → late (s.rasEnabled c.val && (decide ((s.pipe c.val).line < s.activeH c.val) || (s.pipe c.val).under)) n) ∧
      (c = 3 → late (s.lvBit AUD_CTRL 0 && s.aud.ready != some (s.beatNo + 1)) n) ∧
      (c = 8 → late (s.bit BLT_STAT 4 && !s.blt.overran) n)) ∧
    (s.powered = true → dline = 0 → s.beat.len = none → exec (.clientDeadline c) s =
      .next { s with beat := { s.beat with dueAtEdge := if c.val ∈ s.beat.dueAtEdge then s.beat.dueAtEdge else s.beat.dueAtEdge ++ [c.val] } }) ∧
    (s.powered = true → exec (.clockLoss 0) s = .next ((lost 0).wdgReset 7) ∧ exec (.clockLoss 3) s = .next ((lost 3).wdgReset 6)) ∧
    (∀ b, b < 4 → (lost b).bit SYS_CLKSTAT b = false ∧ (lost b).bit SYS_CLKEVT b = true) ∧
    (s.powered = true → Ends (.clockLoss 1) s (fun u => u.bit SYS_CLKSTAT 1 = false ∧ u.bit SYS_CLKEVT 1 = true ∧ u.mem = s.mem)) ∧
    (s.powered = true → Ends (.clockLoss 2) s (fun u => u.bit SYS_CLKSTAT 2 = false ∧ u.bit SYS_CLKEVT 2 = true ∧ u.mem = s.mem)) ∧
    (∀ h rest y, s.gnt.records = h :: rest → s.powered = true → s.offerRecord 0x20 (pairWords h) = (true, y) →
      exec .faultRecordOffer s = .next { y with gnt := { y.gnt with records := rest } }) ∧
    (∀ h rest y, s.gnt.records = h :: rest → s.powered = true → s.offerRecord 0x20 (pairWords h) = (false, y) →
      exec .faultRecordOffer s = .next y)

/-- In a state where the fabric serves the write: LDG_PUT queues the staged payload with PENDING set, or is rejected with STATE before RUN, while one is pending or where restricted, and with ARG for a TYPE it may not name. A served acceptance answers DOWN, FULL, SEQMAX or BADCRC and writes no record, or writes the record with the next OSEQ into a free slot; a slot whose read-back differs is left free and defective, and a second one ends it with BADCRC. START runs from STOPPED; RELEASE frees the committed records up to its GSEQ and no others; SNAP copies every tally; TSCHED arms and TCANCEL disarms a boundary; FORMAT empties a stopped, empty ring with TERM 1; TDEF is written in STOPPED. Recovery finds a sound record again and ends in STOPPED. A power-fail warning ends in QUIET, and its end in RUN. -/
def Obligations.LedgerCommands : Prop :=
  ∀ (s : State) (i : Initiator) (v : Word) (t : Fin 64) (w : Fin 2) (pick : Fin 16384),
    let st := s.ldgState
    let put := viewKey i.code LDG_PUTST
    let seq := viewKey i.code LDG_PUTSEQ_LO
    let cmd := fun (op : Word) => s.serves i LDG_CMD (op * 0x10000000) = true
    let refused := fun (j : Instr) => exec j s = .next (s.reject ldgPort ST_STATE)
    let g := s.rg64 LDG_REL_LO
    (s.serves i LDG_PUT v = true → s.bit put 31 = false → 2 ≤ st → s.bit LDG_RESTR 0 = false → putType (fieldOf v 0 8) = true →
      Ends (.ldgPut i v) s (fun u => u.bit put 31 = true ∧ SameRegsBut s u [put] ∧ u.mem = s.mem ∧ u.ldg.queue = s.ldg.queue ++
        [{ src := i.code, type := fieldOf v 0 8, chk := bitOf v 8, pcrc := s.rg (viewKey i.code LDG_PCRC),
           down := st == 3 || s.bit PWR_STAT 4, payload := (List.range 6).map (fun n => s.rg (viewKey i.code (LDG_STG n))) }])) ∧
    (s.serves i LDG_PUT v = true → (s.bit put 31 = true ∨ st ≤ 1 ∨ s.bit LDG_RESTR 0 = true) →
      Ends (.ldgPut i v) s (fun u => u.fld put 0 4 = 2 ∧ u.rg64 seq = 0 ∧ u.ldg = s.ldg ∧ u.mem = s.mem)) ∧
    (s.serves i LDG_PUT v = true → s.bit put 31 = false → 2 ≤ st → s.bit LDG_RESTR 0 = false → putType (fieldOf v 0 8) = false →
      Ends (.ldgPut i v) s (fun u => u.fld put 0 4 = 3 ∧ u.rg64 seq = 0 ∧ u.ldg = s.ldg ∧ u.mem = s.mem)) ∧
    (∀ p l, s.ldg.queue = p :: l → p.src < 5 →
      let free := p.down = false ∧ s.ldgUsed < (s.rg LDG_HWM).toNat ∧ s.anyFree = true
      let pay := payOf p.payload
      let crc := crc32 (bytesLe 8 (wd pay 0) ++ bytesLe 8 (wd pay 1) ++ bytesLe 8 (wd pay 2))
      let answers := fun (code : Nat) => Ends (.ldgAcceptance pick 0) s (fun u => u.rg (viewKey p.src LDG_PUTST) = BitVec.ofNat 32 code ∧
        u.rg64 (viewKey p.src LDG_PUTSEQ_LO) = 0 ∧ u.ldg.queue = l ∧ u.ldg.slots = s.ldg.slots ∧ u.mem = s.mem)
      (p.down = true → answers 4) ∧
      (p.down = false → ((s.rg LDG_HWM).toNat ≤ s.ldgUsed ∨ s.anyFree = false) → answers 1) ∧
      (free → s.oseqBase = 0xFFFFFFFFFFFF → answers 6) ∧
      (free → s.oseqBase ≠ 0xFFFFFFFFFFFF → p.chk = true → p.pcrc.toNat ≠ crc → answers 5) ∧
      (∀ k, free → s.oseqBase < 0xFFFFFFFFFFFF → (p.chk = true → p.pcrc.toNat = crc) → s.pickSlot pick.val = some k →
        s.slotFree k = true ∧
        (s.ldg.weak.contains k = false → Ends (.ldgAcceptance pick 0) s (fun u => u.rg (viewKey p.src LDG_PUTST) = 0 ∧
          u.ldg.queue = l ∧ u.rg64 (viewKey p.src LDG_PUTSEQ_LO) = s.oseqBase + 1 ∧
          u.slotRec k = some (s.makeRecord p.type false none (s.oseqBase + 1) pay))) ∧
        (∀ bad : Fin 3, bad ≠ 0 → Ends (.ldgAcceptance pick bad) s (fun u => u.ldg.queue = l ∧ u.slotRec k = none ∧
          k ∈ u.ldg.defective ∧ (bad = 2 → u.rg (viewKey p.src LDG_PUTST) = 5 ∧ u.ldg.slots = s.ldg.slots))))) ∧
    (s.ldg.queue = [] → exec (.ldgAcceptance pick 0) s = .next s) ∧
    (cmd 1 → st = 1 → Ends (.ldgStart i) s (fun u => u.ldgState = 2 ∧ u.bit LDG_STAT 8 = false ∧
      (s.ldg.lastReset ≠ 1 → s.ldg.lastReset ≠ 2 → s.committedAbove 0 = [] → u.tally t.val = s.storedTally t.val))) ∧
    (cmd 1 → st ≠ 1 → refused (.ldgStart i)) ∧
    (cmd 2 → s.ldgRole = 1 → g ≤ s.ldg.nv.gseq → s.ldg.nv.rel < g → (s.ldg.slots.map (fun e => e.1)).Nodup →
      Ends (.ldgRelease i) s (fun u => u.ldg.nv.rel = g ∧ ∀ e, e ∈ u.ldg.slots ↔ e ∈ s.ldg.slots ∧ ¬(0 < recGseq e.2 ∧ recGseq e.2 ≤ g))) ∧
    (cmd 2 → s.ldgRole ≠ 1 → refused (.ldgRelease i)) ∧
    (cmd 2 → s.ldgRole = 1 → s.ldg.nv.gseq < g → exec (.ldgRelease i) s = .next (s.reject ldgPort ST_ARG)) ∧
    (cmd 3 → Ends (.ldgSnap i) s (fun u => u.rg64 (LDG_TALLY_LO t.val) = (s.tally t.val).value % 2 ^ 64 ∧
      u.rg64 LDG_SNAPSEQ_LO = s.ldg.nv.gseq % 2 ^ 64 ∧ u.ldg = s.ldg ∧ u.mem = s.mem)) ∧
    (cmd 4 → (s.ldg.nv.armed.isSome && s.ldg.armedAnn) = false → Ends (.tsched i) s (fun u =>
      u.ldg.nv.armed = some (s.rg64 LDG_TAT_LO, s.fld LDG_TNEW 0 16) ∧ SameRegsBut s u [LDG_CMDST] ∧ u.mem = s.mem)) ∧
    (cmd 5 → (s.ldg.nv.armed.isSome && s.ldg.armedAnn) = false → Ends (.tcancel i) s (fun u =>
      u.ldg.nv.armed = none ∧ SameRegsBut s u [LDG_CMDST] ∧ u.mem = s.mem)) ∧
    (cmd 4 → (s.ldg.nv.armed.isSome && s.ldg.armedAnn) = true → refused (.tsched i)) ∧
    (cmd 6 → st = 1 → s.ldgUsed = 0 → Ends (.ldgFormat i) s (fun u => u.ldg.nv.term = 1 ∧ u.ldg.nv.fresh = true ∧
      u.ldg.nv.epoch = s.ldg.nv.epoch ∧ u.ldg.nv.gseq = 0 ∧ u.tally t.val = Tally.zero ∧ SameRegsBut s u [LDG_CMDST])) ∧
    (cmd 6 → (st ≠ 1 ∨ s.ldgUsed ≠ 0) → refused (.ldgFormat i)) ∧
    (s.serves i (LDG_TDEF_A t.val + 4 * w.val) v = true → st = 1 → Ends (.tdefWrite i t w v) s (fun u =>
      u.rg (LDG_TDEF_A t.val + 4 * w.val) = (s.rg (LDG_TDEF_A t.val + 4 * w.val) &&& ~~~(if w = 0 then 0x87FFBFFF else 0xFF)) |||
        (v &&& (if w = 0 then 0x87FFBFFF else 0xFF)) ∧ SameRegsBut s u [LDG_TDEF_A t.val + 4 * w.val, LDG_CMDST] ∧ u.mem = s.mem)) ∧
    (s.serves i (LDG_TDEF_A t.val + 4 * w.val) v = true → st ≠ 1 → refused (.tdefWrite i t w v)) ∧
    (st = 0 → Ends .ldgRecovery s (fun u => u.ldgState = 1 ∧ u.bit LDG_EVT 16 = true)) ∧
    (∀ k l, st = 0 → s.touchedSlots = [k] → l = (List.range 8).map (fun n => s.peek (slotAddr k n) 8) → s.peek (copyAddr k) 8 = wd l 0 →
      s.eccAt (copyAddr k) ≠ some .uncorrectable → (∀ n, n < 8 → s.eccAt (slotAddr k n) ≠ some .uncorrectable) →
      recType l ≠ 0 → wd l 4 / 2 ^ 32 = recCrc l → Ends .ldgRecovery s (fun u => u.ldg.slots = [(k, l)] ∧ u.mem = s.mem)) ∧
    (st ≠ 0 → exec .ldgRecovery s = .next s) ∧
    (s.bit PWR_STAT 4 = true → s.bit LDG_STAT 8 = false → Ends .ldgQuiet s (fun u => u.bit LDG_STAT 8 = true ∧
      u.bit LDG_EVT 9 = true ∧ (st = 3 → u.ldg.queue = []))) ∧
    (st = 3 → s.bit PWR_STAT 4 = false → Ends .pfwRestore s (fun u => u.ldgState = 2 ∧ u.bit LDG_STAT 8 = false))

/-- A LEDGER frame that the link does not deliver, or of a lower term, changes nothing more. Of one that is taken: at a manager in RUN with room, the record next in line of its origin is committed under the next GSEQ, and without room, outside RUN or at the largest GSEQ the frame stays in its buffer; at an origin, an acknowledgement moves the acknowledged OSEQ up and frees its own uncommitted records up to it; at the deputy, a new record of another device is held under its GSEQ, and one it holds uncommitted takes its GSEQ in place; the release cursor frees the records up to it; a confirmation of LDG_GSEQ by the deputy makes MIRROR SYNC. In its window a worker hands off, and the manager mirrors, catches up and acknowledges, up to 22 records in a frame, and each cursor moves past what was sent. -/
def Obligations.LedgerFrames : Prop :=
  ∀ (s : State) (p : Fin 2) (f : Llp) (d : Fin 64) (high : BitVec 48) (j : Instr) (kind : Nat),
    let r := s.receive p.val (frameOf f 6)
    let taken := fun (k : Nat) (t : State) => r.deliver = true ∧ ledgerWhole f.payload k = true ∧ r.st.observer = false ∧
      t = r.st.hearTerm (fieldAt f.payload 4 4) ∧ r.st.ldg.nv.term ≤ fieldAt f.payload 4 4
    let value := fieldAt f.payload 8 8 % 2 ^ 48
    let roomy := fun (t : State) => t.ldg.weak = [] ∧ ∀ n, (t.pickSlot n).isSome = true
    ([(Instr.handoffRx p f, 1), (.ackRx p f, 2), (.mirrorRx p f, 3), (.confirmRx p f, 4), (.releaseCursorRx p f, 5)].contains (j, kind) = true →
      (r.deliver = false → exec j s = .next r.st) ∧
      (fieldAt f.payload 4 4 < r.st.ldg.nv.term → exec j s = .next r.st)) ∧
    (∀ (t : State) (l : List Nat), taken 1 t → t.ldgRole = 1 → t.ldgState = 2 → t.ldg.nv.gseq < 0xFFFFFFFFFFFF → t.ldgUsed + 1 ≤ 16320 →
      ledgerRecs f.payload = [l] → t.orgLast (recOrigin l) = some (recOseq l - 1) → 0 < recOseq l → roomy t →
      t.findRec (recOrigin l) (recOseq l) = none → t.findRec (recOrigin l) (recOseq l + 1) = none →
      Ends (.handoffRx p f) s (fun u => u.ldg.nv.gseq = t.ldg.nv.gseq + 1 ∧ u.orgLast (recOrigin l) = some (recOseq l) ∧
        ∃ (k : Nat) (m : List Nat), t.slotFree k = true ∧ u.slotRec k = some m ∧ recGseq m = t.ldg.nv.gseq + 1 ∧ m.drop 1 = l.drop 1)) ∧
    (∀ t : State, taken 1 t → t.ldgRole = 1 → (t.ldgState ≠ 2 ∨ (t.ldg.nv.gseq ≠ 0xFFFFFFFFFFFF ∧
      16320 < t.ldgUsed + ((ledgerRecs f.payload).filter t.newHandoff).length)) →
      exec (.handoffRx p f) s = .next (t.holdFrame p.val (frameOf f 6))) ∧
    (∀ t : State, taken 1 t → t.ldgRole = 1 → t.ldgState = 2 → t.ldg.nv.gseq = 0xFFFFFFFFFFFF →
      exec (.handoffRx p f) s = .next ((t.ldgEvt 11).holdFrame p.val (frameOf f 6))) ∧
    (∀ t : State, taken 1 t → t.ldgRole ≠ 1 → exec (.handoffRx p f) s = .next t) ∧
    (∀ t : State, taken 2 t → t.ldgRole ≠ 1 → fieldAt f.payload 2 1 = t.ownId → t.ldgState ≠ 0 → (t.ldg.slots.map (fun e => e.1)).Nodup →
      Ends (.ackRx p f) s (fun u => u.ldg.nv.acked = max t.ldg.nv.acked value ∧
        ∀ e, e ∈ u.ldg.slots ↔ e ∈ t.ldg.slots ∧ ¬(recOrigin e.2 = t.ownId ∧ recOseq e.2 ≤ value ∧ recGseq e.2 = 0))) ∧
    (∀ (t : State) (l : List Nat), taken 3 t → t.ldgRole = 2 → t.ldgState = 2 → t.ldgUsed + 1 ≤ 16320 → ledgerRecs f.payload = [l] →
      t.ldg.nv.rel < recGseq l → t.ldg.slots.all (fun e => recGseq e.2 != recGseq l) = true → roomy t → recOrigin l ≠ t.ownId →
      t.findRec (recOrigin l) (recOseq l) = none →
      Ends (.mirrorRx p f) s (fun u => u.ldg.nv.gseq = max t.ldg.nv.gseq (recGseq l) ∧
        ∃ (k : Nat) (m : List Nat), t.slotFree k = true ∧ u.slotRec k = some m ∧ recGseq m = recGseq l ∧ m.drop 1 = l.drop 1)) ∧
    (∀ (t : State) (l held : List Nat) (k : Nat), taken 3 t → t.ldgRole = 2 → t.ldgState = 2 → t.ldgUsed ≤ 16320 →
      ledgerRecs f.payload = [l] → t.ldg.nv.rel < recGseq l → t.ldg.slots.all (fun e => recGseq e.2 != recGseq l) = true →
      t.findRec (recOrigin l) (recOseq l) = some k → t.slotRec k = some held → recGseq held = 0 →
      Ends (.mirrorRx p f) s (fun u => u.ldg.nv.gseq = max t.ldg.nv.gseq (recGseq l) ∧
        ∃ m : List Nat, u.slotRec k = some m ∧ recGseq m = recGseq l ∧ m.drop 1 = held.drop 1)) ∧
    (∀ t : State, taken 4 t → t.ldgRole = 1 → t.deputyId = some f.src.toNat → t.mirror = 1 → t.ldg.nv.gseq ≤ value →
      Ends (.confirmRx p f) s (fun u => u.mirror = 2 ∧ u.bit LDG_EVT 12 = true ∧ u.ldg.mirrorQ = [] ∧ u.mem = t.mem)) ∧
    (∀ t : State, taken 5 t → t.ldgRole = 2 → t.ldgState ≠ 0 → t.ldg.nv.rel < value → (t.ldg.slots.map (fun e => e.1)).Nodup →
      Ends (.releaseCursorRx p f) s (fun u => u.ldg.nv.rel = value ∧
        ∀ e, e ∈ u.ldg.slots ↔ e ∈ t.ldg.slots ∧ ¬(0 < recGseq e.2 ∧ recGseq e.2 ≤ value))) ∧
    (∀ recs : List (List Nat), s.ldgState = 2 → (s.ldgRole = 0 ∨ s.ldgRole = 2) → s.adm = 3 → s.inLedgerWindow = true →
      recs = (s.unackedOwn.filter (fun l => decide (s.ldg.handed < recOseq l))).take 22 →
      (recs = [] → exec .ledgerHandoff s = .next s) ∧
      (∀ l, recs.getLast? = some l → Ends .ledgerHandoff s (fun u => u.ldg.handed = recOseq l ∧ u.regs = s.regs ∧ u.mem = s.mem ∧
        u.lnk = (s.sendFrame 6 s.leadId 1 (ledgerPayload 1 s.ownId s.ldg.nv.term 0 recs)).lnk))) ∧
    (s.ldgState ≠ 2 → exec .ledgerHandoff s = .next s ∧ exec .mirrorSend s = .next s ∧ exec (.catchupSend high) s = .next s ∧
      exec (.ackSend d) s = .next s) ∧
    (∀ dep (due : List (Nat × Nat)), s.deputyId = some dep → s.ldgRole = 1 → s.mirror = 2 → s.ldgState = 2 → s.inLedgerWindow = true →
      due = (s.ldg.mirrorQ.takeWhile (fun e => decide (e.1 < s.beatNo))).take 22 → due ≠ [] →
      Ends .mirrorSend s (fun u => u.ldg.mirrorQ = s.ldg.mirrorQ.drop due.length ∧ u.regs = s.regs ∧ u.mem = s.mem)) ∧
    (∀ dep recs l, s.deputyId = some dep → s.ldgRole = 1 → s.mirror = 1 → s.ldgState = 2 → s.inLedgerWindow = true →
      recs = (s.committedAbove (max high.toNat (s.ldg.catchup.getD 0))).take 22 → recs.getLast? = some l →
      Ends (.catchupSend high) s (fun u => u.ldg.catchup = some (recGseq l) ∧ u.regs = s.regs ∧ u.mem = s.mem ∧
        u.lnk = (s.sendFrame 6 dep 1 (ledgerPayload 3 s.ownId s.ldg.nv.term 0 recs)).lnk)) ∧
    (∀ dep, s.deputyId = some dep → s.ldgRole = 1 → s.mirror = 1 → s.ldgState = 2 → s.inLedgerWindow = true →
      s.committedAbove (max high.toNat (s.ldg.catchup.getD 0)) = [] →
      (s.ldg.nv.gseq ≤ high.toNat → Ends (.catchupSend high) s (fun u => u.mirror = 2 ∧ u.bit LDG_EVT 12 = true ∧ u.mem = s.mem)) ∧
      (high.toNat < s.ldg.nv.gseq → exec (.catchupSend high) s = .next s)) ∧
    (s.ldgRole = 1 → s.ldgState = 2 → s.inLedgerWindow = true → d.val ≠ s.ownId → s.ackOf d.val ≠ 0 →
      Ends (.ackSend d) s (fun u => u.regs = s.regs ∧ u.mem = s.mem ∧ (∀ e, e ∈ u.ldg.unack → e.1 = d.val → s.ackOf d.val < e.2.1) ∧
        u.lnk = (s.sendFrame 6 d.val 1 (ledgerPayload 2 d.val s.ldg.nv.term (s.ackOf d.val) [])).lnk)) ∧
    (s.ldgRole = 1 → s.ldgState = 2 → s.inLedgerWindow = true → d.val = s.ownId → s.ackOf d.val ≠ 0 →
      Ends (.ackSend d) s (fun u => u.ldg.nv.acked = max s.ldg.nv.acked (s.ackOf d.val) ∧ u.lnk = s.lnk)) ∧
    (s.ackOf d.val = 0 → exec (.ackSend d) s = .next s)

/-- An enabled port that is not retired becomes UP when its PHY has link, and DOWN with an error count when it loses it, or after LNK_DEADB silent beats. A head frame that its window, credit and time allow is sent with its hop sequence number, and kept unacknowledged until an acknowledgement of it. A window's start puts unacknowledged frames back in front and sends CREDIT on both ports; a CREDIT frame sets the credits and the neighbour. A frame that arrives whole is gPTP, LLP of the row its TYPE names or of a reserved TYPE that is counted and discarded, or raw. Raw frames and messages are written to the receive ring; while it is full raw frames are dropped and counted, and messages held in their buffer, as messages are behind one that is held. The transmit ring's read index moves past each slot taken, and a MSG slot's bytes leave in a MSG frame. -/
def Obligations.LinkPorts : Prop :=
  ∀ (s : State) (p : Fin 2) (c : Fin 3) (w : Fin 5) (d : List Byte) (f : Llp),
    let ch := s.chanState (0x810 + p.val)
    let x := s.port p.val
    let y := x.win w.val
    let next := (s.fld LNK_QRX_WR 0 8 + 1) % s.ringSize LNK_QRX_CTL % 256
    let slot := (s.rg LNK_QTX_BASE).toNat + 1536 * s.fld LNK_QTX_RD 0 8
    let e := (llpOf d).2
    let raw := s.portUp c.val = true ∧ s.chanState (0x810 + c.val) ≠ 3 ∧ (c = 2 ∨ (isGptp d = false ∧ s.isLlp d = false))
    let rm := s.receive p.val (frameOf f 9)
    let rc := s.receive p.val (frameOf f 5)
    let held := ((rm.st.port p.val).win f.win.toNat).held
    (s.bit (LNK_PORT c.val) 0 = true → s.chanState (0x810 + c.val) ≠ 2 → s.portUp c.val = false → (c = 2 ∨ s.adm ≠ 0) →
      Ends (.portUp c) s (fun u => u.portUp c.val = true ∧ (u.port c.val).phy = true ∧ u.bit LNK_EVT 1 = true ∧ u.mem = s.mem)) ∧
    ((s.bit (LNK_PORT c.val) 0 = false ∨ s.chanState (0x810 + c.val) = 2 ∨ s.portUp c.val = true ∨ (c ≠ 2 ∧ s.adm = 0)) →
      Ends (.portUp c) s (fun u => (u.port c.val).phy = true ∧ u.regs = s.regs ∧ u.mem = s.mem)) ∧
    (s.portUp c.val = true → Ends (.portDown c) s (fun u => u.portUp c.val = false ∧ (u.port c.val).phy = false ∧
      u.rg (LNK_PERR c.val) = s.rg (LNK_PERR c.val) + 1 ∧ u.bit LNK_EVT 1 = true ∧ u.mem = s.mem)) ∧
    (s.portUp c.val = false → Ends (.portDown c) s (fun u => (u.port c.val).phy = false ∧ u.regs = s.regs ∧ u.mem = s.mem)) ∧
    ((s.adm = 3 ∨ s.adm = 4) → s.portUp p.val = true → (s.rg LNK_DEADB).toNat ≤ x.silent →
      Ends (.portSilence p) s (fun u => u.portUp p.val = false ∧ u.bit LNK_EVT 1 = true ∧ u.mem = s.mem)) ∧
    (x.silent < (s.rg LNK_DEADB).toNat → exec (.portSilence p) s = .next s) ∧
    (∀ g, p.val < 2 → w ≠ 0 → s.canSend p.val w.val = some g → Ends (.frameSend ⟨p.val, by omega⟩ w) s (fun u => ∃ h : LinkFrame,
      (u.port p.val).sent = some h ∧ h.payload = g.payload ∧ h.dst = g.dst ∧ h.hseq = some (g.hseq.getD y.txNext) ∧
      ((u.port p.val).win w.val).unacked = y.unacked ++ [h] ∧ ((u.port p.val).win w.val).waiting = y.waiting.erase g ∧
      (if w = 2 then smGet (fun _ => 0) (u.port p.val).audio g.stream = smGet (fun _ => 0) x.audio g.stream - 1
        else ((u.port p.val).win w.val).credit = y.credit - 1) ∧ u.mem = s.mem ∧ SameRegsBut s u [LNK_CRED p.val])) ∧
    (w ≠ 0 → s.canSend p.val w.val = none → exec (.frameSend ⟨p.val, by omega⟩ w) s = .next s) ∧
    (∀ g l, x.exempt = g :: l → s.portUp p.val = true → ch ≠ 3 → (g.win = 15 ∨ s.winFits g.win g = true) →
      Ends (.frameSend ⟨p.val, by omega⟩ 0) s (fun u => (u.port p.val).exempt = l ∧ (∃ h : LinkFrame, (u.port p.val).sent = some h ∧
        h.type = g.type ∧ (g.payload ≠ [8] ∨ g.type ≠ GPTP_MARK → h.payload = g.payload)) ∧ u.regs = s.regs ∧ u.mem = s.mem)) ∧
    ((x.exempt = [] ∨ s.portUp p.val = false ∨ ch = 3) → exec (.frameSend ⟨p.val, by omega⟩ 0) s = .next s) ∧
    (s.adm ≠ 0 → s.portUp p.val = true → ch ≠ 3 → Ends (.creditSend p) s (fun u => u.regs = s.regs ∧ u.mem = s.mem ∧
      ∃ h : LinkFrame, (u.port p.val).sent = some h ∧ h.type = 5 ∧ h.payload = s.creditPayload p.val)) ∧
    (rc.deliver = true → 32 ≤ f.payload.length → Ends (.creditRx p f) s (fun u => u.fld (LNK_PSTAT p.val) 8 6 = f.src.toNat % 64 ∧
      u.bit (LNK_PSTAT p.val) 15 = true ∧ u.mem = s.mem ∧
      (w ≠ 0 → ((u.port p.val).win w.val).credit = fieldAt f.payload (4 * w.val - 2) 1) ∧
      ∀ g l, w ≠ 0 → ((rc.st.port p.val).win w.val).unacked = l ++ [g] → g.hseq = some (fieldAt f.payload (4 * w.val - 4) 2) →
        l.all (fun h => h.hseq != g.hseq) = true → ((u.port p.val).win w.val).unacked = [])) ∧
    (∀ v : Fin 5, v.val ≠ 0 → (s.advanceTo (s.winStart v.val)).adm ≠ 0 → Ends (.windowStart v) s (fun u =>
      (∀ q, q < 2 → ((u.port q).win v.val).unacked = []) ∧
      (∀ q, q < 2 → u.portUp q = true → u.chanState (0x810 + q) ≠ 3 → ∃ h : LinkFrame, (u.port q).sent = some h ∧ h.type = 5) ∧
      (2 ≤ v.val → (∀ q h, q < 2 → h ∈ ((s.port q).win 4).held → h.type ≠ 10 ∧ h.type ≠ 12) →
        u.fld (LNK_HELD (v.val - 1)) 0 16 = min 65535 ((s.advanceTo (s.winStart v.val)).waitingIn (v.val - 1))))) ∧
    Ends (.windowStart 0) s (fun u => u.fld (LNK_HELD 4) 0 16 = min 65535 ((s.advanceTo (s.winStart 0)).waitingIn 4) ∧
      u.lnk = s.lnk ∧ u.mem = s.mem) ∧
    (raw → c ≠ 2 → s.bit LNK_CFG 2 = false → Ends (.rawFrameRx c d) s (fun u =>
      u.rg LNK_RAWDROP = satInc (s.rg LNK_RAWDROP) 1 ∧ SameRegsBut s u [LNK_RAWDROP] ∧ u.mem = s.mem)) ∧
    (raw → (c = 2 ∨ s.bit LNK_CFG 2 = true) → s.qrxFull = true → Ends (.rawFrameRx c d) s (fun u =>
      u.rg LNK_RAWDROP = satInc (s.rg LNK_RAWDROP) 1 ∧ u.bit LNK_EVT 11 = true ∧ u.mem = s.mem)) ∧
    (raw → (c = 2 ∨ s.bit LNK_CFG 2 = true) → s.qrxFull = false →
      Ends (.rawFrameRx c d) s (fun u => u.fld LNK_QRX_WR 0 8 = next)) ∧
    ((s.portUp c.val = false ∨ s.chanState (0x810 + c.val) = 3) → exec (.rawFrameRx c d) s = .next s) ∧
    (s.portUp p.val = true → ch ≠ 3 → isGptp d = true → exec (.rawFrameRx ⟨p.val, by omega⟩ d) s = .next (s.heardOn p.val)) ∧
    (∀ j, s.portUp p.val = true → ch ≠ 3 → isGptp d = false → s.isLlp d = true →
      [(1, Instr.beatFrameRx p e), (2, .helloRx p e), (3, .admitRx p e), (4, .topoRx p e), (5, .creditRx p e), (7, .audioFrameRx p e),
        (9, .msgRx p e), (10, .raccRequestRx p e), (12, .resetFrameRx p e), (13, .wakeFrameRx p e)].contains ((llpOf d).1, j) = true →
      exec (.rawFrameRx ⟨p.val, by omega⟩ d) s = exec j s) ∧
    (∀ j, s.portUp p.val = true → ch ≠ 3 → isGptp d = false → s.isLlp d = true →
      ([(6, 1, Instr.handoffRx p e), (6, 2, .ackRx p e), (6, 3, .mirrorRx p e), (6, 4, .confirmRx p e), (6, 5, .releaseCursorRx p e),
        (8, 0, .tokenRx p e), (11, 1, .bootReqRx p e)].contains ((llpOf d).1, fieldAt e.payload 0 1, j) = true ∨
        ((llpOf d).1 = 8 ∧ fieldAt e.payload 0 1 ≠ 0 ∧ j = .resultRx p e) ∨
        ((llpOf d).1 = 11 ∧ fieldAt e.payload 0 1 ≠ 1 ∧ j = .bootDataRx p e)) →
      exec (.rawFrameRx ⟨p.val, by omega⟩ d) s = exec j s) ∧
    (s.portUp p.val = true → ch ≠ 3 → s.adm ≠ 0 → isGptp d = false → s.isLlp d = true → reservedType (llpOf d).1 = true →
      Ends (.rawFrameRx ⟨p.val, by omega⟩ d) s (fun u => u.rg LNK_IGN = satInc (s.rg LNK_IGN) 1 ∧ u.bit LNK_EVT 15 = true ∧ u.mem = s.mem)) ∧
    (rm.deliver = true → (rm.st.qrxFull = true ∨ held ≠ []) → exec (.msgRx p f) s = .next (rm.st.holdFrame p.val (frameOf f 9))) ∧
    (rm.deliver = true → rm.st.qrxFull = false → held = [] → Ends (.msgRx p f) s (fun u => u.fld LNK_QRX_WR 0 8 =
      (rm.st.fld LNK_QRX_WR 0 8 + 1) % rm.st.ringSize LNK_QRX_CTL % 256)) ∧
    (rm.deliver = false → exec (.msgRx p f) s = .next rm.st) ∧
    (s.adm ≠ 0 → s.fld LNK_QTX_RD 0 8 ≠ s.fld LNK_QTX_WR 0 8 → Ends .qtxSend s (fun u => u.bit LNK_EVT 10 = true ∧
      u.fld LNK_QTX_RD 0 8 = (s.fld LNK_QTX_RD 0 8 + 1) % s.ringSize LNK_QTX_CTL % 256)) ∧
    (∀ v a t b, s.adm ≠ 0 → s.fld LNK_QTX_RD 0 8 ≠ s.fld LNK_QTX_WR 0 8 → s.fabRead .link slot .word = (.ok v, a) →
      fieldOf (w32 v) 0 2 = 0 → 1 ≤ fieldOf (w32 v) 16 11 → fieldOf (w32 v) 16 11 ≤ 1468 →
      a.fabReadBytes .link (slot + 16) (fieldOf (w32 v) 16 11) = (b, t) →
      Ends .qtxSend s (fun u => u.lnk = (t.sendFrame 9 (fieldOf (w32 v) 8 8) 4 b).lnk)) ∧
    ((s.adm = 0 ∨ s.fld LNK_QTX_RD 0 8 = s.fld LNK_QTX_WR 0 8) → exec .qtxSend s = .next s)

/-- In a state where the fabric serves the write: START of a manager with ID 0 begins discovery and of another device waits; STOP takes the ports down and the device out of the vehicle; FORGET removes a member; LNK_DEPUTY and the lead's LNK_ANN are written where their arguments are legal, and a follower's LNK_ANN is rejected with STATE. DISCOVERY_END makes the manager the lead, with a beat number past those it heard and its first edge in the next cycle. The lead admits a HELLO of a device that it does not know with the result it judges, and flags a DUPID; a device named in ADMIT takes its role, is refused, or waits as an observer where the tuple is not listed. HELLO, ADMIT and TOPO are queued; TOPO sets the coordinates; a member silent for LNK_DEADB beats leaves. -/
def Obligations.LinkAdmission : Prop :=
  ∀ (s : State) (i : Initiator) (p : Fin 2) (f : Llp) (d : Fin 64) (k : Fin 8) (v : Word),
    let cmd := fun (x : Word) => s.serves i LNK_CMD x = true
    let forgetWord := BitVec.ofNat 32 (0x30000000 + d.val)
    let mgr := s.bit LNK_CFG 0
    let no := fun (j : Instr) (code : Nat) => exec j s = .next (s.reject lnkPort code)
    let rh := s.receive p.val (frameOf f 2)
    let ra := s.receive p.val (frameOf f 3)
    let rt := s.receive p.val (frameOf f 4)
    let peer := fieldAt f.payload 16 1 % 64
    let uid := fieldAt f.payload 0 8
    let admitted := ra.deliver = true ∧ 32 ≤ f.payload.length ∧ uid = Config.dieUid.toNat ∧ 
      (ra.st.adm = 1 ∨ ra.st.adm = 2 ∨ ra.st.adm = 3 ∨ ra.st.adm = 5)
    let listed := ra.st.compatLists (fieldAt f.payload 24 1) (fieldAt f.payload 25 1) (fieldAt f.payload 26 2) f.gen.toNat
    let result := fieldAt f.payload 8 1
    (cmd 0x10000000 → s.adm = 0 → mgr = decide (s.ownId = 0) → Ends (.lnkStart i) s (fun u => u.adm = (if mgr then 1 else 2) ∧
      (mgr = true → u.beat.silent = true ∧ u.beatState = 0) ∧ u.mem = s.mem)) ∧
    (cmd 0x10000000 → s.adm ≠ 0 → no (.lnkStart i) ST_STATE) ∧
    (cmd 0x10000000 → s.adm = 0 → mgr ≠ decide (s.ownId = 0) → no (.lnkStart i) ST_ARG) ∧
    (cmd 0x20000000 → s.adm ≠ 0 → Ends (.lnkStop i) s (fun u => u.adm = 0 ∧ u.portUp 0 = false ∧ u.portUp 1 = false ∧
      u.rg64 LNK_ADMIT_LO = 0 ∧ u.topology = 0 ∧ u.mem = s.mem)) ∧
    (cmd 0x20000000 → s.adm = 0 → no (.lnkStop i) ST_STATE) ∧
    (cmd forgetWord → s.leads = true → (s.member d.val).isSome = true → Ends (.forget i d) s (fun u => u.member d.val = none ∧
      u.admitted d.val = false ∧ u.bit LNK_EVT 3 = true ∧ u.mem = s.mem)) ∧
    (cmd forgetWord → s.leads = false → no (.forget i d) ST_STATE) ∧
    (s.serves i LNK_DEPUTY v = true → ([0, 63, s.ownId].contains (fieldOf v 0 6)) = true → no (.lnkDeputyWrite i v) ST_ARG) ∧
    (s.serves i LNK_DEPUTY v = true → ([0, 63, s.ownId].contains (fieldOf v 0 6)) = false → s.leads = false →
      Ends (.lnkDeputyWrite i v) s (fun u => u.rg LNK_DEPUTY = v &&& 0x8000003F ∧ SameRegsBut s u [LNK_DEPUTY, LNK_CMDST] ∧ u.lnk = s.lnk)) ∧
    (∀ m, s.serves i LNK_DEPUTY v = true → ([0, 63, s.ownId].contains (fieldOf v 0 6)) = false → s.leads = true → bitOf v 31 = true →
      s.lnk.members = [m] → m.result = 1 → m.id = fieldOf v 0 6 →
      Ends (.lnkDeputyWrite i v) s (fun u => u.rg LNK_DEPUTY = v &&& 0x8000003F ∧ u.deputyId = some m.id ∧ u.mirror = 1)) ∧
    (s.serves i (LNK_ANN_CTL k.val) v = true → s.leads = true → (bitOf v 0 = false ∨ s.beatNo + 4 ≤ s.rg64 (LNK_ANN_BEAT_LO k.val)) →
      Ends (.lnkAnnWrite i k v) s (fun u => u.rg (LNK_ANN_CTL k.val) = v &&& 1 ∧ SameRegsBut s u [LNK_ANN_CTL k.val, LNK_CMDST])) ∧
    (s.serves i (LNK_ANN_CTL k.val) v = true → s.leads = false → no (.lnkAnnWrite i k v) ST_STATE) ∧
    (s.serves i (LNK_ANN_CTL k.val) v = true → bitOf v 0 = true → s.leads = true → s.rg64 (LNK_ANN_BEAT_LO k.val) < s.beatNo + 4 →
      no (.lnkAnnWrite i k v) ST_ARG) ∧
    (s.adm = 1 → mgr = true → Ends .discoveryEnd s (fun u => u.adm = 4 ∧ u.beatState = 4 ∧ u.ldgRole = 1 ∧ u.leadId = s.ownId ∧
      u.role = 1 ∧ u.beatNo = (match s.lnk.reported with | some r => max s.beatNo (64 + r) | none => s.beatNo) % 2 ^ 64 ∧
      u.beat.silent = false ∧ u.beat.len = some ((s.rg BEAT_PHASE).toNat + 1) ∧ u.admitted s.ownId = true ∧ u.mem = s.mem)) ∧
    ((s.adm ≠ 1 ∨ mgr = false) → exec .discoveryEnd s = .next s) ∧
    ((s.adm = 3 ∨ s.adm = 4) → (s.lnk.topoKind ≠ 2 ∧ s.portUp p.val = true ∨ s.lnk.topoKind = 2 ∧ p = 0) →
      Ends .helloSend s (fun u => u.regs = s.regs ∧ u.mem = s.mem ∧ ∃ h : LinkFrame,
        (u.port p.val).exempt = (s.port p.val).exempt ++ [h] ∧ h.type = 2 ∧ h.payload = s.helloPayload ∧
        h.win = if s.adm = 3 ∧ s.beat.heard = false then 0 else 4)) ∧
    ((s.adm = 1 ∨ s.adm = 2 ∨ s.adm = 5) → s.portUp p.val = true → Ends .helloSend s (fun u => u.regs = s.regs ∧ u.mem = s.mem ∧
      ∃ h : LinkFrame, (u.port p.val).exempt = (s.port p.val).exempt ++ [h] ∧ h.type = 2 ∧ h.win = 15 ∧ h.payload = s.helloPayload)) ∧
    (s.adm = 0 → exec .helloSend s = .next s) ∧
    (rh.deliver = true → 36 ≤ f.payload.length → rh.st.leads = true → bitOf (BitVec.ofNat 32 (fieldAt f.payload 17 1)) 1 = false →
      ¬(f.src.toNat = rh.st.ownId ∧ uid = Config.dieUid.toNat) → rh.st.member peer = none → rh.st.lnk.admissions = [] →
      (rh.st.helloResult (frameOf f 2) ≠ 8 → Ends (.helloRx p f) s (fun u => u.admitted peer = true ∧ u.bit LNK_EVT 3 = true ∧
        ∃ m : Member, u.member peer = some m ∧ m.uid = uid ∧ m.result = rh.st.helloResult (frameOf f 2))) ∧
      (rh.st.helloResult (frameOf f 2) = 8 → Ends (.helloRx p f) s (fun u => u.member peer = none ∧ u.bit LNK_EVT 4 = true))) ∧
    (s.leads = true → Ends .admitSend s (fun u => u.regs = s.regs ∧ u.lnk.admissions.all (fun a => !a.fresh) = true ∧
      u.lnk.admissions.map (fun a => a.id) = (s.lnk.admissions.filter (fun a => a.fresh)).map (fun a => a.id))) ∧
    (s.leads = false → exec .admitSend s = .next s ∧ exec .topoSend s = .next s) ∧
    (admitted → result = 8 → Ends (.admitRx p f) s (fun u => u.adm = 5 ∧ u.beat.silent = false)) ∧
    (admitted → (((result = 1 ∨ result = 2) ∧ listed = true) ∨ result = 3 ∨ result = 4) → Ends (.admitRx p f) s (fun u => u.adm = 3 ∧
      u.leadId = fieldAt f.payload 9 1 % 64 ∧ u.role = (if result = 1 then 0 else result) ∧ u.lnk.obs = false ∧ u.ldg.handed = 0 ∧
      u.beat.silent = false)) ∧
    (admitted → (result = 1 ∨ result = 2) → listed = false → Ends (.admitRx p f) s (fun u => u.adm = 2 ∧ u.lnk.obs = true ∧
      u.beat.silent = false)) ∧
    ((¬admitted ∨ result = 0 ∨ 5 ≤ result ∧ result ≠ 8) → exec (.admitRx p f) s = .next ra.st) ∧
    (s.leads = true → Ends .topoSend s (fun u => u.lnk.topo = s.leadTopo.2.2 ∧ u.lnk.topoN = s.leadTopo.2.1 ∧ u.topology = s.leadTopo.1 ∧
      u.mem = s.mem)) ∧
    (rt.deliver = true → 4 ≤ f.payload.length → rt.st.leads = false → f.src.toNat = rt.st.leadId → Ends (.topoRx p f) s (fun u =>
      u.lnk.topoKind = fieldAt f.payload 1 1 ∧ u.lnk.topoN = fieldAt f.payload 0 1 ∧
      u.lnk.topo = (List.range ((f.payload.length - 4) / 4)).map (fun n => ⟨fieldAt f.payload (4 + 4 * n) 1 % 64,
        fieldAt f.payload (5 + 4 * n) 1, fieldAt f.payload (6 + 4 * n) 1, fieldAt f.payload (7 + 4 * n) 1⟩) ∧
      SameRegsBut s u [LNK_ADMIT_LO, LNK_ADMIT_LO + 4, LNK_OBS_LO, LNK_OBS_LO + 4])) ∧
    (∀ m, s.member d.val = some m → s.leads = true → (s.rg LNK_DEADB).toNat ≤ m.silent → Ends (.memberTimeout d) s (fun u =>
      u.member d.val = none ∧ u.admitted d.val = false ∧ u.bit LNK_EVT 3 = true)) ∧
    ((s.member d.val = none ∨ s.leads = false ∨ ∃ m, s.member d.val = some m ∧ m.silent < (s.rg LNK_DEADB).toNat) →
      exec (.memberTimeout d) s = .next s)

/-- Sync sets LNK_TIME with the upstream delay added; a peer-delay exchange computes the delay at the neighbour rate ratio, and a missing response is an error of the port. The lead queues BEAT on every UP port; a device in FREE or HOLDOVER that hears one takes its lead and begins to acquire; a lead that hears another of its term has a conflict; the relay leaves by the other port. The deputy with quorum takes the lead with the next term, except after the last. The lead answers a boot request with OFF, RANGE or the data; the booting device stores it and asks on. A remote read is answered with its value and a remote write is done and answered, or with PROTECT where the sender is not listed. A WAKE frame in Park, or on the way into it, requests a wake, and else is received as other frames are. -/
def Obligations.LinkTimeAndBoot : Prop :=
  ∀ (s : State) (i : Initiator) (p : Fin 2) (f : Llp) (time t1 t2 t3 t4 : BitVec 64) (v : Word),
    let x := s.port p.val
    let rb := s.receive p.val (frameOf f 1)
    let rq := s.receive p.val (frameOf f 11)
    let rr := s.receive p.val (frameOf f 10)
    let pl := f.payload
    let offs := fieldAt pl 4 4
    let len := fieldAt pl 2 2
    let ids := (List.range 64).filter (fun d => s.admitted d)
    let quorum := ids.length < 2 * (ids.filter (fun d => d == s.ownId || s.lnk.quorum.any (fun e =>
      e.1 == d && decide (s.lnk.noBeat < e.2 + (s.rg LNK_FOTO).toNat)))).length
    let inSram := 0x10000000 ≤ (s.rg LNK_BOOTBASE).toNat ∧ (s.rg LNK_BOOTBASE).toNat ≤ 0x10800000 ∧
      (s.rg LNK_BOOTBASE).toNat + (s.rg LNK_BOOTLEN).toNat ≤ 0x10800000
    let asked := rq.deliver = true ∧ rq.st.leads = true ∧ 16 ≤ pl.length ∧ fieldAt pl 0 1 = 1
    let b := if offs = 0 then rq.st.lnkEvt 13 else rq.st
    let ratio := match x.pdelayLast with
      | some (g, h) => if g < t3.toNat ∧ h < t4.toNat then (t3.toNat - g, t4.toNat - h) else x.rateRatio
      | none => x.rateRatio
    let delay := (((t4.toNat : Int) - t1.toNat) * ratio.1 / (max 1 ratio.2 : Nat) - ((t3.toNat : Int) - t2.toNat)) / 2
    let rest := rq.st.lnk.bootReqs.filter (fun e => e.1 != offs)
    let answers := rq.deliver = true ∧ 16 ≤ pl.length ∧ fieldAt pl 0 1 = 2 ∧ rq.st.bit BOOT_STAT 11 = true ∧
      fieldAt pl 8 8 = Config.dieUid.toNat ∧ rq.st.lnk.bootReqs.any (fun e => e.1 == offs) = true
    let wakes := (s.pwr = .park ∨ s.pwr = .toPark) ∧ s.bit (LNK_PORT p.val) 2 = true ∧ (f.dst.toNat = s.ownId ∨ f.dst = 0xFF)
    (s.portUp p.val = true → s.chanState (0x810 + p.val) ≠ 3 → s.adm ≠ 4 → s.adm ≠ 0 → s.upstream = some p.val →
      Ends (.gptpSyncRx p time) s (fun u => u.rg64 LNK_TIME_LO = (time.toNat + s.fld (LNK_PDELAY p.val) 0 16) % 2 ^ 64 ∧
        SameRegsBut s u [LNK_TIME_LO, LNK_TIME_LO + 4] ∧ u.mem = s.mem)) ∧
    (s.portUp p.val = true → s.chanState (0x810 + p.val) ≠ 3 → (s.adm = 4 ∨ s.adm = 0 ∨ s.upstream ≠ some p.val) →
      exec (.gptpSyncRx p time) s = .next (s.heardOn p.val)) ∧
    ((s.portUp p.val = false ∨ s.chanState (0x810 + p.val) = 3) → exec (.gptpSyncRx p time) s = .next s) ∧
    (s.portUp p.val = true → Ends (.pdelayExchange p) s (fun u => (u.port p.val).pdelayOpen = true ∧
      (∃ h : LinkFrame, (u.port p.val).sent = some h ∧ h.payload = [2]) ∧ u.regs = s.regs ∧ u.mem = s.mem)) ∧
    (s.portUp p.val = true → Ends (.pdelayReqRx p) s (fun u => (∃ h : LinkFrame, (u.port p.val).sent = some h ∧ h.payload = [10]) ∧
      (u.port p.val).silent = 0 ∧ u.regs = s.regs ∧ u.mem = s.mem)) ∧
    (s.portUp p.val = false → exec (.pdelayExchange p) s = .next s ∧ exec (.pdelayReqRx p) s = .next s ∧
      exec (.pdelayResponseRx p t1 t2 t3 t4) s = .next s) ∧
    (s.portUp p.val = true → x.pdelayOpen = true → Ends (.pdelayResponseRx p t1 t2 t3 t4) s (fun u =>
      (0 ≤ delay → delay < 65536 → u.fld (LNK_PDELAY p.val) 0 16 = delay.toNat) ∧ (u.port p.val).pdelayOpen = false ∧
      (u.port p.val).rateRatio = ratio ∧ SameRegsBut s u [LNK_PDELAY p.val] ∧ u.mem = s.mem)) ∧
    (x.pdelayOpen = true → Ends (.pdelayTimeout p) s (fun u => (u.port p.val).pdelayOpen = false ∧
      u.rg (LNK_PERR p.val) = s.rg (LNK_PERR p.val) + 1 ∧ u.mem = s.mem)) ∧
    (x.pdelayOpen = false → exec (.pdelayTimeout p) s = .next s ∧ exec (.pdelayResponseRx p t1 t2 t3 t4) s = .next s) ∧
    (s.leads = true → s.portUp p.val = true → Ends .beatFrameSend s (fun u => u.regs = s.regs ∧ u.mem = s.mem ∧
      ∃ h : LinkFrame, (u.port p.val).exempt = x.exempt ++ [otherFrame GPTP_MARK 0 [0], otherFrame GPTP_MARK 0 [8], h] ∧
        h.type = 1 ∧ h.hops = 0 ∧ h.win = 0 ∧ h.payload = s.beatPayload p.val)) ∧
    (s.leads = false → exec .beatFrameSend s = .next s) ∧
    (rb.deliver = false → exec (.beatFrameRx p f) s = .next rb.st) ∧
    (rb.deliver = true → 32 + 16 * fieldAt pl 22 1 ≤ pl.length → pl.take 16 ≠ rb.st.lnk.beatSent → rb.st.leads = true →
      fieldAt pl 28 4 = rb.st.ldg.nv.term → Ends (.beatFrameRx p f) s (fun u => u.bit LNK_EVT 14 = true)) ∧
    (rb.deliver = true → 32 + 16 * fieldAt pl 22 1 ≤ pl.length → pl.take 16 ≠ rb.st.lnk.beatSent → rb.st.leads = false →
      (rb.st.lnk.hasLead = false ∨ rb.st.lnk.leadTerm ≤ fieldAt pl 28 4) → (rb.st.beatState = 0 ∨ rb.st.beatState = 3) →
      (rb.st.port (1 - p.val)).beatHops = none →
      Ends (.beatFrameRx p f) s (fun u => u.adm = (if rb.st.adm = 1 then 2 else rb.st.adm) ∧ u.beat.silent = false ∧
        (f.hops.toNat < 63 → ∃ h : LinkFrame, u.lnk.relay = some (p.val, h) ∧ h.hops = f.hops.toNat + 1 ∧ h.payload = pl ∧ h.type = 1) ∧ u.leadId = fieldAt pl 23 1 % 64 ∧ u.lnk.leadTerm = fieldAt pl 28 4 ∧
        u.beatState = 1 ∧ u.rg LNK_MPLANCRC = BitVec.ofNat 32 (fieldAt pl 24 4))) ∧
    (s.lnk.relay = none → exec .beatRelay s = .next s) ∧
    (∀ h, s.lnk.relay = some (p.val, h) → s.portUp (1 - p.val) = true → h.type = 1 → Ends .beatRelay s (fun u =>
      u.lnk.relay = none ∧ u.regs = s.regs ∧ u.mem = s.mem ∧ (u.port (1 - p.val)).exempt =
        (s.port (1 - p.val)).exempt ++ [otherFrame GPTP_MARK 0 [0], otherFrame GPTP_MARK 0 [8], h])) ∧
    (∀ h, s.lnk.relay = some (p.val, h) → s.portUp (1 - p.val) = false →
      exec .beatRelay s = .next { s with lnk := { s.lnk with relay := none } }) ∧
    (s.adm = 3 → s.role = 2 → (s.rg LNK_FOTO).toNat ≤ s.lnk.noBeat → quorum → s.ldg.nv.term < 0xFFFFFFFF → Ends .takeover s (fun u =>
      u.adm = 4 ∧ u.role = 1 ∧ u.beatState = 4 ∧ u.leadId = s.ownId ∧ u.ldg.nv.term = s.ldg.nv.term + 1 ∧
      u.ldg.nv.tstart = s.ldg.nv.gseq + 1 ∧ u.beat.forceGen = true ∧ u.bit LNK_EVT 6 = true ∧ u.mem = s.mem)) ∧
    (s.adm = 3 → s.role = 2 → (s.rg LNK_FOTO).toNat ≤ s.lnk.noBeat → quorum → s.ldg.nv.term = 0xFFFFFFFF → Ends .takeover s (fun u =>
      u.adm = 3 ∧ u.role = 0 ∧ u.ldg = s.ldg)) ∧
    ((s.adm ≠ 3 ∨ s.role ≠ 2 ∨ s.lnk.noBeat < (s.rg LNK_FOTO).toNat ∨ ¬quorum) → exec .takeover s = .next s) ∧
    (s.serves i LNK_BOOTCTL v = true → (bitOf v 0 = false ∨ inSram) → Ends (.lnkBootctlWrite i v) s (fun u =>
      u.rg LNK_BOOTCTL = v &&& 1 ∧ SameRegsBut s u [LNK_BOOTCTL, LNK_CMDST])) ∧
    (s.serves i LNK_BOOTCTL v = true → bitOf v 0 = true → ¬inSram → exec (.lnkBootctlWrite i v) s = .next (s.reject lnkPort ST_ARG)) ∧
    (asked → b.bit LNK_BOOTCTL 0 = false →
      exec (.bootReqRx p f) s = .next (b.sendFrame 11 f.src.toNat 4 (bootPayload 2 2 0 offs (fieldAt pl 8 8) []))) ∧
    (asked → b.bit LNK_BOOTCTL 0 = true → (b.rg LNK_BOOTLEN).toNat < offs + len →
      exec (.bootReqRx p f) s = .next (b.sendFrame 11 f.src.toNat 4 (bootPayload 2 1 0 offs (fieldAt pl 8 8) []))) ∧
    (∀ (d : List Byte) (t : State), asked → b.bit LNK_BOOTCTL 0 = true → offs + len ≤ (b.rg LNK_BOOTLEN).toNat →
      b.fabReadBytes .link ((b.rg LNK_BOOTBASE).toNat + offs) len = (d, t) →
      exec (.bootReqRx p f) s = .next (t.sendFrame 11 f.src.toNat 4 (bootPayload 2 0 len offs (fieldAt pl 8 8) d))) ∧
    (¬asked → exec (.bootReqRx p f) s = .next rq.st) ∧
    (answers → fieldAt pl 1 1 = 0 → 0x10400000 + offs + len ≤ 0x107C0000 →
      let next := rest.foldl (fun m e => max m (e.1 + e.2)) (offs + len)
      Ends (.bootDataRx p f) s (fun u => u.mem = (({ rq.st with lnk := { rq.st.lnk with bootReqs := rest } }).fabWriteBytes .link
          (0x10400000 + offs) ((pl.drop 16).take len)).mem ∧
        u.lnk.bootReqs = if 0x10400000 + next + 1024 ≤ 0x107C0000 then rest ++ [(next, 1024)] else rest)) ∧
    (answers → (fieldAt pl 1 1 ≠ 0 ∨ 0x107C0000 < 0x10400000 + offs + len) →
      exec (.bootDataRx p f) s = .next { rq.st with lnk := { rq.st.lnk with bootReqs := rest } }) ∧
    (¬answers → exec (.bootDataRx p f) s = .next rq.st) ∧
    (∀ o n, s.bit BOOT_STAT 11 = true → s.lnk.bootReqs = [(o, n)] → s.portUp p.val = true → Ends .bootReqRetry s (fun u =>
      u.regs = s.regs ∧ u.mem = s.mem ∧ ∃ h : LinkFrame, (u.port p.val).exempt = x.exempt ++ [h] ∧ h.type = 11 ∧
        h.payload = bootPayload 1 0 n o Config.dieUid.toNat [])) ∧
    (s.bit BOOT_STAT 11 = false → exec .bootReqRetry s = .next s) ∧
    (∀ e : RaccEntry, rr.deliver = true → raccEntries pl = [e] → e.op = 1 →
      let reply := fun (kind n : Nat) => [0x81, BitVec.ofNat 8 kind] ++ beBytes 2 e.tag ++ beBytes 4 e.addr ++ beBytes 4 n
      let listed := rr.st.admitted f.src.toNat && rr.st.mapBit LNK_RACL_LO f.src.toNat
      (listed = false → exec (.raccRequestRx p f) s = .next ((rr.st.lnkEvt 12).sendFrame 10 f.src.toNat 4 (reply 4 0))) ∧
      (∀ n t, listed = true → rr.st.busRead .link e.addr .word = (.ok n, t) →
        exec (.raccRequestRx p f) s = .next (t.sendFrame 10 f.src.toNat 4 (reply 0 n)))) ∧
    (∀ (e : RaccEntry) v t, rr.deliver = true → raccEntries pl = [e] → e.op = 2 →
      (rr.st.admitted f.src.toNat && rr.st.mapBit LNK_RACL_LO f.src.toNat) = true → rr.st.busWrite .link e.addr .word e.data = (.ok v, t) →
      ∃ d : List Byte, exec (.raccRequestRx p f) s = .next ({ t with drawn := t.drawn + 1 }.sendFrame 10 f.src.toNat 4
        ([0x82, 0] ++ beBytes 2 e.tag ++ beBytes 4 e.addr ++ d)) ∧ d.length = 4) ∧
    ((rr.deliver = false ∨ raccEntries pl = []) → exec (.raccRequestRx p f) s = .next rr.st) ∧
    (wakes → Ends (.wakeFrameRx p f) s (fun u => u.lnk.wakeAsked = true ∧ u.regs = s.regs ∧ u.mem = s.mem)) ∧
    (¬wakes → exec (.wakeFrameRx p f) s = .next (if s.powered = true then (s.receive p.val (frameOf f 13)).st else s))

/-- Frame start puts back what MOVEs changed, clears the b registers, and starts an enabled list at its base. Of a list in RUN whose pipe is enabled and clocked and whose next instruction lies in the list RAM: END stops with the pointer on it; WAIT goes on where the position has passed, ends where it lies below the frame, and else waits for the position, at which WAIT_RELEASE resumes it; MOVE and MMOVE write, the second under a mask, a pipe register's live value, a local RAM word, or a b register, change nothing where the value has a reserved encoding, and stop with cause TARGET elsewhere; SKIPIF and LOOP move the pointer; EVENT raises its source and FLIP sets READY. A reserved op stops with cause OPCODE, a fetch outside the RAM with FETCH, and 4,096 words without release with RUNAWAY. -/
def Obligations.BeamSequencer : Prop :=
  ∀ (s : State) (p : Fin 3) (w : Word) (n : Nat),
    let q := p.val
    let x := s.pipe q
    let imm := fieldOf w 0 16
    let kind := fieldOf w 16 2
    let cond := fieldOf w 24 4
    let r := fieldOf w 21 3
    let b := s.rg (BSQ_B q r)
    let runs := s.bsqState q = 1 ∧ s.listLive q = true
    let next := fun (op : Nat) => runs ∧ inList x.ptr = true ∧ w = s.listWord q x.ptr ∧
      fieldOf w 28 4 = op ∧ bsqWords w = some n ∧ x.ptr + 4 * n ≤ 0x10000 ∧ x.words + n ≤ 4096
    let past := fun (u : State) => (u.pipe q).ptr = x.ptr + 4 * n ∧ u.bsqState q = 1
    let faults := fun (j : Instr) (cause : Nat) => Ends j s (fun u => u.bsqState q = 4 ∧ u.fld (BSQ_STAT q) 4 4 = cause ∧
      u.bit (RAS_EVT q) 6 = true ∧ u.mem = s.mem ∧ u.live = s.live)
    let v := s.listWord q (x.ptr + 4)
    let m := s.listWord q (x.ptr + 8)
    let copies := s.beat.copying.any (fun g => s.bit (CG_MEMBERS g) (q + 1))
    let writes := fun (j : Instr) (op : Nat) (mask val : Word) =>
      let mix := fun (old : Word) => (old &&& ~~~mask) ||| (val &&& mask)
      let bq := BSQ_B q (imm / 4)
      (∀ a rw row y z, next op → kind = 0 → moveTarget q imm = some (a, rw) → regAt a = some (row, y, z) →
        (badEncoding a row y z (mix (s.lv a)) = false → Ends j s (fun u => past u ∧ u.mem = s.mem ∧ SameRegsBut s u [BSQ_PC q] ∧
          u.lv a = (s.lv a &&& ~~~rw) ||| (mix (s.lv a) &&& rw))) ∧
        (badEncoding a row y z (mix (s.lv a)) = true → Ends j s (fun u => past u ∧ u.mem = s.mem ∧ SameRegsBut s u [BSQ_PC q] ∧
          u.live = s.live))) ∧
      (next op → kind = 1 → imm % 4 = 0 → imm ≤ 0x3FFC → Ends j s (fun u => past u ∧ SameRegsBut s u [BSQ_PC q] ∧ u.live = s.live ∧
        u.lramWord q imm = (mix (w32 (s.lramWord q imm))).toNat ∧ SameBytesBut s u (0x48000000 + 0x100000 * q + imm) 4)) ∧
      (next op → kind = 2 → imm < 32 → Ends j s (fun u => past u ∧ u.mem = s.mem ∧ SameRegsBut s u [BSQ_PC q, bq] ∧
        u.rg bq = mix (s.rg bq))) ∧
      (next op → ((kind = 0 ∧ moveTarget q imm = none) ∨ (kind = 1 ∧ (imm % 4 ≠ 0 ∨ 0x3FFC < imm)) ∨ (kind = 2 ∧ 32 ≤ imm) ∨ kind = 3) →
        faults j 2)
    (copies = false → x.started = false → x.saved = [] → Ends (.bsqFrameStart p) s (fun u => (∀ k, k < 8 → u.rg (BSQ_B q k) = 0) ∧
      (u.pipe q).ptr = (4 * s.lvFld (BSQ_BASE q) 2 14 : Nat) ∧ (u.pipe q).words = 0 ∧ (u.pipe q).started = true ∧ u.live = s.live ∧
      u.bsqState q = (if s.lvBit (BSQ_CTL q) 0 && s.rasEnabled q then 1 else 0))) ∧
    (copies = false → x.started = false → (x.saved.map (fun e => e.1)).Nodup → Ends (.bsqFrameStart p) s (fun u =>
      (u.pipe q).saved = [] ∧ ∀ a old, (a, old) ∈ x.saved → u.lv a = old)) ∧
    ((x.started = true ∨ copies = true) → exec (.bsqFrameStart p) s = .next s) ∧
    (next 0 → Ends (.bsqEnd p) s (fun u => u.bsqState q = 3 ∧ (u.pipe q).ptr = x.ptr ∧ SameRegsBut s u [BSQ_PC q, BSQ_STAT q])) ∧
    (∀ l, next 1 → waitLine w x.pos.1 = some l →
      (s.activeH q ≤ l → Ends (.bsqWait p) s (fun u => u.bsqState q = 3 ∧ (u.pipe q).ptr = x.ptr)) ∧
      (l < s.activeH q → (l < x.pos.1 ∨ (l = x.pos.1 ∧ fieldOf w 0 11 ≤ x.pos.2)) →
        Ends (.bsqWait p) s (fun u => past u ∧ (u.pipe q).words = 0)) ∧
      (l < s.activeH q → (x.pos.1 < l ∨ (l = x.pos.1 ∧ x.pos.2 < fieldOf w 0 11)) →
        Ends (.bsqWait p) s (fun u => u.bsqState q = 2 ∧ (u.pipe q).aim = some (l, fieldOf w 0 11)))) ∧
    (next 1 → waitLine w x.pos.1 = none → faults (.bsqWait p) 1) ∧
    (∀ l, s.bsqState q = 2 → s.listLive q = true → x.aim = some l → Ends (.bsqWaitRelease p) s (fun u =>
      u.bsqState q = 1 ∧ (u.pipe q).pos = l ∧ (u.pipe q).aim = none ∧ (u.pipe q).words = 0)) ∧
    ((s.bsqState q ≠ 2 ∨ s.listLive q = false ∨ x.aim = none) → exec (.bsqWaitRelease p) s = .next s) ∧
    writes (.bsqMove p) 2 0xFFFFFFFF v ∧ writes (.bsqMmove p) 3 v m ∧
    (∀ k, next 4 → s.skipHolds q w = some true → inList (x.ptr + 4) = true → bsqWords v = some k →
      Ends (.bsqSkipif p) s (fun u => (u.pipe q).ptr = x.ptr + 4 + 4 * k ∧ u.bsqState q = 1)) ∧
    (next 4 → (s.skipHolds q w = some false ∨ s.skipHolds q w = some true ∧ inList (x.ptr + 4) = false) →
      Ends (.bsqSkipif p) s (fun u => past u ∧ SameRegsBut s u [BSQ_PC q])) ∧
    (next 4 → s.skipHolds q w = none → faults (.bsqSkipif p) 1) ∧
    ((cond = 0 → s.skipHolds q w = some (decide (b.toNat = imm))) ∧ (cond = 1 → s.skipHolds q w = some (decide (b.toNat ≠ imm))) ∧
      (cond = 2 → s.skipHolds q w = some (decide (b.toNat < imm))) ∧ (cond = 3 → s.skipHolds q w = some (decide (imm ≤ b.toNat))) ∧
      (cond = 4 → s.skipHolds q w = some (decide (imm ≤ x.pos.1))) ∧ (cond = 5 → s.skipHolds q w = some (decide (x.pos.1 < imm))) ∧
      (cond = 6 → s.skipHolds q w = some (bitOf b (imm % 32))) ∧ (cond = 7 → s.skipHolds q w = some (!bitOf b (imm % 32))) ∧
      (cond = 8 → s.skipHolds q w = some (s.bit (RAS_LSTAT q) (16 + imm % 8))) ∧
      (cond = 9 → s.skipHolds q w = some (s.bit (RAS_LSTAT q) (8 + imm % 8))) ∧ (10 ≤ cond → s.skipHolds q w = none)) ∧
    (next 5 → Ends (.bsqLoop p) s (fun u => u.rg (BSQ_B q r) = b - 1 ∧ u.bsqState q = 1 ∧
      (u.pipe q).ptr = if b = 1 then x.ptr + 4 else x.ptr + 4 * signed 16 imm)) ∧
    (next 6 → s.isLevel (rasSource q + 7 + fieldOf w 0 2) = false → Ends (.bsqEvent p) s (fun u => past u ∧
      u.pendOf (rasSource q + 7 + fieldOf w 0 2) = true)) ∧
    (next 7 → (bitsSet ((w &&& 0x3F) &&& layerMask q) 5).any (fun l => s.rg (LBUF_BACK q l) == 0) = false → Ends (.bsqFlip p) s (fun u =>
      past u ∧ u.rg (RAS_READY q) = s.rg (RAS_READY q) ||| (w &&& 0x3F &&& layerMask q))) ∧
    (next 7 → (bitsSet ((w &&& 0x3F) &&& layerMask q) 5).any (fun l => s.rg (LBUF_BACK q l) == 0) = true → Ends (.bsqFlip p) s (fun u =>
      past u ∧ u.rg (RAS_READY q) = s.rg (RAS_READY q) ∧ u.fld (RAS_CMDST q) 0 4 = 3)) ∧
    (runs → inList x.ptr = true → 8 ≤ fieldOf (s.listWord q x.ptr) 28 4 → x.words < 4096 → faults (.bsqReservedOp p) 1) ∧
    (runs → inList x.ptr = false → faults (.bsqEnd p) 3) ∧
    (runs → inList x.ptr = true → fieldOf (s.listWord q x.ptr) 28 4 = 2 → 0x10000 < x.ptr + 8 → faults (.bsqMove p) 3) ∧
    (runs → inList x.ptr = true → fieldOf (s.listWord q x.ptr) 28 4 = 6 → 4096 ≤ x.words → faults (.bsqEvent p) 4) ∧
    (¬runs → ∀ j, [Instr.bsqEnd p, .bsqWait p, .bsqMove p, .bsqMmove p, .bsqSkipif p, .bsqLoop p, .bsqEvent p, .bsqFlip p,
      .bsqReservedOp p].contains j = true → exec j s = .next s)

/-- In a state where the fabric serves the write: LBUF_BACK takes a legal address while the layer is not ready, READY bits are set where every named layer has a buffer and cleared by UNREADY, and a DSI packet is queued while none is. A due line request takes the next line; pixels that are ready go to Output A's LVDS links, to Output B's packets, or through the gamma table into the store of Output C that is not scanned; a line not composed in time is counted, and a disabled pipe delivers RAS_BGCOL. The pins of a disabled Output A or C carry nothing. With TESRC 1 the panel's signal is a change of OB_TE. A transfer starts at the TE event that TESRC and TEPOL select in the window, at edge + 32 µs with TESRC 0, or at the window's end with a miss counted, after a queued command; it ends after the last line. A queued packet is sent when the lanes are free; it ends at once, or with BTA when the reply, its error report, or a timeout comes. ULPS exit, relock and refresh have their ends. -/
def Obligations.BuffersAndOutputs : Prop :=
  ∀ (s : State) (i : Initiator) (p : Fin 3) (l : Fin 6) (v : Word) (d : List Byte) (rep : BitVec 16) (c : Bool),
    let q := p.val
    let no := fun (j : Instr) (code : Nat) => exec j s = .next (s.reject (rasPort q) code)
    let back := s.serves i (LBUF_BACK q l.val) v = true
    let legal := l = 5 ∨ (v.toNat % 16 = 0 ∧ 0x10000000 ≤ v.toNat ∧ v.toNat ≤ 0x107FFFFF)
    let bits := v &&& layerMask q
    let x := s.pipe q
    let w := s.activeW q
    let h := fieldOf v 8 16
    let tesrc := s.lvFld OUT_B_CTL 14 2
    let window := s.lvFld OUT_B_TEWIN 0 16 * 400
    let pin := if tesrc = 1 then s.setOut { s.out with te := !s.out.te } else s
    let selected := tesrc = 2 ∨ tesrc = 1 ∧ s.out.te = s.lvBit OUT_B_CTL 16
    let begins := fun (u : State) (at_ : Nat) => (s.out.cmd = none → u.moving = true ∧ u.out.moved = true ∧ u.out.movedAt = at_) ∧
      (s.out.cmd ≠ none → u.moving = false ∧ u.out.due = true)
    let ends := s.out.movedAt + s.packetCycles (s.activeH 1)
    let reply := d.take 16
    let refreshes := s.outClock = true ∧ s.out.relock.contains 2 = false ∧ s.out.lit = true ∧ s.out.refs < s.lvFld OUT_C_CTL 8 4 ∧
      s.inBeat s.refreshEnd = true
    let ready := s.mayRequest q = true ∧ w ≤ x.ahead.length ∧ s.rg (VIS_ACT q) = 0
    let idle := fun (u : State) (st : Nat) => u.bit OUT_B_CMDST 31 = false ∧ u.fld OUT_B_CMDST 0 4 = st ∧ u.out.cmd = none ∧
      u.out.bta = false ∧ u.bit OUT_EVT 6 = true
    (back → s.bit (RAS_READY q) l.val = false → legal → Ends (.lbufBackWrite i p l v) s (fun u =>
      u.rg (LBUF_BACK q l.val) = (if l = 5 then v &&& 1 else v) ∧ SameRegsBut s u [LBUF_BACK q l.val, RAS_CMDST q] ∧ u.mem = s.mem)) ∧
    (back → s.bit (RAS_READY q) l.val = true → no (.lbufBackWrite i p l v) ST_STATE) ∧
    (back → s.bit (RAS_READY q) l.val = false → ¬legal → no (.lbufBackWrite i p l v) ST_ARG) ∧
    (s.serves i (RAS_READY q) v = true → (bitsSet bits 5).any (fun k => s.rg (LBUF_BACK q k) == 0) = false →
      Ends (.rasReadyWrite i p v) s (fun u => u.rg (RAS_READY q) = s.rg (RAS_READY q) ||| bits ∧
        SameRegsBut s u [RAS_READY q, RAS_CMDST q] ∧ u.mem = s.mem)) ∧
    (s.serves i (RAS_READY q) v = true → (bitsSet bits 5).any (fun k => s.rg (LBUF_BACK q k) == 0) = true → no (.rasReadyWrite i p v) ST_ARG) ∧
    (s.serves i (RAS_UNREADY q) v = true → Ends (.rasUnreadyWrite i p v) s (fun u =>
      u.rg (RAS_READY q) = s.rg (RAS_READY q) &&& ~~~bits ∧ SameRegsBut s u [RAS_READY q, RAS_CMDST q] ∧ u.mem = s.mem)) ∧
    (s.mayRequest q = true → Ends (.outputLineRequest p) s (fun u => (u.pipe q).line = x.line + 1)) ∧
    (s.mayRequest q = false → exec (.outputLineRequest p) s = .next s) ∧
    (s.mayRequest q = true → s.rasEnabled q = true → s.bit SYS_CLKEN (19 + q) = false → x.ahead.length < w →
      Ends (.outputLineRequest p) s (fun u => u.rg (RAS_LUNDER q) = satInc (s.rg (RAS_LUNDER q)) 1 ∧ (u.pipe q).under = true)) ∧
    (ready → q = 0 → Ends (.outputLineRequest p) s (fun u => u.out.vertA.sent = some (x.line, x.ahead.take w) ∧
      (u.pipe 0).ahead = x.ahead.drop w ∧ u.mem = s.mem)) ∧
    (ready → q = 1 → Ends (.outputLineRequest p) s (fun u => u.out.vertB.sent = some (x.line, x.ahead.take w) ∧ u.mem = s.mem ∧
      (s.pinsDriven 1 = true → s.asleep = false → u.out.dsi = s.dsiLine x.line (x.ahead.take w)))) ∧
    (ready → q = 2 → Ends (.outputLineRequest p) s (fun u => u.mem = s.mem ∧ ∀ n, n < w →
      smGet (fun _ => 0) u.out.stores (storeKey (1 - s.fld OUT_C_STAT 4 1) n x.line) = s.gamma (x.ahead.getD n 0))) ∧
    (s.mayRequest q = true → s.rasEnabled q = false → x.ahead = [] → s.rg (VIS_ACT q) = 0 → q = 0 → Ends (.outputLineRequest p) s (fun u =>
      u.out.vertA.sent = some (x.line, List.replicate w (s.lvFld (RAS_BGCOL q) 0 24)) ∧ u.rg (RAS_LUNDER q) = s.rg (RAS_LUNDER q))) ∧
    (s.pinsDriven 0 = false → s.lvdsPins = none) ∧
    (∀ y px, s.pinsDriven 0 = true → s.out.vertA.sent = some (y, px) → s.vertLine 0 = some (s.blankLines 0 + y) →
      s.lvdsPins = some (lvdsLinks (s.lv OUT_A_CTL) (s.lvdsClocks false (some px)))) ∧
    (s.awaitsTe = true → selected → 12800 ≤ s.phase → s.phase ≤ window → Ends .teEvent s (fun u =>
      begins u s.phase ∧ u.out.teMiss = 0 ∧ u.out.te = pin.out.te ∧ SameRegsBut s u [OUT_B_STAT])) ∧
    (tesrc ≠ 0 → (s.awaitsTe = false ∨ ¬selected ∨ s.phase < 12800 ∨ window < s.phase) → exec .teEvent s = .next pin) ∧
    (s.awaitsTe = true → tesrc = 0 → s.inBeat 12800 = true → Ends .teEvent s (fun u => begins u u.phase ∧ 12800 ≤ u.phase ∧
      u.mem = s.mem)) ∧
    (tesrc = 0 → (s.awaitsTe = false ∨ s.inBeat 12800 = false) → exec .teEvent s = .next s) ∧
    (s.awaitsTe = false → exec .teWindowEnd s = .next s) ∧
    (s.awaitsTe = true → tesrc ≠ 0 → s.inBeat window = true → Ends .teWindowEnd s (fun u => begins u u.phase ∧ u.bit OUT_EVT 5 = true ∧
      u.rg OUT_B_TEMISSCNT = satInc (s.rg OUT_B_TEMISSCNT) 1 ∧ (s.out.teMiss = 7 → u.bit OUT_EVT 7 = true) ∧
      u.out.teMiss = (if s.out.teMiss + 1 = 8 then 0 else s.out.teMiss + 1))) ∧
    ((tesrc = 0 ∨ s.inBeat window = false) → exec .teWindowEnd s = .next s) ∧
    (s.moving = true → s.activeH 1 ≤ (s.pipe 1).line → s.inBeat ends = true → Ends .transferEnd s (fun u => u.moving = false ∧
      u.bit OUT_EVT 3 = true ∧ u.rg OUT_B_PSRCRC = s.rg (VIS_FCRC 1) ∧ u.rg OUT_B_PSRACT = s.rg (VIS_ACT 1) &&& 0x1FFFF ∧
      u.out.equal = (if s.psrOn && !s.frameDiffers then s.out.equal + 1 else 0) ∧ u.mem = s.mem)) ∧
    ((s.moving = false ∨ (s.pipe 1).line < s.activeH 1 ∨ s.inBeat ends = false) → exec .transferEnd s = .next s) ∧
    (s.serves i OUT_B_CMDHDR v = true → s.bit OUT_B_CMDST 31 = false → (longPacket (fieldOf v 0 6) = true → h ≤ 64) →
      Ends (.outBCmdhdrWrite i v) s (fun u => u.bit OUT_B_CMDST 31 = true ∧ u.out.cmd = some (v &&& 0x3FFFFFF) ∧ u.mem = s.mem)) ∧
    (s.serves i OUT_B_CMDHDR v = true → s.bit OUT_B_CMDST 31 = true → exec (.outBCmdhdrWrite i v) s = .next (s.reject outPort ST_STATE)) ∧
    (s.serves i OUT_B_CMDHDR v = true → s.bit OUT_B_CMDST 31 = false → longPacket (fieldOf v 0 6) = true → 64 < h →
      exec (.outBCmdhdrWrite i v) s = .next (s.reject outPort ST_ARG)) ∧
    (s.out.cmd = some v → s.mayPacket = true → Ends (.dsiPacketSend false) s (fun u => u.mem = s.mem ∧
      (s.pinsDriven 1 = true → u.out.dsi = .command (fieldOf v 0 6) (fieldOf v 6 2) (bitOf v 24)
        (if longPacket (fieldOf v 0 6) then s.cmdBytes h else leBytes 2 h) :: (if bitOf v 24 then [] else s.dsiEot)) ∧
      (bitOf v 25 = true → u.out.bta = true ∧ u.regs = s.regs) ∧ (bitOf v 25 = false → idle u 0 ∧ u.moving = (s.moving || s.out.due)))) ∧
    (s.out.cmd = some v → s.mayPacket = true → Ends (.dsiPacketSend true) s (fun u => idle u 6 ∧ u.bit OUT_EVT 7 = true)) ∧
    ((s.out.cmd = none ∨ s.mayPacket = false) → exec (.dsiPacketSend c) s = .next s) ∧
    (s.out.bta = true → rep = 0 → Ends (.dsiReadReply d rep) s (fun u => idle u 0 ∧ u.fld OUT_B_CMDST 8 5 = reply.length ∧
      u.mem = s.mem ∧ ∀ n, n < 4 → if reply = [] then u.rg (OUT_B_RDATA n) = s.rg (OUT_B_RDATA n)
        else (u.rg (OUT_B_RDATA n)).toNat = ofLe ((reply.drop (4 * n)).take 4))) ∧
    (s.out.bta = true → rep ≠ 0 → Ends (.dsiReadReply d rep) s (fun u => idle u 5 ∧ u.rg OUT_B_ERRRPT = BitVec.ofNat 32 rep.toNat ∧
      u.fld OUT_B_CMDST 8 5 = reply.length ∧ u.bit OUT_EVT 7 = true)) ∧
    (s.out.bta = true → Ends .dsiBtaTimeout s (fun u => idle u 4 ∧ u.bit OUT_EVT 7 = true)) ∧
    (s.out.bta = false → exec .dsiBtaTimeout s = .next s ∧ exec (.dsiReadReply d rep) s = .next s) ∧
    (s.out.leaving = true → Ends .ulpsExitDone s (fun u => u.out.leaving = false ∧ u.out.ulps = false ∧ u.regs = s.regs ∧ u.mem = s.mem)) ∧
    (s.out.leaving = false → exec .ulpsExitDone s = .next s) ∧
    Ends (.pllPixRelock p) s (fun u => u.out.relock.contains q = false ∧ u.regs = s.regs ∧ u.mem = s.mem) ∧
    (refreshes → Ends .ledRefresh s (fun u => u.out.refs = s.out.refs + 1 ∧ u.out.led = .scan s.ledScan ∧ u.mem = s.mem)) ∧
    (¬refreshes → exec .ledRefresh s = .next s) ∧
    (s.pinsDriven 2 = false → s.ledPins = .off) ∧
    (s.chanState 0x819 = 0 → 1 ≤ s.fld (FLT_POLICY 4) 0 4 → Ends .dphyPllUnlock s (fun u => u.chanState 0x819 = 1 ∧ u.mem = s.mem ∧
      SameRegsBut s u [FLT_CHSTAT 0x819, FLT_EVT, ECX_PEND 3])) ∧
    ((s.chanState 0x819 = 2 ∨ s.chanState 0x819 = 3) → exec .dphyPllUnlock s = .next s)

/-- In a state where the fabric serves the write: START runs a ring that lies in SRAM, STOP ends in OFF with no command at hand, and SKIP moves RD past a halted command; each is rejected with STATE from another state, and START with ARG outside SRAM. The ring registers are written in OFF and empty the ring, with BLT_EVT bit 3 where it was not empty; BLT_WR moves by no more than the free slots. Of the command at RD, while its clock runs: LAYER waits for READY to be 0 and then gives the layer its buffer, EVENT raises its source, SYNC ends, or with BEAT set waits for an edge; a reserved or invalid command halts with ERR CMD. The end of a command posts its tag, counts it and advances RD. -/
def Obligations.BlitterRing : Prop :=
  ∀ (s : State) (i : Initiator) (r : Fin 2) (v : Word) (ws : List Word),
    let st := s.bltState
    let ctrl := fun (x : Word) => s.serves i BLT_CTRL x = true
    let no := fun (j : Instr) (code : Nat) => exec j s = .next (s.reject bltPort code)
    let m := s.bltSlots
    let a := if r = 0 then BLT_RBASE else BLT_RSIZE
    let c := bltDecode ws
    let free := (s.bltRd + m - s.bltWr % m - 1) % m
    let move := (fieldOf v 0 12 + m - s.bltWr % m) % m
    let ready := s.blt.cmd = some ws ∧ st = 1 ∧ s.blt.ended = false ∧ s.blt.cut = false ∧ s.bit BLT_STAT 2 = false ∧ s.bit SYS_CLKEN 1 = true
    let at_ := fun (op : Nat) => ready ∧ c.op = op ∧ c.ok = true
    let waits := fun (op : Nat) => s.bltWaits op = some c
    let halts := fun (j : Instr) (err : Nat) => Ends j s (fun u => u.bltState = 2 ∧ u.fld BLT_STAT 8 3 = err ∧ u.blt.cmd = none ∧
      u.bit BLT_EVT 1 = true ∧ u.bltRd = s.bltRd ∧ u.mem = s.mem)
    let l := c.rop % 8
    (ctrl 1 → st ≠ 1 → s.ringInSram = true → s.bltRd = s.bltWr → Ends (.bltStart i) s (fun u => u.bltState = 1 ∧
      u.fld BLT_STAT 8 3 = 0 ∧ u.blt = s.blt ∧ SameRegsBut s u [BLT_STAT, BLT_CMDST] ∧ u.mem = s.mem)) ∧
    (ctrl 1 → st ≠ 1 → s.ringInSram = true → s.bltRd ≠ s.bltWr → Ends (.bltStart i) s (fun u =>
      (u.bltState = 1 ∧ u.blt.cmd.isSome = true) ∨ (u.bltState = 2 ∧ u.fld BLT_STAT 8 3 = 1 ∧ u.bit BLT_EVT 1 = true))) ∧
    (ctrl 1 → st = 1 → no (.bltStart i) ST_STATE) ∧
    (ctrl 1 → st ≠ 1 → s.ringInSram = false → no (.bltStart i) ST_ARG) ∧
    (ctrl 2 → st = 1 → Ends (.bltStop i) s (fun u => u.bltState = 0 ∧ u.blt.cmd = none ∧ u.bit BLT_STAT 2 = false ∧ u.mem = s.mem ∧
      (s.blt.ended = false → u.bltRd = s.bltRd) ∧ (s.blt.ended = true → s.blt.cmd = some ws →
        u.bltRd = (s.bltRd + 1) % m % 4096 ∧ u.rg BLT_DONECNT = s.rg BLT_DONECNT + 1))) ∧
    (ctrl 2 → st ≠ 1 → no (.bltStop i) ST_STATE) ∧
    (ctrl 4 → st = 2 → Ends (.bltSkip i) s (fun u => u.bltRd = (s.bltRd + 1) % m % 4096 ∧ u.bit BLT_STAT 3 = (u.bltRd == u.bltWr) ∧
      u.bltState = 2 ∧ u.mem = s.mem)) ∧
    (ctrl 4 → st ≠ 2 → no (.bltSkip i) ST_STATE) ∧
    (s.serves i a v = true → st = 0 → Ends (.bltRingConfigWrite i r v) s (fun u => u.rg a = (v &&& (if r = 0 then 0xFFFFFFF0 else 0xF)) ∧
      u.rg BLT_RD = 0 ∧ u.rg BLT_WR = 0 ∧ u.bit BLT_STAT 3 = true ∧ (s.bit BLT_STAT 3 = false → u.bit BLT_EVT 3 = true) ∧
      SameRegsBut s u [a, BLT_RD, BLT_WR, BLT_STAT, BLT_CMDST, BLT_EVT, ECX_PEND 9])) ∧
    (s.serves i a v = true → st ≠ 0 → no (.bltRingConfigWrite i r v) ST_STATE) ∧
    (s.serves i BLT_WR v = true → move ≤ free → Ends (.bltWrWrite i v) s (fun u => u.bltWr = fieldOf v 0 12 % m ∧ u.bltRd = s.bltRd)) ∧
    (s.serves i BLT_WR v = true → free < move → no (.bltWrWrite i v) ST_ARG) ∧
    (at_ 0 → Ends .bltNop s (fun u => u.blt.ended = true ∧ u.regs = s.regs ∧ u.mem = s.mem)) ∧
    (at_ 0x11 → Ends .bltEvent s (fun u => u.blt.ended = true ∧ u.bit BLT_EVT (4 + c.rop % 4) = true ∧ u.mem = s.mem ∧
      SameRegsBut s u [BLT_EVT, ECX_PEND 9])) ∧
    (at_ 0x12 → c.rop % 2 = 0 → Ends .bltSync s (fun u => u.blt.ended = true ∧ u.regs = s.regs ∧ u.mem = s.mem)) ∧
    (at_ 0x12 → c.rop % 2 = 1 → Ends .bltSync s (fun u => u.bit BLT_STAT 2 = true ∧ u.blt = s.blt ∧ SameRegsBut s u [BLT_STAT] ∧ u.mem = s.mem)) ∧
    (waits 0x12 → s.blt.edge = true → Ends .bltSyncRelease s (fun u => u.bit BLT_STAT 2 = false ∧ u.bit BLT_STAT 4 = true ∧
      u.blt.ended = true ∧ SameRegsBut s u [BLT_STAT] ∧ u.mem = s.mem)) ∧
    (waits 0x12 → s.blt.edge = false → exec .bltSyncRelease s = .next s) ∧
    (at_ 0x10 → s.bit SYS_CLKEN (19 + c.rot) = true → Ends .bltLayer s (fun u => u.bit BLT_STAT 2 = true ∧ u.blt = s.blt ∧
      SameRegsBut s u [BLT_STAT] ∧ u.mem = s.mem)) ∧
    (at_ 0x10 → s.bit SYS_CLKEN (19 + c.rot) = false → halts .bltLayer 5) ∧
    (waits 0x10 → c.rot < 3 → (layersOf c.rot).contains l = true → s.bit SYS_CLKEN (19 + c.rot) = true → s.bit (RAS_READY c.rot) l = false →
      (l = 5 ∨ (c.dst % 16 = 0 ∧ 0x10000000 ≤ c.dst ∧ c.dst ≤ 0x107FFFFF)) → Ends .bltLayerRelease s (fun u => u.blt.ended = true ∧
        u.bit BLT_STAT 2 = false ∧ u.bit (RAS_READY c.rot) l = true ∧ u.mem = s.mem ∧
        u.rg (LBUF_BACK c.rot l) = (if l = 5 then BitVec.ofNat 32 c.dst &&& 1 else BitVec.ofNat 32 c.dst))) ∧
    (waits 0x10 → c.rot < 3 → s.bit SYS_CLKEN (19 + c.rot) = true → s.bit (RAS_READY c.rot) l = false → l ≠ 5 →
      ¬(c.dst % 16 = 0 ∧ 0x10000000 ≤ c.dst ∧ c.dst ≤ 0x107FFFFF) → halts .bltLayerRelease 5) ∧
    (waits 0x10 → s.bit SYS_CLKEN (19 + c.rot) = false → halts .bltLayerRelease 5) ∧
    (waits 0x10 → s.bit SYS_CLKEN (19 + c.rot) = true → s.bit (RAS_READY c.rot) l = true → exec .bltLayerRelease s = .next s) ∧
    (ready → ¬(c.op ≤ 4 ∨ (0x10 ≤ c.op ∧ c.op ≤ 0x12)) → halts .bltReservedOp 4) ∧
    (∀ j op, [(Instr.bltNop, 0), (.bltFill none, 1), (.bltCopy none, 2), (.bltRop3 none, 3), (.bltXform none, 4), (.bltLayer, 0x10),
      (.bltEvent, 0x11), (.bltSync, 0x12)].contains (j, op) = true → ready → c.op = op → c.ok = false → halts j 4) ∧
    (s.blt.cmd = some ws → s.blt.ended = true → st = 1 → Ends .bltCommandEnd s (fun u => u.rg BLT_LASTTAG = ws.getD 7 0 ∧
      u.rg BLT_DONECNT = s.rg BLT_DONECNT + 1 ∧ u.bltRd = (s.bltRd + 1) % m % 4096)) ∧
    ((s.blt.ended = false ∨ st ≠ 1) → exec .bltCommandEnd s = .next s)

/-- Of a valid drawing command at RD whose reads succeed: the destination rows are written in order, in bursts of at most 256 bytes, each pixel FILL's colour, COPY's source pixel, the ternary operation of pattern, source and destination, or XFORM's mirrored and turned source pixel; then the command's work is done. A write error halts with ERR WRITE and the address, and a read error with ERR READ; a STOP after n bursts leaves those written. FILL reads nothing. The ternary codes F0, CC and AA give pattern, source and destination; XFORM without mirrors and turns copies, and turned once reads columns as rows. -/
def Obligations.BlitterDrawing : Prop :=
  ∀ (s : State) (ws : List Word) (src dst pat : List (List Byte)) (t u : State) (n bits p q d : Nat),
    let c := bltDecode ws
    let ready := s.blt.cmd = some ws ∧ s.bltState = 1 ∧ s.blt.ended = false ∧ s.blt.cut = false ∧ s.bit BLT_STAT 2 = false ∧
      s.bit SYS_CLKEN 1 = true ∧ c.ok = true
    let rows := fun (row : Nat → List Byte) => (List.range c.dRows).flatMap (fun y => burstsOf (c.dCols * c.bpp) (c.dst + y * c.dpitch) (row y))
    let fill := rows (fun _ => (List.range c.w).flatMap (fun _ => leBytes c.bpp c.color))
    let copy := rows (fun y => (List.range c.w).flatMap (fun x => leBytes c.bpp (pixelAt src c.bpp x y)))
    let rop := rows (fun y => (List.range c.w).flatMap (fun x => leBytes c.bpp (rop3 c.rop (8 * c.bpp)
      (pixelAt pat c.bpp ((x + c.px) % 8) ((y + c.py) % 8)) (pixelAt src c.bpp x y) (pixelAt dst c.bpp x y))))
    let xform := rows (fun y => (List.range c.dCols).flatMap (fun x =>
      leBytes c.bpp (pixelAt src c.bpp (xformSource c x y).1 (xformSource c x y).2)))
    let draws := fun (j : Option Nat → Instr) (op : Nat) (all : List (Nat × List Byte)) => ready → c.op = op →
      (s.bltReads c = ((src, dst, pat), none, t) →
        (t.writeBursts all = (none, u) → exec (j none) s = .next { u with blt := { u.blt with ended := true } }) ∧
        (t.writeBursts (all.take n) = (none, u) → exec (j (some n)) s = .next { u with blt := { u.blt with cut := true } }) ∧
        (∀ k a, t.writeBursts all = (some (k, a), u) → Ends (j none) s (fun x => x.bltState = 2 ∧ x.fld BLT_STAT 8 3 = 3 ∧
          x.fld BLT_STAT 12 4 = k.code ∧ x.rg BLT_ERRADDR = BitVec.ofNat 32 a ∧ x.bit BLT_EVT 1 = true ∧ x.mem = u.mem))) ∧
      (∀ k a, s.bltReads c = ((src, dst, pat), some (k, a), t) → Ends (j none) s (fun x => x.bltState = 2 ∧ x.fld BLT_STAT 8 3 = 2 ∧
        x.fld BLT_STAT 12 4 = k.code ∧ x.rg BLT_ERRADDR = BitVec.ofNat 32 a ∧ x.bit BLT_EVT 1 = true))
    draws .bltFill 1 fill ∧ draws .bltCopy 2 copy ∧ draws .bltRop3 3 rop ∧ draws .bltXform 4 xform ∧
    (ready → c.op = 1 → s.bltReads c = (([], [], []), none, s)) ∧
    rop3 0xF0 bits p q d = p % 2 ^ bits ∧ rop3 0xCC bits p q d = q % 2 ^ bits ∧ rop3 0xAA bits p q d = d % 2 ^ bits ∧
    rop3 0 bits p q d = 0 ∧
    (c.rot = 0 → c.mh = false → c.mv = false → xformSource c p q = (p, q)) ∧
    (c.rot = 1 → c.mh = false → c.mv = false → xformSource c p q = (q, c.h - 1 - p)) ∧
    (c.rot = 2 → c.mh = false → c.mv = false → xformSource c p q = (c.w - 1 - p, c.h - 1 - q)) ∧
    (c.rot = 3 → c.mh = false → c.mv = false → xformSource c p q = (c.w - 1 - q, p)) ∧
    (c.rot = 0 → c.mh = true → c.mv = false → xformSource c p q = (c.w - 1 - p, q)) ∧
    (c.rot = 0 → c.mh = false → c.mv = true → xformSource c p q = (p, c.h - 1 - q))

/-- In a state where the fabric serves the write: KEYON, KEYOFF and KILL become the voice's pending command, for a sample that is not begun or for the next group; one whose sample has begun or whose block is too short is LATE and acts with the next group; KEYON of illegal settings is rejected with ARG and KEYOFF of a silent voice with STATE; settings are written while the voice is OFF and waits for nothing. A due command takes the voice to ATTACK from position 0, to RELEASE from its present level (none if it is silent or released), or to OFF; one not due stays. The render starts at AUD_RSTART; each group moves it on by up to 64 samples, and the last completes the block. Slave inputs lock at 8 to 96 kHz and lose lock. A stream input keeps the first transmitter it hears: its frame stores the samples that are in time, late ones and ones too far ahead are counted, a bad or looped one is counted whole; one from another is dropped. -/
def Obligations.AudioBlock : Prop :=
  ∀ (s : State) (i : Initiator) (v : Fin 32) (r : Fin 5) (w : Word) (o : BitVec 11) (n : Fin 2) (hz : BitVec 24) (p : Fin 2) (f : Llp),
    let asks := fun (op : Nat) (due : Option (BitVec 11)) => s.serves i AUD_VCMD (vcmdWord op v.val due) = true
    let no := fun (j : Instr) (code : Nat) => exec j s = .next (s.reject audPort code)
    let x := s.voice v.val
    let st := s.vState v.val
    let waits := fun (j : Instr) (op : Nat) (due : Option (Nat × Nat)) => Ends j s (fun u =>
      (u.voice v.val).cmd = some { op := op, due := due } ∧ u.bit (V_STAT v.val) 4 = true ∧ u.vState v.val = st ∧ u.mem = s.mem)
    let at_ := s.rg64 AUD_VAT_LO
    let ahead := s.sampleBegun at_ o.toNat = false ∧ o.toNat < s.blockLen at_
    let gone := s.sampleBegun at_ o.toNat = true ∨ s.blockLen at_ ≤ o.toNat
    let late := fun (j : Instr) (op : Nat) => Ends j s (fun u =>
      (u.voice v.val).cmd = some { op := op, due := none } ∧ u.bit (V_STAT v.val) 4 = true ∧ u.bit (V_STAT v.val) 5 = true ∧
        u.bit AUD_EVT 8 = true ∧ u.vState v.val = st ∧ u.mem = s.mem)
    let acts := fun (op : Nat) => s.rendering = true ∧ (x.cmd = some { op := op, due := none } ∨
      x.cmd = some { op := op, due := some (s.rg64 AUD_PBEAT_LO, s.aud.next) } ∧ s.aud.next < s.blen)
    let a := voiceReg r.val v.val
    let blk := s.beatNo + 1
    let m := min 64 (s.blen - s.aud.next)
    let rx := s.receive p.val (frameOf f 7)
    let pl := f.payload
    let first := fieldAt pl 2 2
    let many := fieldAt pl 12 2
    let q := fieldAt pl 4 8
    let hears := fun (k : Nat) => rx.st.bit (LNK_ASTR k) 31 = true ∧ rx.st.fld (LNK_ASTR k) 16 4 = fieldAt pl 0 1
    let bad := fieldAt pl 1 1 ≠ 1 ∨ fieldAt pl 14 2 ≠ rx.st.blockLen q ∨ rx.st.blockLen q < first + many
    let g := rx.st.blockStart q + first + rx.st.streamLag
    let begun := if rx.st.rendering || rx.st.aud.ready == some (rx.st.beatNo + 1) then rx.st.beatNo + 1 else rx.st.beatNo
    let lo := rx.st.blockStart (begun + 1)
    let hi := rx.st.blockStart (begun + 5)
    (asks 1 none → s.keyonBad v.val = false → waits (.keyon i v none) 1 none) ∧
    (asks 1 none → s.keyonBad v.val = true → no (.keyon i v none) ST_ARG) ∧
    (asks 1 (some o) → s.keyonBad v.val = false → ahead → waits (.keyon i v (some o)) 1 (some (at_, o.toNat))) ∧
    (asks 1 (some o) → s.keyonBad v.val = false → gone → late (.keyon i v (some o)) 1) ∧
    (asks 1 (some o) → s.keyonBad v.val = true → no (.keyon i v (some o)) ST_ARG) ∧
    (asks 2 none → st ≠ 0 → st ≠ 4 → waits (.keyoff i v none) 2 none) ∧
    (asks 2 none → (st = 0 ∨ st = 4) → no (.keyoff i v none) ST_STATE) ∧
    (asks 2 (some o) → st ≠ 0 → st ≠ 4 → ahead → waits (.keyoff i v (some o)) 2 (some (at_, o.toNat))) ∧
    (asks 2 (some o) → st ≠ 0 → st ≠ 4 → gone → late (.keyoff i v (some o)) 2) ∧
    (asks 2 (some o) → (st = 0 ∨ st = 4) → no (.keyoff i v (some o)) ST_STATE) ∧
    (asks 3 none → waits (.kill i v none) 3 none) ∧
    (asks 3 (some o) → ahead → waits (.kill i v (some o)) 3 (some (at_, o.toNat))) ∧
    (asks 3 (some o) → gone → late (.kill i v (some o)) 3) ∧
    (∀ row y z, s.serves i a w = true → regAt a = some (row, y, z) → st = 0 → x.cmd = none → Ends (.voiceParamWrite i v r w) s (fun u =>
      u.rg a = ((((s.rg a &&& ~~~(BitVec.ofNat 32 row.rw)) ||| (w &&& BitVec.ofNat 32 row.rw)) &&& ~~~(w &&& BitVec.ofNat 32 row.w1c)) |||
        (w &&& BitVec.ofNat 32 row.w1s)) ∧ SameRegsBut s u [a, AUD_CMDST] ∧ u.mem = s.mem)) ∧
    (s.serves i a w = true → (st ≠ 0 ∨ x.cmd.isSome = true) → no (.voiceParamWrite i v r w) ST_STATE) ∧
    (acts 1 → Ends (.voiceCommandAct v) s (fun u => u.vState v.val = 1 ∧ (u.voice v.val).pos = 0 ∧ (u.voice v.val).cmd = none ∧
      SameRegsBut s u [V_STAT v.val] ∧ u.mem = s.mem)) ∧
    (acts 2 → st ≠ 0 → st ≠ 4 → Ends (.voiceCommandAct v) s (fun u => u.vState v.val = 4 ∧ (u.voice v.val).pos = x.pos ∧
      (u.voice v.val).rel = s.envNow v.val ∧ (u.voice v.val).stage = 0 ∧ (u.voice v.val).cmd = none ∧ SameRegsBut s u [V_STAT v.val] ∧
      u.mem = s.mem)) ∧
    (acts 2 → (st = 0 ∨ st = 4) → Ends (.voiceCommandAct v) s (fun u => u.vState v.val = st ∧ (u.voice v.val).cmd = none ∧
      SameRegsBut s u [V_STAT v.val] ∧ u.mem = s.mem)) ∧
    (acts 3 → Ends (.voiceCommandAct v) s (fun u => u.vState v.val = 0 ∧ (u.voice v.val).cmd = none ∧
      SameRegsBut s u [V_STAT v.val] ∧ u.mem = s.mem)) ∧
    (s.rendering = true → x.cmd = none → exec (.voiceCommandAct v) s = .next s) ∧
    (∀ op b k, s.rendering = true → x.cmd = some { op := op, due := some (b, k) } → s.rg64 AUD_PBEAT_LO < b →
      exec (.voiceCommandAct v) s = .next s) ∧
    (s.rendering = false → exec (.voiceCommandAct v) s = .next s ∧ exec .audioGroup s = .next s) ∧
    (s.lvBit AUD_CTRL 0 = true → s.bit SYS_CLKEN 2 = true → s.rendering = false → s.aud.ready ≠ some blk → Ends .audioRenderStart s (fun u =>
      u.rendering = true ∧ u.blen = s.blockLen blk % 4096 ∧ u.rg64 AUD_PBEAT_LO = blk % 2 ^ 64 ∧ u.aud.next = 0 ∧ u.aud.building = [])) ∧
    ((s.lvBit AUD_CTRL 0 = false ∨ s.bit SYS_CLKEN 2 = false ∨ s.rendering = true ∨ s.aud.ready = some blk) → exec .audioRenderStart s = .next s) ∧
    (s.rendering = true → s.aud.next + 64 < s.blen → Ends .audioGroup s (fun u => u.aud.next = s.aud.next + m ∧ u.rendering = true)) ∧
    (s.rendering = true → s.blen ≤ s.aud.next + m → Ends .audioGroup s (fun u => u.rendering = false ∧ u.bit AUD_EVT 2 = true ∧
      u.aud.ready = some (s.rg64 AUD_PBEAT_LO))) ∧
    (s.lvBit (I_CFG n.val) 0 = true → s.lvBit (I_CFG n.val) 1 = false → s.bit (I_STAT n.val) 0 = false → 8000 ≤ hz.toNat → hz.toNat ≤ 96000 →
      Ends (.inputLock n hz) s (fun u => u.bit (I_STAT n.val) 0 = true ∧ u.fld (I_STAT n.val) 8 24 = hz.toNat ∧ u.bit AUD_EVT 12 = true ∧
        u.mem = s.mem)) ∧
    ((s.lvBit (I_CFG n.val) 0 = false ∨ s.lvBit (I_CFG n.val) 1 = true ∨ s.bit (I_STAT n.val) 0 = true ∨ hz.toNat < 8000 ∨
      96000 < hz.toNat) → exec (.inputLock n hz) s = .next s) ∧
    (s.bit (I_STAT n.val) 0 = true → Ends (.inputLockLoss n) s (fun u => u.bit (I_STAT n.val) 0 = false ∧ u.bit AUD_EVT 12 = true ∧
      u.mem = s.mem)) ∧
    (s.bit (I_STAT n.val) 0 = false → exec (.inputLockLoss n) s = .next s) ∧
    (rx.deliver = false → exec (.audioFrameRx p f) s = .next rx.st) ∧
    ((∀ k, k < 4 → ¬hears k) → exec (.audioFrameRx p f) s = .next rx.st) ∧
    (∀ k, k < 4 → rx.deliver = true → hears k →
      (rx.st.aud.kept.contains k = true → rx.st.fld (LNK_ASTR k) 22 6 ≠ f.src.toNat → Ends (.audioFrameRx p f) s (fun u =>
        u.streamStore k = rx.st.streamStore k ∧
          ((∀ j, j < 4 → j ≠ k → ¬hears j) → u.rg LNK_RAWDROP = satInc (rx.st.rg LNK_RAWDROP) 1 ∧ u.aud = rx.st.aud))) ∧
      (rx.st.aud.kept.contains k = false ∨ rx.st.fld (LNK_ASTR k) 22 6 = f.src.toNat →
        Ends (.audioFrameRx p f) s (fun u => k ∈ u.aud.kept ∧ u.fld (LNK_ASTR k) 22 6 = f.src.toNat % 64) ∧
        (rx.st.lvBit (LS_CFG k) 0 = true → Ends (.audioFrameRx p f) s (fun u =>
          u.rg (AUD_LS_BAD k) = satInc (rx.st.rg (AUD_LS_BAD k)) 1 ∧ u.streamStore k = rx.st.streamStore k)) ∧
        (rx.st.lvBit (LS_CFG k) 0 = false → bad → Ends (.audioFrameRx p f) s (fun u =>
          u.rg (AUD_LS_BAD k) = satInc (rx.st.rg (AUD_LS_BAD k)) 1 ∧ u.bit AUD_EVT 6 = true ∧ u.streamStore k = rx.st.streamStore k)) ∧
        (rx.st.lvBit (LS_CFG k) 0 = false → ¬bad → Ends (.audioFrameRx p f) s (fun u =>
          (∀ j, j < many → lo ≤ g + j → g + j < hi →
            smGet (fun _ => 0) (u.streamStore k) (g + j) = signed 24 (fieldAt pl (16 + 3 * j) 3)) ∧
          (∀ y, ¬(g ≤ y ∧ y < g + many ∧ lo ≤ y ∧ y < hi) →
            smGet (fun _ => 0) (u.streamStore k) y = smGet (fun _ => 0) (rx.st.streamStore k) y) ∧
          (0 < min many (lo - g) → u.rg (AUD_LS_LATE k) = satInc (rx.st.rg (AUD_LS_LATE k)) (min many (lo - g)) ∧ u.bit AUD_EVT 5 = true) ∧
          (0 < many → hi < g + many → u.rg (AUD_LS_BAD k) = satInc (rx.st.rg (AUD_LS_BAD k)) 1 ∧ u.bit AUD_EVT 6 = true)))))

/-- A frame start at an enabled input that captures counts the frame and opens the lowest FREE buffer, or drops the frame; it first ends an open frame with NOFE. A line of the open frame's stream is stored at its place with the fill pixel to its end; a short one marks the frame SHORT, one too long or beyond the height LONG, a failed payload CRC CRCERR, and a line of another stream is counted. A frame end gives the buffer to its holders and posts the frame, or frees it where none holds it; a frame of too few lines is SHORT and no frame of the expert array. Uncorrectable headers and synchronisation errors are counted and change no frame. An input that does not listen takes nothing. Firmware's release of a buffer it holds frees it where no other holds it, and is else rejected. FS pulses at its offset in the beat. -/
def Obligations.Cameras : Prop :=
  ∀ (s : State) (i : Initiator) (x : Fin 2) (vc : BitVec 2) (dt : BitVec 6) (px : List (BitVec 24)) (err : Fin 4) (v : Word),
    let n := x.val
    let on := s.camOn n = true ∧ s.lvBit (CAM_CTL n) 0 = true
    let c := s.cam n
    let hears := s.camOn n = true ∧ (s.lvBit (CAM_CTL n) 0 = true ∨ c.cur ≠ none)
    let good := err = 0 ∨ err = 2
    let b := fieldOf v 0 3
    let rel := s.serves i (CAM_REL n) v = true
    let inside := b < s.lvFld (CAM_NBUF n) 0 4
    let own := fun (want : Nat) => s.lvBit (CAM_CTL n) 1 = true ∨ s.camVc n vc = true ∧ want = dt.toNat
    let line := fun (f : CamFrame) => s.camOn n = true ∧ c.cur = some f ∧ own f.dt
    let stored := fun (t : State) (f : CamFrame) => (t.writeRun .camera (f.addr + f.lines * f.pitch)
      (((px.map (fun p => p.toNat)).take f.w).flatMap (storedPixel f.dt) ++
        (List.replicate (f.w - px.length) (leBytes (camBytes f.dt) f.fill)).flatten)).2.mem
    let failed := fun (j : Instr) => Ends j s (fun u => u.rg (CAM_PERRCNT n) = satInc (s.rg (CAM_PERRCNT n)) 1 ∧
      u.bit CAM_EVT (11 + n) = true ∧ u.rg (CAM_FSEQ n) = s.rg (CAM_FSEQ n) ∧ u.mem = s.mem)
    let drops := exec (.cameraLine x vc dt px err) s = .next (s.setRg (CAM_VCDROP n) (satInc (s.rg (CAM_VCDROP n)) 1))
    (on → s.camVc n vc = true → c.cur = none → s.freeBuf n = none → good → Ends (.cameraFrameStart x vc err) s (fun u =>
      u.rg (CAM_FSEQ n) = s.rg (CAM_FSEQ n) + 1 ∧ u.rg (CAM_DROPCNT n) = satInc (s.rg (CAM_DROPCNT n)) 1 ∧ u.bit CAM_EVT (7 + n) = true ∧
      u.cams = s.cams ∧ u.mem = s.mem)) ∧
    (∀ k, on → s.camVc n vc = true → c.cur = none → s.freeBuf n = some k → good → Ends (.cameraFrameStart x vc err) s (fun u =>
      u.rg (CAM_FSEQ n) = s.rg (CAM_FSEQ n) + 1 ∧ u.bufState n k = 1 ∧ SameRegsBut s u [CAM_FSEQ n, CAM_BSTAT n] ∧ u.mem = s.mem ∧
      (u.cam n).cur = some
        { buf := k, addr := (s.lv (CAM_FBASE n)).toNat + k * (s.lv (CAM_FPITCH n)).toNat * s.lvFld (CAM_GEOM n) 16 13
          pitch := (s.lv (CAM_FPITCH n)).toNat, w := s.lvFld (CAM_GEOM n) 0 13, h := s.lvFld (CAM_GEOM n) 16 13
          dt := s.lvFld (CAM_CTL n) 8 6, fill := s.lvFld (CAM_FILL n) 0 24, lines := 0, flags := 0
          fseq := (s.rg (CAM_FSEQ n) + 1).toNat, beat := s.beatNo, rtc := s.rtcWord })) ∧
    (∀ k, s.freeBuf n = some k → s.bufState n k = 0 ∧ ∀ j, j < k → s.bufState n j ≠ 0) ∧
    (∀ f, s.camOn n = true → c.cur = some f → f.buf < 8 → s.camVc n vc = true → good → Ends (.cameraFrameStart x vc err) s (fun u =>
      u.bit CAM_EVT (1 + n) = true ∧ u.bit CAM_EVT (11 + n) = true ∧ u.bit (CAM_LAST n) 11 = true ∧ u.fld (CAM_LAST n) 0 3 = f.buf ∧
      (s.lvBit (CAM_CTL n) 0 = false → (u.cam n).cur = none ∧ u.rg (CAM_FSEQ n) = s.rg (CAM_FSEQ n)))) ∧
    (hears → (err = 1 ∨ err = 3) →
      failed (.cameraFrameStart x vc err) ∧ failed (.cameraLine x vc dt px err) ∧ failed (.cameraFrameEnd x vc err)) ∧
    (¬hears → exec (.cameraFrameStart x vc err) s = .next s ∧ exec (.cameraLine x vc dt px err) s = .next s ∧
      exec (.cameraFrameEnd x vc err) s = .next s) ∧
    (good → s.camVc n vc = false → exec (.cameraFrameStart x vc err) s = .next s ∧ exec (.cameraFrameEnd x vc err) s = .next s) ∧
    (good → c.cur = none → exec (.cameraFrameEnd x vc err) s = .next s) ∧
    (∀ f, line f → f.lines < f.h → px.length = f.w → Ends (.cameraLine x vc dt px 0) s (fun u =>
      u.mem = stored s f ∧ (u.cam n).cur = some { f with lines := f.lines + 1 })) ∧
    (∀ f, line f → f.lines < f.h → px.length < f.w → f.flags = 0 → Ends (.cameraLine x vc dt px 0) s (fun u =>
      (u.cam n).cur = some { f with lines := f.lines + 1, flags := 1 } ∧ u.bit CAM_EVT (3 + n) = true ∧
      u.rg (CAM_SHORTCNT n) = satInc (s.rg (CAM_SHORTCNT n)) 1 ∧ u.mem = stored ((s.count (CAM_SHORTCNT n) 1).camEvt (3 + n)) f)) ∧
    (∀ f, line f → f.lines < f.h → f.w < px.length → f.flags = 0 → Ends (.cameraLine x vc dt px 0) s (fun u =>
      (u.cam n).cur = some { f with lines := f.lines + 1, flags := 2 } ∧ u.bit CAM_EVT (5 + n) = true ∧
      u.rg (CAM_LONGCNT n) = satInc (s.rg (CAM_LONGCNT n)) 1 ∧ u.mem = stored ((s.count (CAM_LONGCNT n) 1).camEvt (5 + n)) f)) ∧
    (∀ f, line f → f.h ≤ f.lines → f.flags = 0 → Ends (.cameraLine x vc dt px 0) s (fun u =>
      (u.cam n).cur = some { f with lines := f.lines + 1, flags := 2 } ∧ u.bit CAM_EVT (5 + n) = true ∧
      u.rg (CAM_LONGCNT n) = satInc (s.rg (CAM_LONGCNT n)) 1 ∧ u.mem = s.mem)) ∧
    (∀ f, line f → f.lines < f.h → px.length = f.w → f.flags = 0 → Ends (.cameraLine x vc dt px 2) s (fun u =>
      (u.retired (0x814 + n) = false → (u.cam n).cur = some { f with lines := f.lines + 1, flags := 4 }) ∧ u.rg (CAM_PERRCNT n) = satInc (s.rg (CAM_PERRCNT n)) 1 ∧
      u.bit CAM_EVT (11 + n) = true ∧ u.mem = stored s f)) ∧
    (∀ f, s.camOn n = true → c.cur = some f → ¬own f.dt → good → drops) ∧
    (on → c.cur = none → good →
      (¬own (s.lvFld (CAM_CTL n) 8 6) → drops) ∧
      (own (s.lvFld (CAM_CTL n) 8 6) → err = 0 → exec (.cameraLine x vc dt px err) s = .next s) ∧
      (own (s.lvFld (CAM_CTL n) 8 6) → err = 2 → failed (.cameraLine x vc dt px err))) ∧
    (∀ f, s.camOn n = true → c.cur = some f → s.camVc n vc = true → f.h ≤ f.lines → f.buf < 8 → good →
      Ends (.cameraFrameEnd x vc err) s (fun u =>
        (u.cam n).cur = none ∧ u.bit CAM_EVT (1 + n) = true ∧ u.bufHolds n f.buf = s.camHolds n f ∧ u.mem = s.mem ∧
        u.bufState n f.buf = (if s.camHolds n f = 0 then 0 else 2) ∧ u.rg (CAM_LASTSEQ n) = BitVec.ofNat 32 f.fseq ∧
        (s.camHolds n f % 2 = 1 → u.recorder.queue = s.recorder.queue ++ [{ input := n, frame := f, ended := s.beatNo }]))) ∧
    (∀ f, s.camOn n = true → c.cur = some f → s.camVc n vc = true → f.lines < f.h → f.flags = 0 → f.buf < 8 → good →
      Ends (.cameraFrameEnd x vc err) s (fun u => (u.cam n).cur = none ∧ u.bit CAM_EVT (1 + n) = true ∧ u.bit CAM_EVT (3 + n) = true ∧
        u.rg (CAM_SHORTCNT n) = satInc (s.rg (CAM_SHORTCNT n)) 1 ∧ u.bit (CAM_LAST n) 8 = true ∧
        (u.bufHolds n f.buf).testBit 1 = false)) ∧
    (rel → inside → (s.bufHolds n b).testBit 2 = true → Ends (.camRel i x v) s (fun u => (u.bufHolds n b).testBit 2 = false ∧ u.mem = s.mem ∧
      (s.bufHolds n b = 4 → s.bufState n b = 2 → u.bufState n b = 0) ∧ SameRegsBut s u [CAM_BHOLD n, CAM_BSTAT n, CAM_CMDST])) ∧
    (rel → inside → (s.bufHolds n b).testBit 2 = false → exec (.camRel i x v) s = .next (s.reject camPort ST_STATE)) ∧
    (rel → ¬inside → exec (.camRel i x v) s = .next (s.reject camPort ST_ARG)) ∧
    (s.lvBit (CAM_FS n) 0 = true → s.bit SYS_CLKEN 3 = true → Ends (.fsPulse x) s (fun u =>
      (u.cam n).fs = some (s.lvFld (CAM_FS n) 2 14, s.lvFld (CAM_FS n) 16 16) ∧ u.mem = s.mem)) ∧
    ((s.lvBit (CAM_FS n) 0 = false ∨ s.bit SYS_CLKEN 3 = false) → exec (.fsPulse x) s = .next s)

/-- In a state where the fabric serves the write: REC START from OFF opens a segment and from HALT retries the failed unit, STOP lets the recorder end with its index, settings and tables are written where their state allows (a segment has at least 64 blocks), and REC_MARK queues up to eight markers. Encoding starts with the oldest frame; a stream that fits the ring becomes a unit, one past REC_JMAX is dropped and counted, a failed read or write halts. A written unit leaves the queue, enters the index, binds the markers of its input and is counted; a bound marker is offered to the Ledger. A command's success moves the unit, the segment or the STOP on; a failure is counted, repeated within EMMC_RETRY where it is one of a block transfer, or halts. ISSUE and TUNE start a command of firmware as soon as the recorder's has ended, ABORT ends repetition, HWRESET changes nothing else; in REQUAL only ISSUE from G0 is served. The end posts the result, the response, the data, and for TUNE the middle of a longest run of phases that passed. -/
def Obligations.RecorderAndEmmc : Prop :=
  ∀ (s : State) (i : Initiator) (r : Fin 7) (k : Fin 6) (e : Fin 64) (v r0 r1 r2 r3 : Word) (res : Fin 6) (data : List Byte) (ph : BitVec 64),
    let q := s.recorder
    let st := s.recState
    let no := fun (j : Instr) (code : Nat) => exec j s = .next (s.reject recPort code)
    let noE := fun (j : Instr) (code : Nat) => exec j s = .next (s.reject emmcPort code)
    let stored := fun (a : Nat) (row : RegRow) => ((((s.rg a &&& ~~~(BitVec.ofNat 32 row.rw)) ||| (v &&& BitVec.ofNat 32 row.rw)) &&&
      ~~~(v &&& BitVec.ofNat 32 row.w1c)) ||| (v &&& BitVec.ofNat 32 row.w1s))
    let cfg := recConfigReg r.val
    let tab := recTableReg k.val e.val
    let x := fieldOf v 0 1
    let mark := s.serves i REC_MARK v = true ∧ st = 1 ∧ s.lvBit REC_CFG x = true
    let requal := s.chanState 0x824 = 3
    let cmd := fun (w : Word) => s.serves i EMMC_CMD w = true ∧ ¬requal
    let runs := !(q.wr.any (fun w => w.active))
    let sound := s.retired 0x824 = false
    let tested := fun (n : Nat) => n < s.fld EMMC_RETRY 0 3 ∧ 2 ≤ res.val ∧ res.val ≤ 4
    let quiet := st = 0 ∧ q.wr = none
    let n := s.emmcBytes
    let buf := (s.rg EMMC_BUF).toNat
    let ends := fun (u : State) (code : Nat) => u.emmcBusy = false ∧ u.fld EMMC_STAT 4 4 = code ∧ u.bit EMMC_EVT 0 = true ∧ u.emmc.fw = none
    let done := Instr.emmcDone res r0 r1 r2 r3 data ph
    (s.serves i REC_CTRL 1 = true → st = 0 → s.recBad = false → Ends (.recStart i) s (fun u => u.recState = 1 ∧ u.rg REC_SEGPOS = 1 ∧
      u.recorder.entries = [] ∧ u.recorder.opos = 0 ∧ u.recorder.stopping = false ∧ u.mem = s.mem)) ∧
    (s.serves i REC_CTRL 1 = true → st = 1 → no (.recStart i) ST_STATE) ∧
    (s.serves i REC_CTRL 1 = true → st ≠ 1 → s.recBad = true → no (.recStart i) ST_ARG) ∧
    (s.serves i REC_CTRL 1 = true → st = 2 → s.recBad = false → q.units = [] → Ends (.recStart i) s (fun u => u.recState = 1 ∧
      u.fld REC_STAT 4 2 = 0 ∧ u.recorder.stopping = false ∧ u.mem = s.mem)) ∧
    (∀ z l, s.serves i REC_CTRL 1 = true → st = 2 → s.recBad = false → q.units = z :: l → Ends (.recStart i) s (fun u =>
      u.recorder.units = { z with stage := if z.stage = 1 then 0 else z.stage } :: l ∧ u.recorder.stopping = false)) ∧
    (s.serves i REC_CTRL 2 = true → (st = 1 ∨ st = 2) → Ends (.recStop i) s (fun u => u.recorder.stopping = true ∧ u.recState = st ∧
      u.mem = s.mem ∧ (q.wr = none → q.units = [] → ∃ a, u.recorder.wr = some { what := 2, tries := 0, active := a }))) ∧
    (s.serves i REC_CTRL 2 = true → st = 0 → no (.recStop i) ST_STATE) ∧
    (∀ row y z, s.serves i cfg v = true → st = 0 → (cfg ≠ REC_SEGBLK ∨ 64 ≤ fieldOf v 0 16) → regAt cfg = some (row, y, z) → Ends (.recConfigWrite i r v) s (fun u =>
      u.rg cfg = stored cfg row ∧ SameRegsBut s u [cfg, REC_CMDST] ∧ u.mem = s.mem)) ∧
    (s.serves i cfg v = true → st ≠ 0 → no (.recConfigWrite i r v) ST_STATE) ∧
    (s.serves i cfg v = true → st = 0 → cfg = REC_SEGBLK → fieldOf v 0 16 < 64 → no (.recConfigWrite i r v) ST_ARG) ∧
    (∀ row y z, s.serves i tab v = true → st ≠ 1 → regAt tab = some (row, y, z) → Ends (.recTableWrite i k e v) s (fun u =>
      u.rg tab = stored tab row ∧ SameRegsBut s u [tab, REC_CMDST] ∧ u.mem = s.mem)) ∧
    (s.serves i tab v = true → st = 1 → no (.recTableWrite i k e v) ST_STATE) ∧
    (mark → q.markers.length < 8 → Ends (.recMark i v) s (fun u =>
      u.recorder.markers = q.markers ++ [{ input := x, reason := fieldOf v 16 16, tag := s.rg REC_MTAG, bound := none }] ∧
      u.fld REC_MQLEN 0 4 = q.markers.length + 1 ∧ u.mem = s.mem)) ∧
    (mark → 8 ≤ q.markers.length → Ends (.recMark i v) s (fun u => u.recorder = q ∧ u.fld REC_CMDST 0 4 = 1 ∧ u.bit REC_EVT 0 = true)) ∧
    (s.serves i REC_MARK v = true → st ≠ 1 → no (.recMark i v) ST_STATE) ∧
    (s.serves i REC_MARK v = true → st = 1 → s.lvBit REC_CFG x = false → no (.recMark i v) ST_ARG) ∧
    (∀ f l, q.queue = f :: l → q.enc = none → st = 1 → q.stopping = false → Ends .recEncodeStart s (fun u =>
      u.recorder.queue = l ∧ u.recorder.enc = some (f, s.lv REC_CFG) ∧ u.mem = s.mem)) ∧
    ((q.queue = [] ∨ q.enc ≠ none ∨ st ≠ 1 ∨ q.stopping = true) → exec .recEncodeStart s = .next s) ∧
    ((q.enc = none ∨ st ≠ 1) → exec .recEncodeDone s = .next s) ∧
    (∀ f c rows t, q.enc = some (f, c) → st = 1 → s.frameRows f.frame 0 f.frame.h = (rows, none, t) →
      let l : List Byte := ((t.recJpeg f.frame c).stream rows).map (fun n => BitVec.ofNat 8 n)
      let used := t.recorder.units.foldl (fun n u => n + u.len) 0
      (t.fld REC_JMAX 0 24 < l.length → Ends .recEncodeDone s (fun u => u.recorder.enc = none ∧ u.bit REC_EVT 3 = true ∧
        u.rg REC_OVSZCNT = satInc (t.rg REC_OVSZCNT) 1 ∧ u.mem = t.mem)) ∧
      (l.length ≤ t.fld REC_JMAX 0 24 → t.ringBytes < used + l.length → exec .recEncodeDone s = .next s) ∧
      (∀ y, l.length ≤ t.fld REC_JMAX 0 24 → used + l.length ≤ t.ringBytes → t.ringWrite t.recorder.opos l = (none, y) →
        Ends .recEncodeDone s (fun u => u.recorder.enc = none ∧ u.recorder.units = y.recorder.units ++
          [{ held := f, start := y.recorder.opos, len := l.length, crc := crc32 (l.map (fun b => b.toNat)), stage := 0 }])) ∧
      (∀ k a y, l.length ≤ t.fld REC_JMAX 0 24 → used + l.length ≤ t.ringBytes → t.ringWrite t.recorder.opos l = (some (k, a), y) →
        Ends .recEncodeDone s (fun u => u.recState = 2 ∧ u.fld REC_STAT 4 2 = 2 ∧ u.fld REC_STAT 8 4 = k.code ∧ u.bit REC_EVT 8 = true))) ∧
    (∀ f c rows z a t, q.enc = some (f, c) → st = 1 → s.frameRows f.frame 0 f.frame.h = (rows, some (z, a), t) →
      Ends .recEncodeDone s (fun u => u.recState = 2 ∧ u.fld REC_STAT 4 2 = 2 ∧ u.fld REC_STAT 8 4 = z.code ∧ u.bit REC_EVT 8 = true)) ∧
    (∀ z l, q.units = z :: l → z.stage = 2 → Ends .unitComplete s (fun u => u.recorder.units = l ∧ u.bit REC_EVT 1 = true ∧
      u.rg REC_FRAMECNT = s.rg REC_FRAMECNT + 1 ∧
      (let f := z.held.frame
      u.recorder.entries = q.entries ++ [{ offs := s.segBlock, input := z.held.input, flags := f.flags, fseq := f.fseq, beat := f.beat }]) ∧
      u.recorder.markers = q.markers.map (fun m => if m.bound = none ∧ m.input = z.held.input then
        { m with bound := some (s.markerPayload m z s.segBlock) } else m) ∧
      u.rg REC_SEGPOS = BitVec.ofNat 32 (s.segBlock + z.blocks + (s.segUnits + 1) * 65536))) ∧
    ((∀ z l, q.units = z :: l → z.stage ≠ 2) → exec .unitComplete s = .next s) ∧
    ((∀ m, m ∈ q.markers → m.bound = none) → exec .markerOffer s = .next s) ∧
    (∀ m pay, q.markers.find? (fun m => m.bound.isSome) = some m → m.bound = some pay →
      (∀ t, s.offerRecord 3 pay = (false, t) → exec .markerOffer s = .next (t.event REC_EVT 5 453)) ∧
      (∀ t, s.offerRecord 3 pay = (true, t) → Ends .markerOffer s (fun u => u.bit REC_EVT 4 = true ∧
        u.recorder.markers = t.recorder.markers.erase m ∧ u.mem = t.mem)) ∧
      ((s.ldgState ≠ 1 ∨ s.bit PWR_STAT 4 = true) → s.offerRecord 3 pay = (false, s))) ∧
    (∀ w z l, q.wr = some w → w.active = true → w.what < 2 → q.units = z :: l → sound → Ends (.recEmmcDone 0) s (fun u =>
      u.bit EMMC_EVT 2 = true ∧ u.recorder.units = { z with stage := w.what + 1 } :: l)) ∧
    (∀ w, q.wr = some w → w.active = true → w.what = 2 → sound →
      (q.stopping = false → Ends (.recEmmcDone 0) s (fun u => u.bit EMMC_EVT 2 = true ∧ u.bit REC_EVT 6 = true ∧
        u.rg REC_SEG = s.rg REC_SEG + 1 ∧ u.rg REC_SEGPOS = 1 ∧ u.recorder.entries = [])) ∧
      (q.stopping = true → Ends (.recEmmcDone 0) s (fun u => u.bit EMMC_EVT 2 = true ∧ u.recState = 0 ∧ u.rg REC_SEG = s.rg REC_SEG + 1 ∧
        u.recorder.units = [] ∧ u.recorder.queue = [] ∧ u.recorder.stopping = false ∧
        u.rg REC_UNRECCNT = satInc (s.rg REC_UNRECCNT) q.held.length))) ∧
    (∀ w, q.wr = some w → w.active = true → sound → res ≠ 0 →
      (tested w.tries → Ends (.recEmmcDone res) s (fun u => u.rg EMMC_ERRCNT = s.rg EMMC_ERRCNT + 1 ∧
        (u.retired 0x824 = false → u.recorder.wr = some { w with tries := w.tries + 1 }))) ∧
      (¬tested w.tries → Ends (.recEmmcDone res) s (fun u => u.recState = 2 ∧ u.fld REC_STAT 4 2 = 1 ∧ u.recorder.wr = none ∧
        u.recorder.stopping = false ∧ u.rg EMMC_ERRCNT = s.rg EMMC_ERRCNT + 1))) ∧
    (∀ w, q.wr = some w → w.active = true → ¬sound → Ends (.recEmmcDone res) s (fun u => u.recState = 2 ∧ u.fld REC_STAT 4 2 = 1 ∧
      u.recorder.wr = none)) ∧
    ((∀ w, q.wr = some w → w.active = false) → exec (.recEmmcDone res) s = .next s) ∧
    (s.serves i EMMC_CMD 1 = true → (¬requal ∨ i = .g0) → s.emmcBusy = false →
      (s.emmcBadBuf = false → Ends (.emmcIssue i) s (fun u => u.emmcBusy = true ∧
        u.emmc.fw = some { op := 0, tries := 0, active := runs } ∧ SameRegsBut s u [EMMC_STAT, EMMC_CMDST] ∧ u.mem = s.mem)) ∧
      (s.emmcBadBuf = true → noE (.emmcIssue i) ST_ARG)) ∧
    (s.serves i EMMC_CMD 1 = true → (requal ∧ i ≠ .g0) → noE (.emmcIssue i) ST_STATE) ∧
    (requal → (s.serves i EMMC_CMD 2 = true → noE (.emmcAbort i) ST_STATE) ∧ (s.serves i EMMC_CMD 4 = true → noE (.emmcTune i) ST_STATE) ∧
      (s.serves i EMMC_CMD 8 = true → noE (.emmcHwreset i) ST_STATE)) ∧
    (cmd 1 → s.emmcBusy = true → noE (.emmcIssue i) ST_STATE) ∧
    (cmd 2 → s.emmcBusy = false → noE (.emmcAbort i) ST_STATE) ∧
    (∀ c, cmd 2 → s.emmcBusy = true → s.emmc.fw = some c → Ends (.emmcAbort i) s (fun u => u.emmc.fw = some { c with tries := 8 } ∧
      SameRegsBut s u [EMMC_CMDST] ∧ u.mem = s.mem)) ∧
    (cmd 4 → s.emmcBusy = false → s.emmcRbusy = false → s.fld EMMC_CFG 3 2 = 2 → Ends (.emmcTune i) s (fun u =>
      u.emmcBusy = true ∧ u.emmc.fw = some { op := 1, tries := 0, active := runs } ∧ SameRegsBut s u [EMMC_STAT, EMMC_CMDST] ∧
      u.mem = s.mem)) ∧
    (cmd 4 → (s.emmcBusy = true ∨ s.emmcRbusy = true ∨ s.fld EMMC_CFG 3 2 ≠ 2) → noE (.emmcTune i) ST_STATE) ∧
    (cmd 8 → Ends (.emmcHwreset i) s (fun u => u.emmc = s.emmc ∧ SameRegsBut s u [EMMC_CMDST] ∧ u.mem = s.mem)) ∧
    (∀ c, s.emmc.fw = some c → c.active = true → c.op = 0 → sound →
      (res = 0 → Ends done s (fun u => ends u 0 ∧
        (∀ k, k < 4 → u.rg (EMMC_RESP k) = (if s.fld EMMC_CMDW 6 3 = 0 then s.rg (EMMC_RESP k)
          else if k = 0 then r0 else if s.fld EMMC_CMDW 6 3 ≠ 3 then s.rg (EMMC_RESP k)
          else if k = 1 then r1 else if k = 2 then r2 else r3)) ∧
        ((s.emmcData = 1 ∨ s.emmcData = 2) → u.fld EMMC_STAT 16 16 = s.fld EMMC_CMDW 16 16) ∧
        (quiet → s.emmcData = 0 → u.emmc.sent = some (s.emmcIndex, (s.rg EMMC_ARG).toNat, []) ∧ u.mem = s.mem) ∧
        (quiet → s.emmcData = 1 → n ≤ data.length →
          u.mem = ((s.emmcResp r0 r1 r2 r3).writeRun .camera buf (data.take n)).2.mem) ∧
        (quiet → s.emmcData = 2 → ∀ l e t, (s.emmcResp r0 r1 r2 r3).readRun .camera buf n = (l, e, t) →
          u.emmc.sent = some (s.emmcIndex, (s.rg EMMC_ARG).toNat, l)))) ∧
      (res ≠ 0 → ¬(tested c.tries ∧ (s.emmcIndex = 17 ∨ s.emmcIndex = 18 ∨ s.emmcIndex = 24 ∨ s.emmcIndex = 25)) →
        Ends done s (fun u => ends u res.val ∧ u.bit EMMC_EVT 1 = true ∧ u.rg EMMC_ERRCNT = s.rg EMMC_ERRCNT + 1)) ∧
      (tested c.tries → (s.emmcIndex = 17 ∨ s.emmcIndex = 18 ∨ s.emmcIndex = 24 ∨ s.emmcIndex = 25) → Ends done s (fun u =>
        u.emmc.fw = some { c with tries := c.tries + 1 } ∧ u.emmcBusy = s.emmcBusy ∧ u.rg EMMC_ERRCNT = s.rg EMMC_ERRCNT + 1))) ∧
    (∀ c, s.emmc.fw = some c → c.active = true → c.op = 1 → sound →
      (ph = 0 → Ends done s (fun u => ends u 7 ∧ u.bit EMMC_EVT 1 = true)) ∧
      (ph ≠ 0 → Ends done s (fun u => ends u 0 ∧ ∃ a m, 0 < m ∧ a + m ≤ 64 ∧ (∀ k, k < m → ph.getLsbD (a + k) = true) ∧
        (∀ b l, b + l ≤ 64 → (∀ k, k < l → ph.getLsbD (b + k) = true) → l ≤ m) ∧
        (u.rg EMMC_TAP = BitVec.ofNat 32 (a + (m - 1) / 2) ∨ u.rg EMMC_TAP = BitVec.ofNat 32 (a + m / 2))))) ∧
    (∀ c, s.emmc.fw = some c → c.active = true → ¬sound → Ends done s (fun u => ends u 6 ∧ u.bit EMMC_EVT 1 = true)) ∧
    ((∀ c, s.emmc.fw = some c → c.active = false) → exec done s = .next s)

/-- In a state where the fabric serves the write: LOAD and UNLOAD outside RUN discard the model and both banks and set BUSY, LOADSCHED of a bank that is not live makes it invalid and sets BUSY, TEST runs on an engine in REQUAL; each is else rejected with STATE, or ARG for a wrong address, and changes nothing else. At the end of a LOAD the model of a blob in which nothing is wrong is in place, its sections in the engines' and the router's memories, and the array READY, or RUN where it is enabled; of a faulty one the cause and its index stand in XPA_CMDST and nothing of it takes effect. A table without fault makes its bank valid; a faulty one changes no bank. A TEST leaves its result in XPA_TESTST and changes no memory but the engine's. Without a command running the end changes nothing. -/
def Obligations.ExpertCommands : Prop :=
  ∀ (s : State) (i : Initiator) (b : Fin 2) (n : Fin 16) (pass : Bool),
    let idle := s.bit XPA_STAT 8 = false
    let w := fun (op arg : Nat) => s.serves i XPA_CMD (xpaWord op arg) = true
    let no := fun (j : Instr) (code : Nat) => exec j s = .next (s.reject xpaPort code)
    let empty := fun (u : State) => u.xpaState = 0 ∧ u.xpa.layers = [] ∧ u.xpa.banks = [] ∧ u.bankValid 0 = false ∧ u.bankValid 1 = false
    let running := fun (u : State) (op arg : Nat) => u.bit XPA_STAT 8 = true ∧ u.xpa.cmd = some (op, arg) ∧ u.mem = s.mem
    let live := s.xpaState = 2 ∧ s.liveBank = b.val
    let armed := s.domain11Armed = true ∧ s.fld XPA_SCHSEL 0 1 = b.val
    let ended := fun (u : State) (v : Nat) => u.rg XPA_CMDST = BitVec.ofNat 32 v ∧ u.bit XPA_STAT 8 = false ∧ u.bit XPA_EVT 1 = true ∧ u.xpa.cmd = none
    (w 1 0 → idle → s.xpaState ≠ 2 → blobPlace (s.rg XPA_BLOB).toNat true = true → Ends (.xpaLoad i) s (fun u => empty u ∧ running u 1 0 ∧
      SameRegsBut s u [XPA_STAT, XPA_CMDST, XPA_ENGSTAT])) ∧
    (w 1 0 → (s.bit XPA_STAT 8 = true ∨ s.xpaState = 2) → no (.xpaLoad i) ST_STATE) ∧
    (w 1 0 → idle → s.xpaState ≠ 2 → blobPlace (s.rg XPA_BLOB).toNat true = false → no (.xpaLoad i) ST_ARG) ∧
    (w 2 b.val → idle → s.xpaState ≠ 0 → ¬live → ¬armed → blobPlace (s.rg XPA_SCHADDR).toNat false = true → Ends (.xpaLoadsched i b) s (fun u =>
      u.bankValid b.val = false ∧ running u 2 b.val ∧ SameRegsBut s u [XPA_STAT, XPA_CMDST])) ∧
    (w 2 b.val → (s.bit XPA_STAT 8 = true ∨ s.xpaState = 0 ∨ live ∨ armed) → no (.xpaLoadsched i b) ST_STATE) ∧
    (w 2 b.val → idle → s.xpaState ≠ 0 → ¬live → ¬armed → blobPlace (s.rg XPA_SCHADDR).toNat false = false → no (.xpaLoadsched i b) ST_ARG) ∧
    (w 3 n.val → idle → s.chanState (0x800 + n.val) = 3 → Ends (.xpaTest i n) s (fun u => u.rg XPA_TESTST = BitVec.ofNat 32 (16 * n.val) ∧
      running u 3 n.val ∧ SameRegsBut s u [XPA_STAT, XPA_CMDST, XPA_TESTST])) ∧
    (w 3 n.val → (s.bit XPA_STAT 8 = true ∨ s.chanState (0x800 + n.val) ≠ 3) → no (.xpaTest i n) ST_STATE) ∧
    (w 4 0 → idle → s.xpaState ≠ 2 → Ends (.xpaUnload i) s (fun u => empty u ∧ running u 4 0 ∧ SameRegsBut s u [XPA_STAT, XPA_CMDST, XPA_ENGSTAT])) ∧
    (w 4 0 → (s.bit XPA_STAT 8 = true ∨ s.xpaState = 2) → no (.xpaUnload i) ST_STATE) ∧
    (s.xpa.cmd = none → exec (.xpaCmdDone pass) s = .next s) ∧
    (∀ a l t, s.xpa.cmd = some (1, a) → s.readBlob (s.rg XPA_BLOB).toNat = ((l, none), t) → t.blobBad (blobOf l) = none →
      Ends (.xpaCmdDone pass) s (fun u => ended u 0 ∧ u.xpa.layers = (blobOf l).layers ∧ u.xpa.sections = (blobOf l).sections ∧ u.xpa.bare = [] ∧
        u.xpaState = (if t.lvBit XPA_CTRL 0 then 2 else 1) ∧
        let placed := (blobOf l).sections.foldl (fun v c => v.placeSection l c (sEngine c)) t
        u.mem = placed.mem ∧ u.xpa.rmem = placed.xpa.rmem)) ∧
    (∀ a l t c k, s.xpa.cmd = some (1, a) →
      (s.readBlob (s.rg XPA_BLOB).toNat = ((l, some (c, k)), t) ∨
        s.readBlob (s.rg XPA_BLOB).toNat = ((l, none), t) ∧ t.blobBad (blobOf l) = some (c, k)) →
      Ends (.xpaCmdDone pass) s (fun u => ended u (4 + 256 * c + 65536 * k) ∧ u.xpa.layers = t.xpa.layers ∧ u.mem = t.mem ∧ u.xpaState = t.xpaState)) ∧
    (∀ k t c e, s.xpa.cmd = some (2, b.val) → s.readTable (s.rg XPA_SCHADDR).toNat = ((k, some (c, e)), t) →
      Ends (.xpaCmdDone pass) s (fun u => ended u (4 + 256 * c + 65536 * e) ∧ u.xpa.banks = t.xpa.banks ∧ u.mem = t.mem)) ∧
    (∀ k t, s.xpa.cmd = some (2, b.val) → s.readTable (s.rg XPA_SCHADDR).toNat = ((k, none), t) →
      (t.tableBad k = none → Ends (.xpaCmdDone pass) s (fun u => ended u 0 ∧ u.bankValid b.val = true ∧ u.xpa.bank b.val = some k ∧ u.mem = t.mem)) ∧
      (∀ c e, t.tableBad k = some (c, e) → Ends (.xpaCmdDone pass) s (fun u => ended u (4 + 256 * c + 65536 * e) ∧ u.xpa.banks = t.xpa.banks))) ∧
    (s.xpa.cmd = some (3, n.val) → Ends (.xpaCmdDone pass) s (fun u => ended u 0 ∧
      u.rg XPA_TESTST = BitVec.ofNat 32 (16 * n.val + (if pass then 1 else 2)) ∧
      SameBytesBut s u (0x20000000 + n.val * 0x20000) 0x20000)) ∧
    (∀ a, s.xpa.cmd = some (4, a) → Ends (.xpaCmdDone pass) s (fun u => ended u 0 ∧ u.xpa.layers = s.xpa.layers ∧ u.mem = s.mem))

/-- A step that is not due changes nothing. A due ROUTE routes its layer's tokens in order: each goes to the expert of the largest logit, or with two choices to the two largest with gates by their distance; an EMBED layer's token is cut from the frame. A choice goes to its expert's queue or device while that is up and within its limit, else to the fallback, else it is dropped and counted. A due SLOT begins; on an engine that is down it drops its queue; an error of the engine drops its token and is reported. A slot's end serves the first tokens of its queue: each result stands in the result buffer or waits for its sender; tokens left are cut and counted, or dropped on an engine that is down. A due GATHER drops missing remote results and stores each token as the gated sum, scaled, rounded and clamped. The ends of steps release the frame and post the output beat. A remote token is queued once, within its limit, for this beat's slot, or counted and discarded; a result that a waiting choice expects is stored, and another is discarded. A spare copy ends in place or sets RLFAIL. -/
def Obligations.ExpertArray : Prop :=
  ∀ (s : State) (n : Fin 256) (p : Fin 2) (f : Llp) (err : Option (Fin 256 × Bool)) (served : Fin 257),
    let due := fun (op : Nat) => s.stepDue n.val op
    let r := s.receive p.val (frameOf f 8)
    let taken := fun (kind : Nat) => r.deliver = true ∧ fieldAt f.payload 0 1 = kind ∧ r.st.observer = false
    let t := r.st
    let k := fieldAt f.payload 1 1
    let e := fieldAt f.payload 2 1
    let c := fieldAt f.payload 3 1
    let m := fieldAt f.payload 8 2
    let l := t.xpa.layer k
    let key := (f.src.toNat, k, e, c, m)
    let data := fun (len : Nat) => ((f.payload.drop 0x10).take len).map (fun x => x.toInt)
    let fits := t.xpaState = 2 ∧ lKind l = 3 ∧ placedOn l e t.ownId = true ∧ fieldAt f.payload 10 2 = lDin l ∧
      fieldAt f.payload 4 4 = t.beatNo % 2 ^ 32 ∧ key ∉ t.xpa.seen ∧ ∃ j y, t.slotOf k e = some (j, y) ∧ j ∉ t.xpa.began
    let waits := t.xpa.choices.find? (fun h => h.layer == k && h.expert == e && h.choice == c && h.tok == m &&
      h.beat % 2 ^ 32 == fieldAt f.payload 4 4 && h.remote && !h.got && lDev l h.expert == f.src.toNat)
    let discards := fun (j : Instr) => exec j s = .next ((t.setRg XPA_RDISC (satInc (t.rg XPA_RDISC) 1)).event XPA_EVT 5 485)
    (due 1 = none → exec (.xpaRoute n) s = .next s) ∧ (due 2 = none → exec (.xpaSlot n err) s = .next s) ∧
    (due 3 = none → exec (.xpaGather n) s = .next s) ∧
    (∀ st, due 1 = some st →
      let u := s.stepBegin n.val st
      exec (.xpaRoute n) s = .next ((List.range (lNtok (u.xpa.layer (tLayer st)))).foldl
        (fun w i => w.routeToken (tLayer st) (u.inputBeat st) i) u)) ∧
    (∀ (w z : State) (y b i : Nat) (x : List Int),
      let a := w.xpa.layer y
      let g := z.logits a x
      let c0 := bestExpert g none
      let c1 := bestExpert g (some c0)
      let d := min 255 ((g.getD c0 0 - g.getD c1 0) / (2 ^ lGsh a : Nat)).toNat
      (∀ q fr, lKind a = 1 → w.xpa.routing = some (q, fr) → w.cutToken a fr i (List.range (lDin a)) = (x, z) →
        w.routeToken y b i = z.scatter y b i 0 0 256 x) ∧
      (lKind a ≠ 1 → w.readElems (w.tokenAddr y (b % 2) i) (lDin a) = (x, z) →
        (lTopk a = 1 → w.routeToken y b i = z.scatter y b i 0 c0 256 x) ∧
        (lTopk a = 2 → w.routeToken y b i = (z.scatter y b i 0 c0 (128 + d / 2) x).scatter y b i 1 c1 (256 - (128 + d / 2)) x))) ∧
    (∀ (w : State) (y b i j o gate : Nat) (x : List Int),
      let a := w.xpa.layer y
      let isOpen := fun (o : Nat) => w.expertUp y o = true ∧ w.sentTo y b o < w.expertLimit y o
      (isOpen o → w.scatter y b i j o gate x = w.sendChoice y b i j o gate x) ∧
      (¬isOpen o → isOpen (lFallback a) →
        w.scatter y b i j o gate x = (w.setRg XPA_FALLCNT (satInc (w.rg XPA_FALLCNT) 1)).sendChoice y b i j (lFallback a) gate x) ∧
      (¬isOpen o → ¬isOpen (lFallback a) → (w.scatter y b i j o gate x).rg XPA_TOKDROP = satInc (w.rg XPA_TOKDROP) 1 ∧
        (w.scatter y b i j o gate x).xpa.queue = w.xpa.queue ∧ (w.scatter y b i j o gate x).mem = w.mem) ∧
      (lDev a o = w.ownId →
        let z := (w.setXpa { w.xpa with choices := w.xpa.choices ++
          [{ layer := y, beat := b, tok := i, choice := j, expert := o, gate := gate, remote := false, got := false }] }).writeElems
            (w.entryAddr y o (w.sentTo y b o)) x
        w.sendChoice y b i j o gate x = z.setXpa { z.xpa with queue := z.xpa.queue ++
          [{ layer := y, expert := o, src := none, tok := i, choice := j, entry := w.sentTo y b o, beat := b }] }) ∧
      (lDev a o ≠ w.ownId → w.sendChoice y b i j o gate x = (w.setXpa { w.xpa with choices := w.xpa.choices ++
          [{ layer := y, beat := b, tok := i, choice := j, expert := o, gate := gate, remote := true, got := false }] }).sendFrame 8 (lDev a o) 3
            (tokenPayload 0 y o j w.beatNo i x))) ∧
    (∀ st, due 2 = some st →
      let u0 := s.stepBegin n.val st
      let q0 := u0.queueOf (tLayer st) (tExpert st)
      (u0.engineUp (tEngine st) = true →
        ((err = none ∨ ∃ j y, err = some (j, y) ∧ (q0.length ≤ j.val ∨ u0.expertPlace (tLayer st) (tExpert st) = none)) →
          exec (.xpaSlot n err) s = .next u0) ∧
        (∀ j y q x a b, err = some (j, y) → q0[j.val]? = some q → u0.expertPlace q.layer q.expert = some (x, a, b) →
          (y = true → exec (.xpaSlot n err) s = .next (((u0.unqueue q).dropChoice).faultReport (0x800 + x)
            (BitVec.ofNat 32 (2 + 16 * q.expert + 256 * q.layer)))) ∧
          (y = false → Ends (.xpaSlot n err) s (fun u => u.xpa.queue = u0.xpa.queue.erase q ∧ u.mem = u0.mem ∧
            u.rg XPA_TOKDROP = satInc (u0.rg XPA_TOKDROP) 1 ∧ u.rg MEM_UECNT = satInc (u0.rg MEM_UECNT) 1 ∧
            ∃ v, v < max 1 (b / 8) ∧ u.eccAt (a + 8 * v) = some .uncorrectable)))) ∧
      (u0.engineUp (tEngine st) = false → Ends (.xpaSlot n err) s (fun u => u.queueOf (tLayer st) (tExpert st) = [] ∧
        n.val ∈ u.xpa.ended ∧ u.xpa.running = s.xpa.running ∧ u.rg XPA_TOKDROP = satInc (u0.rg XPA_TOKDROP) q0.length ∧ u.mem = u0.mem))) ∧
    (s.xpa.running.find? (fun a => a.step == n.val && tOp a.what == 2) = none → exec (.xpaSlotEnd n served) s = .next s) ∧
    (∀ a, s.xpa.running.find? (fun a => a.step == n.val && tOp a.what == 2) = some a →
      let w := ((s.queueOf (tLayer a.what) (tExpert a.what)).take served.val).foldl State.serve s
      let rest := w.queueOf (tLayer a.what) (tExpert a.what)
      (rest = [] → exec (.xpaSlotEnd n served) s = .next (w.stepEnd a)) ∧
      (rest ≠ [] → Ends (.xpaSlotEnd n served) s (fun u => u.queueOf (tLayer a.what) (tExpert a.what) = [] ∧ u.mem = w.mem ∧
        u.xpa.running = w.xpa.running.erase a ∧ (a.old = false → n.val ∈ u.xpa.ended) ∧
        u.rg XPA_TOKDROP = satInc (w.rg XPA_TOKDROP) rest.length ∧
        (w.engineUp (tEngine a.what) = true → u.rg XPA_SLOTCUT = satInc (w.rg XPA_SLOTCUT) rest.length ∧ u.bit XPA_EVT 7 = true)))) ∧
    (∀ (w : State) (q : XpaTok),
      let drop := (w.unqueue q).dropChoice
      ((w.expertPlace q.layer q.expert = none ∨ w.expertUp q.layer q.expert = false) → w.serve q = drop) ∧
      (∀ x a b z, w.expertPlace q.layer q.expert = some (x, a, b) → w.expertUp q.layer q.expert = true →
        (w.engineRead x a b q.expert q.layer = (false, z) → w.serve q = (z.unqueue q).dropChoice) ∧
        (∀ v h, w.engineRead x a b q.expert q.layer = (true, z) →
          z.readElems (z.entryAddr q.layer q.expert q.entry) (lDin (w.xpa.layer q.layer)) = (v, h) →
          let o := h.runExpert a (w.xpa.layer q.layer) v
          (q.src = none → w.serve q = ((h.unqueue q).writeElems ((h.unqueue q).resultAddr q.layer (q.beat % 2) q.tok q.choice) o).gotResult
            q.layer q.beat q.tok q.choice) ∧
          (∀ d, q.src = some d → w.serve q = (h.unqueue q).setXpa { (h.unqueue q).xpa with
            back := (h.unqueue q).xpa.back ++ [(d, tokenPayload 1 q.layer q.expert q.choice q.beat q.tok o)] })))) ∧
    (∀ st, due 3 = some st →
      let u0 := s.stepBegin n.val st
      let b := u0.inputBeat st
      let missing := u0.xpa.choices.filter (fun h => h.layer == tLayer st && h.beat == b && h.remote && !h.got)
      let w := missing.foldl (fun v _ => v.dropChoice) u0
      let z := (List.range (lNtok (w.xpa.layer (tLayer st)))).foldl (fun v i => v.gatherOne (tLayer st) b i) w
      w.rg XPA_TOKDROP = satInc (u0.rg XPA_TOKDROP) missing.length ∧
      exec (.xpaGather n) s = .next (z.setXpa { z.xpa with choices := z.xpa.choices.filter (fun h => !(h.layer == tLayer st && h.beat == b)) })) ∧
    (∀ (x y0 y1 : List Int) (g0 g1 j len : Nat), j < len →
      let near := fun (v : Int) => (v + 128) / 256
      let sat := fun (v : Int) => max (-128) (min 127 v)
      (gatherToken true x [] len)[j]? = some (sat (x.getD j 0)) ∧ (gatherToken false x [] len)[j]? = some 0 ∧
      (gatherToken false x [(g0, y0)] len)[j]? = some (sat (near (g0 * y0.getD j 0))) ∧
      (gatherToken true x [(g0, y0), (g1, y1)] len)[j]? = some (sat (x.getD j 0 + near (g0 * y0.getD j 0 + g1 * y1.getD j 0)))) ∧
    (s.runningStep (fun u => tOp u == 1) = none → exec .xpaRouteEnd s = .next s) ∧
    (∀ j, s.runningStep (fun u => tOp u == 1) = some j →
      (s.xpa.routing = none ∨ lKind (s.xpa.layer (tLayer j.what)) ≠ 1 → exec .xpaRouteEnd s = .next (s.stepEnd j)) ∧
      (∀ x fr, s.xpa.routing = some (x, fr) → lKind (s.xpa.layer (tLayer j.what)) = 1 → fr.buf < 8 → Ends .xpaRouteEnd s (fun u =>
        u.xpa.routing = none ∧ (u.bufHolds x fr.buf).testBit 1 = false ∧ u.xpa.running = s.xpa.running.erase j ∧ u.mem = s.mem))) ∧
    (s.runningStep (fun u => tOp u == 3) = none → exec .xpaGatherEnd s = .next s) ∧
    (∀ j, s.runningStep (fun u => tOp u == 3) = some j →
      (s.xpa.top = some (tLayer j.what) → Ends .xpaGatherEnd s (fun u => u.rg64 XPA_OUTBEAT_LO = j.input % 2 ^ 64 ∧ u.bit XPA_EVT 3 = true ∧
        u.xpa.running = s.xpa.running.erase j ∧ (j.old = false → j.step ∈ u.xpa.ended) ∧ u.mem = s.mem)) ∧
      (s.xpa.top ≠ some (tLayer j.what) → exec .xpaGatherEnd s = .next (s.stepEnd j))) ∧
    (¬taken 0 → exec (.tokenRx p f) s = .next t) ∧ (¬taken 1 → exec (.resultRx p f) s = .next t) ∧
    (taken 0 → ¬fits → discards (.tokenRx p f)) ∧
    (taken 0 → fits → t.expertLimit k e ≤ (t.queueOf k e).length → Ends (.tokenRx p f) s (fun u => u.rg XPA_QFULL = satInc (t.rg XPA_QFULL) 1 ∧
      u.bit XPA_EVT 10 = true ∧ u.xpa = t.xpa ∧ u.mem = t.mem)) ∧
    (taken 0 → fits → (t.queueOf k e).length < t.expertLimit k e →
      let z := t.writeElems (t.entryAddr k e (t.queueOf k e).length) (data (lDin l))
      exec (.tokenRx p f) s = .next (z.setXpa { z.xpa with
        seen := key :: z.xpa.seen, queue := z.xpa.queue ++ [{ layer := k, expert := e, src := some f.src.toNat, tok := m, choice := c,
                                                               entry := (t.queueOf k e).length, beat := z.beatNo }] })) ∧
    (taken 1 → waits = none → discards (.resultRx p f)) ∧
    (∀ h, taken 1 → waits = some h →
      (fieldAt f.payload 10 2 ≠ lDout l → discards (.resultRx p f)) ∧
      (fieldAt f.payload 10 2 = lDout l →
        exec (.resultRx p f) s = .next ((t.writeElems (t.resultAddr k (h.beat % 2) m c) (data (lDout l))).gotResult k h.beat m c))) ∧
    (s.xpa.copying = [] → exec .xpaRemapDone s = .next s) ∧
    (∀ a b rest, s.xpa.copying = (a, b) :: rest → a < 16 →
      let s0 := (s.setXpa { s.xpa with copying := rest }).setBit XPA_STAT 9 (!rest.isEmpty)
      (∀ y z u0, s0.readBlob s0.xpa.blob = ((y, some z), u0) → Ends .xpaRemapDone s (fun u => u.bit XPA_STAT 11 = true ∧ u.bit XPA_EVT 9 = true ∧
        u.xpa = u0.xpa)) ∧
      (∀ y u0, s0.readBlob s0.xpa.blob = ((y, none), u0) → Ends .xpaRemapDone s (fun u => (a, b) ∈ u.xpa.copied ∧ b ∉ u.xpa.bare ∧
        u.bit XPA_ENGSTAT (16 + a) = true ∧ u.bit XPA_EVT 9 = true)))

/-- In a state where the fabric serves the write: START, AT and STOP of a timer, with its odd half where it is the even half of a pair, and the group commands, act where every timer's state allows and are else rejected with STATE, and so is any of an odd half. A stuck timer starts from its home value; OUTMODE 4 sets the output. An armed timer that the edge reached starts. A tick, of the prescaler or a COUNT action, moves COUNT by one, or at a period end reloads it and sets OVF, or sticks; the even half's period end is the tick of its odd half, and a pair sticks where both end. A step onto TMR_CC, if that is not above TOP, matches, and OUTMODE 1 to 4 act on the output. A qualified edge counts in the prescaler or latches COUNT, and sets the overcapture flag where the last was unread. A due action acts once: STOP prevails over START and RESET over COUNT; one that is not due changes nothing. -/
def Obligations.Timers : Prop :=
  ∀ (s : State) (i : Initiator) (n : Fin 16) (x : Fin 2) (v : Word) (up : Bool),
    let a := n.val
    let st := TMR_STAT a
    let both := s.tmrHalves a
    let parts := both.flatMap (fun m => [TMR_STAT m, TMR_COUNT m, TMR_OUT m])
    let stats := both.map (fun m => TMR_STAT m)
    let halted := s.tmrRun a = false ∧ s.tmrArmed a = false
    let odd := s.tmrOdd a = true
    let no := fun (j : Instr) => exec j s = .next (s.reject tmrPort ST_STATE)
    let due := fun (k : Nat) => s.actDue k a = true
    let clock := s.bit SYS_CLKEN 6 = true
    let starts := fun (u : State) => ∀ m, m ∈ both → u.tmrRun m = true ∧ u.tmrArmed m = false ∧ u.bit (TMR_STAT m) 2 = false ∧
      u.rg (TMR_COUNT m) = (if s.bit (TMR_STAT m) 2 then s.tmrHome m else s.rg (TMR_COUNT m)) ∧
      u.bit (TMR_OUT m) x.val = (s.lvFld (TMR_CCCFG m x.val) 1 3 == 4 || s.bit (TMR_OUT m) x.val)
    let stops := fun (u : State) => ∀ m, m ∈ both → u.tmrRun m = false ∧ u.tmrArmed m = false
    let pends := fun (u : State) (k : Nat) => s.isLevel k = false → u.pendOf k = true
    let tick := fun (j : Instr) => s.tmrRun a = true ∧ ¬odd ∧ ((j = .timerStep n ∧ clock ∧ s.lvBit (TMR_CFG a) 0 = false) ∨
      (j = .actionCount n ∧ due A_COUNT ∧ s.actDue A_RESET a = false ∧ s.lvBit (TMR_CFG a) 0 = true))
    let new := fun (m : Nat) => if s.tmrEnds m then s.tmrHome m else if s.tmrDown m then s.rg (TMR_COUNT m) - 1 else s.rg (TMR_COUNT m) + 1
    let hits := fun (m : Nat) => new m ≠ s.rg (TMR_COUNT m) ∧ s.lvBit (TMR_CCCFG m x.val) 0 = false ∧ new m = s.rg (TMR_CC m x.val) ∧
      (s.rg (TMR_CC m x.val)).toNat ≤ (s.lv (TMR_TOP m)).toNat
    let mode := fun (m : Nat) => s.lvFld (TMR_CCCFG m x.val) 1 3
    let out := fun (u : State) (m : Nat) => u.bit (TMR_OUT m) x.val
    let was := fun (m : Nat) => s.bit (TMR_OUT m) x.val
    let moves := fun (u : State) (m : Nat) => u.rg (TMR_COUNT m) = new m ∧ u.tmrRun m = s.tmrRun m ∧
      (s.tmrEnds m = true → u.bit (TMR_STAT m) 8 = true ∧ pends u (544 + 3 * m)) ∧
      (s.tmrEnds m = false → u.bit (TMR_STAT m) 8 = s.bit (TMR_STAT m) 8) ∧
      (hits m → u.bit (TMR_STAT m) (9 + x.val) = true ∧ pends u (545 + 3 * m + x.val) ∧
        (mode m = 0 → out u m = was m) ∧ (mode m = 1 → out u m = true) ∧ (mode m = 2 → out u m = false) ∧ (mode m = 3 → out u m = !was m) ∧
        (mode m = 4 → s.tmrEnds m = false → out u m = false)) ∧
      (¬hits m → u.bit (TMR_STAT m) (9 + x.val) = s.bit (TMR_STAT m) (9 + x.val) ∧
        out u m = ((mode m == 4 && s.tmrEnds m) || was m))
    let sticks := s.tmrEnds a = true ∧ (if s.tmrEven a then s.tmrEnds (a + 1) = true ∧ s.lvBit (TMR_CFG (a + 1)) 2 = true ∧ s.tmrRun (a + 1) = true
      else s.lvBit (TMR_CFG a) 2 = true)
    let carries := s.tmrEven a = true ∧ s.tmrEnds a = true ∧ s.tmrRun (a + 1) = true
    let same := fun (u : State) (m : Nat) => u.rg (TMR_STAT m) = s.rg (TMR_STAT m) ∧ u.rg (TMR_COUNT m) = s.rg (TMR_COUNT m) ∧
      u.rg (TMR_OUT m) = s.rg (TMR_OUT m)
    let on := s.lvBit (TMR_CCCFG a x.val) 0 = true ∧ s.lvBit (TMR_CCCFG a x.val) (if up then 6 else 7) = true ∧ clock
    let e := s.tmrEdges a x.val + 1
    let ps := s.lvFld (TMR_CCCFG a x.val) 20 8 + 1
    let chosen := fun (m : Nat) => bitOf v m || (m % 2 == 1 && s.tmrEven (m - 1) && bitOf v (m - 1))
    (s.tmrEven a = true → both = [a, a + 1]) ∧ (s.tmrEven a = false → both = [a]) ∧
    (s.serves i (TMR_CMD a) 1 = true → halted → ¬odd → Ends (.tmrStart i n) s (fun u => starts u ∧ (A_STOP, a) ∉ u.tmr.acts ∧
      SameRegsBut s u (TMR_CMDST :: parts) ∧ u.mem = s.mem)) ∧
    (s.serves i (TMR_CMD a) 1 = true → (¬halted ∨ odd) → no (.tmrStart i n)) ∧
    (s.serves i (TMR_CMD a) 2 = true → halted → ¬odd → Ends (.tmrAt i n) s (fun u => (∀ m, m ∈ both → u.tmrArmed m = true ∧
      u.tmrRun m = s.tmrRun m) ∧ (A_STOP, a) ∉ u.tmr.acts ∧ SameRegsBut s u (TMR_CMDST :: stats) ∧ u.mem = s.mem)) ∧
    (s.serves i (TMR_CMD a) 2 = true → (¬halted ∨ odd) → no (.tmrAt i n)) ∧
    (s.serves i (TMR_CMD a) 4 = true → ¬halted → ¬odd → Ends (.tmrStop i n) s (fun u => stops u ∧ (A_START, a) ∉ u.tmr.acts ∧
      SameRegsBut s u (TMR_CMDST :: stats) ∧ u.mem = s.mem)) ∧
    (s.serves i (TMR_CMD a) 4 = true → (halted ∨ odd) → no (.tmrStop i n)) ∧
    (s.serves i TMR_GSTART v = true → (∀ m : Fin 16, bitOf v m.val = true → s.tmrMayStart m.val = true) →
      Ends (.tmrGstart i v) s (fun u => u.mem = s.mem ∧ ∀ m : Fin 16, u.tmrRun m.val = (chosen m.val || s.tmrRun m.val) ∧
        (chosen m.val = false → same u m.val))) ∧
    (s.serves i TMR_GSTART v = true → bitOf v a = true → s.tmrMayStart a = false → no (.tmrGstart i v)) ∧
    (s.serves i TMR_GSTOP v = true → (∀ m : Fin 16, bitOf v m.val = true → s.tmrMayStop m.val = true) →
      Ends (.tmrGstop i v) s (fun u => u.mem = s.mem ∧ ∀ m : Fin 16, u.tmrRun m.val = (!chosen m.val && s.tmrRun m.val) ∧
        (chosen m.val = false → same u m.val))) ∧
    (s.serves i TMR_GSTOP v = true → bitOf v a = true → s.tmrMayStop a = false → no (.tmrGstop i v)) ∧
    (s.tmrMayStart a = true ↔ halted ∧ ¬odd) ∧ (s.tmrMayStop a = true ↔ ¬halted ∧ ¬odd) ∧
    (a ∈ s.tmr.due → s.tmrArmed a = true → ¬odd → clock → s.actDue A_STOP a = false → Ends (.tmrArmedStart n) s (fun u =>
      starts u ∧ a ∉ u.tmr.due ∧ SameRegsBut s u parts ∧ u.mem = s.mem)) ∧
    ((a ∉ s.tmr.due ∨ s.tmrArmed a = false ∨ odd ∨ ¬clock ∨ due A_STOP) → exec (.tmrArmedStart n) s = .next s) ∧
    ((odd ∨ s.lvBit (TMR_CFG a) 0 = true ∨ s.tmrRun a = false ∨ ¬clock) → exec (.timerStep n) s = .next s) ∧
    (∀ j, tick j →
      (sticks → Ends j s (fun u => u.mem = s.mem ∧ ∀ m, m ∈ both → u.rg (TMR_COUNT m) = s.rg (TMR_COUNT m) ∧ u.bit (TMR_STAT m) 8 = true ∧
        u.tmrRun m = false ∧ u.bit (TMR_STAT m) 2 = true ∧ pends u (544 + 3 * m) ∧ out u m = (mode m == 4 || was m))) ∧
      (¬sticks → Ends j s (fun u => u.mem = s.mem ∧ moves u a ∧ (carries → moves u (a + 1)) ∧
        ∀ m, m < 16 → m ≠ a → ¬(carries ∧ m = a + 1) → same u m))) ∧
    (s.serves i (TMR_CC a x.val) v = true → exec (.tmrCcWrite i n x v) s = .next (s.setRg (TMR_CC a x.val) v)) ∧
    (on → e < ps → Ends (.captureEdge n x up) s (fun u => u.tmrEdges a x.val = e ∧ u.regs = s.regs ∧ u.mem = s.mem)) ∧
    (on → ps ≤ e → Ends (.captureEdge n x up) s (fun u => u.rg (TMR_CC a x.val) = s.rg (TMR_COUNT a) ∧ u.bit st (9 + x.val) = true ∧
      u.bit st (11 + x.val) = (s.bit st (9 + x.val) || s.bit st (11 + x.val)) ∧ u.tmrEdges a x.val = 0 ∧ u.rg (TMR_COUNT a) = s.rg (TMR_COUNT a) ∧
      pends u (545 + 3 * a + x.val) ∧ u.mem = s.mem)) ∧
    (¬on → exec (.captureEdge n x up) s = .next s) ∧
    (s.actDue A_START a = false → exec (.actionStart n) s = .next s) ∧ (s.actDue A_STOP a = false → exec (.actionStop n) s = .next s) ∧
    (s.actDue A_COUNT a = false → exec (.actionCount n) s = .next s) ∧ (s.actDue A_RESET a = false → exec (.actionReset n) s = .next s) ∧
    (s.actDue A_DMA a = false → exec (.actionDma n) s = .next s) ∧
    (due A_START → s.actDue A_STOP a = false → halted → ¬odd → Ends (.actionStart n) s (fun u => starts u ∧
      (A_START, a) ∉ u.tmr.acts ∧ SameRegsBut s u parts ∧ u.mem = s.mem)) ∧
    (due A_START → (due A_STOP ∨ ¬halted ∨ odd) → exec (.actionStart n) s = .next (s.dropAct A_START a)) ∧
    (due A_STOP → ¬halted → ¬odd → Ends (.actionStop n) s (fun u => stops u ∧ (A_STOP, a) ∉ u.tmr.acts ∧ (A_START, a) ∉ u.tmr.acts ∧
      SameRegsBut s u stats ∧ u.mem = s.mem)) ∧
    (due A_STOP → (halted ∨ odd) → exec (.actionStop n) s = .next ((s.dropAct A_STOP a).dropAct A_START a)) ∧
    (due A_COUNT → (due A_RESET ∨ s.lvBit (TMR_CFG a) 0 = false ∨ odd ∨ s.tmrRun a = false) →
      exec (.actionCount n) s = .next (s.dropAct A_COUNT a)) ∧
    (due A_RESET → Ends (.actionReset n) s (fun u => u.rg (TMR_COUNT a) = s.tmrHome a ∧ u.bit st 2 = false ∧ u.tmrRun a = s.tmrRun a ∧
      (A_RESET, a) ∉ u.tmr.acts ∧ (A_COUNT, a) ∉ u.tmr.acts ∧ SameRegsBut s u [TMR_COUNT a, st] ∧ u.mem = s.mem)) ∧
    (due A_DMA → exec (.actionDma n) s = .next ((s.dropAct A_DMA a).dmaPulse (a + 1)))

/-- In a state where the fabric serves the access: ADC_CTL and ADC_SEQ are written in OFF and IDLE; a change of EN alone in SETTLE acts at once, and in RUN lets the conversion end first; START is admitted in IDLE with no unread result and clears every VALID bit; STOP is legal in RUN, FLUSH in IDLE; else STATE. A matrix start that is not admitted is counted and posted. A conversion's end stores its code with the channel and VALID and counts it as unread; the last entry returns to IDLE and posts the end, an entry after STOP ends the sequence without it. A read of ADC_DATA takes the oldest unread result, or 0. SETTLE ends in IDLE. -/
def Obligations.Converter : Prop :=
  ∀ (s : State) (i : Initiator) (k : Fin 16) (v x : Word),
    let st := s.adcState
    let no := fun (j : Instr) => exec j s = .next (s.reject adcPort ST_STATE)
    let quiet := st = 0 ∨ st = 2
    let en := bitOf v 0
    let was := s.bit ADC_CTL 0
    let onlyEn := en ≠ was ∧ fieldOf v 8 4 = s.fld ADC_CTL 8 4
    let ready := st = 2 ∧ s.adcUnread = 0
    let started := fun (u : State) => u.adcState = 3 ∧ u.fld ADC_STAT 4 4 = 0 ∧ (∀ m : Fin 16, u.bit (ADC_RES m.val) 31 = false) ∧ u.mem = s.mem
    let e := s.fld ADC_STAT 4 4
    let code := fun (u : State) => u.rg (ADC_RES e) = BitVec.ofNat 32 (adcCode (s.fld (ADC_SEQ e) 0 5) x.toNat + 2 ^ 16 * s.fld (ADC_SEQ e) 0 5 + 2 ^ 31) ∧
      u.adcUnread = s.adcUnread + 1 ∧ u.adc.made = e + 1 ∧ u.mem = s.mem
    (s.serves i ADC_CTL v = true → quiet → Ends (.adcCtlWrite i v) s (fun u => u.rg ADC_CTL = v &&& 0xF01 ∧
      u.adcState = (if en = was then st else if en then 1 else 0) ∧ SameRegsBut s u [ADC_CTL, ADC_STAT, ADC_CMDST] ∧ u.mem = s.mem)) ∧
    (s.serves i ADC_CTL v = true → st = 3 → onlyEn → Ends (.adcCtlWrite i v) s (fun u => u.rg ADC_CTL = v &&& 0xF01 ∧ u.adcState = 3 ∧
      u.adc.stopping = true ∧ u.adc.fresh = en ∧ SameRegsBut s u [ADC_CTL, ADC_CMDST] ∧ u.mem = s.mem)) ∧
    (s.serves i ADC_CTL v = true → st = 1 → onlyEn → Ends (.adcCtlWrite i v) s (fun u => u.rg ADC_CTL = v &&& 0xF01 ∧
      u.adcState = (if en then 1 else 0) ∧ SameRegsBut s u [ADC_CTL, ADC_STAT, ADC_CMDST] ∧ u.mem = s.mem)) ∧
    (s.serves i ADC_CTL v = true → ¬quiet → ¬onlyEn → no (.adcCtlWrite i v)) ∧
    (s.serves i (ADC_SEQ k.val) v = true → quiet → Ends (.adcSeqWrite i k v) s (fun u => u.rg (ADC_SEQ k.val) = v &&& 0xFF1F ∧
      SameRegsBut s u [ADC_SEQ k.val, ADC_CMDST] ∧ u.mem = s.mem)) ∧
    (s.serves i (ADC_SEQ k.val) v = true → ¬quiet → no (.adcSeqWrite i k v)) ∧
    (s.serves i ADC_CMD 1 = true → ready → Ends (.adcStart i) s started) ∧ (s.serves i ADC_CMD 1 = true → ¬ready → no (.adcStart i)) ∧
    (s.serves i ADC_CMD 2 = true → st = 3 → Ends (.adcStop i) s (fun u => u.adc.stopping = true ∧ u.adcState = 3 ∧ u.adcUnread = s.adcUnread ∧
      SameRegsBut s u [ADC_CMDST] ∧ u.mem = s.mem)) ∧
    (s.serves i ADC_CMD 2 = true → st ≠ 3 → no (.adcStop i)) ∧
    (s.serves i ADC_CMD 4 = true → st = 2 → Ends (.adcFlush i) s (fun u => u.adcUnread = 0 ∧ u.adcState = 2 ∧
      SameRegsBut s u [ADC_STAT, ADC_CMDST] ∧ u.mem = s.mem)) ∧
    (s.serves i ADC_CMD 4 = true → st ≠ 2 → no (.adcFlush i)) ∧
    (s.servesRead i ADC_DATA = true → s.adcUnread = 0 → exec (.adcDataRead i) s = .next { s with rdata := 0 }) ∧
    (s.servesRead i ADC_DATA = true → 0 < s.adcUnread → Ends (.adcDataRead i) s (fun u =>
      u.rdata = (s.rg (ADC_RES (s.adc.made - s.adcUnread))).toNat ∧ u.adcUnread + 1 = s.adcUnread ∧ SameRegsBut s u [ADC_STAT] ∧ u.mem = s.mem)) ∧
    (s.actDue A_ADC 0 = false → exec .actionAdc s = .next s) ∧
    (s.actDue A_ADC 0 = true → s.bit SYS_CLKEN 7 = false → exec .actionAdc s = .next (s.dropAct A_ADC 0)) ∧
    (s.actDue A_ADC 0 = true → s.bit SYS_CLKEN 7 = true → ready → Ends .actionAdc s started) ∧
    (s.actDue A_ADC 0 = true → s.bit SYS_CLKEN 7 = true → ¬ready → Ends .actionAdc s (fun u => u.rg ADC_MISS = satInc (s.rg ADC_MISS) 1 ∧
      u.bit ADC_EVT 1 = true ∧ (s.isLevel 594 = false → u.pendOf 594 = true) ∧ u.adcState = st ∧ u.mem = s.mem)) ∧
    (st = 1 → Ends .adcSettleEnd s (fun u => u.adcState = 2 ∧ u.adcUnread = s.adcUnread ∧ SameRegsBut s u [ADC_STAT] ∧ u.mem = s.mem)) ∧
    (st ≠ 1 → exec .adcSettleEnd s = .next s) ∧ (st ≠ 3 → exec (.adcConversionEnd x) s = .next s) ∧
    (st = 3 → s.adcUnread < 31 → s.adc.stopping = false → e ≠ s.fld ADC_CTL 8 4 → Ends (.adcConversionEnd x) s (fun u => code u ∧ u.adcState = 3 ∧
      u.fld ADC_STAT 4 4 = (e + 1) % 16 ∧ SameRegsBut s u [ADC_RES e, ADC_STAT])) ∧
    (st = 3 → s.adcUnread < 31 → s.adc.stopping = false → e = s.fld ADC_CTL 8 4 → Ends (.adcConversionEnd x) s (fun u => code u ∧ u.adcState = 2 ∧
      u.bit ADC_EVT 0 = true ∧ (s.isLevel 593 = false → u.pendOf 593 = true))) ∧
    (st = 3 → s.adcUnread < 31 → s.adc.stopping = true → Ends (.adcConversionEnd x) s (fun u => code u ∧ u.adc.stopping = false ∧
      u.adcState = (if was then (if s.adc.fresh then 1 else 2) else 0) ∧ SameRegsBut s u [ADC_RES e, ADC_STAT]))

/-- At a bank with its supply the pad takes the level that the pin drives, as GPIO data or a compare unit's output, an open-drain pin only low, or else the outer level; at a bank without it a free level; with the core domain powered it reaches GPIO_IN and, by IMODE, pulses the pin's source or sets its signal; unpowered it changes no register. In a state where the fabric serves the write: the four GPIO registers store, set, clear and invert output bits and change nothing else; PIN_CFG stores its fields; the mask restarts the lock sequence; the keys move it as the table of R485 says and the third locks the masked pins beside those locked before. No write to PIN_CFG of a locked pin is served. -/
def Obligations.Pins : Prop :=
  ∀ (s : State) (i : Initiator) (p : Fin 5) (n : Fin 32) (v : Word) (b : Bool),
    let src := 608 + 32 * p.val + n.val
    let cfg := PIN_CFG p.val n.val
    let mode := s.pinMode p.val n.val
    let supplied := s.bit PWR_STAT (8 + p.val) = true
    let lvl := (s.pinDrive p.val n.val).getD b
    let old := s.bit (GPIO_IN p.val) n.val
    let inOf := fun (u : State) => u.bit (GPIO_IN p.val) n.val
    let pulses := lvl ≠ old ∧ (mode = 3 ∨ (mode = 1 ∧ lvl = true) ∨ (mode = 2 ∧ lvl = false))
    let step := s.fld (PIN_LKSTAT p.val) 0 2
    let out := s.rg (GPIO_OUT p.val)
    let becomes := fun (j : Instr) (w : Word) => Ends j s (fun u => u.rg (GPIO_OUT p.val) = w ∧ SameRegsBut s u [GPIO_OUT p.val] ∧ u.mem = s.mem)
    let key := s.serves i (PIN_LKKEY p.val) v = true
    let steps := fun (w : Nat) (locked : Word) => Ends (.pinLkkeyWrite i p v) s (fun u => u.fld (PIN_LKSTAT p.val) 0 2 = w ∧
      u.rg (PIN_LOCKED p.val) = s.rg (PIN_LOCKED p.val) ||| locked ∧ SameRegsBut s u [PIN_LKSTAT p.val, PIN_LOCKED p.val] ∧ u.mem = s.mem)
    Ends (.padChange p n b) s (fun u => (supplied → u.padLevel p.val n.val = lvl) ∧ u.mem = s.mem ∧
      (s.powered = true → inOf u = u.padLevel p.val n.val) ∧ (s.powered = false → u.regs = s.regs)) ∧
    (s.powered = true → mode = 0 → Ends (.padChange p n b) s (fun u => SameRegsBut s u [GPIO_IN p.val])) ∧
    (supplied → s.powered = true → s.isLevel src = false → pulses → Ends (.padChange p n b) s (fun u => u.pendOf src = true)) ∧
    (supplied → s.powered = true → ¬pulses → mode ≤ 3 → Ends (.padChange p n b) s (fun u => u.pendOf src = s.pendOf src)) ∧
    (supplied → s.powered = true → (mode = 4 ∨ mode = 5) → Ends (.padChange p n b) s (fun u => u.lvlOf src = (lvl == (mode == 4)) ∧
      (s.isLevel src = true → s.isActive src = false → u.pendOf src = u.lvlOf src))) ∧
    (s.pwr = .off → lvl = b) ∧
    (s.pinFunc p.val n.val = 0 → s.bit cfg 3 = false → lvl = b) ∧
    (s.pwr ≠ .off → s.pinFunc p.val n.val = 0 → s.bit cfg 3 = true →
      lvl = (s.bit (GPIO_OUT p.val) n.val && (b || !s.bit cfg 7))) ∧
    (∀ t x, s.pwr ≠ .off → s.pinFunc p.val n.val ≠ 0 → pinTimer p.val n.val (s.pinFunc p.val n.val) = some (t, x) →
      lvl = (if s.lvBit (TMR_CCCFG t x) 0 then b else s.bit (TMR_OUT t) x && (b || !s.bit cfg 7))) ∧
    (s.serves i (GPIO_OUT p.val) v = true → becomes (.gpioOutWrite i p v) v) ∧
    (s.serves i (GPIO_SET p.val) v = true → becomes (.gpioSet i p v) (out ||| v)) ∧
    (s.serves i (GPIO_CLR p.val) v = true → becomes (.gpioClr i p v) (out &&& ~~~v)) ∧
    (s.serves i (GPIO_TGL p.val) v = true → becomes (.gpioTgl i p v) (out ^^^ v)) ∧
    (s.serves i cfg v = true → Ends (.pinCfgWrite i p n v) s (fun u => u.rg cfg = v &&& 0x73FF ∧ inOf u = old ∧ u.pads = s.pads ∧ u.mem = s.mem)) ∧
    (s.bit (PIN_LOCKED p.val) n.val = true → s.serves i cfg v = false) ∧
    (s.serves i (PIN_LKMASK p.val) v = true → Ends (.pinLkmaskWrite i p v) s (fun u => u.rg (PIN_LKMASK p.val) = v ∧
      u.fld (PIN_LKSTAT p.val) 0 2 = 0 ∧ SameRegsBut s u [PIN_LKMASK p.val, PIN_LKSTAT p.val] ∧ u.mem = s.mem)) ∧
    (key → v = 0xA55A → step = 2 → steps 0 (s.rg (PIN_LKMASK p.val))) ∧ (key → v = 0xA55A → step ≠ 2 → steps 1 0) ∧
    (key → v = 0x5AA5 → step = 1 → steps 2 0) ∧ (key → v = 0x5AA5 → step ≠ 1 → steps 0 0) ∧
    (key → v ≠ 0xA55A → v ≠ 0x5AA5 → steps 0 0)

/-- A tick adds one to SUBSEC, with the trim step and the slew step that are due; a slew step counts MIT_ADJ towards 0, and one back is put off where the trim step is one back too. A carry makes a new second with its calendar, accumulates the correction, judges the alarms, the periodic event and VBAT, and starts a conversion at every 64th. APPLY and WAKESET that the fabric serves wait as writes; the oldest waiting write of a register takes effect: it stores the register, clears wake flags or sets one with PWRON, sets the time with VALID and its event, starts a slew, and copies an ascending curve or rejects one that does not ascend. A conversion loads MIT_TEMP and its event, and MIT_CORR follows the curve. The supply switches with hysteresis. A wake pin held as long as its filter asks takes its level, posts its selected edge and wakes where enabled. Without a supply ticks and samples do nothing. -/
def Obligations.Mitten : Prop :=
  ∀ (s : State) (i : Initiator) (a vbat vsys v : Word) (t : BitVec 12) (n : Fin 8) (k : Fin 16) (al : Fin 2) (lvl : Bool) (w : MitWrite),
    let m := s.mit
    let sub := (s.rg MIT_RTC_SUB).toNat
    let adj := signed 16 (s.fld MIT_ADJ 0 16)
    let slew := adj ≠ 0 ∧ (m.slewIn ≤ 1 ∨ m.late = true)
    let off := adj < 0 ∧ m.trim = -1
    let j : Int := if slew ∧ ¬off then (if 0 < adj then 1 else -1) else 0
    let sum := ((sub : Int) + 1 + m.trim + j).toNat
    let acc := if 32768 ≤ sum then m.acc + 32 * signed 13 (s.fld MIT_CORR 0 13) else m.acc
    let steps := fun (u : State) => u.rg MIT_ADJ = BitVec.ofInt 32 (adj - j) &&& 0xFFFF ∧
      u.mit.slewIn = (if m.slewIn ≤ 1 then 256 else m.slewIn - 1) ∧ (u.mit.late = true ↔ slew ∧ off) ∧
      u.mit.trim = (if 15625 ≤ acc then 1 else if acc ≤ -15625 then -1 else 0) ∧ u.mit.acc = acc - 15625 * u.mit.trim ∧ u.mem = s.mem
    let sec := (s.rtcSec + 1) % 2 ^ 48
    let only := fun (x : Nat) => m.waiting.find? (fun y => y.addr == a.toNat) = some w ∧ a.toNat = x
    let special := [MIT_STAT, MIT_SET_SEC_HI, MIT_ADJ, MIT_TCTL, MIT_WAKEF, MIT_WAKESET, MIT_PWRON]
    let effect := Instr.mitWriteEffect a vbat
    let gone := fun (u : State) => u.mit.waiting = m.waiting.erase w ∧ u.mem = s.mem
    let th := 1600 + 50 * s.fld MIT_SUPPLY 0 5
    let toBat := vsys.toNat + 100 < vbat.toNat ∨ vsys.toNat < th
    let toSys := max vbat.toNat th + 100 < vsys.toNat
    let switches := fun (b : Bool) => Ends (.supplySwitch vsys vbat) s (fun u => u.bit MIT_STAT 2 = b ∧ u.bit MIT_EVT 4 = true ∧ u.mem = s.mem)
    let sel := s.fld (WK_CFG n.val) 0 2
    let pin := s.wkPin n.val
    let runs := if pin.last = lvl then min 64 (pin.runs + 1) else 1
    let take := s.fld (WK_CFG n.val) 8 6 + 1 ≤ runs ∧ pin.level ≠ lvl
    let selected := sel = 3 ∨ (sel = 1 ∧ lvl = true) ∨ (sel = 2 ∧ lvl = false)
    let queued := fun (u : State) (x : Nat) (d : Word) => u.mit.waiting = m.waiting ++ [{ addr := x, val := d, sub := none, lo := none }] ∧
      u.bit MIT_STAT 4 = true ∧ SameRegsBut s u [MIT_STAT] ∧ u.mem = s.mem
    (m.alive = false → exec (.rtcTick vbat) s = .next s ∧ exec (.supplySwitch vsys vbat) s = .next s ∧ exec (.wakePinSample n lvl) s = .next s) ∧
    (m.alive = true → sum < 32768 → Ends (.rtcTick vbat) s (fun u => steps u ∧ u.rg MIT_RTC_SUB = BitVec.ofNat 32 sum ∧
      SameRegsBut s u [MIT_RTC_SUB, MIT_ADJ])) ∧
    (m.alive = true → 32768 ≤ sum → Ends (.rtcTick vbat) s (fun u => steps u ∧ u.rg MIT_RTC_SUB = BitVec.ofNat 32 ((sum - 32768) % 32768) ∧
      u.rtcSec = sec ∧
      u.rg MIT_RTC_CAL0 = BitVec.ofNat 32 ((calendar sec).second + 2 ^ 8 * (calendar sec).minute + 2 ^ 16 * (calendar sec).hour +
        2 ^ 24 * (calendar sec).weekday) ∧
      u.rg MIT_RTC_CAL1 = BitVec.ofNat 32 ((calendar sec).day + 2 ^ 8 * (calendar sec).month + 2 ^ 16 * (calendar sec).year) ∧
      u.bit MIT_STAT 3 = decide (vbat.toNat < 1500) ∧ (vbat.toNat < 1500 → s.bit MIT_STAT 3 = false → u.bit MIT_EVT 5 = true) ∧
      (s.fld MIT_PER 0 2 = 1 ∨ s.fld MIT_PER 0 2 = 2 ∧ (calendar sec).second = 0 → u.bit MIT_EVT 3 = true) ∧
      (sec % 64 = 0 → u.mit.converting = true) ∧
      (s.almMatches al.val (calendar sec) = true → u.bit MIT_EVT (1 + al.val) = true ∧
        (s.bit (ALM_CTL al.val) 9 = true → u.bit MIT_WAKEF (1 + al.val) = true ∧ u.bit MIT_PWRON 1 = true)))) ∧
    (s.serves i MIT_TCTL (v ||| 0x80000000) = true → Ends (.mitApply i v) s (fun u => queued u MIT_TCTL (v ||| 0x80000000))) ∧
    (s.serves i MIT_WAKESET 1 = true → Ends (.mitWakeset i) s (fun u => queued u MIT_WAKESET 1)) ∧
    (m.waiting.find? (fun y => y.addr == a.toNat) = none → exec effect s = .next s) ∧
    (∀ row y z, only w.addr → w.addr ∉ special → regAt w.addr = some (row, y, z) → Ends effect s (fun u => gone u ∧
      u.bit MIT_STAT 4 = !(m.waiting.erase w).isEmpty ∧
      u.rg w.addr = ((((s.rg w.addr &&& ~~~(BitVec.ofNat 32 row.rw)) ||| (w.val &&& BitVec.ofNat 32 row.rw)) &&&
        ~~~(w.val &&& BitVec.ofNat 32 row.w1c)) ||| (w.val &&& BitVec.ofNat 32 row.w1s)) ∧ SameRegsBut s u [w.addr, MIT_STAT])) ∧
    (only MIT_WAKESET → Ends effect s (fun u => gone u ∧ (bitOf w.val 0 = true → u.bit MIT_WAKEF 0 = true ∧ u.bit MIT_PWRON 1 = true) ∧
      SameRegsBut s u (if bitOf w.val 0 then [MIT_STAT, MIT_WAKEF, MIT_PWRON] else [MIT_STAT]))) ∧
    (only MIT_WAKEF → Ends effect s (fun u => gone u ∧ u.rg MIT_WAKEF = s.rg MIT_WAKEF &&& ~~~w.val ∧
      u.bit MIT_PWRON 1 = (s.bit MIT_PWRON 0 || s.rg MIT_WAKEF &&& ~~~w.val != 0) ∧ SameRegsBut s u [MIT_STAT, MIT_WAKEF, MIT_PWRON])) ∧
    (only MIT_PWRON → Ends effect s (fun u => gone u ∧ u.bit MIT_PWRON 0 = bitOf w.val 0 ∧
      u.bit MIT_PWRON 1 = (bitOf w.val 0 || s.rg MIT_WAKEF != 0) ∧ SameRegsBut s u [MIT_STAT, MIT_PWRON])) ∧
    (only MIT_ADJ → Ends effect s (fun u => gone u ∧ u.rg MIT_ADJ = w.val &&& 0xFFFF ∧ u.mit.slewIn = 257 ∧ u.mit.late = false ∧
      SameRegsBut s u [MIT_STAT, MIT_ADJ])) ∧
    (only MIT_SET_SEC_HI → Ends effect s (fun u => gone u ∧ (u.rg MIT_RTC_SUB).toNat = (w.sub.getD (s.rg MIT_SET_SUB)).toNat % 32768 ∧
      u.rtcSec = (w.lo.getD (s.rg MIT_SET_SEC_LO)).toNat + 2 ^ 32 * (w.val.toNat % 2 ^ 16) ∧
      u.bit MIT_STAT 0 = true ∧ u.bit MIT_EVT 7 = true ∧ u.rg MIT_ADJ = 0)) ∧
    (only MIT_TCTL → bitOf w.val 31 = true → s.curveAscends (fieldOf w.val 8 5) = true → Ends effect s (fun u => gone u ∧
      u.mit.npts = fieldOf w.val 8 5 ∧ u.rg MIT_TCTL = w.val &&& 0x1F01 ∧ u.fld MIT_CMDST 0 4 = 0 ∧
      (k.val < fieldOf w.val 8 5 → u.rg (MIT_TLIVE k.val) = s.rg (MIT_TCURVE k.val)))) ∧
    (only MIT_TCTL → bitOf w.val 31 = true → s.curveAscends (fieldOf w.val 8 5) = false → Ends effect s (fun u => gone u ∧
      u.fld MIT_CMDST 0 4 = ST_ARG ∧ u.rg MIT_REJECT = satInc (s.rg MIT_REJECT) 1 ∧ u.bit MIT_EVT 0 = true ∧ u.rg MIT_TCTL = s.rg MIT_TCTL ∧
      u.mit.npts = m.npts ∧ u.rg (MIT_TLIVE k.val) = s.rg (MIT_TLIVE k.val))) ∧
    (only MIT_TCTL → bitOf w.val 31 = false → Ends effect s (fun u => gone u ∧ u.rg MIT_TCTL = w.val &&& 0x1F01 ∧
      SameRegsBut s u [MIT_STAT, MIT_TCTL, MIT_CORR])) ∧
    (m.converting = true → Ends (.tempConversionDone t) s (fun u => u.rg MIT_TEMP = BitVec.ofNat 32 t.toNat ∧ u.bit MIT_EVT 6 = true ∧
      u.mit.converting = false ∧ u.mem = s.mem ∧ u.rg MIT_CORR = (if s.bit MIT_TCTL 0 then BitVec.ofInt 32
        (curveAt (signed 12 t.toNat) ((List.range m.npts).map (fun k => curvePoint (s.rg (MIT_TLIVE k))))) &&& 0x1FFF else 0))) ∧
    (m.converting = false → exec (.tempConversionDone t) s = .next s) ∧
    (m.alive = true → s.bit MIT_STAT 2 = true → toSys → switches false) ∧ (m.alive = true → s.bit MIT_STAT 2 = false → toBat → switches true) ∧
    (m.alive = true → (if s.bit MIT_STAT 2 then ¬toSys else ¬toBat) → exec (.supplySwitch vsys vbat) s = .next s) ∧
    (m.alive = true → Ends (.wakePinSample n lvl) s (fun u => (u.wkPin n.val).last = lvl ∧ (u.wkPin n.val).runs = runs ∧ u.mem = s.mem ∧
      (take → (u.wkPin n.val).level = lvl) ∧ (¬take → (u.wkPin n.val).level = pin.level) ∧ (¬(take ∧ selected) → u.regs = s.regs) ∧
      (take → selected → u.bit MIT_EVT (8 + n.val) = true ∧
        (s.bit (WK_CFG n.val) 2 = true → u.bit MIT_WAKEF (8 + n.val) = true ∧ u.bit MIT_PWRON 1 = true))))

/-- When VSYS and VBAT are both below their operating range, the Mitten loses its state and is without a supply. From such a state the return of a supply gives every MIT register its reset value; MIT_STAT.LOST then reads 1 and MIT_STAT.VALID reads 0. No register outside the Mitten and no byte of memory changes. -/
def Obligations.MittenLoss : Prop :=
  ∀ (s : State) (a : Nat),
    Ends .mittenStateLoss s (fun u => u.mit.alive = false ∧ u.mit.waiting = [] ∧ u.mem = s.mem ∧ (isMit a = false → u.rg a = s.rg a) ∧
      Ends .mittenSupplyReturn u (fun t => t.mit.alive = true ∧ (isMit a = true → t.rg a = resetOf a) ∧ (isMit a = false → t.rg a = s.rg a) ∧
        t.bit MIT_STAT 1 = true ∧ t.bit MIT_STAT 0 = false ∧ t.mem = s.mem)) ∧
    (s.mit.alive = true → exec .mittenSupplyReturn s = .next s)

/-- In a state where the fabric serves the write: START in INIT waits to join (not in REQUAL outside loopback), STOP waits for a frame in progress or enters INIT, RECOVER in BUSOFF without AUTOREC starts recovery; else STATE. Ring pointers are written where they stay in the ring, else ARG. Joining and recovery enter ACTIVE with both counters 0. A frame that a filter matches is stored in the next slot with its event, counted where the ring is full, and ignored without a match or by a controller that R520 bars; a good frame counts REC down. A sent frame gets its beat and offset, TXRD advances, and it counts TEC down, or in loopback is received. A bus error counts TEC or REC up; a count of 128 makes the controller PASSIVE and TEC of 256 puts it in BUSOFF. A STOP that waited ends with the frame. Without traffic on the bus for it, or without a frame to send, nothing changes. -/
def Obligations.CanControllers : Prop :=
  ∀ (s : State) (i : Initiator) (c : Fin 2) (v id : Word) (ctl : Fin 64) (data : List Byte) (frame : Bool) (err : Fin 4),
    let n := c.val
    let st := s.canState n
    let x := s.can n
    let cmd := fun (w : Word) => s.serves i (CAN_CMD n) w = true
    let no := fun (j : Instr) (code : Nat) => exec j s = .next (s.reject (canPort n) code)
    let loop := s.fld (CAN_CFG n) 0 2 = 3
    let clock := s.bit SYS_CLKEN (8 + n) = true
    let m := s.canSlots (CAN_RXCTL n)
    let wr := s.fld (CAN_RXWR n) 0 10
    let rd := s.fld (CAN_RXRD n) 0 10
    let k := fieldOf v 0 10
    let inRing := k < m ∧ (k + m - rd % m) % m ≤ (wr + m - rd % m) % m
    let tm := s.canSlots (CAN_TXCTL n)
    let twr := s.fld (CAN_TXWR n) 0 10
    let trd := s.fld (CAN_TXRD n) 0 10
    let fits := (k + tm - twr % tm) % tm ≤ (trd + tm - twr % tm - 1) % tm
    let hears := s.canOn n = true ∧ ¬loop ∧ (s.bit (CAN_CFG n) 3 = true ∨ bitOf id 31 = false)
    let barred := s.retired (0x820 + n) = true ∨ (s.chanState (0x820 + n) = 3 ∧ ¬loop)
    let sends := s.canOn n = true ∧ s.fld (CAN_CFG n) 0 2 ≠ 2 ∧ ¬barred ∧ trd ≠ twr
    let joined := fun (u : State) => u.canState n = 1 ∧ u.canTec n = 0 ∧ u.canRec n = 0 ∧ u.bit (CAN_EVT n) 2 = true ∧ u.mem = s.mem
    (cmd 1 → st = 0 → (s.chanState (0x820 + n) ≠ 3 ∨ loop) → Ends (.canStart i c) s (fun u => (u.can n).joining = true ∧
      SameRegsBut s u [CAN_CMDST n] ∧ u.mem = s.mem)) ∧
    (cmd 1 → (st ≠ 0 ∨ (s.chanState (0x820 + n) = 3 ∧ ¬loop)) → no (.canStart i c) ST_STATE) ∧
    (cmd 2 → st ≠ 0 → frame = true → s.canOn n = true → Ends (.canStop i c frame) s (fun u => (u.can n).stopping = true ∧ u.canState n = st ∧
      SameRegsBut s u [CAN_CMDST n] ∧ u.mem = s.mem)) ∧
    (cmd 2 → st ≠ 0 → (frame = false ∨ s.canOn n = false) → Ends (.canStop i c frame) s (fun u => u.canState n = 0 ∧
      (u.can n).joining = false ∧ (u.can n).recovering = false ∧ u.bit (CAN_EVT n) 2 = true ∧
      (s.isLevel (770 + 4 * n) = false → u.pendOf (770 + 4 * n) = true) ∧ u.mem = s.mem)) ∧
    (cmd 2 → st = 0 → no (.canStop i c frame) ST_STATE) ∧
    (cmd 4 → st = 3 → s.bit (CAN_CFG n) 2 = false → Ends (.canRecover i c) s (fun u => (u.can n).recovering = true ∧
      SameRegsBut s u [CAN_CMDST n] ∧ u.mem = s.mem)) ∧
    (cmd 4 → (st ≠ 3 ∨ s.bit (CAN_CFG n) 2 = true) → no (.canRecover i c) ST_STATE) ∧
    (x.joining = true → st = 0 → clock → Ends (.canBusJoin c) s (fun u => joined u ∧ (u.can n).joining = false)) ∧
    ((x.joining = false ∨ st ≠ 0 ∨ ¬clock) → exec (.canBusJoin c) s = .next s) ∧
    (st = 3 → (x.recovering = true ∨ s.bit (CAN_CFG n) 2 = true) → clock → Ends (.canRecoveryDone c) s (fun u => joined u ∧
      (u.can n).recovering = false)) ∧
    ((st ≠ 3 ∨ (x.recovering = false ∧ s.bit (CAN_CFG n) 2 = false) ∨ ¬clock) → exec (.canRecoveryDone c) s = .next s) ∧
    (hears → exec (.canFrameRx c id ctl data) s = .next (((s.canStore n id ctl.val data).canRxGood n).canFrameEnd n)) ∧
    (¬hears → exec (.canFrameRx c id ctl data) s = .next s) ∧
    ((((List.range 16).find? (fun f => s.canMatch n f id)) = none ∨ barred) → s.canStore n id ctl.val data = s) ∧
    (∀ f, (List.range 16).find? (fun f => s.canMatch n f id) = some f → ¬barred →
      ((wr + 1) % m = rd → s.canStore n id ctl.val data =
        (s.setRg (CAN_RXOVF n) (satInc (s.rg (CAN_RXOVF n)) 1)).event (CAN_EVT n) 3 (771 + 4 * n)) ∧
      ((wr + 1) % m ≠ rd → s.canStore n id ctl.val data =
        ((s.writeRun .camera (s.canSlot (CAN_RXBASE n) wr) (leBytes 4 id.toNat ++ leBytes 4 (ctl.val + 2 ^ 8 * f) ++
          leBytes 4 (s.beatNo % 2 ^ 32) ++ leBytes 4 (min s.offsUs 65535) ++ data.take (canLen id.toNat (ctl.val % 16)))).2.setFld (CAN_RXWR n)
            0 10 ((wr + 1) % m)).event (CAN_EVT n) 0 (768 + 4 * n))) ∧
    (∀ f, s.canMatch n f id = true ↔ s.bit (CAN_FID n f) 31 = true ∧
      (id ^^^ s.rg (CAN_FID n f)) &&& (s.rg (CAN_FMASK n f) &&& 0x1FFFFFFF) = 0 ∧ bitOf id 29 = s.bit (CAN_FID n f) 29) ∧
    (s.canRec n = 0 → s.canRxGood n = s) ∧
    (0 < s.canRec n → s.canRec n ≤ 127 → s.canRxGood n = s.canCounters n (s.canTec n) (s.canRec n - 1)) ∧
    (127 < s.canRec n → 119 ≤ (s.canRxGood n).canRec n ∧ (s.canRxGood n).canRec n ≤ 127 ∧ (s.canRxGood n).canTec n = s.canTec n) ∧
    (∀ tec rx : Nat,
      let u := s.canCounters n tec rx
      u.canRec n = min 255 rx ∧ u.mem = s.mem ∧ (tec < 256 → u.canTec n = tec) ∧ u.can n = x ∧
      u.canState n = (if 256 ≤ tec then 3 else if 128 ≤ tec ∨ 128 ≤ rx then 2 else 1) ∧ (u.canState n ≠ st → u.bit (CAN_EVT n) 2 = true)) ∧
    (x.stopping = false → s.canFrameEnd n = s) ∧
    (x.stopping = true → ((s.canFrameEnd n).can n).stopping = false ∧ (s.canFrameEnd n).canState n = 0 ∧ (s.canFrameEnd n).mem = s.mem) ∧
    (s.serves i (CAN_RXRD n) v = true → inRing → Ends (.canRxrdWrite i c v) s (fun u => u.rg (CAN_RXRD n) = BitVec.ofNat 32 k ∧
      SameRegsBut s u [CAN_RXRD n, CAN_CMDST n] ∧ u.mem = s.mem)) ∧
    (s.serves i (CAN_RXRD n) v = true → ¬inRing → no (.canRxrdWrite i c v) ST_ARG) ∧
    (s.serves i (CAN_TXWR n) v = true → fits → Ends (.canTxwrWrite i c v) s (fun u => u.rg (CAN_TXWR n) = BitVec.ofNat 32 (k % tm) ∧
      SameRegsBut s u [CAN_TXWR n, CAN_CMDST n] ∧ u.mem = s.mem)) ∧
    (s.serves i (CAN_TXWR n) v = true → ¬fits → no (.canTxwrWrite i c v) ST_ARG) ∧
    (sends → exec (.canTxDone c) s = .next ((s.canSent n).canFrameEnd n)) ∧ (¬sends → exec (.canTxDone c) s = .next s) ∧
    (∀ w0 w1 s1 s2 s3,
      let a := s.canSlot (CAN_TXBASE n) trd
      let s4 := (s3.fabWrite .camera (a + 8) .word (s3.beatNo % 2 ^ 32)).2
      let s5 := (s4.fabWrite .camera (a + 12) .half (min s4.offsUs 65535)).2
      let u := ((s5.setCan n { s5.can n with sent := some (BitVec.ofNat 32 w0, BitVec.ofNat 32 (w1 % 64), data) }).setFld (CAN_TXRD n) 0 10
        ((trd + 1) % s5.canSlots (CAN_TXCTL n))).event (CAN_EVT n) 1 (769 + 4 * n)
      s.serialWord a = (w0, s1) → s1.serialWord (a + 4) = (w1, s2) →
      s2.fabReadBytes .camera (a + 16) (canLen w0 (w1 % 16)) = (data, s3) →
      (s5.fld (CAN_CFG n) 0 2 = 3 → s.canSent n = u.canStore n (BitVec.ofNat 32 w0) (w1 % 64) data) ∧
      (s5.fld (CAN_CFG n) 0 2 ≠ 3 → s.canSent n = u.canCounters n (u.canTec n - 1) (u.canRec n))) ∧
    (s.canOn n = false → exec (.canBusError c err) s = .next s) ∧
    (s.canOn n = true → exec (.canBusError c err) s = .next (((s.setRg (CAN_ERRCNT n) (s.rg (CAN_ERRCNT n) + 1)).canCounters n
      (s.canTec n + (if err = 0 then 8 else 0)) (s.canRec n + (if err = 1 then 1 else if err = 2 then 8 else 0))).canFrameEnd n))

/-- In a state where the fabric serves the access: BREAK is sent, the FLUSH commands empty their FIFO, ACT of an inactive card starts its activation and DEACT ends it, else STATE; a write of UART_TXD pushes a character, or is rejected with STATE at 32; a read of UART_DATA pops the oldest character with VALID, or gives 0. A received character is stored with its flags, or counted with an event at 32; in T = 0 one with a parity error is not stored; a card's first one after its reset is released activates it. A character leaves the transmit FIFO for the line; a card's signal repeats it up to SC_RETRY times, then TXFAIL halts. Release, the answer and waiting time-outs, and the idle time set their results. With the port off or nothing to do, nothing changes. -/
def Obligations.UartAndSmartCard : Prop :=
  ∀ (s : State) (i : Initiator) (p : Fin 6) (v : Word) (c : Fin 512) (fe pe brk sig : Bool),
    let n := p.val
    let x := s.uart n
    let st := UART_STAT n
    let cmd := fun (w : Word) => s.serves i (UART_CMD n) w = true
    let no := fun (j : Instr) (code : Nat) => exec j s = .next (s.reject (uartPort n) code)
    let quiet := fun (u : State) => SameRegsBut s u [st, UART_CMDST n] ∧ u.mem = s.mem
    let rx := Instr.uartCharRx p c fe pe brk
    let mask := if s.uartSc n = 0 then 2 ^ (7 + min 2 (s.fld (UART_CFG n) 1 2)) else 256
    let hears := s.uartOn n = true ∧ (s.bit (UART_CFG n) 7 = false ∨ s.bit (UART_CFG n) 8 = true ∨ s.bit st 16 = true) ∧
      (s.uartSc n = 0 ∨ s.scst n ≠ 0)
    let woken := if s.uartSc n ≠ 0 ∧ s.scst n = 1 ∧ x.scRst = true then 2 else s.scst n
    let code := c.val % mask + (if fe then 512 else 0) + (if pe then 1024 else 0) + (if brk then 2048 else 0)
    let sends := s.uartOn n = true ∧ (s.bit (UART_CFG n) 9 = false ∨ s.ctsLine n = false) ∧ x.halted = false ∧
      (s.uartSc n = 0 ∨ s.scst n = 2)
    (cmd 1 → Ends (.uartBreak i p) s (fun u => (u.uart n).sent = some none ∧ (u.uart n).rx = x.rx ∧ (u.uart n).tx = x.tx ∧ quiet u)) ∧
    (cmd 2 → Ends (.uartFlushrx i p) s (fun u => (u.uart n).rx = [] ∧ (u.uart n).tx = x.tx ∧ u.fld st 0 6 = 0 ∧ quiet u)) ∧
    (cmd 4 → Ends (.uartFlushtx i p) s (fun u => (u.uart n).tx = [] ∧ (u.uart n).rx = x.rx ∧ u.bit st 16 = true ∧ u.fld st 8 6 = 0 ∧ quiet u)) ∧
    (cmd 8 → s.uartSc n ≠ 0 → s.scst n = 0 → Ends (.scAct i p) s (fun u => u.scst n = 1 ∧ (u.uart n).scRst = false ∧ u.fld st 28 3 = 0 ∧ quiet u)) ∧
    (cmd 8 → (s.uartSc n = 0 ∨ s.scst n ≠ 0) → no (.scAct i p) ST_STATE) ∧
    (cmd 16 → s.uartSc n ≠ 0 → s.scst n ≠ 0 → Ends (.scDeact i p) s (fun u => u.scst n = 0 ∧ (u.uart n).scRst = false ∧ quiet u)) ∧
    (cmd 16 → (s.uartSc n = 0 ∨ s.scst n = 0) → no (.scDeact i p) ST_STATE) ∧
    (s.scst n = 1 → Ends (.scResetRelease p) s (fun u => (u.uart n).scRst = true ∧ u.scst n = 1 ∧ quiet u)) ∧
    (s.scst n ≠ 1 → exec (.scResetRelease p) s = .next s ∧ exec (.scAtrTimeout p) s = .next s) ∧
    (s.scst n = 1 → x.scRst = true → Ends (.scAtrTimeout p) s (fun u => u.scst n = 2 ∧ u.fld st 28 3 = 1 ∧ u.bit (UART_EVT n) 2 = true ∧
      (s.isLevel (778 + 3 * n) = false → u.pendOf (778 + 3 * n) = true) ∧ u.mem = s.mem)) ∧
    (s.uartSc n ≠ 0 → s.scst n = 2 → x.tx = [] → Ends (.scWaitTimeout p) s (fun u => u.fld st 28 3 = 3 ∧ u.bit (UART_EVT n) 2 = true ∧
      u.scst n = 2 ∧ u.mem = s.mem)) ∧
    ((s.uartSc n = 0 ∨ s.scst n ≠ 2 ∨ x.tx ≠ []) → exec (.scWaitTimeout p) s = .next s) ∧
    (x.scRst = false → exec (.scAtrTimeout p) s = .next s) ∧
    (s.serves i (UART_TXD n) v = true → x.tx.length < 32 → Ends (.uartTxdWrite i p v) s (fun u => (u.uart n).tx = x.tx ++ [fieldOf v 0 9] ∧
      (u.uart n).rx = x.rx ∧ u.bit st 16 = false ∧ u.fld st 8 6 = x.tx.length + 1 ∧ quiet u)) ∧
    (s.serves i (UART_TXD n) v = true → 32 ≤ x.tx.length → no (.uartTxdWrite i p v) ST_STATE) ∧
    (s.servesRead i (UART_DATA n) = true → x.rx = [] → exec (.uartDataRead i p) s = .next { s with rdata := 0 }) ∧
    (∀ d l, s.servesRead i (UART_DATA n) = true → x.rx = d :: l → Ends (.uartDataRead i p) s (fun u => u.rdata = d + 2 ^ 31 ∧
      (u.uart n).rx = l ∧ (u.uart n).tx = x.tx ∧ SameRegsBut s u [st] ∧ u.mem = s.mem)) ∧
    (s.uartOn n = false → exec rx s = .next s ∧ exec (.uartCharTx p sig) s = .next s ∧ exec (.uartRxTimeout p) s = .next s) ∧
    (¬hears → exec rx s = .next s) ∧
    (hears → s.uartSc n = 1 → pe = true → Ends rx s (fun u => (u.uart n).rx = x.rx ∧ u.scst n = woken ∧ quiet u)) ∧
    (hears → ¬(s.uartSc n = 1 ∧ pe = true) → x.rx.length < 32 → Ends rx s (fun u => (u.uart n).rx = x.rx ++ [code] ∧ (u.uart n).idle = false ∧
      u.scst n = woken ∧ u.mem = s.mem ∧ (x.rx.length + 1 = s.fld (UART_FIFO n) 0 5 → u.bit (UART_EVT n) 0 = true))) ∧
    (hears → ¬(s.uartSc n = 1 ∧ pe = true) → 32 ≤ x.rx.length → Ends rx s (fun u => (u.uart n).rx = x.rx ∧ u.scst n = woken ∧
      u.rg (UART_OVRCNT n) = satInc (s.rg (UART_OVRCNT n)) 1 ∧ u.bit (UART_EVT n) 2 = true ∧ u.mem = s.mem)) ∧
    ((x.tx = [] ∨ ¬sends) → exec (.uartCharTx p sig) s = .next s) ∧
    (∀ d l, x.tx = d :: l → sends → (s.uartSc n ≠ 1 ∨ sig = false) → Ends (.uartCharTx p sig) s (fun u => (u.uart n).tx = l ∧
      (u.uart n).sent = some (some (d % mask)) ∧ u.bit st 16 = l.isEmpty ∧ (u.uart n).rx = x.rx ∧ u.mem = s.mem ∧
      (l.length = s.fld (UART_FIFO n) 8 5 → u.bit (UART_EVT n) 1 = true))) ∧
    (∀ d l, x.tx = d :: l → sends → s.uartSc n = 1 →
      (x.tries < s.fld (SC_RETRY n) 0 3 → Ends (.uartCharTx p true) s (fun u => (u.uart n).tx = x.tx ∧ (u.uart n).tries = x.tries + 1 ∧ quiet u)) ∧
      (s.fld (SC_RETRY n) 0 3 ≤ x.tries → Ends (.uartCharTx p true) s (fun u => (u.uart n).tx = l ∧ (u.uart n).halted = true ∧
        u.fld st 28 3 = 2 ∧ u.bit (UART_EVT n) 2 = true ∧ u.mem = s.mem))) ∧
    ((s.fld (UART_FIFO n) 16 16 = 0 ∨ x.rx = []) → exec (.uartRxTimeout p) s = .next s) ∧
    (s.uartOn n = true → s.fld (UART_FIFO n) 16 16 ≠ 0 → x.rx ≠ [] → Ends (.uartRxTimeout p) s (fun u => (u.uart n).idle = true ∧
      (u.uart n).rx = x.rx ∧ u.bit (UART_EVT n) 0 = true ∧ u.mem = s.mem))

/-- In a state where the fabric serves the write: START of an idle port with an argument in range sets BUSY and moves what its FIFOs allow, so the word or byte at hand goes out and the answer comes in; ABORT of a busy port ends its transfer early; else STATE or ARG. RECOVER of an idle I2C controller runs. A transfer that moved everything, or was aborted, ends with BUSY clear and its event; an I2C transaction ends with a result that its state allows, with the error event where that is not OK. A read of the XIP window answers from the prefetch line, which it fills where it misses, or 0 where the access is refused. A PPS edge of the chosen polarity loads beat, phase and RTC, marks an overrun of an unread one, and 1.5 s without edges is told once. -/
def Obligations.SpiI2cAndPps : Prop :=
  ∀ (s : State) (i : Initiator) (n : Fin 3) (d : Fin 2) (a : Word) (miso : List Word) (ans line : List Byte) (z : Fin 4) (res : Fin 6) (up : Bool),
    let k := n.val + 1
    let x := s.spi k
    let len := s.fld (SPI_XFER k) 0 16
    let cmd := fun (v : Word) => s.serves i (SPI_CMD k) v = true
    let no := fun (j : Instr) (p : CmdPort) (code : Nat) => exec j s = .next (s.reject p code)
    let kept := fun (u : State) (l : List Nat) => SameRegsBut s u l ∧ u.mem = s.mem
    let o := s.ospi
    let dir := s.fld OSPI_ICMD 22 2
    let ocmd := fun (v : Word) => s.serves i OSPI_CMD v = true
    let c := d.val
    let y := s.i2c c
    let busy := s.i2cBusy c
    let nw := s.fld (I2C_XACT c) 8 8
    let nr := s.fld (I2C_XACT c) 16 8
    let icmd := fun (v : Word) => s.serves i (I2C_CMD c) v = true
    let kw := min nw y.fifo.length
    let kr := if kw = nw then min nr (16 - (y.fifo.length - kw)) else 0
    let mv := min (min len x.tx.length) (16 - x.rx.length)
    let got := min (s.fld OSPI_ILEN 0 13) (64 - o.rx.length)
    let put := min (min (s.fld OSPI_ILEN 0 13) o.tx.length) 64
    let size := (Size.ofCode z.val).bytes
    let window := s.powered = true ∧ regionOf a.toNat = some .xip
    let ok := s.judge i a.toNat false (Size.ofCode z.val) 0 = none
    let part := fun (l : List Byte) => ofLe ((l.drop (a.toNat % 64)).take size)
    let ended := Instr.i2cDone d res
    let pps := s.bit SYS_CLKEN 17 = true ∧ s.bit PPS_CFG 0 = true
    let edge := pps ∧ s.pinFunc 1 15 = 1 ∧ up ≠ s.bit PPS_CFG 1
    (cmd 1 → s.spiBusy k = false → 0 < len → Ends (.spiStart i n miso) s (fun u => u.spiBusy k = true ∧ (u.spi k).left = len - mv ∧
      (u.spi k).cs = true ∧ (u.spi k).tx = x.tx.drop mv ∧ (u.spi k).mosi = (x.tx.take mv).map (fun w => w &&& s.spiMask k) ∧
      (u.spi k).rx.length = x.rx.length + mv ∧ (u.spi k).rx.take x.rx.length = x.rx ∧
      (mv ≤ miso.length → (u.spi k).rx = x.rx ++ (miso.take mv).map (fun w => w &&& s.spiMask k)) ∧
      kept u [SPI_STAT k, SPI_CMDST k])) ∧
    (cmd 1 → s.spiBusy k = true → no (.spiStart i n miso) (spiPort k) ST_STATE) ∧
    (cmd 1 → s.spiBusy k = false → len = 0 → no (.spiStart i n miso) (spiPort k) ST_ARG) ∧
    (cmd 2 → s.spiBusy k = true → Ends (.spiAbort i n) s (fun u => (u.spi k).aborting = true ∧ u.spiBusy k = true ∧ kept u [SPI_STAT k, SPI_CMDST k])) ∧
    (cmd 2 → s.spiBusy k = false → no (.spiAbort i n) (spiPort k) ST_STATE) ∧
    (s.spiBusy k = true → (x.left = 0 ∨ x.aborting = true) → Ends (.spiDone n) s (fun u => u.spiBusy k = false ∧ u.bit (SPI_EVT k) 0 = true ∧
      (u.spi k).cs = s.bit (SPI_XFER k) 16 ∧ (u.spi k).rx = x.rx ∧ (s.isLevel (794 + 2 * k) = false → u.pendOf (794 + 2 * k) = true) ∧ u.mem = s.mem)) ∧
    ((s.spiBusy k = false ∨ (x.left ≠ 0 ∧ x.aborting = false)) → exec (.spiDone n) s = .next s) ∧
    (ocmd 1 → s.ospiBusy = false → s.ospiBad = false → Ends (.ospiStart i ans) s (fun u => u.ospiBusy = true ∧ u.ospi.line = none ∧
      (dir = 0 → u.ospi.left = 0 ∧ u.ospi.rx = o.rx ∧ u.ospi.tx = o.tx) ∧
      (dir = 1 → u.ospi.left = s.fld OSPI_ILEN 0 13 - got ∧ u.ospi.rx.length = o.rx.length + got ∧ u.ospi.rx.take o.rx.length = o.rx ∧
        u.ospi.tx = o.tx ∧ (got ≤ ans.length → u.ospi.rx = o.rx ++ ans.take got)) ∧
      (dir = 2 → u.ospi.left = s.fld OSPI_ILEN 0 13 - put ∧ u.ospi.sent = o.tx.take put ∧ u.ospi.tx = o.tx.drop put ∧ u.ospi.rx = o.rx) ∧
      kept u [OSPI_STAT, OSPI_CMDST])) ∧
    (ocmd 1 → s.ospiBusy = true → no (.ospiStart i ans) ospiPort ST_STATE) ∧
    (ocmd 1 → s.ospiBusy = false → s.ospiBad = true → no (.ospiStart i ans) ospiPort ST_ARG) ∧
    (ocmd 2 → s.ospiBusy = true → Ends (.ospiAbort i) s (fun u => u.ospi.aborting = true ∧ u.ospiBusy = true ∧ kept u [OSPI_STAT, OSPI_CMDST])) ∧
    (ocmd 2 → s.ospiBusy = false → no (.ospiAbort i) ospiPort ST_STATE) ∧
    (s.ospiBusy = true → (o.left = 0 ∨ o.aborting = true) → Ends .ospiDone s (fun u => u.ospiBusy = false ∧ u.bit OSPI_EVT 0 = true ∧
      u.ospi.line = none ∧ u.ospi.rx = o.rx ∧ u.mem = s.mem)) ∧
    ((s.ospiBusy = false ∨ (o.left ≠ 0 ∧ o.aborting = false)) → exec .ospiDone s = .next s) ∧
    (¬window → exec (.xipRead i a z line) s = .next s) ∧
    (∀ l, window → ok → o.line = some (a.toNat / 64, l) → exec (.xipRead i a z line) s = .next { s with rdata := part l }) ∧
    (window → ok → (∀ l, o.line ≠ some (a.toNat / 64, l)) → Ends (.xipRead i a z line) s (fun u => ∃ g,
      g.length = 64 - min 64 line.length ∧ u.rdata = part (line.take 64 ++ g) ∧ u.ospi.line = some (a.toNat / 64, line.take 64 ++ g) ∧
      u.regs = s.regs ∧ u.mem = s.mem)) ∧
    (window → ¬ok → Ends (.xipRead i a z line) s (fun u => u.rdata = 0 ∧ u.ospi = o ∧ u.mem = s.mem)) ∧
    (icmd 1 → busy = false → 0 < nw + nr → y.fifo.length ≤ 16 → Ends (.i2cStart i d ans) s (fun u => u.i2cBusy c = true ∧
      (u.i2c c).sent = y.fifo.take kw ∧ (u.i2c c).wleft = nw - kw ∧ (u.i2c c).rleft = nr - kr ∧
      (u.i2c c).fifo.length = y.fifo.length - kw + kr ∧ (kr ≤ ans.length → (u.i2c c).fifo = y.fifo.drop kw ++ ans.take kr) ∧
      u.fld (I2C_STAT c) 8 8 = kw + kr ∧ u.bit (I2C_STAT c) 1 = true ∧ kept u [I2C_STAT c, I2C_CMDST c])) ∧
    (icmd 1 → busy = true → no (.i2cStart i d ans) (i2cPort c) ST_STATE) ∧
    (icmd 1 → busy = false → nw = 0 → nr = 0 → no (.i2cStart i d ans) (i2cPort c) ST_ARG) ∧
    (icmd 2 → busy = true → Ends (.i2cAbort i d) s (fun u => (u.i2c c).aborting = true ∧ kept u [I2C_CMDST c])) ∧
    (icmd 2 → busy = false → no (.i2cAbort i d) (i2cPort c) ST_STATE) ∧
    (icmd 4 → busy = false → Ends (.i2cRecover i d) s (fun u => (u.i2c c).recovering = true ∧ u.i2cBusy c = true ∧
      kept u [I2C_STAT c, I2C_CMDST c])) ∧
    (icmd 4 → busy = true → no (.i2cRecover i d) (i2cPort c) ST_STATE) ∧
    (busy = true → s.i2cMayEnd c res.val = true → Ends ended s (fun u => u.i2cBusy c = false ∧ u.fld (I2C_STAT c) 4 4 = res.val ∧
      u.bit (I2C_EVT c) 0 = true ∧ (0 < res.val → u.bit (I2C_EVT c) 1 = true ∧ u.bit (I2C_STAT c) 1 = false) ∧
      (res = 0 → u.bit (I2C_STAT c) 1 = (s.bit (I2C_XACT c) 24 && !y.recovering && !y.aborting)) ∧
      (u.i2c c).fifo = (if res.val = 3 then [] else y.fifo) ∧ u.mem = s.mem)) ∧
    ((busy = false ∨ s.i2cMayEnd c res.val = false) → exec ended s = .next s) ∧
    (s.i2cMayEnd c res.val = true ↔ if y.recovering then res = 0 ∨ res = 5 else if res = 0 then (y.wleft = 0 ∧ y.rleft = 0) ∨ y.aborting = true
      else if res = 4 then s.fld (I2C_TOUT c) 0 16 ≠ 0 else res ≠ 5) ∧
    (edge → Ends (.ppsEdge up) s (fun u => u.rg64 PPS_BEAT_LO = s.beatNo ∧ u.rg PPS_PHASE = s.rg BEAT_PHASE ∧
      u.rg PPS_RTCSUB = s.rg MIT_RTC_SUB ∧ u.rg PPS_RTCSEC = s.rg MIT_RTC_SEC_LO ∧ u.bit PPS_EVT 0 = true ∧
      (s.pps.unread = true → u.bit PPS_EVT 2 = true) ∧ u.pps.unread = true ∧ u.mem = s.mem)) ∧
    (¬edge → exec (.ppsEdge up) s = .next s) ∧
    (pps → s.pps.lost = false → Ends .ppsLoss s (fun u => u.bit PPS_EVT 1 = true ∧ u.pps.lost = true ∧ u.mem = s.mem)) ∧
    ((¬pps ∨ s.pps.lost = true) → exec .ppsLoss s = .next s)

/-- Power-on, brown-out, pin, watchdog, software, link and Park-wake resets each complete from any state in which their cause acts. Then PWR_RSTCAUSE shows the kind, SEEN adds it to those since power-on, the cores and the power state are as after reset, the Mitten, the Ledger's slots, the keys and the commands that wait are kept, and every register outside the event concentrator is kept where the kind keeps it and has its reset value where it does not, but for those that the reset itself loads. Bytes that the kind keeps are unchanged where no program of the MRAM was cut short. In Off, brown-out and RST_N change nothing; with no grace running, without power, with a wrong key (ARG), with a RESET frame not delivered, not authorised, not from the lead, or not for this device and term (counted), or without a wake condition, nothing is reset. -/
def Obligations.Resets : Prop :=
  ∀ (s : State) (i : Initiator) (sel : Fin 8) (p : Fin 2) (f : Llp) (buck : Bool) (v : Word) (a : Nat) (m : Fin 7) (c : CoreId),
    let r := s.receive p.val (frameOf f 12)
    let loaded := [PWR_RSTCAUSE, BOOT_STAT, PWR_STAT, FLT_CAUSE] ++ (List.range 5).map (fun q => GPIO_IN q)
    let resets := fun (j : Instr) (b : State) (k : Nat) => Ends j s (fun u =>
      u.fld PWR_RSTCAUSE 0 4 = k ∧ u.bit PWR_RSTCAUSE (17 + m.val) = (decide (k ≠ 1) && (decide (k = m.val + 1) || b.bit PWR_RSTCAUSE (17 + m.val))) ∧
      u.core c = State.reset.core c ∧ u.pwr = State.reset.pwr ∧ u.mit = b.mit ∧ u.ldg.slots = b.ldg.slots ∧ u.gnt.keys = b.gnt.keys ∧
      u.pending = b.pending ∧ (regionOf a ≠ some (.periph 3) → a ∉ loaded → u.rg a = (if keepsReg k a then b.rg a else resetOf a)) ∧
      ((3 ≤ k ∨ b.ms.programming = []) → keepsByte k a = true → u.byteAt a = b.byteAt a))
    let frame := frameOf f 12
    let mine := r.deliver = true ∧ r.st.bit LNK_RSTAUTH 0 = true ∧ r.st.lnk.hasLead = true ∧ frame.src = r.st.leadId ∧ 12 ≤ frame.payload.length ∧
      fieldAt frame.payload 0 8 = Config.dieUid.toNat ∧ fieldAt frame.payload 8 4 = r.st.ldg.nv.term
    resets (.powerOnReset sel buck) s 1 ∧ (s.pwr ≠ .off → resets (.brownOutReset sel) s 2) ∧ (s.pwr ≠ .off → resets (.pinReset sel) s 3) ∧
    (s.pwr = .off → exec (.brownOutReset sel) s = .next s ∧ exec (.pinReset sel) s = .next s) ∧
    (s.gnt.wdgGrace.isSome = true → resets .wdgGraceEnd s 4) ∧ (s.gnt.wdgGrace = none → exec .wdgGraceEnd s = .next s) ∧
    (∀ x, s.gnt.wdgGrace = some x → Ends .wdgGraceEnd s (fun u => u.fld FLT_CAUSE 0 4 = x % 16)) ∧
    (s.powered = true → resets .g0Mismatch s 4 ∧ Ends .g0Mismatch s (fun u => u.fld FLT_CAUSE 0 4 = 5)) ∧
    (s.powered = false → exec .g0Mismatch s = .next s) ∧
    (s.serves i PWR_SWRST 0x5A3C = true → resets (.swReset i 0x5A3C) s 5) ∧
    (s.serves i PWR_SWRST v = true → v ≠ 0x5A3C → exec (.swReset i v) s = .next (s.reject pwrPort ST_ARG)) ∧
    (r.deliver = false → exec (.resetFrameRx p f) s = .next r.st) ∧ (mine → resets (.resetFrameRx p f) r.st 6) ∧
    (r.deliver = true → ¬mine → exec (.resetFrameRx p f) s = .next r.st.lnkIgnore) ∧
    (s.pwr = .park → (s.wakeFlag = true ∨ s.lnk.wakeAsked = true) → resets .parkWake s 7) ∧
    ((s.pwr ≠ .park ∨ (s.wakeFlag = false ∧ s.lnk.wakeAsked = false)) → exec .parkWake s = .next s)

/-- Doze is entered when it is enabled and every core is stopped. In a state where the fabric serves the write, PARK with its key holds every core and enters towards Park, unless the device holds the beat for its followers (STATE); OFF needs its key and neither HOLD nor a wake flag, and raises the warning; a wrong key is ARG. With the Ledger still, Park is reached, with kept registers and bytes, and what the link wake receivers need; with it QUIET, Off. The loss of VSYS is Off from any state. The warning rises when VSYS stays below V_PFW and falls above it by more than 50 mV, with its events. Faults of the regulator and of a bank are posted while the core domain is powered. In every other state each of these changes nothing. -/
def Obligations.PowerStates : Prop :=
  ∀ (s : State) (i : Initiator) (key : BitVec 16) (vsys : Word) (b : Fin 5) (a : Nat) (c : CoreId),
    let park := BitVec.ofNat 32 (0x10000000 + key.toNat)
    let off := BitVec.ofNat 32 (0x20000000 + key.toNat)
    let no := fun (j : Instr) (code : Nat) => exec j s = .next (s.reject pwrPort code)
    let stays := fun (j : Instr) => exec j s = .next s
    let follows := s.bit BEAT_STAT 3 = true
    let held := s.bit MIT_PWRON 0 = true ∨ s.wakeFlag = true
    let warned := s.bit PWR_STAT 4 = true
    let isOff := fun (u : State) => u.pwr = .off ∧ u.mit = s.mit ∧ u.core c = State.reset.core c ∧ (keepsReg 1 a = true → u.rg a = s.rg a) ∧
      (s.ms.programming = [] → 0x18000000 ≤ a → a ≤ 0x181FFFFF → u.byteAt a = s.byteAt a)
    (s.pwr = .run → s.bit PWR_CTL 0 = true → (∀ k, (s.core k).stopped = true) → Ends .dozeEntry s (fun u => u.pwr = .doze ∧
      u.fld PWR_STAT 0 2 = 1 ∧ SameRegsBut s u [PWR_STAT] ∧ u.mem = s.mem)) ∧
    ((s.pwr ≠ .run ∨ s.bit PWR_CTL 0 = false ∨ (s.core c).stopped = false) → stays .dozeEntry) ∧
    (s.serves i PWR_CMD park = true → ¬follows → key = 0x5041 → Ends (.pwrPark i key) s (fun u => u.pwr = .toPark ∧
      u.core c = { s.core c with run := .held } ∧ SameRegsBut s u [PWR_CMDST, PWR_STAT] ∧ u.mem = s.mem)) ∧
    (s.serves i PWR_CMD park = true → follows → no (.pwrPark i key) ST_STATE) ∧
    (s.serves i PWR_CMD park = true → ¬follows → key ≠ 0x5041 → no (.pwrPark i key) ST_ARG) ∧
    (s.serves i PWR_CMD off = true → ¬held → key = 0x5041 → Ends (.pwrOff i key) s (fun u => u.pwr = .toOff ∧ u.bit PWR_STAT 4 = true ∧
      (¬warned → u.bit PWR_EVT 0 = true ∧ (s.isLevel 18 = false → u.pendOf 18 = true) ∧ (s.ldgState = 2 → u.ldgState = 3)) ∧
      (warned → SameRegsBut s u [PWR_CMDST]) ∧ u.mem = s.mem)) ∧
    (s.serves i PWR_CMD off = true → held → no (.pwrOff i key) ST_STATE) ∧
    (s.serves i PWR_CMD off = true → ¬held → key ≠ 0x5041 → no (.pwrOff i key) ST_ARG) ∧
    (s.pwr = .toPark → s.ldgStill = true → Ends .parkEntryDone s (fun u => u.pwr = .park ∧ u.mit = s.mit ∧ u.core c = State.reset.core c ∧
      u.rg LNK_ID = s.rg LNK_ID ∧ u.rg (LNK_PORT 0) = s.rg (LNK_PORT 0) ∧ u.rg (LNK_PORT 1) = s.rg (LNK_PORT 1) ∧
      u.rg PWR_RSTCAUSE = s.rg PWR_RSTCAUSE ∧ u.fld BOOT_STAT 0 3 = s.fld BOOT_STAT 0 3 ∧ u.lnk.wakeAsked = s.lnk.wakeAsked ∧
      (keepsReg 7 a = true → u.rg a = s.rg a) ∧ (keepsByte 7 a = true → u.byteAt a = s.byteAt a))) ∧
    ((s.pwr ≠ .toPark ∨ s.ldgStill = false) → stays .parkEntryDone) ∧
    (s.pwr = .toOff → s.bit LDG_STAT 8 = true → Ends .offEntryDone s isOff) ∧
    ((s.pwr ≠ .toOff ∨ s.bit LDG_STAT 8 = false) → stays .offEntryDone) ∧ Ends .vsysLoss s isOff ∧
    (s.powered = true → s.bit PWR_PFW 31 = true → ¬warned → vsys.toNat < 2000 + 50 * s.fld PWR_PFW 0 5 → Ends (.pfwRise vsys) s (fun u =>
      u.bit PWR_STAT 4 = true ∧ u.bit PWR_EVT 0 = true ∧ (s.isLevel 18 = false → u.pendOf 18 = true) ∧ (s.ldgState = 2 → u.ldgState = 3) ∧ u.mem = s.mem)) ∧
    ((s.powered = false ∨ s.bit PWR_PFW 31 = false ∨ warned ∨ 2000 + 50 * s.fld PWR_PFW 0 5 ≤ vsys.toNat) → stays (.pfwRise vsys)) ∧
    (s.powered = true → warned → s.pwr ≠ .toOff → 2050 + 50 * s.fld PWR_PFW 0 5 < vsys.toNat → Ends (.pfwFall vsys) s (fun u =>
      u.bit PWR_STAT 4 = false ∧ u.bit PWR_EVT 1 = true ∧ (s.isLevel 19 = false → u.pendOf 19 = true) ∧ u.mem = s.mem)) ∧
    ((s.powered = false ∨ ¬warned ∨ s.pwr = .toOff ∨ vsys.toNat ≤ 2050 + 50 * s.fld PWR_PFW 0 5) → stays (.pfwFall vsys)) ∧
    (s.powered = true → Ends .regulatorFault s (fun u => u.bit PWR_EVT 4 = true ∧ (s.isLevel 22 = false → u.pendOf 22 = true) ∧ u.mem = s.mem) ∧
      Ends (.vioLow b) s (fun u => u.bit PWR_STAT (8 + b.val) = false ∧ u.bit PWR_EVT 3 = true ∧ (s.isLevel 21 = false → u.pendOf 21 = true) ∧
        u.mem = s.mem) ∧
      Ends (.vioReturn b) s (fun u => u.bit PWR_STAT (8 + b.val) = true ∧ SameRegsBut s u [PWR_STAT] ∧ u.mem = s.mem)) ∧
    (s.powered = false → stays .regulatorFault ∧ stays (.vioLow b) ∧ stays (.vioReturn b))

/-- Where C0 is held and not yet handed over, the start of boot runs C0 from address 0 with XIN and PLL_SYS ready, and with a reserved BOOTSEL stops it with ERR SEL; else, as after each copy that fails, the boot ROM goes on to the next copy: a link boot with a device record of MGR 0 sets LINK and asks for the first 8,192 bytes, one without stops C0 with ERR DEVREC, and with no copy left C0 stops with IE 0. A copy in which every check passes is handed over: C0 and G0 run at the entries of their images in Host and Guard level, the copy, RESTR and DONE stand in BOOT_STAT, the versions in their registers, the clocks of DMA, SPI and, after eMMC, EMMC are on, and XIP after Octal SPI; a copy that cannot be read or fails a check loads ERR and counts FAILS. In a state where the fabric serves the write: SYS_CSTART starts every named core at its entry where all are held at legal entries, else STATE or ARG; ADVANCE writes a counter no lower than it stands (a free value where it is unreadable, log entry 30), else ARG; PROVISION writes the digest into an empty root, else STATE or ARG. Each changes nothing where it does not apply. -/
def Obligations.Boot : Prop :=
  ∀ (s : State) (i : Initiator) (v : Word) (n : Fin 4) (x : Fin 16) (val : BitVec 16) (bundle : Option (List Byte)) (mode : Fin 3),
    let boots := s.c0.run = .held ∧ s.bit BOOT_STAT 10 = false ∧ s.pwr = .run
    let begun := ({ s with c0 := { s.c0 with run := .running, pc := 0 } }.setBit SYS_CLKSTAT 0 true).setBit SYS_CLKSTAT 3 true
    let sel := s.fld BOOT_STAT 0 3
    let stop := fun (r : State) => { r with c0 := { r.c0 with run := .idleLoop, status := withBit r.c0.status 2 false } }
    let bad := fun (r : State) (e : Nat) => (r.setFld BOOT_STAT 12 4 e).setFld BOOT_STAT 16 2 (r.fld BOOT_STAT 16 2 + 1)
    let goesOn := fun (j : Instr) (r : State) => (r.nextCopy = none → exec j s = .next (stop r)) ∧
      (∀ k, r.nextCopy = some k → k ≠ 4 → exec j s = .next r) ∧
      (r.nextCopy = some 4 → (∀ d, r.deviceRecord ≠ some (d, false)) → exec j s = .next (stop (bad r 8))) ∧
      (∀ d, r.nextCopy = some 4 → r.deviceRecord = some (d, false) → Ends j s (fun u => u.bit BOOT_STAT 11 = true ∧
        u.lnk.bootReqs = (List.range 8).map (fun q => (1024 * q, 1024)) ∧ u.c0 = r.c0 ∧ u.mem = r.mem))
    let hand := Instr.bootHandover bundle mode
    let names := s.serves i SYS_CSTART v = true ∧ ∃ m : Fin 4, bitOf v m.val = true
    let held := ∀ m : Fin 4, bitOf v m.val = true → s.started m.val = false
    let legal := ∀ m : Fin 4, bitOf v m.val = true → s.centry m.val % 4 = 0 ∧ appMayFetch (s.centry m.val) = true
    let c := CoreId.app n
    let adv := s.serves i BOOT_CMD (BitVec.ofNat 32 (0x10000000 + 65536 * x.val + val.toNat)) = true
    let ctr := 0x181F0000 + 8 * x.val
    let cnt := s.arbRead x.val
    let prov := s.serves i BOOT_CMD (BitVec.ofNat 32 (0x20000000 + 65536 * x.val)) = true
    let seen := s.recordSeen (rootAddr x.val) (rootAddr (x.val + 1))
    (boots → 4 ≤ sel → exec .bootStart s = .next (stop (begun.setFld BOOT_STAT 12 4 9))) ∧
    (boots → sel < 4 → goesOn .bootStart begun) ∧ (¬boots → exec .bootStart s = .next s) ∧
    ((s.inBoot = false ∨ s.nextCopy = none) → exec hand s = .next s) ∧
    (∀ k, s.inBoot = true → s.nextCopy = some k →
      let got := if k = 4 then s.stagedBundle else (bundle, s)
      (got.1 = none → goesOn hand (bad got.2 1)) ∧
      (∀ b e t, got.1 = some b → got.2.checkBundle b (k == 4) = (e, t) → 0 < e → goesOn hand (bad t e)) ∧
      (∀ b t, got.1 = some b → got.2.checkBundle b (k == 4) = (0, t) →
        let app := b.drop (roundUp (imgLen b) 4096)
        let entry := imgEntry app
        let own := (if Config.stepA1 then 1 else 0) + 256 + 65536 * imgField b 0x0C 2 + 0x100000000 * imgField app 0x18 1
        Ends hand s (fun u => u.c0.run = .running ∧ u.g0.run = .running ∧
          u.c0.pc = BitVec.ofNat 32 (if 0x08100000 ≤ entry ∧ entry ≤ 0x0810FFFF then entry - 0x100000 else entry) ∧
          u.g0.pc = BitVec.ofNat 32 (imgEntry b) ∧ u.c0.status = 1 ∧ u.g0.status = 2 ∧ u.c0.vbase = 0 ∧ u.g0.vbase = 0 ∧
          u.fld BOOT_STAT 4 3 = k ∧ u.bit BOOT_STAT 10 = true ∧ (u.bit BOOT_STAT 8 = true ↔ own ∉ compatOf app) ∧
          (k = 4 → u.bit BOOT_STAT 11 = false) ∧ u.bit SYS_CRUN 0 = true ∧ u.bit SYS_CRUN 4 = true ∧
          u.rg SYS_CLKEN = BitVec.ofNat 32 (0x10001 + (if k = 2 ∨ k = 3 then 0x40000 else 0)) ∧ (k < 2 → u.rg OSPI_XCTL = 1) ∧
          u.rg BOOT_GNTVER = BitVec.ofNat 32 (imgField b 0x0C 2) ∧ u.rg BOOT_APPVER = BitVec.ofNat 32 (imgField app 0x0C 4) ∧
          u.rg BOOT_NCOMPAT = BitVec.ofNat 32 (imgNcompat app) ∧ (t.fld BOOT_STAT 16 2 ≠ 0 → u.bit BOOT_EVT 0 = true)))) ∧
    (names → held → legal → Ends (.sysCstart i v) s (fun u =>
      (bitOf v n.val = true → u.bit SYS_CRUN n.val = true ∧
        u.core c = { Core.atReset 1 with run := .running, pc := BitVec.ofNat 32 (s.centry n.val), cycle := (s.core c).cycle }) ∧
      (bitOf v n.val = false → u.bit SYS_CRUN n.val = s.bit SYS_CRUN n.val ∧ u.core c = s.core c) ∧ u.g0 = s.g0 ∧
      SameRegsBut s u [SYS_CRUN, PWR_CMDST] ∧ u.mem = s.mem)) ∧
    (names → ¬held → exec (.sysCstart i v) s = .next (s.reject pwrPort ST_STATE)) ∧
    (names → held → ¬legal → exec (.sysCstart i v) s = .next (s.reject pwrPort ST_ARG)) ∧
    (s.serves i SYS_CSTART v = true → (∀ m : Fin 4, bitOf v m.val = false) → exec (.sysCstart i v) s = .next s) ∧
    (adv → cnt.1 ≤ val.toNat → Ends (.bootAdvance i x val) s (fun u => u.peek ctr 8 = val.toNat ∧ SameBytesBut cnt.2 u ctr 8 ∧
      u.bit BOOT_EVT 1 = true ∧ (cnt.2.isLevel 24 = false → u.pendOf 24 = true))) ∧
    (adv → val.toNat < cnt.1 → exec (.bootAdvance i x val) s = .next (cnt.2.reject bootPort ST_ARG)) ∧
    (∀ w, (s.recordSeen ctr (ctr + 8)).mramWord ctr = some w → cnt.1 = w % 65536) ∧
    (prov → x.val < 2 → seen.rootZero x.val = true → Ends (.bootProvision i x) s (fun u =>
      u.recordBytes (rootAddr x.val) 32 = natBytes 32 (seen.rgBe (CRY_HASH 0) 8) ∧ SameBytesBut seen u (rootAddr x.val) 32 ∧
      SameRegsBut seen u [BOOT_CMDST])) ∧
    (prov → x.val < 2 → seen.rootZero x.val = false → exec (.bootProvision i x) s = .next (seen.reject bootPort ST_STATE)) ∧
    (prov → 2 ≤ x.val → exec (.bootProvision i x) s = .next (s.reject bootPort ST_ARG))

/-- In any state in which the blitter runs the valid EVENT command with number n at the front of its ring, the command completes and source 300 + n is raised: its pending bit is set if the source is edge-triggered. The command has then ended, and no memory changes. -/
def Obligations.BlitterEvent : Prop :=
  ∀ (s : State) (ws : List Word) (n : Fin 4),
    s.blt.cmd = some ws → s.bltState = 1 → s.blt.ended = false → s.blt.cut = false → s.bit BLT_STAT 2 = false → s.bit SYS_CLKEN 1 = true →
    (bltDecode ws).op = 0x11 → (bltDecode ws).ok = true → (bltDecode ws).rop % 4 = n.val →
    Ends .bltEvent s (fun u => (s.isLevel (300 + n.val) = false → u.pendOf (300 + n.val) = true) ∧
      (∀ k, k < 1024 → k ≠ 300 + n.val → u.pendOf k = s.pendOf k) ∧ u.blt.ended = true ∧ u.mem = s.mem)

/-- For every command and state: where the command stands at the front of the queue, a step is its execution on the state with the rest of the queue. With an empty queue a step is one clock cycle and leaves the queue empty (the model's own convention, log entry 5). No word of the opcode table spells a command, so placing one changes nothing (the table gives its rows no bits). -/
def Obligations.StepTakesFront : Prop :=
  ∀ (c : Instr) (s : State) (rest : List Instr) (nbits w : Nat),
    (s.pending = c :: rest → step s = exec c { s with pending := rest }) ∧
    (s.pending = [] → step s = .next (s.advance 1)) ∧ s.withFetchWord nbits w = s

/-- In the state after power-on reset every core is held at address 0, in Host level for C0 to C3 and Gauntlet level for G0; the power state is Run; every source of the event concentrator is masked and none pends; every pin is an input in GPIO function without interrupt, slow and with drive step 1; no commit group, DMA channel, timer or link role is active; MIT_STAT shows LOST; the reset kind is 1; every general register and every byte outside the boot ROM reads 0 (the model's choice, log entries 6 and 32); the queue is empty; and the sparse maps are in their canonical form. -/
def Obligations.ResetState : Prop :=
  ∀ (c : CoreId) (g : Fin 32) (p : Fin 5) (n : Fin 32) (k : Fin 8) (d : Fin 16) (a : Nat),
    let s := State.reset
    (s.core c).run = .held ∧ (s.core c).pc = 0 ∧ (s.core c).status.toNat % 4 = (if c = .g0 then 2 else 1) ∧ (s.core c).g = [] ∧ s.pwr = .run ∧
    s.pending = [] ∧ s.canonical = true ∧ (0x20000 ≤ a → s.byteAt a = 0) ∧ (g.val < 31 → s.rg (ECX_MASK g.val) = 0xFFFFFFFF) ∧ s.rg (ECX_PEND g.val) = 0 ∧
    s.rg (PIN_CFG p.val n.val) = 0x50 ∧ s.rg (GPIO_OUT p.val) = 0 ∧ s.cgState k.val = 0 ∧ s.rg (DMA_CH_STAT d.val) = 0 ∧ s.tmrRun d.val = false ∧
    s.beatNo = 0 ∧ s.rg MIT_STAT = 2 ∧ s.rg PWR_RSTCAUSE = 1 ∧ s.rg SYS_CLKEN = 0 ∧ s.adm = 0 ∧ s.ldgState = 0 ∧ s.xpaState = 0

/-- For every command that is an instruction of a core and is well-formed (its pair registers even, no reserved condition, no cache operation spelled as a plain control-register write): decoding the word that encodes it, on the core it names, gives the instruction back with every operand at every value that the encoding admits; the choices of DONE and POST, which no word carries, are 0 in the answer. A word that decodes to nothing is exactly one that makes a well-formed undefined word. -/
def Obligations.EncodeDecode : Prop :=
  ∀ (i : Instr) (c : CoreId) (w : Word),
    (i.wellFormed = true → encodeRyux i = some (c, w) → decodeRyux c w = some i.dropPick) ∧
    ((Instr.undefinedWord c w).wellFormed = true ↔ decodeRyux c w = none)
end

