-- ==== Sys2Proof/Laws/Bits.lean ====
section
/-! SUPPORT. Laws of the bit-field helpers: a field and a bit read after a field or a bit is replaced. -/

namespace Sys2Proof.Machine

theorem getLsbD_withField (w : Word) (lo len v i : Nat) (hi : i < 32) :
    (withField w lo len v).getLsbD i = if lo ≤ i ∧ i < lo + len then v.testBit (i - lo) else w.getLsbD i := by
  have h1 : ((2 ^ len - 1) <<< lo).testBit i = decide (lo ≤ i ∧ i < lo + len) := by
    rw [Nat.testBit_shiftLeft, Nat.testBit_two_pow_sub_one]
    by_cases h : lo ≤ i <;> simp [h]
    omega
  have h2 : ((v % 2 ^ len) <<< lo).testBit i = (decide (lo ≤ i ∧ i < lo + len) && v.testBit (i - lo)) := by
    rw [Nat.testBit_shiftLeft, Nat.testBit_mod_two_pow]
    by_cases h : lo ≤ i
    · have : (i - lo < len) ↔ (i < lo + len) := by omega
      simp [h, this]
    · simp [h]
  simp only [withField, BitVec.getLsbD_or, BitVec.getLsbD_and, BitVec.getLsbD_not, BitVec.getLsbD_ofNat, hi, h1, h2,
    decide_true, Bool.true_and]
  by_cases h : lo ≤ i ∧ i < lo + len <;> simp [h]

theorem bitOf_withField (w : Word) (lo len v n : Nat) (hn : n < 32) :
    bitOf (withField w lo len v) n = if lo ≤ n ∧ n < lo + len then v.testBit (n - lo) else bitOf w n :=
  getLsbD_withField w lo len v n hn

theorem bitOf_withBit (w : Word) (n m : Nat) (b : Bool) (hm : m < 32) :
    bitOf (withBit w n b) m = if m = n then b else bitOf w m := by
  unfold withBit
  rw [bitOf_withField w n 1 _ m hm]
  by_cases h : m = n
  · subst h
    cases b <;> simp
  · have : ¬(n ≤ m ∧ m < n + 1) := by omega
    rw [if_neg this, if_neg h]

theorem testBit_fieldOf (w : Word) (lo len i : Nat) :
    (fieldOf w lo len).testBit i = (decide (i < len) && w.getLsbD (lo + i)) := by
  simp [fieldOf, Nat.testBit_mod_two_pow, Nat.testBit_shiftRight, BitVec.getLsbD]

theorem fieldOf_lt (w : Word) (lo len : Nat) : fieldOf w lo len < 2 ^ len := Nat.mod_lt _ (Nat.two_pow_pos len)

/-- A field reads as it was replaced. -/
theorem fieldOf_withField_same (w : Word) (lo len v : Nat) (h : lo + len ≤ 32) :
    fieldOf (withField w lo len v) lo len = v % 2 ^ len := by
  apply Nat.eq_of_testBit_eq
  intro i
  rw [testBit_fieldOf, Nat.testBit_mod_two_pow]
  by_cases hi : i < len
  · rw [getLsbD_withField w lo len v (lo + i) (by omega)]
    simp [hi]
  · simp [hi]

/-- A field beside the replaced one keeps its value. -/
theorem fieldOf_withField_other (w : Word) (lo len v lo' len' : Nat) (h : lo' + len' ≤ 32)
    (hd : lo' + len' ≤ lo ∨ lo + len ≤ lo') : fieldOf (withField w lo len v) lo' len' = fieldOf w lo' len' := by
  apply Nat.eq_of_testBit_eq
  intro i
  rw [testBit_fieldOf, testBit_fieldOf]
  by_cases hi : i < len'
  · rw [getLsbD_withField w lo len v (lo' + i) (by omega)]
    have : ¬(lo ≤ lo' + i ∧ lo' + i < lo + len) := by omega
    simp [this]
  · simp [hi]

theorem fieldOf_withBit_other (w : Word) (n : Nat) (b : Bool) (lo len : Nat) (h : lo + len ≤ 32) (hd : n < lo ∨ lo + len ≤ n) :
    fieldOf (withBit w n b) lo len = fieldOf w lo len :=
  fieldOf_withField_other w n 1 _ lo len h (by omega)

theorem w32_toNat (n : Nat) : (w32 n).toNat = n % 2 ^ 32 := by simp [w32]

theorem fieldOf_zero_32 (w : Word) : fieldOf w 0 32 = w.toNat := by
  simp [fieldOf]
  exact w.isLt

end Sys2Proof.Machine
end

