-- ==== Sys2Proof/Laws/Maps.lean ====
section
/-! SUPPORT. Laws of the canonical sparse map: a read after a store, and that every operation keeps the canonical form. -/

namespace Sys2Proof.Machine

variable {α : Type}

theorem smGet_smErase (d : Nat → α) (m : List (Nat × α)) (k j : Nat) :
    smGet d (smErase m k) j = if j = k then d k else smGet d m j := by
  induction m with
  | nil => by_cases h : j = k <;> simp [smErase, smGet, h]
  | cons e m ih =>
    obtain ⟨i, v⟩ := e
    by_cases h : k = i
    · by_cases g : j = i <;> simp_all [smErase, smGet]
    · by_cases g : j = i <;> simp_all [smErase, smGet]
      intro e
      omega

theorem smGet_smPut (d : Nat → α) (m : List (Nat × α)) (k j : Nat) (x : α) :
    smGet d (smPut m k x) j = if j = k then x else smGet d m j := by
  induction m with
  | nil => simp [smPut, smGet]
  | cons e m ih =>
    obtain ⟨i, v⟩ := e
    by_cases h : k < i
    · simp [smPut, smGet, h]
    · by_cases g : k = i
      · by_cases q : j = i <;> simp_all [smPut, smGet]
      · by_cases q : j = i
        · subst q
          have : j ≠ k := fun e => g e.symm
          simp [smPut, smGet, h, g, this]
        · simp [smPut, smGet, h, g, q, ih]

/-- A read after a store: the value stored at its key, and what was there at every other key. -/
theorem smGet_smSet [DecidableEq α] (d : Nat → α) (m : List (Nat × α)) (k j : Nat) (x : α) :
    smGet d (smSet d m k x) j = if j = k then x else smGet d m j := by
  unfold smSet
  split
  · rename_i h; rw [smGet_smErase, h]
  · exact smGet_smPut d m k j x

/-! ### The canonical form -/

theorem smWfFrom_tail [DecidableEq α] {d : Nat → α} {lo : Option Nat} {e : Nat × α} {m : List (Nat × α)}
    (h : smWfFrom d lo (e :: m) = true) : smWfFrom d (some e.1) m = true := by
  obtain ⟨j, v⟩ := e
  simp [smWfFrom] at h
  exact h.2

/-- A lower bound may fall. -/
theorem smWfFrom_weaken [DecidableEq α] {d : Nat → α} {lo hi : Nat} {m : List (Nat × α)} (hl : lo ≤ hi)
    (h : smWfFrom d (some hi) m = true) : smWfFrom d (some lo) m = true := by
  cases m with
  | nil => rfl
  | cons e m =>
    obtain ⟨j, v⟩ := e
    simp [smWfFrom] at h ⊢
    exact ⟨⟨by omega, h.1.2⟩, h.2⟩

theorem smWfFrom_none [DecidableEq α] {d : Nat → α} {lo : Nat} {m : List (Nat × α)}
    (h : smWfFrom d (some lo) m = true) : smWfFrom d none m = true := by
  cases m with
  | nil => rfl
  | cons e m =>
    obtain ⟨j, v⟩ := e
    simp [smWfFrom] at h ⊢
    exact ⟨h.1.2, h.2⟩

theorem smWfFrom_smErase [DecidableEq α] (d : Nat → α) (lo : Option Nat) (m : List (Nat × α)) (k : Nat)
    (h : smWfFrom d lo m = true) : smWfFrom d lo (smErase m k) = true := by
  induction m generalizing lo with
  | nil => simpa [smErase] using h
  | cons e m ih =>
    obtain ⟨j, v⟩ := e
    have ht := smWfFrom_tail h
    by_cases g : k = j
    · simp only [smErase, g, if_true]
      have h2 := ih _ ht
      simp only at h2
      subst g
      cases lo with
      | none => exact smWfFrom_none h2
      | some l =>
        simp [smWfFrom] at h
        exact smWfFrom_weaken (by omega) h2
    · simp only [smErase, g, if_false]
      simp [smWfFrom] at h ⊢
      exact ⟨h.1, ih _ h.2⟩

theorem smWfFrom_smPut [DecidableEq α] (d : Nat → α) (lo : Option Nat) (m : List (Nat × α)) (k : Nat) (x : α)
    (hx : x ≠ d k) (hk : ∀ l, lo = some l → l < k) (h : smWfFrom d lo m = true) : smWfFrom d lo (smPut m k x) = true := by
  induction m generalizing lo with
  | nil =>
    cases lo with
    | none => simp [smPut, smWfFrom, hx]
    | some l => simp [smPut, smWfFrom, hx, hk l rfl]
  | cons e m ih =>
    obtain ⟨j, v⟩ := e
    have hlo : (match lo with | none => true | some l => decide (l < k)) = true := by
      cases lo with
      | none => rfl
      | some l => simp [hk l rfl]
    by_cases g : k < j
    · simp [smWfFrom] at h
      cases lo <;> simp_all [smPut, smWfFrom]
    · by_cases q : k = j
      · subst q
        simp [smWfFrom] at h
        cases lo <;> simp_all [smPut, smWfFrom]
      · simp [smWfFrom] at h
        have := ih (some j) (fun l e => by cases e; omega) h.2
        rw [smPut, if_neg g, if_neg q]
        cases lo <;> simp_all [smWfFrom]

/-- A store keeps the canonical form. -/
theorem smWf_smSet [DecidableEq α] {d : Nat → α} {m : List (Nat × α)} (h : smWf d m = true) (k : Nat) (x : α) :
    smWf d (smSet d m k x) = true := by
  unfold smSet
  split
  · exact smWfFrom_smErase d none m k h
  · rename_i hx
    exact smWfFrom_smPut d none m k x hx (fun l e => by cases e) h

theorem smWfFrom_filter [DecidableEq α] (d : Nat → α) (lo : Option Nat) (p : Nat × α → Bool) (m : List (Nat × α))
    (h : smWfFrom d lo m = true) : smWfFrom d lo (m.filter p) = true := by
  induction m generalizing lo with
  | nil => simpa using h
  | cons e m ih =>
    obtain ⟨j, v⟩ := e
    have ht := smWfFrom_tail h
    by_cases g : p (j, v) = true
    · rw [List.filter_cons_of_pos g]
      simp [smWfFrom] at h ⊢
      exact ⟨h.1, ih _ h.2⟩
    · rw [List.filter_cons_of_neg g]
      have h2 := ih _ ht
      cases lo with
      | none => exact smWfFrom_none h2
      | some l =>
        simp [smWfFrom] at h
        exact smWfFrom_weaken (by omega) h2

/-- Taking entries away keeps the canonical form. -/
theorem smWf_filter [DecidableEq α] {d : Nat → α} {m : List (Nat × α)} (h : smWf d m = true) (p : Nat × α → Bool) :
    smWf d (m.filter p) = true := smWfFrom_filter d none p m h

/-- Dropping keys keeps the canonical form. -/
theorem smWf_smDrop [DecidableEq α] {d : Nat → α} {m : List (Nat × α)} (h : smWf d m = true) (p : Nat → Bool) :
    smWf d (smDrop p m) = true := smWf_filter h _

end Sys2Proof.Machine
end

