-- ==== Sys2Proof/Laws/State.lean ====
section
/-! SUPPORT. What each update of the state leaves: one lemma a field an update, so that no proof unfolds a record. -/

namespace Sys2Proof.Machine

variable (s : State)

/-! ### setRg -/

@[simp] theorem State.setRg_live (a : Nat) (v : Word) : (s.setRg a v).live = s.live := rfl
@[simp] theorem State.setRg_latch (a : Nat) (v : Word) : (s.setRg a v).latch = s.latch := rfl
@[simp] theorem State.setRg_held (a : Nat) (v : Word) : (s.setRg a v).held = s.held := rfl
@[simp] theorem State.setRg_wosSpent (a : Nat) (v : Word) : (s.setRg a v).wosSpent = s.wosSpent := rfl
@[simp] theorem State.setRg_mem (a : Nat) (v : Word) : (s.setRg a v).mem = s.mem := rfl
@[simp] theorem State.setRg_c0 (a : Nat) (v : Word) : (s.setRg a v).c0 = s.c0 := rfl
@[simp] theorem State.setRg_c1 (a : Nat) (v : Word) : (s.setRg a v).c1 = s.c1 := rfl
@[simp] theorem State.setRg_c2 (a : Nat) (v : Word) : (s.setRg a v).c2 = s.c2 := rfl
@[simp] theorem State.setRg_c3 (a : Nat) (v : Word) : (s.setRg a v).c3 = s.c3 := rfl
@[simp] theorem State.setRg_g0 (a : Nat) (v : Word) : (s.setRg a v).g0 = s.g0 := rfl
@[simp] theorem State.setRg_beat (a : Nat) (v : Word) : (s.setRg a v).beat = s.beat := rfl
@[simp] theorem State.setRg_ecx (a : Nat) (v : Word) : (s.setRg a v).ecx = s.ecx := rfl
@[simp] theorem State.setRg_dis (a : Nat) (v : Word) : (s.setRg a v).dis = s.dis := rfl
@[simp] theorem State.setRg_ms (a : Nat) (v : Word) : (s.setRg a v).ms = s.ms := rfl
@[simp] theorem State.setRg_dma (a : Nat) (v : Word) : (s.setRg a v).dma = s.dma := rfl
@[simp] theorem State.setRg_gnt (a : Nat) (v : Word) : (s.setRg a v).gnt = s.gnt := rfl
@[simp] theorem State.setRg_lnk (a : Nat) (v : Word) : (s.setRg a v).lnk = s.lnk := rfl
@[simp] theorem State.setRg_ldg (a : Nat) (v : Word) : (s.setRg a v).ldg = s.ldg := rfl
@[simp] theorem State.setRg_pwr (a : Nat) (v : Word) : (s.setRg a v).pwr = s.pwr := rfl
@[simp] theorem State.setRg_pipes (a : Nat) (v : Word) : (s.setRg a v).pipes = s.pipes := rfl
@[simp] theorem State.setRg_visors (a : Nat) (v : Word) : (s.setRg a v).visors = s.visors := rfl
@[simp] theorem State.setRg_out (a : Nat) (v : Word) : (s.setRg a v).out = s.out := rfl
@[simp] theorem State.setRg_blt (a : Nat) (v : Word) : (s.setRg a v).blt = s.blt := rfl
@[simp] theorem State.setRg_aud (a : Nat) (v : Word) : (s.setRg a v).aud = s.aud := rfl
@[simp] theorem State.setRg_cams (a : Nat) (v : Word) : (s.setRg a v).cams = s.cams := rfl
@[simp] theorem State.setRg_recorder (a : Nat) (v : Word) : (s.setRg a v).recorder = s.recorder := rfl
@[simp] theorem State.setRg_emmc (a : Nat) (v : Word) : (s.setRg a v).emmc = s.emmc := rfl
@[simp] theorem State.setRg_xpa (a : Nat) (v : Word) : (s.setRg a v).xpa = s.xpa := rfl
@[simp] theorem State.setRg_tmr (a : Nat) (v : Word) : (s.setRg a v).tmr = s.tmr := rfl
@[simp] theorem State.setRg_adc (a : Nat) (v : Word) : (s.setRg a v).adc = s.adc := rfl
@[simp] theorem State.setRg_pads (a : Nat) (v : Word) : (s.setRg a v).pads = s.pads := rfl
@[simp] theorem State.setRg_mit (a : Nat) (v : Word) : (s.setRg a v).mit = s.mit := rfl
@[simp] theorem State.setRg_cans (a : Nat) (v : Word) : (s.setRg a v).cans = s.cans := rfl
@[simp] theorem State.setRg_uarts (a : Nat) (v : Word) : (s.setRg a v).uarts = s.uarts := rfl
@[simp] theorem State.setRg_spis (a : Nat) (v : Word) : (s.setRg a v).spis = s.spis := rfl
@[simp] theorem State.setRg_ospi (a : Nat) (v : Word) : (s.setRg a v).ospi = s.ospi := rfl
@[simp] theorem State.setRg_i2cs (a : Nat) (v : Word) : (s.setRg a v).i2cs = s.i2cs := rfl
@[simp] theorem State.setRg_pps (a : Nat) (v : Word) : (s.setRg a v).pps = s.pps := rfl
@[simp] theorem State.setRg_rdata (a : Nat) (v : Word) : (s.setRg a v).rdata = s.rdata := rfl
@[simp] theorem State.setRg_drawn (a : Nat) (v : Word) : (s.setRg a v).drawn = s.drawn := rfl
@[simp] theorem State.setRg_subUs (a : Nat) (v : Word) : (s.setRg a v).subUs = s.subUs := rfl
@[simp] theorem State.setRg_pending (a : Nat) (v : Word) : (s.setRg a v).pending = s.pending := rfl

/-! ### setFld -/

@[simp] theorem State.setFld_live (a lo len v : Nat) : (s.setFld a lo len v).live = s.live := rfl
@[simp] theorem State.setFld_latch (a lo len v : Nat) : (s.setFld a lo len v).latch = s.latch := rfl
@[simp] theorem State.setFld_held (a lo len v : Nat) : (s.setFld a lo len v).held = s.held := rfl
@[simp] theorem State.setFld_wosSpent (a lo len v : Nat) : (s.setFld a lo len v).wosSpent = s.wosSpent := rfl
@[simp] theorem State.setFld_mem (a lo len v : Nat) : (s.setFld a lo len v).mem = s.mem := rfl
@[simp] theorem State.setFld_c0 (a lo len v : Nat) : (s.setFld a lo len v).c0 = s.c0 := rfl
@[simp] theorem State.setFld_c1 (a lo len v : Nat) : (s.setFld a lo len v).c1 = s.c1 := rfl
@[simp] theorem State.setFld_c2 (a lo len v : Nat) : (s.setFld a lo len v).c2 = s.c2 := rfl
@[simp] theorem State.setFld_c3 (a lo len v : Nat) : (s.setFld a lo len v).c3 = s.c3 := rfl
@[simp] theorem State.setFld_g0 (a lo len v : Nat) : (s.setFld a lo len v).g0 = s.g0 := rfl
@[simp] theorem State.setFld_beat (a lo len v : Nat) : (s.setFld a lo len v).beat = s.beat := rfl
@[simp] theorem State.setFld_ecx (a lo len v : Nat) : (s.setFld a lo len v).ecx = s.ecx := rfl
@[simp] theorem State.setFld_dis (a lo len v : Nat) : (s.setFld a lo len v).dis = s.dis := rfl
@[simp] theorem State.setFld_ms (a lo len v : Nat) : (s.setFld a lo len v).ms = s.ms := rfl
@[simp] theorem State.setFld_dma (a lo len v : Nat) : (s.setFld a lo len v).dma = s.dma := rfl
@[simp] theorem State.setFld_gnt (a lo len v : Nat) : (s.setFld a lo len v).gnt = s.gnt := rfl
@[simp] theorem State.setFld_lnk (a lo len v : Nat) : (s.setFld a lo len v).lnk = s.lnk := rfl
@[simp] theorem State.setFld_ldg (a lo len v : Nat) : (s.setFld a lo len v).ldg = s.ldg := rfl
@[simp] theorem State.setFld_pwr (a lo len v : Nat) : (s.setFld a lo len v).pwr = s.pwr := rfl
@[simp] theorem State.setFld_pipes (a lo len v : Nat) : (s.setFld a lo len v).pipes = s.pipes := rfl
@[simp] theorem State.setFld_visors (a lo len v : Nat) : (s.setFld a lo len v).visors = s.visors := rfl
@[simp] theorem State.setFld_out (a lo len v : Nat) : (s.setFld a lo len v).out = s.out := rfl
@[simp] theorem State.setFld_blt (a lo len v : Nat) : (s.setFld a lo len v).blt = s.blt := rfl
@[simp] theorem State.setFld_aud (a lo len v : Nat) : (s.setFld a lo len v).aud = s.aud := rfl
@[simp] theorem State.setFld_cams (a lo len v : Nat) : (s.setFld a lo len v).cams = s.cams := rfl
@[simp] theorem State.setFld_recorder (a lo len v : Nat) : (s.setFld a lo len v).recorder = s.recorder := rfl
@[simp] theorem State.setFld_emmc (a lo len v : Nat) : (s.setFld a lo len v).emmc = s.emmc := rfl
@[simp] theorem State.setFld_xpa (a lo len v : Nat) : (s.setFld a lo len v).xpa = s.xpa := rfl
@[simp] theorem State.setFld_tmr (a lo len v : Nat) : (s.setFld a lo len v).tmr = s.tmr := rfl
@[simp] theorem State.setFld_adc (a lo len v : Nat) : (s.setFld a lo len v).adc = s.adc := rfl
@[simp] theorem State.setFld_pads (a lo len v : Nat) : (s.setFld a lo len v).pads = s.pads := rfl
@[simp] theorem State.setFld_mit (a lo len v : Nat) : (s.setFld a lo len v).mit = s.mit := rfl
@[simp] theorem State.setFld_cans (a lo len v : Nat) : (s.setFld a lo len v).cans = s.cans := rfl
@[simp] theorem State.setFld_uarts (a lo len v : Nat) : (s.setFld a lo len v).uarts = s.uarts := rfl
@[simp] theorem State.setFld_spis (a lo len v : Nat) : (s.setFld a lo len v).spis = s.spis := rfl
@[simp] theorem State.setFld_ospi (a lo len v : Nat) : (s.setFld a lo len v).ospi = s.ospi := rfl
@[simp] theorem State.setFld_i2cs (a lo len v : Nat) : (s.setFld a lo len v).i2cs = s.i2cs := rfl
@[simp] theorem State.setFld_pps (a lo len v : Nat) : (s.setFld a lo len v).pps = s.pps := rfl
@[simp] theorem State.setFld_rdata (a lo len v : Nat) : (s.setFld a lo len v).rdata = s.rdata := rfl
@[simp] theorem State.setFld_drawn (a lo len v : Nat) : (s.setFld a lo len v).drawn = s.drawn := rfl
@[simp] theorem State.setFld_subUs (a lo len v : Nat) : (s.setFld a lo len v).subUs = s.subUs := rfl
@[simp] theorem State.setFld_pending (a lo len v : Nat) : (s.setFld a lo len v).pending = s.pending := rfl

/-! ### setBit -/

@[simp] theorem State.setBit_live (a n : Nat) (b : Bool) : (s.setBit a n b).live = s.live := rfl
@[simp] theorem State.setBit_latch (a n : Nat) (b : Bool) : (s.setBit a n b).latch = s.latch := rfl
@[simp] theorem State.setBit_held (a n : Nat) (b : Bool) : (s.setBit a n b).held = s.held := rfl
@[simp] theorem State.setBit_wosSpent (a n : Nat) (b : Bool) : (s.setBit a n b).wosSpent = s.wosSpent := rfl
@[simp] theorem State.setBit_mem (a n : Nat) (b : Bool) : (s.setBit a n b).mem = s.mem := rfl
@[simp] theorem State.setBit_c0 (a n : Nat) (b : Bool) : (s.setBit a n b).c0 = s.c0 := rfl
@[simp] theorem State.setBit_c1 (a n : Nat) (b : Bool) : (s.setBit a n b).c1 = s.c1 := rfl
@[simp] theorem State.setBit_c2 (a n : Nat) (b : Bool) : (s.setBit a n b).c2 = s.c2 := rfl
@[simp] theorem State.setBit_c3 (a n : Nat) (b : Bool) : (s.setBit a n b).c3 = s.c3 := rfl
@[simp] theorem State.setBit_g0 (a n : Nat) (b : Bool) : (s.setBit a n b).g0 = s.g0 := rfl
@[simp] theorem State.setBit_beat (a n : Nat) (b : Bool) : (s.setBit a n b).beat = s.beat := rfl
@[simp] theorem State.setBit_ecx (a n : Nat) (b : Bool) : (s.setBit a n b).ecx = s.ecx := rfl
@[simp] theorem State.setBit_dis (a n : Nat) (b : Bool) : (s.setBit a n b).dis = s.dis := rfl
@[simp] theorem State.setBit_ms (a n : Nat) (b : Bool) : (s.setBit a n b).ms = s.ms := rfl
@[simp] theorem State.setBit_dma (a n : Nat) (b : Bool) : (s.setBit a n b).dma = s.dma := rfl
@[simp] theorem State.setBit_gnt (a n : Nat) (b : Bool) : (s.setBit a n b).gnt = s.gnt := rfl
@[simp] theorem State.setBit_lnk (a n : Nat) (b : Bool) : (s.setBit a n b).lnk = s.lnk := rfl
@[simp] theorem State.setBit_ldg (a n : Nat) (b : Bool) : (s.setBit a n b).ldg = s.ldg := rfl
@[simp] theorem State.setBit_pwr (a n : Nat) (b : Bool) : (s.setBit a n b).pwr = s.pwr := rfl
@[simp] theorem State.setBit_pipes (a n : Nat) (b : Bool) : (s.setBit a n b).pipes = s.pipes := rfl
@[simp] theorem State.setBit_visors (a n : Nat) (b : Bool) : (s.setBit a n b).visors = s.visors := rfl
@[simp] theorem State.setBit_out (a n : Nat) (b : Bool) : (s.setBit a n b).out = s.out := rfl
@[simp] theorem State.setBit_blt (a n : Nat) (b : Bool) : (s.setBit a n b).blt = s.blt := rfl
@[simp] theorem State.setBit_aud (a n : Nat) (b : Bool) : (s.setBit a n b).aud = s.aud := rfl
@[simp] theorem State.setBit_cams (a n : Nat) (b : Bool) : (s.setBit a n b).cams = s.cams := rfl
@[simp] theorem State.setBit_recorder (a n : Nat) (b : Bool) : (s.setBit a n b).recorder = s.recorder := rfl
@[simp] theorem State.setBit_emmc (a n : Nat) (b : Bool) : (s.setBit a n b).emmc = s.emmc := rfl
@[simp] theorem State.setBit_xpa (a n : Nat) (b : Bool) : (s.setBit a n b).xpa = s.xpa := rfl
@[simp] theorem State.setBit_tmr (a n : Nat) (b : Bool) : (s.setBit a n b).tmr = s.tmr := rfl
@[simp] theorem State.setBit_adc (a n : Nat) (b : Bool) : (s.setBit a n b).adc = s.adc := rfl
@[simp] theorem State.setBit_pads (a n : Nat) (b : Bool) : (s.setBit a n b).pads = s.pads := rfl
@[simp] theorem State.setBit_mit (a n : Nat) (b : Bool) : (s.setBit a n b).mit = s.mit := rfl
@[simp] theorem State.setBit_cans (a n : Nat) (b : Bool) : (s.setBit a n b).cans = s.cans := rfl
@[simp] theorem State.setBit_uarts (a n : Nat) (b : Bool) : (s.setBit a n b).uarts = s.uarts := rfl
@[simp] theorem State.setBit_spis (a n : Nat) (b : Bool) : (s.setBit a n b).spis = s.spis := rfl
@[simp] theorem State.setBit_ospi (a n : Nat) (b : Bool) : (s.setBit a n b).ospi = s.ospi := rfl
@[simp] theorem State.setBit_i2cs (a n : Nat) (b : Bool) : (s.setBit a n b).i2cs = s.i2cs := rfl
@[simp] theorem State.setBit_pps (a n : Nat) (b : Bool) : (s.setBit a n b).pps = s.pps := rfl
@[simp] theorem State.setBit_rdata (a n : Nat) (b : Bool) : (s.setBit a n b).rdata = s.rdata := rfl
@[simp] theorem State.setBit_drawn (a n : Nat) (b : Bool) : (s.setBit a n b).drawn = s.drawn := rfl
@[simp] theorem State.setBit_subUs (a n : Nat) (b : Bool) : (s.setBit a n b).subUs = s.subUs := rfl
@[simp] theorem State.setBit_pending (a n : Nat) (b : Bool) : (s.setBit a n b).pending = s.pending := rfl

/-! ### setRg64 -/

@[simp] theorem State.setRg64_live (a v : Nat) : (s.setRg64 a v).live = s.live := rfl
@[simp] theorem State.setRg64_latch (a v : Nat) : (s.setRg64 a v).latch = s.latch := rfl
@[simp] theorem State.setRg64_held (a v : Nat) : (s.setRg64 a v).held = s.held := rfl
@[simp] theorem State.setRg64_wosSpent (a v : Nat) : (s.setRg64 a v).wosSpent = s.wosSpent := rfl
@[simp] theorem State.setRg64_mem (a v : Nat) : (s.setRg64 a v).mem = s.mem := rfl
@[simp] theorem State.setRg64_c0 (a v : Nat) : (s.setRg64 a v).c0 = s.c0 := rfl
@[simp] theorem State.setRg64_c1 (a v : Nat) : (s.setRg64 a v).c1 = s.c1 := rfl
@[simp] theorem State.setRg64_c2 (a v : Nat) : (s.setRg64 a v).c2 = s.c2 := rfl
@[simp] theorem State.setRg64_c3 (a v : Nat) : (s.setRg64 a v).c3 = s.c3 := rfl
@[simp] theorem State.setRg64_g0 (a v : Nat) : (s.setRg64 a v).g0 = s.g0 := rfl
@[simp] theorem State.setRg64_beat (a v : Nat) : (s.setRg64 a v).beat = s.beat := rfl
@[simp] theorem State.setRg64_ecx (a v : Nat) : (s.setRg64 a v).ecx = s.ecx := rfl
@[simp] theorem State.setRg64_dis (a v : Nat) : (s.setRg64 a v).dis = s.dis := rfl
@[simp] theorem State.setRg64_ms (a v : Nat) : (s.setRg64 a v).ms = s.ms := rfl
@[simp] theorem State.setRg64_dma (a v : Nat) : (s.setRg64 a v).dma = s.dma := rfl
@[simp] theorem State.setRg64_gnt (a v : Nat) : (s.setRg64 a v).gnt = s.gnt := rfl
@[simp] theorem State.setRg64_lnk (a v : Nat) : (s.setRg64 a v).lnk = s.lnk := rfl
@[simp] theorem State.setRg64_ldg (a v : Nat) : (s.setRg64 a v).ldg = s.ldg := rfl
@[simp] theorem State.setRg64_pwr (a v : Nat) : (s.setRg64 a v).pwr = s.pwr := rfl
@[simp] theorem State.setRg64_pipes (a v : Nat) : (s.setRg64 a v).pipes = s.pipes := rfl
@[simp] theorem State.setRg64_visors (a v : Nat) : (s.setRg64 a v).visors = s.visors := rfl
@[simp] theorem State.setRg64_out (a v : Nat) : (s.setRg64 a v).out = s.out := rfl
@[simp] theorem State.setRg64_blt (a v : Nat) : (s.setRg64 a v).blt = s.blt := rfl
@[simp] theorem State.setRg64_aud (a v : Nat) : (s.setRg64 a v).aud = s.aud := rfl
@[simp] theorem State.setRg64_cams (a v : Nat) : (s.setRg64 a v).cams = s.cams := rfl
@[simp] theorem State.setRg64_recorder (a v : Nat) : (s.setRg64 a v).recorder = s.recorder := rfl
@[simp] theorem State.setRg64_emmc (a v : Nat) : (s.setRg64 a v).emmc = s.emmc := rfl
@[simp] theorem State.setRg64_xpa (a v : Nat) : (s.setRg64 a v).xpa = s.xpa := rfl
@[simp] theorem State.setRg64_tmr (a v : Nat) : (s.setRg64 a v).tmr = s.tmr := rfl
@[simp] theorem State.setRg64_adc (a v : Nat) : (s.setRg64 a v).adc = s.adc := rfl
@[simp] theorem State.setRg64_pads (a v : Nat) : (s.setRg64 a v).pads = s.pads := rfl
@[simp] theorem State.setRg64_mit (a v : Nat) : (s.setRg64 a v).mit = s.mit := rfl
@[simp] theorem State.setRg64_cans (a v : Nat) : (s.setRg64 a v).cans = s.cans := rfl
@[simp] theorem State.setRg64_uarts (a v : Nat) : (s.setRg64 a v).uarts = s.uarts := rfl
@[simp] theorem State.setRg64_spis (a v : Nat) : (s.setRg64 a v).spis = s.spis := rfl
@[simp] theorem State.setRg64_ospi (a v : Nat) : (s.setRg64 a v).ospi = s.ospi := rfl
@[simp] theorem State.setRg64_i2cs (a v : Nat) : (s.setRg64 a v).i2cs = s.i2cs := rfl
@[simp] theorem State.setRg64_pps (a v : Nat) : (s.setRg64 a v).pps = s.pps := rfl
@[simp] theorem State.setRg64_rdata (a v : Nat) : (s.setRg64 a v).rdata = s.rdata := rfl
@[simp] theorem State.setRg64_drawn (a v : Nat) : (s.setRg64 a v).drawn = s.drawn := rfl
@[simp] theorem State.setRg64_subUs (a v : Nat) : (s.setRg64 a v).subUs = s.subUs := rfl
@[simp] theorem State.setRg64_pending (a v : Nat) : (s.setRg64 a v).pending = s.pending := rfl

/-! ### count -/

@[simp] theorem State.count_live (a n : Nat) : (s.count a n).live = s.live := rfl
@[simp] theorem State.count_latch (a n : Nat) : (s.count a n).latch = s.latch := rfl
@[simp] theorem State.count_held (a n : Nat) : (s.count a n).held = s.held := rfl
@[simp] theorem State.count_wosSpent (a n : Nat) : (s.count a n).wosSpent = s.wosSpent := rfl
@[simp] theorem State.count_mem (a n : Nat) : (s.count a n).mem = s.mem := rfl
@[simp] theorem State.count_c0 (a n : Nat) : (s.count a n).c0 = s.c0 := rfl
@[simp] theorem State.count_c1 (a n : Nat) : (s.count a n).c1 = s.c1 := rfl
@[simp] theorem State.count_c2 (a n : Nat) : (s.count a n).c2 = s.c2 := rfl
@[simp] theorem State.count_c3 (a n : Nat) : (s.count a n).c3 = s.c3 := rfl
@[simp] theorem State.count_g0 (a n : Nat) : (s.count a n).g0 = s.g0 := rfl
@[simp] theorem State.count_beat (a n : Nat) : (s.count a n).beat = s.beat := rfl
@[simp] theorem State.count_ecx (a n : Nat) : (s.count a n).ecx = s.ecx := rfl
@[simp] theorem State.count_dis (a n : Nat) : (s.count a n).dis = s.dis := rfl
@[simp] theorem State.count_ms (a n : Nat) : (s.count a n).ms = s.ms := rfl
@[simp] theorem State.count_dma (a n : Nat) : (s.count a n).dma = s.dma := rfl
@[simp] theorem State.count_gnt (a n : Nat) : (s.count a n).gnt = s.gnt := rfl
@[simp] theorem State.count_lnk (a n : Nat) : (s.count a n).lnk = s.lnk := rfl
@[simp] theorem State.count_ldg (a n : Nat) : (s.count a n).ldg = s.ldg := rfl
@[simp] theorem State.count_pwr (a n : Nat) : (s.count a n).pwr = s.pwr := rfl
@[simp] theorem State.count_pipes (a n : Nat) : (s.count a n).pipes = s.pipes := rfl
@[simp] theorem State.count_visors (a n : Nat) : (s.count a n).visors = s.visors := rfl
@[simp] theorem State.count_out (a n : Nat) : (s.count a n).out = s.out := rfl
@[simp] theorem State.count_blt (a n : Nat) : (s.count a n).blt = s.blt := rfl
@[simp] theorem State.count_aud (a n : Nat) : (s.count a n).aud = s.aud := rfl
@[simp] theorem State.count_cams (a n : Nat) : (s.count a n).cams = s.cams := rfl
@[simp] theorem State.count_recorder (a n : Nat) : (s.count a n).recorder = s.recorder := rfl
@[simp] theorem State.count_emmc (a n : Nat) : (s.count a n).emmc = s.emmc := rfl
@[simp] theorem State.count_xpa (a n : Nat) : (s.count a n).xpa = s.xpa := rfl
@[simp] theorem State.count_tmr (a n : Nat) : (s.count a n).tmr = s.tmr := rfl
@[simp] theorem State.count_adc (a n : Nat) : (s.count a n).adc = s.adc := rfl
@[simp] theorem State.count_pads (a n : Nat) : (s.count a n).pads = s.pads := rfl
@[simp] theorem State.count_mit (a n : Nat) : (s.count a n).mit = s.mit := rfl
@[simp] theorem State.count_cans (a n : Nat) : (s.count a n).cans = s.cans := rfl
@[simp] theorem State.count_uarts (a n : Nat) : (s.count a n).uarts = s.uarts := rfl
@[simp] theorem State.count_spis (a n : Nat) : (s.count a n).spis = s.spis := rfl
@[simp] theorem State.count_ospi (a n : Nat) : (s.count a n).ospi = s.ospi := rfl
@[simp] theorem State.count_i2cs (a n : Nat) : (s.count a n).i2cs = s.i2cs := rfl
@[simp] theorem State.count_pps (a n : Nat) : (s.count a n).pps = s.pps := rfl
@[simp] theorem State.count_rdata (a n : Nat) : (s.count a n).rdata = s.rdata := rfl
@[simp] theorem State.count_drawn (a n : Nat) : (s.count a n).drawn = s.drawn := rfl
@[simp] theorem State.count_subUs (a n : Nat) : (s.count a n).subUs = s.subUs := rfl
@[simp] theorem State.count_pending (a n : Nat) : (s.count a n).pending = s.pending := rfl

/-! ### countWrap -/

@[simp] theorem State.countWrap_live (a n : Nat) : (s.countWrap a n).live = s.live := rfl
@[simp] theorem State.countWrap_latch (a n : Nat) : (s.countWrap a n).latch = s.latch := rfl
@[simp] theorem State.countWrap_held (a n : Nat) : (s.countWrap a n).held = s.held := rfl
@[simp] theorem State.countWrap_wosSpent (a n : Nat) : (s.countWrap a n).wosSpent = s.wosSpent := rfl
@[simp] theorem State.countWrap_mem (a n : Nat) : (s.countWrap a n).mem = s.mem := rfl
@[simp] theorem State.countWrap_c0 (a n : Nat) : (s.countWrap a n).c0 = s.c0 := rfl
@[simp] theorem State.countWrap_c1 (a n : Nat) : (s.countWrap a n).c1 = s.c1 := rfl
@[simp] theorem State.countWrap_c2 (a n : Nat) : (s.countWrap a n).c2 = s.c2 := rfl
@[simp] theorem State.countWrap_c3 (a n : Nat) : (s.countWrap a n).c3 = s.c3 := rfl
@[simp] theorem State.countWrap_g0 (a n : Nat) : (s.countWrap a n).g0 = s.g0 := rfl
@[simp] theorem State.countWrap_beat (a n : Nat) : (s.countWrap a n).beat = s.beat := rfl
@[simp] theorem State.countWrap_ecx (a n : Nat) : (s.countWrap a n).ecx = s.ecx := rfl
@[simp] theorem State.countWrap_dis (a n : Nat) : (s.countWrap a n).dis = s.dis := rfl
@[simp] theorem State.countWrap_ms (a n : Nat) : (s.countWrap a n).ms = s.ms := rfl
@[simp] theorem State.countWrap_dma (a n : Nat) : (s.countWrap a n).dma = s.dma := rfl
@[simp] theorem State.countWrap_gnt (a n : Nat) : (s.countWrap a n).gnt = s.gnt := rfl
@[simp] theorem State.countWrap_lnk (a n : Nat) : (s.countWrap a n).lnk = s.lnk := rfl
@[simp] theorem State.countWrap_ldg (a n : Nat) : (s.countWrap a n).ldg = s.ldg := rfl
@[simp] theorem State.countWrap_pwr (a n : Nat) : (s.countWrap a n).pwr = s.pwr := rfl
@[simp] theorem State.countWrap_pipes (a n : Nat) : (s.countWrap a n).pipes = s.pipes := rfl
@[simp] theorem State.countWrap_visors (a n : Nat) : (s.countWrap a n).visors = s.visors := rfl
@[simp] theorem State.countWrap_out (a n : Nat) : (s.countWrap a n).out = s.out := rfl
@[simp] theorem State.countWrap_blt (a n : Nat) : (s.countWrap a n).blt = s.blt := rfl
@[simp] theorem State.countWrap_aud (a n : Nat) : (s.countWrap a n).aud = s.aud := rfl
@[simp] theorem State.countWrap_cams (a n : Nat) : (s.countWrap a n).cams = s.cams := rfl
@[simp] theorem State.countWrap_recorder (a n : Nat) : (s.countWrap a n).recorder = s.recorder := rfl
@[simp] theorem State.countWrap_emmc (a n : Nat) : (s.countWrap a n).emmc = s.emmc := rfl
@[simp] theorem State.countWrap_xpa (a n : Nat) : (s.countWrap a n).xpa = s.xpa := rfl
@[simp] theorem State.countWrap_tmr (a n : Nat) : (s.countWrap a n).tmr = s.tmr := rfl
@[simp] theorem State.countWrap_adc (a n : Nat) : (s.countWrap a n).adc = s.adc := rfl
@[simp] theorem State.countWrap_pads (a n : Nat) : (s.countWrap a n).pads = s.pads := rfl
@[simp] theorem State.countWrap_mit (a n : Nat) : (s.countWrap a n).mit = s.mit := rfl
@[simp] theorem State.countWrap_cans (a n : Nat) : (s.countWrap a n).cans = s.cans := rfl
@[simp] theorem State.countWrap_uarts (a n : Nat) : (s.countWrap a n).uarts = s.uarts := rfl
@[simp] theorem State.countWrap_spis (a n : Nat) : (s.countWrap a n).spis = s.spis := rfl
@[simp] theorem State.countWrap_ospi (a n : Nat) : (s.countWrap a n).ospi = s.ospi := rfl
@[simp] theorem State.countWrap_i2cs (a n : Nat) : (s.countWrap a n).i2cs = s.i2cs := rfl
@[simp] theorem State.countWrap_pps (a n : Nat) : (s.countWrap a n).pps = s.pps := rfl
@[simp] theorem State.countWrap_rdata (a n : Nat) : (s.countWrap a n).rdata = s.rdata := rfl
@[simp] theorem State.countWrap_drawn (a n : Nat) : (s.countWrap a n).drawn = s.drawn := rfl
@[simp] theorem State.countWrap_subUs (a n : Nat) : (s.countWrap a n).subUs = s.subUs := rfl
@[simp] theorem State.countWrap_pending (a n : Nat) : (s.countWrap a n).pending = s.pending := rfl

/-! ### setLv -/

@[simp] theorem State.setLv_regs (a : Nat) (v : Word) : (s.setLv a v).regs = s.regs := rfl
@[simp] theorem State.setLv_latch (a : Nat) (v : Word) : (s.setLv a v).latch = s.latch := rfl
@[simp] theorem State.setLv_held (a : Nat) (v : Word) : (s.setLv a v).held = s.held := rfl
@[simp] theorem State.setLv_wosSpent (a : Nat) (v : Word) : (s.setLv a v).wosSpent = s.wosSpent := rfl
@[simp] theorem State.setLv_mem (a : Nat) (v : Word) : (s.setLv a v).mem = s.mem := rfl
@[simp] theorem State.setLv_c0 (a : Nat) (v : Word) : (s.setLv a v).c0 = s.c0 := rfl
@[simp] theorem State.setLv_c1 (a : Nat) (v : Word) : (s.setLv a v).c1 = s.c1 := rfl
@[simp] theorem State.setLv_c2 (a : Nat) (v : Word) : (s.setLv a v).c2 = s.c2 := rfl
@[simp] theorem State.setLv_c3 (a : Nat) (v : Word) : (s.setLv a v).c3 = s.c3 := rfl
@[simp] theorem State.setLv_g0 (a : Nat) (v : Word) : (s.setLv a v).g0 = s.g0 := rfl
@[simp] theorem State.setLv_beat (a : Nat) (v : Word) : (s.setLv a v).beat = s.beat := rfl
@[simp] theorem State.setLv_ecx (a : Nat) (v : Word) : (s.setLv a v).ecx = s.ecx := rfl
@[simp] theorem State.setLv_dis (a : Nat) (v : Word) : (s.setLv a v).dis = s.dis := rfl
@[simp] theorem State.setLv_ms (a : Nat) (v : Word) : (s.setLv a v).ms = s.ms := rfl
@[simp] theorem State.setLv_dma (a : Nat) (v : Word) : (s.setLv a v).dma = s.dma := rfl
@[simp] theorem State.setLv_gnt (a : Nat) (v : Word) : (s.setLv a v).gnt = s.gnt := rfl
@[simp] theorem State.setLv_lnk (a : Nat) (v : Word) : (s.setLv a v).lnk = s.lnk := rfl
@[simp] theorem State.setLv_ldg (a : Nat) (v : Word) : (s.setLv a v).ldg = s.ldg := rfl
@[simp] theorem State.setLv_pwr (a : Nat) (v : Word) : (s.setLv a v).pwr = s.pwr := rfl
@[simp] theorem State.setLv_pipes (a : Nat) (v : Word) : (s.setLv a v).pipes = s.pipes := rfl
@[simp] theorem State.setLv_visors (a : Nat) (v : Word) : (s.setLv a v).visors = s.visors := rfl
@[simp] theorem State.setLv_out (a : Nat) (v : Word) : (s.setLv a v).out = s.out := rfl
@[simp] theorem State.setLv_blt (a : Nat) (v : Word) : (s.setLv a v).blt = s.blt := rfl
@[simp] theorem State.setLv_aud (a : Nat) (v : Word) : (s.setLv a v).aud = s.aud := rfl
@[simp] theorem State.setLv_cams (a : Nat) (v : Word) : (s.setLv a v).cams = s.cams := rfl
@[simp] theorem State.setLv_recorder (a : Nat) (v : Word) : (s.setLv a v).recorder = s.recorder := rfl
@[simp] theorem State.setLv_emmc (a : Nat) (v : Word) : (s.setLv a v).emmc = s.emmc := rfl
@[simp] theorem State.setLv_xpa (a : Nat) (v : Word) : (s.setLv a v).xpa = s.xpa := rfl
@[simp] theorem State.setLv_tmr (a : Nat) (v : Word) : (s.setLv a v).tmr = s.tmr := rfl
@[simp] theorem State.setLv_adc (a : Nat) (v : Word) : (s.setLv a v).adc = s.adc := rfl
@[simp] theorem State.setLv_pads (a : Nat) (v : Word) : (s.setLv a v).pads = s.pads := rfl
@[simp] theorem State.setLv_mit (a : Nat) (v : Word) : (s.setLv a v).mit = s.mit := rfl
@[simp] theorem State.setLv_cans (a : Nat) (v : Word) : (s.setLv a v).cans = s.cans := rfl
@[simp] theorem State.setLv_uarts (a : Nat) (v : Word) : (s.setLv a v).uarts = s.uarts := rfl
@[simp] theorem State.setLv_spis (a : Nat) (v : Word) : (s.setLv a v).spis = s.spis := rfl
@[simp] theorem State.setLv_ospi (a : Nat) (v : Word) : (s.setLv a v).ospi = s.ospi := rfl
@[simp] theorem State.setLv_i2cs (a : Nat) (v : Word) : (s.setLv a v).i2cs = s.i2cs := rfl
@[simp] theorem State.setLv_pps (a : Nat) (v : Word) : (s.setLv a v).pps = s.pps := rfl
@[simp] theorem State.setLv_rdata (a : Nat) (v : Word) : (s.setLv a v).rdata = s.rdata := rfl
@[simp] theorem State.setLv_drawn (a : Nat) (v : Word) : (s.setLv a v).drawn = s.drawn := rfl
@[simp] theorem State.setLv_subUs (a : Nat) (v : Word) : (s.setLv a v).subUs = s.subUs := rfl
@[simp] theorem State.setLv_pending (a : Nat) (v : Word) : (s.setLv a v).pending = s.pending := rfl

/-! ### accept -/

@[simp] theorem State.accept_live (p : CmdPort) : (s.accept p).live = s.live := rfl
@[simp] theorem State.accept_latch (p : CmdPort) : (s.accept p).latch = s.latch := rfl
@[simp] theorem State.accept_held (p : CmdPort) : (s.accept p).held = s.held := rfl
@[simp] theorem State.accept_wosSpent (p : CmdPort) : (s.accept p).wosSpent = s.wosSpent := rfl
@[simp] theorem State.accept_mem (p : CmdPort) : (s.accept p).mem = s.mem := rfl
@[simp] theorem State.accept_c0 (p : CmdPort) : (s.accept p).c0 = s.c0 := rfl
@[simp] theorem State.accept_c1 (p : CmdPort) : (s.accept p).c1 = s.c1 := rfl
@[simp] theorem State.accept_c2 (p : CmdPort) : (s.accept p).c2 = s.c2 := rfl
@[simp] theorem State.accept_c3 (p : CmdPort) : (s.accept p).c3 = s.c3 := rfl
@[simp] theorem State.accept_g0 (p : CmdPort) : (s.accept p).g0 = s.g0 := rfl
@[simp] theorem State.accept_beat (p : CmdPort) : (s.accept p).beat = s.beat := rfl
@[simp] theorem State.accept_ecx (p : CmdPort) : (s.accept p).ecx = s.ecx := rfl
@[simp] theorem State.accept_dis (p : CmdPort) : (s.accept p).dis = s.dis := rfl
@[simp] theorem State.accept_ms (p : CmdPort) : (s.accept p).ms = s.ms := rfl
@[simp] theorem State.accept_dma (p : CmdPort) : (s.accept p).dma = s.dma := rfl
@[simp] theorem State.accept_gnt (p : CmdPort) : (s.accept p).gnt = s.gnt := rfl
@[simp] theorem State.accept_lnk (p : CmdPort) : (s.accept p).lnk = s.lnk := rfl
@[simp] theorem State.accept_ldg (p : CmdPort) : (s.accept p).ldg = s.ldg := rfl
@[simp] theorem State.accept_pwr (p : CmdPort) : (s.accept p).pwr = s.pwr := rfl
@[simp] theorem State.accept_pipes (p : CmdPort) : (s.accept p).pipes = s.pipes := rfl
@[simp] theorem State.accept_visors (p : CmdPort) : (s.accept p).visors = s.visors := rfl
@[simp] theorem State.accept_out (p : CmdPort) : (s.accept p).out = s.out := rfl
@[simp] theorem State.accept_blt (p : CmdPort) : (s.accept p).blt = s.blt := rfl
@[simp] theorem State.accept_aud (p : CmdPort) : (s.accept p).aud = s.aud := rfl
@[simp] theorem State.accept_cams (p : CmdPort) : (s.accept p).cams = s.cams := rfl
@[simp] theorem State.accept_recorder (p : CmdPort) : (s.accept p).recorder = s.recorder := rfl
@[simp] theorem State.accept_emmc (p : CmdPort) : (s.accept p).emmc = s.emmc := rfl
@[simp] theorem State.accept_xpa (p : CmdPort) : (s.accept p).xpa = s.xpa := rfl
@[simp] theorem State.accept_tmr (p : CmdPort) : (s.accept p).tmr = s.tmr := rfl
@[simp] theorem State.accept_adc (p : CmdPort) : (s.accept p).adc = s.adc := rfl
@[simp] theorem State.accept_pads (p : CmdPort) : (s.accept p).pads = s.pads := rfl
@[simp] theorem State.accept_mit (p : CmdPort) : (s.accept p).mit = s.mit := rfl
@[simp] theorem State.accept_cans (p : CmdPort) : (s.accept p).cans = s.cans := rfl
@[simp] theorem State.accept_uarts (p : CmdPort) : (s.accept p).uarts = s.uarts := rfl
@[simp] theorem State.accept_spis (p : CmdPort) : (s.accept p).spis = s.spis := rfl
@[simp] theorem State.accept_ospi (p : CmdPort) : (s.accept p).ospi = s.ospi := rfl
@[simp] theorem State.accept_i2cs (p : CmdPort) : (s.accept p).i2cs = s.i2cs := rfl
@[simp] theorem State.accept_pps (p : CmdPort) : (s.accept p).pps = s.pps := rfl
@[simp] theorem State.accept_rdata (p : CmdPort) : (s.accept p).rdata = s.rdata := rfl
@[simp] theorem State.accept_drawn (p : CmdPort) : (s.accept p).drawn = s.drawn := rfl
@[simp] theorem State.accept_subUs (p : CmdPort) : (s.accept p).subUs = s.subUs := rfl
@[simp] theorem State.accept_pending (p : CmdPort) : (s.accept p).pending = s.pending := rfl

/-! ### clrPend -/

@[simp] theorem State.clrPend_live (n : Nat) : (s.clrPend n).live = s.live := rfl
@[simp] theorem State.clrPend_latch (n : Nat) : (s.clrPend n).latch = s.latch := rfl
@[simp] theorem State.clrPend_held (n : Nat) : (s.clrPend n).held = s.held := rfl
@[simp] theorem State.clrPend_wosSpent (n : Nat) : (s.clrPend n).wosSpent = s.wosSpent := rfl
@[simp] theorem State.clrPend_mem (n : Nat) : (s.clrPend n).mem = s.mem := rfl
@[simp] theorem State.clrPend_c0 (n : Nat) : (s.clrPend n).c0 = s.c0 := rfl
@[simp] theorem State.clrPend_c1 (n : Nat) : (s.clrPend n).c1 = s.c1 := rfl
@[simp] theorem State.clrPend_c2 (n : Nat) : (s.clrPend n).c2 = s.c2 := rfl
@[simp] theorem State.clrPend_c3 (n : Nat) : (s.clrPend n).c3 = s.c3 := rfl
@[simp] theorem State.clrPend_g0 (n : Nat) : (s.clrPend n).g0 = s.g0 := rfl
@[simp] theorem State.clrPend_beat (n : Nat) : (s.clrPend n).beat = s.beat := rfl
@[simp] theorem State.clrPend_ecx (n : Nat) : (s.clrPend n).ecx = s.ecx := rfl
@[simp] theorem State.clrPend_dis (n : Nat) : (s.clrPend n).dis = s.dis := rfl
@[simp] theorem State.clrPend_ms (n : Nat) : (s.clrPend n).ms = s.ms := rfl
@[simp] theorem State.clrPend_dma (n : Nat) : (s.clrPend n).dma = s.dma := rfl
@[simp] theorem State.clrPend_gnt (n : Nat) : (s.clrPend n).gnt = s.gnt := rfl
@[simp] theorem State.clrPend_lnk (n : Nat) : (s.clrPend n).lnk = s.lnk := rfl
@[simp] theorem State.clrPend_ldg (n : Nat) : (s.clrPend n).ldg = s.ldg := rfl
@[simp] theorem State.clrPend_pwr (n : Nat) : (s.clrPend n).pwr = s.pwr := rfl
@[simp] theorem State.clrPend_pipes (n : Nat) : (s.clrPend n).pipes = s.pipes := rfl
@[simp] theorem State.clrPend_visors (n : Nat) : (s.clrPend n).visors = s.visors := rfl
@[simp] theorem State.clrPend_out (n : Nat) : (s.clrPend n).out = s.out := rfl
@[simp] theorem State.clrPend_blt (n : Nat) : (s.clrPend n).blt = s.blt := rfl
@[simp] theorem State.clrPend_aud (n : Nat) : (s.clrPend n).aud = s.aud := rfl
@[simp] theorem State.clrPend_cams (n : Nat) : (s.clrPend n).cams = s.cams := rfl
@[simp] theorem State.clrPend_recorder (n : Nat) : (s.clrPend n).recorder = s.recorder := rfl
@[simp] theorem State.clrPend_emmc (n : Nat) : (s.clrPend n).emmc = s.emmc := rfl
@[simp] theorem State.clrPend_xpa (n : Nat) : (s.clrPend n).xpa = s.xpa := rfl
@[simp] theorem State.clrPend_tmr (n : Nat) : (s.clrPend n).tmr = s.tmr := rfl
@[simp] theorem State.clrPend_adc (n : Nat) : (s.clrPend n).adc = s.adc := rfl
@[simp] theorem State.clrPend_pads (n : Nat) : (s.clrPend n).pads = s.pads := rfl
@[simp] theorem State.clrPend_mit (n : Nat) : (s.clrPend n).mit = s.mit := rfl
@[simp] theorem State.clrPend_cans (n : Nat) : (s.clrPend n).cans = s.cans := rfl
@[simp] theorem State.clrPend_uarts (n : Nat) : (s.clrPend n).uarts = s.uarts := rfl
@[simp] theorem State.clrPend_spis (n : Nat) : (s.clrPend n).spis = s.spis := rfl
@[simp] theorem State.clrPend_ospi (n : Nat) : (s.clrPend n).ospi = s.ospi := rfl
@[simp] theorem State.clrPend_i2cs (n : Nat) : (s.clrPend n).i2cs = s.i2cs := rfl
@[simp] theorem State.clrPend_pps (n : Nat) : (s.clrPend n).pps = s.pps := rfl
@[simp] theorem State.clrPend_rdata (n : Nat) : (s.clrPend n).rdata = s.rdata := rfl
@[simp] theorem State.clrPend_drawn (n : Nat) : (s.clrPend n).drawn = s.drawn := rfl
@[simp] theorem State.clrPend_subUs (n : Nat) : (s.clrPend n).subUs = s.subUs := rfl
@[simp] theorem State.clrPend_pending (n : Nat) : (s.clrPend n).pending = s.pending := rfl

/-! ### setPend -/

@[simp] theorem State.setPend_live (n : Nat) (b : Bool) : (s.setPend n b).live = s.live := by unfold State.setPend; split <;> rfl
@[simp] theorem State.setPend_latch (n : Nat) (b : Bool) : (s.setPend n b).latch = s.latch := by unfold State.setPend; split <;> rfl
@[simp] theorem State.setPend_held (n : Nat) (b : Bool) : (s.setPend n b).held = s.held := by unfold State.setPend; split <;> rfl
@[simp] theorem State.setPend_wosSpent (n : Nat) (b : Bool) : (s.setPend n b).wosSpent = s.wosSpent := by unfold State.setPend; split <;> rfl
@[simp] theorem State.setPend_mem (n : Nat) (b : Bool) : (s.setPend n b).mem = s.mem := by unfold State.setPend; split <;> rfl
@[simp] theorem State.setPend_c0 (n : Nat) (b : Bool) : (s.setPend n b).c0 = s.c0 := by unfold State.setPend; split <;> rfl
@[simp] theorem State.setPend_c1 (n : Nat) (b : Bool) : (s.setPend n b).c1 = s.c1 := by unfold State.setPend; split <;> rfl
@[simp] theorem State.setPend_c2 (n : Nat) (b : Bool) : (s.setPend n b).c2 = s.c2 := by unfold State.setPend; split <;> rfl
@[simp] theorem State.setPend_c3 (n : Nat) (b : Bool) : (s.setPend n b).c3 = s.c3 := by unfold State.setPend; split <;> rfl
@[simp] theorem State.setPend_g0 (n : Nat) (b : Bool) : (s.setPend n b).g0 = s.g0 := by unfold State.setPend; split <;> rfl
@[simp] theorem State.setPend_beat (n : Nat) (b : Bool) : (s.setPend n b).beat = s.beat := by unfold State.setPend; split <;> rfl
@[simp] theorem State.setPend_ms (n : Nat) (b : Bool) : (s.setPend n b).ms = s.ms := by unfold State.setPend; split <;> rfl
@[simp] theorem State.setPend_dma (n : Nat) (b : Bool) : (s.setPend n b).dma = s.dma := by unfold State.setPend; split <;> rfl
@[simp] theorem State.setPend_gnt (n : Nat) (b : Bool) : (s.setPend n b).gnt = s.gnt := by unfold State.setPend; split <;> rfl
@[simp] theorem State.setPend_lnk (n : Nat) (b : Bool) : (s.setPend n b).lnk = s.lnk := by unfold State.setPend; split <;> rfl
@[simp] theorem State.setPend_ldg (n : Nat) (b : Bool) : (s.setPend n b).ldg = s.ldg := by unfold State.setPend; split <;> rfl
@[simp] theorem State.setPend_pwr (n : Nat) (b : Bool) : (s.setPend n b).pwr = s.pwr := by unfold State.setPend; split <;> rfl
@[simp] theorem State.setPend_pipes (n : Nat) (b : Bool) : (s.setPend n b).pipes = s.pipes := by unfold State.setPend; split <;> rfl
@[simp] theorem State.setPend_visors (n : Nat) (b : Bool) : (s.setPend n b).visors = s.visors := by unfold State.setPend; split <;> rfl
@[simp] theorem State.setPend_out (n : Nat) (b : Bool) : (s.setPend n b).out = s.out := by unfold State.setPend; split <;> rfl
@[simp] theorem State.setPend_blt (n : Nat) (b : Bool) : (s.setPend n b).blt = s.blt := by unfold State.setPend; split <;> rfl
@[simp] theorem State.setPend_aud (n : Nat) (b : Bool) : (s.setPend n b).aud = s.aud := by unfold State.setPend; split <;> rfl
@[simp] theorem State.setPend_cams (n : Nat) (b : Bool) : (s.setPend n b).cams = s.cams := by unfold State.setPend; split <;> rfl
@[simp] theorem State.setPend_recorder (n : Nat) (b : Bool) : (s.setPend n b).recorder = s.recorder := by unfold State.setPend; split <;> rfl
@[simp] theorem State.setPend_emmc (n : Nat) (b : Bool) : (s.setPend n b).emmc = s.emmc := by unfold State.setPend; split <;> rfl
@[simp] theorem State.setPend_xpa (n : Nat) (b : Bool) : (s.setPend n b).xpa = s.xpa := by unfold State.setPend; split <;> rfl
@[simp] theorem State.setPend_tmr (n : Nat) (b : Bool) : (s.setPend n b).tmr = s.tmr := by unfold State.setPend; split <;> rfl
@[simp] theorem State.setPend_adc (n : Nat) (b : Bool) : (s.setPend n b).adc = s.adc := by unfold State.setPend; split <;> rfl
@[simp] theorem State.setPend_pads (n : Nat) (b : Bool) : (s.setPend n b).pads = s.pads := by unfold State.setPend; split <;> rfl
@[simp] theorem State.setPend_mit (n : Nat) (b : Bool) : (s.setPend n b).mit = s.mit := by unfold State.setPend; split <;> rfl
@[simp] theorem State.setPend_cans (n : Nat) (b : Bool) : (s.setPend n b).cans = s.cans := by unfold State.setPend; split <;> rfl
@[simp] theorem State.setPend_uarts (n : Nat) (b : Bool) : (s.setPend n b).uarts = s.uarts := by unfold State.setPend; split <;> rfl
@[simp] theorem State.setPend_spis (n : Nat) (b : Bool) : (s.setPend n b).spis = s.spis := by unfold State.setPend; split <;> rfl
@[simp] theorem State.setPend_ospi (n : Nat) (b : Bool) : (s.setPend n b).ospi = s.ospi := by unfold State.setPend; split <;> rfl
@[simp] theorem State.setPend_i2cs (n : Nat) (b : Bool) : (s.setPend n b).i2cs = s.i2cs := by unfold State.setPend; split <;> rfl
@[simp] theorem State.setPend_pps (n : Nat) (b : Bool) : (s.setPend n b).pps = s.pps := by unfold State.setPend; split <;> rfl
@[simp] theorem State.setPend_rdata (n : Nat) (b : Bool) : (s.setPend n b).rdata = s.rdata := by unfold State.setPend; split <;> rfl
@[simp] theorem State.setPend_drawn (n : Nat) (b : Bool) : (s.setPend n b).drawn = s.drawn := by unfold State.setPend; split <;> rfl
@[simp] theorem State.setPend_subUs (n : Nat) (b : Bool) : (s.setPend n b).subUs = s.subUs := by unfold State.setPend; split <;> rfl
@[simp] theorem State.setPend_pending (n : Nat) (b : Bool) : (s.setPend n b).pending = s.pending := by unfold State.setPend; split <;> rfl

/-! ### raise -/

@[simp] theorem State.raise_live (n : Nat) : (s.raise n).live = s.live := by unfold State.raise; split <;> simp
@[simp] theorem State.raise_latch (n : Nat) : (s.raise n).latch = s.latch := by unfold State.raise; split <;> simp
@[simp] theorem State.raise_held (n : Nat) : (s.raise n).held = s.held := by unfold State.raise; split <;> simp
@[simp] theorem State.raise_wosSpent (n : Nat) : (s.raise n).wosSpent = s.wosSpent := by unfold State.raise; split <;> simp
@[simp] theorem State.raise_mem (n : Nat) : (s.raise n).mem = s.mem := by unfold State.raise; split <;> simp
@[simp] theorem State.raise_c0 (n : Nat) : (s.raise n).c0 = s.c0 := by unfold State.raise; split <;> simp
@[simp] theorem State.raise_c1 (n : Nat) : (s.raise n).c1 = s.c1 := by unfold State.raise; split <;> simp
@[simp] theorem State.raise_c2 (n : Nat) : (s.raise n).c2 = s.c2 := by unfold State.raise; split <;> simp
@[simp] theorem State.raise_c3 (n : Nat) : (s.raise n).c3 = s.c3 := by unfold State.raise; split <;> simp
@[simp] theorem State.raise_g0 (n : Nat) : (s.raise n).g0 = s.g0 := by unfold State.raise; split <;> simp
@[simp] theorem State.raise_beat (n : Nat) : (s.raise n).beat = s.beat := by unfold State.raise; split <;> simp
@[simp] theorem State.raise_ms (n : Nat) : (s.raise n).ms = s.ms := by unfold State.raise; split <;> simp
@[simp] theorem State.raise_dma (n : Nat) : (s.raise n).dma = s.dma := by unfold State.raise; split <;> simp
@[simp] theorem State.raise_gnt (n : Nat) : (s.raise n).gnt = s.gnt := by unfold State.raise; split <;> simp
@[simp] theorem State.raise_lnk (n : Nat) : (s.raise n).lnk = s.lnk := by unfold State.raise; split <;> simp
@[simp] theorem State.raise_ldg (n : Nat) : (s.raise n).ldg = s.ldg := by unfold State.raise; split <;> simp
@[simp] theorem State.raise_pwr (n : Nat) : (s.raise n).pwr = s.pwr := by unfold State.raise; split <;> simp
@[simp] theorem State.raise_pipes (n : Nat) : (s.raise n).pipes = s.pipes := by unfold State.raise; split <;> simp
@[simp] theorem State.raise_visors (n : Nat) : (s.raise n).visors = s.visors := by unfold State.raise; split <;> simp
@[simp] theorem State.raise_out (n : Nat) : (s.raise n).out = s.out := by unfold State.raise; split <;> simp
@[simp] theorem State.raise_blt (n : Nat) : (s.raise n).blt = s.blt := by unfold State.raise; split <;> simp
@[simp] theorem State.raise_aud (n : Nat) : (s.raise n).aud = s.aud := by unfold State.raise; split <;> simp
@[simp] theorem State.raise_cams (n : Nat) : (s.raise n).cams = s.cams := by unfold State.raise; split <;> simp
@[simp] theorem State.raise_recorder (n : Nat) : (s.raise n).recorder = s.recorder := by unfold State.raise; split <;> simp
@[simp] theorem State.raise_emmc (n : Nat) : (s.raise n).emmc = s.emmc := by unfold State.raise; split <;> simp
@[simp] theorem State.raise_xpa (n : Nat) : (s.raise n).xpa = s.xpa := by unfold State.raise; split <;> simp
@[simp] theorem State.raise_tmr (n : Nat) : (s.raise n).tmr = s.tmr := by unfold State.raise; split <;> simp
@[simp] theorem State.raise_adc (n : Nat) : (s.raise n).adc = s.adc := by unfold State.raise; split <;> simp
@[simp] theorem State.raise_pads (n : Nat) : (s.raise n).pads = s.pads := by unfold State.raise; split <;> simp
@[simp] theorem State.raise_mit (n : Nat) : (s.raise n).mit = s.mit := by unfold State.raise; split <;> simp
@[simp] theorem State.raise_cans (n : Nat) : (s.raise n).cans = s.cans := by unfold State.raise; split <;> simp
@[simp] theorem State.raise_uarts (n : Nat) : (s.raise n).uarts = s.uarts := by unfold State.raise; split <;> simp
@[simp] theorem State.raise_spis (n : Nat) : (s.raise n).spis = s.spis := by unfold State.raise; split <;> simp
@[simp] theorem State.raise_ospi (n : Nat) : (s.raise n).ospi = s.ospi := by unfold State.raise; split <;> simp
@[simp] theorem State.raise_i2cs (n : Nat) : (s.raise n).i2cs = s.i2cs := by unfold State.raise; split <;> simp
@[simp] theorem State.raise_pps (n : Nat) : (s.raise n).pps = s.pps := by unfold State.raise; split <;> simp
@[simp] theorem State.raise_rdata (n : Nat) : (s.raise n).rdata = s.rdata := by unfold State.raise; split <;> simp
@[simp] theorem State.raise_drawn (n : Nat) : (s.raise n).drawn = s.drawn := by unfold State.raise; split <;> simp
@[simp] theorem State.raise_subUs (n : Nat) : (s.raise n).subUs = s.subUs := by unfold State.raise; split <;> simp
@[simp] theorem State.raise_pending (n : Nat) : (s.raise n).pending = s.pending := by unfold State.raise; split <;> simp

/-! ### event -/

@[simp] theorem State.event_live (e b n : Nat) : (s.event e b n).live = s.live := by simp [State.event]
@[simp] theorem State.event_latch (e b n : Nat) : (s.event e b n).latch = s.latch := by simp [State.event]
@[simp] theorem State.event_held (e b n : Nat) : (s.event e b n).held = s.held := by simp [State.event]
@[simp] theorem State.event_wosSpent (e b n : Nat) : (s.event e b n).wosSpent = s.wosSpent := by simp [State.event]
@[simp] theorem State.event_mem (e b n : Nat) : (s.event e b n).mem = s.mem := by simp [State.event]
@[simp] theorem State.event_c0 (e b n : Nat) : (s.event e b n).c0 = s.c0 := by simp [State.event]
@[simp] theorem State.event_c1 (e b n : Nat) : (s.event e b n).c1 = s.c1 := by simp [State.event]
@[simp] theorem State.event_c2 (e b n : Nat) : (s.event e b n).c2 = s.c2 := by simp [State.event]
@[simp] theorem State.event_c3 (e b n : Nat) : (s.event e b n).c3 = s.c3 := by simp [State.event]
@[simp] theorem State.event_g0 (e b n : Nat) : (s.event e b n).g0 = s.g0 := by simp [State.event]
@[simp] theorem State.event_beat (e b n : Nat) : (s.event e b n).beat = s.beat := by simp [State.event]
@[simp] theorem State.event_ms (e b n : Nat) : (s.event e b n).ms = s.ms := by simp [State.event]
@[simp] theorem State.event_dma (e b n : Nat) : (s.event e b n).dma = s.dma := by simp [State.event]
@[simp] theorem State.event_gnt (e b n : Nat) : (s.event e b n).gnt = s.gnt := by simp [State.event]
@[simp] theorem State.event_lnk (e b n : Nat) : (s.event e b n).lnk = s.lnk := by simp [State.event]
@[simp] theorem State.event_ldg (e b n : Nat) : (s.event e b n).ldg = s.ldg := by simp [State.event]
@[simp] theorem State.event_pwr (e b n : Nat) : (s.event e b n).pwr = s.pwr := by simp [State.event]
@[simp] theorem State.event_pipes (e b n : Nat) : (s.event e b n).pipes = s.pipes := by simp [State.event]
@[simp] theorem State.event_visors (e b n : Nat) : (s.event e b n).visors = s.visors := by simp [State.event]
@[simp] theorem State.event_out (e b n : Nat) : (s.event e b n).out = s.out := by simp [State.event]
@[simp] theorem State.event_blt (e b n : Nat) : (s.event e b n).blt = s.blt := by simp [State.event]
@[simp] theorem State.event_aud (e b n : Nat) : (s.event e b n).aud = s.aud := by simp [State.event]
@[simp] theorem State.event_cams (e b n : Nat) : (s.event e b n).cams = s.cams := by simp [State.event]
@[simp] theorem State.event_recorder (e b n : Nat) : (s.event e b n).recorder = s.recorder := by simp [State.event]
@[simp] theorem State.event_emmc (e b n : Nat) : (s.event e b n).emmc = s.emmc := by simp [State.event]
@[simp] theorem State.event_xpa (e b n : Nat) : (s.event e b n).xpa = s.xpa := by simp [State.event]
@[simp] theorem State.event_tmr (e b n : Nat) : (s.event e b n).tmr = s.tmr := by simp [State.event]
@[simp] theorem State.event_adc (e b n : Nat) : (s.event e b n).adc = s.adc := by simp [State.event]
@[simp] theorem State.event_pads (e b n : Nat) : (s.event e b n).pads = s.pads := by simp [State.event]
@[simp] theorem State.event_mit (e b n : Nat) : (s.event e b n).mit = s.mit := by simp [State.event]
@[simp] theorem State.event_cans (e b n : Nat) : (s.event e b n).cans = s.cans := by simp [State.event]
@[simp] theorem State.event_uarts (e b n : Nat) : (s.event e b n).uarts = s.uarts := by simp [State.event]
@[simp] theorem State.event_spis (e b n : Nat) : (s.event e b n).spis = s.spis := by simp [State.event]
@[simp] theorem State.event_ospi (e b n : Nat) : (s.event e b n).ospi = s.ospi := by simp [State.event]
@[simp] theorem State.event_i2cs (e b n : Nat) : (s.event e b n).i2cs = s.i2cs := by simp [State.event]
@[simp] theorem State.event_pps (e b n : Nat) : (s.event e b n).pps = s.pps := by simp [State.event]
@[simp] theorem State.event_rdata (e b n : Nat) : (s.event e b n).rdata = s.rdata := by simp [State.event]
@[simp] theorem State.event_drawn (e b n : Nat) : (s.event e b n).drawn = s.drawn := by simp [State.event]
@[simp] theorem State.event_subUs (e b n : Nat) : (s.event e b n).subUs = s.subUs := by simp [State.event]
@[simp] theorem State.event_pending (e b n : Nat) : (s.event e b n).pending = s.pending := by simp [State.event]

/-! ### reject -/

@[simp] theorem State.reject_live (p : CmdPort) (c : Nat) : (s.reject p c).live = s.live := by unfold State.reject; split <;> split <;> simp
@[simp] theorem State.reject_latch (p : CmdPort) (c : Nat) : (s.reject p c).latch = s.latch := by unfold State.reject; split <;> split <;> simp
@[simp] theorem State.reject_held (p : CmdPort) (c : Nat) : (s.reject p c).held = s.held := by unfold State.reject; split <;> split <;> simp
@[simp] theorem State.reject_wosSpent (p : CmdPort) (c : Nat) : (s.reject p c).wosSpent = s.wosSpent := by unfold State.reject; split <;> split <;> simp
@[simp] theorem State.reject_mem (p : CmdPort) (c : Nat) : (s.reject p c).mem = s.mem := by unfold State.reject; split <;> split <;> simp
@[simp] theorem State.reject_c0 (p : CmdPort) (c : Nat) : (s.reject p c).c0 = s.c0 := by unfold State.reject; split <;> split <;> simp
@[simp] theorem State.reject_c1 (p : CmdPort) (c : Nat) : (s.reject p c).c1 = s.c1 := by unfold State.reject; split <;> split <;> simp
@[simp] theorem State.reject_c2 (p : CmdPort) (c : Nat) : (s.reject p c).c2 = s.c2 := by unfold State.reject; split <;> split <;> simp
@[simp] theorem State.reject_c3 (p : CmdPort) (c : Nat) : (s.reject p c).c3 = s.c3 := by unfold State.reject; split <;> split <;> simp
@[simp] theorem State.reject_g0 (p : CmdPort) (c : Nat) : (s.reject p c).g0 = s.g0 := by unfold State.reject; split <;> split <;> simp
@[simp] theorem State.reject_beat (p : CmdPort) (c : Nat) : (s.reject p c).beat = s.beat := by unfold State.reject; split <;> split <;> simp
@[simp] theorem State.reject_ms (p : CmdPort) (c : Nat) : (s.reject p c).ms = s.ms := by unfold State.reject; split <;> split <;> simp
@[simp] theorem State.reject_dma (p : CmdPort) (c : Nat) : (s.reject p c).dma = s.dma := by unfold State.reject; split <;> split <;> simp
@[simp] theorem State.reject_gnt (p : CmdPort) (c : Nat) : (s.reject p c).gnt = s.gnt := by unfold State.reject; split <;> split <;> simp
@[simp] theorem State.reject_lnk (p : CmdPort) (c : Nat) : (s.reject p c).lnk = s.lnk := by unfold State.reject; split <;> split <;> simp
@[simp] theorem State.reject_ldg (p : CmdPort) (c : Nat) : (s.reject p c).ldg = s.ldg := by unfold State.reject; split <;> split <;> simp
@[simp] theorem State.reject_pwr (p : CmdPort) (c : Nat) : (s.reject p c).pwr = s.pwr := by unfold State.reject; split <;> split <;> simp
@[simp] theorem State.reject_pipes (p : CmdPort) (c : Nat) : (s.reject p c).pipes = s.pipes := by unfold State.reject; split <;> split <;> simp
@[simp] theorem State.reject_visors (p : CmdPort) (c : Nat) : (s.reject p c).visors = s.visors := by unfold State.reject; split <;> split <;> simp
@[simp] theorem State.reject_out (p : CmdPort) (c : Nat) : (s.reject p c).out = s.out := by unfold State.reject; split <;> split <;> simp
@[simp] theorem State.reject_blt (p : CmdPort) (c : Nat) : (s.reject p c).blt = s.blt := by unfold State.reject; split <;> split <;> simp
@[simp] theorem State.reject_aud (p : CmdPort) (c : Nat) : (s.reject p c).aud = s.aud := by unfold State.reject; split <;> split <;> simp
@[simp] theorem State.reject_cams (p : CmdPort) (c : Nat) : (s.reject p c).cams = s.cams := by unfold State.reject; split <;> split <;> simp
@[simp] theorem State.reject_recorder (p : CmdPort) (c : Nat) : (s.reject p c).recorder = s.recorder := by unfold State.reject; split <;> split <;> simp
@[simp] theorem State.reject_emmc (p : CmdPort) (c : Nat) : (s.reject p c).emmc = s.emmc := by unfold State.reject; split <;> split <;> simp
@[simp] theorem State.reject_xpa (p : CmdPort) (c : Nat) : (s.reject p c).xpa = s.xpa := by unfold State.reject; split <;> split <;> simp
@[simp] theorem State.reject_tmr (p : CmdPort) (c : Nat) : (s.reject p c).tmr = s.tmr := by unfold State.reject; split <;> split <;> simp
@[simp] theorem State.reject_adc (p : CmdPort) (c : Nat) : (s.reject p c).adc = s.adc := by unfold State.reject; split <;> split <;> simp
@[simp] theorem State.reject_pads (p : CmdPort) (c : Nat) : (s.reject p c).pads = s.pads := by unfold State.reject; split <;> split <;> simp
@[simp] theorem State.reject_mit (p : CmdPort) (c : Nat) : (s.reject p c).mit = s.mit := by unfold State.reject; split <;> split <;> simp
@[simp] theorem State.reject_cans (p : CmdPort) (c : Nat) : (s.reject p c).cans = s.cans := by unfold State.reject; split <;> split <;> simp
@[simp] theorem State.reject_uarts (p : CmdPort) (c : Nat) : (s.reject p c).uarts = s.uarts := by unfold State.reject; split <;> split <;> simp
@[simp] theorem State.reject_spis (p : CmdPort) (c : Nat) : (s.reject p c).spis = s.spis := by unfold State.reject; split <;> split <;> simp
@[simp] theorem State.reject_ospi (p : CmdPort) (c : Nat) : (s.reject p c).ospi = s.ospi := by unfold State.reject; split <;> split <;> simp
@[simp] theorem State.reject_i2cs (p : CmdPort) (c : Nat) : (s.reject p c).i2cs = s.i2cs := by unfold State.reject; split <;> split <;> simp
@[simp] theorem State.reject_pps (p : CmdPort) (c : Nat) : (s.reject p c).pps = s.pps := by unfold State.reject; split <;> split <;> simp
@[simp] theorem State.reject_rdata (p : CmdPort) (c : Nat) : (s.reject p c).rdata = s.rdata := by unfold State.reject; split <;> split <;> simp
@[simp] theorem State.reject_drawn (p : CmdPort) (c : Nat) : (s.reject p c).drawn = s.drawn := by unfold State.reject; split <;> split <;> simp
@[simp] theorem State.reject_subUs (p : CmdPort) (c : Nat) : (s.reject p c).subUs = s.subUs := by unfold State.reject; split <;> split <;> simp
@[simp] theorem State.reject_pending (p : CmdPort) (c : Nat) : (s.reject p c).pending = s.pending := by unfold State.reject; split <;> split <;> simp

end Sys2Proof.Machine
end

