-- ==== Sys2Proof/Laws/Ops.lean ====
section
/-! SUPPORT. What the shared operations do, said once: registers, fields, pulses of sources, commands and guards. -/

namespace Sys2Proof.Machine

variable (s : State)

/-! ### Registers -/

theorem rg_setRg (a b : Nat) (v : Word) : (s.setRg a v).rg b = if b = a then v else s.rg b := smGet_smSet resetOf s.regs a b v

@[simp] theorem rg_setRg_same (a : Nat) (v : Word) : (s.setRg a v).rg a = v := by simp [rg_setRg]

theorem rg_setRg_ne {a b : Nat} (v : Word) (h : b ≠ a) : (s.setRg a v).rg b = s.rg b := by simp [rg_setRg, h]

theorem lv_setLv (a b : Nat) (v : Word) : (s.setLv a v).lv b = if b = a then v else s.lv b := smGet_smSet resetOf s.live a b v

/-- Registers read through a state that has the same register map. -/
theorem rg_congr {s t : State} (h : t.regs = s.regs) (a : Nat) : t.rg a = s.rg a := by simp [State.rg, h]

theorem lv_congr {s t : State} (h : t.live = s.live) (a : Nat) : t.lv a = s.lv a := by simp [State.lv, h]

@[simp] theorem lv_setRg (a b : Nat) (v : Word) : (s.setRg a v).lv b = s.lv b := rfl
@[simp] theorem lv_setFld (a lo len v b : Nat) : (s.setFld a lo len v).lv b = s.lv b := rfl
@[simp] theorem lv_setBit (a n b : Nat) (v : Bool) : (s.setBit a n v).lv b = s.lv b := rfl
@[simp] theorem rg_setLv (a b : Nat) (v : Word) : (s.setLv a v).rg b = s.rg b := rfl

theorem rg_setFld (a lo len v b : Nat) : (s.setFld a lo len v).rg b = if b = a then withField (s.rg a) lo len v else s.rg b :=
  rg_setRg s a b _

theorem rg_setFld_ne {a b : Nat} (lo len v : Nat) (h : b ≠ a) : (s.setFld a lo len v).rg b = s.rg b := rg_setRg_ne s _ h

theorem rg_setBit (a n b : Nat) (v : Bool) : (s.setBit a n v).rg b = if b = a then withBit (s.rg a) n v else s.rg b :=
  rg_setRg s a b _

theorem rg_setBit_ne {a b : Nat} (n : Nat) (v : Bool) (h : b ≠ a) : (s.setBit a n v).rg b = s.rg b := rg_setRg_ne s _ h

theorem fld_setFld_same (a lo len v : Nat) (h : lo + len ≤ 32) : (s.setFld a lo len v).fld a lo len = v % 2 ^ len := by
  simp only [State.fld, State.setFld, rg_setRg_same]
  exact fieldOf_withField_same _ lo len v h

theorem fld_ne_setFld {a b : Nat} (lo len v lo' len' : Nat) (h : b ≠ a) :
    (s.setFld a lo len v).fld b lo' len' = s.fld b lo' len' := by simp [State.fld, rg_setFld_ne s lo len v h]

theorem bit_setBit (a n m : Nat) (v : Bool) (h : m < 32) : (s.setBit a n v).bit a m = if m = n then v else s.bit a m := by
  simp only [State.bit, State.setBit, rg_setRg_same]
  exact bitOf_withBit _ n m v h

theorem bit_setBit_same (a n : Nat) (v : Bool) (h : n < 32) : (s.setBit a n v).bit a n = v := by simp [bit_setBit, h]

theorem bit_ne_setBit {a b : Nat} (n m : Nat) (v : Bool) (h : b ≠ a) : (s.setBit a n v).bit b m = s.bit b m := by
  simp [State.bit, rg_setBit_ne s n v h]

theorem rg_count (a b n : Nat) : (s.count a n).rg b = if b = a then satInc (s.rg a) n else s.rg b := rg_setRg s a b _

theorem rg_count_ne {a b : Nat} (n : Nat) (h : b ≠ a) : (s.count a n).rg b = s.rg b := rg_setRg_ne s _ h

/-! ### Sources -/

/-- The registers that a pulse may write. -/
def pendReg (a : Nat) : Bool := decide (ECX_PEND 0 ≤ a)

theorem rg_setPend_ne (n : Nat) (b : Bool) {a : Nat} (h : a ≠ ECX_PEND (n / 32)) : (s.setPend n b).rg a = s.rg a := by
  unfold State.setPend
  split
  · rfl
  · exact rg_setBit_ne s _ _ h

/-- A pulse of source `n` changes no register but its pending word. -/
theorem rg_raise_ne (n : Nat) {a : Nat} (h : a ≠ ECX_PEND (n / 32)) : (s.raise n).rg a = s.rg a := by
  unfold State.raise
  split
  · rfl
  · exact rg_setPend_ne s n false h

@[simp] theorem lv_setPend (n b : Nat) (v : Bool) : (s.setPend n v).lv b = s.lv b := lv_congr (by simp) b
@[simp] theorem lv_raise (n b : Nat) : (s.raise n).lv b = s.lv b := lv_congr (by simp) b
@[simp] theorem lv_event (e k n b : Nat) : (s.event e k n).lv b = s.lv b := lv_congr (by simp) b
@[simp] theorem lv_count (a n b : Nat) : (s.count a n).lv b = s.lv b := rfl

theorem pendOf_setPend (n : Nat) (b : Bool) : (s.setPend n b).pendOf n = true := by
  unfold State.setPend
  split
  · assumption
  · exact bit_setBit_same s _ _ _ (Nat.mod_lt _ (by decide))

/-- A pulse makes an edge source pending (R160). -/
theorem pendOf_raise (n : Nat) (h : s.isLevel n = false) : (s.raise n).pendOf n = true := by
  unfold State.raise
  rw [h]
  exact pendOf_setPend s n false

theorem rg_event_ne (e b n : Nat) {a : Nat} (h : a ≠ ECX_PEND (n / 32)) (g : a ≠ e) : (s.event e b n).rg a = s.rg a := by
  unfold State.event
  rw [rg_raise_ne _ _ h, rg_setBit_ne s b true g]

theorem rg_event_self (e b n : Nat) (h : e ≠ ECX_PEND (n / 32)) : (s.event e b n).rg e = withBit (s.rg e) b true := by
  unfold State.event
  rw [rg_raise_ne _ _ h, rg_setBit]
  simp

/-- An event sets its bit. -/
theorem bit_event_self (e b n : Nat) (h : e ≠ ECX_PEND (n / 32)) (hb : b < 32) : (s.event e b n).bit e b = true := by
  rw [State.bit, rg_event_self s e b n h, bitOf_withBit _ _ _ _ hb, if_pos rfl]

/-! ### Commands (R37, R578) -/

theorem command_ok (p : CmdPort) (act : State → State) : s.command p false false false act = act (s.accept p) := rfl

theorem command_state (p : CmdPort) (badArg : Bool) (act : State → State) :
    s.command p false true badArg act = s.reject p ST_STATE := rfl

theorem command_arg (p : CmdPort) (act : State → State) : s.command p false false true act = s.reject p ST_ARG := rfl

theorem rg_accept_ne (p : CmdPort) {a : Nat} (h : a ≠ p.st) : (s.accept p).rg a = s.rg a := rg_setFld_ne s _ _ _ h

@[simp] theorem lv_accept (p : CmdPort) (a : Nat) : (s.accept p).lv a = s.lv a := rfl

theorem st_accept (p : CmdPort) : (s.accept p).fld p.st 0 4 = 0 := fld_setFld_same s p.st 0 4 0 (by decide)

/-! ### Guards (R577) -/

/-- A write that the fabric lets through runs its effect. -/
theorem guardW_ok {i : Initiator} {a : Nat} {v : Word} (act : State → State) (hp : s.powered = true)
    (hj : s.judge i a true .word v.toNat = none) : s.guardW i a v act = act s := by
  simp [State.guardW, hp, hj]

/-- The same, from the one condition that the statements use. -/
theorem guardW_serves {i : Initiator} {a : Nat} {v : Word} (act : State → State) (h : s.serves i a v = true) :
    s.guardW i a v act = act s := by
  simp only [State.serves, Bool.and_eq_true, Option.isNone_iff_eq_none] at h
  exact guardW_ok s act h.1 h.2

theorem guardR_serves {i : Initiator} {a : Nat} (act : State → State) (h : s.servesRead i a = true) :
    s.guardR i a act = act s := by
  simp only [State.servesRead, Bool.and_eq_true, Option.isNone_iff_eq_none] at h
  simp [State.guardR, h.1, h.2]

/-- A write that the fabric refuses ends in the error response. -/
theorem guardW_refused {i : Initiator} {a : Nat} {v : Word} {k : ErrKind} {log : Option Nat} (act : State → State)
    (hp : s.powered = true) (hj : s.judge i a true .word v.toNat = some (k, log)) :
    s.guardW i a v act = s.refuse i a true .word k log := by
  simp [State.guardW, hp, hj]

theorem guardR_ok {i : Initiator} {a : Nat} (act : State → State) (hp : s.powered = true)
    (hj : s.judge i a false .word 0 = none) : s.guardR i a act = act s := by
  simp [State.guardR, hp, hj]

end Sys2Proof.Machine
end

