-- ==== Sys2Proof/Laws/Core.lean ====
section
/-! SUPPORT. Laws of the cores: registers, the state of one core among the others, and how an instruction runs. -/

namespace Sys2Proof.Machine

variable (s : State)

@[simp] theorem core_setCore (c : CoreId) (k : Core) : (s.setCore c k).core c = k := by cases c <;> rfl

theorem core_setCore_ne {c e : CoreId} (k : Core) (h : e ≠ c) : (s.setCore c k).core e = s.core e := by
  cases c <;> cases e <;> first | rfl | exact absurd rfl h

@[simp] theorem regs_setCore (c : CoreId) (k : Core) : (s.setCore c k).regs = s.regs := by cases c <;> rfl
@[simp] theorem live_setCore (c : CoreId) (k : Core) : (s.setCore c k).live = s.live := by cases c <;> rfl
@[simp] theorem mem_setCore (c : CoreId) (k : Core) : (s.setCore c k).mem = s.mem := by cases c <;> rfl
@[simp] theorem dis_setCore (c : CoreId) (k : Core) : (s.setCore c k).dis = s.dis := by cases c <;> rfl
@[simp] theorem ecx_setCore (c : CoreId) (k : Core) : (s.setCore c k).ecx = s.ecx := by cases c <;> rfl
@[simp] theorem pwr_setCore (c : CoreId) (k : Core) : (s.setCore c k).pwr = s.pwr := by cases c <;> rfl
@[simp] theorem beat_setCore (c : CoreId) (k : Core) : (s.setCore c k).beat = s.beat := by cases c <;> rfl
@[simp] theorem pending_setCore (c : CoreId) (k : Core) : (s.setCore c k).pending = s.pending := by cases c <;> rfl
@[simp] theorem rdata_setCore (c : CoreId) (k : Core) : (s.setCore c k).rdata = s.rdata := by cases c <;> rfl
@[simp] theorem rg_setCore (c : CoreId) (k : Core) (a : Nat) : (s.setCore c k).rg a = s.rg a := rg_congr (by simp) a
@[simp] theorem lv_setCore (c : CoreId) (k : Core) (a : Nat) : (s.setCore c k).lv a = s.lv a := lv_congr (by simp) a

/-! ### General registers (R74) -/

theorem reg_setReg (k : Core) (n m : Nat) (v : Word) : (k.setReg n v).reg m = if m = n then v else k.reg m :=
  smGet_smSet _ k.g n m v

@[simp] theorem reg_setReg_same (k : Core) (n : Nat) (v : Word) : (k.setReg n v).reg n = v := by simp [reg_setReg]

theorem reg_setReg_ne (k : Core) {n m : Nat} (v : Word) (h : m ≠ n) : (k.setReg n v).reg m = k.reg m := by
  simp [reg_setReg, h]

/-! ### How an instruction runs -/

/-- Core `c` runs and its fetch finds the instruction. -/
theorem instr_ok {c : CoreId} {t : State} (body : State → State) (hr : s.runs c = true) (hf : s.fetch c = (none, t)) :
    s.instr c body = body t := by
  simp [State.instr, hr, hf]

/-- An instruction whose fetch succeeds runs its body on the state after the fetch. -/
theorem instr_fetches {c : CoreId} (body : State → State) (h : s.fetches c = true) :
    s.instr c body = body (s.fetched c) := by
  simp only [State.fetches, Bool.and_eq_true, Option.isNone_iff_eq_none] at h
  have hf : s.fetch c = (none, s.fetched c) := Prod.ext h.1.2 rfl
  exact instr_ok s body h.1.1 hf

theorem run_fetched {c : CoreId} (h : s.fetches c = true) : ((s.fetched c).core c).run = .running := by
  simp only [State.fetches, State.runs, Bool.and_eq_true, beq_iff_eq] at h
  exact h.2.2

theorem retire_running {c : CoreId} (f : Core → Core) (h : (s.core c).run = .running) :
    s.retire_ c f = s.setCore c { f (s.core c) with pc := (s.core c).pc + 4 } := by
  simp [State.retire_, h]

/-- An instruction that only computes: it retires with the core that `f` gives. -/
theorem instr_retire {c : CoreId} (f : Core → Core) (h : s.fetches c = true) :
    s.instr c (fun t => t.retire_ c f) =
      (s.fetched c).setCore c { f ((s.fetched c).core c) with pc := ((s.fetched c).core c).pc + 4 } := by
  rw [instr_fetches s _ h, retire_running _ f (run_fetched s h)]

/-- A core that does not run executes nothing (R90). -/
theorem instr_stopped {c : CoreId} (body : State → State) (hr : s.runs c = false) : s.instr c body = s := by
  simp [State.instr, hr]

/-- What entry to a vector leaves in the core (R84), where the vector entry reads as `v`. -/
theorem enter_ok {c : CoreId} {e : Exc} {v : Nat} {u : State}
    (h : (s.setCore c { s.core c with
        epc := e.epc, eaddr := e.addr, ecause := e.cause
        status := entryStatus (s.core c).status (handlerLevel c), reserved := none, run := .running }).coreRead c
          (((s.core c).vbase.toNat + 4 * e.vec) % 0x100000000) .word = (.ok v, u)) :
    s.enter c e = u.setCore c { u.core c with pc := w32 (v / 4 * 4), run := (s.core c).handles } := by
  simp only [State.enter]
  rw [h]

/-- A synchronous exception inside a handler locks the core up (R88). -/
theorem raiseExc_locked {c : CoreId} (e : Exc) (h : (s.core c).exc = true) : s.raiseExc c e = s.lockUp c := by
  simp [State.raiseExc, h]

theorem raiseExc_enter {c : CoreId} (e : Exc) (h : (s.core c).exc = false) : s.raiseExc c e = s.enter c e := by
  simp [State.raiseExc, h]

end Sys2Proof.Machine
end

