-- ==== Sys2Proof/Laws/Memory.lean ====
section
/-! SUPPORT. Every operation that writes the bytes of memory keeps their canonical form, and a byte reads as it was last
written. -/

namespace Sys2Proof.Machine

theorem byteAt_setByte (s : State) (p q : Nat) (b : Byte) :
    (s.setByte p b).byteAt q = if q = p then b else s.byteAt q := smGet_smSet memDefault s.mem p q b

theorem setByte_wf {s : State} (h : Memory.wf s.mem = true) (p : Nat) (b : Byte) : Memory.wf (s.setByte p b).mem = true :=
  smWf_smSet h p b

theorem pokeBytes_wf {s : State} (h : Memory.wf s.mem = true) (p : Nat) (l : List Byte) :
    Memory.wf (s.pokeBytes p l).mem = true := by
  induction l generalizing s p with
  | nil => simpa [State.pokeBytes] using h
  | cons b l ih => exact ih (setByte_wf h p b) (p + 1)

theorem poke_wf {s : State} (h : Memory.wf s.mem = true) (p n v : Nat) : Memory.wf (s.poke p n v).mem = true :=
  pokeBytes_wf h p _

theorem scramble_wf {s : State} (h : Memory.wf s.mem = true) (p n : Nat) : Memory.wf (s.scramble p n).mem = true :=
  pokeBytes_wf h p _

/-- Bytes below `p` keep their values when bytes are stored from `p` up. -/
theorem byteAt_pokeBytes_below (s : State) (p q : Nat) (l : List Byte) (h : q < p) :
    (s.pokeBytes p l).byteAt q = s.byteAt q := by
  induction l generalizing s p with
  | nil => rfl
  | cons b l ih =>
    show ((s.setByte p b).pokeBytes (p + 1) l).byteAt q = s.byteAt q
    rw [ih (s.setByte p b) (p + 1) (by omega), byteAt_setByte, if_neg (by omega)]

/-- Bytes outside a stored run keep their values. -/
theorem byteAt_pokeBytes_outside (s : State) (p q : Nat) (l : List Byte) (h : q < p ∨ p + l.length ≤ q) :
    (s.pokeBytes p l).byteAt q = s.byteAt q := by
  induction l generalizing s p with
  | nil => rfl
  | cons b l ih =>
    show ((s.setByte p b).pokeBytes (p + 1) l).byteAt q = s.byteAt q
    simp only [List.length_cons] at h
    rw [ih (s.setByte p b) (p + 1) (by omega), byteAt_setByte, if_neg (by omega)]

theorem foldl_smSet_wf {β : Type} (l : List β) (f : β → Nat) (g : β → Byte) {m : List Host.Cell} (h : Memory.wf m = true) :
    Memory.wf (l.foldl (fun m e => smSet memDefault m (f e) (g e)) m) = true := by
  induction l generalizing m with
  | nil => exact h
  | cons e l ih => exact ih (smWf_smSet h _ _)

/-- Counting, capturing and raising an ECC finding leaves memory (R188, R194). -/
@[simp] theorem mem_eccCount (s : State) (code a : Nat) (scrub ue : Bool) : (s.eccCount code a scrub ue).mem = s.mem := by
  unfold State.eccCount
  dsimp only
  split <;> split <;> simp

theorem mem_foldl_eccCount {β : Type} (l : List β) (c a : β → Nat) (b u : β → Bool) (s : State) :
    (l.foldl (fun t e => t.eccCount (c e) (a e) (b e) (u e)) s).mem = s.mem := by
  induction l generalizing s with
  | nil => rfl
  | cons e l ih => rw [List.foldl_cons, ih, mem_eccCount]

/-- The copy of a row keeps the canonical form (R190). -/
theorem copyRow_wf {s : State} (h : Memory.wf s.mem = true) (row src dst : Nat) :
    Memory.wf (s.copyRow row src dst).mem = true := by
  refine foldl_smSet_wf _ _ _ (smWf_smDrop ?_ _)
  rw [mem_foldl_eccCount]
  exact h

/-- A reset keeps a part of memory, in canonical form. -/
theorem cleared_wf {s : State} (h : Memory.wf s.mem = true) (k : Nat) : Memory.wf (s.cleared k).mem = true := by
  unfold State.cleared
  exact smWf_filter h _

/-- The memory after reset is in canonical form. -/
theorem reset_wf : Memory.wf State.reset.mem = true := rfl

end Sys2Proof.Machine
end

