-- ==== Sys2Proof/Tests/Slice0.lean ====
section
/-! SUPPORT. The model's own tests: each a named theorem that the kernel evaluates, on a small state. A test `wit_X` shows a state
and operands that meet the hypotheses of the statement X, clause by clause. -/

namespace Sys2Proof.Tests

set_option Elab.async false

open Sys2Proof Sys2Proof.Machine

/-- A predicate holds of the next state of a command. -/
def after (i : Instr) (s : State) (p : State → Bool) : Bool :=
  match exec i s with
  | .next t => p t
  | _ => false

/-- Reset, with every block clocked. -/
def base : State := State.reset.setRg SYS_CLKEN 0x7FFFFF

/-- Core `c` running at `lvl` in SRAM with some registers. -/
def running (c : CoreId) (lvl : Nat) (g : List (Nat × Word)) : State :=
  base.setCore c { Core.atReset lvl with run := .running, pc := 0x10000000, g := g }

/-! ### AddSubtractCompare -/

theorem wit_AddSubtractCompare : (running .c1 1 [(1, 0x80000000), (2, 0xFFFFFFFF)]).fetches .c1 = true := by decide +kernel

/-- 0x8000_0000 + 0xFFFF_FFFF wraps with C and V (spec/04 R110). -/
theorem test_add_wraps : after (.add .c1 4 1 2 true) (running .c1 1 [(1, 0x80000000), (2, 0xFFFFFFFF)])
    (fun t => t.c1.reg 4 == 0x7FFFFFFF && t.c1.flags == 0x30000000 && t.c1.pc == 0x10000004) = true := by decide +kernel

/-- 0 − 1 borrows: C is 0, N is 1. -/
theorem test_cmpi_borrows : after (.cmpi .c1 0 1) (running .c1 1 []) (fun t => t.c1.flags == 0x80000000) = true := by
  decide +kernel

/-! ### LogicInstructions -/

theorem wit_LogicInstructions : (running .g0 2 [(1, 0xF0F0F0F0)]).fetches .g0 = true := by decide +kernel

theorem test_andn : after (.andn .g0 4 1 2 true) (running .g0 2 [(1, 0xF0F0F0F0), (2, 0xFF000000)])
    (fun t => t.g0.reg 4 == 0x00F0F0F0 && t.g0.flags == 0) = true := by decide +kernel

theorem test_lui : after (.lui .c0 4 0x3FFFFF) (running .c0 1 []) (fun t => t.c0.reg 4 == 0xFFFFFC00) = true := by decide +kernel

/-! ### ShiftInstructions -/

theorem wit_ShiftInstructions : (running .c3 0 []).fetches .c3 = false ∧ (running .c3 1 [(1, 7)]).fetches .c3 = true := by
  decide +kernel

theorem test_sar : after (.sar .c3 4 1 2 true) (running .c3 1 [(1, 0x80000008), (2, 36)])
    (fun t => t.c3.reg 4 == 0xF8000000 && t.c3.flags == 0xA0000000) = true := by decide +kernel

/-! ### CompareAndSelect -/

theorem wit_CompareAndSelect : (running .c0 1 [(1, 0xFFFFFFFF)]).fetches .c0 = true := by decide +kernel

theorem test_min_signed : after (.min .c0 4 1 2) (running .c0 1 [(1, 0xFFFFFFFF), (2, 1)])
    (fun t => t.c0.reg 4 == 0xFFFFFFFF) = true := by decide +kernel

theorem test_clz_zero : after (.clz .c0 4 1) (running .c0 1 []) (fun t => t.c0.reg 4 == 32) = true := by decide +kernel

/-! ### SaturatingInstructions -/

theorem wit_SaturatingInstructions : (running .c2 1 [(1, 0x7FFFFFFF)]).fetches .c2 = true := by decide +kernel

theorem test_adds_clamps : after (.adds .c2 4 1 1) (running .c2 1 [(1, 0x7FFFFFFF)])
    (fun t => t.c2.reg 4 == 0x7FFFFFFF && t.c2.flags == 0x08000000) = true := by decide +kernel

/-! ### PairSimd -/

theorem wit_PairSimd : (running .c2 1 [(1, 0x80008000)]).fetches .c2 = true := by decide +kernel

/-- Only −32,768 × −32,768 clamps in PMULQ (spec/04 R113). -/
theorem test_pmulq_clamps : after (.pmulq .c2 4 1 2) (running .c2 1 [(1, 0x80004000), (2, 0x80004000)])
    (fun t => t.c2.reg 4 == 0x7FFF2000 && t.c2.flags == 0x08000000) = true := by decide +kernel

theorem test_psub_lanes : after (.psub .c2 4 1 2) (running .c2 1 [(1, 0x00010000), (2, 0x00020001)])
    (fun t => t.c2.reg 4 == 0xFFFFFFFF) = true := by decide +kernel

/-! ### MultiplyDivide -/

theorem wit_MultiplyDivide : (running .c1 1 [(1, 0x80000000), (2, 0xFFFFFFFF)]).fetches .c1 = true ∧
    (running .c1 1 [(1, 0x80000000), (2, 0xFFFFFFFF)]).c1.reg 2 ≠ 0 ∧
    (running .c1 1 [(1, 0x80000000), (2, 0xFFFFFFFF)]).c1.reg 3 = 0 := by decide +kernel

/-- 0x8000_0000 by −1 (spec/04 R115). -/
theorem test_div_wraps : after (.div .c1 4 1 2) (running .c1 1 [(1, 0x80000000), (2, 0xFFFFFFFF)])
    (fun t => t.c1.reg 4 == 0x80000000 && t.c1.flags == 0) = true := by decide +kernel

theorem test_rem_sign : after (.rem .c1 4 1 2) (running .c1 1 [(1, 0xFFFFFFF9), (2, 3)])
    (fun t => t.c1.reg 4 == 0xFFFFFFFF) = true := by decide +kernel

/-- Division by 0 enters vector 8 (spec/04 R115, spec/03 R83). -/
theorem test_divz : after (.divu .c1 4 1 2) (running .c1 1 [(1, 5), (4, 9)])
    (fun t => t.c1.ecause == 8 && t.c1.epc == 0x10000000 && t.c1.reg 4 == 9 && t.c1.status == 0x19) = true := by decide +kernel

/-! ### LoadInstructions -/

/-- C1 at Host level over its own TCM and SRAM. -/
def memCore : State := (running .c1 1 [(1, 0x08000010), (2, 0x10000020)]).pokeBytes 0x08110010 [0x80, 0xFF, 0x01, 0x00]

theorem wit_LoadInstructions : memCore.fetches .c1 = true ∧
    (memCore.fetched .c1).plainAt .c1 1 0x08000010 4 0x08110010 ∧ (memCore.fetched .c1).cacheable .c1 0x08000010 = false ∧
    (memCore.fetched .c1).plainAt .c1 1 0x10000024 2 0x10000024 ∧ (memCore.fetched .c1).cacheable .c1 0x10000024 = false := by
  unfold State.plainAt State.soundAt; decide +kernel

theorem test_ldb_extends : after (.ldb .c1 4 1 0) memCore (fun t => t.c1.reg 4 == 0xFFFFFF80) = true := by decide +kernel

theorem test_ldhup_moves : after (.ldhup .c1 4 1 0x3FFFE) memCore
    (fun t => t.c1.reg 4 == 0xFF80 && t.c1.reg 1 == 0x0800000E) = true := by decide +kernel

/-! ### StoreInstructions -/

theorem wit_StoreInstructions : memCore.fetches .c1 = true ∧
    (memCore.fetched .c1).plainAt .c1 2 0x08000010 4 0x08110010 ∧ (memCore.fetched .c1).cacheable .c1 0x08000010 = false ∧
    (memCore.fetched .c1).plainAt .c1 2 0x10000021 1 0x10000021 ∧ (memCore.fetched .c1).cacheable .c1 0x10000021 = false := by
  unfold State.plainAt State.soundAt; decide +kernel

theorem test_sth_bytes : after (.sth .c1 1 2 2) memCore
    (fun t => t.peek 0x10000020 4 == 0x00100000 && t.c1.pc == 0x10000004) = true := by decide +kernel

theorem test_stwp_self : after (.stwp .c1 2 2 4) memCore
    (fun t => t.peek 0x10000020 4 == 0x10000020 && t.c1.reg 2 == 0x10000024) = true := by decide +kernel

/-! ### AtomicInstructions -/

/-- C1 with registers on a granule that it has reserved, off alignment, and in the private space. -/
def atomCore : State := (running .c1 1 [(1, 0x08000010), (2, 0x10000020), (3, 0x10000022), (5, 0xF0000000)]).setCore .c1
  { (running .c1 1 [(1, 0x08000010), (2, 0x10000020), (3, 0x10000022), (5, 0xF0000000)]).c1 with reserved := some (0x10000020 / 32) }

theorem wit_AtomicInstructions : atomCore.fetches .c1 = true ∧
    (atomCore.fetched .c1).plainAt .c1 1 0x10000020 4 0x10000020 ∧ (atomCore.fetched .c1).plainAt .c1 2 0x10000020 4 0x10000020 ∧
    atomReach .c1 0x10000020 ∧ atomReach .c1 0x08000010 ∧ ¬atomReach .c1 0xF0000000 ∧ ¬atomReach .g0 0x08000010 ∧
    atomCore.c1.dline (0x10000020 / 32) = none ∧ atomCore.c1.reserved = some (0x10000020 / 32) ∧
    (atomCore.fetched .c1).plainAt .c1 2 0x08000010 4 0x08110010 ∧ atomCore.c1.reserved ≠ some (0x08000010 / 32) ∧
    (atomCore.c1.reg 3).toNat % 4 ≠ 0 ∧ (atomCore.c1.reg 5).toNat % 4 = 0 ∧ (atomCore.c1.reg 5).toNat = 0xF0000000 := by
  refine ⟨?_, ?_, ?_, ?_, ?_, ?_, ?_, ?_, ?_, ?_, ?_, ?_, ?_, ?_⟩ <;> (try unfold State.plainAt State.soundAt) <;> (try unfold atomReach) <;>
    decide +kernel

theorem test_stc_holds : after (.stc .c1 4 1 2) atomCore
    (fun t => t.c1.reg 4 == 0 && t.peek 0x10000020 4 == 0x08000010 && t.c1.reserved == none) = true := by decide +kernel

theorem test_ldx_reserves : after (.ldx .c1 4 1) atomCore (fun t => t.c1.reserved == some (0x08000010 / 32)) = true := by
  decide +kernel

/-! ### LoadStoreTraps -/

/-- C1 at Task level with one region, SRAM page 0, for reading and fetching. -/
def taskCore : State := (running .c1 0 []).setCore .c1 { (running .c1 0 [(1, 0x10000001), (2, 0x10000000), (3, 0xF0000000)]).c1 with
  rgnBase := [(0, 0x10000000)], rgnCfg := [(0, 0x1000000B)] }

theorem wit_LoadStoreTraps : taskCore.fetches .c1 = true ∧ (taskCore.c1.reg 1).toNat % 2 ≠ 0 ∧ (taskCore.c1.reg 1).toNat % 4 ≠ 0 ∧
    (taskCore.c1.reg 2).toNat % 4 = 0 ∧ taskCore.c1.permits 2 (taskCore.c1.reg 2).toNat = false ∧
    taskCore.c1.permits 1 (taskCore.c1.reg 3).toNat = false ∧ taskCore.c1.lvl = 0 ∧ (taskCore.c1.reg 3).toNat = 0xF0000000 := by
  decide +kernel

theorem test_dprot_store : after (.stw .c1 4 2 0) taskCore
    (fun t => t.c1.ecause == 0x4007 && t.c1.eaddr == 0x10000000 && t.c1.status == 0x09) = true := by decide +kernel

/-! ### CachedAccesses -/

/-- C1 with SRAM cacheable and one line of the data cache and of the instruction cache. -/
def cacheCore : State := (running .c1 1 []).setCore .c1 { (running .c1 1 [(1, 0x10000020), (2, 0x10000040)]).c1 with
  rgnBase := [(0, 0x10000000)], rgnCfg := [(0, 0x1000001F)], icache := [(0x10000000 / 32, { bytes := List.replicate 32 0, dirty := false, err := false })]
  dcache := [(0x10000020 / 32, { bytes := List.replicate 32 0x5A, dirty := false, err := false })] }

/-- The same with that line dirty and, where `e`, in error. -/
def dirtyCore (e : Bool) : State := cacheCore.setCore .c1 { cacheCore.c1 with
  dcache := [(0x10000020 / 32, { bytes := List.replicate 32 0x5A, dirty := true, err := e })] }

theorem wit_CachedAccesses : cacheCore.fetches .c1 = true ∧ (cacheCore.fetched .c1).cacheable .c1 0x10000024 = true ∧
    (∃ l, cacheCore.c1.dline (0x10000024 / 32) = some l ∧ l.bytes.length = 32 ∧ l.dirty = false ∧ l.err = false) ∧
    cacheCore.c1.permits 1 0x10000024 = true ∧ cacheCore.c1.permits 2 0x10000024 = true ∧ cacheCore.c1.lvl = 1 ∧
    (∀ e ∈ cacheCore.c1.dcache, e.2.dirty = false) ∧ (running .g0 2 []).fetches .g0 = true ∧ (running .g0 2 []).g0.lvl = 2 ∧
    (running .g0 1 []).fetches .g0 = true ∧ (running .g0 1 []).g0.lvl = 1 ∧ taskCore.c1.lvl = 0 := by
  refine ⟨?_, ?_, ⟨_, rfl, ?_, ?_, ?_⟩, ?_, ?_, ?_, ?_, ?_, ?_, ?_, ?_, ?_⟩ <;> decide +kernel

/-- A dirty line, sound and in error, and where it is written back. -/
theorem wit_dirty : (dirtyCore false).fetches .c1 = true ∧ (dirtyCore true).fetches .c1 = true ∧
    (∃ l, (dirtyCore false).c1.dline (0x10000024 / 32) = some l ∧ l.bytes.length = 32 ∧ l.dirty = true ∧ l.err = false) ∧
    (∃ l, (dirtyCore true).c1.dline (0x10000024 / 32) = some l ∧ l.dirty = true ∧ l.err = true) ∧
    ((dirtyCore false).fetched .c1).physOf .sram false 0x10000020 = some 0x10000020 := by
  refine ⟨?_, ?_, ⟨_, rfl, ?_, ?_, ?_⟩, ⟨_, rfl, ?_, ?_⟩, ?_⟩ <;> decide +kernel

theorem test_cached_store : after (.stw .c1 1 1 4) cacheCore
    (fun t => t.mem == [] && (t.c1.dline (0x10000020 / 32)).map (fun l => l.dirty) == some true) = true := by decide +kernel

/-! ### BranchesAndJumps -/

theorem wit_BranchesAndJumps : (running .c1 1 [(1, 5), (2, 0x08000010)]).fetches .c1 = true ∧
    (running .c1 1 [(1, 5), (2, 0x08000010)]).c1.reg 1 = 5 ∧ (running .c1 1 [(1, 5), (2, 0x08000010)]).c1.reg 2 = 0x08000010 := by
  decide +kernel

theorem test_blt_back : after (.blt .c1 1 2 0x3FFFF) (running .c1 1 [(1, 0xFFFFFFFF), (2, 0)])
    (fun t => t.c1.pc == 0x0FFFFFFC) = true := by decide +kernel

theorem test_callr_self : after (.callr .c1 15) (running .c1 1 [(15, 0x10000100)])
    (fun t => t.c1.pc == 0x10000100 && t.c1.reg 15 == 0x10000004) = true := by decide +kernel

theorem test_jr_ialign : after (.jr .c1 1) (running .c1 1 [(1, 0x10000102)])
    (fun t => t.c1.ecause == 3 && t.c1.eaddr == 0x10000102 && t.c1.epc == 0x10000000) = true := by decide +kernel

/-! ### ControlRegisterReads -/

theorem wit_ControlRegisterReads : (running .c1 1 []).fetches .c1 = true ∧ (running .c1 1 []).c1.lvl = 1 ∧
    taskCore.fetches .c1 = true ∧ taskCore.c1.lvl = 0 := by decide +kernel

theorem test_ctlr_id : after (.ctlr .g0 4 0) (running .g0 2 []) (fun t => t.g0.reg 4 == 0x104) = true := by decide +kernel

/-! ### ControlRegisterWrites -/

theorem wit_ControlRegisterWrites : (running .g0 2 []).fetches .g0 = true ∧ (running .g0 2 []).g0.lvl = 2 ∧
    taskCore.fetches .c1 = true ∧ taskCore.c1.lvl = 0 := by decide +kernel

theorem test_ctlw_status : after (.ctlw .c1 1 1) (running .c1 1 [(1, 0xFFFFFFFF)]) (fun t => t.c1.status == 0x7D) = true := by
  decide +kernel

/-! ### SystemInstructions -/

/-- C1 with its vector table in SRAM, whose entry 10 is 0x1000_0203; source 5, edge and unmasked, waits for C1. -/
def vecCore (st : Word) : State :=
  let s := ((running .c1 1 []).poke 0x10000128 4 0x10000203).setCore .c1 { (running .c1 1 []).c1 with
    vbase := 0x10000100, status := st, epc := 0x10000042 }
  s

theorem wit_SystemInstructions : (vecCore 1).fetches .c1 = true ∧ (vecCore 1).c1.exc = false ∧
    ((vecCore 1).fetched .c1).vectorAt .c1 10 0x10000203 ∧ decodeRyux .c1 0 = none ∧ ((vecCore 1).fetched .c1).vectorAt .c1 1 0 ∧
    ((vecCore 1).fetched .c1).vectorAt .c1 50 0 ∧ (vecCore 0x31).fetches .c1 = true ∧ ((vecCore 1).fetched .c1).line 1 = false ∧
    taskCore.fetches .c1 = true ∧ taskCore.c1.lvl = 0 := by
  refine ⟨?_, ?_, ⟨0x10000128, ?_⟩, ?_, ⟨0x10000104, ?_⟩, ⟨0x100001C8, ?_⟩, ?_, ?_, ?_, ?_⟩ <;>
    (try unfold State.soundAt) <;> decide +kernel

theorem test_brk : after (.brk .c1) (vecCore 5)
    (fun t => t.c1.pc == 0x10000200 && t.c1.epc == 0x10000000 && t.c1.ecause == 10 && t.c1.status == 0x59) = true := by
  decide +kernel

theorem test_eret : after (.eret .c1) (vecCore 0x49) (fun t => t.c1.pc == 0x10000040 && t.c1.status == 0x44) = true := by
  decide +kernel

/-! ### LockUp -/

theorem wit_LockUp : (vecCore 0x19).fetches .c1 = true ∧ (((vecCore 0x19).fetched .c1).core .c1).exc = true := by decide +kernel

theorem test_lock_up : after (.brk .c1) (vecCore 0x19)
    (fun t => t.c1.run == .locked && t.rg FLT_CORESTAT == 2 && t.pendOf 108) = true := by decide +kernel

/-! ### EventsAndWakes -/

/-- C1 in some condition with source 5 pending for it, and its vector table in SRAM. -/
def evCore (k : Core → Core) : State :=
  let s := (((vecCore 5).setRg (ECX_MASK 0) 0xFFFFFFDF).setRg (ECX_TGT 5) 1).setRg (ECX_PEND 0) 0x20
  s.setCore .c1 (k s.c1)

theorem wit_EventsAndWakes : (evCore (fun k => k)).powered = true ∧ (evCore (fun k => k)).pwr = .run ∧
    (evCore (fun k => k)).c1.ie = true ∧ (evCore (fun k => k)).line 1 = true ∧ (evCore (fun k => k)).c1.impDue = false ∧
    (evCore (fun k => k)).vectorAt .c1 32 0 ∧ (evCore (fun k => k)).vectorAt .c1 5 0 ∧ (evCore (fun k => k)).c1.exc = false ∧
    (evCore (fun k => { k with run := .wbeatn 4 9 none })).c1.run = .wbeatn 4 9 none ∧
    (evCore (fun k => { k with run := .wbeat 4 (some 7) })).c1.run = .wbeat 4 (some 7) ∧
    (evCore (fun k => { k with run := .idle })).c1.impDue = false ∧ (evCore (fun k => { k with status := 1 })).c1.ie = false ∧
    (evCore (fun k => { k with storeErrs := [⟨0x10000400, 8⟩], heldErr := some ⟨0x10000404, 8⟩ })).c1.heldErr = some ⟨0x10000404, 8⟩ := by
  refine ⟨?_, ?_, ?_, ?_, ?_, ⟨0x10000180, ?_⟩, ⟨0x10000114, ?_⟩, ?_, ?_, ?_, ?_, ?_, ?_⟩ <;> (try unfold State.soundAt) <;> decide +kernel

theorem test_event_entry : after (.eventEntry .c1) (evCore (fun k => k)) (fun t => t.c1.ecause == 0x80000020 && t.c1.pc == 0) =
    true := by decide +kernel

theorem test_imprecise_take : after (.impreciseBuserrTake .c1) (evCore (fun k => { k with heldErr := some ⟨0x10000400, 8⟩ }))
    (fun t => t.c1.ecause == 0x5805 && t.c1.eaddr == 0x10000400) = true := by decide +kernel

theorem test_idle_wake : after (.idleWake .c1) (evCore (fun k => { k with run := .idle }))
    (fun t => t.c1.run == .running && t.c1.pc == 0x10000004) = true := by decide +kernel

/-! ### TaskInstructions -/

/-- C1 with template 7 for it, and descriptor 9 in a state of its own. -/
def taskState (d9 : Desc) (v : DisCore) : State :=
  (((running .c1 1 [(1, 7), (2, 0x55)]).setDesc 7 { Desc.blank with entry := 0x10000400, cores := 15, prio := 3, state := .template }).setDesc 9
    d9).setDisCore 1 v

theorem wit_TaskInstructions :
    let a := taskState { Desc.blank with state := .slotted } { DisCore.blank with slot := some 9 }
    let b := taskState { Desc.blank with state := .running } { DisCore.blank with cur := some 9 }
    let c := taskState { Desc.blank with state := .running, sen := true, sidx := 7 } { DisCore.blank with cur := some 9 }
    let w := { a with dis := { a.dis with busy := true } }
    a.fetches .c1 = true ∧ (a.setRg (DIS_CORE 1) 0xF01).bit (DIS_CORE 1) 0 = true ∧ (a.setRg (DIS_CORE 1) 0xF01).fetches .c1 = true ∧
    (a.disCore 1).slot = some 9 ∧ (a.disCore 1).cur = none ∧ (a.fetched .c1).disWaits = false ∧ w.fetches .c1 = true ∧
    (w.fetched .c1).disWaits = true ∧ b.fetches .c1 = true ∧ (b.disCore 1).cur = some 9 ∧ (b.desc 9).sen = false ∧ (b.desc 9).kind = .posted ∧
    c.fetches .c1 = true ∧ (c.desc 9).sen = true ∧ (c.desc 9).sidx = 7 ∧ (a.desc 7).state = .template ∧ (a.desc 4095).state ≠ .template ∧
    ¬(a.fld DIS_ADMIT 16 4 < (a.desc 7).prio ∧ a.freeCount ≤ min 4096 (a.fld DIS_ADMIT 0 13)) ∧ a.freeList ≠ [] ∧
    ((a.setRg DIS_ADMIT 0x21000).fld DIS_ADMIT 16 4 < 3 ∧ (a.setRg DIS_ADMIT 0x21000).freeCount ≤ 4096) ∧
    (running .g0 2 []).fetches .g0 = true ∧ a.beatNo = 0 := by decide +kernel

theorem test_post : after (.post .c1 4 1 2 3) (taskState Desc.blank DisCore.blank)
    (fun t => t.c1.reg 4 == 0x30000 && (t.desc 3).state == .ready && (t.desc 3).arg == 0x55 && (t.desc 3).entry == 0x10000400) =
      true := by decide +kernel

theorem test_slot_empty : after (.slot .c1 4) (running .c1 1 [(4, 9), (5, 9)])
    (fun t => t.c1.reg 4 == 0 && t.c1.reg 5 == 0 && t.c1.flags == 0x40000000) = true := by decide +kernel

/-! ### DispatcherCommands -/

/-- Descriptors 1 to 4: FREE and filled, TEMPLATE, BOUND, READY. -/
def disState : State :=
  let d := { Desc.blank with entry := 0x10000400, cores := 15, prio := 3 }
  (((State.reset.setDesc 1 d).setDesc 2 { d with state := .template, kind := .template }).setDesc 3
    { d with state := .bound, kind := .bound, delay := 5 }).setDesc 4 { d with state := .ready }

theorem wit_DispatcherCommands : disState.dis.busy = false ∧
    (∀ op ∈ [1, 2, 3, 4, 5, 6], disState.serves .c0 DIS_CMD (BitVec.ofNat 32 (op * 0x10000000 + 3)) = true) ∧
    (disState.desc 1).state = .free ∧ (disState.desc 1).entry.toNat % 4 = 0 ∧ (disState.desc 1).cores ≠ 0 ∧ (disState.desc 1).sen = false ∧
    (disState.desc 2).state = .template ∧ disState.templateUsed 2 = false ∧ (disState.desc 3).state = .bound ∧
    (disState.setDesc 3 { disState.desc 3 with delay := 0 }).desc 3 = { disState.desc 3 with delay := 0 } ∧ (disState.desc 3).delay ≠ 0 ∧
    (disState.desc 4).state = .ready ∧ (disState.desc 4).kind = .posted ∧ disState.delayList 7 = [] ∧
    disState.serves .c0 (DIS_DWIN 7) 9 = true ∧ disState.serves .c0 (DIS_DWIN 0) 9 = true ∧ disState.fld DIS_DSEL 0 12 = 0 ∧
    (disState.setRg DIS_DSEL 4).fld DIS_DSEL 0 12 = 4 ∧ (disState.desc 0).state = .free ∧ disState.serves .c0 DIS_TICK 4 = true ∧
    (∀ l, l < 8 → disState.delayList l = []) ∧ disState.serves .c0 (DIS_CORE 3) 0xF01 = true ∧ (disState.disCore 3).slot = none ∧
    disState.serves .c0 (DIS_BIND 63) 9 = true ∧ disState.bit (DIS_BIND 63) 31 = false := by decide +kernel

/-- FLUSH_DONE with nothing that waits, and with a DONE and a POST of C1 that wait. -/
theorem wit_FlushDone : (∀ (c : CoreId) x y, (disState.core c).run ≠ .disp x y) ∧
    (∀ e x y, e ≠ .c1 → ((disState.setCore .c1 { disState.c1 with run := .disp 4 (.done 0) }).core e).run ≠ .disp x y) ∧
    (disState.disCore 1).cur = none ∧ disState.beat.copying = [] ∧
    (∀ e x y, e ≠ .c1 → ((disState.setCore .c1 { disState.c1 with run := .disp 4 (.post 4 9 0) }).core e).run ≠ .disp x y) ∧
    (disState.desc 4).state ≠ .template := by
  refine ⟨?_, ?_, ?_, ?_, ?_, ?_⟩
  · intro c x y; cases c <;> simp [disState, State.reset] <;> exact CoreRun.noConfusion
  · intro e x y h; cases e <;> first | exact absurd rfl h | exact CoreRun.noConfusion
  · decide +kernel
  · decide +kernel
  · intro e x y h; cases e <;> first | exact absurd rfl h | exact CoreRun.noConfusion
  · decide +kernel

theorem test_mktpl : after (.mktpl .c0 1) disState (fun t => (t.desc 1).state == .template && t.rg DIS_CMDST == 0) = true := by
  decide +kernel

theorem test_ready_delays : after (.disReady .c0 3) disState
    (fun t => (t.desc 3).state == .delayed && (t.desc 3).wake == 5 && t.delayList 0 == [3]) = true := by decide +kernel

theorem test_ready_state : after (.disReady .c0 4) disState (fun t => t.rg DIS_CMDST == 2 && t.rg DIS_REJECT == 1 && t.pendOf 32) =
    true := by decide +kernel

/-! ### DispatcherEvents -/

/-- C2 blocked in TAKE g4 and descriptor 4 READY with PRIO 3. -/
def handState : State := disState.setCore .c2 { Core.atReset 1 with run := .take 4, pc := 0x10000000 }

/-- C1 in Palm mode with PLIM 15, SLOTAGE 2, and descriptor 5 of PRIO 7 in its slot at DIS_TIME 9. -/
def palmState : State :=
  ((((disState.setDesc 4 { disState.desc 4 with prio := 9 }).setDesc 5 { disState.desc 4 with prio := 7, state := .slotted }).setDisCore 1
    { DisCore.blank with slot := some 5 }).setRg (DIS_CORE 1) 0x20F01).setRg64 DIS_TIME_LO 9

theorem wit_DispatcherEvents : handState.palm 2 = false ∧ handState.disWaits = false ∧ handState.inTake 2 = some 4 ∧ handState.choose 2 0 = some 4 ∧
    handState.firstReceiver 4 2 = true ∧ (palmState.setDisCore 1 DisCore.blank).choose 1 0 = some 4 ∧ palmState.palm 1 = true ∧
    (palmState.setDisCore 1 DisCore.blank).firstReceiver 4 1 = true ∧ palmState.inTake 1 = none ∧ (palmState.disCore 1).slot = some 5 ∧
    (palmState.setDesc 4 (disState.desc 4)).choose 1 0 = some 4 ∧ (disState.desc 4).prio < (palmState.desc 5).prio ∧
    palmState.fld (DIS_CORE 1) 16 16 = 2 ∧ (((palmState.setCore .c2 handState.c2).unslot 1).taskEligible 5 2) = true ∧ palmState.disTime = 9 ∧
    (palmState.setCore .c2 handState.c2).inTake 2 = some 4 ∧ (palmState.setCore .c2 handState.c2).inTake 0 = none := by decide +kernel

/-- A delay list whose head is due; sources offered to the Dispatcher with and without a binding, with and without a delay. -/
theorem wit_offers :
    let x := disState.setDelayList 7 [3]
    let y := ((State.reset.setRg (ECX_MASK 21) 0).setRg (ECX_PEND 21) 0x10).setRg (ECX_TGT 676) 5
    let z := (y.setDesc 3 (disState.desc 3)).setRg (DIS_BIND 63) 0x800302A4
    x.delayList 7 = [3] ∧ (x.desc 3).wake ≤ x.disTime ∧ y.nextOffer = some 676 ∧ y.bindingOf 676 = none ∧ y.dis.unboundSeen.contains 676 = false ∧
    z.nextOffer = some 676 ∧ z.bindingOf 676 = some 3 ∧ (z.desc 3).state = .bound ∧ (z.desc 3).delay ≠ 0 := by decide +kernel

theorem test_handover : after (.taskHandover 2 0) handState
    (fun t => t.c2.reg 4 == 0x10000400 && t.c2.run == .running && (t.desc 4).core == 2) = true := by decide +kernel

theorem test_slot_migrate : after (.slotMigrate 1) (palmState.setCore .c2 handState.c2)
    (fun t => (t.desc 5).core == 2 && (t.disCore 1).slot == none) = true := by decide +kernel

theorem test_offer_unbound : after .ecxOffer (((State.reset.setRg (ECX_MASK 21) 0).setRg (ECX_PEND 21) 0x10).setRg (ECX_TGT 676) 5)
    (fun t => t.rg DIS_UNBOUND == 676 && t.pendOf 676 && t.pendOf 35) = true := by decide +kernel

/-! ### EventConcentrator -/

/-- Source 676 pending and unmasked, for C2. -/
def srcState : State := ((State.reset.setRg (ECX_MASK 21) 0).setRg (ECX_PEND 21) 0x10).setRg (ECX_TGT 676) 2

/-- C2 in queue mode over the ring of the spec's example. -/
def ringState : State :=
  ((((srcState.setRg (ECX_QBASE 2) 0x10030000).setRg (ECX_TCTL 2) 0x601).setRg (ECX_QWR 2) 0x13).setRg (ECX_QRD 2) 0x13).setRg
    (ECX_QSEQ 2) 0x1F3

/-- The same with its record write begun. -/
def writingState : State := { ringState with ecx := { ringState.ecx with
  recWrites := [(2, 676)], stamps := [(676, { beat := 936010, offs := 5120, sw := false })] } }

theorem wit_EventConcentrator : srcState.isLevel 5 = false ∧ srcState.lvlOf 5 = false ∧
    (srcState.setRg (ECX_TYPE 0) 0x20).isLevel 5 = true ∧ srcState.isActive 5 = false ∧ srcState.serves .c2 ECX_SWTRIG 864 = true ∧
    srcState.serves .c2 ECX_SWTRIG 1019 = true ∧ srcState.tgtOf 1019 ≠ 4 ∧ srcState.serves .c2 (ECX_TGT 676) 5 = true ∧ srcState.isActive 676 = false ∧
    (srcState.deliver 676 2 (.core 2)).isActive 676 = true ∧ (srcState.deliver 676 2 (.core 2)).serves .c2 (ECX_TGT 676) 5 = true ∧
    srcState.serves .c2 (ECX_PEND 21) 0 = true ∧ (∀ b, b < 32 → srcState.isLevel (672 + b) = false) ∧
    (srcState.setRg (ECX_TYPE 21) 0x10).isLevel 676 = true ∧ (srcState.setRg (ECX_TYPE 21) 0x10).serves .c2 (ECX_PEND 21) 0x10 = true ∧
    liveSource 676 = true ∧ srcState.ecx.fell.contains 676 = false ∧ srcState.servesRead .c2 ECX_CLAIM = true ∧
    srcState.servesRead .c1 ECX_CLAIM = true ∧ srcState.queueMode 2 = false ∧
    srcState.lowestEligible 2 = some 676 ∧ srcState.lowestEligible 1 = none ∧
    (srcState.deliver 676 2 (.core 2)).serves .c2 ECX_DONE 676 = true ∧
    ((srcState.deliver 676 2 (.core 2)).claimOf 676).map (fun k => k.holder) = some (.core 2) ∧
    srcState.serves .c2 (ECX_TCTL 2) 0x601 = true ∧ srcState.targetActive 2 = false ∧ inSram 0x10030000 1024 = true ∧
    (srcState.setRg (ECX_QBASE 2) 0x10030000).rg (ECX_QBASE 2) = 0x10030000 ∧ srcState.serves .c2 (ECX_QBASE 2) 0x10030000 = true := by
  decide +kernel

/-- The fall of a level source that software set in the same cycle; a ring with room and a full one; a record write that ends;
a read position inside the ring. -/
theorem wit_Rings :
    let l := (srcState.setRg (ECX_TYPE 0) 0x20)
    let f := ringState.setRg (ECX_QRD 2) 0x14
    ({ l with ecx := { l.ecx with swPend := [5] } }).ecx.swPend.contains 5 = true ∧ ringState.queueMode 2 = true ∧
    ringState.lowestEligible 2 = some 676 ∧ ringState.ringFull 2 = false ∧ ringState.beat.copying = [] ∧ ringState.bit (ECX_TSTAT 2) 1 = false ∧
    ringState.ecx.recWrites = [] ∧ f.ringFull 2 = true ∧ f.ecx.fullReported.contains 2 = false ∧ f.lowestEligible 2 = some 676 ∧
    writingState.ecx.recWrites.find? (fun e => e.1 == 2) = some (2, 676) ∧ inSram 0x10030000 (16 * writingState.ringSlots 2) = true ∧
    (writingState.rg (ECX_QWR 2)).toNat < writingState.ringSlots 2 ∧ writingState.ms.ecc = [] ∧ ringState.serves .c2 (ECX_QRD 2) 0x13 = true := by
  decide +kernel

/-- The first record of the spec's example (spec/06, door-leaf contacts). -/
theorem test_record : after (.queueRecordDone 2) writingState (fun t => t.peek 0x10030130 4 == 0x2A4 && t.peek 0x10030134 4 == 0xE484A &&
    t.peek 0x10030138 4 == 0x1400 && t.peek 0x1003013C 4 == 0x1F3 && t.rg (ECX_QWR 2) == 0x14) = true := by decide +kernel

theorem test_claim : after (.ecxClaim .c2) srcState (fun t => t.rdata == 676 && t.isActive 676) = true := by decide +kernel

/-! ### FabricAccesses -/

theorem wit_FabricAccesses :
    (regAt 0x40050004).isSome = true ∧ base.serves .c0 0x40050004 0xFFFF = true ∧ (base.wrSpecial .c0 0x4005 0x40050004 0 0 0xFFFF).isNone = true ∧
    (regAt 0x4005000C).map (fun r => r.1.rc) = some 0xFFFFFFFF ∧ base.servesRead .c0 0x4005000C = true ∧
    (base.rdSpecial .c0 0x4005000C 0).isNone = true ∧ base.rdShow .c0 0x4005 0x4005000C 0 = none ∧
    base.physOf .sram false 0x10000040 = some 0x10000040 ∧ base.eccAt 0x10000040 = none ∧
    base.judge .c0 0x40050002 true .word 0 = some (.size, none) ∧ base.judge .c0 0x40050002 false .word 0 = some (.size, none) ∧
    base.bit SYS_FERR_INFO 31 = false ∧ (base.setRg SYS_FERR_INFO 0x80000000).bit SYS_FERR_INFO 31 = true ∧
    (base.setRg SYS_FERR_INFO 0x80000000).judge .c0 0x40050002 true .word 0 = some (.size, none) ∧
    base.servesRead .c3 BEAT_COUNT_LO = true ∧ base.servesRead .c3 (BEAT_COUNT_LO + 4) = true ∧ base.serves .c0 LDG_TAT_LO 5 = true ∧
    (base.holdWord .c0 LDG_TAT_LO 5).serves .c0 LDG_TAT_HI 9 = true ∧
    (base.holdWord .c0 LDG_TAT_LO 5).pendingWord .c0 LDG_TAT_LO = some 5 := by decide +kernel

/-- The capture of the spec's example: C1, a byte-misaligned word write. -/
theorem test_refused : after (.registerWrite .c1 0x40050002 1) base
    (fun t => t.rg SYS_FERR_INFO == 0x80000513 && t.rg SYS_FERR_ADDR == 0x40050002 && t.pendOf 28) = true := by decide +kernel

theorem test_read_clear : after (.readClear .c0 0x4005000C) (base.setRg MEM_CECNT 5) (fun t => t.rdata == 5 && t.rg MEM_CECNT == 0) =
    true := by decide +kernel

/-! ### MemoryMaintenance -/

/-- The scrubber enabled at word 16,385, and row 40 of bank 2 copied to its spare 0. -/
def scrubState : State := { base.setRg MEM_CTRL 1 with ms := { MemSt.init with
  scrubAt := 16385, copies := [{ bank := 2, row := 40, spare := 0 }] } }

theorem wit_MemoryMaintenance :
    let h := ({ scrubState with ms := { scrubState.ms with scrubAt := 131071 } }).setRg (FLT_CHSTAT 255) 2
    scrubState.bit MEM_CTRL 0 = true ∧ scrubState.ms.ecc = [] ∧ (base.setRg MEM_CTRL 0).bit MEM_CTRL 0 = false ∧
    (0x20000008 : Word).toNat = 0x20000000 + scrubState.ms.scrubAt % 16384 * 8 ∧ scrubState.ms.scrubAt < 131072 ∧
    h.bit MEM_CTRL 0 = true ∧ (0x100FFFF8 : Word).toNat = 0x10000000 + h.ms.scrubAt * 8 ∧ h.chanState (131071 / 512) = 2 ∧
    h.bit (MEM_HOLE (131071 / 512 / 32)) (131071 / 512 % 32) = false ∧ h.physOf .sram false 0x100FFFF8 = some 0x100FFFF8 ∧
    scrubState.ms.copies.find? (fun c => c.bank == 2) = some { bank := 2, row := 40, spare := 0 } ∧
    ([({ bank := 2, row := 255, spare := 1 } : SpareCopy)].find? (fun c => c.bank == 2)).isSome = true := by decide +kernel

theorem test_spare_copy : after (.spareCopyDone 2) scrubState
    (fun t => t.rg (MEM_REMAP 2) == 0x8028 && t.pendOf 50 && t.ms.copies == []) = true := by decide +kernel

/-! ### DmaChannels -/

/-- The DMA clocked, and channel 3 in state `st` and phase `p` with a descriptor of one word from 0x1000_0100 to 0x1000_0200. -/
def dmaState3 (st : Word) (p : DmaPhase) (w0 src : Word) : State :=
  ((base.setRg (DMA_CH_STAT 3) st).setDmaRun 3 { words := [w0, src, 0x10000200, 0x10001, 0, 0, 0, 0], row := 0, col := 0, burstLeft := 1 }).setDmaPhase
    3 p

theorem wit_DmaChannels : base.serves .c0 (DMA_CH_CTRL 3) 1 = true ∧ base.serves .c0 (DMA_CH_CTRL 3) 2 = true ∧ base.dmaState 3 = 0 ∧
    (dmaState3 2 .fetch 0 0).dmaState 3 = 2 ∧ (dmaState3 2 .fetch 0 0).serves .c0 (DMA_CH_CTRL 3) 1 = true ∧ base.serves .c0 (DMA_CH_CFG 3) 0x114 = true ∧
    base.serves .c0 (DMA_CH_DESC 3) 0x10034000 = true ∧ ((dmaState3 1 .fetch 0 0).setRg (DMA_CH_CFG 3) 20).dmaTrig 3 = 20 ∧
    (∀ m, m < 16 → m ≠ 3 → ((dmaState3 1 .fetch 0 0).setRg (DMA_CH_CFG 3) 25).dmaTrig m ≠ 25) ∧ ((dmaState3 1 .move 0 0).setRg (DMA_CH_CFG 3) 1).dmaTrig 3 = 1 ∧
    ((dmaState3 2 .fetch 0 0).readRun .dma 0 32).2.1.isSome = true ∧
    (((dmaState3 2 .fetch 0 0).setRg (DMA_CH_DESC 3) 0x10034000).readRun .dma 0x10034000 32).2.1 = none ∧
    ((dmaState3 1 .move 0 0).setRg (DMA_CH_CFG 3) 45).dmaLevel 45 = true ∧ (dmaState3 1 .move 0 0).bit SYS_CLKEN 0 = true ∧
    (dmaState3 2 .move 0x802 0x10000100).dmaNext = some 3 ∧
    ((dmaState3 2 .move 0x802 0x10000101).busRead .dma 0x10000101 .word).1 = .err .size ∧
    ((dmaState3 2 .move 0x802 0x10000100).busRead .dma 0x10000100 .word).1 = .ok 0 ∧
    ((dmaState3 2 .move 0x802 0x10000100).busWrite .dma 0x10000200 .word 0).1 = .ok 0 ∧
    ((dmaState3 2 .move 0x802 0x10000100).busWrite .dma 0x10000201 .word 0).1 = .err .size ∧
    (dmaState3 2 .ending 0xA02 0).dmaPhase 3 = .ending ∧ bitOf 0xA02 11 = true ∧ bitOf 0xA02 10 = false ∧ bitOf 0x202 11 = false ∧
    base.isLevel 67 = false := by decide +kernel

theorem test_dma_element : after .dmaElement ((dmaState3 2 .move 0x802 0x10000100).poke 0x10000100 4 0x12345678)
    (fun t => t.peek 0x10000200 4 == 0x12345678 && t.dmaPhase 3 == .ending) = true := by decide +kernel

theorem test_dma_error : after .dmaElement (dmaState3 2 .move 0x802 0x10000101)
    (fun t => t.rg (DMA_CH_STAT 3) == 0x313 && t.rg (DMA_CH_ERRADDR 3) == 0x10000101 && t.pendOf 83) = true := by decide +kernel

/-! ### WatchdogAndLog -/

/-- The watchdog enabled with OPEN 100, COUNT `n` and the sequence at `q`. -/
def wdgState (cfg n : Word) (q : Bool) : State :=
  ((((base.setRg WDG_CFG cfg).setRg WDG_OPEN 100).setRg WDG_COUNT n).setRg WDG_TIMEOUT 5000).wdgSeqTo q

theorem wit_WatchdogAndLog : base.serves .g0 GNT_LOGPOP 1 = true ∧ (wdgState 1 99 true).serves .g0 WDG_KICK 0x3CA5 = true ∧
    (wdgState 1 99 true).serves .g0 WDG_KICK 0xC35A = true ∧ (wdgState 1 99 true).serves .g0 WDG_KICK 0 = true ∧
    (wdgState 1 99 true).gnt.wdgGrace = none ∧ (wdgState 1 99 true).gnt.wdgSeq = true ∧ (wdgState 1 99 false).gnt.wdgSeq = false ∧
    ((wdgState 1 99 true).rg WDG_COUNT).toNat < ((wdgState 1 99 true).rg WDG_OPEN).toNat ∧
    ((wdgState 1 100 true).rg WDG_OPEN).toNat ≤ ((wdgState 1 100 true).rg WDG_COUNT).toNat ∧ (wdgState 3 0 false).bit WDG_CFG 1 = true ∧
    (wdgState 1 99 true).gnt.wdgWarned = false ∧ (wdgState 1 99 true).powered = true ∧ (wdgState 1 99 true).bit WDG_CFG 2 = false ∧
    (wdgState 5 0 false).bit WDG_CFG 2 = true ∧ ({ wdgState 5 0 false with pwr := .doze }).pwr = .doze ∧ (wdgState 0 0 false).serves .g0 WDG_CFG 1 = true ∧
    (wdgState 1 0 false).serves .g0 WDG_CFG 1 = true ∧ (wdgState 0 0 false).bit WDG_CFG 0 = false ∧
    (wdgState 0 0 false).serves .g0 (WDG_TIMEOUT + 8) 9 = true ∧ (wdgState 0 0 false).serves .g0 WDG_TIMEOUT 9 = true ∧
    ((wdgState 0 0 false).rg WDG_WARN).toNat < 5000 ∧ (wdgState 1 0 false).serves .g0 WDG_TIMEOUT 9 = true := by decide +kernel

theorem test_kick_early : after (.wdgKick .g0 0x3CA5) (wdgState 1 99 true)
    (fun t => t.rg WDG_STAT == 2 && t.gnt.wdgGrace == some 2 && t.pendOf 101) = true := by decide +kernel

theorem test_kick_in_time : after (.wdgKick .g0 0x3CA5) (wdgState 1 100 true)
    (fun t => t.rg WDG_COUNT == 0 && t.gnt.wdgGrace == none) = true := by decide +kernel

/-! ### FaultManager -/

theorem wit_FaultManager : chanClass 0x81A = some 4 ∧ base.chanState 0x81A = 0 ∧ 1 ≤ base.fld (FLT_POLICY 4) 0 4 ∧
    (base.setRg (FLT_POLICY 4) 0).fld (FLT_POLICY 4) 0 4 = 0 ∧ (base.setRg (FLT_CHSTAT 0x81A) 2).chanState 0x81A = 2 ∧
    base.serves .g0 FLT_CMD 0x1000081A = true ∧ base.serves .g0 FLT_CMD 0x2000081A = true ∧ base.serves .g0 FLT_CMD 0x3000081A = true ∧
    chanClass 3 = some 0 ∧ base.serves .g0 FLT_CMD 0x40000003 = true ∧ base.serves .g0 FLT_CMD 0x4000081A = true ∧ base.beatNo = 0 ∧
    ((base.setRg (FLT_CHSTAT 0x81A) 1).setRg (FLT_POLICY 4) 0).chanState 0x81A = 1 ∧
    base.beatNo < base.chanFirst 0x81A + base.fld (FLT_POLICY 4) 16 16 ∧
    (base.setRg (FLT_CHSTAT 0x81A) 3).chanState 0x81A = 3 ∧ (base.setRg (FLT_CHSTAT 0x81A) 3).serves .g0 FLT_CMD 0x2000081A = true ∧
    chanClass 0x810 = some 2 ∧ chanClass 0x812 = some 2 ∧ (base.setRg (FLT_CHSTAT 0x812) 2).serves .g0 FLT_CMD 0x10000812 = true ∧
    ((base.setPort 2 { base.port 2 with phy := true }).port 2).phy = true ∧ (base.setRg (LNK_PORT 2) 1).bit (LNK_PORT 2) 0 = true := by
  decide +kernel

theorem test_retire : after (.faultReport 0x81A 7) (base.setRg (FLT_POLICY 4) 0)
    (fun t => t.retired 0x81A && t.gnt.records == [[0x0101081A, 0, 0, 7, 0, 0]] && t.pendOf 106) = true := by decide +kernel

theorem test_corerst : after (.corerst .g0 1) ((running .c1 1 []).setRg SYS_CRUN 3) (fun t => t.c1.run == .held && t.rg SYS_CRUN == 1) =
    true := by decide +kernel

/-! ### KeyStore -/

/-- Slot 3 holds an AES-256 key, and KEY_IN words. -/
def keyState : State :=
  { base with gnt := { base.gnt with keys := [(3, { type := 2, usage := 3, lock := true, key := 5 })], keyIn := [(0, 1), (7, 2)] } }

/-- A key command that ends, with RNGERR set: GEN where `g`. -/
def genState (g : Bool) : State :=
  { keyState.setBit CRY_STAT 8 true with gnt := { keyState.gnt with keyOp := some (4, KeySlot.empty), keyRng := g } }

theorem wit_KeyStore : [0x10020304, 0x20020304, 0x30000004, 0x40000003, 0x30000003, 0x10020303].all (keyState.serves .g0 KEY_CMD) = true ∧
    keyState.bit KEY_STAT 31 = false ∧ (keyState.keySlot 4).type = 0 ∧ (keyState.keySlot 4).lock = false ∧ (keyState.keySlot 3).type ≠ 0 ∧
    (keyState.keySlot 3).lock = true ∧ keyState.bit CRY_STAT 8 = false ∧ 1 ≤ keyState.keyInValue ∧ keyState.keyInValue < p256n ∧
    (keyState.setBit CRY_STAT 8 true).bit CRY_STAT 8 = true ∧ keyState.gnt.cryOp = none ∧ keyState.servesRead .g0 CRY_RNG = true ∧
    (keyState.setBit CRY_STAT 8 true).serves .g0 KEY_CMD 0x10020304 = true ∧
    (genState true).gnt.keyOp = some (4, KeySlot.empty) ∧ (genState true).gnt.keyRng = true ∧ (genState true).bit CRY_STAT 8 = true ∧
    (genState false).gnt.keyRng = false ∧ keyState.servesRead .c0 CRY_RNG = true ∧ (keyState.setBit BOOT_STAT 10 true).bit BOOT_STAT 10 = true := by
  decide +kernel

theorem test_key_load : after (.keyLoad .g0 4 2 3) keyState
    (fun t => t.gnt.keyOp == some (4, { type := 2, usage := 3, lock := false, key := 2 ^ 224 + 2 }) && t.keyInValue == 0) = true := by
  decide +kernel

theorem test_key_done : after .keyDone (genState false) (fun t => t.keySlot 4 == KeySlot.empty && t.fld KEY_STAT 0 4 == 0 && t.pendOf 112) = true ∧
    after .keyDone (genState true) (fun t => t.fld KEY_STAT 0 4 == 7 && t.rg KEY_REJECT == 1) = true := by decide +kernel

/-! ### CryptoOperations -/

/-- Slot 2 AES-256 for both uses, slot 5 a private key, CRY_LEN 64; an operation `o` where given. -/
def cryState (o : Option CryOp) : State :=
  { base.setRg CRY_LEN 64 with gnt := { base.gnt with
    keys := [(2, { type := 2, usage := 3, lock := false, key := 5 }), (5, { type := 3, usage := 0, lock := false, key := 1 })], cryOp := o } }

theorem wit_CryptoOperations : (∀ n ∈ [1, 2, 3, 4], (cryState none).serves .g0 CRY_CMD (BitVec.ofNat 32 (n * 0x10000000 + 0x6000002)) = true) ∧
    (∀ n ∈ [5, 6, 7], (cryState none).serves .g0 CRY_CMD (BitVec.ofNat 32 (n * 0x10000000 + 0x8000005)) = true) ∧
    (cryState none).bit CRY_STAT 31 = false ∧ ((cryState none).rg CRY_LEN).toNat = 64 ∧ ((cryState none).keySlot 2).usage = 3 ∧
    ((cryState none).keySlot 2).type = 2 ∧ ((cryState none).keySlot 5).type = 3 ∧ Nat.testBit 8 3 = true ∧ Nat.testBit 6 2 = true ∧
    (cryState none).serves .g0 CRY_CMD 0x50000002 = true ∧ ((cryState none).keySlot 2).type ≠ 3 ∧
    ((cryState none).setBit CRY_STAT 31 true).bit CRY_STAT 31 = true ∧ ((cryState none).setBit CRY_STAT 8 true).bit CRY_STAT 8 = true ∧
    ((cryState none).readRun .g0 0x10000000 4).2.1 = none ∧ ((cryState none).readRun .g0 0x90000000 4).2.1.isSome = true ∧
    (ecMul ((cryState none).keySlot 5).key p256g).isSome = true := by decide +kernel

/-- FIPS 180-4: SHA-256 of "abc". -/
theorem test_sha_abc : shaBlocks shaInit ([0x61, 0x62, 0x63] ++ shaPad 3) 1 = [0xBA7816BF, 0x8F01CFEA, 0x414140DE, 0x5DAE2223,
    0xB00361A3, 0x96177A9C, 0xB410FF61, 0xF20015AD] := by decide +kernel

/-- FIPS 197, appendix C.3: AES-256 of 00112233…. -/
theorem test_aes256 : bytesNat (aesEnc (aesKeys (List.range 32) 8) 8 (natBytes 16 0x00112233445566778899AABBCCDDEEFF)) =
    0x8EA2B7CA516745BFEAFC49904B496089 := by decide +kernel

theorem test_public_key_of_one : after .cryDone (cryState (some { op := 7, flags := 0, slot := 5, regs := [] }))
    (fun t => t.rg (CRY_PUB 0) == 0x6B17D1F2 && t.rg (CRY_PUB 15) == 0x37BF51F5 && t.pendOf 114) = true := by decide +kernel

/-! ### BeatCommands -/

/-- Group 2 with domain 7 as its member and beat 10, in state `st`. -/
def groupState (st : Word) : State :=
  (((base.setRg (CG_MEMBERS 2) 0x80).setRg64 (CG_BEAT_LO 2) 10).setRg (CG_STAT 2) st)

theorem wit_BeatCommands : base.serves .c0 SYS_CLKEN 0x7FFFFE = true ∧ base.clkBusy 0 = false ∧
    ((base.setRg (DMA_CH_STAT 3) 1).clkBusy 0) = true ∧ (base.setRg (DMA_CH_STAT 3) 1).bit SYS_CLKEN 0 = true ∧
    base.serves .c0 SYS_FERR_INFO 0x80000000 = true ∧ (base.setRg BEAT_STAT 0x102).beatState = 2 ∧ (base.setRg BEAT_STAT 0x102).bit BEAT_STAT 8 = true ∧
    (base.setRg BEAT_STAT 3).beatState = 3 ∧ ((base.setRg BEAT_HOLDMAX 7).rg BEAT_HOLDMAX).toNat = 7 ∧
    (groupState 0).serves .c0 (CG_CTRL 2) 1 = true ∧ (groupState 0).cgHeld 2 = false ∧ (groupState 0).cgShared 2 0x80 = false ∧
    (groupState 0).beatNo < (groupState 0).cgBeat 2 ∧ ((groupState 0).setRg64 BEAT_COUNT_LO 10).beatNo = (groupState 0).cgBeat 2 ∧
    (groupState 1).serves .c0 (CG_CTRL 2) 2 = true ∧ (groupState 1).cgOpen 2 = true ∧ (groupState 0).cgOpen 2 = false ∧
    (groupState 0).serves .c0 (CG_CTRL 2) 2 = true ∧ (groupState 1).serves .c0 (CG_ARMED 2) 0x80 = true ∧
    (groupState 1).armOk 7 = true ∧ (groupState 0).serves .c0 (CG_MEMBERS 2) 0x7FFF = true ∧
    (((groupState 0).holdWord .c0 (CG_BEAT_LO 2) 9).serves .c0 (CG_BEAT_HI 2) 1 = true) ∧
    ((groupState 0).holdWord .c0 (CG_BEAT_LO 2) 9).pendingWord .c0 (CG_BEAT_LO 2) = some 9 ∧ domainOf (RAS_CTRL 1) = some 2 ∧
    base.serves .c0 (RAS_CTRL 1) 0 = true ∧ (regAt BEAT_GEN_NUM).map (fun r => r.1.sh) = some (some 0) ∧ base.domain0Armed = false ∧
    base.isLevel 15 = false := by decide +kernel

/-- A copy that runs; a mark; a domain that may not be armed, and domain 0 armed. -/
theorem wit_BeatMore :
    let c := { base with beat := { base.beat with copying := [7], marks := [0x80000001] } }
    let r := ((groupState 1).setRg (CG_MEMBERS 2) 1).setRg BEAT_GEN_NUM 0
    let z := ((base.setRg (CG_MEMBERS 2) 1).setRg (CG_STAT 2) 1).setRg (CG_ARMED 2) 1
    c.beat.copying.contains 7 = true ∧ c.beat.marks[0]? = some 0x80000001 ∧ 0x80000001 / 2 ^ 31 % 2 = 1 ∧
    z.domain0Armed = true ∧ z.serves .c0 BEAT_GEN_NUM 1 = true ∧ r.serves .c0 (CG_ARMED 2) 1 = true ∧
    r.cgOpen 2 = true ∧ r.armOk 0 = false := by decide +kernel

theorem test_group_late : after (.cgOpen .c0 2) ((groupState 0).setRg64 BEAT_COUNT_LO 10)
    (fun t => t.cgState 2 == 3 && t.rg (CG_MISSING 2) == 0x80 && t.pendOf 4) = true := by decide +kernel

theorem test_mark : after (.beatMark 2) { base with beat := { base.beat with marks := [0, 0, 0x80004000], len := some 6666667 } }
    (fun t => t.pendOf 10 && t.rg BEAT_PHASE == 1666666) = true := by decide +kernel

/-! ### BeatEdges -/

/-- A lead whose source is the vertical blanking of output A with its present beat's length. -/
def blankLead (l : Option Nat) : State :=
  let s := (base.setRg BEAT_STAT 0xC).setLv BEAT_CTRL 0
  { s with beat := { s.beat with len := l } }

/-- A record of the Fault Manager waits for the Ledger in state `l`. -/
def recordQueue (l : Word) : State :=
  let s := base.setRg LDG_STAT l
  { s with gnt := { s.gnt with records := [[1, 2, 3, 4, 5, 6]] } }

theorem wit_BeatEdges : base.edgePlaced = true ∧ base.powered = true ∧ base.byVblank = false ∧ base.beatState = 0 ∧ base.canonical = true ∧
    base.outClock = true ∧ base.out.relock.contains 1 = false ∧ base.cmdMode = false ∧ base.lvBit AUD_CTRL 0 = false ∧
    (base.setLv AUD_CTRL 1).lvBit AUD_CTRL 0 = true ∧ base.aud.ready ≠ some 1 ∧ (base.setRg BLT_STAT 0x10).bit BLT_STAT 4 = true ∧
    (blankLead none).byVblank = true ∧ (blankLead none).bit BEAT_STAT 4 = false ∧ (blankLead none).beat.len = none ∧
    ((groupState 1).setRg64 (CG_BEAT_LO 2) 1).cgOpen 2 = true ∧ (((groupState 1).setRg64 (CG_BEAT_LO 2) 0).setRg (CG_ARMED 2) 0x80).cgMissing 2 = 0 ∧
    ((groupState 1).setRg64 (CG_BEAT_LO 2) 0).cgMissing 2 = 0x80 ∧ ((groupState 1).setRg64 (CG_BEAT_LO 2) 0).cgBeat 2 = 0 ∧
    (base.placeNext).beat.len.isSome = true ∧ (recordQueue 2).gnt.records ≠ [] ∧
    ((recordQueue 2).offerRecord 0x20 (pairWords [1, 2, 3, 4, 5, 6])).1 = true ∧
    ((recordQueue 0).offerRecord 0x20 (pairWords [1, 2, 3, 4, 5, 6])).1 = false := by decide +kernel

/-- 1.25 periods of 6,666,667 / 1 cycles are 8,333,334 cycles, rounded up; the end of blanking of output A inside its beat. -/
theorem wit_sourceLoss : 5 * 6666667 ≤ 4 * 8333334 ∧ ∀ j, j < 8333334 → 4 * j < 5 * 6666667 :=
  ⟨by omega, fun j h => by omega⟩

theorem wit_vblank :
    let s := ((blankLead none).setLv OUT_A_HTIM0 2).setLv OUT_A_VTIM0 4
    ∃ t : Word, (s.vblankAt 0 t.toNat).isSome = true ∧ (s.vblankAt 0 t.toNat).all (fun n => s.inBeat n) = true ∧ s.beat.silent = false := ⟨0, by decide +kernel⟩

theorem test_beat_edge : after .beatEdge base (fun t => t.beatNo == 1 && t.rg BEAT_PHASE == 0 && t.bit BEAT_STAT 8 && t.pendOf 1) =
    true := by decide +kernel

/-- Group 2, armed for beat 1, is copied at the edge that makes BEAT_COUNT 1. -/
theorem test_group_applied : after .beatEdge ((((groupState 1).setRg64 (CG_BEAT_LO 2) 1).setRg (CG_ARMED 2) 0x80).setRg BLT_RBASE 0)
    (fun t => t.beat.copying == [2]) = true := by decide +kernel

/-! ### LedgerCommands -/

/-- The Ledger in a state, and where `q` a queued acceptance by C1 of the payload 5, 0, 0. -/
def ldgState (st : Word) (q : List LdgPut) : State := (base.setRg LDG_STAT st).setLdg { base.ldg with queue := q }

def ldgAsk (chk : Bool) (crc : Word) (down : Bool) : LdgPut :=
  { src := 1, type := 0x31, chk := chk, payload := [5, 0, 0, 0, 0, 0], pcrc := crc, down := down }

/-- A sound record in slot 7 and its copy. -/
def ldgRecord : List Nat := (base.makeRecord 0x31 false none 3 [5, 0, 0])

def ldgStored : State :=
  ((ldgState 0 []).writeSlot 7 ldgRecord).setLdg LdgSt.init

theorem wit_LedgerCommands : (ldgState 2 []).serves .c1 LDG_PUT 0x131 = true ∧ putType 0x31 = true ∧ putType 0x12 = false ∧
    (ldgState 2 []).serves .c1 LDG_PUT 0x12 = true ∧ (ldgState 2 []).bit LDG_RESTR 0 = false ∧
    (ldgState 1 []).ldgState = 1 ∧ (ldgState 2 [ldgAsk true 0 false]).anyFree = true ∧ (ldgAsk true 0 true).down = true ∧
    (ldgState 2 []).ldgUsed < ((ldgState 2 []).rg LDG_HWM).toNat ∧ (ldgState 2 []).oseqBase < 0xFFFFFFFFFFFF ∧
    (((ldgState 2 []).setNv { (ldgState 2 []).ldg.nv with acked := 0xFFFFFFFFFFFF }).oseqBase = 0xFFFFFFFFFFFF) ∧
    ((ldgState 2 []).pickSlot 9).isSome = true ∧ (ldgState 2 []).ldg.weak = [] ∧
    base.serves .c0 LDG_CMD 0x10000000 = true ∧ base.serves .g0 LDG_CMD 0x60000000 = true ∧ base.serves .c0 (LDG_TDEF_A 3) 0 = true ∧
    (ldgState 1 []).ldg.lastReset ≠ 2 ∧ (ldgState 1 []).committedAbove 0 = [] ∧
    (ldgState 0x11 []).ldgRole = 1 ∧ (ldgState 0x12 []).ldgRole = 1 ∧ (ldgState 2 []).ldgRole = 0 ∧ ldgStored.touchedSlots = [7] ∧
    ldgStored.ldgState = 0 ∧ recType ldgRecord ≠ 0 ∧ wd ldgRecord 4 / 2 ^ 32 = recCrc ldgRecord ∧
    (List.range 8).map (fun n => ldgStored.peek (slotAddr 7 n) 8) = ldgRecord ∧ ldgStored.peek (copyAddr 7) 8 = wd ldgRecord 0 ∧
    ldgStored.ms.ecc = [] ∧ (base.setRg PWR_STAT 0x10).bit PWR_STAT 4 = true ∧ (base.setRg PWR_STAT 0x10).bit LDG_STAT 8 = false ∧
    (ldgState 3 []).ldgState = 3 := by
  decide +kernel

/-- A release that the committed numbers allow; a scheduled boundary not announced, and one announced. -/
theorem wit_LedgerMore :
    let r := ((ldgState 0x12 []).setNv { (ldgState 0x12 []).ldg.nv with gseq := 9, rel := 3 }).setRg64 LDG_REL_LO 9
    let a := ((ldgState 2 []).setNv { (ldgState 2 []).ldg.nv with armed := some (5, 6) })
    let b := a.setLdg { a.ldg with armedAnn := true }
    r.rg64 LDG_REL_LO ≤ r.ldg.nv.gseq ∧ r.ldg.nv.rel < r.rg64 LDG_REL_LO ∧ r.serves .c0 LDG_CMD 0x20000000 = true ∧
    (r.setRg64 LDG_REL_LO 10).ldg.nv.gseq < (r.setRg64 LDG_REL_LO 10).rg64 LDG_REL_LO ∧
    (a.ldg.nv.armed.isSome && a.ldg.armedAnn) = false ∧ (b.ldg.nv.armed.isSome && b.ldg.armedAnn) = true ∧
    b.serves .c0 LDG_CMD 0x40000000 = true := by decide +kernel

theorem test_accepted : after (.ldgAcceptance 9 0) (ldgState 2 [ldgAsk false 0 false])
    (fun t => (t.slotRec 9).isSome && t.rg64 (viewKey 1 LDG_PUTSEQ_LO) == 1 && t.pendOf 162 && t.peek 0x18000240 1 == 0x31) = true := by
  decide +kernel

theorem test_put_bad_crc : after (.ldgAcceptance 9 0) (ldgState 2 [ldgAsk true 0 false])
    (fun t => t.rg (viewKey 1 LDG_PUTST) == 5 && t.rg LDG_REFCNT == 1) = true := by decide +kernel

theorem test_recovery : after .ldgRecovery ldgStored (fun t => t.ldg.slots == [(7, ldgRecord)] && t.ldgState == 1) = true := by
  decide +kernel

/-! ### LedgerFrames -/

/-- A device with ID 4 on an open port, its Ledger in RUN with a role (0 worker, 1 manager, 2 deputy) and term 1. -/
def ledgerNode (role adm : Nat) : State :=
  let s := ((base.setRg LNK_ID 4).setRg LNK_STAT (BitVec.ofNat 32 adm)).setRg LDG_STAT (BitVec.ofNat 32 (2 + 16 * role))
  let t := (s.setNv { s.ldg.nv with term := 1, org := [(9, 6)] }).setPort 0 { s.port 0 with phy := true }
  (t.setRg (LNK_PORT 0) 0xFFFFFFFF).setRg (LNK_PSTAT 0) 0xFFFFFFFF

/-- A LEDGER frame of device 9 for device 4. -/
def ledgerFrame (pl : List Byte) : Llp :=
  { gen := 1, dst := 4, src := 9, hops := 63, win := 1, beat := 0, hseq := 0, payload := pl }

/-- The record with OSEQ 7 of device 9, and the same with GSEQ 1. -/
def ledgerRec9 (g : Nat) : List Nat := [0x131 + 65536 * g, 9 + 7 * 65536, 0, 0, 0, 0, 0, 0]

theorem wit_LedgerFrames :
    let rx := fun (role : Nat) (pl : List Byte) => (ledgerNode role 3).receive 0 (frameOf (ledgerFrame pl) 6)
    (rx 1 (ledgerPayload 1 9 1 0 [ledgerRec9 0])).deliver = true ∧ ledgerWhole (ledgerPayload 1 9 1 0 [ledgerRec9 0]) 1 = true ∧
    (rx 1 (ledgerPayload 1 9 1 0 [ledgerRec9 0])).st.observer = false ∧ ledgerRecs (ledgerPayload 1 9 1 0 [ledgerRec9 0]) = [ledgerRec9 0] ∧
    fieldAt (ledgerPayload 2 4 1 5 []) 2 1 = 4 ∧ fieldAt (ledgerPayload 2 4 0 5 []) 4 4 = 0 ∧
    (ledgerNode 1 3).orgLast 9 = some 6 ∧ (ledgerNode 1 3).ldg.weak = [] ∧ recOseq (ledgerRec9 0) = 7 ∧ recOrigin (ledgerRec9 0) = 9 ∧
    (ledgerNode 1 3).findRec 9 7 = none ∧ (ledgerNode 1 3).findRec 9 8 = none ∧ (ledgerNode 1 3).ldgUsed + 1 ≤ 16320 ∧
    (ledgerNode 2 3).ldgRole = 2 ∧ (ledgerNode 2 3).ldg.nv.rel < recGseq (ledgerRec9 1) ∧ recOrigin (ledgerRec9 1) ≠ (ledgerNode 2 3).ownId ∧
    ledgerWhole (ledgerPayload 3 9 1 0 [ledgerRec9 1]) 3 = true ∧ (rx 2 (ledgerPayload 3 9 1 0 [ledgerRec9 1])).deliver = true ∧
    ledgerWhole (ledgerPayload 2 4 1 5 []) 2 = true ∧ ledgerWhole (ledgerPayload 4 9 1 5 []) 4 = true ∧
    ledgerWhole (ledgerPayload 5 9 1 5 []) 5 = true ∧ (rx 2 (ledgerPayload 5 9 1 5 [])).deliver = true ∧ (ledgerNode 0 3).adm = 3 ∧
    (ledgerNode 0 3).ldgState = 2 := by decide +kernel

/-- An open ledger window on a worker with a record of its own, and on a manager with a deputy at each mirror state. -/
theorem wit_LedgerSends :
    let w := ((ledgerNode 0 3).setRg BEAT_PHASE 400000).setLdg { (ledgerNode 0 3).ldg with slots := [(5, [0x131, 4 + 7 * 65536, 0, 0, 0, 0, 0, 0])] }
    let m := fun (x : Word) => (((ledgerNode 1 4).setRg BEAT_PHASE 400000).setRg LNK_DEPUTY 0x80000009).setRg LDG_STAT (0x12 + 64 * x)
    let d := fun (x : Word) => (m x).setLnk { (m x).lnk with members := [{ id := 9, uid := 77, result := 2, silent := 0, hopsA := 1, hopsB := 255 }] }
    let c := (d 1).setLdg { (d 1).ldg with nv := { (d 1).ldg.nv with gseq := 3 }, slots := [(5, [0x131 + 65536 * 3, 9 + 7 * 65536, 0, 0, 0, 0, 0, 0])] }
    w.inLedgerWindow = true ∧ w.unackedOwn ≠ [] ∧ w.ldg.handed < 7 ∧ (d 1).deputyId = some 9 ∧ (d 1).mirror = 1 ∧ (d 2).mirror = 2 ∧
    (d 1).ldgRole = 1 ∧ (d 1).ldgState = 2 ∧ (d 1).inLedgerWindow = true ∧ (d 1).committedAbove 0 = [] ∧ (c.committedAbove 0).length = 1 ∧
    ((d 1).setLdg { (d 1).ldg with reack := [(9, 6)] }).ackOf 9 ≠ 0 ∧ (d 1).ackOf 9 = 0 ∧ (d 1).ownId = 4 := by decide +kernel

theorem test_duplicate : after (.handoffRx 0 (ledgerFrame (ledgerPayload 1 9 1 0 [[0x131, 9 + 6 * 65536, 0, 0, 0, 0, 0, 0]])))
    (ledgerNode 1 3) (fun t => t.ldg.reack == [(9, 6)] && t.ldg.slots.isEmpty) = true := by decide +kernel

theorem test_ack : after (.ackRx 0 (ledgerFrame (ledgerPayload 2 4 1 5 []))) (ledgerNode 0 3) (fun t => t.ldg.nv.acked == 5) = true := by
  decide +kernel

/-! ### LinkPorts -/

/-- Port A of the node, with a frame of window 3 that waits, and a credit. -/
def lnkReady : State :=
  let s := ledgerNode 0 3
  let f : LinkFrame := { otherFrame 8 3 [1, 2] with dst := 9 }
  let y : PortWin := { PortWin.blank with waiting := [f], credit := 2, txNext := 5 }
  (s.setPort 0 ((s.port 0).setWin 3 y)).setRg BEAT_PHASE 0x200000

def linkFrame (dst src : Byte) (win : BitVec 4) (pl : List Byte) : Llp :=
  { gen := 1, dst := dst, src := src, hops := 1, win := win, beat := 0, hseq := 0, payload := pl }

theorem wit_LinkPorts : (lnkReady.canSend 0 3).isSome = true ∧ (lnkReady.canSend 0 1).isNone = true ∧ lnkReady.portUp 0 = true ∧ lnkReady.adm = 3 ∧
    lnkReady.chanState 0x810 = 0 ∧ ((lnkReady.advanceTo (lnkReady.winStart 4)).adm) = 3 ∧ lnkReady.bit LNK_CFG 2 = false ∧
    (lnkReady.setRg LNK_CFG 4).qrxFull = false ∧ ((lnkReady.setRg LNK_QRX_WR 3).setRg LNK_QRX_CTL 2).qrxFull = true ∧
    (lnkReady.receive 0 (frameOf (linkFrame 0xFF 9 15 (List.replicate 32 3)) 5)).deliver = true ∧
    ((lnkReady.receive 0 (frameOf (linkFrame 4 9 4 [7]) 9)).deliver) = true ∧ base.bit (LNK_PORT 2) 0 = false ∧
    (base.setRg (LNK_PORT 2) 1).portUp 2 = false ∧ (base.setRg (LNK_PORT 2) 1).chanState 0x812 = 0 ∧ (lnkReady.setRg LNK_DEADB 0).portUp 0 = true ∧
    (lnkReady.port 0).silent < (lnkReady.rg LNK_DEADB).toNat ∧ (lnkReady.port 0).exempt = [] ∧
    (base.setRg (LNK_QTX_WR) 1).fld LNK_QTX_RD 0 8 = 0 ∧ base.adm = 0 := by decide +kernel

/-- The bytes of an LLP frame of TYPE `y` and KIND `k`, of a gPTP frame, and of a raw one. -/
def wireOf (y k : Byte) : List Byte := llpHead ++ macOf 9 ++ beBytes 2 0x88B5 ++ [0, y, 4, 9, 1, 0x10, 0, 1] ++ List.replicate 8 0 ++ [k]

theorem wit_RawFrames :
    let s := lnkReady.setRg LNK_ETYPE 0x88B5
    let x := s.setPort 0 { s.port 0 with exempt := [otherFrame GPTP_MARK 0 [0]] }
    let h := s.setPort 0 { s.port 0 with exempt := [otherFrame GPTP_MARK 15 [2]] }
    let q := ((s.setRg LNK_QTX_WR 1).setRg LNK_QTX_BASE 0x10000000).poke 0x10000000 4 0x10900
    s.isLlp (wireOf 9 0) = true ∧ isGptp (wireOf 9 0) = false ∧ (llpOf (wireOf 9 0)).1 = 9 ∧ fieldAt (llpOf (wireOf 6 5)).2.payload 0 1 = 5 ∧
    reservedType 14 = true ∧ reservedType 0 = true ∧ isGptp (gptpHead ++ macOf 9 ++ gptpType) = true ∧
    s.isLlp (List.replicate 64 0) = false ∧ isGptp (List.replicate 64 0) = false ∧ (x.port 0).exempt ≠ [] ∧
    (h.port 0).exempt.map (fun g => g.win) = [15] ∧ q.fld LNK_QTX_RD 0 8 ≠ q.fld LNK_QTX_WR 0 8 ∧
    (q.fabRead .link 0x10000000 .word).1 = .ok 0x10900 ∧ fieldOf (w32 0x10900) 16 11 = 1 := by decide +kernel

theorem test_frame_send : after (.frameSend 0 3) lnkReady
    (fun t => ((t.port 0).win 3).txNext == 6 && ((t.port 0).win 3).unacked.map (fun f => f.hseq) == [some 5] &&
      t.rg (LNK_CRED 0) == 0x10000) = true := by decide +kernel

theorem test_port_up : after (.portUp 2) (base.setRg (LNK_PORT 2) 1) (fun t => t.portUp 2 && t.pendOf 193) = true := by decide +kernel

/-! ### LinkAdmission -/

/-- A lead with ID 0 on port A and one member, device 9, heard `n` beats ago. -/
def lnkLead (n : Nat) : State :=
  let s := ((ledgerNode 1 4).setRg LNK_CFG 1).setMap LNK_ADMIT_LO 9 true
  let t := s.setRg LNK_ID 0
  t.setLnk { t.lnk with members := [{ id := 9, uid := 77, result := 1, silent := n, hopsA := 1, hopsB := 255 }] }

/-- The HELLO of device `d` with UID `u`. -/
def helloOf (d u : Byte) : Llp :=
  linkFrame 0xFF d 15 ([0, 0, 0, 0, 0, 0, 0, u] ++ List.replicate 8 0 ++ [d, 0] ++ List.replicate 18 0)

theorem wit_LinkAdmission : (base.setRg LNK_CFG 1).serves .c0 LNK_CMD 0x10000000 = true ∧ base.adm = 0 ∧ base.ownId = 0 ∧
    (base.setRg LNK_CFG 1).bit LNK_CFG 0 = decide ((base.setRg LNK_CFG 1).ownId = 0) ∧ base.bit LNK_CFG 0 ≠ decide (base.ownId = 0) ∧
    base.serves .c0 LNK_CMD 0x10000000 = true ∧ base.serves .c0 LNK_CMD 0x20000000 = true ∧ base.leads = false ∧
    (lnkLead 1).serves .c0 LNK_CMD 0x20000000 = true ∧ (lnkLead 1).serves .c0 LNK_CMD 0x30000009 = true ∧
    ((lnkLead 1).member 9).isSome = true ∧ (lnkLead 1).serves .c0 LNK_DEPUTY 0x80000009 = true ∧ (lnkLead 1).serves .c0 LNK_DEPUTY 63 = true ∧
    (lnkLead 1).leads = true ∧ ([0, 63, (lnkLead 1).ownId].contains (fieldOf 0x80000009 0 6)) = false ∧ base.serves .c0 LNK_DEPUTY 9 = true ∧
    ((lnkLead 1).setRg64 (LNK_ANN_BEAT_LO 2) 4).serves .c0 (LNK_ANN_CTL 2) 1 = true ∧
    (((lnkLead 1).setRg64 (LNK_ANN_BEAT_LO 2) 4).beatNo + 4 ≤ 4) ∧ (lnkLead 1).rg64 (LNK_ANN_BEAT_LO 2) < (lnkLead 1).beatNo + 4 ∧
    (((lnkLead 1).receive 0 (frameOf (helloOf 9 77) 2)).deliver) = true ∧ (lnkLead 1).helloResult (frameOf (helloOf 9 78) 2) = 8 ∧
    ((lnkLead 1).receive 0 (frameOf (helloOf 10 78) 2)).st.member 10 = none ∧ (lnkLead 1).lnk.admissions = [] ∧
    (helloOf 9 77).payload.length = 36 ∧ ((ledgerNode 0 2).receive 0 (frameOf (linkFrame 0xFF 0 0 []) 3)).deliver = true ∧
    (ledgerNode 0 2).leadId = 0 ∧ ((ledgerNode 0 2).receive 0 (frameOf (linkFrame 0xFF 0 0 [1, 1, 0, 0]) 4)).deliver = true ∧
    ((lnkLead 3).rg LNK_DEADB).toNat ≤ 3 ∧ 0 < ((lnkLead 0).rg LNK_DEADB).toNat ∧ (ledgerNode 0 1).adm = 1 ∧
    ((ledgerNode 0 1).setRg LNK_CFG 1).bit LNK_CFG 0 = true ∧ (lnkLead 1).lnk.topoKind ≠ 2 ∧ (lnkLead 1).portUp 0 = true ∧
    (lnkLead 1).adm = 4 := by decide +kernel

/-- A HELLO that is not the own one: device 9's, and one of two that name the lead's own ID. -/
theorem wit_hello_other : (helloOf 9 77).src.toNat ≠ (lnkLead 1).ownId ∧ fieldAt (helloOf 0 77).payload 0 8 = 77 ∧
    fieldAt (helloOf 0 78).payload 0 8 = 78 ∧ (lnkLead 1).helloResult (frameOf (helloOf 0 77) 2) = 8 ∧
    (77 ≠ Config.dieUid.toNat ∨ 78 ≠ Config.dieUid.toNat) := ⟨by decide +kernel, by decide +kernel, by decide +kernel, by decide +kernel, by omega⟩

/-- An ADMIT that names this die. -/
theorem wit_admit_uid : fieldAt (beBytes 8 Config.dieUid.toNat ++ [1]) 0 8 = Config.dieUid.toNat := by
  have h : Config.dieUid.toNat < 2 ^ 64 := Config.dieUid.isLt
  generalize Config.dieUid.toNat = n at h
  have e : ((beBytes 8 n ++ [1]).drop 0).take 8 = [56, 48, 40, 32, 24, 16, 8, 0].map (fun k => BitVec.ofNat 8 (n >>> k)) := rfl
  unfold fieldAt
  rw [e]
  simp only [List.map, ofBe, List.foldl, BitVec.toNat_ofNat, Nat.shiftRight_eq_div_pow]
  omega

theorem test_start_manager : after (.lnkStart .c0) (base.setRg LNK_CFG 1) (fun t => t.adm == 1 && t.beat.silent) = true := by
  decide +kernel

theorem test_member_timeout : after (.memberTimeout 9) (lnkLead 3) (fun t => t.lnk.members.isEmpty && !t.admitted 9 && t.pendOf 195) =
    true := by decide +kernel

/-! ### LinkTimeAndBoot -/

/-- A BEAT frame of lead 9 for term 1: beat 100, period 6,666,667 / 1. -/
def beatFrame9 : Llp :=
  linkFrame 0xFF 9 0 (beBytes 8 100 ++ beBytes 8 5000 ++ beBytes 4 6666667 ++ [1, 0, 0, 9] ++ beBytes 4 0 ++ beBytes 4 1)

/-- A remote read of LNK_ETYPE by device 9. -/
def raccRead : Llp := { linkFrame 4 9 4 ([1, 0, 0, 5] ++ beBytes 4 LNK_ETYPE ++ [0, 0, 0, 0]) with hseq := 0 }

/-- The deputy after four beats without a lead, in a vehicle of itself and device 9, which it has heard. -/
def lnkDeputy : State :=
  let s := ((ledgerNode 2 3).setRg LNK_STAT 0x23).setRg64 LNK_ADMIT_LO 0x210
  s.setLnk { s.lnk with noBeat := 4, quorum := [(9, 1)] }

theorem wit_LinkTimeAndBoot : (ledgerNode 0 2).portUp 0 = true ∧ (ledgerNode 0 2).chanState 0x810 = 0 ∧
    ((ledgerNode 0 2).receive 0 (frameOf beatFrame9 1)).deliver = true ∧
    (ledgerNode 0 2).beatState = 0 ∧ ((ledgerNode 0 2).port 1).beatHops = none ∧ (ledgerNode 0 2).upstream ≠ some 0 ∧
    ((ledgerNode 0 3).setPort 0 { (ledgerNode 0 3).port 0 with beatHops := some 0, beatLast := true, pdelayOpen := true }).upstream = some 0 ∧
    fieldAt beatFrame9.payload 22 1 = 0 ∧ 32 ≤ beatFrame9.payload.length ∧ beatFrame9.payload.take 16 ≠ (lnkLead 1).lnk.beatSent ∧
    fieldAt beatFrame9.payload 23 1 = 9 ∧ ((lnkLead 1).receive 0 (frameOf beatFrame9 1)).st.ldg.nv.term = 1 ∧ (lnkLead 1).leads = true ∧
    (lnkLead 1).portUp 0 = true ∧ fieldAt beatFrame9.payload 28 4 = 1 ∧ (ledgerNode 0 2).lnk.relay = none ∧
    lnkDeputy.role = 2 ∧ lnkDeputy.adm = 3 ∧ lnkDeputy.ldg.nv.term < 0xFFFFFFFF ∧ (lnkDeputy.rg LNK_FOTO).toNat = 4 ∧
    (List.range 64).filter (fun d => lnkDeputy.admitted d) = [4, 9] ∧ lnkDeputy.lnk.quorum.any (fun e => decide (4 < e.2 + 4)) = true ∧
    (base.setRg LNK_BOOTBASE 0x10000000).serves .c0 LNK_BOOTCTL 1 = true ∧ base.serves .c0 LNK_BOOTCTL 1 = true ∧
    ((base.setRg LNK_BOOTBASE 0x10000000).setRg LNK_BOOTLEN 0x800000).rg LNK_BOOTBASE = 0x10000000 ∧
    ((base.setRg LNK_BOOTBASE 0x10000000).setRg LNK_BOOTLEN 0x800001).rg LNK_BOOTLEN = 0x800001 := by
  decide +kernel

/-- A boot request and its answer, a remote access and a WAKE frame; a frame to relay, a request to repeat. -/
theorem wit_LinkServices :
    let q := fun (s : State) => s.receive 0 (frameOf (linkFrame 0 9 15 ([1, 0, 0, 4] ++ beBytes 4 8 ++ beBytes 8 77)) 11)
    let e := ((lnkLead 1).setRg LNK_BOOTCTL 1).setRg LNK_BOOTLEN 12
    let l := (lnkLead 1).setLnk { (lnkLead 1).lnk with relay := some (1, { otherFrame 1 0 [] with hops := 1 }), bootReqs := [(0, 1024)] }
    let a := (ledgerNode 0 3).setMap LNK_ADMIT_LO 9 true
    let b := a.setMap LNK_RACL_LO 9 true
    let w := { base.setRg (LNK_PORT 0) 5 with pwr := .park }
    (q (lnkLead 1)).deliver = true ∧ (q (lnkLead 1)).st.leads = true ∧ (lnkLead 1).bit LNK_BOOTCTL 0 = false ∧ (q e).deliver = true ∧
    e.bit LNK_BOOTCTL 0 = true ∧ 8 + 4 ≤ (e.rg LNK_BOOTLEN).toNat ∧ ((e.setRg LNK_BOOTLEN 11).rg LNK_BOOTLEN).toNat < 8 + 4 ∧
    (l.lnk.relay).isSome = true ∧ l.portUp 0 = true ∧ (l.setBit BOOT_STAT 11 true).bit BOOT_STAT 11 = true ∧ base.bit BOOT_STAT 11 = false ∧
    (l.lnk.bootReqs.any (fun x => x.1 == 0)) = true ∧ (a.receive 0 (frameOf raccRead 10)).deliver = true ∧
    raccEntries raccRead.payload = [⟨1, 5, LNK_ETYPE, 0⟩] ∧ (a.admitted 9 && a.mapBit LNK_RACL_LO 9) = false ∧
    (b.admitted 9 && b.mapBit LNK_RACL_LO 9) = true ∧ w.bit (LNK_PORT 0) 2 = true ∧ base.pwr ≠ .park ∧ base.pwr ≠ .toPark := by decide +kernel

theorem test_takeover : after .takeover lnkDeputy (fun t => t.adm == 4 && t.ldg.nv.term == 2 && t.lnk.members.isEmpty && t.pendOf 198) =
    true := by decide +kernel

theorem test_racc_refused : after (.raccRequestRx 0 raccRead) (ledgerNode 0 3)
    (fun t => t.bit LNK_EVT 12 && (((t.port 1).win 4).waiting.map (fun f => f.payload.take 2) == [[0x81, 4]] ||
      ((t.port 0).win 4).waiting.map (fun f => f.payload.take 2) == [[0x81, 4]])) = true := by decide +kernel

/-! ### BeamSequencer -/

/-- Pipe 1 with a list at 0x4000 in RUN. -/
def bsqState (l : List Nat) : State :=
  let s := ((base.setFld (BSQ_STAT 1) 0 3 1).setLv (RAS_CTRL 1) 1).setPipe 1 { base.pipe 1 with ptr := 0x4000, started := true }
  (List.range l.length).foldl (fun t k => t.poke (0x48104000 + 4 * k) 4 (l.getD k 0)) s

theorem wit_BeamSequencer : base.beat.copying = [] ∧ (base.pipe 1).started = false ∧ (base.pipe 1).saved = [] ∧ (bsqState [0]).bsqState 1 = 1 ∧
    (bsqState [0]).listLive 1 = true ∧ inList 0x4000 = true ∧ inList 0xFFFC = true ∧ inList 0x3FFF = false ∧ ((bsqState [0]).pipe 1).words = 0 ∧
    (bsqState [0x10280003]).listWord 1 0x4000 = 0x10280003 ∧
    waitLine 0x10280003 0 = some 80 ∧ waitLine 0x1C000000 0 = none ∧ ((bsqState []).setLv OUT_B_VTIM0 0x64).activeH 1 = 100 ∧
    bsqWords 0x20000104 = some 2 ∧ bsqWords 0x30000104 = some 3 ∧ (moveTarget 1 0x104).isSome = true ∧ moveTarget 1 2 = none ∧
    ((bsqState [0x40000000]).skipHolds 1 0x40000000) = some true ∧ ((bsqState [0x41000000]).skipHolds 1 0x41000000) = some false ∧
    (bsqState [0x4F000000]).skipHolds 1 0x4F000000 = none ∧ (bsqState [0x60000002]).isLevel (rasSource 1 + 9) = false ∧
    ([] : List Nat).any (fun l => base.rg (LBUF_BACK 1 l) == 0) = false ∧ (bitsSet ((0x70000001 : Word) &&& 0x3F) 5).any (fun l => base.rg (LBUF_BACK 1 l) == 0) = true ∧
    fieldOf (0xF0000000 : Word) 28 4 = 15 ∧ (base.setPipe 1 { base.pipe 1 with ptr := 0x3FFC }).bsqState 1 = 0 ∧ base.listLive 1 = false := by decide +kernel

/-- A list that waits for a beam position; MOVEs to a register with a right and a reserved encoding, to list RAM and to a B register. -/
theorem wit_BsqMore :
    let a := ((bsqState []).setFld (BSQ_STAT 1) 0 3 2).setPipe 1 { (bsqState []).pipe 1 with aim := some (80, 3) }
    a.bsqState 1 = 2 ∧ a.listLive 1 = true ∧ (a.pipe 1).aim = some (80, 3) ∧ fieldOf (0x20020008 : Word) 16 2 = 2 ∧
    fieldOf (0x20010008 : Word) 16 2 = 1 ∧ fieldOf (0x20000104 : Word) 16 2 = 0 := by decide +kernel

theorem test_move : after (.bsqMove 1) (bsqState [0x20020008, 77]) (fun t => t.rg (BSQ_B 1 2) == 77 && (t.pipe 1).ptr == 0x4008) = true := by
  decide +kernel

theorem test_loop : after (.bsqLoop 1) ((bsqState [0x5040FFFF]).setRg (BSQ_B 1 2) 2) (fun t => t.rg (BSQ_B 1 2) == 1 && (t.pipe 1).ptr == 0x3FFC) =
    true := by decide +kernel

/-! ### BuffersAndOutputs -/

/-- Output A, 2 × 4 pixels, driven, with one line ready. -/
def outState : State :=
  let s := ((base.setLv OUT_A_HTIM0 2).setLv OUT_A_VTIM0 4).setLv OUT_A_CTL 1
  (s.setPipe 0 { s.pipe 0 with ahead := [0xFFFFFF, 0] }).setVert 0 { VertSt.blank with zero := some 0 }

/-- Output B in video mode, and Output C, each with a line due and its pixels ready. -/
def outB : State :=
  let s := ((base.setLv OUT_B_HTIM0 2).setLv OUT_B_VTIM0 4).setLv OUT_B_CTL 1
  (s.setPipe 1 { s.pipe 1 with ahead := [0xFFFFFF, 0] }).setVert 1 { VertSt.blank with zero := some 0 }

def outC : State :=
  let s := (base.setLv OUT_C_GEOM 0x00010001).setLv OUT_C_CTL 0x101
  s.setPipe 2 { s.pipe 2 with ahead := List.replicate (s.activeW 2) 0xFFFFFF }

/-- Output B in command mode with TE, in its window. -/
def teState : State :=
  ((base.setLv OUT_B_CTL 0x4020).setLv OUT_B_TEWIN 100).setRg BEAT_PHASE 20000

def btaState : State := base.setOut { base.out with bta := true, cmd := some 0x02000006 }

theorem wit_BuffersAndOutputs : base.serves .c0 (LBUF_BACK 1 3) 0x10000010 = true ∧ base.serves .c0 (LBUF_BACK 1 5) 1 = true ∧
    base.serves .c0 (LBUF_BACK 1 3) 0x10000011 = true ∧ (0x107FFFF0 : Word).toNat ≤ 0x107FFFFF ∧ base.serves .c0 (RAS_READY 1) 0x20 = true ∧
    (base.setRg (RAS_READY 1) 8).bit (RAS_READY 1) 3 = true ∧ (base.rg (LBUF_BACK 1 0)) = 0 ∧ base.serves .c0 (RAS_READY 1) 1 = true ∧
    base.serves .c0 (RAS_UNREADY 1) 0x3F = true ∧ outState.mayRequest 0 = true ∧ outState.pinsDriven 0 = true ∧ outState.rg (VIS_ACT 0) = 0 ∧
    outState.activeW 0 ≤ (outState.pipe 0).ahead.length ∧ outState.rasEnabled 0 = false ∧
    ((outState.setLv (RAS_CTRL 0) 1).setRg SYS_CLKEN 0x400000).mayRequest 0 = true ∧ ((outState.setLv (RAS_CTRL 0) 1).setRg SYS_CLKEN 0x400000).rasEnabled 0 = true ∧
    (outState.setPipe 0 PipeSt.blank).mayRequest 0 = true ∧ (PipeSt.blank).ahead.length < outState.activeW 0 ∧
    base.mayRequest 0 = false ∧ base.pinsDriven 0 = false ∧ outB.mayRequest 1 = true ∧ outB.activeW 1 ≤ (outB.pipe 1).ahead.length ∧
    outB.pinsDriven 1 = true ∧ outC.mayRequest 2 = true ∧ outC.activeW 2 ≤ (outC.pipe 2).ahead.length ∧
    outState.vertLine 0 = some (outState.blankLines 0 + 0) ∧ base.chanState 0x819 = 0 ∧ (base.setRg (FLT_CHSTAT 0x819) 2).chanState 0x819 = 2 ∧
    base.fld (FLT_POLICY 4) 0 4 = 3 := by decide +kernel

/-- TE events in and out of their window and from the beat itself; transfers that end; packets, replies and ULPS; refreshes. -/
theorem wit_DsiAndLed :
    let z := teState.setLv OUT_B_CTL 0x20
    let p := teState.setLv OUT_B_CTL 0x14020
    let m := ((teState.setBit OUT_B_STAT 18 true).setPipe 1 { teState.pipe 1 with line := teState.activeH 1 })
    let k := outB.setOut { outB.out with cmd := some 0x02000005 }
    let u := base.setOut { base.out with leaving := true, ulps := true }
    let r := ((base.setLv OUT_C_CTL 0x101).setOut { base.out with lit := true })
    teState.awaitsTe = true ∧ teState.lvFld OUT_B_CTL 14 2 = 1 ∧ teState.out.te = teState.lvBit OUT_B_CTL 16 ∧ p.out.te ≠ p.lvBit OUT_B_CTL 16 ∧ 12800 ≤ teState.phase ∧
    teState.phase ≤ teState.lvFld OUT_B_TEWIN 0 16 * 400 ∧ teState.inBeat (teState.lvFld OUT_B_TEWIN 0 16 * 400) = true ∧ z.awaitsTe = true ∧
    z.lvFld OUT_B_CTL 14 2 = 0 ∧ z.inBeat 12800 = true ∧ base.awaitsTe = false ∧ (z.setOut { z.out with cmd := some 5 }).awaitsTe = true ∧
    m.moving = true ∧ m.inBeat (m.out.movedAt + m.packetCycles (m.activeH 1)) = true ∧
    base.serves .c0 OUT_B_CMDHDR 0x0000413D = true ∧ longPacket 0x39 = true ∧ longPacket 5 = false ∧ base.serves .c0 OUT_B_CMDHDR 0x00004139 = true ∧
    base.serves .c0 OUT_B_CMDHDR 0x00004039 = true ∧ fieldOf (0x00004039 : Word) 8 16 = 64 ∧
    (base.setBit OUT_B_CMDST 31 true).serves .c0 OUT_B_CMDHDR 5 = true ∧ base.bit OUT_B_CMDST 31 = false ∧
    (base.setOut { base.out with cmd := some 5 }).mayPacket = true ∧ btaState.mayPacket = false ∧ k.out.cmd = some 0x02000005 ∧
    btaState.out.bta = true ∧ u.out.leaving = true ∧ r.outClock = true ∧ r.out.refs < r.lvFld OUT_C_CTL 8 4 ∧ r.inBeat r.refreshEnd = true ∧
    r.pinsDriven 2 = true ∧ base.pinsDriven 2 = false := by decide +kernel

theorem test_line : after (.outputLineRequest 0) outState
    (fun t => (t.pipe 0).line == 1 && t.out.vertA.sent == some (0, [0xFFFFFF, 0]) && (t.pipe 0).ahead.isEmpty) = true := by decide +kernel

theorem test_bta_timeout : after .dsiBtaTimeout btaState (fun t => t.fld OUT_B_CMDST 0 4 == 4 && t.chanState 0x819 == 1 && t.pendOf 271) =
    true := by decide +kernel

/-! ### BlitterRing -/

/-- The blitter in a state with a command at RD. -/
def bltAt (st : Word) (ws : List Word) : State :=
  ((base.setRg BLT_STAT st).setRg BLT_RBASE 0x10000000).setBlt { base.blt with cmd := some ws }

theorem wit_BlitterRing : (bltAt 0 []).serves .c0 BLT_CTRL 1 = true ∧ (bltAt 0 []).ringInSram = true ∧ base.ringInSram = false ∧
    (bltAt 0 []).bltRd = (bltAt 0 []).bltWr ∧ ((bltAt 0 []).setRg BLT_WR 1).bltRd ≠ ((bltAt 0 []).setRg BLT_WR 1).bltWr ∧
    (bltAt 1 []).serves .c0 BLT_CTRL 1 = true ∧ (bltAt 2 []).bltState = 2 ∧ (bltAt 2 []).serves .c0 BLT_CTRL 4 = true ∧
    base.serves .c0 BLT_CTRL 2 = true ∧ base.serves .c0 BLT_CTRL 4 = true ∧ base.bltSlots = 16 ∧ (bltAt 1 []).bltState = 1 ∧
    base.serves .c0 BLT_RBASE 0x10 = true ∧ base.serves .c0 BLT_RSIZE 2 = true ∧ (bltAt 1 []).serves .c0 BLT_RSIZE 2 = true ∧
    base.serves .c0 BLT_WR 15 = true ∧ (fieldOf (15 : Word) 0 12 + 16 - base.bltWr % 16) % 16 = 15 ∧ (base.bltRd + 16 - base.bltWr % 16 - 1) % 16 = 15 ∧
    (base.setRg BLT_RD 5).bltRd = 5 ∧ (base.setRg BLT_RD 5).serves .c0 BLT_WR 5 = true ∧
    (bltDecode [0x11]).ok = true ∧ (bltDecode [0x10012]).rop % 2 = 1 ∧ (bltDecode [0x12]).rop % 2 = 0 ∧ (bltDecode [0x12]).ok = true ∧
    ((bltAt 5 [0x10012]).bltWaits 0x12).isSome = true ∧ (base.setBlt { base.blt with edge := true }).blt.edge = true ∧ base.blt.edge = false ∧
    (bltDecode [0x30010]).ok = true ∧ ((bltAt 5 [0x30010, 0x10000100]).bltWaits 0x10).isSome = true ∧ (bltDecode [0x2030010]).rot = 2 ∧
    ((bltAt 5 [0x30010, 0x10000101]).bltWaits 0x10).isSome = true ∧ (bltDecode [0x30010, 0x10000101]).dst % 16 ≠ 0 ∧
    (bltAt 1 [0x30010]).bit SYS_CLKEN 19 = true ∧ (layersOf 0).contains 3 = true ∧ base.bit (RAS_READY 0) 3 = false ∧
    (bltDecode [0x20]).ok = false ∧ (bltDecode [0x20]).op = 0x20 ∧ (bltDecode [1]).ok = false ∧ (bltAt 1 [0]).bit SYS_CLKEN 1 = true ∧
    (bltAt 1 [0]).blt.ended = false ∧ (bltAt 1 [0]).blt.cut = false ∧ (bltAt 1 [0]).bit BLT_STAT 2 = false := by decide +kernel

theorem test_layer : after .bltLayerRelease (bltAt 5 [0x30010, 0x10000100])
    (fun t => t.rg (LBUF_BACK 0 3) == 0x10000100 && t.rg (RAS_READY 0) == 8 && t.blt.ended) = true := by decide +kernel

theorem test_reserved : after .bltReservedOp (bltAt 1 [0x20]) (fun t => t.bltState == 2 && t.fld BLT_STAT 8 3 == 4 && t.pendOf 297) = true := by
  decide +kernel

/-! ### BlitterDrawing -/

/-- A FILL of 2 × 2 pixels of 4 bytes at 0x10000100, pitch 16. -/
def fillWords : List Word := [0x301, 0x10000100, 16, 0x20002, 0, 0xAABBCCDD, 0, 0]

theorem wit_BlitterDrawing : (bltDecode fillWords).ok = true ∧ (bltDecode fillWords).bpp = 4 ∧
    ((bltAt 1 fillWords).writeBursts [(0x10000100, [1, 2])]).1 = none ∧ ((bltAt 1 fillWords).writeBursts [(0x90000100, [1, 2])]).1.isSome = true ∧
    (bltDecode [0x102, 0x10000100, 0x100010, 0x20002, 0x10000200, 0, 0, 0]).ok = true ∧
    ((bltAt 1 []).bltReads (bltDecode [0x102, 0x10000100, 0x100010, 0x20002, 0x10000200, 0, 0, 0])).2.1 = none ∧
    ((bltAt 1 []).bltReads (bltDecode [0x102, 0x10000100, 0x100010, 0x20002, 0x90000200, 0, 0, 0])).2.1.isSome = true ∧
    (bltDecode [0xCC0103, 0x10000100, 0x100010, 0x20002, 0x10000200, 0, 0, 0]).ok = true ∧
    (bltDecode [0x1000104, 0x10000100, 0x100010, 0x20002, 0x10000200, 0, 0, 0]).rot = 1 := by decide +kernel

theorem test_fill : after (.bltFill none) (bltAt 1 fillWords) (fun t => t.peek 0x10000104 4 == 0xAABBCCDD && t.peek 0x10000114 4 == 0xAABBCCDD &&
    t.peek 0x10000108 4 == 0 && t.blt.ended) = true := by decide +kernel

theorem test_copy : after (.bltCopy none) ((bltAt 1 [0x102, 0x10000100, 0x100010, 0x20002, 0x10000200, 0, 0, 0]).poke 0x10000212 2 0x1234)
    (fun t => t.peek 0x10000112 2 == 0x1234) = true := by decide +kernel

/-! ### AudioBlock -/

/-- Voice 3 with 100 samples of 8 bits in SRAM; a pending command and the render of a block of 800 samples. -/
def voiceState (st : Word) (c : Option VoiceCmd) (on : Bool) : State :=
  let s := (((base.setRg (V_START 3) 0x10000000).setRg (V_LEN 3) 100).setRg (V_STAT 3) st).setRg AUD_STAT (if on then 0x3200001 else 0)
  s.setAud { s.aud with voices := [(3, { VoiceSt.blank with cmd := c })] }

/-- A frame of stream 2 from device 9: two samples of block 10. -/
def audioFrame : Llp :=
  linkFrame 0xFF 9 2 ([2, 1] ++ beBytes 2 0 ++ beBytes 8 10 ++ beBytes 2 2 ++ beBytes 2 (base.blockLen 10) ++ [0, 0, 5, 0, 0, 6])

def streamState : State :=
  let s := (ledgerNode 0 3).setRg (LNK_ASTR 1) 0x82420000
  (s.setRg64 BEAT_COUNT_LO 10).setAud { s.aud with kept := [1] }

theorem wit_AudioBlock : (voiceState 0 none false).serves .c0 AUD_VCMD (vcmdWord 1 3 none) = true ∧ (voiceState 0 none false).keyonBad 3 = false ∧
    base.keyonBad 3 = true ∧ base.serves .c0 AUD_VCMD (vcmdWord 1 3 (some 5)) = true ∧ base.sampleBegun 0 5 = true ∧ base.sampleBegun 3 5 = false ∧
    5 < base.blockLen 3 ∧ base.serves .c0 AUD_VCMD (vcmdWord 2 3 none) = true ∧ (voiceState 2 none false).vState 3 = 2 ∧
    base.serves .c0 AUD_VCMD (vcmdWord 3 3 none) = true ∧ base.serves .c0 (voiceReg 4 3) 9 = true ∧ (voiceState 0 none true).rendering = true ∧
    (voiceState 0 none true).blen = 800 ∧ base.rendering = false ∧ (base.setLv AUD_CTRL 1).lvBit AUD_CTRL 0 = true ∧
    (base.setLv (I_CFG 1) 1).lvBit (I_CFG 1) 1 = false ∧ (streamState.receive 0 (frameOf audioFrame 7)).deliver = true ∧
    (streamState.receive 0 (frameOf audioFrame 7)).st.bit (LNK_ASTR 1) 31 = true ∧ streamState.fld (LNK_ASTR 1) 22 6 = 9 ∧
    streamState.fld (LNK_ASTR 1) 16 4 = 2 ∧ streamState.blockStart 11 ≤ streamState.blockStart 10 + streamState.streamLag + 1 := by decide +kernel

/-- A render of 800 samples that has reached sample `n`, with a command on voice 3 in state `st`. -/
def renderAt (n : Nat) (st : Word) (c : Option VoiceCmd) : State :=
  let s := voiceState st c true
  s.setAud { s.aud with next := n }

/-- A stream whose render has begun block 4 of a timeline at beat 4. -/
def streamAt (cfg astr : Word) (kept : List Nat) : State :=
  let s := ((streamState.setLv (LS_CFG 1) cfg).setRg (LNK_ASTR 1) astr)
  s.setAud { s.aud with kept := kept }

/-- The voice's commands: at an instant ahead and passed, acting at once, at their sample and not yet; the render's groups. -/
theorem wit_AudioVoices :
    let due : VoiceCmd := { op := 2, due := some (0, 64) }
    let later : VoiceCmd := { op := 2, due := some (1, 0) }
    let ahead := (voiceState 2 none false).setRg AUD_VAT_LO 3
    ahead.serves .c0 AUD_VCMD (vcmdWord 1 3 (some 0)) = true ∧ ahead.keyonBad 3 = false ∧ ahead.rg64 AUD_VAT_LO = 3 ∧
    ahead.sampleBegun 3 0 = false ∧ 0 < ahead.blockLen 3 ∧ ahead.vState 3 = 2 ∧ ahead.serves .c0 AUD_VCMD (vcmdWord 2 3 (some 0)) = true ∧
    ahead.serves .c0 AUD_VCMD (vcmdWord 3 3 (some 0)) = true ∧ (voiceState 4 none false).vState 3 = 4 ∧
    (voiceState 4 none false).sampleBegun 0 0 = true ∧
    ahead.blockLen 3 ≤ 2047 ∧ (voiceState 0 none false).serves .c0 (voiceReg 0 3) 9 = true ∧ (voiceState 1 none false).vState 3 = 1 ∧
    ((voiceState 0 (some later) false).voice 3).cmd.isSome = true ∧ (regAt (voiceReg 0 3)).isSome = true ∧
    ((renderAt 64 2 (some due)).voice 3).cmd = some { op := 2, due := some ((renderAt 64 2 none).rg64 AUD_PBEAT_LO, 64) } ∧
    (renderAt 64 2 none).aud.next < (renderAt 64 2 none).blen ∧ ((renderAt 0 2 (some later)).voice 3).cmd = some later ∧
    (renderAt 0 2 none).rg64 AUD_PBEAT_LO < 1 ∧ (renderAt 735 2 none).aud.next + 64 < 800 ∧ 800 ≤ (renderAt 736 2 none).aud.next + 64 ∧
    (base.setLv AUD_CTRL 1).bit SYS_CLKEN 2 = true ∧ (base.setLv AUD_CTRL 1).aud.ready = none ∧ (base.setLv (I_CFG 1) 1).lvBit (I_CFG 1) 0 = true ∧
    base.bit (I_STAT 1) 0 = false ∧ (base.setRg (I_STAT 1) 1).bit (I_STAT 1) 0 = true := by decide +kernel

/-- The streams: a frame that is no delivery, one that no stream hears, another source's, a silent stream's, a malformed one, and
one whose samples straddle the block under render. -/
theorem wit_AudioStreams :
    let rx := fun (s : State) (f : Llp) => s.receive 0 (frameOf f 7)
    let short := { audioFrame with payload := audioFrame.payload.set 15 0 }
    let s := streamAt 0 0x82420000 [1]
    (rx s { audioFrame with hseq := 1 }).deliver = false ∧ (rx (streamAt 0 0x02420000 [1]) audioFrame).st.bit (LNK_ASTR 1) 31 = false ∧
    (rx (streamAt 0 0x82820000 [1]) audioFrame).st.fld (LNK_ASTR 1) 22 6 ≠ audioFrame.src.toNat ∧
    (rx (streamAt 0 0x82820000 [1]) audioFrame).st.aud.kept.contains 1 = true ∧
    (rx (streamAt 0 0x82820000 []) audioFrame).st.aud.kept.contains 1 = false ∧ (rx (streamAt 1 0x82420000 [1]) audioFrame).st.lvBit (LS_CFG 1) 0 = true ∧
    (rx s audioFrame).st.lvBit (LS_CFG 1) 0 = false ∧ fieldAt short.payload 14 2 ≠ (rx s short).st.blockLen 10 ∧
    fieldAt audioFrame.payload 1 1 = 1 ∧ fieldAt audioFrame.payload 14 2 = (rx s audioFrame).st.blockLen 10 ∧
    (rx s audioFrame).st.blockLen 10 ≥ 0 + fieldAt audioFrame.payload 12 2 ∧ (rx s audioFrame).st.rendering = false ∧
    (rx s audioFrame).st.blockStart 11 ≤ (rx s audioFrame).st.blockStart 10 + (rx s audioFrame).st.streamLag := by decide +kernel

theorem test_keyon_acts : after (.voiceCommandAct 3) (voiceState 0 (some { op := 1, due := none }) true)
    (fun t => t.vState 3 == 1 && (t.voice 3).cmd == none && t.rg (V_STAT 3) == 1) = true := by decide +kernel

theorem test_stream : after (.audioFrameRx 0 audioFrame) streamState
    (fun t => (t.streamStore 1).map (fun e => e.2) == [5, 6]) = true := by decide +kernel

/-! ### Cameras -/

/-- Input 1 in RAW8, 2 × 2 pixels, two buffers, with an open frame `f`. -/
def camState (f : Option CamFrame) : State :=
  let s := (((base.setLv (CAM_CTL 1) 0x2A01).setLv (CAM_GEOM 1) 0x20002).setLv (CAM_FBASE 1) 0x10001000).setLv (CAM_FPITCH 1) 0x10
  s.setCam 1 { s.cam 1 with cur := f }

def camFrame (lines : Nat) : CamFrame :=
  { buf := 1, addr := 0x10001020, pitch := 16, w := 2, h := 2, dt := 0x2A, fill := 7, lines := lines, flags := 0, fseq := 5, beat := 0, rtc := 0 }

theorem wit_Cameras : (camState none).camOn 1 = true ∧ (camState none).lvBit (CAM_CTL 1) 0 = true ∧ (camState none).camVc 1 0 = true ∧
    (camState none).freeBuf 1 = some 0 ∧ ((camState none).setRg (CAM_BSTAT 1) 0xA).freeBuf 1 = none ∧ base.camOn 1 = true ∧
    (base.setRg SYS_CLKEN 0).camOn 1 = false ∧ ((camState (some (camFrame 1))).cam 1).cur = some (camFrame 1) ∧
    (camState none).serves .c0 (CAM_REL 1) 1 = true ∧ ((camState none).setRg (CAM_BHOLD 1) 0x20).bufHolds 1 1 = 4 ∧
    (camState none).lvFld (CAM_NBUF 1) 0 4 = 2 ∧ (base.setLv (CAM_FS 1) 0xA0001).lvBit (CAM_FS 1) 0 = true ∧
    ((camState none).setLv (CAM_USE 1) 1).camHolds 1 (camFrame 2) = 0 := by decide +kernel

/-- The other camera cases: a frame still open after EN went to 0, virtual channels and data types of others, errors, a frame with
and without holds, a release, and FS. -/
theorem wit_CameraCases :
    let closed := fun (f : Option CamFrame) => (camState f).setLv (CAM_CTL 1) 0x2A00
    let s := camState (some (camFrame 1))
    let held := (((camState none).setRg (CAM_BHOLD 1) 0x20).setRg (CAM_BSTAT 1) 0x8)
    (closed (some (camFrame 1))).camOn 1 = true ∧ (closed (some (camFrame 1))).lvBit (CAM_CTL 1) 0 = false ∧ (camFrame 1).buf < 8 ∧
    (closed none).lvBit (CAM_CTL 1) 0 = false ∧ (camState none).camVc 1 1 = false ∧ (camState none).lvBit (CAM_CTL 1) 1 = false ∧
    (camState none).lvFld (CAM_CTL 1) 8 6 = 0x2A ∧ s.camVc 1 0 = true ∧ (camFrame 1).dt = 0x2A ∧ (camFrame 1).lines < (camFrame 1).h ∧
    (camFrame 2).h ≤ (camFrame 2).lines ∧ (camFrame 1).flags = 0 ∧ (camFrame 1).w = 2 ∧
    (s.setLv (CAM_USE 1) 1).bit REC_STAT 0 = false ∧ (((s.setLv (CAM_USE 1) 1).setLv REC_CFG 2).setRg REC_STAT 1).camHolds 1 (camFrame 2) % 2 = 1 ∧
    (s.setLv (CAM_USE 1) 4).camHolds 1 (camFrame 2) = 4 ∧ held.serves .c0 (CAM_REL 1) 1 = true ∧ fieldOf (1 : Word) 0 3 < held.lvFld (CAM_NBUF 1) 0 4 ∧
    (held.bufHolds 1 1).testBit 2 = true ∧ held.bufHolds 1 1 = 4 ∧ held.bufState 1 1 = 2 ∧ ((camState none).bufHolds 1 1).testBit 2 = false ∧
    ¬fieldOf (2 : Word) 0 3 < held.lvFld (CAM_NBUF 1) 0 4 ∧ base.bit SYS_CLKEN 3 = true ∧ base.lvBit (CAM_FS 1) 0 = false := by decide +kernel

theorem test_camera_line : after (.cameraLine 1 0 0x2A [3] 0) (camState (some (camFrame 1)))
    (fun t => t.peek 0x10001030 2 == 0x703 && t.rg (CAM_SHORTCNT 1) == 1 && t.pendOf 420) = true := by decide +kernel

theorem test_camera_end : after (.cameraFrameEnd 1 0 0) ((camState (some (camFrame 2))).setLv (CAM_USE 1) 4)
    (fun t => t.bufHolds 1 1 == 4 && t.bufState 1 1 == 2 && t.rg (CAM_LAST 1) == 0x20001) = true := by decide +kernel

/-! ### RecorderAndEmmc -/

/-- A recorder in RUN, with a command `w` on the port and one unit of input 1 at a stage. -/
def recState (w : Option ClipWrite) (stage : Nat) : State :=
  let f : RecFrame := { input := 1, frame := camFrame 2, ended := 0 }
  ((base.setRg REC_STAT 1).setRg REC_SEGBLK 100).setRec { RecSt.init with wr := w, units := [⟨f, 0, 600, 9, stage⟩] }

def emmcRunning (op : Nat) : State := (base.setRg EMMC_STAT 1) |> fun s => { s with emmc := { s.emmc with fw := some ⟨op, 0, true⟩ } }

/-- Settings that START accepts on every card: the smallest clip ring. -/
def recReady : State :=
  (((base.setRg REC_NSEG 2).setRg REC_SEGBLK 64).setRg REC_OBASE 0x10000000).setLv REC_CFG 0x18

theorem wit_recStart : recReady.recBad = false := by
  have h : ¬(Config.emmcBlocks < (recReady.rg REC_LBA0).toNat + recReady.fld REC_NSEG 0 16 * recReady.fld REC_SEGBLK 0 16) := by
    have e : (recReady.rg REC_LBA0).toNat + recReady.fld REC_NSEG 0 16 * recReady.fld REC_SEGBLK 0 16 = 128 := by decide +kernel
    rw [e]; unfold Config.emmcBlocks; omega
  unfold State.recBad
  simp only [h, false_or]
  decide +kernel

theorem wit_RecorderAndEmmc : recReady.serves .c0 REC_CTRL 1 = true ∧ recReady.recState = 0 ∧ recReady.fld REC_NSEG 0 16 = 2 ∧
    (base.setRg REC_STAT 1).serves .c0 REC_CTRL 2 = true ∧ base.serves .c0 (recConfigReg 6) 9 = true ∧ base.serves .c0 (recTableReg 4 63) 1 = true ∧
    (base.setRg REC_STAT 1).serves .c0 REC_MARK 0x50000 = true ∧ (base.setLv REC_CFG 1).lvBit REC_CFG 0 = true ∧
    ((recState none 2).recorder.units.map (fun z => z.stage)) = [2] ∧ (base.frameRows { camFrame 2 with h := 0 } 0 0).1 = [] ∧
    base.retired 0x824 = false ∧ base.serves .c0 EMMC_CMD 1 = true ∧ base.emmcBadBuf = false ∧ base.serves .c0 EMMC_CMD 2 = true ∧
    (base.setRg EMMC_CMDW 0x200).emmcBadBuf = true ∧ (base.setRg EMMC_CFG 0x10).fld EMMC_CFG 3 2 = 2 ∧ base.serves .c0 EMMC_CMD 4 = true ∧
    base.serves .c0 EMMC_CMD 8 = true ∧ (emmcRunning 0).emmcBusy = true ∧ (base.setRg EMMC_CMDW 17).emmcIndex = 17 ∧ base.fld EMMC_RETRY 0 3 = 3 ∧
    (base.offerRecord 3 []).1 = false := by
  decide +kernel

/-- RUN with a held frame of no pixels in the encoder, a ring of `osize` bytes at `obase` and the limit `jmax`. -/
def recEncoding (obase osize jmax : Word) (h : Nat) : State :=
  let f : RecFrame := { input := 1, frame := { camFrame 2 with addr := 0, w := 1, h := h }, ended := 0 }
  ((((base.setRg REC_STAT 1).setRg REC_OBASE obase).setRg REC_OSIZE osize).setRg REC_JMAX jmax).setRec
    { RecSt.init with enc := some (f, 0x18), queue := [f] }

/-- The stream of that frame, which no choice of marker layout empties or lets pass 1,024 bytes. -/
def emptyStream (s : State) : List Byte :=
  ((s.recJpeg { camFrame 2 with addr := 0, w := 1, h := 0 } 0x18).stream []).map (fun n => BitVec.ofNat 8 n)

theorem wit_RecEncode :
    let s := recEncoding 0x10000000 1024 0xFFFFFF 0
    0 < (emptyStream s).length ∧ (emptyStream s).length ≤ 1024 ∧ (s.ringWrite 0 (emptyStream s)).1 = none ∧
    ((recEncoding 0x30000000 1024 0xFFFFFF 0).ringWrite 0 (emptyStream s)).1.isSome = true := by
  unfold emptyStream Jpeg.stream tableSegments
  generalize Config.jpegJoin = b
  cases b <;> decide +kernel

/-- The recorder: HALT, a stopping one, held writes of each kind, a frame whose lines cannot be read, markers free and bound. -/
theorem wit_RecorderCases :
    let halt := recReady.setRg REC_STAT 2
    let stop := fun (s : State) => s.setRec { s.recorder with stopping := true }
    let m : Marker := { input := 1, reason := 5, tag := 0, bound := none }
    let marks := fun (l : List Marker) => (base.setRg REC_STAT 1).setRec { RecSt.init with markers := l }
    halt.serves .c0 REC_CTRL 1 = true ∧ halt.recState = 2 ∧ halt.recorder.units = [] ∧ halt.serves .c0 REC_CTRL 2 = true ∧ base.recBad = true ∧
    base.serves .c0 (recConfigReg 3) 63 = true ∧ fieldOf (63 : Word) 0 16 < 64 ∧ base.serves .c0 (recConfigReg 3) 64 = true ∧
    recConfigReg 3 = REC_SEGBLK ∧ (regAt (recConfigReg 3)).isSome = true ∧ (regAt (recTableReg 5 63)).isSome = true ∧
    halt.serves .c0 (recTableReg 5 63) 1 = true ∧ ((base.setRg REC_STAT 1).setLv REC_CFG 2).lvBit REC_CFG 1 = true ∧
    fieldOf (0x50001 : Word) 0 1 = 1 ∧ (base.setRg REC_STAT 1).serves .c0 REC_MARK 0x50001 = true ∧
    (marks (List.replicate 8 m)).recorder.markers.length = 8 ∧ (base.setRg REC_STAT 1).lvBit REC_CFG 0 = false ∧
    (stop (recState none 2)).recorder.stopping = true ∧ (recEncoding 0 0 0 1).recorder.enc.isSome = true ∧
    ((recEncoding 0 0 0 1).frameRows { camFrame 2 with addr := 0, w := 1, h := 1 } 0 1).2.1.isSome = true ∧
    ((marks [m]).recorder.markers.find? (fun m => m.bound.isSome)) = none ∧
    ((marks [m, { m with bound := some [1] }]).recorder.markers.find? (fun m => m.bound.isSome)).isSome = true ∧
    (marks []).ldgState ≠ 1 ∧ (recState (some ⟨2, 3, true⟩) 2).retired 0x824 = false ∧ (recState (some ⟨2, 3, true⟩) 2).fld EMMC_RETRY 0 3 = 3 ∧
    (base.setRg (FLT_CHSTAT 0x824) 2).retired 0x824 = true := by
  have h : base.recBad = true := by unfold State.recBad; rw [Bool.or_eq_true, Bool.or_eq_true, Bool.or_eq_true]; left; left; left; decide +kernel
  refine ⟨?_, ?_, ?_, ?_, h, ?_⟩ <;> decide +kernel

/-- The eMMC port: busy, in REQUAL, with no data, reading and writing 512 bytes, tuning, and at its last retry. -/
theorem wit_EmmcCases :
    let s := emmcRunning 0
    let data := fun (w : Word) => ((s.setRg EMMC_CMDW w).setRg EMMC_BUF 0x10000000)
    let requal := base.setRg (FLT_CHSTAT 0x824) 3
    s.serves .c0 EMMC_CMD 2 = true ∧ s.recState = 0 ∧ s.recorder.wr = none ∧ (data 0x10011).emmcData = 0 ∧ (data 0x10311).emmcData = 1 ∧
    (data 0x10458).emmcData = 2 ∧ (data 0x10311).emmcBytes = 512 ∧ (data 0x10458).emmcIndex = 24 ∧ s.fld EMMC_RETRY 0 3 = 3 ∧
    (emmcRunning 1).emmc.fw = some ⟨1, 0, true⟩ ∧ requal.chanState 0x824 = 3 ∧ requal.serves .g0 EMMC_CMD 1 = true ∧
    requal.serves .c0 EMMC_CMD 1 = true ∧ requal.serves .c0 EMMC_CMD 2 = true ∧ requal.serves .c0 EMMC_CMD 4 = true ∧
    requal.serves .c0 EMMC_CMD 8 = true ∧ s.serves .c0 EMMC_CMD 1 = true ∧ base.serves .c0 EMMC_CMD 4 = true ∧ base.emmcRbusy = false := by
  decide +kernel

theorem test_unit_complete : after .unitComplete (recState none 2)
    (fun t => t.recorder.units.isEmpty && t.rg REC_FRAMECNT == 1 && t.rg REC_SEGPOS == 0x10003 && t.pendOf 449) = true := by decide +kernel

theorem test_recorder_halts : after (.recEmmcDone 1) (recState (some ⟨0, 0, true⟩) 0)
    (fun t => t.recState == 2 && t.fld REC_STAT 4 2 == 1 && t.pendOf 456 && t.pendOf 808) = true := by decide +kernel

/-! ### ExpertCommands -/

/-- A state of the array: one MOE layer with one expert of two inputs and two outputs on engine 2, served by steps 0, 1 and 2 of
bank 0. -/
def xpaModel : XpaSt :=
  { XpaSt.init with
    layers := [[0x6, 0x20002, 1, 1, 0x10000000, 0x10000100, 0x10000200, 0x10000300] ++ List.replicate 8 0]
    sections := [[0x2001, 0, 48, 0]], ph0 := true
    banks := [(0, { steps := [(0x01000000, 0), (0x02000064, 0x10200), (0x030000C8, 0)], remap := List.range 16 })] }

/-- In RUN, with the weights 1, 2, 3, 4 in engine 2 and an input token 5, 6. -/
def xpaRun (x : XpaSt) : State :=
  let s := (base.setRg XPA_STAT 0x12).setXpa x
  ((s.pokeBytes 0x20040004 [1, 0]).pokeBytes 0x20040010 [1, 2, 3, 4]).pokeBytes 0x10000000 [5, 6]

def xpaTok : XpaTok := { layer := 0, expert := 0, src := none, tok := 0, choice := 0, entry := 0, beat := 0 }

/-- A table at 0x1000_0000 whose CRC is right and whose only step has the reserved operation 0. -/
def xpaTable (op : Byte) : State :=
  let body : List Byte := List.replicate 16 0 ++ [0, 0, 0, op, 0, 0, 0, 0]
  let s := (base.setRg XPA_SCHADDR 0x10000000).setXpa { XpaSt.init with cmd := some (2, 1) }
  s.pokeBytes 0x10000000 ([0x43, 0x53, 0x58, 0x4C, 1, 0, 0, 0] ++ leBytes 4 (crc32 (body.map (fun b => b.toNat))) ++ [0, 0, 0, 0] ++ body)

theorem wit_ExpertCommands : base.serves .c0 XPA_CMD (xpaWord 1 0) = true ∧ base.bit XPA_STAT 8 = false ∧ base.xpaState = 0 ∧
    blobPlace 0x10000000 true = true ∧ blobPlace 8 true = false ∧ (xpaRun xpaModel).xpaState = 2 ∧ base.serves .c0 XPA_CMD (xpaWord 2 1) = true ∧
    (base.setRg XPA_STAT 1).xpaState = 1 ∧ base.domain11Armed = false ∧ (base.setRg (FLT_CHSTAT 0x80F) 3).chanState 0x80F = 3 ∧
    base.serves .c0 XPA_CMD (xpaWord 3 15) = true ∧ base.serves .c0 XPA_CMD (xpaWord 4 0) = true ∧
    ((xpaTable 0).readTable 0x10000000).1.2 = none ∧ (((xpaTable 0).tableBad ((xpaTable 0).readTable 0x10000000).1.1)) = some (3, 0) ∧
    (base.readBlob 0x10000000).1.2 = some (1, 0) := by decide +kernel

/-- A blob at 0x1000_0000 of one unused layer and no section, with magic `m`. -/
def xpaBlob (m : Byte) : State :=
  let body : List Byte := List.replicate 80 0
  let s := (base.setRg XPA_BLOB 0x10000000).setXpa { XpaSt.init with cmd := some (1, 0) }
  s.pokeBytes 0x10000000 ([m, 0x4D, 0x58, 0x4C, 1, 1, 0, 0, 96, 0, 0, 0] ++ leBytes 4 (crc32 (body.map (fun b => b.toNat))) ++ body)

/-- A table of the three steps of `xpaModel`, ROUTE, SLOT and GATHER, with remap byte `r` of the last engine. -/
def xpaGoodTable (r : Byte) : State :=
  let body : List Byte := [0, 1, 2, 3, 4, 5, 6, 7, 8, 9, 10, 11, 12, 13, 14, r] ++ [0, 0, 0, 1, 0, 0, 0, 0] ++ [100, 0, 0, 2, 0, 2, 1, 0] ++
    [0x90, 1, 0, 3, 0, 0, 0, 0]
  let s := (base.setRg XPA_SCHADDR 0x10000000).setXpa { xpaModel with cmd := some (2, 1) }
  s.pokeBytes 0x10000000 ([0x43, 0x53, 0x58, 0x4C, 3, 0, 0, 0] ++ leBytes 4 (crc32 (body.map (fun b => b.toNat))) ++ [0, 0, 0, 0] ++ body)

theorem wit_ExpertLoads :
    let b := xpaBlob 0x42
    let k := xpaGoodTable 15
    let x := ((k.readTable 0x10000000).1.1)
    let armed := ((((base.setRg (CG_CTRL 2) 1).setRg (CG_STAT 2) 1).setRg (CG_ARMED 2) 0x800).setRg XPA_SCHSEL 1).setRg XPA_STAT 1
    b.xpa.cmd = some (1, 0) ∧ (b.readBlob (b.rg XPA_BLOB).toNat).1.2 = none ∧ b.blobBad (blobOf (b.readBlob 0x10000000).1.1) = none ∧
    ((xpaBlob 0).readBlob 0x10000000).1.2 = some (1, 0) ∧ ((xpaBlob 0x42).setRg LNK_ID 4).blobBad (blobOf (b.readBlob 0x10000000).1.1) = some (3, 0) ∧
    k.xpa.cmd = some (2, 1) ∧ (k.readTable (k.rg XPA_SCHADDR).toNat).1.2 = none ∧ k.tableBad x = none ∧
    ((xpaGoodTable 2).tableBad ((xpaGoodTable 2).readTable 0x10000000).1.1) = none ∧
    ((xpaGoodTable 130).tableBad ((xpaGoodTable 130).readTable 0x10000000).1.1) = some (11, 15) ∧
    armed.domain11Armed = true ∧ armed.fld XPA_SCHSEL 0 1 = 1 ∧ armed.serves .c0 XPA_CMD (xpaWord 2 1) = true ∧
    (xpaRun xpaModel).liveBank = 0 ∧ (xpaRun xpaModel).serves .c0 XPA_CMD (xpaWord 2 0) = true ∧
    blobPlace 0x30000000 true = true ∧ blobPlace 0x30000000 false = false ∧ (base.setRg XPA_STAT 0x100).bit XPA_STAT 8 = true := by
  decide +kernel

theorem test_blob_loads : after (.xpaCmdDone true) (xpaBlob 0x42) (fun t => t.rg XPA_CMDST == 0 && t.xpaState == 1 && t.xpa.layers.length == 1) = true := by
  decide +kernel

theorem test_table_fault : after (.xpaCmdDone true) (xpaTable 0) (fun t => t.rg XPA_CMDST == 0x304 && t.pendOf 481 && !t.bankValid 1) = true := by
  decide +kernel

theorem test_no_blob : after (.xpaCmdDone true) ((base.setRg XPA_BLOB 0x10000000).setXpa { XpaSt.init with cmd := some (1, 0) })
    (fun t => t.rg XPA_CMDST == 0x104 && t.bit XPA_EVT 1) = true := by decide +kernel

/-! ### ExpertArray -/

/-- The node of the link tests, running the model as a host of layer 0's expert. -/
def xpaHost : State :=
  let y := xpaModel
  ((ledgerNode 0 3).setRg XPA_STAT 0x12).setXpa
    { y with layers := y.layers.map (fun l => (3 : Word) :: (l.drop 1).take 7 ++ ([4] ++ List.replicate 7 0)) }

def tokenPl (kind : Byte) : List Byte := [kind, 0, 0, 0, 0, 0, 0, 0, 0, 0, 0, 2, 0, 0, 0, 0, 5, 6]

def stepRun (n : Nat) (w : Word × Word) : XpaRun := { step := n, what := w, input := 0, old := false }

theorem wit_ExpertArray :
    let s := xpaRun xpaModel
    let g : Word × Word := (0x030000C8, 0)
    (s.stepDue 0 1).isSome = true ∧ (s.stepDue 1 2).isSome = true ∧ (s.stepDue 2 3).isSome = true ∧ (s.stepDue 3 1).isNone = true ∧
    (s.stepBegin 0 (0x01000000, 0)).readElems 0x10000000 2 = ([5, 6], s.stepBegin 0 (0x01000000, 0)) ∧
    s.expertUp 0 0 = true ∧ s.expertLimit 0 0 = 1 ∧ lDev (s.xpa.layer 0) 0 = s.ownId ∧ s.engineUp 2 = true ∧
    ((s.setRg (FLT_CHSTAT 0x802) 2).engineUp 2) = false ∧ s.xpa.top = some 0 ∧ (s.runningStep (fun u => tOp u == 1)).isNone = true ∧
    ((s.setXpa { s.xpa with running := [stepRun 2 g] }).runningStep (fun u => tOp u == 3)) = some (stepRun 2 g) ∧
    (xpaHost.receive 0 (frameOf (linkFrame 4 9 3 (tokenPl 0)) 8)).deliver = true ∧ xpaHost.observer = false ∧ xpaHost.expertLimit 0 0 = 1 ∧
    placedOn (xpaHost.xpa.layer 0) 0 xpaHost.ownId = true ∧ (xpaHost.slotOf 0 0).isSome = true ∧ xpaHost.beatNo = 0 := by decide +kernel

/-- Routes of each kind, choices that find their expert closed, and the expert on another device. -/
theorem wit_ExpertRoutes :
    let s := xpaRun xpaModel
    let kind := fun (w : Word) => xpaRun { xpaModel with layers := xpaModel.layers.map (fun l => w :: l.drop 1) }
    let ch : XpaChoice := { layer := 0, beat := 0, tok := 0, choice := 0, expert := 0, gate := 256, remote := false, got := false }
    let full := s.setXpa { s.xpa with choices := [ch] }
    let far := xpaRun { xpaModel with layers := xpaModel.layers.map (fun l => l.take 8 ++ List.replicate 8 0x00040004) }
    lKind (s.xpa.layer 0) = 2 ∧ lTopk (s.xpa.layer 0) = 1 ∧ lTopk ((kind 0xA).xpa.layer 0) = 2 ∧ lKind ((kind 0x1).xpa.layer 0) = 1 ∧
    ((kind 0x1).setXpa { (kind 0x1).xpa with routing := some (1, camFrame 2) }).xpa.routing = some (1, camFrame 2) ∧ (camFrame 2).buf < 8 ∧
    s.sentTo 0 0 0 < s.expertLimit 0 0 ∧ ¬full.sentTo 0 0 0 < full.expertLimit 0 0 ∧ s.expertUp 0 1 = false ∧ lFallback (s.xpa.layer 0) = 0 ∧
    lDev (far.xpa.layer 0) 0 ≠ far.ownId ∧ (s.runningStep (fun u => tOp u == 1)) = none ∧
    ((s.setXpa { s.xpa with running := [stepRun 0 (0x01000000, 0)] }).runningStep (fun u => tOp u == 1)).isSome = true ∧
    (kind 0x3).xpa.top = none ∧ s.xpa.copying = [] ∧ (s.readBlob s.xpa.blob).1.2.isSome = true ∧ ((xpaBlob 0x42).readBlob 0x10000000).1.2 = none := by
  decide +kernel

/-- Slots: an error in a queued token and past the queue, an engine out, tokens that remain, and what serving one token meets. -/
theorem wit_ExpertSlots :
    let q : XpaTok := xpaTok
    let s := xpaRun { xpaModel with queue := [q] }
    let out := s.setRg (FLT_CHSTAT 0x802) 2
    let slot : Word × Word := (0x02000064, 0x10200)
    let bad := s.setEcc 0x20040010 (some .uncorrectable)
    ((s.stepDue 1 2) = some slot) ∧ ((s.stepBegin 1 slot).queueOf 0 0) = [q] ∧ ((s.stepBegin 1 slot).expertPlace 0 0) = some (2, 0x20040000, 48) ∧
    (s.stepBegin 1 slot).engineUp 2 = true ∧ (out.stepDue 1 2) = some slot ∧ (out.stepBegin 1 slot).engineUp 2 = false ∧
    s.xpa.running.find? (fun a => a.step == 1 && tOp a.what == 2) = none ∧
    (s.setXpa { s.xpa with running := [stepRun 1 slot] }).xpa.running.find? (fun a => a.step == 1 && tOp a.what == 2) = some (stepRun 1 slot) ∧
    s.queueOf 0 0 = [q] ∧ base.expertPlace 0 0 = none ∧ out.expertUp 0 0 = false ∧ (s.engineRead 2 0x20040000 48 0 0).1 = true ∧
    (bad.engineRead 2 0x20040000 48 0 0).1 = false := by
  decide +kernel

/-- TOKEN and RESULT frames: not delivered, of the other kind, on an observer, for a closed bank, for a full queue, and a result
awaited, not awaited and of the wrong length. -/
theorem wit_ExpertFrames :
    let rx := fun (s : State) (f : Llp) => s.receive 0 (frameOf f 8)
    let tok := linkFrame 4 9 3 (tokenPl 0)
    let res := linkFrame 4 9 3 (tokenPl 1)
    let off := (xpaHost.setRg XPA_STAT 1)
    let full := xpaHost.setXpa { xpaHost.xpa with queue := [{ xpaTok with src := some 9 }] }
    let h : XpaChoice := { layer := 0, beat := 0, tok := 0, choice := 0, expert := 0, gate := 256, remote := true, got := false }
    let away := xpaHost.setXpa { xpaHost.xpa with layers := xpaModel.layers.map (fun l => l.take 8 ++ List.replicate 8 9), choices := [h] }
    (rx xpaHost { tok with hseq := 1 }).deliver = false ∧ fieldAt tok.payload 0 1 = 0 ∧ fieldAt res.payload 0 1 = 1 ∧
    (rx off tok).st.xpaState = 1 ∧ (rx off tok).deliver = true ∧ (rx full tok).st.expertLimit 0 0 ≤ ((rx full tok).st.queueOf 0 0).length ∧
    ((rx xpaHost tok).st.queueOf 0 0).length < (rx xpaHost tok).st.expertLimit 0 0 ∧ (rx xpaHost res).st.xpa.choices = [] ∧
    (rx away res).deliver = true ∧ (rx away res).st.observer = false ∧ (rx away res).st.xpa.choices = [h] ∧
    lDev ((rx away res).st.xpa.layer 0) 0 = 9 ∧ fieldAt res.payload 10 2 = lDout ((rx away res).st.xpa.layer 0) ∧
    fieldAt (linkFrame 4 9 3 ((tokenPl 1).set 11 3)).payload 10 2 ≠ lDout ((rx away res).st.xpa.layer 0) := by
  decide +kernel

theorem test_route : after (.xpaRoute 0) (xpaRun xpaModel)
    (fun t => t.xpa.queue == [xpaTok] && t.peek 0x10000300 2 == 0x605 && t.xpa.running.map (fun r => r.step) == [0]) = true := by decide +kernel

theorem test_expert : after (.xpaSlotEnd 1 1)
    ((xpaRun { xpaModel with queue := [xpaTok], running := [stepRun 1 (0x02000064, 0x10200)] }).pokeBytes 0x10000300 [5, 6])
    (fun t => t.peek 0x10000200 2 == 0x2711 && t.xpa.queue.isEmpty && t.xpa.ended == [1]) = true := by decide +kernel

theorem test_token_rx : after (.tokenRx 0 (linkFrame 4 9 3 (tokenPl 0))) xpaHost
    (fun t => t.xpa.queue.map (fun q => q.src) == [some 9] && t.peek 0x10000300 2 == 0x605) = true := by decide +kernel

/-! ### Timers -/

/-- Timer 3 running up to 9 from `c`, with its unit 1 in toggle mode at 5 and its unit 0 in capture mode. -/
def tmrState (c : Word) : State :=
  let s := (((base.setRg (TMR_STAT 3) 1).setRg (TMR_COUNT 3) c).setLv (TMR_TOP 3) 9).setLv (TMR_CCCFG 3 1) 6
  (s.setLv (TMR_CCCFG 3 0) 0x41).setRg (TMR_CC 3 1) 5

def tmrDue (k : Nat) (s : State) : State := { s with tmr := { s.tmr with due := [3], acts := [(k, 3)] } }

theorem wit_Timers :
    base.serves .c0 (TMR_CMD 15) 1 = true ∧ base.serves .c0 (TMR_CMD 15) 2 = true ∧ base.serves .c0 (TMR_CMD 15) 4 = true ∧
    base.tmrEven 15 = false ∧ base.tmrOdd 15 = false ∧ base.tmrRun 15 = false ∧ base.tmrArmed 15 = false ∧ base.serves .c0 TMR_GSTART 0x8001 = true ∧
    base.serves .c0 TMR_GSTOP 8 = true ∧ (tmrState 4).tmrMayStop 3 = true ∧ base.tmrMayStop 3 = false ∧ base.tmrMayStart 0 = true ∧
    (base.setRg (TMR_STAT 3) 2).tmrArmed 3 = true ∧ (tmrDue A_COUNT base).actDue A_STOP 3 = false ∧ (tmrState 4).tmrEnds 3 = false ∧
    (tmrState 9).tmrEnds 3 = true ∧ (tmrState 4).lvBit (TMR_CFG 3) 0 = false ∧ base.serves .c0 (TMR_CC 15 1) 7 = true ∧
    (tmrState 4).lvBit (TMR_CCCFG 3 0) 6 = true ∧ (tmrState 4).tmrEdges 3 0 = 0 ∧ (tmrState 4).lvFld (TMR_CCCFG 3 0) 20 8 = 0 ∧
    (tmrState 4).isLevel 555 = false ∧ (tmrDue A_RESET base).actDue A_RESET 3 = true ∧
    ((base.setLv (TMR_CFG 3) 8).tmrOdd 3) = true ∧ ((base.setLv (TMR_CFG 3) 4).lvBit (TMR_CFG 3) 2) = true := by decide +kernel

/-- Timers 2 and 3 in cascade, the even half at its top. -/
def tmrPair (once : Bool) (c : Word) : State :=
  let s := (((base.setRg (TMR_STAT 2) 1).setRg (TMR_STAT 3) 1).setLv (TMR_CFG 3) (if once then 0xC else 8)).setRg (TMR_COUNT 2) 9
  ((s.setLv (TMR_TOP 2) 9).setLv (TMR_TOP 3) 5).setRg (TMR_COUNT 3) c

/-- A cascade at each of its ends, a timer that stops at its top, each output mode, a prescaled capture, and each action due. -/
theorem wit_TimerCases :
    let mode := fun (w : Word) => (tmrState 4).setLv (TMR_CCCFG 3 1) w
    let counted := ((base.setLv (TMR_CCCFG 3 0) 0x100041).setTmrEdges 3 0 0)
    let acts : List (Nat × Nat) → State → State := fun l s => { s with tmr := { s.tmr with acts := l } }
    (tmrPair false 4).tmrEven 2 = true ∧ (tmrPair false 4).tmrHalves 2 = [2, 3] ∧ (tmrPair false 4).tmrOdd 3 = true ∧
    (tmrPair false 4).tmrEnds 2 = true ∧ (tmrPair false 4).tmrEnds 3 = false ∧ (tmrPair false 5).tmrEnds 3 = true ∧
    (tmrPair true 5).lvBit (TMR_CFG 3) 2 = true ∧ (tmrPair true 5).tmrRun 3 = true ∧ (tmrPair true 5).tmrMayStop 2 = true ∧
    ((tmrState 9).setLv (TMR_CFG 3) 4).tmrEnds 3 = true ∧ ((tmrState 9).setLv (TMR_CFG 3) 2).tmrDown 3 = true ∧
    ((tmrState 0).setLv (TMR_CFG 3) 2).tmrEnds 3 = true ∧ (mode 2).lvFld (TMR_CCCFG 3 1) 1 3 = 1 ∧ (mode 8).lvFld (TMR_CCCFG 3 1) 1 3 = 4 ∧
    (mode 2).rg (TMR_CC 3 1) = 5 ∧ ((mode 2).setLv (TMR_TOP 3) 4).lv (TMR_TOP 3) = 4 ∧
    ((tmrState 4).setLv (TMR_CFG 3) 1).lvBit (TMR_CFG 3) 0 = true ∧
    (acts [(A_COUNT, 3)] ((tmrState 4).setLv (TMR_CFG 3) 1)).actDue A_COUNT 3 = true ∧
    (acts [(A_COUNT, 3), (A_RESET, 3)] base).actDue A_RESET 3 = true ∧ (acts [(A_START, 3)] base).actDue A_START 3 = true ∧
    (acts [(A_START, 3), (A_STOP, 3)] base).actDue A_STOP 3 = true ∧ (acts [(A_STOP, 3)] (tmrState 4)).tmrMayStop 3 = true ∧
    (acts [(A_DMA, 3)] base).actDue A_DMA 3 = true ∧ base.actDue A_DMA 3 = false ∧ counted.lvFld (TMR_CCCFG 3 0) 20 8 + 1 = 2 ∧
    counted.tmrEdges 3 0 + 1 < 2 ∧ (counted.setTmrEdges 3 0 1).tmrEdges 3 0 + 1 = 2 ∧ base.lvBit (TMR_CCCFG 3 0) 0 = false ∧
    (tmrDue A_COUNT (base.setRg (TMR_STAT 3) 2)).tmr.due = [3] ∧ (base.setRg SYS_CLKEN 0).bit SYS_CLKEN 6 = false ∧
    (tmrState 4).serves .c0 (TMR_CMD 3) 1 = true ∧ (tmrState 4).serves .c0 (TMR_CMD 3) 4 = true := by decide +kernel

theorem test_cascade : after (.timerStep 2) (tmrPair true 5)
    (fun t => t.rg (TMR_COUNT 2) == 9 && t.rg (TMR_COUNT 3) == 5 && !t.tmrRun 2 && !t.tmrRun 3 && t.pendOf 550 && t.pendOf 553) = true := by
  decide +kernel

theorem test_timer_match : after (.timerStep 3) (tmrState 4)
    (fun t => t.rg (TMR_COUNT 3) == 5 && t.rg (TMR_STAT 3) == 0x401 && t.bit (TMR_OUT 3) 1 && t.pendOf 555) = true := by decide +kernel

theorem test_timer_wraps : after (.timerStep 3) (tmrState 9)
    (fun t => t.rg (TMR_COUNT 3) == 0 && t.rg (TMR_STAT 3) == 0x101 && t.pendOf 553) = true := by decide +kernel

theorem test_capture : after (.captureEdge 3 0 true) ((tmrState 8).setRg (TMR_STAT 3) 0x201)
    (fun t => t.rg (TMR_CC 3 0) == 8 && t.rg (TMR_STAT 3) == 0xA01 && t.pendOf 554) = true := by decide +kernel

/-! ### Converter -/

/-- The converter at entry 1 of a sequence of `last` + 1, with one unread result, entry 1 on channel 17. -/
def adcRunning (last : Word) : State :=
  let s := (base.setRg ADC_STAT 0x10013).setRg ADC_CTL (1 + 256 * last)
  let t := (s.setRg (ADC_SEQ 1) 17).setRg (ADC_RES 0) 0x80030007
  { t with adc := { t.adc with made := 1 } }

theorem wit_Converter : base.serves .c0 ADC_CTL 0xF01 = true ∧ base.adcState = 0 ∧ (adcRunning 2).adcState = 3 ∧ (adcRunning 2).adcUnread = 1 ∧
    base.serves .c0 (ADC_SEQ 15) 0xFF01 = true ∧ base.serves .c0 ADC_CMD 1 = true ∧ (base.setRg ADC_STAT 2).adcReady = true ∧
    base.serves .c0 ADC_CMD 2 = true ∧ base.serves .c0 ADC_CMD 4 = true ∧ base.servesRead .c0 ADC_DATA = true ∧
    ({ base with tmr := { base.tmr with acts := [(A_ADC, 0)] } } : State).actDue A_ADC 0 = true ∧ base.isLevel 594 = false ∧
    (base.setRg ADC_STAT 1).adcState = 1 ∧ (adcRunning 1).fld ADC_CTL 8 4 = 1 ∧ (adcRunning 1).fld ADC_STAT 4 4 = 1 := by decide +kernel

/-- The converter settling, idle and running, its registers written alike and otherwise, a full and an empty buffer, and the end of
a sequence that EN and STOP cut. -/
theorem wit_ConverterCases :
    let stop : State → Word → Bool → State := fun s ctl f => { s.setRg ADC_CTL ctl with adc := { s.adc with stopping := true, fresh := f } }
    let settle := (base.setRg ADC_STAT 1).setRg ADC_CTL 1
    let act : State → State := fun s => { s with tmr := { s.tmr with acts := [(A_ADC, 0)] } }
    settle.serves .c0 ADC_CTL 0 = true ∧ settle.adcState = 1 ∧ bitOf (0 : Word) 0 ≠ settle.bit ADC_CTL 0 ∧
    fieldOf (0 : Word) 8 4 = settle.fld ADC_CTL 8 4 ∧ (adcRunning 2).serves .c0 ADC_CTL 0x200 = true ∧
    bitOf (0x200 : Word) 0 ≠ (adcRunning 2).bit ADC_CTL 0 ∧ fieldOf (0x200 : Word) 8 4 = (adcRunning 2).fld ADC_CTL 8 4 ∧
    fieldOf (0x300 : Word) 8 4 ≠ (adcRunning 2).fld ADC_CTL 8 4 ∧ (adcRunning 2).serves .c0 (ADC_SEQ 3) 0xFF01 = true ∧
    (base.setRg ADC_STAT 2).adcState = 2 ∧ (base.setRg ADC_STAT 2).adcUnread = 0 ∧ (base.setRg ADC_STAT 0x10002).adcUnread = 1 ∧
    (base.setRg ADC_STAT 0x1E0003).adcUnread = 30 ∧ (stop (adcRunning 1) 0x101 false).adcUnread < 31 ∧ (stop (adcRunning 1) 0x101 true).bit ADC_CTL 0 = true ∧
    (stop (adcRunning 1) 0x100 false).bit ADC_CTL 0 = false ∧ (adcRunning 2).fld ADC_STAT 4 4 ≠ (adcRunning 2).fld ADC_CTL 8 4 ∧
    (adcRunning 1).serves .c0 ADC_CMD 2 = true ∧ (act base).bit SYS_CLKEN 7 = true ∧ (act (base.setRg SYS_CLKEN 0)).bit SYS_CLKEN 7 = false ∧
    (act base).adcState = 0 ∧ base.actDue A_ADC 0 = false := by decide +kernel

/-- R470: channel 17 is VSYS through a divider by 3; 3.30 V gives 2,816. -/
theorem test_adc_vsys : after (.adcConversionEnd 3300000) (adcRunning 1)
    (fun t => t.rg (ADC_RES 1) == 0x80110B00 && t.rg ADC_STAT == 0x20012 && t.pendOf 593) = true := by decide +kernel

theorem test_adc_data : after (.adcDataRead .c1) (adcRunning 2) (fun t => t.rdata == 0x80030007 && t.adcUnread == 0) = true := by decide +kernel

/-! ### Pins -/

/-- Pin PC5 in an interrupt mode, its bank supplied. -/
def pinState (mode : Word) : State := (base.setRg (PIN_CFG 2 5) (mode * 4096)).setRg PWR_STAT 0x1F00

theorem wit_Pins : (pinState 1).bit PWR_STAT 10 = true ∧ (pinState 1).powered = true ∧ (pinState 1).pinMode 2 5 = 1 ∧ (pinState 4).pinMode 2 5 = 4 ∧
    (pinState 1).isLevel 677 = false ∧ (pinState 1).bit (GPIO_IN 2) 5 = false ∧ (pinState 0).pinDrive 2 5 = none ∧
    ((pinState 0).setRg (PIN_CFG 2 5) 8).pinDrive 2 5 = some false ∧ ((pinState 4).setRg (ECX_TYPE 21) 0x20).isLevel 677 = true ∧
    base.serves .c0 (GPIO_OUT 4) 1 = true ∧ base.serves .c0 (GPIO_SET 4) 1 = true ∧ base.serves .c0 (GPIO_CLR 4) 1 = true ∧
    base.serves .c0 (GPIO_TGL 4) 1 = true ∧ base.serves .c0 (PIN_CFG 4 31) 0x1000 = true ∧
    (base.setRg (PIN_LOCKED 4) 0x80000000).serves .c0 (PIN_CFG 4 31) 0x1000 = false ∧ base.serves .c0 (PIN_LKMASK 4) 1 = true ∧
    base.serves .c0 (PIN_LKKEY 4) 0xA55A = true ∧ (base.setRg (PIN_LKSTAT 4) 2).fld (PIN_LKSTAT 4) 0 2 = 2 := by decide +kernel

/-- A supply that is off, each interrupt mode, an open-drain output, a timer's output, and each step of the lock. -/
theorem wit_PinCases :
    let od := ((base.setRg (PIN_CFG 2 5) 0x88).setRg (GPIO_OUT 2) 0x20).setRg PWR_STAT 0x1F00
    let tim := fun (w : Word) => (base.setRg (PIN_CFG 2 5) 1).setLv (TMR_CCCFG 10 1) w
    { base with pwr := .off }.powered = false ∧ (base.setRg PWR_STAT 0).bit PWR_STAT 10 = false ∧ (pinState 5).pinMode 2 5 = 5 ∧
    (pinState 3).pinMode 2 5 = 3 ∧ (pinState 2).pinMode 2 5 = 2 ∧ ((pinState 2).setRg (GPIO_IN 2) 0x20).bit (GPIO_IN 2) 5 = true ∧
    od.pinFunc 2 5 = 0 ∧ od.bit (PIN_CFG 2 5) 3 = true ∧ od.bit (PIN_CFG 2 5) 7 = true ∧ od.pwr ≠ .off ∧ (tim 0).pinFunc 2 5 = 1 ∧
    pinTimer 2 5 1 = some (10, 1) ∧ (tim 1).lvBit (TMR_CCCFG 10 1) 0 = true ∧ (tim 0).lvBit (TMR_CCCFG 10 1) 0 = false ∧
    base.serves .c0 (PIN_LKKEY 4) 0x5AA5 = true ∧ base.serves .c0 (PIN_LKKEY 4) 7 = true ∧ (base.setRg (PIN_LKSTAT 4) 1).fld (PIN_LKSTAT 4) 0 2 = 1 ∧
    base.fld (PIN_LKSTAT 4) 0 2 = 0 ∧ ((pinState 4).setRg (ECX_TYPE 21) 0x20).isActive 677 = false := by decide +kernel

theorem test_pad_rises : after (.padChange 2 5 true) (pinState 1) (fun t => t.rg (GPIO_IN 2) == 0x20 && t.pendOf 677) = true := by decide +kernel

theorem test_pin_lock : after (.pinLkkeyWrite .c1 4 0xA55A) (((base.setRg (PIN_LKSTAT 4) 2).setRg (PIN_LKMASK 4) 5).setRg (PIN_LOCKED 4) 8)
    (fun t => t.rg (PIN_LOCKED 4) == 13 && t.rg (PIN_LKSTAT 4) == 0) = true := by decide +kernel

/-! ### Mitten -/

/-- The Mitten one tick before the end of a second. -/
def mitState (sec : Nat) : State := (base.setRtc sec 32767).setRg MIT_SUPPLY 0

def mitWrites (a : Nat) (v : Word) : State := { base with mit := { base.mit with waiting := [⟨a, v, some 3, some 5⟩] } }

theorem wit_Mitten : base.mit.alive = true ∧ base.mit.trim = 0 ∧ base.fld MIT_ADJ 0 16 = 0 ∧ (base.setRg MIT_ADJ 3).fld MIT_ADJ 0 16 = 3 ∧
    ((mitState 9).rg MIT_RTC_SUB).toNat = 32767 ∧ ((mitState 9).setRg (ALM_CTL 1) 0x33F).almMatches 1 (calendar 10) = true ∧
    base.serves .g0 MIT_TCTL 0x80000200 = true ∧ base.serves .g0 MIT_WAKESET 1 = true ∧ (mitWrites (MIT_BKP 31) 7).mit.waiting.length = 1 ∧
    (base.setRg (MIT_TCURVE 1) 5).curveAscends 2 = true ∧ base.curveAscends 2 = false ∧ base.bit MIT_STAT 2 = false ∧
    (base.setRg MIT_STAT 4).bit MIT_STAT 2 = true ∧ (base.setRg (WK_CFG 7) 1).fld (WK_CFG 7) 8 6 = 0 ∧ (base.wkPin 7).level = false := by
  decide +kernel

/-- A tick with a slew due, late and cancelled by the trim, one before the end of a second, each alarm and period, and a cold supply. -/
theorem wit_MittenTicks :
    let mit : State → MitSt → State := fun s m => { s with mit := m }
    let slewing : Word → MitSt → State := fun adj m => mit (base.setRg MIT_ADJ adj) m
    (mit base { base.mit with alive := false }).mit.alive = false ∧ signed 16 ((slewing 3 { base.mit with slewIn := 1 }).fld MIT_ADJ 0 16) = 3 ∧
    (slewing 3 { base.mit with slewIn := 1 }).mit.slewIn ≤ 1 ∧ base.mit.slewIn = 256 ∧
    signed 16 ((slewing 0xFFFD { base.mit with trim := -1 }).fld MIT_ADJ 0 16) < 0 ∧ (slewing 0xFFFD { base.mit with late := true }).mit.late = true ∧
    (base.rg MIT_RTC_SUB).toNat + 1 < 32768 ∧ ((mitState 9).rg MIT_RTC_SUB).toNat + 1 = 32768 ∧
    ((mitState 63).rtcSec + 1) % 64 = 0 ∧ ((mitState 9).setRg MIT_PER 1).fld MIT_PER 0 2 = 1 ∧ ((mitState 59).setRg MIT_PER 2).fld MIT_PER 0 2 = 2 ∧
    (calendar 60).second = 0 ∧ ((mitState 9).setRg (ALM_CTL 0) 0x33F).bit (ALM_CTL 0) 9 = true ∧ (1499 : Word).toNat < 1500 ∧
    signed 13 ((base.setRg MIT_CORR 0x1FFF).fld MIT_CORR 0 13) = -1 := by decide +kernel

/-- Each pending write, the supplies on either side of their thresholds, and a wake pin that takes a level and one that does not. -/
theorem wit_MittenWrites :
    let at_ : Nat → Word → Option MitWrite := fun a v => (mitWrites a v).mit.waiting.find? (fun y => y.addr == (BitVec.ofNat 32 a).toNat)
    let held := fun (a : Nat) (v : Word) => at_ a v = some ⟨a, v, some 3, some 5⟩
    let th := 1600 + 50 * base.fld MIT_SUPPLY 0 5
    let pin := (base.setRg (WK_CFG 7) 0x102)
    held MIT_WAKESET 1 ∧ held MIT_WAKEF 1 ∧ held MIT_PWRON 1 ∧ held MIT_ADJ 5 ∧ held MIT_SET_SEC_HI 1 ∧ held MIT_TCTL 0x80000200 ∧ held MIT_TCTL 1 ∧
    held (MIT_BKP 31) 7 ∧ (regAt (MIT_BKP 31)).isSome = true ∧ base.mit.waiting.find? (fun y => y.addr == MIT_PWRON) = none ∧
    bitOf (0x80000200 : Word) 31 = true ∧ fieldOf (0x80000200 : Word) 8 5 = 2 ∧
    { base with mit := { base.mit with converting := true } }.mit.converting = true ∧ base.mit.converting = false ∧ th ≤ 3000 ∧
    max 3000 th + 100 < (3101 : Word).toNat ∧ (2899 : Word).toNat + 100 < (3000 : Word).toNat ∧ ¬(2900 : Word).toNat + 100 < (3000 : Word).toNat ∧
    pin.fld (WK_CFG 7) 8 6 + 1 = 2 ∧ (pin.wkPin 7).runs + 1 ≤ 2 ∧ pin.fld (WK_CFG 7) 0 2 = 2 ∧ (pin.wkPin 7).last = false ∧
    (base.setRg (WK_CFG 7) 7).bit (WK_CFG 7) 2 = true ∧ base.fld (WK_CFG 7) 0 2 = 0 := by decide +kernel

/-- R500: the tick after 2024-02-28 23:59:59 is Thursday the 29th. -/
theorem test_leap_day : after (.rtcTick 3000) (mitState 0x2D72857F)
    (fun t => t.rg MIT_RTC_CAL0 == 0x04000000 && t.rg MIT_RTC_CAL1 == 0x07E8021D && t.rg MIT_RTC_SUB == 0) = true := by decide +kernel

theorem test_set_time : after (.mitWriteEffect (BitVec.ofNat 32 MIT_SET_SEC_HI) 3000) (mitWrites MIT_SET_SEC_HI 0)
    (fun t => t.rtcSec == 5 && t.rg MIT_RTC_SUB == 3 && t.rg MIT_STAT == 3 && t.bit MIT_EVT 7) = true := by decide +kernel

/-! ### MittenLoss -/

theorem wit_MittenLoss : isMit (MIT_BKP 31) = true ∧ isMit MIT_STAT = true ∧ isMit SYS_CLKEN = false ∧ base.mit.alive = true ∧
    { base with mit := { base.mit with alive := false } }.mit.alive = false := by decide +kernel

theorem test_supply_return : after .mittenSupplyReturn { base.setRg (MIT_BKP 3) 9 with mit := { base.mit with alive := false } }
    (fun t => t.rg (MIT_BKP 3) == 0 && t.rg MIT_STAT == 2) = true := by decide +kernel

/-! ### CanControllers -/

/-- CAN 1 in a state with its counters, heard by an open filter 2. -/
def canBus (st tec rx : Word) : State :=
  let s := ((base.setRg (CAN_STAT 1) (st + 256 * tec + 65536 * rx)).setRg (CAN_FID 1 2) 0x80000000).setRg (CAN_RXCTL 1) 2
  (s.setRg (CAN_RXBASE 1) 0x10000000).setRg (CAN_TXBASE 1) 0x10000200

def canSending : State := ((canBus 1 5 0).setRg (CAN_TXWR 1) 1).setRg (CAN_TXCTL 1) 2

theorem wit_CanControllers : base.serves .c0 (CAN_CMD 1) 1 = true ∧ base.serves .c0 (CAN_CMD 1) 2 = true ∧ base.serves .c0 (CAN_CMD 1) 4 = true ∧
    base.canState 1 = 0 ∧ (canBus 1 0 0).canOn 1 = true ∧ (canBus 3 0 0).canState 1 = 3 ∧ base.bit (CAN_CFG 1) 2 = false ∧
    (List.range 16).find? (fun f => (canBus 1 0 0).canMatch 1 f 7) = some 2 ∧ (List.range 16).find? (fun f => base.canMatch 1 f 7) = none ∧
    (canBus 1 0 0).fld (CAN_RXCTL 1) 0 4 = 2 ∧ (((canBus 1 0 0).setRg (CAN_RXWR 1) 3).canSlots (CAN_RXCTL 1)) = 4 ∧
    ((canBus 1 0 0).writeRun .camera 0x10000000 [1]).2.canRec 1 = 0 ∧ base.serves .c0 (CAN_RXRD 1) 0 = true ∧ base.serves .c0 (CAN_TXWR 1) 0 = true ∧
    canSending.serialWord 0x10000200 = (0, canSending) ∧ canSending.fabReadBytes .camera 0x10000210 0 = ([], canSending) ∧
    (canBus 1 8 9).canTec 1 = 8 ∧ (canBus 2 0xFA 9).canTec 1 + 8 = 258 := by decide +kernel

/-- Each state of a controller, its loopback, retired and REQUAL channel, a full ring, both ends of a pointer's range, and the
counters at their limits. -/
theorem wit_CanCases :
    let can : State → CanSt → State := fun s x => s.setCan 1 x
    let loop := fun (s : State) => s.setRg (CAN_CFG 1) 3
    let requal := base.setRg (FLT_CHSTAT 0x821) 3
    let ring := (canBus 1 0 0).setRg (CAN_RXWR 1) 3
    (can (canBus 1 0 0) { CanSt.blank with stopping := true }).can 1 = { CanSt.blank with stopping := true } ∧
    (can base { CanSt.blank with joining := true }).can 1 = { CanSt.blank with joining := true } ∧
    (can (canBus 3 0 0) { CanSt.blank with recovering := true }).canState 1 = 3 ∧ ((canBus 3 0 0).setRg (CAN_CFG 1) 4).bit (CAN_CFG 1) 2 = true ∧
    (canBus 3 0 0).canOn 1 = false ∧ base.bit SYS_CLKEN 9 = true ∧ (base.setRg SYS_CLKEN 0).bit SYS_CLKEN 9 = false ∧
    requal.chanState 0x821 = 3 ∧ (loop requal).fld (CAN_CFG 1) 0 2 = 3 ∧ requal.serves .c0 (CAN_CMD 1) 1 = true ∧
    (base.setRg (FLT_CHSTAT 0x821) 2).retired 0x821 = true ∧ bitOf (0x80000001 : Word) 31 = true ∧ (canBus 1 0 0).bit (CAN_CFG 1) 3 = false ∧
    (ring.fld (CAN_RXWR 1) 0 10 + 1) % ring.canSlots (CAN_RXCTL 1) = ring.fld (CAN_RXRD 1) 0 10 ∧ ring.canSlots (CAN_RXCTL 1) = 4 ∧
    ring.serves .c0 (CAN_RXRD 1) 3 = true ∧ ring.serves .c0 (CAN_RXRD 1) 4 = true ∧ (3 + 4 - 0 % 4) % 4 ≤ (ring.fld (CAN_RXWR 1) 0 10 + 4 - 0 % 4) % 4 ∧
    canSending.canSlots (CAN_TXCTL 1) = 4 ∧ ¬(0 + 4 - 1 % 4) % 4 ≤ (0 + 4 - canSending.fld (CAN_TXWR 1) 0 10 % 4 - 1) % 4 ∧
    (3 + 4 - 1 % 4) % 4 ≤ (0 + 4 - canSending.fld (CAN_TXWR 1) 0 10 % 4 - 1) % 4 ∧ canSending.fld (CAN_CFG 1) 0 2 ≠ 2 ∧
    (canSending.setRg (CAN_CFG 1) 2).fld (CAN_CFG 1) 0 2 = 2 ∧ canSending.fld (CAN_TXRD 1) 0 10 ≠ canSending.fld (CAN_TXWR 1) 0 10 ∧
    (canBus 1 0 127).canRec 1 = 127 ∧ (canBus 2 0 128).canRec 1 = 128 ∧ (canBus 1 0 1).canRec 1 = 1 ∧
    (∀ f, (List.range 16).find? (fun f => (canBus 1 0 0).canMatch 1 f 0x20000007) = some f → f ≠ 2) := by decide +kernel

theorem test_can_rx : after (.canFrameRx 1 0x123 2 [7, 8]) (canBus 1 0 0)
    (fun t => t.peek 0x10000000 4 == 0x123 && t.peek 0x10000004 4 == 0x202 && t.peek 0x10000010 2 == 0x807 && t.rg (CAN_RXWR 1) == 1 &&
      t.pendOf 772) = true := by decide +kernel

theorem test_can_tx : after (.canTxDone 1) canSending (fun t => t.rg (CAN_TXRD 1) == 1 && t.canTec 1 == 4 && t.pendOf 773) = true := by
  decide +kernel

/-! ### UartAndSmartCard -/

/-- UART 4 enabled for 8 bits in T = 0 (`sc` 1) or as a UART (`sc` 0), its card active, with FIFOs. -/
def uartState (sc : Word) (rx tx : List Nat) : State :=
  let s := ((base.setRg (UART_CFG 4) (3 + 4096 * sc)).setRg (UART_FIFO 4) 0x100002).setRg (UART_STAT 4) 0x2000000
  s.setUart 4 { s.uart 4 with rx := rx, tx := tx }

theorem wit_UartAndSmartCard : base.serves .c0 (UART_CMD 5) 1 = true ∧ base.serves .c0 (UART_CMD 5) 2 = true ∧ base.serves .c0 (UART_CMD 5) 4 = true ∧
    base.serves .c0 (UART_CMD 5) 8 = true ∧ base.serves .c0 (UART_CMD 5) 16 = true ∧ (uartState 1 [] []).uartSc 4 = 1 ∧
    (uartState 1 [] []).scst 4 = 2 ∧ base.scst 4 = 0 ∧ ((base.setRg (UART_STAT 4) 0x1000000).scst 4) = 1 ∧ base.serves .c0 (UART_TXD 5) 9 = true ∧
    base.servesRead .c0 (UART_DATA 5) = true ∧ (uartState 0 (List.replicate 32 1) [5]).uartOn 4 = true ∧
    ((uartState 0 (List.replicate 32 1) [5]).uart 4).rx.length = 32 ∧ (uartState 0 [] []).fld (UART_FIFO 4) 16 16 = 0x10 ∧
    (uartState 0 [] []).bit (UART_CFG 4) 9 = false ∧ base.fld (SC_RETRY 4) 0 3 = 4 ∧ base.uartOn 4 = false := by decide +kernel

/-- Cards in each state, characters that arrive and leave in each mode, FIFOs at their limits, and the timeouts. -/
theorem wit_UartCases :
    let uart : State → (UartSt → UartSt) → State := fun s f => s.setUart 4 (f (s.uart 4))
    let wait := ((base.setRg (UART_CFG 4) 0x1003).setRg (UART_STAT 4) 0x1000000)
    let full := uartState 0 (List.replicate 32 1) (List.replicate 32 1)
    wait.scst 4 = 1 ∧ wait.uartSc 4 = 1 ∧ (uart wait (fun x => { x with scRst := true })).scst 4 = 1 ∧
    ((uart wait (fun x => { x with scRst := true })).uart 4).scRst = true ∧ (wait.uart 4).scRst = false ∧
    (uartState 1 [] []).scst 4 = 2 ∧ ((uartState 1 [] []).uart 4).tx = [] ∧ ((uartState 1 [] [5]).uart 4).tx = [5] ∧
    full.serves .c0 (UART_TXD 4) 9 = true ∧ (full.uart 4).tx.length = 32 ∧ (uartState 0 [] (List.replicate 31 1)).serves .c0 (UART_TXD 4) 9 = true ∧
    full.servesRead .c0 (UART_DATA 4) = true ∧ ((full.setRg (UART_CFG 4) 0x83).bit (UART_CFG 4) 7) = true ∧
    (full.setRg (UART_CFG 4) 0x83).bit (UART_CFG 4) 8 = false ∧ full.bit (UART_STAT 4) 16 = false ∧ full.bit (UART_CFG 4) 7 = false ∧
    ((uartState 0 [7] []).uart 4).rx.length + 1 = (uartState 0 [7] []).fld (UART_FIFO 4) 0 5 ∧ ((uartState 0 (List.replicate 31 1) []).uart 4).rx.length < 32 ∧
    (uart (uartState 1 [] [5]) (fun x => { x with tries := 4 })).fld (SC_RETRY 4) 0 3 = 4 ∧
    (uart (uartState 1 [] [5]) (fun x => { x with halted := true })).uartOn 4 = true ∧ (uartState 0 [] []).fld (UART_FIFO 4) 8 5 = 0 ∧
    (uartState 0 [7] []).fld (UART_FIFO 4) 16 16 ≠ 0 ∧ base.fld (UART_FIFO 4) 16 16 = 0 ∧ (full.setRg (UART_CFG 4) 0x203).ctsLine 4 = true := by
  decide +kernel

theorem test_uart_rx : after (.uartCharRx 4 0x141 true false false) (uartState 0 [7] [])
    (fun t => (t.uart 4).rx == [7, 0x241] && t.fld (UART_STAT 4) 0 6 == 2 && t.pendOf 788) = true := by decide +kernel

theorem test_card_repeat : after (.uartCharTx 4 true) (uartState 1 [] [0x55])
    (fun t => (t.uart 4).tx == [0x55] && (t.uart 4).tries == 1 && !t.bit (UART_EVT 4) 2) = true := by decide +kernel

/-! ### SpiI2cAndPps -/

def spiState (tx : List Word) : State :=
  let s := (base.setRg (SPI_XFER 2) 2).setRg (SPI_CFG 2) 0x71
  s.setSpi 2 { s.spi 2 with tx := tx }

def i2cState (nw nr : Word) (f : List Byte) : State :=
  let s := base.setRg (I2C_XACT 1) (256 * nw + 65536 * nr)
  s.setI2c 1 { s.i2c 1 with fifo := f }

theorem wit_SpiI2cAndPps : base.serves .c0 (SPI_CMD 3) 1 = true ∧ base.serves .c0 (SPI_CMD 3) 2 = true ∧ (spiState []).fld (SPI_XFER 2) 0 16 = 2 ∧
    base.spiBusy 2 = false ∧ ((base.setRg (SPI_STAT 2) 1).spiBusy 2) = true ∧ base.serves .c0 OSPI_CMD 1 = true ∧ base.serves .c0 OSPI_CMD 2 = true ∧
    base.ospiBad = false ∧ (base.setRg OSPI_ICMD 0xC00000).ospiBad = true ∧ (base.setRg OSPI_ICMD 0x400000).fld OSPI_ICMD 22 2 = 1 ∧
    regionOf 0x30000044 = some .xip ∧ (((base.setRg OSPI_XCTL 1).setRg OSPI_CFG 1).judge .c0 0x30000044 false .word 0).isNone = true ∧
    (base.judge .link 0x30000044 false .word 0).isSome = true ∧ base.serves .c0 (I2C_CMD 1) 1 = true ∧ base.serves .c0 (I2C_CMD 1) 2 = true ∧
    base.serves .c0 (I2C_CMD 1) 4 = true ∧ (i2cState 1 0 [9]).fld (I2C_XACT 1) 8 8 = 1 ∧ base.i2cMayEnd 1 1 = true ∧
    ((base.setRg PPS_CFG 1).setRg (PIN_CFG 1 15) 1).pinFunc 1 15 = 1 ∧ base.pps.lost = false := by decide +kernel

/-- Transfers that run, end and wait; a command of each direction; lines of the XIP window held and not; and each end of an I2C
transaction and of the snapshot unit. -/
theorem wit_SerialCases :
    let spi : (SpiSt → SpiSt) → State := fun f => (base.setRg (SPI_STAT 2) 1).setSpi 2 (f ((base.spi 2)))
    let ospi : OspiSt → State := fun o => { base.setRg OSPI_STAT 1 with ospi := o }
    let xip := (base.setRg OSPI_XCTL 1).setRg OSPI_CFG 1
    let held : State := { xip with ospi := { xip.ospi with line := some (0x30000044 / 64, List.replicate 64 7) } }
    let i2c : (I2cSt → I2cSt) → State := fun f => (base.setRg (I2C_STAT 1) 1).setI2c 1 (f (base.i2c 1))
    let pps := ((base.setRg PPS_CFG 1).setRg (PIN_CFG 1 15) 1)
    (spi id).serves .c0 (SPI_CMD 2) 1 = true ∧ (spi id).spiBusy 2 = true ∧ ((spi id).spi 2).left = 0 ∧
    ((spi (fun x => { x with left := 1 })).spi 2).left ≠ 0 ∧ ((spi (fun x => { x with left := 1 })).spi 2).aborting = false ∧
    ((spi (fun x => { x with left := 1, aborting := true })).spi 2).aborting = true ∧ base.fld (SPI_XFER 2) 0 16 = 0 ∧ base.serves .c0 (SPI_CMD 2) 1 = true ∧
    (spi id).isLevel 798 = false ∧ (ospi OspiSt.blank).ospiBusy = true ∧ (ospi OspiSt.blank).serves .c0 OSPI_CMD 1 = true ∧
    (ospi OspiSt.blank).serves .c0 OSPI_CMD 2 = true ∧ base.fld OSPI_ICMD 22 2 = 0 ∧ (base.setRg OSPI_ICMD 0x800000).fld OSPI_ICMD 22 2 = 2 ∧
    (base.setRg OSPI_ICMD 0x800000).ospiBad = false ∧ (ospi { OspiSt.blank with left := 1 }).ospi.left ≠ 0 ∧ xip.powered = true ∧
    (xip.judge .c0 0x30000044 false (Size.ofCode 1) 0) = none ∧ xip.ospi.line = none ∧ held.ospi.line = some (0x30000044 / 64, List.replicate 64 7) ∧
    (held.judge .c0 0x30000044 false (Size.ofCode 1) 0) = none ∧ regionOf 0x2FFFFFFF ≠ some .xip ∧
    (i2c id).i2cBusy 1 = true ∧ (i2c id).serves .c0 (I2C_CMD 1) 1 = true ∧ (i2c id).serves .c0 (I2C_CMD 1) 2 = true ∧ (i2c id).serves .c0 (I2C_CMD 1) 4 = true ∧
    (i2c id).i2cMayEnd 1 0 = true ∧ (i2c (fun y => { y with wleft := 1 })).i2cMayEnd 1 0 = false ∧ (i2c id).i2cMayEnd 1 5 = false ∧
    (i2c (fun y => { y with recovering := true })).i2cMayEnd 1 5 = true ∧ (i2cState 0 0 []).fld (I2C_XACT 1) 16 8 = 0 ∧
    (i2cState 2 3 (List.replicate 16 9)).serves .c0 (I2C_CMD 1) 1 = true ∧ ((i2cState 2 3 (List.replicate 16 9)).i2c 1).fifo.length ≤ 16 ∧
    pps.bit SYS_CLKEN 17 = true ∧ pps.bit PPS_CFG 0 = true ∧ pps.bit PPS_CFG 1 = false ∧ base.bit PPS_CFG 0 = false ∧
    { pps with pps := { unread := true, lost := true } }.pps.lost = true := by decide +kernel

theorem test_spi_word : after (.spiStart .c0 1 [0x1A5, 3]) (spiState [0xF0F])
    (fun t => (t.spi 2).rx == [0xA5] && (t.spi 2).mosi == [0x0F] && (t.spi 2).left == 1 && t.spiBusy 2) = true := by decide +kernel

theorem test_i2c_read : after (.i2cStart .c0 1 [0x5A]) (i2cState 0 1 [])
    (fun t => (t.i2c 1).fifo == [0x5A] && t.fld (I2C_STAT 1) 8 8 == 1 && t.bit (I2C_STAT 1) 0) = true := by decide +kernel

theorem test_xip : after (.xipRead .c0 0x30000044 1 ((List.range 64).map (fun k => BitVec.ofNat 8 k)))
    ((base.setRg OSPI_XCTL 1).setRg OSPI_CFG 1) (fun t => t.rdata == 0x504) = true := by decide +kernel

/-! ### Resets -/

/-- A RESET frame for this device's UID, in any device. -/
def resetFrame (d : BitVec 64) : Llp := linkFrame 4 0 15 (beBytes 8 d.toNat ++ [0, 0, 0, 1])

def inGrace (s : State) : State := { s with gnt := { s.gnt with wdgGrace := some 3 } }

def resetNode : State :=
  let s := (ledgerNode 0 3).setRg LNK_RSTAUTH 1
  s.setLnk { s.lnk with hasLead := true }

/-- Some frame names this device's UID, whichever it is. -/
theorem wit_resetUid (d : BitVec 64) : fieldAt (frameOf (resetFrame d) 12).payload 0 8 = d.toNat := by
  have h := d.isLt
  simp [fieldAt, frameOf, resetFrame, linkFrame, beBytes, leBytes, ofBe, List.range, List.range.loop, Nat.shiftRight_eq_div_pow]
  omega

theorem wit_Resets : base.pwr ≠ .off ∧ ({ base with pwr := .off } : State).pwr = .off ∧
    (inGrace base).gnt.wdgGrace = some 3 ∧ base.gnt.wdgGrace = none ∧ base.powered = true ∧
    ({ base with pwr := .park } : State).powered = false ∧ base.serves .g0 PWR_SWRST 0x5A3C = true ∧ base.serves .g0 PWR_SWRST 1 = true ∧
    ((ledgerNode 0 3).receive 0 (frameOf (resetFrame 5) 12)).deliver = true ∧ (ledgerNode 0 3).bit LNK_RSTAUTH 0 = false ∧
    (let r := resetNode.receive 0 (frameOf (resetFrame 5) 12)
     r.deliver = true ∧ r.st.bit LNK_RSTAUTH 0 = true ∧ r.st.lnk.hasLead = true ∧ r.st.leadId = 0 ∧ resetNode.ldg.nv.term = 1 ∧ fieldAt (resetFrame 5).payload 8 4 = 1) ∧
    (base.setRg MIT_WAKEF 2).wakeFlag = true ∧ base.wakeFlag = false ∧ base.lnk.wakeAsked = false ∧ keepsReg 4 (PIN_CFG 0 3) = true ∧
    keepsByte 3 0x10000000 = true ∧ base.ms.programming = [] ∧ ({ base with pwr := .park } : State).lnk.wakeAsked = false ∧
    ({ base.setRg MIT_WAKEF 2 with pwr := .park } : State).wakeFlag = true ∧ regionOf (GPIO_OUT 0) ≠ some (.periph 3) := by decide +kernel

theorem test_watchdog_reset : after .wdgGraceEnd (inGrace (((base.setRg (PIN_CFG 1 2) 8).setRg (SYS_CENTRY 0) 4).pokeBytes 0x10000000 [9]))
    (fun t => t.rg PWR_RSTCAUSE == 0x100004 && t.rg (PIN_CFG 1 2) == 8 && t.rg (SYS_CENTRY 0) == 0 && t.fld FLT_CAUSE 0 4 == 3 &&
      t.byteAt 0x10000000 == 9 && t.rg SYS_CLKEN == 0) = true := by decide +kernel

theorem test_sw_reset_key : after (.swReset .g0 0x5A3D) base (fun t => t.rg PWR_CMDST == 3 && t.rg PWR_REJECT == 1 && t.rg PWR_RSTCAUSE == 1) = true := by
  decide +kernel

/-! ### PowerStates -/

theorem wit_PowerStates :
    (base.setRg PWR_CTL 1).bit PWR_CTL 0 = true ∧ base.pwr = .run ∧ allCores.all (fun c => (base.core c).stopped) = true ∧
    (running .c1 1 []).c1.stopped = false ∧ base.serves .g0 PWR_CMD 0x10005041 = true ∧ base.serves .g0 PWR_CMD 0x20005041 = true ∧
    (base.setRg BEAT_STAT 8).bit BEAT_STAT 3 = true ∧ base.bit BEAT_STAT 3 = false ∧ (base.setRg MIT_PWRON 0).bit MIT_PWRON 0 = false ∧
    base.wakeFlag = false ∧ (base.setRg MIT_WAKEF 1).wakeFlag = true ∧ base.ldgStill = true ∧ (base.setRg PWR_STAT 16).ldgStill = false ∧
    (base.setRg LDG_STAT 0x100).bit LDG_STAT 8 = true ∧ (base.setRg PWR_PFW 0x80000008).bit PWR_PFW 31 = true ∧
    (base.setRg PWR_PFW 0x80000008).vPfw = 2400 ∧ (base.setRg LDG_STAT 2).ldgState = 2 ∧ base.isLevel 19 = false := by decide +kernel

/-- Each power state, and the warnings at their thresholds. -/
theorem wit_PowerCases :
    let at_ : PwrState → State := fun p => { base with pwr := p }
    let warned := (base.setRg PWR_PFW 0x80000000).setRg PWR_STAT 16
    (at_ .toPark).ldgStill = true ∧ (at_ .toOff).bit LDG_STAT 8 = false ∧ ({ base.setRg LDG_STAT 0x100 with pwr := .toOff } : State).bit LDG_STAT 8 = true ∧
    (at_ .off).powered = false ∧ (at_ .doze).pwr ≠ .run ∧ base.bit PWR_CTL 0 = false ∧ base.serves .g0 PWR_CMD 0x10000000 = true ∧
    base.serves .g0 PWR_CMD 0x20000000 = true ∧ (base.setRg BEAT_STAT 8).serves .g0 PWR_CMD 0x10005041 = true ∧
    (base.setRg MIT_PWRON 1).bit MIT_PWRON 0 = true ∧ base.bit PWR_STAT 4 = false ∧ warned.bit PWR_STAT 4 = true ∧ warned.powered = true ∧
    (1999 : Word).toNat < 2000 + 50 * warned.fld PWR_PFW 0 5 ∧ 2050 + 50 * warned.fld PWR_PFW 0 5 < (2051 : Word).toNat ∧
    (base.setRg PWR_PFW 8).bit PWR_PFW 31 = false ∧ base.isLevel 18 = false ∧ base.isLevel 21 = false ∧ base.isLevel 22 = false := by decide +kernel

theorem test_park : after (.pwrPark .g0 0x5041) (running .c1 1 []) (fun t => t.pwr == .toPark && t.c1.run == .held) = true := by decide +kernel

theorem test_pfw : after (.pfwRise 2399) ((base.setRg PWR_PFW 0x80000008).setRg LDG_STAT 2)
    (fun t => t.bit PWR_STAT 4 && t.pendOf 18 && t.ldgState == 3) = true := by decide +kernel

/-! ### Boot -/

/-- C0 in the boot ROM. -/
def inRom (sel : Word) : State := { base.setRg BOOT_STAT sel with c0 := { base.c0 with run := .running } }

theorem wit_Boot : base.c0.run = .held ∧ base.bit BOOT_STAT 10 = false ∧ base.pwr = .run ∧ (base.setRg BOOT_STAT 4).fld BOOT_STAT 0 3 = 4 ∧
    base.inBoot = false ∧ (inRom 1).inBoot = true ∧ (inRom 1).nextCopy = some 2 ∧ ((inRom 0x10001).bootErr 1).nextCopy = none ∧
    ((inRom 1).bootErr 1).nextCopy = some 3 ∧ ((inRom 1).checkBundle (List.replicate 256 0) false).1 = 2 ∧ base.serves .c0 SYS_CSTART 4 = true ∧
    bitsSet 4 4 = [2] ∧ base.started 2 = false ∧ (base.setRg (SYS_CENTRY 2) 0x10000040).centry 2 % 4 = 0 ∧ appMayFetch 0x10000040 = true ∧
    appMayFetch 0x40000000 = false ∧ (base.setRg SYS_CRUN 4).started 2 = true ∧ base.serves .g0 BOOT_CMD 0x10030007 = true ∧ base.arb 3 = 0 ∧
    (base.pokeBytes 0x181F0018 [9]).arb 3 = 9 ∧ base.serves .g0 BOOT_CMD 0x20010000 = true ∧ base.rootZero 1 = true ∧
    (base.pokeBytes 0x181F00A0 [1]).rootZero 1 = false := by decide +kernel

/-- A device record with ID 7 and MGR `m` (R545). -/
def withRecord (m : Byte) (s : State) : State :=
  let l : List Byte := leBytes 4 0x52444544 ++ [7, m, 0, 0, 0, 0, 0, 0]
  s.pokeBytes 0x181F0100 (l ++ leBytes 4 (crc32 (l.map (fun b => b.toNat))))

/-- The copies of each BOOTSEL, the device record present, absent and of a manager, a copy over the link, cores named, started and with
illegal starts, and boot records at their limits. -/
theorem wit_BootCases :
    let held := fun (sel : Word) => base.setRg BOOT_STAT sel
    let locked := (base.pokeBytes 0x181F0080 [1]).pokeBytes 0x181F00A0 [1]
    (held 3).c0.run = .held ∧ (held 3).fld BOOT_STAT 0 3 = 3 ∧ (held 3).nextCopy = some 0 ∧ (held 0x20003).nextCopy = some 4 ∧
    (held 0x30003).nextCopy = none ∧ (held 2).nextCopy = some 4 ∧ (held 2).deviceRecord = none ∧ (withRecord 0 (held 2)).deviceRecord = some (7, false) ∧
    (withRecord 1 (held 2)).deviceRecord = some (7, true) ∧ (inRom 2).inBoot = true ∧ (inRom 2).nextCopy = some 4 ∧
    (inRom 2).stagedBundle.1 = some [] ∧ ((inRom 2).checkBundle [] true).1 = 1 ∧
    ((inRom 2).setEcc (stagingBase + 8) (some .uncorrectable)).stagedBundle.1 = none ∧ (inRom 0x20001).nextCopy = none ∧
    bitOf (4 : Word) 2 = true ∧ bitOf (4 : Word) 1 = false ∧ base.serves .c0 SYS_CSTART 5 = true ∧ base.serves .c0 SYS_CSTART 0 = true ∧
    base.centry 2 = 0 ∧ appMayFetch 0x40000000 = false ∧ (base.setRg (SYS_CENTRY 2) 0x10000042).centry 2 % 4 = 2 ∧
    base.serves .g0 BOOT_CMD 0x100F0000 = true ∧ (base.arbRead 15).1 = 0 ∧ ((base.pokeBytes 0x181F0018 [9]).arbRead 3).1 = 9 ∧
    ((base.recordSeen 0x181F0018 0x181F0020).mramWord 0x181F0018) = some 0 ∧ base.serves .g0 BOOT_CMD 0x20020000 = true ∧
    locked.lifeOpen = false ∧ (locked.recordSeen (rootAddr 1) (rootAddr 2)).rootZero 1 = false ∧ (base.recordSeen (rootAddr 1) (rootAddr 2)).rootZero 1 = true := by
  decide +kernel

/-- An image of kind `k` for `dest`, of one segment of four bytes, signed by `sig` under the key whose point is P-256's base point. -/
def bootImage (k dest gen : Nat) (sig : Nat) : List Byte :=
  let key := p256g.getD (0, 0)
  leBytes 4 0x4E494D47 ++ leBytes 4 (k + 0x100100) ++ leBytes 4 0x150 ++ leBytes 4 1 ++ leBytes 4 0 ++ leBytes 4 dest ++ leBytes 4 gen ++
    leBytes 4 0 ++ beBytes 32 key.1 ++ beBytes 32 key.2 ++ List.replicate 32 0 ++ leBytes 4 dest ++ leBytes 4 4 ++ leBytes 4 0x100 ++
    List.replicate 116 0 ++ [1, 2, 3, 4] ++ List.replicate 12 0 ++ beBytes 32 (key.1 % p256n) ++ beBytes 32 sig

def bootGnt : List Byte := bootImage 1 0x10000000 0 0x5D1E3A266B39B3E2DF34A5506225AD9E18DF8EB9CF8AB05B5AF583C9D56CDA16
def bootApp : List Byte := bootImage 2 0x10000100 1 0x39C37A55AC6B2D0EEBFDF4E5A6C3E011F73DE6936035A303AD113DCB59EA09FC

/-- Both images of a bundle, the second at a multiple of 4,096 (R538). -/
def bootBundle : List Byte := bootGnt ++ List.replicate 3760 0 ++ bootApp

theorem wit_gntSigned : imgSigOk bootBundle = true := by decide +kernel

theorem wit_appSigned : imgSigOk bootApp = true := by decide +kernel

/-- An image that meets each step of R541 ends with ERR 0, its segments placed and decrypted. -/
theorem checkImage_passes (s0 : State) (img : List Byte) (k : Nat) (other : List (Nat × Nat)) (link : Bool) (hs : imgSigOk img = true) :
    let s := s0.recordSeen (rootAddr 0) (rootAddr 2)
    let w := imgField img 0x10 4
    let t := (s.placeSegs img).recordSeen (0x181F0000 + 8 * (w % 16)) (0x181F0008 + 8 * (w % 16))
    ¬(img.length < 256 ∨ img.length < imgLen img) → imgFormatOk img k = true → s.rootOk img k = true →
    ¬(t.eccAt (0x181F0000 + 8 * (w % 16)) = some .uncorrectable ∨ w / 65536 < t.arb (w % 16)) → destOk img k other link = true →
    ((imgSegs img).any (fun g => g.enc)) = false → s0.checkImage img k other link = (0, t.decryptSegs img) := by
  intro s w t h1 h2 h3 h5 h6 h7
  simp only [State.checkImage, h1, h2, hs, h6, h7, if_false, Bool.not_true, Bool.false_and, Bool.false_eq_true]
  rw [h3]
  simp only [Bool.not_true, Bool.false_eq_true, if_false]
  exact if_neg h5

/-- Two images that pass make a bundle that passes. -/
theorem checkBundle_passes (s t u : State) (b app : List Byte) (link : Bool) (ha : b.drop (roundUp (imgLen b) 4096) = app)
    (h1 : s.checkImage b 1 [] link = (0, t)) (h2 : t.checkImage app 2 (imgSpans b) link = (0, u)) : s.checkBundle b link = (0, u) := by
  simp only [State.checkBundle, ha, h1, h2]

/-- A bundle that passes every check of R541, from flash in lifecycle OPEN. -/
theorem wit_bundlePasses : ∃ u, (inRom 1).checkBundle bootBundle false = (0, u) :=
  ⟨_, checkBundle_passes _ _ _ _ bootApp _ (by decide +kernel)
    (checkImage_passes _ bootBundle 1 [] false wit_gntSigned (by decide +kernel) (by decide +kernel) (by decide +kernel) (by decide +kernel)
      (by decide +kernel) (by decide +kernel))
    (checkImage_passes _ bootApp 2 _ false wit_appSigned (by decide +kernel) (by decide +kernel) (by decide +kernel) (by decide +kernel)
      (by decide +kernel) (by decide +kernel))⟩

theorem test_core_starts : after (.sysCstart .c0 4) (base.setRg (SYS_CENTRY 2) 0x10000040)
    (fun t => t.c2.run == .running && t.c2.pc == 0x10000040 && t.rg SYS_CRUN == 4) = true := by decide +kernel

theorem test_last_copy_fails : after (.bootHandover (some (List.replicate 256 0)) 2) (inRom 0x10001)
    (fun t => t.rg BOOT_STAT == 0x22001 && t.c0.run == .idleLoop) = true := by decide +kernel

theorem test_advance : after (.bootAdvance .g0 3 0x107) base (fun t => t.peek 0x181F0018 8 == 0x107 && t.pendOf 24) = true := by decide +kernel

/-! ### BlitterEvent -/

theorem wit_BlitterEvent : (bltAt 1 [0x20011]).bltState = 1 ∧ (bltAt 1 [0x20011]).bit SYS_CLKEN 1 = true ∧ (bltDecode [0x20011]).op = 0x11 ∧
    (bltDecode [0x20011]).ok = true ∧ (bltDecode [0x20011]).rop % 4 = 2 ∧ (bltAt 1 [0x20011]).blt.cut = false ∧
    (bltAt 1 [0x20011]).isLevel 302 = false := by decide +kernel

/-! ### StepTakesFront -/

theorem wit_StepTakesFront : ({ base with pending := [.bltNop] } : State).pending = [Instr.bltNop] ∧ base.pending = [] := by decide +kernel

theorem test_step : (match step { base with pending := [.gpioOutWrite .c0 1 5, .bltNop] } with
    | .next t => t.pending == [.bltNop] && t.rg (GPIO_OUT 1) == 5
    | _ => false) = true := by decide +kernel

/-! ### ResetState -/

theorem test_reset : State.reset.maskOf 1019 = true ∧ State.reset.pinMode 4 31 = 0 ∧ State.reset.fld (PIN_CFG 4 31) 4 2 = 1 ∧
    State.reset.canonical = true := by decide +kernel

/-! ### EncodeDecode -/

theorem wit_EncodeDecode : (Instr.li .c2 8 936000).wellFormed = true ∧ encodeRyux (.li .c2 8 936000) = some (.c2, 0x3A0E4840) ∧
    decodeRyux .c0 0 = none ∧ decodeRyux .g0 0xFFFFFFFF = none := by decide +kernel

/-! Words written out from the tables of spec/04: major opcode in [31:26], d in [25:22], s in [21:18], t in [17:14], F in [13]. -/

/-- R109: SUB g3, g4, g5 with F. -/
theorem test_word_sub : decodeRyux .c0 (0b000001_0011_0100_0101_1_0000000_000001#32) = some (.sub .c0 3 4 5 true) := by decide +kernel
/-- R113: PADDUS g1, g2, g3. -/
theorem test_word_paddus : decodeRyux .c1 (0b000010_0001_0010_0011_0_0000000_000100#32) = some (.paddus .c1 1 2 3) := by decide +kernel
/-- R114: MULHU g15, g1, g2. -/
theorem test_word_mulhu : decodeRyux .c2 (0b000011_1111_0001_0010_0_0000000_000010#32) = some (.mulhu .c2 15 1 2) := by decide +kernel
/-- R109: ADDI g7, g8, −2. -/
theorem test_word_addi : decodeRyux .c3 (0b000100_0111_1000_111111111111111110#32) = some (.addi .c3 7 8 0x3FFFE) := by decide +kernel
/-- R118: LDHUP g1, [g2], 4 and STW g3, [g4 + 8]. -/
theorem test_word_memory : decodeRyux .g0 (0b011011_0001_0010_000000000000000100#32) = some (.ldhup .g0 1 2 4) ∧
    decodeRyux .g0 (0b010111_0011_0100_000000000000001000#32) = some (.stw .g0 3 4 8) := by decide +kernel
/-- R119: BLTU and J. -/
theorem test_word_branch : decodeRyux .c0 (0b100100_0001_0010_000000000000000011#32) = some (.bltu .c0 1 2 3) ∧
    decodeRyux .c0 (0b100111_11111111111111111111111111#32) = some (.j .c0 0x3FFFFFF) := by decide +kernel
/-- R121, R122, R123: STC, CTLR c13, TRAP 9. -/
theorem test_word_system : decodeRyux .c0 (0b101010_0010_0001_0011_0_0000000_000001#32) = some (.stc .c0 2 3 1) ∧
    decodeRyux .c0 (0b101011_0101_0000_000000000000_001101#32) = some (.ctlr .c0 5 13) ∧
    decodeRyux .c0 (0b101101_0000_0000_1001_0_0000000_000010#32) = some (.trap .c0 9) := by decide +kernel
/-- R124, and the words of the manual's own example: WBEATN g10, g8; POST g0, g1, g2. -/
theorem test_word_beat : decodeRyux .c0 0xBAA00005 = some (.wbeatn .c0 10 8) ∧ decodeRyux .c0 0x3A400000 = some (.li .c0 9 0) ∧
    decodeRyux .c0 (0b101110_0000_0000_0000_0_0000000_000010#32) = some (.done .c0 0 0) := by decide +kernel

/-! A term that each check of `Instr.wellFormed` refuses. -/

theorem test_ill_formed : (Instr.take .c0 3).wellFormed = false ∧ (Instr.slot .c0 5).wellFormed = false ∧
    (Instr.wbeatn .c0 1 7).wellFormed = false ∧ (Instr.bc .c0 15 0).wellFormed = false ∧ (Instr.ctlw .c0 19 1).wellFormed = false ∧
    (Instr.undefinedWord .c0 0x3A400000).wellFormed = false := by decide +kernel

end Sys2Proof.Tests
end

section
/-! SUPPORT. Reads and writes over the fabric, said once: the bytes that a store leaves, how an access to SRAM or to a register is
judged and served, what an error response changes, and the words of a multi-word register (spec/00 R8, spec/01 R14 to R29). -/

namespace Sys2Proof.Machine

variable (s : State)

/-! ### Bytes stored and read back (R6) -/

theorem ofLe_bytesFrom (n v k : Nat) :
    ofLe ((List.range' k n).map (fun i => BitVec.ofNat 8 (v >>> (8 * i)))) = (v >>> (8 * k)) % 256 ^ n := by
  induction n generalizing k with
  | zero => simp [ofLe, Nat.mod_one]
  | succ n ih =>
    have hshift : v >>> (8 * (k + 1)) = v >>> (8 * k) / 256 := by
      rw [Nat.mul_succ, Nat.shiftRight_add, Nat.shiftRight_eq_div_pow _ 8]
    have htail := ih (k + 1)
    rw [hshift] at htail
    simp only [ofLe] at htail
    have hsplit : v >>> (8 * k) % 256 ^ (n + 1) = v >>> (8 * k) % 256 + 256 * (v >>> (8 * k) / 256 % 256 ^ n) := by
      rw [Nat.pow_succ', Nat.mod_mul]
    rw [hsplit]
    simp only [List.range'_succ, List.map_cons, ofLe, List.foldr_cons, htail, BitVec.toNat_ofNat]

/-- The bytes of a number give back the number, modulo what they hold. -/
theorem ofLe_leBytes (n v : Nat) : ofLe (leBytes n v) = v % 256 ^ n := by
  simpa [leBytes, List.range_eq_range'] using ofLe_bytesFrom n v 0

@[simp] theorem length_leBytes (n v : Nat) : (leBytes n v).length = n := by simp [leBytes]

/-- A run of stored bytes reads back as it was stored. -/
theorem bytes_pokeBytes (p : Nat) (l : List Byte) :
    (List.range' p l.length).map (s.pokeBytes p l).byteAt = l := by
  induction l generalizing s p with
  | nil => rfl
  | cons b l ih =>
    have hfirst : ((s.setByte p b).pokeBytes (p + 1) l).byteAt p = b := by
      rw [byteAt_pokeBytes_below _ _ _ _ (Nat.lt_succ_self p), byteAt_setByte, if_pos rfl]
    simp only [List.length_cons, List.range'_succ, List.map_cons, State.pokeBytes, hfirst, ih]

/-- A number stored at an address reads back from it. -/
theorem peek_poke (p n v : Nat) : (s.poke p n v).peek p n = v % 256 ^ n := by
  have hbytes := bytes_pokeBytes s p (leBytes n v)
  rw [length_leBytes] at hbytes
  rw [← ofLe_leBytes, State.peek, State.poke]
  conv_rhs => rw [← hbytes]
  rw [List.range'_eq_map_range, List.map_map]
  rfl

theorem byteAt_poke_outside (p q n v : Nat) (h : ¬(p ≤ q ∧ q < p + n)) : (s.poke p n v).byteAt q = s.byteAt q :=
  byteAt_pokeBytes_outside s p q _ (by rw [length_leBytes]; omega)

@[simp] theorem regs_pokeBytes (p : Nat) (l : List Byte) : (s.pokeBytes p l).regs = s.regs := by
  induction l generalizing s p with
  | nil => rfl
  | cons b l ih => exact ih (s.setByte p b) (p + 1)

@[simp] theorem regs_poke (p n v : Nat) : (s.poke p n v).regs = s.regs := regs_pokeBytes s p _
@[simp] theorem regs_setEcc (w : Nat) (m : Option EccMark) : (s.setEcc w m).regs = s.regs := rfl
@[simp] theorem mem_setEcc (w : Nat) (m : Option EccMark) : (s.setEcc w m).mem = s.mem := rfl

/-- Memory read through a state that has the same bytes. -/
theorem byteAt_congr {s t : State} (h : t.mem = s.mem) (p : Nat) : t.byteAt p = s.byteAt p := by simp [State.byteAt, h]

theorem peek_congr {s t : State} (h : t.mem = s.mem) (p n : Nat) : t.peek p n = s.peek p n := by
  simp [State.peek, byteAt_congr h]

/-! ### Reservations (R100) -/

/-- A write's effect on reservations is one update of a core after the other, so what every update of a core keeps, it keeps. -/
theorem breakReservations_keeps {α : Type} (f : State → α) (hf : ∀ (t : State) (c : CoreId) (k : Core), f (t.setCore c k) = f t)
    (by_ : Option CoreId) (a n : Nat) : f (s.breakReservations by_ a n) = f s := by
  unfold State.breakReservations
  induction allCores generalizing s with
  | nil => rfl
  | cons c l ih =>
    rw [List.foldl_cons, ih]
    split
    · rfl
    · split
      · rfl
      · split
        · exact hf _ _ _
        · rfl

@[simp] theorem regs_breakReservations (by_ : Option CoreId) (a n : Nat) : (s.breakReservations by_ a n).regs = s.regs :=
  breakReservations_keeps s State.regs (fun t c k => regs_setCore t c k) by_ a n

@[simp] theorem mem_breakReservations (by_ : Option CoreId) (a n : Nat) : (s.breakReservations by_ a n).mem = s.mem :=
  breakReservations_keeps s State.mem (fun t c k => mem_setCore t c k) by_ a n

/-! ### Where an access lands (R14) -/

theorem regionOf_sram {a : Nat} (hlo : 0x10000000 ≤ a) (hhi : a ≤ 0x107FFFFF) : regionOf a = some .sram := by
  unfold regionOf
  rw [if_neg (by omega), if_neg (by omega), if_neg (by omega), if_pos ⟨hlo, hhi⟩]

theorem regionOf_periph {a : Nat} (hlo : 0x40000000 ≤ a) (hhi : a ≤ 0x4020FFFF) :
    regionOf a = some (.periph ((a - 0x40000000) / 0x10000)) := by
  unfold regionOf
  rw [if_neg (by omega), if_neg (by omega), if_neg (by omega), if_neg (by omega), if_neg (by omega), if_neg (by omega),
    if_neg (by omega), if_neg (by omega), if_pos ⟨hlo, hhi⟩]

theorem decodeFor_sram (i : Initiator) {a : Nat} (hlo : 0x10000000 ≤ a) (hhi : a ≤ 0x107FFFFF) :
    decodeFor i a = some .sram := by
  simp [decodeFor, regionOf_sram hlo hhi]

theorem decodeFor_periph (i : Initiator) {a : Nat} (hlo : 0x40000000 ≤ a) (hhi : a ≤ 0x4020FFFF) :
    decodeFor i a = some (.periph ((a - 0x40000000) / 0x10000)) := by
  simp [decodeFor, regionOf_periph hlo hhi]

/-! ### Words of SRAM -/

/-- Every initiator may write an aligned word of SRAM (R16, R17). -/
theorem judge_sramWord (i : Initiator) {a : Nat} (v : Nat) (hlo : 0x10000000 ≤ a) (hhi : a ≤ 0x107FFFFF) (h4 : a % 4 = 0) :
    s.judge i a true .word v = none := by
  simp [State.judge, decodeFor_sram i hlo hhi, State.writeNarrowed, regionOf_sram hlo hhi, mayWrite, sizeBad, Size.bytes, h4,
    State.clocked, gateOf]

/-- A word store into an SRAM word without ECC error stores its bytes, leaves the ECC word sound and breaks reservations. -/
theorem memWrite_sramWord (by_ : Option CoreId) {a p : Nat} (v : Nat) (hp : s.physOf .sram (by_ == some .g0) a = some p)
    (he : s.eccAt (p / 8 * 8) = none) : s.memWrite .sram by_ a 4 v =
      (true, ((s.poke p 4 v).setEcc (p / 8 * 8) none).breakReservations by_ a 4) := by
  simp [State.memWrite, hp, State.eccWrite, eccBytes, eccWord, he]

theorem core?_eq_g0 (i : Initiator) : (i.core? == some CoreId.g0) = (i == .g0) := by cases i <;> rfl

theorem busWrite_sramWord (i : Initiator) {a p : Nat} (v : Nat) (hpow : s.powered = true) (hlo : 0x10000000 ≤ a)
    (hhi : a ≤ 0x107FFFFF) (h4 : a % 4 = 0) (hp : s.physOf .sram (i == .g0) a = some p) (he : s.eccAt (p / 8 * 8) = none) :
    s.busWrite i a .word v = (.ok 0, ((s.poke p 4 v).setEcc (p / 8 * 8) none).breakReservations i.core? a 4) := by
  have hmem := memWrite_sramWord s i.core? v (by rw [core?_eq_g0]; exact hp) he
  simp [State.busWrite, hpow, judge_sramWord s i v hlo hhi h4, decodeFor_sram i hlo hhi, State.fabWrite, aliasOf, Size.bytes, hmem]

/-! ### Registers over the fabric -/

theorem serves_iff (i : Initiator) (a : Nat) (v : Word) :
    s.serves i a v = true ↔ s.powered = true ∧ s.judge i a true .word v.toNat = none := by
  simp [State.serves]

theorem servesRead_iff (i : Initiator) (a : Nat) :
    s.servesRead i a = true ↔ s.powered = true ∧ s.judge i a false .word 0 = none := by
  simp [State.servesRead]

/-- A word write of a peripheral register that the fabric lets through is the register's own write. -/
theorem busWrite_register {i : Initiator} {a : Nat} {v : Word} (hs : s.serves i a v = true) (hlo : 0x40000000 ≤ a)
    (hhi : a ≤ 0x4020FFFF) : s.busWrite i a .word v.toNat = (.ok 0, s.writeReg i a v) := by
  obtain ⟨hpow, hjudge⟩ := (serves_iff s i a v).mp hs
  simp [State.busWrite, hpow, hjudge, decodeFor_periph i hlo hhi, w32]

/-- A word read of a peripheral register that the fabric lets through answers what the register's own read answers. -/
theorem readWord_register {i : Initiator} {a : Nat} (hs : s.servesRead i a = true) (hlo : 0x40000000 ≤ a)
    (hhi : a ≤ 0x4020FFFF) : s.readWord i a = { (s.readReg i a).2 with rdata := (s.readReg i a).1 } := by
  obtain ⟨hpow, hjudge⟩ := (servesRead_iff s i a).mp hs
  simp [State.readWord, State.busRead, hpow, hjudge, decodeFor_periph i hlo hhi]

/-! ### The fields of a register by their types (R8) -/

/-- What a write of `v` leaves of a register that read `old`: RW bits stored, W1C bits cleared and W1S bits set where `v` has 1. -/
def RegRow.stored (row : RegRow) (old v : Word) : Word :=
  (((old &&& ~~~(w32 row.rw)) ||| (v &&& w32 row.rw)) &&& ~~~(v &&& w32 row.w1c)) ||| (v &&& w32 row.w1s)

/-- A write by field types stores its register and, for a WOS register, that its one write is spent. -/
theorem storeReg_eq (k : Nat) (row : RegRow) (v : Word) : s.storeReg k row v =
    { s.setRg k (row.stored (s.rg k) v) with wosSpent := if row.lock = .once then k :: s.wosSpent else s.wosSpent } := by
  simp only [State.storeReg, RegRow.stored]
  split <;> rfl

theorem rg_storeReg (k : Nat) (row : RegRow) (v : Word) (b : Nat) :
    (s.storeReg k row v).rg b = if b = k then row.stored (s.rg k) v else s.rg b := by
  rw [storeReg_eq]
  exact rg_setRg s k b _

@[simp] theorem mem_storeReg (k : Nat) (row : RegRow) (v : Word) : (s.storeReg k row v).mem = s.mem := by rw [storeReg_eq]; rfl
@[simp] theorem held_storeReg (k : Nat) (row : RegRow) (v : Word) : (s.storeReg k row v).held = s.held := by rw [storeReg_eq]; rfl

/-- A register whose every bit is RW, and none of another type, takes the value written. -/
theorem stored_of_all_rw {row : RegRow} (old v : Word) (hrw : row.rw = 0xFFFFFFFF) (hc : row.w1c = 0) (hs : row.w1s = 0) :
    row.stored old v = v := by
  have hzero : w32 0 = 0#32 := rfl
  have hones : w32 0xFFFFFFFF = BitVec.allOnes 32 := rfl
  rw [RegRow.stored, hrw, hc, hs, hzero, hones]
  simp only [BitVec.not_allOnes, BitVec.and_zero, BitVec.zero_or, BitVec.or_zero, BitVec.not_zero, BitVec.and_allOnes]

/-- A register without bits of some type keeps every bit under that type's mask. -/
theorem and_not_w32_zero (v : Word) : v &&& ~~~(w32 0) = v := by
  rw [show w32 0 = 0#32 from rfl, BitVec.not_zero, BitVec.and_allOnes]

theorem regKey_shared (i : Initiator) {row : RegRow} (a : Nat) (h : row.perCore = false) : regKey i row a = a := by
  simp [regKey, h]

/-- The write of a one-word register that is neither shadowed nor per core, and does no more than its field types say. -/
theorem writeReg_plain {i : Initiator} {a x y : Nat} {v : Word} {row : RegRow} (hrow : regAt a = some (row, x, y))
    (hwords : row.words = 1) (hword : row.word = 0) (hsh : row.sh = none) (hcore : row.perCore = false)
    (hspec : s.wrSpecial i (a / 0x10000) a x y v = none) : s.writeReg i a v = s.storeReg a row v := by
  simp [State.writeReg, hrow, RegRow.holds, hwords, hword, hspec, State.wrPlain, hsh, regKey_shared i a hcore]

/-- The read of a one-word register that shows its own value: it answers all but the WO bits and clears the RC bits. -/
theorem readReg_plain {i : Initiator} {a x y : Nat} {row : RegRow} (hrow : regAt a = some (row, x, y))
    (hwords : row.words = 1) (hword : row.word = 0) (hcore : row.perCore = false) (hspec : s.rdSpecial i a x = none)
    (hshow : s.rdShow i (a / 0x10000) a x = none) : s.readReg i a =
      ((s.rg a &&& ~~~(w32 row.wo)).toNat, if row.rc = 0 then s else s.setRg a (s.rg a &&& ~~~(w32 row.rc))) := by
  simp [State.readReg, hrow, hwords, hword, hspec, State.regShow, hshow, regKey_shared i a hcore]

/-! ### Error responses (R19, R21) -/

/-- The word that SYS_FERR_INFO captures of an error response (R21). -/
def ferrInfo (i : Initiator) (wr : Bool) (z : Size) (k : ErrKind) : Word :=
  w32 (0x80000000 + z.code * 512 + (if wr then 256 else 0) + i.code * 16 + k.code)

variable (i : Initiator) (a : Nat) (wr : Bool) (z : Size) (k : ErrKind)

@[simp] theorem mem_ferr : (s.ferr i a wr z k).mem = s.mem := by
  unfold State.ferr
  dsimp only
  split <;> exact State.raise_mem s 28

/-- Counting an error response and raising its source leave the mark of a held capture. -/
theorem bit_info_counted : ((s.raise 28).count SYS_FERR_COUNT 1).bit SYS_FERR_INFO 31 = s.bit SYS_FERR_INFO 31 := by
  rw [State.bit, rg_count_ne _ 1 (by decide), rg_raise_ne _ 28 (by decide), State.bit]

/-- An error response while no capture is held: counted and captured. -/
theorem rg_ferr_free (hfree : s.bit SYS_FERR_INFO 31 = false) {b : Nat} (hb : b ≠ ECX_PEND 0) : (s.ferr i a wr z k).rg b =
    if b = SYS_FERR_INFO then ferrInfo i wr z k else if b = SYS_FERR_ADDR then w32 a
    else if b = SYS_FERR_COUNT then satInc (s.rg SYS_FERR_COUNT) 1 else s.rg b := by
  have hbit := (bit_info_counted s).trans hfree
  have hcount : (s.raise 28).rg SYS_FERR_COUNT = s.rg SYS_FERR_COUNT := rg_raise_ne s 28 (by decide)
  simp only [State.ferr, hbit, Bool.false_eq_true, if_false, rg_setRg, rg_count, hcount, rg_raise_ne s 28 hb, ferrInfo]

/-- An error response while a capture is held: counted only. -/
theorem rg_ferr_held (hheld : s.bit SYS_FERR_INFO 31 = true) {b : Nat} (hb : b ≠ ECX_PEND 0) : (s.ferr i a wr z k).rg b =
    if b = SYS_FERR_COUNT then satInc (s.rg SYS_FERR_COUNT) 1 else s.rg b := by
  have hbit := (bit_info_counted s).trans hheld
  have hcount : (s.raise 28).rg SYS_FERR_COUNT = s.rg SYS_FERR_COUNT := rg_raise_ne s 28 (by decide)
  simp only [State.ferr, hbit, if_true, rg_count, hcount, rg_raise_ne s 28 hb]

/-- A refusal that the Gauntlet does not log is the error response; only pending words may go besides. -/
theorem refuse_unlogged : (s.refuse i a wr z k none).regs = (s.ferr i a wr z k).regs ∧
    (s.refuse i a wr z k none).mem = (s.ferr i a wr z k).mem := by
  unfold State.refuse
  dsimp only
  split
  · split <;> exact ⟨rfl, rfl⟩
  · exact ⟨rfl, rfl⟩

@[simp] theorem rg_refuse_unlogged (b : Nat) : (s.refuse i a wr z k none).rg b = (s.ferr i a wr z k).rg b :=
  rg_congr (refuse_unlogged s i a wr z k).1 b

@[simp] theorem mem_refuse_unlogged : (s.refuse i a wr z k none).mem = s.mem :=
  (refuse_unlogged s i a wr z k).2.trans (mem_ferr s i a wr z k)

variable {i a z k}

theorem busWrite_refused {v : Nat} {log : Option Nat} (hpow : s.powered = true) (hj : s.judge i a true z v = some (k, log)) :
    s.busWrite i a z v = (.err k, s.refuse i a true z k log) := by
  simp [State.busWrite, hpow, hj]

/-- A refused read answers 0 (R19). -/
theorem readWord_refused {log : Option Nat} (hpow : s.powered = true) (hj : s.judge i a false .word 0 = some (k, log)) :
    s.readWord i a = { s.refuse i a false .word k log with rdata := 0 } := by
  simp [State.readWord, State.busRead, hpow, hj]

/-! ### Words of a multi-word register (R28, R29) -/

theorem find?_smPut {α : Type} (m : List (Nat × α)) (j : Nat) (x : α) :
    (smPut m j x).find? (fun e => e.1 == j) = some (j, x) := by
  induction m with
  | nil => simp [smPut]
  | cons e m ih =>
    obtain ⟨l, v⟩ := e
    by_cases hlt : j < l
    · simp [smPut, hlt]
    · by_cases heq : j = l
      · simp [smPut, heq]
      · simp [smPut, hlt, heq, Ne.symm heq, ih]

@[simp] theorem pendingWord_holdWord (v : Word) : (s.holdWord i a v).pendingWord i a = some v := by
  simp [State.pendingWord, State.holdWord, find?_smPut]

theorem pendingWord_congr {s t : State} (h : t.held = s.held) : t.pendingWord i a = s.pendingWord i a := by
  simp [State.pendingWord, h]

@[simp] theorem rg_clearPending (words b : Nat) : (s.clearPending i a words).rg b = s.rg b := rfl

/-- Clearing the pending marks of a register leaves none on any of its words. -/
theorem pendingWord_clearPending {words n : Nat} (hn : n < words) :
    (s.clearPending i a words).pendingWord i (a - 4 * n) = none := by
  simp only [State.pendingWord, State.clearPending, Option.map_eq_none_iff, List.find?_eq_none, List.mem_filter]
  rintro e ⟨-, hkeep⟩ hkey
  have hword : (List.range words).any (fun k => e.1 == viewKey i.code (a - 4 * k)) = true :=
    List.any_eq_true.mpr ⟨n, List.mem_range.mpr hn, hkey⟩
  simp [hword] at hkeep

/-- A read is judged alike in states with the same clock enables (R577). -/
theorem judge_read_congr {s t : State} {v : Nat} (hen : t.rg SYS_CLKEN = s.rg SYS_CLKEN)
    (hx : t.rg OSPI_XCTL = s.rg OSPI_XCTL) (hc : t.rg OSPI_CFG = s.rg OSPI_CFG) :
    t.judge i a false z v = s.judge i a false z v := by
  have hclk : ∀ r, t.clocked r = s.clocked r := fun r => by simp only [State.clocked, State.bit, hen, hx, hc]
  simp only [State.judge, hclk]
  rfl

/-- The commit of a two-word register whose low word is pending: both words are stored, and no word is pending any more. -/
theorem commitWords_two {row q : RegRow} {x y : Nat} {lo v : Word} (hword : row.word = 1) (hwords : row.words = 2)
    (hlow : regAt (a - 4) = some (q, x, y)) (hpend : s.pendingWord i (a - 4) = some lo) :
    s.commitWords i a row v = ((s.storeReg (a - 4) q lo).storeReg a row v).clearPending i a 2 := by
  simp [State.commitWords, hword, hwords, List.range_succ, hlow, hpend]

/-- The read of the low word of a two-word register other than PPS_BEAT loads the reader's latch with the high word. -/
theorem readReg_low_two {row q : RegRow} {x y x' y' : Nat} (hrow : regAt a = some (row, x, y)) (hword : row.word = 0)
    (hwords : row.words = 2) (hhigh : regAt (a + 4) = some (q, x', y')) (hpps : a ≠ PPS_BEAT_LO) :
    s.readReg i a = ((s.regShow i a row x).toNat,
      { s with latch := smSet (fun _ => 0) s.latch (viewKey i.code (a + 4)) (s.regShow i (a + 4) q x) }) := by
  simp [State.readReg, hrow, hword, hwords, State.latchWords, List.range_succ, hhigh, hpps]

/-- A higher word of a multi-word register is read from the reader's latch. -/
theorem readReg_high {row : RegRow} {x y : Nat} (hrow : regAt a = some (row, x, y)) (hword : 0 < row.word) :
    s.readReg i a = ((smGet (fun _ => (0 : Word)) s.latch (viewKey i.code a)).toNat, s) := by
  simp [State.readReg, hrow, hword]

/-- A register of the beat window shows its own value, but for CG_MISSING. -/
theorem rdShow_beat {x b : Nat} (hb : b / 0x10000 = 0x4001) (h : b ≠ CG_MISSING x) : s.rdShow i (b / 0x10000) b x = none := by
  rw [hb]
  simp [State.rdShow, h]

end Sys2Proof.Machine
end

section
/-! The register accesses of spec/00 R8 and spec/01 R19, R21, R28 and R29: each clause of FabricAccesses, and the statement. -/

namespace Sys2Proof.Machine

variable (s : State) (i : Initiator) (a v : Word)

/-! ### What the four commands run -/

theorem ends_registerWrite {P : State → Prop} (h : P (s.busWrite i a.toNat .word v.toNat).2) : Ends (.registerWrite i a v) s P :=
  ⟨_, rfl, h⟩

theorem ends_readClear {P : State → Prop} (h : P (s.readWord i a.toNat)) : Ends (.readClear i a) s P := ⟨_, rfl, h⟩

theorem ends_latchRead {P : State → Prop} (h : P (s.readWord i a.toNat)) : Ends (.latchRead i a) s P := ⟨_, rfl, h⟩

theorem ends_multiwordCommit {P : State → Prop} (h : P (s.busWrite i a.toNat .word v.toNat).2) :
    Ends (.multiwordCommit i a v) s P := ⟨_, rfl, h⟩

/-! ### Plain registers and SRAM (R8) -/

variable {s i a v}

theorem registerWrite_plain {row : RegRow} {x y : Nat} (hrow : regAt a.toNat = some (row, x, y)) (hlo : 0x40000000 ≤ a.toNat)
    (hhi : a.toNat ≤ 0x4020FFFF) (hwords : row.words = 1) (hword : row.word = 0) (hsh : row.sh = none)
    (hcore : row.perCore = false) (hspec : s.wrSpecial i (a.toNat / 0x10000) a.toNat x y v = none)
    (hs : s.serves i a.toNat v = true) :
    Ends (.registerWrite i a v) s (fun u => u.rg a.toNat = row.stored (s.rg a.toNat) v ∧ SameRegsBut s u [a.toNat] ∧ u.mem = s.mem) := by
  have hwrite := writeReg_plain s hrow hwords hword hsh hcore hspec
  apply ends_registerWrite
  rw [busWrite_register s hs hlo hhi, hwrite]
  refine ⟨?_, fun b hb => ?_, mem_storeReg s _ _ _⟩
  · rw [rg_storeReg, if_pos rfl]
  · rw [rg_storeReg, if_neg (fun h => hb (List.mem_singleton.mpr h))]

theorem readClear_plain {row : RegRow} {x y : Nat} (hrow : regAt a.toNat = some (row, x, y)) (hlo : 0x40000000 ≤ a.toNat)
    (hhi : a.toNat ≤ 0x4020FFFF) (hwords : row.words = 1) (hword : row.word = 0) (hcore : row.perCore = false)
    (hspec : s.rdSpecial i a.toNat x = none) (hshow : s.rdShow i (a.toNat / 0x10000) a.toNat x = none)
    (hs : s.servesRead i a.toNat = true) :
    Ends (.readClear i a) s (fun u => u.rdata = (s.rg a.toNat &&& ~~~(w32 row.wo)).toNat ∧
      u.rg a.toNat = s.rg a.toNat &&& ~~~(w32 row.rc) ∧ SameRegsBut s u [a.toNat] ∧ u.mem = s.mem) := by
  apply ends_readClear
  rw [readWord_register s hs hlo hhi, readReg_plain s hrow hwords hword hcore hspec hshow]
  by_cases hrc : row.rc = 0
  · rw [if_pos hrc, hrc, and_not_w32_zero]
    exact ⟨rfl, rfl, fun _ _ => rfl, rfl⟩
  · rw [if_neg hrc]
    exact ⟨rfl, rg_setRg_same s _ _, fun b hb => rg_setRg_ne s _ (fun h => hb (List.mem_singleton.mpr h)), rfl⟩

theorem registerWrite_sram {p : Nat} (hpow : s.powered = true) (hlo : 0x10000000 ≤ a.toNat) (hhi : a.toNat ≤ 0x107FFFFF)
    (h4 : a.toNat % 4 = 0) (hp : s.physOf .sram (i == .g0) a.toNat = some p) (he : s.eccAt (p / 8 * 8) = none) :
    Ends (.registerWrite i a v) s (fun u => u.peek p 4 = v.toNat ∧ SameBytesBut s u p 4 ∧ u.regs = s.regs) := by
  apply ends_registerWrite
  rw [busWrite_sramWord s i v.toNat hpow hlo hhi h4 hp he]
  have hmem : (((s.poke p 4 v.toNat).setEcc (p / 8 * 8) none).breakReservations i.core? a.toNat 4).mem = (s.poke p 4 v.toNat).mem := by
    simp
  refine ⟨?_, fun q hq => ?_, by simp⟩
  · rw [peek_congr hmem, peek_poke]
    exact Nat.mod_eq_of_lt v.isLt
  · rw [byteAt_congr hmem, byteAt_poke_outside s p q 4 _ hq]

/-! ### Error responses (R19, R21) -/

/-- The registers and memory after an error response while no capture is held: counted and captured. -/
def Captured (s u : State) (a info : Word) : Prop :=
  u.rg SYS_FERR_COUNT = satInc (s.rg SYS_FERR_COUNT) 1 ∧ u.rg SYS_FERR_ADDR = a ∧ u.rg SYS_FERR_INFO = info ∧
    SameRegsBut s u [SYS_FERR_COUNT, SYS_FERR_ADDR, SYS_FERR_INFO, ECX_PEND 0] ∧ u.mem = s.mem

/-- The same while a capture is held: counted only. -/
def Counted (s u : State) : Prop :=
  u.rg SYS_FERR_COUNT = satInc (s.rg SYS_FERR_COUNT) 1 ∧ SameRegsBut s u [SYS_FERR_COUNT, ECX_PEND 0] ∧ u.mem = s.mem

theorem captured_refuse (wr : Bool) (z : Size) (k : ErrKind) (hfree : s.bit SYS_FERR_INFO 31 = false) :
    Captured s (s.refuse i a.toNat wr z k none) a (ferrInfo i wr z k) := by
  have haddr : w32 a.toNat = a := by simp [w32]
  have hrg := fun {b : Nat} (hb : b ≠ ECX_PEND 0) =>
    (rg_refuse_unlogged s i a.toNat wr z k b).trans (rg_ferr_free s i a.toNat wr z k hfree hb)
  refine ⟨hrg (by decide), (hrg (by decide)).trans haddr, hrg (by decide), fun b hb => ?_, mem_refuse_unlogged s i _ wr z k⟩
  simp only [List.mem_cons, List.not_mem_nil, or_false, not_or] at hb
  obtain ⟨hcount, hwhere, hinfo, hpend⟩ := hb
  rw [hrg hpend, if_neg hinfo, if_neg hwhere, if_neg hcount]

theorem counted_refuse (wr : Bool) (z : Size) (k : ErrKind) (hheld : s.bit SYS_FERR_INFO 31 = true) :
    Counted s (s.refuse i a.toNat wr z k none) := by
  have hrg := fun {b : Nat} (hb : b ≠ ECX_PEND 0) =>
    (rg_refuse_unlogged s i a.toNat wr z k b).trans (rg_ferr_held s i a.toNat wr z k hheld hb)
  refine ⟨hrg (by decide), fun b hb => ?_, mem_refuse_unlogged s i _ wr z k⟩
  simp only [List.mem_cons, List.not_mem_nil, or_false, not_or] at hb
  obtain ⟨hcount, hpend⟩ := hb
  rw [hrg hpend, if_neg hcount]

theorem registerWrite_refused {k : ErrKind} {P : State → Prop} (hpow : s.powered = true)
    (hj : s.judge i a.toNat true .word v.toNat = some (k, none)) (h : P (s.refuse i a.toNat true .word k none)) :
    Ends (.registerWrite i a v) s P := by
  apply ends_registerWrite
  rw [busWrite_refused s hpow hj]
  exact h

theorem readClear_refused {k : ErrKind} {P : State → Prop} (hpow : s.powered = true)
    (hj : s.judge i a.toNat false .word 0 = some (k, none)) (h : P { s.refuse i a.toNat false .word k none with rdata := 0 }) :
    Ends (.readClear i a) s P := by
  apply ends_readClear
  rw [readWord_refused s hpow hj]
  exact h

theorem ferrInfo_word (i : Initiator) (wr : Bool) (k : ErrKind) : ferrInfo i wr .word k =
    BitVec.ofNat 32 (0x80000000 + 2 * 512 + (if wr then 256 else 0) + 16 * i.code + k.code) := by
  rw [ferrInfo, w32, Nat.mul_comm i.code]
  rfl

/-! ### BEAT_COUNT (R28) -/

/-- The two words of BEAT_COUNT, `n` 0 and 1. -/
def beatCountRow (n : Nat) : RegRow := { off := 0x10 + 4 * n, word := n, words := 2 }

theorem regAt_beatCountLo : regAt BEAT_COUNT_LO = some (beatCountRow 0, 0, 0) := rfl
theorem regAt_beatCountHi : regAt (BEAT_COUNT_LO + 4) = some (beatCountRow 1, 0, 0) := rfl

/-- Each word of BEAT_COUNT shows what it holds. -/
theorem regShow_beatCount (i : Initiator) {b n : Nat} (hb : b / 0x10000 = 0x4001) (h : b ≠ CG_MISSING 0) :
    s.regShow i b (beatCountRow n) 0 = s.rg b := by
  rw [State.regShow, rdShow_beat s hb h, regKey_shared i b rfl]
  exact and_not_w32_zero (s.rg b)

/-- The state after a read of the low word: the reader's latch holds the high word. -/
def State.beatLatched (s : State) (i : Initiator) : State :=
  { s with latch := smSet (fun _ => 0) s.latch (viewKey i.code (BEAT_COUNT_LO + 4)) (s.rg (BEAT_COUNT_LO + 4))
           rdata := (s.rg BEAT_COUNT_LO).toNat }

theorem readWord_beatCountLo (hs : s.servesRead i BEAT_COUNT_LO = true) : s.readWord i BEAT_COUNT_LO = s.beatLatched i := by
  rw [readWord_register s hs (by decide) (by decide),
    readReg_low_two s regAt_beatCountLo rfl rfl regAt_beatCountHi (by decide),
    regShow_beatCount i (by decide) (by decide), regShow_beatCount i (by decide) (by decide)]
  rfl

theorem rdata_readWord_beatCountHi (hs : s.servesRead i (BEAT_COUNT_LO + 4) = true) :
    (s.readWord i (BEAT_COUNT_LO + 4)).rdata = (smGet (fun _ => (0 : Word)) s.latch (viewKey i.code (BEAT_COUNT_LO + 4))).toNat := by
  rw [readWord_register s hs (by decide) (by decide), readReg_high s regAt_beatCountHi (by decide)]

/-- The high word is read as it stood when the low word was read, whatever it holds by then. -/
theorem latchRead_beatCount (w : Word) (hlo : s.servesRead i BEAT_COUNT_LO = true)
    (hhi : s.servesRead i (BEAT_COUNT_LO + 4) = true) :
    Ends (.latchRead i (BitVec.ofNat 32 BEAT_COUNT_LO)) s (fun t => t.rdata = (s.rg BEAT_COUNT_LO).toNat ∧ t.regs = s.regs ∧
      Ends (.latchRead i (BitVec.ofNat 32 (BEAT_COUNT_LO + 4))) (t.setRg (BEAT_COUNT_LO + 4) w) (fun u =>
        u.rdata = (s.rg (BEAT_COUNT_LO + 4)).toNat)) := by
  obtain ⟨hpow, hjudge⟩ := (servesRead_iff s i _).mp hhi
  have hserved : ((s.beatLatched i).setRg (BEAT_COUNT_LO + 4) w).servesRead i (BEAT_COUNT_LO + 4) = true := by
    refine (servesRead_iff _ i _).mpr ⟨hpow, ?_⟩
    rw [judge_read_congr (s := s)]
    · exact hjudge
    · exact rg_setRg_ne (s.beatLatched i) w (by decide)
    · exact rg_setRg_ne (s.beatLatched i) w (by decide)
    · exact rg_setRg_ne (s.beatLatched i) w (by decide)
  apply ends_latchRead
  rw [show (BitVec.ofNat 32 BEAT_COUNT_LO).toNat = BEAT_COUNT_LO from rfl, readWord_beatCountLo hlo]
  refine ⟨rfl, rfl, ends_latchRead _ _ _ ?_⟩
  rw [show (BitVec.ofNat 32 (BEAT_COUNT_LO + 4)).toNat = BEAT_COUNT_LO + 4 from rfl, rdata_readWord_beatCountHi hserved]
  simp [State.beatLatched, smGet_smSet]

/-! ### LDG_TAT (R29) -/

/-- The two words of LDG_TAT, `n` 0 and 1. -/
def ldgTatRow (n : Nat) : RegRow := { off := 0x80 + 4 * n, rw := 0xFFFFFFFF, word := n, words := 2 }

theorem regAt_ldgTatLo : regAt LDG_TAT_LO = some (ldgTatRow 0, 0, 0) := rfl
theorem regAt_ldgTatHi : regAt LDG_TAT_HI = some (ldgTatRow 1, 0, 0) := rfl

theorem stored_ldgTatRow (n : Nat) (old v : Word) : (ldgTatRow n).stored old v = v := stored_of_all_rw old v rfl rfl rfl

theorem wrSpecial_ldgTatHi (s : State) (i : Initiator) (v : Word) :
    s.wrSpecial i (LDG_TAT_HI / 0x10000) LDG_TAT_HI 0 0 v = none := by
  show s.wrLdg i LDG_TAT_HI 0 v = none
  simp [State.wrLdg, LDG_TDEF_A, LDG_TDEF_B]

theorem writeReg_ldgTatLo (s : State) (i : Initiator) (v : Word) : s.writeReg i LDG_TAT_LO v = s.holdWord i LDG_TAT_LO v := by
  rw [State.writeReg, regAt_ldgTatLo]
  rfl

theorem writeReg_ldgTatHi {lo : Word} (hpend : s.pendingWord i LDG_TAT_LO = some lo) : s.writeReg i LDG_TAT_HI v =
    ((s.storeReg LDG_TAT_LO (ldgTatRow 0) lo).storeReg LDG_TAT_HI (ldgTatRow 1) v).clearPending i LDG_TAT_HI 2 := by
  have hcommit := commitWords_two s (a := LDG_TAT_HI) (row := ldgTatRow 1) (v := v) rfl rfl regAt_ldgTatLo hpend
  simp only [State.writeReg, regAt_ldgTatHi, wrSpecial_ldgTatHi]
  exact hcommit

theorem multiwordCommit_ldgTatLo {lo : Word} (hs : s.serves i LDG_TAT_LO lo = true) :
    Ends (.multiwordCommit i (BitVec.ofNat 32 LDG_TAT_LO) lo) s
      (fun u => u.pendingWord i LDG_TAT_LO = some lo ∧ u.regs = s.regs) := by
  apply ends_multiwordCommit
  rw [show (BitVec.ofNat 32 LDG_TAT_LO).toNat = LDG_TAT_LO from rfl, busWrite_register s hs (by decide) (by decide),
    writeReg_ldgTatLo]
  exact ⟨pendingWord_holdWord s lo, rfl⟩

theorem multiwordCommit_ldgTatHi {lo : Word} (hs : s.serves i LDG_TAT_HI v = true)
    (hpend : s.pendingWord i LDG_TAT_LO = some lo) :
    Ends (.multiwordCommit i (BitVec.ofNat 32 LDG_TAT_HI) v) s (fun u => u.rg LDG_TAT_LO = lo ∧ u.rg LDG_TAT_HI = v ∧
      u.pendingWord i LDG_TAT_LO = none ∧ SameRegsBut s u [LDG_TAT_LO, LDG_TAT_HI]) := by
  apply ends_multiwordCommit
  rw [show (BitVec.ofNat 32 LDG_TAT_HI).toNat = LDG_TAT_HI from rfl, busWrite_register s hs (by decide) (by decide),
    writeReg_ldgTatHi hpend]
  have hrg : ∀ b, (((s.storeReg LDG_TAT_LO (ldgTatRow 0) lo).storeReg LDG_TAT_HI (ldgTatRow 1) v).clearPending i LDG_TAT_HI 2).rg b =
      if b = LDG_TAT_HI then v else if b = LDG_TAT_LO then lo else s.rg b := fun b => by
    rw [rg_clearPending, rg_storeReg, stored_ldgTatRow, rg_storeReg, stored_ldgTatRow]
  refine ⟨hrg _, hrg _, pendingWord_clearPending _ (a := LDG_TAT_HI) (n := 1) (by decide), fun b hb => ?_⟩
  simp only [List.mem_cons, List.not_mem_nil, or_false, not_or] at hb
  obtain ⟨hlow, hhigh⟩ := hb
  rw [hrg, if_neg hhigh, if_neg hlow]

/-- Settles O23: each clause is one of the rules above. -/
theorem fabricAccesses : Obligations.FabricAccesses := by
  intro s i a v lo w n
  refine ⟨?_, ?_, ?_, ?_, ?_, ?_, ?_, ?_, ?_⟩
  · intro row x y hrow hlo hhi hwords hword hsh hcore hspec hs
    exact registerWrite_plain hrow hlo hhi hwords hword hsh hcore hspec hs
  · intro row x y hrow hlo hhi hwords hword hcore hspec hshow hs
    exact readClear_plain hrow hlo hhi hwords hword hcore hspec hshow hs
  · intro p hpow hlo hhi h4 hp he
    exact registerWrite_sram hpow hlo hhi h4 hp he
  · intro k hpow hj hfree
    have hcap := captured_refuse (i := i) (a := a) true .word k hfree
    rw [ferrInfo_word] at hcap
    exact registerWrite_refused hpow hj hcap
  · intro k hpow hj hfree
    have hcap := captured_refuse (i := i) (a := a) false .word k hfree
    rw [ferrInfo_word] at hcap
    exact readClear_refused hpow hj ⟨rfl, hcap⟩
  · intro k hpow hheld
    exact ⟨fun hj => registerWrite_refused hpow hj (counted_refuse true .word k hheld),
      fun hj => readClear_refused hpow hj ⟨rfl, counted_refuse (i := i) (a := a) false .word k hheld⟩⟩
  · exact latchRead_beatCount w
  · exact multiwordCommit_ldgTatLo
  · exact multiwordCommit_ldgTatHi

end Sys2Proof.Machine
end

section
/-! Which registers an operation writes: a relation that follows a chain of updates, and what the passing of time, a pulse of a
DMA trigger and the Dispatcher's service of waiting instructions leave unchanged. -/

namespace Sys2Proof.Machine

/-- From `s` to `u` no register outside `w` changes, nor what the beat generator holds, nor a byte of memory. -/
structure WritesOnly (w : Nat → Prop) (s u : State) : Prop where
  rg : ∀ a, ¬ w a → u.rg a = s.rg a
  beat : u.beat = s.beat
  mem : u.mem = s.mem

namespace WritesOnly

variable {w : Nat → Prop} {s u : State}

theorem refl (w : Nat → Prop) (s : State) : WritesOnly w s s := ⟨fun _ _ => rfl, rfl, rfl⟩

theorem sameRegsBut {l : List Nat} (h : WritesOnly (· ∈ l) s u) : SameRegsBut s u l := h.rg

theorem withEcx (h : WritesOnly w s u) (x : EcxSt) : WritesOnly w s { u with ecx := x } := ⟨h.rg, h.beat, h.mem⟩

theorem withDis (h : WritesOnly w s u) (x : DisSt) : WritesOnly w s { u with dis := x } := ⟨h.rg, h.beat, h.mem⟩

theorem withDma (h : WritesOnly w s u) (x : DmaSt) : WritesOnly w s { u with dma := x } := ⟨h.rg, h.beat, h.mem⟩

theorem withTmr (h : WritesOnly w s u) (x : TmrSt) : WritesOnly w s { u with tmr := x } := ⟨h.rg, h.beat, h.mem⟩

/-- An update that keeps registers, beat generator and memory continues the chain. -/
theorem kept {t : State} (h : WritesOnly w s u) (hregs : t.regs = u.regs) (hbeat : t.beat = u.beat) (hmem : t.mem = u.mem) :
    WritesOnly w s t :=
  ⟨fun b hb => (rg_congr hregs b).trans (h.rg b hb), hbeat.trans h.beat, hmem.trans h.mem⟩

theorem setRg {a : Nat} (h : WritesOnly w s u) (ha : w a) (v : Word) : WritesOnly w s (u.setRg a v) :=
  ⟨fun b hb => (rg_setRg_ne u v (fun e => hb (by rw [e]; exact ha))).trans (h.rg b hb), h.beat, h.mem⟩

theorem setFld {a : Nat} (h : WritesOnly w s u) (ha : w a) (lo len v : Nat) : WritesOnly w s (u.setFld a lo len v) := h.setRg ha _

theorem setBit {a : Nat} (h : WritesOnly w s u) (ha : w a) (n : Nat) (b : Bool) : WritesOnly w s (u.setBit a n b) := h.setRg ha _

theorem count {a : Nat} (h : WritesOnly w s u) (ha : w a) (n : Nat) : WritesOnly w s (u.count a n) := h.setRg ha _

theorem accept {p : CmdPort} (h : WritesOnly w s u) (hp : w p.st) : WritesOnly w s (u.accept p) := h.setFld hp _ _ _

theorem storeReg {a : Nat} (h : WritesOnly w s u) (ha : w a) (row : RegRow) (v : Word) : WritesOnly w s (u.storeReg a row v) := by
  rw [storeReg_eq]
  exact (h.setRg ha _).kept rfl rfl rfl

theorem clrPend {n : Nat} (h : WritesOnly w s u) (hn : w (ECX_PEND (n / 32))) : WritesOnly w s (u.clrPend n) := h.setBit hn _ _

theorem setPend {n : Nat} (h : WritesOnly w s u) (hn : w (ECX_PEND (n / 32))) (b : Bool) : WritesOnly w s (u.setPend n b) :=
  ⟨fun a ha => (rg_setPend_ne u n b (fun e => ha (by rw [e]; exact hn))).trans (h.rg a ha), (State.setPend_beat u n b).trans h.beat,
    (State.setPend_mem u n b).trans h.mem⟩

theorem raise {n : Nat} (h : WritesOnly w s u) (hn : w (ECX_PEND (n / 32))) : WritesOnly w s (u.raise n) := by
  unfold State.raise
  split
  · exact h
  · exact h.setPend hn false

theorem event {e n : Nat} (h : WritesOnly w s u) (he : w e) (hn : w (ECX_PEND (n / 32))) (b : Nat) : WritesOnly w s (u.event e b n) :=
  (h.setBit he b true).raise hn

theorem setCore (h : WritesOnly w s u) (c : CoreId) (k : Core) : WritesOnly w s (u.setCore c k) :=
  h.kept (regs_setCore u c k) (beat_setCore u c k) (mem_setCore u c k)

end WritesOnly

variable (s : State)

/-! ### Time -/

/-- What the settling of level sources keeps: whatever the clearing of a level source's PEND keeps, and the end of the cycle's
own marks (R161, R181). -/
theorem settleLevels_keeps {P : State → Prop} (hclr : ∀ t src, src < 864 → P t → P (t.clrPend src))
    (hend : ∀ t, P t → P { t with ecx := { t.ecx with fell := [], swPend := [] } }) (h : P s) : P s.settleLevels := by
  refine hend _ (List.foldlRecOn _ _ h fun t ht src _ => ?_)
  split
  next hlevel =>
    have hsrc : src < 864 := by
      simp only [State.isLevel, Bool.and_eq_true, decide_eq_true_eq] at hlevel
      exact hlevel.1.1.1
    exact hclr t src hsrc ht
  next => exact ht

/-- The words of the clocks that run by themselves. -/
def clockWords : List Nat := [BEAT_PHASE, LNK_TIME_LO, LNK_TIME_LO + 4, WDG_COUNT]

/-- The registers that time moves: the clocks, and PEND of level sources, which follows their signals. -/
def clockReg (a : Nat) : Prop := a ∈ clockWords ∨ ∃ g, g < 27 ∧ a = ECX_PEND g

/-- Time keeps whatever the stores to the clocks' registers, the settling of levels and the cores' cycle counters keep. -/
theorem advance_keeps {P : State → Prop} (hset : ∀ t a v, a ∈ clockWords → P t → P (t.setRg a v))
    (hsettle : ∀ t, P t → P t.settleLevels)
    (hcores : ∀ t k0 k1 k2 k3 kg m, P t → P { t with c0 := k0, c1 := k1, c2 := k2, c3 := k3, g0 := kg, subUs := m })
    (n : Nat) (h : P s) : P (s.advance n) := by
  have hclocks : ∀ p t, P ((s.setRg BEAT_PHASE p).setRg64 LNK_TIME_LO t) := fun p t =>
    hset _ _ _ (by simp [clockWords]) (hset _ _ _ (by simp [clockWords]) (hset _ _ _ (by simp [clockWords]) h))
  unfold State.advance
  split
  · exact h
  · extract_lets tot ns half us s1 up settled s2
    have hmoved : P settled := by
      dsimp only [settled]
      split
      · exact hclocks _ _
      · exact hsettle s1 (hclocks _ _)
    have hall : P s2 := hcores settled _ _ _ _ _ _ hmoved
    split
    · exact hset s2 WDG_COUNT _ (by simp [clockWords]) hall
    · exact hall

theorem writesOnly_advance (n : Nat) : WritesOnly clockReg s (s.advance n) :=
  advance_keeps s (P := WritesOnly clockReg s) (fun _ _ v ha h => h.setRg (.inl ha) v)
    (fun t h => settleLevels_keeps t (fun _ src hsrc h => h.clrPend (.inr ⟨src / 32, by omega, rfl⟩)) (fun _ h => h.withEcx _) h)
    (fun _ _ _ _ _ _ _ h => ⟨h.rg, h.beat, h.mem⟩) n (WritesOnly.refl _ s)

@[simp] theorem mem_advance (n : Nat) : (s.advance n).mem = s.mem := (writesOnly_advance s n).mem

/-- No source is claimed or completed by the passing of time. -/
@[simp] theorem claims_advance (n : Nat) : (s.advance n).ecx.claims = s.ecx.claims :=
  advance_keeps s (P := fun t => t.ecx.claims = s.ecx.claims) (fun _ _ _ _ h => h)
    (fun t h => settleLevels_keeps t (P := fun t => t.ecx.claims = s.ecx.claims) (fun _ _ _ h => h) (fun _ h => h) h)
    (fun _ _ _ _ _ _ _ h => h) n rfl

theorem isLevel_congr {s t : State} {src : Nat} (hclaims : t.ecx.claims = s.ecx.claims)
    (htype : t.rg (ECX_TYPE (src / 32)) = s.rg (ECX_TYPE (src / 32))) : t.isLevel src = s.isLevel src := by
  simp only [State.isLevel, State.claimOf, State.bit, hclaims, htype]

theorem not_clockReg_type {g : Nat} (hg : g < 27) : ¬ clockReg (ECX_TYPE g) := by
  simp only [clockReg, clockWords, ECX_TYPE, ECX_PEND, BEAT_PHASE, LNK_TIME_LO, WDG_COUNT, List.mem_cons, List.not_mem_nil, or_false]
  omega

/-- A source keeps its type while time passes (R160). -/
theorem isLevel_advance (n : Nat) {src : Nat} (hsrc : src < 864) : (s.advance n).isLevel src = s.isLevel src :=
  isLevel_congr (claims_advance s n) ((writesOnly_advance s n).rg _ (not_clockReg_type (by omega)))

/-! ### Pulses of a DMA trigger (R203) -/

/-- The registers that a pulse may write: those of the DMA, and PEND of its refused pulses' source 54. -/
abbrev dmaReg (a : Nat) : Prop := 0x40040000 ≤ a ∨ a = ECX_PEND 1

theorem dmaReg_chStat (n : Nat) : dmaReg (DMA_CH_STAT n) := .inl (by unfold DMA_CH_STAT; omega)

theorem dmaReg_chTmiss (n : Nat) : dmaReg (DMA_CH_TMISS n) := .inl (by unfold DMA_CH_TMISS; omega)

variable {s} {u : State}

theorem WritesOnly.dmaWake (h : WritesOnly dmaReg s u) (n : Nat) : WritesOnly dmaReg s (u.dmaWake n) := by
  unfold State.dmaWake
  dsimp only
  split
  · have hpend := h.setFld (dmaReg_chStat n) 16 4 (u.fld (DMA_CH_STAT n) 16 4 - 1)
    exact (hpend.withDma _).setFld (dmaReg_chStat n) 0 3 D_RUN
  · exact h

theorem WritesOnly.dmaPulseOne (h : WritesOnly dmaReg s u) (n : Nat) : WritesOnly dmaReg s (u.dmaPulseOne n) := by
  unfold State.dmaPulseOne
  dsimp only
  split
  · exact (h.count (dmaReg_chTmiss n) 1).event (.inl (by decide)) (.inr rfl) 1
  · exact (h.setFld (dmaReg_chStat n) 16 4 _).dmaWake n

theorem WritesOnly.dmaPulse (h : WritesOnly dmaReg s u) (t : Nat) : WritesOnly dmaReg s (u.dmaPulse t) := by
  unfold State.dmaPulse
  split
  · refine List.foldlRecOn _ _ h fun v hv n _ => ?_
    split
    · exact hv.dmaPulseOne n
    · exact hv
  · exact h

theorem WritesOnly.trigger {w : Nat → Prop} (h : WritesOnly w s u) (src : Nat) : WritesOnly w s (u.trigger src) := by
  unfold State.trigger
  split
  · exact h.withTmr _
  · exact h

/-! ### The Dispatcher serves waiting instructions (R131, R138, R151, R152) -/

/-- The registers that it may write: those of the windows DIS and ECX, which lie above the beat's. -/
abbrev dispReg (a : Nat) : Prop := 0x40020000 ≤ a

namespace WritesOnly

theorem lowCheck (h : WritesOnly dispReg s u) (k : Nat) : WritesOnly dispReg s (u.lowCheck k) := by
  unfold State.lowCheck
  dsimp only
  split
  · exact h.event (by decide : dispReg DIS_EVT) (by decide : dispReg (ECX_PEND 1)) 4
  · exact h

theorem makeReady {w : Nat → Prop} (h : WritesOnly w s u) (n : Nat) : WritesOnly w s (u.makeReady n) := by
  unfold State.makeReady
  dsimp only
  split
  · exact h.withDis _
  · exact (h.withDis _).withDis _

theorem complete (h : WritesOnly dispReg s u) (src : Nat) : WritesOnly dispReg s (u.complete src) := by
  have hpend : dispReg (ECX_PEND (src / 32)) := by unfold dispReg ECX_PEND; omega
  have hclaims : WritesOnly dispReg s { u with ecx := { u.ecx with claims := u.ecx.claims.filter (fun c => c.src != src) } } :=
    h.withEcx _
  unfold State.complete
  dsimp only
  split
  · split
    · exact hclaims.setPend hpend false
    · exact hclaims.clrPend hpend
  · exact hclaims

theorem completeBound (h : WritesOnly dispReg s u) (n : Nat) : WritesOnly dispReg s (u.completeBound n) := by
  unfold State.completeBound
  split
  · exact h
  · exact (h.withDis _).complete _

theorem releaseTask (h : WritesOnly dispReg s u) (n : Nat) : WritesOnly dispReg s (u.releaseTask n) := by
  unfold State.releaseTask
  dsimp only
  split
  · exact (h.withDis _).completeBound n
  · exact h.withDis _

theorem noslot (h : WritesOnly dispReg s u) : WritesOnly dispReg s u.noslot :=
  (h.count (by decide : dispReg DIS_NOSLOTCNT) 1).event (by decide : dispReg DIS_EVT) (by decide : dispReg (ECX_PEND 1)) 1

theorem postFrom (h : WritesOnly dispReg s u) {tpl pick m : Nat} {arg : Word} {t : State} (ht : u.postFrom tpl arg pick = some (m, t)) :
    WritesOnly dispReg s t := by
  unfold State.postFrom at ht
  dsimp only at ht
  split at ht
  · cases ht
  · cases ht
    exact ((h.withDis _).makeReady _).lowCheck _

theorem post (h : WritesOnly dispReg s u) (tpl : Nat) (arg : Word) (pick : Nat) : WritesOnly dispReg s (u.post tpl arg pick).2 := by
  unfold State.post
  dsimp only
  split
  · exact h
  · split
    · exact h.noslot
    · split
      next => exact h.noslot
      next hpost => exact h.postFrom hpost

theorem taskDone (h : WritesOnly dispReg s u) (n pick : Nat) : WritesOnly dispReg s (u.taskDone n pick).2 := by
  unfold State.taskDone
  split
  · exact h
  next idx _ =>
    have hreleased := ((h.releaseTask idx).withDis _ :
      WritesOnly dispReg s ((u.releaseTask idx).setDisCore n { u.disCore n with cur := none }))
    dsimp only
    split
    · exact hreleased
    · split
      next hpost => exact hreleased.postFrom hpost
      next =>
        exact ((hreleased.setRg (by unfold dispReg DIS_SUCC_IDX; omega) _).setRg (by unfold dispReg DIS_SUCC_ARG; omega) _).noslot

theorem serveDisp (h : WritesOnly dispReg s u) (c : CoreId) : WritesOnly dispReg s (u.serveDisp c) := by
  unfold State.serveDisp
  dsimp only
  split
  next pick _ => exact (h.taskDone c.num pick).setCore c _
  next tpl arg pick _ => exact (h.post tpl arg pick).setCore c _
  next => exact h

theorem serveWaiting (h : WritesOnly dispReg s u) : WritesOnly dispReg s u.serveWaiting := by
  unfold State.serveWaiting
  split
  · exact h
  · exact List.foldlRecOn _ _ h fun _ ht c _ => ht.serveDisp c

end WritesOnly

end Sys2Proof.Machine
end

section
/-! The clock register, the fabric capture and the BEAT block's commands (spec/01 R11 to R21, spec/02 R52 to R69, R579): the effect
of each write and event, and the statement BeatCommands. -/

namespace Sys2Proof.Machine

variable {s : State} {i : Initiator} {a : Nat} {v : Word}

/-! ### How a register command of the table runs -/

/-- A register command whose write the fabric lets through runs the register's own write. -/
theorem exec_served {c : Instr} {act : State → State} (hs : s.serves i a v = true)
    (hexec : exec c s = .next (s.guardW i a v act)) : exec c s = .next (act s) := by
  rw [hexec, guardW_serves s act hs]

theorem ends_served {c : Instr} {act : State → State} {P : State → Prop} (hs : s.serves i a v = true)
    (hexec : exec c s = .next (s.guardW i a v act)) (h : P (act s)) : Ends c s P :=
  ⟨_, exec_served hs hexec, h⟩

theorem command_accepted {p : CmdPort} {clash badState badArg : Bool} (act : State → State) (hclash : clash = false)
    (hstate : badState = false) (harg : badArg = false) : s.command p clash badState badArg act = act (s.accept p) := by
  rw [hclash, hstate, harg]
  rfl

theorem command_rejected_state {p : CmdPort} {badState badArg : Bool} (act : State → State) (hstate : badState = true) :
    s.command p false badState badArg act = s.reject p ST_STATE := by
  rw [hstate]
  rfl

theorem command_rejected_arg {p : CmdPort} {badState badArg : Bool} (act : State → State) (hstate : badState = false)
    (harg : badArg = true) : s.command p false badState badArg act = s.reject p ST_ARG := by
  rw [hstate, harg]
  rfl

theorem mem_bitsSet {w : Word} {m b : Nat} : b ∈ bitsSet w m ↔ b < m ∧ bitOf w b = true := by
  simp [bitsSet]

/-! ### SYS_CLKEN and SYS_FERR_INFO (R13, R21) -/

/-- Some block whose clock the write of `v` would gate is busy. -/
def State.gatesBusy (s : State) (v : Word) : Bool :=
  ((bitsSet (s.rg SYS_CLKEN) 23).filter (fun b => !bitOf v b)).any s.clkBusy

theorem gatesBusy_iff : s.gatesBusy v = true ↔
    ∃ b, b < 23 ∧ s.bit SYS_CLKEN b = true ∧ bitOf v b = false ∧ s.clkBusy b = true := by
  simp [State.gatesBusy, mem_bitsSet, State.bit, and_assoc]

theorem writeClken_eq (s : State) (v : Word) : s.writeClken v =
    s.command sysPort false (s.gatesBusy v) false (fun t => t.setRg SYS_CLKEN (v &&& 0x7FFFFF)) := rfl

theorem sysClkenWrite_free (hs : s.serves i SYS_CLKEN v = true)
    (hidle : ∀ b, b < 23 → s.bit SYS_CLKEN b = true → bitOf v b = false → s.clkBusy b = false) :
    Ends (.sysClkenWrite i v) s (fun u => u.rg SYS_CLKEN = v &&& 0x7FFFFF ∧ SameRegsBut s u [SYS_CLKEN, SYS_CMDST]) := by
  have hfree : s.gatesBusy v = false := by
    rw [Bool.eq_false_iff, ne_eq, gatesBusy_iff]
    rintro ⟨b, hb, hset, hclr, hbusy⟩
    exact absurd hbusy (by simp [hidle b hb hset hclr])
  refine ends_served hs rfl ?_
  rw [writeClken_eq, command_accepted _ rfl hfree rfl]
  exact ⟨rg_setRg_same _ _ _, (((WritesOnly.refl _ s).accept (by simp [sysPort])).setRg (by simp) _).sameRegsBut⟩

theorem sysClkenWrite_busy {b : Nat} (hs : s.serves i SYS_CLKEN v = true) (hb : b < 23) (hset : s.bit SYS_CLKEN b = true)
    (hclr : bitOf v b = false) (hbusy : s.clkBusy b = true) :
    exec (.sysClkenWrite i v) s = .next (s.reject sysPort ST_STATE) := by
  rw [exec_served hs rfl, writeClken_eq, command_rejected_state _ (gatesBusy_iff.mpr ⟨b, hb, hset, hclr, hbusy⟩)]

theorem ferrRearm_clears (hs : s.serves i SYS_FERR_INFO 0x80000000 = true) :
    Ends (.ferrRearm i) s (fun u => u.rg SYS_FERR_INFO = 0 ∧ u.rg SYS_FERR_ADDR = 0 ∧
      SameRegsBut s u [SYS_FERR_INFO, SYS_FERR_ADDR]) := by
  refine ends_served hs rfl ?_
  rw [show s.writeFerrInfo 0x80000000 = (s.setRg SYS_FERR_INFO 0).setRg SYS_FERR_ADDR 0 from rfl]
  refine ⟨?_, rg_setRg_same _ _ _, (((WritesOnly.refl _ s).setRg (by simp) _).setRg (by simp) _).sameRegsBut⟩
  rw [rg_setRg_ne _ _ (by decide), rg_setRg_same]

/-- A PLL's bit of SYS_CLKSTAT returns (R11). -/
theorem pllLockRegained_sets (s : State) (pll : Fin 3) :
    Ends (.pllLockRegained pll) s (fun u => u.bit SYS_CLKSTAT pll.val = true ∧ SameRegsBut s u [SYS_CLKSTAT]) :=
  ⟨s.setBit SYS_CLKSTAT pll.val true, rfl, bit_setBit_same s _ _ _ (by omega), ((WritesOnly.refl _ s).setBit (by simp) _ _).sameRegsBut⟩

/-! ### The follower's states (R52) -/

/-- A change of state writes BEAT_STAT's STATE and LEAD. -/
theorem rg_toBeatState_stat {st : Nat} (h : s.beatState ≠ st) :
    (s.toBeatState st).rg BEAT_STAT = withBit (withField (s.rg BEAT_STAT) 0 3 st) 3 (st == B_LEAD) := by
  have hstat : ((s.setFld BEAT_STAT 0 3 st).setBit BEAT_STAT 3 (st == B_LEAD)).rg BEAT_STAT =
      withBit (withField (s.rg BEAT_STAT) 0 3 st) 3 (st == B_LEAD) := by simp [rg_setBit, rg_setFld]
  rw [State.toBeatState, if_neg h, rg_raise_ne _ _ (by decide)]
  show State.rg (ite _ _ _) BEAT_STAT = _
  split <;> split <;> simp only [rg_setBit_ne _ _ _ (show BEAT_STAT ≠ BEAT_EVT by decide), hstat]

theorem rg_toBeatState_ne (st : Nat) (hstat : a ≠ BEAT_STAT) (hevt : a ≠ BEAT_EVT) (hpend : a ≠ ECX_PEND 0) :
    (s.toBeatState st).rg a = s.rg a := by
  unfold State.toBeatState
  dsimp only
  split
  · rfl
  · rw [rg_raise_ne _ _ hpend]
    show State.rg (ite _ _ _) a = _
    split <;> split <;> simp only [rg_setBit_ne _ _ _ hevt, rg_setBit_ne _ _ _ hstat, rg_setFld_ne _ _ _ _ hstat]

/-- The state that a change names is reached, whatever the state before. -/
theorem beatState_toBeatState (s : State) {st : Nat} (hst : st < 8) : (s.toBeatState st).beatState = st := by
  by_cases h : s.beatState = st
  · simp only [State.toBeatState, h, if_true]
  · rw [State.beatState, State.fld, rg_toBeatState_stat h, fieldOf_withBit_other _ _ _ _ _ (by decide) (by decide),
      fieldOf_withField_same _ _ _ _ (by decide)]
    omega

/-- Entering FREE gives up the manager's numbering (R281). -/
theorem numbered_toBeatState_free (h : s.beatState ≠ B_FREE) : (s.toBeatState B_FREE).beat.numbered = false := by
  simp [State.toBeatState, h]

theorem holdover_leads (hstate : s.beatState = 1 ∨ s.beatState = 2) (hsync : 4 ≤ s.beat.noSync) :
    Ends .holdover s (fun u => u.beatState = if s.rg BEAT_HOLDMAX = 0 then 0 else 3) := by
  have hmax : (s.toBeatState B_HOLDOVER).rg BEAT_HOLDMAX = s.rg BEAT_HOLDMAX :=
    rg_toBeatState_ne _ (by decide) (by decide) (by decide)
  have hexec : exec .holdover s = .next (if (s.rg BEAT_HOLDMAX).toNat = 0 then (s.toBeatState B_HOLDOVER).toBeatState B_FREE
      else s.toBeatState B_HOLDOVER) := by
    show execHoldover s = _
    rw [execHoldover, if_pos ⟨hstate, hsync⟩, ← hmax]
    rfl
  refine ⟨_, hexec, ?_⟩
  show State.beatState (ite _ _ _) = _
  by_cases hzero : s.rg BEAT_HOLDMAX = 0
  · rw [if_pos hzero, if_pos (by rw [hzero]; rfl), beatState_toBeatState _ (by decide)]
  · have hnum : ¬ (s.rg BEAT_HOLDMAX).toNat = 0 := fun h => hzero (BitVec.eq_of_toNat_eq h)
    rw [if_neg hzero, if_neg hnum, beatState_toBeatState _ (by decide)]

theorem holdmaxExpiry_frees (hstate : s.beatState = 3) (hbeats : (s.rg BEAT_HOLDMAX).toNat < s.beat.holdBeats) :
    Ends .holdmaxExpiry s (fun u => u.beatState = 0 ∧ u.beat.numbered = false) := by
  refine ⟨s.toBeatState B_FREE, congrArg Host.Outcome.next (if_pos ⟨hstate, hbeats⟩), beatState_toBeatState _ (by decide), ?_⟩
  exact numbered_toBeatState_free (by rw [hstate]; decide)

/-! ### Brim window and marks (R58, R69) -/

theorem brimEnd_clears (h : s.bit BEAT_STAT 8 = true) : Ends .brimEnd s (fun u => u.bit BEAT_STAT 8 = false ∧ u.mem = s.mem) := by
  refine ⟨(((s.advanceTo 6400).setBit BEAT_STAT 8 false).raise 2), congrArg Host.Outcome.next (if_pos h), ?_, ?_⟩
  · rw [State.bit, rg_raise_ne _ _ (by decide)]
    exact bit_setBit_same _ _ _ _ (by decide)
  · simp [State.advanceTo]

/-- A mark's pulse reaches its source before the trigger matrix and the DMA, which leave it pending. -/
theorem beatMark_raises {n : Fin 8} {w : Nat} (hmark : s.beat.marks[n.val]? = some w) (hen : w / 2 ^ 31 % 2 = 1)
    (hedge : s.isLevel (8 + n.val) = false) : Ends (.beatMark n) s (fun u => u.pendOf (8 + n.val) = true ∧ u.mem = s.mem) := by
  let t := s.advanceTo (w % 65536 * s.beatLen / 65536)
  have hexec : exec (.beatMark n) s = .next (((t.raise (8 + n.val)).trigger (50 + n.val)).dmaPulse (18 + n.val)) := by
    show execBeatMark n s = _
    rw [execBeatMark, hmark]
    exact congrArg Host.Outcome.next (if_pos hen)
  have hlevel : t.isLevel (8 + n.val) = false := (isLevel_advance s _ (by omega)).trans hedge
  have hpulses := ((WritesOnly.refl dmaReg (t.raise (8 + n.val))).trigger (50 + n.val)).dmaPulse (18 + n.val)
  have hword : ¬ dmaReg (ECX_PEND ((8 + n.val) / 32)) := by
    rw [show (8 + n.val) / 32 = 0 by omega]
    decide
  refine ⟨_, hexec, ?_, ?_⟩
  · rw [State.pendOf, State.bit, hpulses.rg _ hword]
    exact pendOf_raise t _ hlevel
  · rw [hpulses.mem, State.raise_mem]
    exact mem_advance s _

/-! ### The end of a group's copies (R67) -/

theorem cgStat_not_dispReg (n : Fin 8) : ¬ dispReg (CG_STAT n.val) := by decide +revert
theorem cgStat_ne_brimUse (n : Fin 8) : CG_STAT n.val ≠ BEAT_BRIMUSE := by decide +revert

/-- The group's copies have ended: it is APPLIED and no longer copies. -/
def State.cgEnded (s : State) (n : Nat) : State :=
  let t := ((s.setFld (CG_STAT n) 0 3 G_APPLIED).setBit BEAT_EVT 0 true).raise 3
  { t with beat := { t.beat with copying := t.beat.copying.filter (fun k => k != n) } }

theorem cgState_cgEnded (s : State) (n : Fin 8) : (s.cgEnded n.val).cgState n.val = G_APPLIED := by
  show State.fld (State.raise _ 3) _ 0 3 = _
  rw [State.fld, rg_raise_ne _ _ (by decide +revert), rg_setBit_ne _ _ _ (by decide +revert)]
  exact fld_setFld_same s _ _ _ _ (by decide)

theorem bit_cgEnded (s : State) (n : Nat) : (s.cgEnded n).bit BEAT_EVT 0 = true := by
  show State.bit (State.raise _ 3) _ 0 = _
  rw [State.bit, rg_raise_ne _ _ (by decide)]
  exact bit_setBit_same _ _ _ _ (by decide)

theorem copying_cgEnded (s : State) (n : Nat) : (s.cgEnded n).beat.copying.contains n = false := by
  simp [State.cgEnded]

/-- The waiting instructions that the last copies let go write nothing of the beat window, so the group stays APPLIED. -/
theorem cgApplied_applies {n : Fin 8} (hcopies : s.beat.copying.contains n.val = true) :
    Ends (.cgApplied n) s (fun u => u.cgState n.val = 2 ∧ u.bit BEAT_EVT 0 = true ∧ u.beat.copying.contains n.val = false) := by
  let t := s.draw.2.cgEnded n.val
  have hexec : ∃ x y, exec (.cgApplied n) s = .next ((t.setFld BEAT_BRIMUSE 0 16 x).setFld BEAT_BRIMUSE 16 16 y).serveWaiting :=
    ⟨_, _, congrArg Host.Outcome.next (if_pos hcopies)⟩
  obtain ⟨x, y, hexec⟩ := hexec
  have hserved := (WritesOnly.refl dispReg ((t.setFld BEAT_BRIMUSE 0 16 x).setFld BEAT_BRIMUSE 16 16 y)).serveWaiting
  refine ⟨_, hexec, ?_, ?_, ?_⟩
  · rw [State.cgState, State.fld, hserved.rg _ (cgStat_not_dispReg n), rg_setFld_ne _ _ _ _ (cgStat_ne_brimUse n),
      rg_setFld_ne _ _ _ _ (cgStat_ne_brimUse n)]
    exact cgState_cgEnded _ n
  · rw [State.bit, hserved.rg _ (by decide), rg_setFld_ne _ _ _ _ (by decide), rg_setFld_ne _ _ _ _ (by decide)]
    exact bit_cgEnded _ _
  · rw [hserved.beat]
    exact copying_cgEnded _ _

/-! ### Opening and cancelling a group (R63, R66, R68) -/

theorem rg64_congr {s u : State} (hlow : u.rg a = s.rg a) (hhigh : u.rg (a + 4) = s.rg (a + 4)) : u.rg64 a = s.rg64 a := by
  simp only [State.rg64, hlow, hhigh]

/-- The registers that OPEN writes. -/
def openRegs (n : Nat) : List Nat := [CG_STAT n, CG_ARMED n, CG_MISSING n, BEAT_CMDST]

/-- OPEN writes neither the present beat's number nor the group's beat and members. -/
theorem beatCount_not_openRegs (n : Fin 8) : BEAT_COUNT_LO ∉ openRegs n.val ∧ BEAT_COUNT_LO + 4 ∉ openRegs n.val := by decide +revert
theorem cgBeat_not_openRegs (n : Fin 8) : CG_BEAT_LO n.val ∉ openRegs n.val ∧ CG_BEAT_LO n.val + 4 ∉ openRegs n.val := by
  decide +revert
theorem cgMembers_not_openRegs (n : Fin 8) : CG_MEMBERS n.val ∉ openRegs n.val := by decide +revert

/-- The group as an accepted OPEN leaves it, before its beat is judged: OPEN, with no member armed. -/
def State.cgOpened (s : State) (n : Nat) : State :=
  (((s.accept beatPort).setRg (CG_ARMED n) 0).setRg (CG_MISSING n) 0).setFld (CG_STAT n) 0 3 G_OPEN

theorem writesOnly_cgOpened (s : State) (n : Nat) : WritesOnly (· ∈ openRegs n) s (s.cgOpened n) :=
  ((((WritesOnly.refl _ s).accept (by simp [beatPort, openRegs])).setRg (by simp [openRegs]) _).setRg (by simp [openRegs]) _).setFld
    (by simp [openRegs]) _ _ _

theorem cgState_cgOpened (s : State) (n : Nat) : (s.cgOpened n).cgState n = G_OPEN := fld_setFld_same _ _ _ _ _ (by decide)

theorem armed_cgOpened (s : State) (n : Fin 8) : (s.cgOpened n.val).rg (CG_ARMED n.val) = 0 := by
  rw [State.cgOpened, rg_setFld_ne _ _ _ _ (by decide +revert), rg_setRg_ne _ _ (by decide +revert), rg_setRg_same]

theorem status_cgOpened (s : State) (n : Fin 8) : (s.cgOpened n.val).fld BEAT_CMDST 0 4 = 0 := by
  rw [State.fld, State.cgOpened, rg_setFld_ne _ _ _ _ (by decide +revert), rg_setRg_ne _ _ (by decide +revert),
    rg_setRg_ne _ _ (by decide +revert)]
  exact st_accept s beatPort

/-- An OPEN that its checks let pass opens the group, and makes it LATE at once where its beat has come. -/
theorem writeCgCtrl_open {n : Fin 8} (hheld : s.cgHeld n.val = false)
    (hshared : s.cgShared n.val (s.rg (CG_MEMBERS n.val)) = false) (hmembers : s.rg (CG_MEMBERS n.val) ≠ 0) :
    s.writeCgCtrl n.val 1 = if s.cgBeat n.val ≤ s.beatNo then (s.cgOpened n.val).cgLate n.val (s.rg (CG_MEMBERS n.val))
      else s.cgOpened n.val := by
  have hregs := writesOnly_cgOpened s n.val
  have hbeat : (s.cgOpened n.val).cgBeat n.val = s.cgBeat n.val :=
    rg64_congr (hregs.rg _ (cgBeat_not_openRegs n).1) (hregs.rg _ (cgBeat_not_openRegs n).2)
  have hnow : (s.cgOpened n.val).beatNo = s.beatNo :=
    rg64_congr (hregs.rg _ (beatCount_not_openRegs n).1) (hregs.rg _ (beatCount_not_openRegs n).2)
  have hkeep : (s.cgOpened n.val).rg (CG_MEMBERS n.val) = s.rg (CG_MEMBERS n.val) := hregs.rg _ (cgMembers_not_openRegs n)
  have hcmd : s.writeCgCtrl n.val 1 = s.command beatPort false (s.cgHeld n.val || s.cgShared n.val (s.rg (CG_MEMBERS n.val)))
      (s.rg (CG_MEMBERS n.val) == 0) (fun t => t.cgDoOpen n.val) := rfl
  rw [hcmd, command_accepted _ rfl (by rw [hheld, hshared]; rfl) (beq_false_of_ne hmembers)]
  show (if (s.cgOpened n.val).cgBeat n.val ≤ (s.cgOpened n.val).beatNo then
    (s.cgOpened n.val).cgLate n.val ((s.cgOpened n.val).rg (CG_MEMBERS n.val)) else s.cgOpened n.val) = _
  rw [hbeat, hnow, hkeep]

theorem cgState_cgLate (s : State) (n : Fin 8) (m : Word) : (s.cgLate n.val m).cgState n.val = G_LATE := by
  rw [State.cgState, State.fld, State.cgLate, rg_raise_ne _ _ (by decide +revert), rg_setBit_ne _ _ _ (by decide +revert),
    rg_setRg_ne _ _ (by decide +revert)]
  exact fld_setFld_same _ _ _ _ _ (by decide)

theorem missing_cgLate (s : State) (n : Fin 8) (m : Word) : (s.cgLate n.val m).rg (CG_MISSING n.val) = m := by
  rw [State.cgLate, rg_raise_ne _ _ (by decide +revert), rg_setBit_ne _ _ _ (by decide +revert), rg_setRg_same]

theorem bit_cgLate (s : State) (n : Nat) (m : Word) : (s.cgLate n m).bit BEAT_EVT 1 = true := by
  rw [State.bit, State.cgLate, rg_raise_ne _ _ (by decide)]
  exact bit_setBit_same _ _ _ _ (by decide)

theorem cgOpen_opens {n : Fin 8} (hs : s.serves i (CG_CTRL n.val) 1 = true) (hheld : s.cgHeld n.val = false)
    (hshared : s.cgShared n.val (s.rg (CG_MEMBERS n.val)) = false) (hmembers : s.rg (CG_MEMBERS n.val) ≠ 0)
    (hahead : s.beatNo < s.cgBeat n.val) :
    Ends (.cgOpen i n) s (fun u => u.cgState n.val = 1 ∧ u.rg (CG_ARMED n.val) = 0 ∧ u.fld BEAT_CMDST 0 4 = 0 ∧
      SameRegsBut s u [CG_STAT n.val, CG_ARMED n.val, CG_MISSING n.val, BEAT_CMDST]) := by
  refine ends_served hs rfl ?_
  rw [writeCgCtrl_open hheld hshared hmembers, if_neg (Nat.not_le.mpr hahead)]
  exact ⟨cgState_cgOpened s _, armed_cgOpened s n, status_cgOpened s n, (writesOnly_cgOpened s _).sameRegsBut⟩

theorem cgOpen_late {n : Fin 8} (hs : s.serves i (CG_CTRL n.val) 1 = true) (hheld : s.cgHeld n.val = false)
    (hshared : s.cgShared n.val (s.rg (CG_MEMBERS n.val)) = false) (hmembers : s.rg (CG_MEMBERS n.val) ≠ 0)
    (hcome : s.cgBeat n.val ≤ s.beatNo) :
    Ends (.cgOpen i n) s (fun u => u.cgState n.val = 3 ∧ u.rg (CG_MISSING n.val) = s.rg (CG_MEMBERS n.val) ∧
      u.bit BEAT_EVT 1 = true) := by
  refine ends_served hs rfl ?_
  rw [writeCgCtrl_open hheld hshared hmembers, if_pos hcome]
  exact ⟨cgState_cgLate _ n _, missing_cgLate _ n _, bit_cgLate _ _ _⟩

/-- CANCEL is a command that only an OPEN group takes. -/
theorem writeCgCtrl_cancel (s : State) (n : Nat) : s.writeCgCtrl n 2 = s.command beatPort false (!s.cgOpen n) false
    (fun t => (t.setFld (CG_STAT n) 0 3 G_CANCELLED).setRg (CG_MISSING n) 0) := rfl

theorem cgCancel_ends {n : Fin 8} (hs : s.serves i (CG_CTRL n.val) 2 = true) (hopen : s.cgOpen n.val = true) :
    Ends (.cgCancel i n) s (fun u => u.cgState n.val = 4 ∧ SameRegsBut s u [CG_STAT n.val, CG_MISSING n.val, BEAT_CMDST] ∧
      u.live = s.live) := by
  refine ends_served hs rfl ?_
  rw [writeCgCtrl_cancel, command_accepted _ rfl (by simp [hopen]) rfl]
  refine ⟨?_, ((((WritesOnly.refl _ s).accept (by simp [beatPort])).setFld (by simp) _ _ _).setRg (by simp) _).sameRegsBut, rfl⟩
  rw [State.cgState, State.fld, rg_setRg_ne _ _ (by simp)]
  exact fld_setFld_same _ _ _ _ _ (by decide)

theorem cgCancel_refused {n : Fin 8} (hs : s.serves i (CG_CTRL n.val) 2 = true) (hopen : s.cgOpen n.val = false) :
    exec (.cgCancel i n) s = .next (s.reject beatPort ST_STATE) := by
  rw [exec_served hs rfl, writeCgCtrl_cancel, command_rejected_state _ (by simp [hopen])]

/-! ### Arming, members and beat (R63, R64) -/

theorem bitOf_armMask {d : Nat} (hd : d < 15) : bitOf (v &&& 0x7FFF) d = bitOf v d := by
  have hmask : (0x7FFF : Word).getLsbD d = true := by
    interval_cases d <;> rfl
  simp only [bitOf, BitVec.getLsbD_and, hmask, Bool.and_true]

/-- Some domain that the write of `v` would arm fails its check. -/
def State.armsBad (s : State) (v : Word) : Bool := (bitsSet (v &&& 0x7FFF) 15).any (fun d => !s.armOk d)

theorem armsBad_iff : s.armsBad v = true ↔ ∃ d, d < 15 ∧ bitOf v d = true ∧ s.armOk d = false := by
  have hbit : ∀ d, (d < 15 ∧ bitOf (v &&& 0x7FFF) d = true) ↔ (d < 15 ∧ bitOf v d = true) := fun d =>
    and_congr_right fun hd => by rw [bitOf_armMask hd]
  simp only [State.armsBad, List.any_eq_true, mem_bitsSet, hbit, Bool.not_eq_true', and_assoc]

theorem writeCgArmed_eq {n : Nat} (h : v &&& 0x7FFF ≠ 0) : s.writeCgArmed n v = s.command beatPort false (!s.cgOpen n)
    (((v &&& 0x7FFF) &&& ~~~(s.rg (CG_MEMBERS n))) != 0 || s.armsBad v)
    (fun t => t.setRg (CG_ARMED n) (t.rg (CG_ARMED n) ||| (v &&& 0x7FFF))) := if_neg h

theorem cgArmed_ne_cmdst (n : Fin 8) : CG_ARMED n.val ≠ BEAT_CMDST := by decide +revert

theorem cgArm_arms {n : Fin 8} (hs : s.serves i (CG_ARMED n.val) v = true) (hopen : s.cgOpen n.val = true) (hv : v &&& 0x7FFF ≠ 0)
    (hmembers : (v &&& 0x7FFF) &&& ~~~(s.rg (CG_MEMBERS n.val)) = 0) (hok : ∀ d, d < 15 → bitOf v d = true → s.armOk d = true) :
    Ends (.cgArm i n v) s (fun u => u.rg (CG_ARMED n.val) = s.rg (CG_ARMED n.val) ||| (v &&& 0x7FFF) ∧
      SameRegsBut s u [CG_ARMED n.val, BEAT_CMDST]) := by
  have hgood : s.armsBad v = false := by
    rw [Bool.eq_false_iff, ne_eq, armsBad_iff]
    rintro ⟨d, hd, hset, hbad⟩
    exact absurd (hok d hd hset) (by simp [hbad])
  refine ends_served hs rfl ?_
  rw [writeCgArmed_eq hv, command_accepted _ rfl (by rw [hopen]; rfl) (by rw [hmembers, hgood]; rfl)]
  refine ⟨?_, (((WritesOnly.refl _ s).accept (by simp [beatPort])).setRg (by simp) _).sameRegsBut⟩
  rw [rg_setRg_same, rg_accept_ne s beatPort (cgArmed_ne_cmdst n)]

theorem cgArm_refused {n : Fin 8} {d : Nat} (hs : s.serves i (CG_ARMED n.val) v = true) (hopen : s.cgOpen n.val = true) (hd : d < 15)
    (hset : bitOf v d = true) (hbad : s.armOk d = false) : exec (.cgArm i n v) s = .next (s.reject beatPort ST_ARG) := by
  have hv : v &&& 0x7FFF ≠ 0 := fun h => by
    have hclear := bitOf_armMask (v := v) hd
    rw [h, hset] at hclear
    simp [bitOf] at hclear
  have hany : s.armsBad v = true := armsBad_iff.mpr ⟨d, hd, hset, hbad⟩
  rw [exec_served hs rfl, writeCgArmed_eq hv, command_rejected_arg _ (by simp [hopen]) (by simp [hany])]

theorem cgMembersWrite_stores {n : Fin 8} (hs : s.serves i (CG_MEMBERS n.val) v = true) (hheld : s.cgHeld n.val = false) :
    Ends (.cgMembersWrite i n v) s (fun u => u.rg (CG_MEMBERS n.val) = v &&& 0x7FFF ∧
      SameRegsBut s u [CG_MEMBERS n.val, BEAT_CMDST]) := by
  refine ends_served hs rfl ?_
  rw [State.writeCgMembers, command_accepted _ rfl hheld rfl]
  exact ⟨rg_setRg_same _ _ _, (((WritesOnly.refl _ s).accept (by simp [beatPort])).setRg (by simp) _).sameRegsBut⟩

/-- The two words of CG_BEAT, `k` 0 and 1. -/
def cgBeatRow (k : Nat) : RegRow := { off := 0x108 + 4 * k, n1 := 8, s1 := 0x20, rw := 0xFFFFFFFF, word := k, words := 2 }

theorem regAt_cgBeatLo (n : Fin 8) : regAt (CG_BEAT_LO n.val) = some (cgBeatRow 0, n.val, 0) := by decide +revert
theorem regAt_cgBeatHi (n : Fin 8) : regAt (CG_BEAT_HI n.val) = some (cgBeatRow 1, n.val, 0) := by decide +revert

theorem cgBeatHi_sub (n : Nat) : CG_BEAT_HI n - 4 = CG_BEAT_LO n := by unfold CG_BEAT_HI CG_BEAT_LO; omega
theorem cgBeatLo_add (n : Nat) : CG_BEAT_LO n + 4 = CG_BEAT_HI n := by unfold CG_BEAT_HI CG_BEAT_LO; omega

theorem stored_cgBeatRow (k : Nat) (old v : Word) : (cgBeatRow k).stored old v = v := stored_of_all_rw old v rfl rfl rfl

theorem writeCgBeat_commits {n : Fin 8} {lo : Word} (hheld : s.cgHeld n.val = false)
    (hpend : s.pendingWord i (CG_BEAT_LO n.val) = some lo) : s.writeCgBeat i n.val v =
      (((s.accept beatPort).storeReg (CG_BEAT_LO n.val) (cgBeatRow 0) lo).storeReg (CG_BEAT_HI n.val) (cgBeatRow 1) v).clearPending i
        (CG_BEAT_HI n.val) 2 := by
  have hcommit := commitWords_two (s.accept beatPort) (i := i) (a := CG_BEAT_HI n.val) (row := cgBeatRow 1) (v := v) rfl rfl
    (by rw [cgBeatHi_sub]; exact regAt_cgBeatLo n) (by rw [cgBeatHi_sub]; exact hpend)
  rw [cgBeatHi_sub] at hcommit
  simp only [State.writeCgBeat, hheld, regAt_cgBeatHi, Bool.false_eq_true, if_false, hcommit]

theorem cgBeatWrite_commits {n : Fin 8} {lo : Word} (hs : s.serves i (CG_BEAT_HI n.val) v = true) (hheld : s.cgHeld n.val = false)
    (hpend : s.pendingWord i (CG_BEAT_LO n.val) = some lo) :
    Ends (.cgBeatWrite i n v) s (fun u => u.cgBeat n.val = lo.toNat + 2 ^ 32 * v.toNat) := by
  refine ends_served hs rfl ?_
  have hne : CG_BEAT_LO n.val ≠ CG_BEAT_HI n.val := by simp
  rw [writeCgBeat_commits hheld hpend, State.cgBeat, State.rg64, cgBeatLo_add]
  simp only [rg_clearPending, rg_storeReg, stored_cgBeatRow, if_true, if_neg hne]
  rfl

/-! ### Shadow registers (R62) -/

variable {row : RegRow} {x y d : Nat}

/-- The command places a write of the shadow register at its address. -/
theorem exec_shadowWrite (hrow : regAt a = some (row, x, y)) (hsh : row.sh = some d) (ha : a < 2 ^ 32)
    (hs : s.serves i a v = true) : exec (.shadowWrite i (BitVec.ofNat 32 a) v) s = .next (s.writeShadow a v) := by
  have hword : (BitVec.ofNat 32 a).toNat = a := by rw [BitVec.toNat_ofNat, Nat.mod_eq_of_lt ha]
  have hdom : domainOf a = some d := by rw [domainOf, hrow]; exact hsh
  show execShadowWrite i (BitVec.ofNat 32 a) v s = _
  rw [execShadowWrite, hword, hdom]
  exact congrArg Host.Outcome.next (guardW_serves s _ hs)

theorem writeShadow_zero (hrow : regAt a = some (row, x, y)) (hsh : row.sh = some 0) :
    s.writeShadow a v = s.command beatPort false s.domain0Armed false (fun t => t.storeReg a row v) := by
  simp only [State.writeShadow, hrow, hsh, if_true]

theorem writeShadow_other (hrow : regAt a = some (row, x, y)) (hsh : row.sh = some d) (hd : d ≠ 0) :
    s.writeShadow a v = s.storeReg a row v := by
  simp only [State.writeShadow, hrow, hsh, if_neg hd]

theorem live_storeReg (s : State) (k : Nat) (row : RegRow) (v : Word) : (s.storeReg k row v).live = s.live := by
  rw [storeReg_eq]
  rfl

/-- BEAT_CMDST is no shadow register. -/
theorem ne_cmdst_of_shadow (hrow : regAt a = some (row, x, y)) (hsh : row.sh = some d) : a ≠ BEAT_CMDST := by
  rintro rfl
  have hcmdst : regAt BEAT_CMDST = some ({ off := 0x30 }, 0, 0) := rfl
  rw [hcmdst] at hrow
  cases hrow
  cases hsh

/-- What an accepted write of a shadow register leaves; a write of domain 0 is a command and posts its status besides. -/
theorem shadowWrite_stores (hrow : regAt a = some (row, x, y)) (hsh : row.sh = some d) (ha : a < 2 ^ 32)
    (hs : s.serves i a v = true) (hfree : d ≠ 0 ∨ s.domain0Armed = false) :
    Ends (.shadowWrite i (BitVec.ofNat 32 a) v) s (fun u => u.rg a = row.stored (s.rg a) v ∧ SameRegsBut s u [a, BEAT_CMDST] ∧
      (d ≠ 0 → u.rg BEAT_CMDST = s.rg BEAT_CMDST) ∧ u.live = s.live) := by
  have hne := ne_cmdst_of_shadow hrow hsh
  refine ⟨_, exec_shadowWrite hrow hsh ha hs, ?_⟩
  by_cases hd : d = 0
  · subst hd
    have hunarmed := hfree.resolve_left (fun h => h rfl)
    rw [writeShadow_zero hrow hsh, command_accepted _ rfl hunarmed rfl]
    refine ⟨?_, (((WritesOnly.refl _ s).accept (by simp [beatPort])).storeReg (by simp) row v).sameRegsBut, fun h => absurd rfl h,
      live_storeReg _ _ _ _⟩
    rw [rg_storeReg, if_pos rfl, rg_accept_ne s beatPort hne]
  · rw [writeShadow_other hrow hsh hd]
    refine ⟨?_, ((WritesOnly.refl _ s).storeReg (by simp) row v).sameRegsBut, fun _ => ?_, live_storeReg _ _ _ _⟩
    · rw [rg_storeReg, if_pos rfl]
    · rw [rg_storeReg, if_neg hne.symm]

theorem shadowWrite_refused (hrow : regAt a = some (row, x, y)) (hsh : row.sh = some 0) (ha : a < 2 ^ 32)
    (hs : s.serves i a v = true) (harmed : s.domain0Armed = true) :
    exec (.shadowWrite i (BitVec.ofNat 32 a) v) s = .next (s.reject beatPort ST_STATE) := by
  rw [exec_shadowWrite hrow hsh ha hs, writeShadow_zero hrow hsh, command_rejected_state _ harmed]

/-- Settles O30: each clause is one of the rules above. A group whose copies run still reads OPEN, yet CANCEL and arming meet STATE
(the model's reading, log entry 8). -/
theorem beatCommands : Obligations.BeatCommands := by
  intro s i n v lo pll
  refine ⟨sysClkenWrite_free, fun b => sysClkenWrite_busy, ferrRearm_clears, pllLockRegained_sets s pll, holdover_leads,
    holdmaxExpiry_frees, cgApplied_applies, brimEnd_clears, fun w => beatMark_raises, cgOpen_opens, cgOpen_late, cgCancel_ends,
    cgCancel_refused, cgArm_arms, fun d => cgArm_refused, cgMembersWrite_stores, cgBeatWrite_commits, ?_, ?_⟩
  · intro a row x y d hrow hsh ha hs hfree
    exact shadowWrite_stores hrow hsh ha hs hfree
  · intro a row x y hrow hsh ha hs harmed
    exact shadowWrite_refused hrow hsh ha hs harmed

end Sys2Proof.Machine
end

section
/-! The queue (spec/01 R37, R38): the command at its front, and the statement StepTakesFront. -/

namespace Sys2Proof.Machine

variable {s : State}

theorem step_cons {c : Instr} {rest : List Instr} (h : s.pending = c :: rest) : step s = exec c { s with pending := rest } := by
  rw [step, h]

theorem step_nil (h : s.pending = []) : step s = .next (s.advance 1) := by
  rw [step, h]

/-- Settles O58: the queue's two cases; no word of the table decodes. -/
theorem stepTakesFront : Obligations.StepTakesFront := by
  intro c s rest nbits w
  exact ⟨step_cons, step_nil, rfl⟩

end Sys2Proof.Machine
end

section
/-! The generator at the beat edge (spec/02 R44 to R56): the length and the number of the beat, the next length, and the cores. -/

namespace Sys2Proof.Machine

variable {s u : State} {w : Nat → Prop}

/-! ### Numbers of two registers -/

theorem rg64_setRg64 (s : State) (a v : Nat) : (s.setRg64 a v).rg64 a = v % 2 ^ 64 := by
  simp only [State.rg64, State.setRg64, rg_setRg, w32_toNat, if_true, if_neg (show a ≠ a + 4 by omega)]
  omega

theorem rg_setRg64_ne {a b : Nat} (v : Nat) (hlow : b ≠ a) (hhigh : b ≠ a + 4) : (s.setRg64 a v).rg b = s.rg b := by
  rw [State.setRg64, rg_setRg_ne _ _ hhigh, rg_setRg_ne _ _ hlow]

theorem WritesOnly.setRg64 {a : Nat} (h : WritesOnly w s u) (hlow : w a) (hhigh : w (a + 4)) (v : Nat) : WritesOnly w s (u.setRg64 a v) :=
  (h.setRg hlow _).setRg hhigh _

/-- An operation within a chain may be followed by one that writes the same registers. -/
theorem WritesOnly.trans {t : State} (h : WritesOnly w s u) (g : WritesOnly w u t) : WritesOnly w s t :=
  ⟨fun a ha => (g.rg a ha).trans (h.rg a ha), g.beat.trans h.beat, g.mem.trans h.mem⟩

theorem WritesOnly.bit {a : Nat} (h : WritesOnly w s u) (ha : ¬ w a) (n : Nat) : u.bit a n = s.bit a n := by
  rw [State.bit, State.bit, h.rg a ha]

theorem WritesOnly.fld {a : Nat} (h : WritesOnly w s u) (ha : ¬ w a) (lo len : Nat) : u.fld a lo len = s.fld a lo len := by
  rw [State.fld, State.fld, h.rg a ha]

theorem WritesOnly.rg64 {a : Nat} (h : WritesOnly w s u) (hlow : ¬ w a) (hhigh : ¬ w (a + 4)) : u.rg64 a = s.rg64 a :=
  rg64_congr (h.rg a hlow) (h.rg _ hhigh)

theorem WritesOnly.weaken {u : State} {w w' : Nat → Prop} (h : WritesOnly w s u) (hw : ∀ a, w a → w' a) : WritesOnly w' s u :=
  ⟨fun a ha => h.rg a (fun g => ha (hw a g)), h.beat, h.mem⟩

theorem dispReg_pend (g : Nat) : dispReg (ECX_PEND g) := by unfold dispReg ECX_PEND; omega

theorem WritesOnly.evt {u : State} {e : Nat} (h : WritesOnly dispReg s u) (he : dispReg e) (k n : Nat) :
    WritesOnly dispReg s (u.event e k n) := h.event he (dispReg_pend _) k

theorem WritesOnly.ite {p : Prop} [Decidable p] {a b : State} (ha : WritesOnly w s a) (hb : WritesOnly w s b) :
    WritesOnly w s (if p then a else b) := by
  split
  · exact ha
  · exact hb

/-! ### The generator at the edge (R44, R54, R56) -/

/-- A device in FREE or LEAD numbers its edges by itself. -/
theorem numberEdge_own (h : s.beatState = 0 ∨ s.beatState = 4) : s.numberEdge = s.setRg64 BEAT_COUNT_LO ((s.beatNo + 1) % 2 ^ 64) := by
  have hnone : s.managerNumber = none := if_pos h
  simp only [State.numberEdge, hnone]

/-- The registers that the number of an edge writes. -/
def numberRegs : List Nat := [BEAT_COUNT_LO, BEAT_COUNT_LO + 4, BEAT_EVT, BEAT_STAT, ECX_PEND 0]

theorem rg_numberEdge_ne {a : Nat} (ha : a ∉ numberRegs) : s.numberEdge.rg a = s.rg a := by
  simp only [numberRegs, List.mem_cons, List.not_mem_nil, or_false, not_or] at ha
  obtain ⟨hlow, hhigh, hevt, hstat, hpend⟩ := ha
  have hup : ∀ v, (s.setRg64 BEAT_COUNT_LO v).rg a = s.rg a := fun v => rg_setRg64_ne v hlow hhigh
  unfold State.numberEdge
  dsimp only
  split
  · exact hup _
  · split
    · exact hup _
    · split
      · rw [rg_raise_ne _ _ hpend, rg_setBit_ne _ _ _ hevt]
        exact hup _
      · rw [rg_toBeatState_ne _ hstat hevt hpend, rg_raise_ne _ _ hpend, rg_setBit_ne _ _ _ hevt]
        exact hup _

theorem regs_takeRate (s : State) : s.takeRate.regs = s.regs := by
  unfold State.takeRate
  dsimp only
  split
  · rfl
  · split <;> rfl

theorem rg_setTopology_ne {a : Nat} (k : Nat) (hstat : a ≠ LNK_STAT) (hevt : a ≠ LNK_EVT) (hpend : a ≠ ECX_PEND 6) :
    (s.setTopology k).rg a = s.rg a := by
  unfold State.setTopology
  split
  · rfl
  · rw [State.lnkEvt, rg_event_ne _ _ _ _ hpend hevt, rg_setFld_ne _ _ _ _ hstat]

/-- The counts of beats write no register but those of a change of topology. -/
theorem rg_countBeat_ne {a : Nat} (hstat : a ≠ LNK_STAT) (hevt : a ≠ LNK_EVT) (hpend : a ≠ ECX_PEND 6) :
    s.countBeat.rg a = s.rg a := by
  unfold State.countBeat
  extract_lets hold s1 s2
  show State.rg (ite _ _ _) a = _
  split
  · rfl
  · exact rg_setTopology_ne _ hstat hevt hpend

/-- After the number only the topology's registers change at the edge. -/
theorem rg_clockEdge_ne {a : Nat} (hstat : a ≠ LNK_STAT) (hevt : a ≠ LNK_EVT) (hpend : a ≠ ECX_PEND 6) :
    s.clockEdge.rg a = ((s.setRg BEAT_LAST (s.rg BEAT_PHASE)).setRg BEAT_PHASE 0).numberEdge.rg a := by
  rw [State.clockEdge, rg_countBeat_ne hstat hevt hpend, rg_congr (regs_takeRate _)]

theorem clockEdge_last (s : State) : s.clockEdge.rg BEAT_LAST = s.rg BEAT_PHASE := by
  rw [rg_clockEdge_ne (by decide) (by decide) (by decide), rg_numberEdge_ne (by decide), rg_setRg_ne _ _ (by decide), rg_setRg_same]

theorem clockEdge_phase (s : State) : s.clockEdge.rg BEAT_PHASE = 0 := by
  rw [rg_clockEdge_ne (by decide) (by decide) (by decide), rg_numberEdge_ne (by decide), rg_setRg_same]

theorem clockEdge_count (h : s.beatState = 0 ∨ s.beatState = 4) : s.clockEdge.rg64 BEAT_COUNT_LO = (s.beatNo + 1) % 2 ^ 64 := by
  have hlast := (WritesOnly.refl (· ∈ [BEAT_LAST, BEAT_PHASE]) s).setRg (a := BEAT_LAST) (by simp) (s.rg BEAT_PHASE)
  have hcleared := hlast.setRg (a := BEAT_PHASE) (by simp) 0
  have hno := hcleared.rg64 (a := BEAT_COUNT_LO) (by decide) (by decide)
  rw [rg64_congr (rg_clockEdge_ne (by decide) (by decide) (by decide)) (rg_clockEdge_ne (by decide) (by decide) (by decide)),
    numberEdge_own (by rw [State.beatState, hcleared.fld (by decide)]; exact h), rg64_setRg64, State.beatNo, hno, Nat.mod_mod]
  rfl

/-! ### The next length (R44, R46) -/

theorem placeNext_waits (hblank : s.byVblank = true) (hsrc : s.bit BEAT_STAT 4 = false) : s.placeNext.beat.len = none := by
  simp [State.placeNext, hblank, hsrc]

/-- The placed length is the floor, and the rest stays in the accumulator. -/
theorem placeNext_places (h : s.byVblank = false ∨ s.bit BEAT_STAT 4 = true) : ∃ len, s.placeNext.beat.len = some len ∧
    s.placeNext.beat.acc < max 1 s.nextPeriod.2 ∧
    len * max 1 s.nextPeriod.2 + s.placeNext.beat.acc = s.beat.acc + s.nextPeriod.1 := by
  have hwait : (s.byVblank && !s.bit BEAT_STAT 4) = false := by
    rcases h with h | h <;> simp [h]
  have hplaced : s.placeNext = { s with beat := { s.beat with
      len := some ((s.beat.acc + s.nextPeriod.1) / max 1 s.nextPeriod.2)
      acc := (s.beat.acc + s.nextPeriod.1) % max 1 s.nextPeriod.2 } } := by
    simp only [State.placeNext, hwait, Bool.false_eq_true, if_false]
  rw [hplaced]
  exact ⟨_, rfl, Nat.mod_lt _ (by omega), Nat.div_add_mod' _ _⟩

/-! ### Cores at the edge (R130) -/

theorem core_coresEdge (s : State) (m : CoreId) : s.coresEdge.core m = (s.core m).seeEdge s.beatNo := by cases m <;> rfl

theorem coresEdge_wbeat {m : CoreId} {d : Nat} (h : (s.core m).run = .wbeat d none) :
    (s.coresEdge.core m).run = .wbeat d (some s.beatNo) := by
  rw [core_coresEdge, Core.seeEdge, h]

theorem coresEdge_wbeatn {m : CoreId} {d t : Nat} (h : (s.core m).run = .wbeatn d t none) :
    (s.coresEdge.core m).run = .wbeatn d t (if t ≤ s.beatNo then some s.beatNo else none) := by
  rw [core_coresEdge, Core.seeEdge, h]
  dsimp only
  split
  · rfl
  · exact h

end Sys2Proof.Machine
end

section
/-! The groups at the edge (spec/02 R62, R65, R66, R70): the copies of shadows to live registers, and the judgement of a group. -/

namespace Sys2Proof.Machine

variable {s t : State}

/-! ### Sparse maps filtered by their keys, and one stored over another -/

section
variable {α : Type}

theorem smGet_filter_key (d : Nat → α) (p : Nat → Bool) (m : List (Nat × α)) (j : Nat) :
    smGet d (m.filter (fun e => p e.1)) j = if p j = true then smGet d m j else d j := by
  induction m with
  | nil => simp [smGet]
  | cons e m ih =>
    obtain ⟨k, v⟩ := e
    rw [List.filter_cons]
    by_cases hj : j = k
    · subst hj
      by_cases hp : p j = true <;> simp [smGet, hp, ih]
    · by_cases hp : p k = true <;> simp [smGet, hj, hp, ih]

variable [DecidableEq α] {d : Nat → α}

/-- A canonical map says nothing of the keys at or below its lower bound. -/
theorem smGet_below {lo j : Nat} {m : List (Nat × α)} (h : smWfFrom d (some lo) m = true) (hj : j ≤ lo) : smGet d m j = d j := by
  induction m generalizing lo with
  | nil => rfl
  | cons e m ih =>
    obtain ⟨k, v⟩ := e
    simp only [smWfFrom, Bool.and_eq_true, decide_eq_true_eq] at h
    obtain ⟨⟨hlt, -⟩, htail⟩ := h
    rw [smGet, if_neg (by omega), ih htail (by omega)]

/-- A canonical map stored over another one: its own values where it lists one, else those beneath. -/
theorem smGet_foldl_smSet {lo : Option Nat} {l : List (Nat × α)} (h : smWfFrom d lo l = true) (m : List (Nat × α)) (j : Nat) :
    smGet d (l.foldl (fun m e => smSet d m e.1 e.2) m) j = if smGet d l j = d j then smGet d m j else smGet d l j := by
  induction l generalizing lo m with
  | nil => simp [smGet]
  | cons e l ih =>
    obtain ⟨k, v⟩ := e
    have htail := smWfFrom_tail h
    have hv : v ≠ d k := by
      simp only [smWfFrom, Bool.and_eq_true, decide_eq_true_eq] at h
      exact h.1.2
    rw [List.foldl_cons, ih htail, smGet_smSet]
    by_cases hj : j = k
    · subst hj
      simp [smGet, smGet_below htail (Nat.le_refl _), hv]
    · simp [smGet, hj]

end

/-! ### The copy of a domain (R62, R70) -/

/-- A copy loads the domain's live registers with their shadows, and no others. -/
theorem lv_copyDomain (h : smWf resetOf s.regs = true) (d a : Nat) :
    (s.copyDomain d).lv a = if domainOf a = some d then s.rg a else s.lv a := by
  have hmine : smWf resetOf (s.regs.filter (fun e => domainOf e.1 == some d)) = true := smWf_filter h _
  simp only [State.lv, State.rg, State.copyDomain, smDrop]
  rw [smGet_foldl_smSet hmine, smGet_filter_key resetOf (fun b => domainOf b == some d),
    smGet_filter_key resetOf (fun b => !(domainOf b == some d))]
  by_cases hdom : domainOf a = some d
  · simp [hdom]
    exact fun e => e.symm
  · simp [hdom]

/-- `t` keeps the live values and the shadows of `s`, and the canonical form of its registers. -/
structure KeepsShadows (s t : State) : Prop where
  live : t.live = s.live
  shadow : ∀ a d, domainOf a = some d → t.rg a = s.rg a
  wf : smWf resetOf s.regs = true → smWf resetOf t.regs = true

namespace KeepsShadows

theorem of_regs (hlive : t.live = s.live) (hregs : t.regs = s.regs) : KeepsShadows s t :=
  ⟨hlive, fun a _ _ => rg_congr hregs a, fun h => by rw [hregs]; exact h⟩

theorem refl (s : State) : KeepsShadows s s := of_regs rfl rfl

theorem trans {u : State} (h : KeepsShadows s t) (g : KeepsShadows t u) : KeepsShadows s u :=
  ⟨g.live.trans h.live, fun a d ha => (g.shadow a d ha).trans (h.shadow a d ha), fun hs => g.wf (h.wf hs)⟩

/-- A store to a register that has no shadow. -/
theorem setRg {a : Nat} (s : State) (v : Word) (ha : domainOf a = none) : KeepsShadows s (s.setRg a v) := by
  refine ⟨rfl, fun b d hb => rg_setRg_ne s v ?_, fun h => smWf_smSet h a v⟩
  rintro rfl
  rw [ha] at hb
  cases hb

end KeepsShadows

theorem domainOf_tmrOut : ∀ n : Fin 16, domainOf (TMR_OUT n.val) = none := by decide

theorem keepsShadows_tmrCommitUnit (s old : State) {n : Nat} (hn : n < 16) (x : Nat) : KeepsShadows s (s.tmrCommitUnit old n x) := by
  unfold State.tmrCommitUnit
  extract_lets a u
  have hedges : KeepsShadows s u := .of_regs rfl rfl
  split
  · exact .refl s
  · split
    · exact hedges
    · exact hedges.trans (.setRg _ _ (domainOf_tmrOut ⟨n, hn⟩))

theorem keepsShadows_tmrCommit (s old : State) : KeepsShadows s (s.tmrCommit old) :=
  List.foldlRecOn _ _ (.refl s) fun t ht _ hn =>
    (ht.trans (keepsShadows_tmrCommitUnit t old (List.mem_range.mp hn) 0)).trans
      (keepsShadows_tmrCommitUnit _ old (List.mem_range.mp hn) 1)

/-- What a copy causes in its block changes no shadow and no live value. -/
theorem keepsShadows_afterCopy (s old : State) (d : Nat) : KeepsShadows s (s.afterCopy old d) := by
  unfold State.afterCopy
  dsimp only
  split
  · exact .of_regs rfl rfl
  · split
    · exact .of_regs rfl rfl
    · split
      · split
        · unfold State.vertLost
          split <;> exact .of_regs rfl rfl
        · exact .refl s
      · split
        · exact keepsShadows_tmrCommit s old
        · exact .refl s

/-- The copies of some domains, one after the other: their live registers have the shadows' values, and no others change. -/
theorem lv_copyDomains (l : List Nat) (hwf : smWf resetOf s.regs = true) {a d : Nat} (ha : domainOf a = some d) :
    (l.foldl (fun t d => (t.copyDomain d).afterCopy t d) s).lv a = if d ∈ l then s.rg a else s.lv a := by
  induction l generalizing s with
  | nil => simp
  | cons e l ih =>
    have hafter := keepsShadows_afterCopy (s.copyDomain e) s e
    have hshadow : ((s.copyDomain e).afterCopy s e).rg a = s.rg a := hafter.shadow a d ha
    have hlive : ((s.copyDomain e).afterCopy s e).lv a = if d = e then s.rg a else s.lv a := by
      rw [lv_congr hafter.live, lv_copyDomain hwf]
      simp [ha]
    rw [List.foldl_cons, ih (hafter.wf hwf), hshadow, hlive]
    by_cases hl : d ∈ l <;> by_cases he : d = e <;> simp [hl, he]

/-! ### The judgement of a group (R65, R66) -/

theorem judgeGroup_copies {n : Nat} (hopen : s.cgOpen n = true) (hbeat : s.cgBeat n = s.beatNo) (hall : s.cgMissing n = 0) :
    s.judgeGroup n = s.copyGroup n := by
  simp [State.judgeGroup, hopen, hbeat, hall]

theorem judgeGroup_late {n : Nat} (hopen : s.cgOpen n = true) (hcome : s.cgBeat n ≤ s.beatNo)
    (h : s.cgBeat n < s.beatNo ∨ s.cgMissing n ≠ 0) : s.judgeGroup n = s.cgLate n (s.cgMissing n) := by
  have hnot : ¬(s.cgBeat n = s.beatNo ∧ s.cgMissing n = 0) := fun ⟨hbeat, hall⟩ => h.elim (fun hlt => by omega) (fun hne => hne hall)
  rw [State.judgeGroup, if_pos (by simp [hopen, hcome]), if_neg hnot]

/-- A complete group at its beat copies its members' shadows and no others. -/
theorem lv_judgeGroup {n a d y z : Nat} {row : RegRow} (hcan : s.canonical = true) (hopen : s.cgOpen n = true)
    (hbeat : s.cgBeat n = s.beatNo) (hall : s.cgMissing n = 0) (hrow : regAt a = some (row, y, z)) (hsh : row.sh = some d)
    (hd : d < 15) : (s.judgeGroup n).lv a = if bitOf (s.rg (CG_MEMBERS n)) d = true then s.rg a else s.lv a := by
  have hwf : smWf resetOf s.regs = true := by
    simp only [State.canonical, Bool.and_eq_true] at hcan
    exact hcan.1.1
  have hdom : domainOf a = some d := by rw [domainOf, hrow]; exact hsh
  rw [judgeGroup_copies hopen hbeat hall, State.copyGroup, lv_copyDomains (bitsSet _ 15) (by exact hwf) hdom]
  simp only [mem_bitsSet, hd, true_and]
  rfl

theorem judgeGroup_late_spec {n : Nat} (hn : n < 8) (hopen : s.cgOpen n = true) (hcome : s.cgBeat n ≤ s.beatNo)
    (h : s.cgBeat n < s.beatNo ∨ s.cgMissing n ≠ 0) : (s.judgeGroup n).cgState n = 3 ∧
    (s.judgeGroup n).rg (CG_MISSING n) = s.cgMissing n ∧ (s.judgeGroup n).bit BEAT_EVT 1 = true ∧ (s.judgeGroup n).live = s.live := by
  rw [judgeGroup_late hopen hcome h]
  exact ⟨cgState_cgLate s ⟨n, hn⟩ _, missing_cgLate s ⟨n, hn⟩ _, bit_cgLate s n _, by simp [State.cgLate]⟩

end Sys2Proof.Machine
end

section
/-! Sources of edges, vertical blanking, the deadlines of the beat clients, clock losses and fault records (spec/02 R44 to R59, spec/01 R11,
spec/08 R223), and the statement BeatEdges. -/

namespace Sys2Proof.Machine

variable {s t : State}

/-! ### What time leaves unchanged -/

/-- Time keeps a part of the state that neither stores to registers, nor the concentrator, nor the cores' counters hold. -/
theorem advance_keeps_part {α : Type} (f : State → α) (hset : ∀ t a v, f (State.setRg t a v) = f t)
    (hecx : ∀ (t : State) x, f { t with ecx := x } = f t)
    (hcores : ∀ (t : State) k0 k1 k2 k3 kg m, f { t with c0 := k0, c1 := k1, c2 := k2, c3 := k3, g0 := kg, subUs := m } = f t)
    (s : State) (n : Nat) : f (s.advance n) = f s :=
  advance_keeps s (P := fun t => f t = f s) (fun t a v _ h => (hset t a v).trans h)
    (fun t h => settleLevels_keeps t (P := fun t => f t = f s) (fun t _ _ h => (hset t _ _).trans h) (fun t h => (hecx t _).trans h) h)
    (fun t _ _ _ _ _ _ h => (hcores t _ _ _ _ _ _).trans h) n rfl

@[simp] theorem live_advanceTo (s : State) (n : Nat) : (s.advanceTo n).live = s.live :=
  advance_keeps_part State.live (fun _ _ _ => rfl) (fun _ _ => rfl) (fun _ _ _ _ _ _ _ => rfl) s _

@[simp] theorem pipes_advanceTo (s : State) (n : Nat) : (s.advanceTo n).pipes = s.pipes :=
  advance_keeps_part State.pipes (fun _ _ _ => rfl) (fun _ _ => rfl) (fun _ _ _ _ _ _ _ => rfl) s _

@[simp] theorem aud_advanceTo (s : State) (n : Nat) : (s.advanceTo n).aud = s.aud :=
  advance_keeps_part State.aud (fun _ _ _ => rfl) (fun _ _ => rfl) (fun _ _ _ _ _ _ _ => rfl) s _

@[simp] theorem blt_advanceTo (s : State) (n : Nat) : (s.advanceTo n).blt = s.blt :=
  advance_keeps_part State.blt (fun _ _ _ => rfl) (fun _ _ => rfl) (fun _ _ _ _ _ _ _ => rfl) s _

@[simp] theorem lv_advanceTo (s : State) (n a : Nat) : (s.advanceTo n).lv a = s.lv a := lv_congr (live_advanceTo s n) a

theorem writesOnly_advanceTo (s : State) (n : Nat) : WritesOnly clockReg s (s.advanceTo n) := writesOnly_advance s _

theorem phase_not_pend (g : Nat) : BEAT_PHASE ≠ ECX_PEND g := by
  simp only [BEAT_PHASE, ECX_PEND]
  omega

theorem phase_advance (hp : s.powered = true) (n : Nat) : (s.advance n).rg BEAT_PHASE = w32 ((s.rg BEAT_PHASE).toNat + n) := by
  unfold State.advance
  rw [if_neg (by simp [hp])]
  extract_lets tot ns half us s1 up settled s2
  have hset : s1.rg BEAT_PHASE = w32 ((s.rg BEAT_PHASE).toNat + n) := by
    rw [rg_setRg64_ne _ (by decide) (by decide), rg_setRg_same]
  have hsettled : s2.rg BEAT_PHASE = w32 ((s.rg BEAT_PHASE).toNat + n) := by
    show settled.rg BEAT_PHASE = _
    dsimp only [settled]
    split
    · exact hset
    · exact settleLevels_keeps s1 (P := fun t => t.rg BEAT_PHASE = w32 ((s.rg BEAT_PHASE).toNat + n))
        (fun t src _ h => (rg_setBit_ne t _ _ (phase_not_pend _)).trans h) (fun _ h => h) hset
  show State.rg (ite _ _ _) BEAT_PHASE = _
  split
  · rw [rg_setRg_ne _ _ (by decide), hsettled]
  · exact hsettled

/-- Time moves on to the cycle named, never back. -/
theorem phase_advanceTo (hp : s.powered = true) (n : Nat) :
    ((s.advanceTo n).rg BEAT_PHASE).toNat = max (s.rg BEAT_PHASE).toNat n % 2 ^ 32 := by
  rw [State.advanceTo, phase_advance hp, w32_toNat]
  congr 1
  omega

/-! ### The edges of the generator and of a lost source (R44, R47) -/

theorem beatEdge_placed (h : s.edgePlaced = true) : exec .beatEdge s = .next ((s.advanceTo s.beatLen).beatEdge .placed) :=
  congrArg Host.Outcome.next (if_pos h)

/-- A quotient rounded up is the first number of periods that covers the dividend. -/
theorem ceil_unique {p a n : Nat} (hp : 0 < p) (hcover : a ≤ p * n) (hleast : ∀ j, j < n → p * j < a) : (a + p - 1) / p = n := by
  rcases Nat.eq_zero_or_pos n with rfl | hn
  · rw [Nat.div_eq_of_lt (by omega)]
  · have hlast := hleast (n - 1) (by omega)
    rw [Nat.mul_sub, Nat.mul_one] at hlast
    refine Nat.div_eq_of_lt_le ?_ ?_
    · rw [Nat.mul_comm]; omega
    · rw [Nat.succ_mul, Nat.mul_comm]; omega

theorem sourceLoss_edge {n : Nat} (hp : s.powered = true) (hblank : s.byVblank = true) (hsrc : s.bit BEAT_STAT 4 = false)
    (hlen : s.beat.len = none) (hcover : 5 * (s.lv BEAT_GEN_NUM).toNat ≤ 4 * max 1 (s.lvFld BEAT_GEN_DEN 0 8) * n)
    (hleast : ∀ j, j < n → 4 * max 1 (s.lvFld BEAT_GEN_DEN 0 8) * j < 5 * (s.lv BEAT_GEN_NUM).toNat) :
    exec .sourceLoss s = .next ((((s.advanceTo n).setBit BEAT_EVT 7 true).raise 7).beatEdge .loss) := by
  have hn := ceil_unique (by omega) hcover hleast
  show execSourceLoss s = _
  rw [execSourceLoss, if_pos (by simp [hp, hblank, hsrc, hlen])]
  dsimp only
  rw [hn]
  rfl

/-! ### Vertical blanking (R46, R338, R340) -/

/-- The registers that time and an event of an output write. -/
abbrev blankReg (a : Nat) : Prop := clockReg a ∨ dispReg a

/-- The state at the start of output `o`'s vertical blanking, with its event `e`. -/
def State.blanked (s : State) (o n e : Nat) : State := ((s.advanceTo n).vblankHere o).outEvt e

theorem writesOnly_blanked (s : State) (o n e : Nat) : WritesOnly blankReg s (s.blanked o n e) := by
  have hhere : WritesOnly blankReg s ((s.advanceTo n).vblankHere o) :=
    ((writesOnly_advanceTo s n).weaken fun _ => .inl).kept rfl rfl rfl
  exact hhere.event (.inr (by decide)) (.inr (dispReg_pend _)) e

theorem not_blankReg_stat : ¬ blankReg BEAT_STAT := by
  simp only [blankReg, clockReg, clockWords, dispReg, ECX_PEND, BEAT_STAT, BEAT_PHASE, LNK_TIME_LO, WDG_COUNT, List.mem_cons,
    List.not_mem_nil, or_false]
  omega

@[simp] theorem live_blanked (s : State) (o n e : Nat) : (s.blanked o n e).live = s.live := by
  simp [State.blanked, State.outEvt, State.vblankHere, State.setVert, State.setOut]

theorem byVblank_congr {t : State} (hstat : t.rg BEAT_STAT = s.rg BEAT_STAT) (hlive : t.live = s.live) (hbeat : t.beat = s.beat) :
    t.byVblank = s.byVblank := by
  simp only [State.byVblank, State.freeRun, State.bit, State.lvBit, hstat, lv_congr hlive, hbeat]

theorem byVblank_blanked (s : State) (o n e : Nat) : (s.blanked o n e).byVblank = s.byVblank :=
  byVblank_congr ((writesOnly_blanked s o n e).rg _ not_blankReg_stat) (live_blanked s o n e) (writesOnly_blanked s o n e).beat

theorem phase_blanked (s : State) (o n e : Nat) : (s.blanked o n e).rg BEAT_PHASE = (s.advanceTo n).rg BEAT_PHASE :=
  rg_event_ne _ _ _ _ (phase_not_pend _) (by decide)

theorem vert_blanked (s : State) (o : Fin 2) (n e : Nat) : ((s.blanked o.val n e).vert o.val).plan = none ∧
    ((s.blanked o.val n e).vert o.val).zero = some ((s.blanked o.val n e).rg BEAT_PHASE).toNat := by
  have hout : (s.blanked o.val n e).vert o.val = ((s.advanceTo n).vblankHere o.val).vert o.val := by
    simp [State.blanked, State.vert, State.outEvt]
  rw [hout, phase_blanked]
  rcases (show o = 0 ∨ o = 1 by omega) with rfl | rfl <;> exact ⟨rfl, rfl⟩

/-- Blanking starts in line 0 (R338). -/
theorem vertLine_blanked (s : State) (o : Fin 2) (n e : Nat) : (s.blanked o.val n e).vertLine o.val = some 0 := by
  obtain ⟨hplan, hzero⟩ := vert_blanked s o n e
  simp [State.vertLine, hplan, hzero, State.phase, State.linesIn]

/-- The checks that let vertical blanking start where its timing places it. -/
structure BlankStarts (s : State) (o : Fin 2) (t : Word) (n : Nat) : Prop where
  powered : s.powered = true
  clock : s.outClock = true
  locked : s.out.relock.contains o.val = false
  place : s.vblankAt o.val t.toNat = some n
  inBeat : s.inBeat n = true
  video : o = 1 → s.cmdMode = false

theorem exec_vblankStart_b {t : Word} {n : Nat} (h : BlankStarts s 1 t n) : exec (.vblankStart 1 t) s = .next (s.blanked 1 n 3) := by
  obtain ⟨hp, hclock, hlocked, hplace, hin, hvideo⟩ := h
  have hvid := hvideo rfl
  show execVblankStart 1 t s = _
  simp only [Fin.val_one, List.contains_eq_mem] at hplace hlocked
  simp [execVblankStart, done, hplace, hp, hclock, hlocked, hin, hvid, State.blanked]

theorem exec_vblankStart_a {t : Word} {n : Nat} (h : BlankStarts s 0 t n) : exec (.vblankStart 0 t) s = .next (
    if (s.byVblank && !s.beat.silent && (s.blanked 0 n 1).halfPeriod && (s.bit BEAT_STAT 4 || s.beat.len.isNone)) = true
    then (s.blanked 0 n 1).beatEdge .vblank else s.blanked 0 n 1) := by
  obtain ⟨hp, hclock, hlocked, hplace, hin, -⟩ := h
  have hwrites := writesOnly_blanked s 0 n 1
  rw [← byVblank_blanked s 0 n 1, ← hwrites.beat, ← hwrites.bit not_blankReg_stat 4]
  show execVblankStart 0 t s = _
  simp only [Fin.val_zero, List.contains_eq_mem] at hplace hlocked
  simp [execVblankStart, done, hplace, hp, hclock, hlocked, hin, State.blanked]

/-- A start that is no edge of the lead. -/
theorem vblankStart_noEdge {o : Fin 2} {t : Word} {n : Nat} (h : BlankStarts s o t n)
    (hno : o = 1 ∨ s.byVblank = false ∨ s.beat.silent = true ∨ (s.blanked o.val n (if o = 0 then 1 else 3)).halfPeriod = false ∨
      (s.bit BEAT_STAT 4 = false ∧ s.beat.len ≠ none)) :
    exec (.vblankStart o t) s = .next (s.blanked o.val n (if o = 0 then 1 else 3)) := by
  rcases (show o = 0 ∨ o = 1 by omega) with rfl | rfl
  · rw [exec_vblankStart_a h, if_neg]
    · rfl
    · rcases hno with hno | hno | hno | hno | ⟨hsrc, hlen⟩
      · exact absurd hno (by decide)
      · simp [hno]
      · simp [hno]
      · simp at hno
        simp [hno]
      · simp [hsrc, hlen]
  · exact exec_vblankStart_b h

theorem vblankStart_edge {t : Word} {n : Nat} (h : BlankStarts s 0 t n) (hblank : s.byVblank = true)
    (hsilent : s.beat.silent = false) (hhalf : (s.blanked 0 n 1).halfPeriod = true)
    (hsrc : s.bit BEAT_STAT 4 = true ∨ s.beat.len = none) :
    exec (.vblankStart 0 t) s = .next ((s.blanked 0 n 1).beatEdge .vblank) := by
  rw [exec_vblankStart_a h, if_pos]
  rcases hsrc with hsrc | hsrc <;> simp [hblank, hsilent, hhalf, hsrc]

/-! ### Deadlines (R58, R59) -/

theorem deadlineAt_some {c n : Nat}
    (h : if s.lvFld (BEAT_DLINE c) 0 16 = 0 then s.beat.len = some n else n = s.lvFld (BEAT_DLINE c) 0 16 * s.beatLen / 65536) :
    s.deadlineAt c = some n := by
  unfold State.deadlineAt
  dsimp only
  split at h
  next hzero => rw [if_pos hzero, h]
  next hzero => rw [if_neg hzero, h]

theorem clientDeadline_judges {c : Fin 9} {n : Nat} (hp : s.powered = true) (hplace : s.deadlineAt c.val = some n) :
    exec (.clientDeadline c) s = .next ((s.advanceTo n).judgeClient c.val) := by
  show execClientDeadline c s = _
  simp only [execClientDeadline, hp, hplace]
  rfl

theorem clientDeadline_waits {c : Fin 9} (hp : s.powered = true) (hzero : s.lvFld (BEAT_DLINE c.val) 0 16 = 0)
    (hlen : s.beat.len = none) : exec (.clientDeadline c) s = .next { s with beat := { s.beat with
      dueAtEdge := if c.val ∈ s.beat.dueAtEdge then s.beat.dueAtEdge else s.beat.dueAtEdge ++ [c.val] } } := by
  have hplace : s.deadlineAt c.val = none := by simp [State.deadlineAt, hzero, hlen]
  show execClientDeadline c s = _
  simp only [execClientDeadline, hp, hplace, done, Bool.not_true, Bool.false_eq_true, if_false, List.contains_iff_mem]
  split <;> rfl

/-- The registers that a client's judgement writes. -/
abbrev judgeReg (a : Nat) : Prop := a = BEAT_OVRSTAT ∨ dispReg a

/-- A late client has its bit in BEAT_OVRSTAT; another one leaves BEAT_OVRSTAT. -/
theorem judgeClient_spec {k : Nat} {b : Bool} (hk : k < 9) (h : s.clientLate k = (b, t)) (ht : WritesOnly dispReg s t) :
    WritesOnly judgeReg s (s.judgeClient k) ∧ (b = true → (s.judgeClient k).bit BEAT_OVRSTAT k = true) ∧
      (b = false → (s.judgeClient k).rg BEAT_OVRSTAT = s.rg BEAT_OVRSTAT) := by
  have hw : WritesOnly judgeReg s t := ht.weaken fun _ => .inr
  cases b with
  | true =>
    have hlate : s.judgeClient k = (t.setBit BEAT_OVRSTAT k true).raise 6 := by simp only [State.judgeClient, h]
    rw [hlate]
    refine ⟨(hw.setBit (.inl rfl) k true).raise (.inr (dispReg_pend _)), fun _ => ?_, fun hb => Bool.noConfusion hb⟩
    rw [State.bit, rg_raise_ne _ _ (by decide)]
    exact bit_setBit_same t _ _ _ (by omega)
  | false =>
    have hkept : s.judgeClient k = t := by simp only [State.judgeClient, h]
    rw [hkept]
    exact ⟨hw, fun hb => Bool.noConfusion hb, fun _ => ht.rg _ (by decide)⟩

theorem not_clockReg_ovrstat : ¬ clockReg BEAT_OVRSTAT := by
  simp only [clockReg, clockWords, ECX_PEND, BEAT_OVRSTAT, BEAT_PHASE, LNK_TIME_LO, WDG_COUNT, List.mem_cons, List.not_mem_nil, or_false]
  omega

/-- What the judgement of client `k` at cycle `n` leaves, where `b` tells that the client is late. -/
def Judged (s : State) (k n : Nat) (b : Bool) (u : State) : Prop :=
  (b = true → u.bit BEAT_OVRSTAT k = true) ∧ (b = false → u.rg BEAT_OVRSTAT = s.rg BEAT_OVRSTAT) ∧
    (u.rg BEAT_PHASE).toNat = max (s.rg BEAT_PHASE).toNat n % 2 ^ 32 ∧ u.mem = s.mem

/-- A client that `b` finds late at its deadline, where its own overrun writes no register of the beat. -/
theorem clientDeadline_late {c : Fin 9} {n : Nat} {b : Bool} (hp : s.powered = true) (hplace : s.deadlineAt c.val = some n)
    (hlate : (s.advanceTo n).clientLate c.val = (b, t)) (ht : WritesOnly dispReg (s.advanceTo n) t) :
    Ends (.clientDeadline c) s (Judged s c.val n b) := by
  have htime := writesOnly_advanceTo s n
  obtain ⟨hwrites, hset, hkept⟩ := judgeClient_spec c.isLt hlate ht
  refine ⟨_, clientDeadline_judges hp hplace, hset, fun hb => (hkept hb).trans (htime.rg _ not_clockReg_ovrstat), ?_,
    hwrites.mem.trans htime.mem⟩
  rw [hwrites.rg _ (by decide), phase_advanceTo hp]

theorem dispReg_rasEvt (p : Nat) : dispReg (RAS_EVT p) := by unfold dispReg RAS_EVT; omega

theorem clientLate_pipe {k : Nat} (hk : k ≤ 2) (s : State) :
    let b := s.rasEnabled k && (decide ((s.pipe k).line < s.activeH k) || (s.pipe k).under)
    s.clientLate k = (b, if b = true then s.rasEvt k 1 else s) := by
  simp only [State.clientLate, if_pos hk]

theorem clientLate_audio (s : State) :
    let b := s.lvBit AUD_CTRL 0 && s.aud.ready != some (s.beatNo + 1)
    s.clientLate 3 = (b, if b = true then s.audEvt 1 else s) := rfl

theorem clientLate_batch (s : State) :
    let b := s.bit BLT_STAT 4 && !s.blt.overran
    s.clientLate 8 = (b, if b = true then ((s.count BLT_OVRCNT 1).setBlt { s.blt with overran := true }).bltEvt 2 else s) := rfl

theorem activeH_congr (h : t.live = s.live) (p : Nat) : t.activeH p = s.activeH p := by
  unfold State.activeH
  split <;> simp only [State.lvFld, lv_congr h]

theorem not_clockReg_count : ¬ clockReg BEAT_COUNT_LO ∧ ¬ clockReg (BEAT_COUNT_LO + 4) ∧ ¬ clockReg BLT_STAT := by
  simp only [clockReg, clockWords, ECX_PEND, BEAT_COUNT_LO, BLT_STAT, BEAT_PHASE, LNK_TIME_LO, WDG_COUNT, List.mem_cons,
    List.not_mem_nil, or_false]
  omega

theorem clientDeadline_pipe {c : Fin 9} {n : Nat} (hp : s.powered = true) (hplace : s.deadlineAt c.val = some n) (hc : c.val ≤ 2) :
    let b := s.rasEnabled c.val && (decide ((s.pipe c.val).line < s.activeH c.val) || (s.pipe c.val).under)
    Ends (.clientDeadline c) s (Judged s c.val n b) := by
  have hlate := clientLate_pipe hc (s.advanceTo n)
  have hras : (s.advanceTo n).rasEnabled c.val = s.rasEnabled c.val := by simp only [State.rasEnabled, State.lvBit, lv_advanceTo]
  have hpipe : (s.advanceTo n).pipe c.val = s.pipe c.val := by simp only [State.pipe, pipes_advanceTo]
  rw [hras, hpipe, activeH_congr (live_advanceTo s n)] at hlate
  exact clientDeadline_late hp hplace hlate (.ite ((WritesOnly.refl _ _).evt (dispReg_rasEvt _) _ _) (.refl _ _))

theorem clientDeadline_audio {n : Nat} (hp : s.powered = true) (hplace : s.deadlineAt 3 = some n) :
    let b := s.lvBit AUD_CTRL 0 && s.aud.ready != some (s.beatNo + 1)
    Ends (.clientDeadline 3) s (Judged s 3 n b) := by
  obtain ⟨hlow, hhigh, -⟩ := not_clockReg_count
  have hlate := clientLate_audio (s.advanceTo n)
  have hsame : ((s.advanceTo n).lvBit AUD_CTRL 0 && (s.advanceTo n).aud.ready != some ((s.advanceTo n).beatNo + 1)) =
      (s.lvBit AUD_CTRL 0 && s.aud.ready != some (s.beatNo + 1)) := by
    simp only [State.lvBit, lv_advanceTo, aud_advanceTo, State.beatNo, (writesOnly_advanceTo s n).rg64 hlow hhigh]
  rw [hsame] at hlate
  exact clientDeadline_late (c := 3) hp hplace hlate (.ite ((WritesOnly.refl _ _).evt (by decide) _ _) (.refl _ _))

theorem clientDeadline_batch {n : Nat} (hp : s.powered = true) (hplace : s.deadlineAt 8 = some n) :
    let b := s.bit BLT_STAT 4 && !s.blt.overran
    Ends (.clientDeadline 8) s (Judged s 8 n b) := by
  obtain ⟨-, -, hstat⟩ := not_clockReg_count
  have hlate := clientLate_batch (s.advanceTo n)
  have hsame : ((s.advanceTo n).bit BLT_STAT 4 && !(s.advanceTo n).blt.overran) = (s.bit BLT_STAT 4 && !s.blt.overran) := by
    rw [(writesOnly_advanceTo s n).bit hstat, blt_advanceTo]
  rw [hsame] at hlate
  refine clientDeadline_late (c := 8) hp hplace hlate ?_
  have hcounted := (WritesOnly.refl dispReg (s.advanceTo n)).count (by decide : dispReg BLT_OVRCNT) 1
  split
  · have hset : WritesOnly dispReg (s.advanceTo n)
        (((s.advanceTo n).count BLT_OVRCNT 1).setBlt { (s.advanceTo n).blt with overran := true }) := hcounted.kept rfl rfl rfl
    exact hset.evt (by decide) _ _
  · exact .refl _ _

/-! ### Clock losses (R11, R225) -/

/-- The monitor's marks of a lost clock. -/
def State.clockLost (s : State) (b : Nat) : State := ((s.setBit SYS_CLKSTAT b false).setBit SYS_CLKEVT b true).raise 29

theorem clockLost_marks (s : State) {b : Nat} (hb : b < 4) :
    (s.clockLost b).bit SYS_CLKSTAT b = false ∧ (s.clockLost b).bit SYS_CLKEVT b = true := by
  constructor
  · rw [State.bit, State.clockLost, rg_raise_ne _ _ (by decide), rg_setBit_ne _ _ _ (by decide)]
    exact bit_setBit_same s _ _ _ (by omega)
  · rw [State.bit, State.clockLost, rg_raise_ne _ _ (by decide)]
    exact bit_setBit_same _ _ _ _ (by omega)

/-- A channel whose block does nothing of its own at a retirement: those of the outputs and the audio block. -/
theorem retireBlock_none (s : State) {ch : Nat} (hlow : 0x818 ≤ ch) (hhigh : ch ≤ 0x81D) : s.retireBlock ch = s := by
  unfold State.retireBlock
  rw [if_neg (by omega), if_neg (by omega), if_neg (by omega), if_neg (by omega), if_neg (by omega)]

theorem dispReg_chstat (ch : Nat) : dispReg (FLT_CHSTAT ch) := by unfold dispReg FLT_CHSTAT; omega

namespace WritesOnly

theorem setChan {w : Nat → Prop} (h : WritesOnly w s t) {ch : Nat} (hch : w (FLT_CHSTAT ch)) (first count st : Nat) :
    WritesOnly w s (t.setChan ch first count st) :=
  (h.setRg hch _).kept rfl rfl rfl

theorem queueRecord (h : WritesOnly dispReg s t) (chan ev count first : Nat) (detail : Word) (addr : Nat) :
    WritesOnly dispReg s (t.queueRecord chan ev count first detail addr) := by
  unfold State.queueRecord
  dsimp only
  split
  · exact h.kept rfl rfl rfl
  · exact (h.count (by decide : dispReg FLT_RECOVF) 1).evt (by decide) _ _

theorem retire (h : WritesOnly dispReg s t) {ch : Nat} (hlow : 0x818 ≤ ch) (hhigh : ch ≤ 0x81D) (first count : Nat) (detail : Word) :
    WritesOnly dispReg s (t.retire ch first count detail) := by
  have hset := (h.setChan (dispReg_chstat ch) first count 2).setRg (by decide : dispReg FLT_LASTCH) (w32 ch)
  have hqueued := (hset.evt (by decide : dispReg FLT_EVT) 2 106).queueRecord ch 1 count first detail
  unfold State.retire
  dsimp only
  rw [retireBlock_none _ hlow hhigh]
  exact hqueued _

theorem faultReport (h : WritesOnly dispReg s t) {ch : Nat} (hlow : 0x818 ≤ ch) (hhigh : ch ≤ 0x81D) (detail : Word) :
    WritesOnly dispReg s (t.faultReport ch detail) := by
  have hreported : ∀ first count, WritesOnly dispReg s ((t.setChan ch first count 1).event FLT_EVT 1 105) := fun first count =>
    (h.setChan (dispReg_chstat ch) first count 1).evt (by decide) _ _
  unfold State.faultReport
  split
  · exact h
  · exact .ite h (.ite ((hreported _ _).retire hlow hhigh _ _ _) (hreported _ _))

theorem outError (h : WritesOnly dispReg s t) {o : Nat} (ho : o ≤ 2) (kind rep : Nat) :
    WritesOnly dispReg s (t.outError o kind rep) := by
  unfold State.outError
  dsimp only
  have hreport : WritesOnly dispReg s (t.faultReport (0x818 + o) (w32 (kind + rep * 65536))) := h.faultReport (by omega) (by omega) _
  split
  · exact hreport
  · exact hreport.evt (by decide) _ _

end WritesOnly

/-- A loss whose block answers with reports to the Fault Manager keeps the monitor's marks. -/
theorem clockLoss_marked {k : Fin 4} {u : State} (hexec : exec (.clockLoss k) s = .next u)
    (hu : WritesOnly dispReg (s.clockLost k.val) u) :
    Ends (.clockLoss k) s (fun u => u.bit SYS_CLKSTAT k.val = false ∧ u.bit SYS_CLKEVT k.val = true ∧ u.mem = s.mem) := by
  obtain ⟨hstat, hevt⟩ := clockLost_marks s k.isLt
  exact ⟨u, hexec, by rw [hu.bit (by decide), hstat], by rw [hu.bit (by decide), hevt], by simp [hu.mem, State.clockLost]⟩

theorem clockLoss_pllAud (hp : s.powered = true) :
    Ends (.clockLoss 1) s (fun u => u.bit SYS_CLKSTAT 1 = false ∧ u.bit SYS_CLKEVT 1 = true ∧ u.mem = s.mem) := by
  have hexec : exec (.clockLoss 1) s = .next (((s.clockLost 1).faultReport 0x81C 1).faultReport 0x81D 1) :=
    congrArg Host.Outcome.next (if_neg (by simp [hp]))
  exact clockLoss_marked (k := 1) hexec
    (((WritesOnly.refl _ _).faultReport (by decide) (by decide) _).faultReport (by decide) (by decide) _)

theorem clockLoss_pllPix (hp : s.powered = true) :
    Ends (.clockLoss 2) s (fun u => u.bit SYS_CLKSTAT 2 = false ∧ u.bit SYS_CLKEVT 2 = true ∧ u.mem = s.mem) := by
  have hexec : exec (.clockLoss 2) s = .next ((((s.clockLost 2).outError 0 1 0).outError 1 1 0).outError 2 1 0) :=
    congrArg Host.Outcome.next (if_neg (by simp [hp]))
  exact clockLoss_marked (k := 2) hexec
    ((((WritesOnly.refl _ _).outError (by decide) _ _).outError (by decide) _ _).outError (by decide) _ _)

theorem clockLoss_resets (hp : s.powered = true) : exec (.clockLoss 0) s = .next ((s.clockLost 0).wdgReset 7) ∧
    exec (.clockLoss 3) s = .next ((s.clockLost 3).wdgReset 6) :=
  ⟨congrArg Host.Outcome.next (if_neg (by simp [hp])), congrArg Host.Outcome.next (if_neg (by simp [hp]))⟩

/-! ### Fault records (R223) -/

theorem faultRecordOffer_asks {h : List Word} {rest : List (List Word)} (hq : s.gnt.records = h :: rest) (hp : s.powered = true) :
    exec .faultRecordOffer s = .next (match s.offerRecord 0x20 (pairWords h) with
      | (true, y) => { y with gnt := { y.gnt with records := rest } }
      | (false, y) => y) := by
  show execFaultRecordOffer s = _
  simp only [execFaultRecordOffer, hq, hp]
  rfl

/-- Settles O31: the equation of the edge is its definition, and each clause is one of the rules above. The order of the blocks, and the
two roundings of log entry 8, are the model's choice. -/
theorem beatEdges : Obligations.BeatEdges := by
  intro s k t o c
  refine ⟨rfl, clockEdge_last _, clockEdge_phase _, clockEdge_count, placeNext_places, placeNext_waits,
    fun m d w => ⟨coresEdge_wbeat, coresEdge_wbeatn⟩, ?_, fun n hn => judgeGroup_late_spec hn, beatEdge_placed, ?_, ?_, ?_,
    clientDeadline_waits, clockLoss_resets, fun b => clockLost_marks s, clockLoss_pllAud, clockLoss_pllPix, ?_, ?_⟩
  · intro n _ hcan hopen hbeat hall a row y z d hrow hsh hd
    exact lv_judgeGroup hcan hopen hbeat hall hrow hsh hd
  · intro n hp hblank hsrc hlen hcover
    exact sourceLoss_edge hp hblank hsrc hlen hcover.1 hcover.2
  · intro n hp hclock hlocked hplace hin hvideo
    have hstarts : BlankStarts s o t n := ⟨hp, hclock, hlocked, hplace, hin, hvideo⟩
    refine ⟨(vert_blanked s o n _).2, vertLine_blanked s o n _, (writesOnly_blanked s o.val n _).mem, vblankStart_noEdge hstarts, ?_⟩
    rintro rfl hblank hsilent hhalf hsrc
    exact vblankStart_edge hstarts hblank hsilent hhalf hsrc
  · intro n hp hplace
    have hdeadline := deadlineAt_some hplace
    refine ⟨clientDeadline_judges hp hdeadline, clientDeadline_pipe hp hdeadline, ?_, ?_⟩
    · rintro rfl
      exact clientDeadline_audio hp hdeadline
    · rintro rfl
      exact clientDeadline_batch hp hdeadline
  · intro h rest y hq hp hoffer
    rw [faultRecordOffer_asks hq hp, hoffer]
  · intro h rest y hq hp hoffer
    rw [faultRecordOffer_asks hq hp, hoffer]

end Sys2Proof.Machine
end

section
/-! The link's operations on its registers and its state (spec/10 R274 to R303), said once: ports, fields of LNK_STAT, the maps of devices,
the deputy, members, frames queued and frames received. -/

namespace Sys2Proof.Machine

variable {s t u : State} {w : Nat → Prop} {a p d : Nat} {f : LinkFrame}

/-! ### A field beside another one of its register -/

theorem fld_setFld_other (s : State) (a lo len v : Nat) {lo' len' : Nat} (h : lo' + len' ≤ 32)
    (hd : lo' + len' ≤ lo ∨ lo + len ≤ lo') : (s.setFld a lo len v).fld a lo' len' = s.fld a lo' len' := by
  simp only [State.fld, State.setFld, rg_setRg_same]
  exact fieldOf_withField_other _ lo len v lo' len' h hd

theorem fld_congr (h : t.rg a = s.rg a) (lo len : Nat) : t.fld a lo len = s.fld a lo len := by rw [State.fld, State.fld, h]

theorem bit_congr (h : t.rg a = s.rg a) (n : Nat) : t.bit a n = s.bit a n := by rw [State.bit, State.bit, h]

/-! ### Registers, with what the beat generator holds left aside -/

/-- From `s` to `u` no register outside `w` changes, nor a byte of memory. -/
structure RegsOnly (w : Nat → Prop) (s u : State) : Prop where
  rg : ∀ a, ¬ w a → u.rg a = s.rg a
  mem : u.mem = s.mem

theorem WritesOnly.regsOnly (h : WritesOnly w s u) : RegsOnly w s u := ⟨h.rg, h.mem⟩

namespace RegsOnly

theorem refl (w : Nat → Prop) (s : State) : RegsOnly w s s := ⟨fun _ _ => rfl, rfl⟩

theorem trans (h : RegsOnly w s u) (g : RegsOnly w u t) : RegsOnly w s t :=
  ⟨fun a ha => (g.rg a ha).trans (h.rg a ha), g.mem.trans h.mem⟩

theorem writes (h : RegsOnly w s u) (g : WritesOnly w u t) : RegsOnly w s t := h.trans g.regsOnly

theorem kept (h : RegsOnly w s u) (hregs : t.regs = u.regs) (hmem : t.mem = u.mem) : RegsOnly w s t :=
  h.trans ⟨fun a _ => rg_congr hregs a, hmem⟩

theorem ite {c : Prop} [Decidable c] {x y : State} (hx : RegsOnly w s x) (hy : RegsOnly w s y) : RegsOnly w s (if c then x else y) := by
  split
  · exact hx
  · exact hy

end RegsOnly

theorem mem_toBeatState (s : State) (st : Nat) : (s.toBeatState st).mem = s.mem := by
  unfold State.toBeatState
  dsimp only
  split
  · rfl
  · rw [State.raise_mem]
    show State.mem (ite _ _ _) = _
    split <;> split <;> rfl

theorem silent_toBeatState (s : State) (st : Nat) : (s.toBeatState st).beat.silent = s.beat.silent := by
  unfold State.toBeatState
  dsimp only
  split
  · rfl
  · rw [State.raise_beat]
    show BeatSt.silent (State.beat (ite _ _ _)) = _
    split <;> split <;> rfl

/-- The registers that a change of the beat's state writes. -/
def beatStateRegs : List Nat := [BEAT_STAT, BEAT_EVT, ECX_PEND 0]

theorem RegsOnly.toBeatState (h : RegsOnly w s u) (hw : ∀ a ∈ beatStateRegs, w a) (st : Nat) : RegsOnly w s (u.toBeatState st) := by
  refine h.trans ⟨fun a ha => ?_, mem_toBeatState u st⟩
  refine rg_toBeatState_ne st ?_ ?_ ?_ <;> exact fun e => ha (by rw [e]; exact hw _ (by decide))

/-! ### Events of the link and of the Ledger -/

theorem WritesOnly.lnkEvt (h : WritesOnly w s u) (hevt : w LNK_EVT) (hpend : w (ECX_PEND 6)) {k : Nat} (hk : k < 32) :
    WritesOnly w s (u.lnkEvt k) := by
  refine h.event hevt ?_ k
  rw [show (192 + k) / 32 = 6 by omega]
  exact hpend

theorem bit_lnkEvt (s : State) {k : Nat} (hk : k < 32) : (s.lnkEvt k).bit LNK_EVT k = true := by
  refine bit_event_self s _ _ _ ?_ hk
  rw [show (192 + k) / 32 = 6 by omega]
  decide

/-! ### Ports (R275, R289) -/

/-- The registers that a ring port's going UP or DOWN writes. -/
def portRegs : List Nat := [LNK_PSTAT 0, LNK_PSTAT 1, LNK_CRED 0, LNK_CRED 1, LNK_EVT, ECX_PEND 6]

theorem pstat_mem_portRegs : ∀ p : Fin 2, LNK_PSTAT p.val ∈ portRegs := by decide
theorem cred_mem_portRegs : ∀ p : Fin 2, LNK_CRED p.val ∈ portRegs := by decide

theorem WritesOnly.portBring (h : WritesOnly w s u) (hw : ∀ a ∈ portRegs, w a) (p : Fin 2) : WritesOnly w s (u.portBring p.val) := by
  have hstat : w (LNK_PSTAT p.val) := hw _ (pstat_mem_portRegs p)
  have hset : WritesOnly w s (u.setPort p.val { (u.port p.val).restart with silent := 0 }) := h.kept rfl rfl rfl
  unfold State.portBring
  exact .ite ((hset.setBit hstat 0 true).lnkEvt (hw _ (by decide)) (hw _ (by decide)) (by decide)) h

theorem WritesOnly.portDown (h : WritesOnly w s u) (hw : ∀ a ∈ portRegs, w a) (p : Fin 2) : WritesOnly w s (u.portDown p.val) := by
  have hstat : w (LNK_PSTAT p.val) := hw _ (pstat_mem_portRegs p)
  have hcred : w (LNK_CRED p.val) := hw _ (cred_mem_portRegs p)
  have hset : WritesOnly w s ((u.setBit (LNK_PSTAT p.val) 0 false).setPort p.val
      { (u.port p.val).restart with beatHops := none, beatNow := false }) := (h.setBit hstat 0 false).kept rfl rfl rfl
  unfold State.portDown
  have hdown := ((hset.setFld hstat 16 6 63).setBit hstat 15 false).setRg hcred
  exact .ite ((hdown _).lnkEvt (hw _ (by decide)) (hw _ (by decide)) (by decide)) h

theorem portUp_congr (h : t.rg (LNK_PSTAT p) = s.rg (LNK_PSTAT p)) : t.portUp p = s.portUp p := bit_congr h 0

theorem pstat_ne : ∀ p : Fin 2, LNK_PSTAT p.val ≠ LNK_CRED p.val ∧ LNK_PSTAT p.val ≠ LNK_EVT ∧
    LNK_PSTAT p.val ≠ ECX_PEND 6 := by decide

theorem pstat_ne_other : ∀ p q : Fin 2, q ≠ p → LNK_PSTAT q.val ≠ LNK_PSTAT p.val ∧ LNK_PSTAT q.val ≠ LNK_CRED p.val := by
  decide

theorem portUp_portDown (s : State) (p : Fin 2) : (s.portDown p.val).portUp p.val = false := by
  unfold State.portDown
  split
  next hup =>
    obtain ⟨hcred, hevt, hpend⟩ := pstat_ne p
    have hclear : ∀ x : State, x.bit (LNK_PSTAT p.val) 0 = false →
        ((x.setFld (LNK_PSTAT p.val) 16 6 63).setBit (LNK_PSTAT p.val) 15 false).bit (LNK_PSTAT p.val) 0 = false := fun x hx => by
      rw [bit_setBit _ _ _ _ _ (by decide), if_neg (by decide), State.bit, State.setFld, rg_setRg_same,
        bitOf_withField _ _ _ _ _ (by decide), if_neg (by decide)]
      exact hx
    rw [State.portUp, State.bit, State.lnkEvt, rg_event_ne _ _ _ _ hpend hevt, rg_setRg_ne _ _ hcred]
    exact hclear _ (bit_setBit_same s _ _ _ (by decide))
  next hup => exact Bool.eq_false_iff.mpr hup

theorem portUp_portDown_other (s : State) {p q : Fin 2} (h : q ≠ p) : (s.portDown p.val).portUp q.val = s.portUp q.val := by
  obtain ⟨hstat, hcred⟩ := pstat_ne_other p q h
  obtain ⟨-, hevt, hpend⟩ := pstat_ne q
  refine portUp_congr ?_
  unfold State.portDown
  split
  · rw [State.lnkEvt, rg_event_ne _ _ _ _ hpend hevt, rg_setRg_ne _ _ hcred, rg_setBit_ne _ _ _ hstat, rg_setFld_ne _ _ _ _ hstat]
    exact rg_setBit_ne s _ _ hstat
  · rfl

/-! ### LNK_STAT: ADM, ROLE, TOPO and LEAD (R274, R293, R296) -/

theorem adm_congr (h : t.rg LNK_STAT = s.rg LNK_STAT) : t.adm = s.adm := fld_congr h 0 3

theorem adm_setAdm (s : State) (k : Nat) : (s.setFld LNK_STAT 0 3 k).adm = k % 8 := fld_setFld_same s _ _ _ _ (by decide)

/-- The registers of the own role. -/
def roleRegs : List Nat := [LNK_STAT, LDG_STAT]

theorem WritesOnly.setRole (h : WritesOnly w s u) (hw : ∀ a ∈ roleRegs, w a) (r : Nat) : WritesOnly w s (u.setRole r) :=
  (h.setFld (hw _ (by decide)) 4 3 r).setFld (hw _ (by decide)) 4 2 _

theorem adm_setRole (s : State) (r : Nat) : (s.setRole r).adm = s.adm := by
  rw [State.setRole, State.adm, fld_ne_setFld _ _ _ _ _ _ (by decide), fld_setFld_other _ _ _ _ _ (by decide) (by decide)]
  rfl

theorem role_setRole (s : State) (r : Nat) : (s.setRole r).role = r % 8 := by
  rw [State.setRole, State.role, fld_ne_setFld _ _ _ _ _ _ (by decide)]
  exact fld_setFld_same s _ _ _ _ (by decide)

theorem ldgRole_setRole (s : State) (r : Nat) : (s.setRole r).ldgRole = (if r = 4 then 3 else r) % 4 :=
  fld_setFld_same _ _ _ _ _ (by decide)

theorem adm_setLeadId (s : State) (d : Nat) : (s.setLeadId d).adm = s.adm := fld_setFld_other s _ _ _ _ (by decide) (by decide)

theorem role_setLeadId (s : State) (d : Nat) : (s.setLeadId d).role = s.role := fld_setFld_other s _ _ _ _ (by decide) (by decide)

theorem leadId_setLeadId (s : State) (d : Nat) : (s.setLeadId d).leadId = d % 64 := fld_setFld_same s _ _ _ _ (by decide)

/-- The registers that a change of topology writes. -/
def topologyRegs : List Nat := [LNK_STAT, LNK_EVT, ECX_PEND 6]

theorem WritesOnly.setTopology (h : WritesOnly w s u) (hw : ∀ a ∈ topologyRegs, w a) (k : Nat) : WritesOnly w s (u.setTopology k) := by
  unfold State.setTopology
  exact .ite h ((h.setFld (hw _ (by decide)) 8 2 k).lnkEvt (hw _ (by decide)) (hw _ (by decide)) (by decide))

theorem lnk_setTopology (s : State) (k : Nat) : (s.setTopology k).lnk = s.lnk := by
  unfold State.setTopology
  split
  · rfl
  · simp [State.lnkEvt]

theorem rg_lnkStat_lnkEvt (s : State) {k : Nat} (hk : k < 32) : (s.lnkEvt k).rg LNK_STAT = s.rg LNK_STAT :=
  ((WritesOnly.refl (· ∈ [LNK_EVT, ECX_PEND 6]) s).lnkEvt (by simp) (by simp) hk).rg _ (by decide)

theorem topology_setTopology (s : State) {k : Nat} (hk : k < 4) : (s.setTopology k).topology = k := by
  unfold State.setTopology
  split
  · assumption
  · rw [State.topology, fld_congr (rg_lnkStat_lnkEvt _ (by decide)), fld_setFld_same _ _ _ _ _ (by decide)]
    omega

theorem adm_setTopology (s : State) (k : Nat) : (s.setTopology k).adm = s.adm := by
  unfold State.setTopology
  split
  · rfl
  · rw [State.adm, fld_congr (rg_lnkStat_lnkEvt _ (by decide)), fld_setFld_other _ _ _ _ _ (by decide) (by decide)]
    rfl

/-! ### Maps of devices -/

theorem WritesOnly.setMap (h : WritesOnly w s u) (hd : d < 64) (hlow : w a) (hhigh : w (a + 4)) (b : Bool) :
    WritesOnly w s (u.setMap a d b) := by
  refine h.setBit ?_ _ _
  rcases (show d / 32 = 0 ∨ d / 32 = 1 by omega) with hw | hw <;> rw [hw]
  · exact hlow
  · exact hhigh

theorem mapBit_setMap (s : State) (a d : Nat) (b : Bool) : (s.setMap a d b).mapBit a d = b :=
  bit_setBit_same s _ _ _ (Nat.mod_lt _ (by decide))

/-- LNK_ADMIT's bit of a device depends on LNK_ADMIT alone. -/
theorem WritesOnly.admitted (h : WritesOnly w s u) (hd : d < 64) (hlow : ¬ w LNK_ADMIT_LO) (hhigh : ¬ w (LNK_ADMIT_LO + 4)) :
    u.admitted d = s.admitted d := by
  refine h.bit ?_ _
  rcases (show d / 32 = 0 ∨ d / 32 = 1 by omega) with hw | hw <;> rw [hw]
  · exact hlow
  · exact hhigh

/-! ### The deputy (R255) -/

/-- The registers of MIRROR and its event. -/
def mirrorRegs : List Nat := [LDG_STAT, LDG_EVT, ECX_PEND 5]

theorem WritesOnly.setMirror (h : WritesOnly w s u) (hw : ∀ a ∈ mirrorRegs, w a) (m : Nat) : WritesOnly w s (u.setMirror m) := by
  unfold State.setMirror
  exact .ite h ((h.setFld (hw _ (by decide)) 6 2 m).event (hw _ (by decide)) (hw _ (by decide)) 12)

theorem mirror_setMirror (s : State) {m : Nat} (hm : m < 4) : (s.setMirror m).mirror = m := by
  unfold State.setMirror
  split
  · assumption
  · have hevt : ∀ x : State, (x.ldgEvt 12).rg LDG_STAT = x.rg LDG_STAT := fun x => rg_event_ne _ _ _ _ (by decide) (by decide)
    rw [State.mirror, fld_congr (hevt _), fld_setFld_same _ _ _ _ _ (by decide)]
    omega

theorem lnk_setMirror (s : State) (m : Nat) : (s.setMirror m).lnk = s.lnk := by
  unfold State.setMirror
  split
  · rfl
  · simp [State.ldgEvt]

theorem WritesOnly.deputyChange (h : WritesOnly w s u) (hw : ∀ a ∈ mirrorRegs, w a) (old : Option Nat) :
    WritesOnly w s (u.deputyChange old) := by
  unfold State.deputyChange
  exact .ite h (WritesOnly.setMirror (h.kept (t := u.setLdg { u.ldg with catchup := none, confG := 0, sentRel := 0 }) rfl rfl rfl) hw _)

theorem lnk_deputyChange (s : State) (old : Option Nat) : (s.deputyChange old).lnk = s.lnk := by
  unfold State.deputyChange
  dsimp only
  split
  · rfl
  · exact lnk_setMirror _ _

/-- A new deputy starts in CATCHUP. -/
theorem mirror_deputyChange_new (h : s.deputyId = some d) : (s.deputyChange none).mirror = 1 := by
  simp only [State.deputyChange, h, reduceCtorEq, if_false, Option.isSome_some, if_true]
  exact mirror_setMirror _ (by decide)

/-! ### Members (R295, R297) -/

/-- The registers that a change of the members writes: beside LNK_ADMIT, those of the observers, the event and MIRROR. -/
def observerRegs : List Nat := [LNK_OBS_LO, LNK_OBS_LO + 4, LNK_EVT, ECX_PEND 6] ++ mirrorRegs

def memberRegs : List Nat := [LNK_ADMIT_LO, LNK_ADMIT_LO + 4] ++ observerRegs

theorem member_setMember (s : State) (m : Member) : (s.setMember m).member m.id = some m := by
  have hnone : (s.lnk.members.filter (fun x => x.id != m.id)).find? (fun x => x.id == m.id) = none := by
    simp [List.find?_eq_none]
  show List.find? _ (_ ++ [m]) = _
  rw [List.find?_append, hnone]
  simp

theorem member_congr (h : t.lnk.members = s.lnk.members) (d : Nat) : t.member d = s.member d := by rw [State.member, State.member, h]

/-- The entry that the lead keeps of a device it takes: the hops of an earlier entry stay. -/
def State.takenEntry (s : State) (d uid result : Nat) : Member :=
  { id := d, uid := uid, result := result, silent := 0
    hopsA := (match s.member d with | some m => (m.hopsA, m.hopsB) | none => (255, 255)).1
    hopsB := (match s.member d with | some m => (m.hopsA, m.hopsB) | none => (255, 255)).2 }

/-- The state once the device's entry and its LNK_ADMIT bit stand. -/
def State.takenIn (s : State) (d uid result : Nat) : State := (s.setMember (s.takenEntry d uid result)).setMap LNK_ADMIT_LO d true

theorem takeMember_eq (s : State) (d uid result : Nat) : s.takeMember d uid result =
    (if (s.member d).map (fun m => m.result) = some result then (s.takenIn d uid result).setMap LNK_OBS_LO d (result == 3 || result == 4)
      else ((s.takenIn d uid result).setMap LNK_OBS_LO d (result == 3 || result == 4)).lnkEvt 3).deputyChange
      (if result = 2 then none else s.deputyId) := rfl

theorem lnk_takeMember (s : State) (d uid result : Nat) :
    (s.takeMember d uid result).lnk = (s.setMember (s.takenEntry d uid result)).lnk := by
  rw [takeMember_eq, lnk_deputyChange]
  split
  · rfl
  · simp [State.lnkEvt, State.takenIn, State.setMap]

theorem writesOnly_takeMember_takenIn (s : State) (hd : d < 64) (uid result : Nat) :
    WritesOnly (· ∈ observerRegs) (s.takenIn d uid result) (s.takeMember d uid result) := by
  have hobs := (WritesOnly.refl (· ∈ observerRegs) (s.takenIn d uid result)).setMap (a := LNK_OBS_LO) hd (by decide) (by decide)
    (result == 3 || result == 4)
  rw [takeMember_eq]
  exact (WritesOnly.ite hobs (hobs.lnkEvt (by decide) (by decide) (by decide))).deputyChange (by decide) _

theorem writesOnly_takeMember (s : State) (hd : d < 64) (uid result : Nat) :
    WritesOnly (· ∈ memberRegs) s (s.takeMember d uid result) := by
  have hset : WritesOnly (· ∈ memberRegs) s (s.setMember (s.takenEntry d uid result)) := (WritesOnly.refl _ s).kept rfl rfl rfl
  have hin : WritesOnly (· ∈ memberRegs) s (s.takenIn d uid result) := hset.setMap hd (by decide) (by decide) true
  exact hin.trans ((writesOnly_takeMember_takenIn s hd uid result).weaken fun _ h => List.mem_append_right _ h)

theorem admitted_takeMember (s : State) (hd : d < 64) (uid result : Nat) : (s.takeMember d uid result).admitted d = true := by
  rw [(writesOnly_takeMember_takenIn s hd uid result).admitted hd (by decide) (by decide)]
  exact mapBit_setMap _ _ _ _

theorem member_takeMember (s : State) (d uid result : Nat) :
    (s.takeMember d uid result).member d = some (s.takenEntry d uid result) := by
  rw [member_congr (congrArg LnkSt.members (lnk_takeMember s d uid result))]
  exact member_setMember s (s.takenEntry d uid result)

/-- A device that was not admitted with this result before raises the event of a change. -/
theorem bit_takeMember {uid result : Nat} (hnew : (s.member d).map (fun m => m.result) ≠ some result) :
    (s.takeMember d uid result).bit LNK_EVT 3 = true := by
  have hdeputy := fun x : State => (WritesOnly.refl (· ∈ mirrorRegs) x).deputyChange (fun _ h => h)
  rw [takeMember_eq, if_neg hnew, (hdeputy _ _).bit (by decide)]
  exact bit_lnkEvt _ (by decide)

/-- A device leaves the vehicle: no entry of it stands, its LNK_ADMIT bit is clear, and the change has its event. -/
theorem dropMember_spec (h : (s.member d).isSome = true) (hd : d < 64) : (s.dropMember d).member d = none ∧
    (s.dropMember d).admitted d = false ∧ (s.dropMember d).bit LNK_EVT 3 = true ∧ (s.dropMember d).mem = s.mem := by
  let s1 := s.setLnk { s.lnk with
    members := s.lnk.members.filter (fun m => m.id != d), admissions := s.lnk.admissions.filter (fun a => a.id != d) }
  have hdrop : s.dropMember d =
      (((s1.setMap LNK_ADMIT_LO d false).setMap LNK_OBS_LO d false).lnkEvt 3).deputyChange s.deputyId := if_pos h
  have hdeputy := (WritesOnly.refl (· ∈ mirrorRegs) (((s1.setMap LNK_ADMIT_LO d false).setMap LNK_OBS_LO d false).lnkEvt 3)).deputyChange
    (fun _ h => h) s.deputyId
  have hlater : WritesOnly (· ∈ observerRegs) (s1.setMap LNK_ADMIT_LO d false) (s.dropMember d) := by
    rw [hdrop]
    exact ((((WritesOnly.refl _ _).setMap hd (by decide) (by decide) false).lnkEvt (by decide) (by decide) (by decide)).deputyChange
      (by decide) _)
  refine ⟨?_, ?_, ?_, hlater.mem⟩
  · have hmembers : (s.dropMember d).lnk.members = s.lnk.members.filter (fun m => m.id != d) := by
      rw [hdrop, lnk_deputyChange]
      simp [State.lnkEvt, State.setMap, s1, State.setLnk]
    rw [State.member, hmembers]
    simp [List.find?_eq_none]
  · rw [hlater.admitted hd (by decide) (by decide)]
    exact mapBit_setMap _ _ _ _
  · rw [hdrop, hdeputy.bit (by decide)]
    exact bit_lnkEvt _ (by decide)

/-! ### Frames that wait on the ports (R283, R284) -/

/-- From `s` to `u` nothing changes but what the link's ports hold. -/
def PortsOnly (s u : State) : Prop := ∃ x, u = { s with lnk := { s.lnk with ports := x } }

namespace PortsOnly

theorem refl (s : State) : PortsOnly s s := ⟨s.lnk.ports, rfl⟩

theorem setPort (h : PortsOnly s u) (p : Nat) (x : PortSt) : PortsOnly s (u.setPort p x) := by
  obtain ⟨y, rfl⟩ := h
  exact ⟨_, rfl⟩

theorem ite {c : Prop} [Decidable c] {a b : State} (ha : PortsOnly s a) (hb : PortsOnly s b) : PortsOnly s (if c then a else b) := by
  split
  · exact ha
  · exact hb

theorem queueOn (h : PortsOnly s u) (p : Nat) (f : LinkFrame) : PortsOnly s (u.queueOn p f) := by
  unfold State.queueOn
  exact .ite (h.setPort p _) (h.setPort p _)

theorem sendFrame (h : PortsOnly s u) (type dst win : Nat) (pl : List Byte) : PortsOnly s (u.sendFrame type dst win pl) := by
  unfold State.sendFrame
  refine .ite (.ite (h.queueOn 0 _) ?_) (h.queueOn _ _)
  exact List.foldlRecOn _ _ h fun t ht q _ => .ite (ht.queueOn q _) ht

theorem writesOnly (h : PortsOnly s u) (w : Nat → Prop) : WritesOnly w s u := by
  obtain ⟨x, rfl⟩ := h
  exact (WritesOnly.refl w s).kept rfl rfl rfl

theorem regs (h : PortsOnly s u) : u.regs = s.regs := by
  obtain ⟨x, rfl⟩ := h
  rfl

theorem mem (h : PortsOnly s u) : u.mem = s.mem := by
  obtain ⟨x, rfl⟩ := h
  rfl

/-- The link's own entries stay: the topology and the admissions. -/
theorem lnk (h : PortsOnly s u) : ∃ x, u.lnk = { s.lnk with ports := x } := by
  obtain ⟨x, rfl⟩ := h
  exact ⟨x, rfl⟩

end PortsOnly

theorem port_setPort (s : State) (p q : Nat) (x : PortSt) : (s.setPort p x).port q = if q = p then x else s.port q :=
  smGet_smSet _ s.lnk.ports p q x

/-- A frame of a type that needs no credit is put behind the others of its kind. -/
theorem exempt_queueOn (s : State) (p : Nat) (hfree : creditBound f.type = false) :
    ((s.queueOn p f).port p).exempt = (s.port p).exempt ++ [f] := by
  simp [State.queueOn, hfree, port_setPort]

theorem port_queueOn_other (s : State) {q : Nat} (h : q ≠ p) : (s.queueOn p f).port q = s.port q := by
  unfold State.queueOn
  dsimp only
  split <;> rw [port_setPort, if_neg h]

theorem portUp_of_regs (h : u.regs = s.regs) (p : Nat) : u.portUp p = s.portUp p := portUp_congr (rg_congr h _)

/-- A frame that goes out on both ring ports waits on each one that is UP. -/
theorem exempt_queueBoth {p : Fin 2} (hfree : creditBound f.type = false) (hup : s.portUp p.val = true) :
    (([0, 1].foldl (fun t q => if t.portUp q then t.queueOn q f else t) s).port p.val).exempt = (s.port p.val).exempt ++ [f] := by
  let s1 := if s.portUp 0 = true then s.queueOn 0 f else s
  have hfold : [0, 1].foldl (fun t q => if t.portUp q then t.queueOn q f else t) s =
      if s1.portUp 1 = true then s1.queueOn 1 f else s1 := rfl
  have hs1 : PortsOnly s s1 := .ite ((PortsOnly.refl s).queueOn 0 f) (.refl s)
  rw [hfold, portUp_of_regs hs1.regs]
  rcases (show p = 0 ∨ p = 1 by omega) with rfl | rfl
  · have hfirst : (s1.port 0).exempt = (s.port 0).exempt ++ [f] := by
      dsimp only [s1]
      rw [if_pos (by exact hup)]
      exact exempt_queueOn s 0 hfree
    show (State.port (ite _ _ _) 0).exempt = _
    split
    · rw [port_queueOn_other s1 (by decide), hfirst]; rfl
    · exact hfirst
  · have hsame : s1.port 1 = s.port 1 := by
      dsimp only [s1]
      split
      · exact port_queueOn_other s (by decide)
      · rfl
    rw [if_pos (by exact hup)]
    show ((s1.queueOn 1 f).port 1).exempt = _
    rw [exempt_queueOn s1 1 hfree, hsame]
    rfl

/-- A frame of this device, before it goes out. -/
def State.ownFrame (s : State) (type dst win : Nat) (pl : List Byte) : LinkFrame :=
  { gen := s.ownGen, type := type, dst := dst, src := s.ownId, hops := 63, win := win, beat := 0, hseq := none, inPort := none
    payload := pl }

/-- In a ring a broadcast goes out on port A alone, with the hops around it (R276). -/
theorem sendFrame_ring (h : s.lnk.topoKind = 2) (type win : Nat) (pl : List Byte) :
    s.sendFrame type 0xFF win pl = s.queueOn 0 { s.ownFrame type 0xFF win pl with hops := s.lnk.topoN - 1 } := by
  simp only [State.sendFrame, if_pos h, if_true]
  rfl

theorem sendFrame_line (h : s.lnk.topoKind ≠ 2) (type win : Nat) (pl : List Byte) : s.sendFrame type 0xFF win pl =
    [0, 1].foldl (fun t q => if t.portUp q then t.queueOn q (s.ownFrame type 0xFF win pl) else t) s := by
  simp only [State.sendFrame, if_neg h, if_true]
  rfl

/-! ### Frames received (R277, R284) -/

/-- A delivered frame that needs no credit changes no register on its way. -/
theorem regs_receive (hfree : creditBound f.type = false) (hd : (s.receive p f).deliver = true) : (s.receive p f).st.regs = s.regs := by
  unfold State.receive at hd ⊢
  simp only [hfree, Bool.false_and, Bool.false_eq_true, if_false, Bool.and_false] at hd ⊢
  split
  · rfl
  next hup =>
    rw [if_neg hup] at hd
    split
    next hbad =>
      rw [if_pos hbad] at hd
      cases hd
    next =>
      show State.regs (ite _ _ _) = _
      split
      · exact ((PortsOnly.refl ((s.heardOn p).heardFrom f.src)).queueOn _ _).regs
      · rfl

end Sys2Proof.Machine
end

section
/-! The link's commands and the end of discovery (spec/10 R289 to R301): START, STOP, FORGET, LNK_DEPUTY, LNK_ANN and DISCOVERY_END. -/

namespace Sys2Proof.Machine

variable {s t : State} {i : Initiator} {v : Word}

/-! ### START (R50, R293, R294) -/

theorem writeLnkCmd_start (s : State) : s.writeLnkCmd 0x10000000 = s.command lnkPort false (s.adm != A_STOPPED)
    (if s.bit LNK_CFG 0 = true then s.ownId != 0 else s.ownId == 0) State.lnkStart := rfl

theorem lnkStart_accepted (hs : s.serves i LNK_CMD 0x10000000 = true) (hstop : s.adm = 0)
    (hrole : s.bit LNK_CFG 0 = decide (s.ownId = 0)) : exec (.lnkStart i) s = .next (s.accept lnkPort).lnkStart := by
  have hid : (if s.bit LNK_CFG 0 = true then s.ownId != 0 else s.ownId == 0) = false := by
    rw [hrole]
    by_cases h : s.ownId = 0 <;> simp [h]
  rw [exec_served hs rfl, writeLnkCmd_start, command_accepted _ rfl (by simp [hstop]) hid]

theorem lnkStart_refused (hs : s.serves i LNK_CMD 0x10000000 = true) (hrun : s.adm ≠ 0) :
    exec (.lnkStart i) s = .next (s.reject lnkPort ST_STATE) := by
  rw [exec_served hs rfl, writeLnkCmd_start, command_rejected_state _ (by simpa using hrun)]

theorem lnkStart_badId (hs : s.serves i LNK_CMD 0x10000000 = true) (hstop : s.adm = 0)
    (hrole : s.bit LNK_CFG 0 ≠ decide (s.ownId = 0)) : exec (.lnkStart i) s = .next (s.reject lnkPort ST_ARG) := by
  have hid : (if s.bit LNK_CFG 0 = true then s.ownId != 0 else s.ownId == 0) = true := by
    rw [Bool.eq_not.mpr hrole]
    by_cases h : s.ownId = 0 <;> simp [h]
  rw [exec_served hs rfl, writeLnkCmd_start, command_rejected_arg _ (by simp [hstop]) hid]

/-- START's first part: the link is as it comes up, in discovery or waiting. -/
def State.linkFresh (s : State) : State :=
  (s.setLnk { LnkSt.init with ports := s.lnk.ports, bootReqs := s.lnk.bootReqs }).setFld LNK_STAT 0 3
    (if s.bit LNK_CFG 0 = true then A_DISCOVER else A_WAIT)

/-- The ring ports whose PHY reports link come UP. -/
def State.linkUp (s : State) : State := (s.linkFresh.portBring 0).portBring 1

/-- A manager's beat makes no edges in discovery, and is in FREE. -/
def State.linkStarted (s : State) : State :=
  if s.bit LNK_CFG 0 = true then ({ s.linkUp with beat := { s.linkUp.beat with silent := true } }).toBeatState B_FREE else s.linkUp

/-- A wake frame may follow, which changes the ports alone. -/
theorem portsOnly_lnkStart (s : State) : PortsOnly s.linkStarted s.lnkStart :=
  .ite (((PortsOnly.refl s.linkStarted).queueOn 0 _).queueOn 1 _) (.refl _)

theorem writesOnly_linkUp (s : State) : WritesOnly (· ∈ portRegs) s.linkFresh s.linkUp :=
  ((WritesOnly.refl _ _).portBring (fun _ h => h) 0).portBring (fun _ h => h) 1

theorem adm_linkUp (s : State) : s.linkUp.adm = if s.bit LNK_CFG 0 = true then 1 else 2 := by
  rw [adm_congr ((writesOnly_linkUp s).rg _ (by decide)), State.linkFresh, adm_setAdm]
  split <;> rfl

theorem regsOnly_linkStarted (s : State) : RegsOnly (· ∈ beatStateRegs) s.linkUp s.linkStarted :=
  .ite (((RegsOnly.refl (· ∈ beatStateRegs) s.linkUp).kept (t := { s.linkUp with beat := { s.linkUp.beat with silent := true } }) rfl
    rfl).toBeatState (fun _ h => h) _) (.refl _ _)

theorem linkStarted_manager (h : s.bit LNK_CFG 0 = true) : s.linkStarted.beat.silent = true ∧ s.linkStarted.beatState = 0 := by
  rw [State.linkStarted, if_pos h]
  exact ⟨silent_toBeatState _ _, beatState_toBeatState _ (by decide)⟩

/-- What START leaves: discovery with a silent beat for the manager, waiting for another device. -/
theorem lnkStart_spec (s : State) : s.lnkStart.adm = (if s.bit LNK_CFG 0 = true then 1 else 2) ∧
    (s.bit LNK_CFG 0 = true → s.lnkStart.beat.silent = true ∧ s.lnkStart.beatState = 0) ∧ s.lnkStart.mem = s.mem := by
  have hports := portsOnly_lnkStart s
  have hregs := regsOnly_linkStarted s
  have hsame : ∀ a, s.lnkStart.rg a = s.linkStarted.rg a := rg_congr hports.regs
  refine ⟨?_, fun hmgr => ?_, by rw [hports.mem, hregs.mem, (writesOnly_linkUp s).mem]; rfl⟩
  · rw [adm_congr (hsame _), adm_congr (hregs.rg _ (by decide)), adm_linkUp]
  · obtain ⟨hsilent, hfree⟩ := linkStarted_manager hmgr
    rw [(hports.writesOnly (fun _ => False)).beat, State.beatState, fld_congr (hsame _)]
    exact ⟨hsilent, hfree⟩

theorem lnkStart_starts (hs : s.serves i LNK_CMD 0x10000000 = true) (hstop : s.adm = 0)
    (hrole : s.bit LNK_CFG 0 = decide (s.ownId = 0)) : Ends (.lnkStart i) s (fun u => u.adm = (if s.bit LNK_CFG 0 = true then 1 else 2) ∧
      (s.bit LNK_CFG 0 = true → u.beat.silent = true ∧ u.beatState = 0) ∧ u.mem = s.mem) := by
  have hcfg : (s.accept lnkPort).bit LNK_CFG 0 = s.bit LNK_CFG 0 := bit_congr (rg_accept_ne s lnkPort (by decide)) 0
  have hspec := lnkStart_spec (s.accept lnkPort)
  rw [hcfg] at hspec
  exact ⟨_, lnkStart_accepted hs hstop hrole, hspec⟩

/-! ### STOP (R289) -/

theorem writeLnkCmd_stop (s : State) : s.writeLnkCmd 0x20000000 =
    s.command lnkPort false (s.adm == A_STOPPED) false State.lnkStop := rfl

/-- Both ring ports go DOWN. -/
def State.portsDown (s : State) : State := (s.portDown 0).portDown 1

theorem portUp_portsDown (s : State) : s.portsDown.portUp 0 = false ∧ s.portsDown.portUp 1 = false :=
  ⟨(portUp_portDown_other _ (p := 1) (q := 0) (by decide)).trans (portUp_portDown s 0), portUp_portDown _ 1⟩

/-- The words of LNK_ADMIT and LNK_OBS. -/
def mapRegs : List Nat := [LNK_ADMIT_LO, LNK_ADMIT_LO + 4, LNK_OBS_LO, LNK_OBS_LO + 4]

theorem writesOnly_clearMaps (s : State) : WritesOnly (· ∈ mapRegs) s ((s.setRg64 LNK_ADMIT_LO 0).setRg64 LNK_OBS_LO 0) :=
  ((WritesOnly.refl (· ∈ mapRegs) s).setRg64 (a := LNK_ADMIT_LO) (by decide) (by decide) 0).setRg64 (a := LNK_OBS_LO) (by decide)
    (by decide) 0

theorem admit_clearMaps (s : State) : ((s.setRg64 LNK_ADMIT_LO 0).setRg64 LNK_OBS_LO 0).rg64 LNK_ADMIT_LO = 0 := by
  have hobs := (WritesOnly.refl (· ∈ [LNK_OBS_LO, LNK_OBS_LO + 4]) (s.setRg64 LNK_ADMIT_LO 0)).setRg64 (a := LNK_OBS_LO) (by decide)
    (by decide) 0
  rw [hobs.rg64 (by decide) (by decide), rg64_setRg64, Nat.zero_mod]

/-- The registers that giving up the lead and the role writes. -/
def stopRegs : List Nat := mapRegs ++ roleRegs ++ beatStateRegs ++ mirrorRegs ++ topologyRegs

/-- The lead is given up: ADM, the role and the beat's state. -/
def State.leadDropped (s : State) (k : Nat) : State := ((s.setFld LNK_STAT 0 3 k).setRole 0).toBeatState B_FREE

/-- So are the members and the failover's source. -/
def State.leadGiven (s : State) (k : Nat) : State :=
  { s.leadDropped k with
    lnk := { (s.leadDropped k).lnk with members := [], admissions := [] }, beat := { (s.leadDropped k).beat with forceGen := false } }

theorem regs_leadGiven (s : State) (k : Nat) : (s.leadGiven k).regs = (s.leadDropped k).regs := rfl

theorem stopLeading_eq (s : State) (k : Nat) :
    s.stopLeading k = (((s.leadGiven k).setRg64 LNK_ADMIT_LO 0).setRg64 LNK_OBS_LO 0).setMirror 0 := rfl

theorem adm_leadGiven (s : State) (k : Nat) : (s.leadGiven k).adm = k % 8 := by
  have hfree : (s.leadDropped k).rg LNK_STAT = ((s.setFld LNK_STAT 0 3 k).setRole 0).rg LNK_STAT :=
    rg_toBeatState_ne _ (by decide) (by decide) (by decide)
  rw [adm_congr (rg_congr (regs_leadGiven s k) _), adm_congr hfree, adm_setRole, adm_setAdm]

theorem regsOnly_leadGiven (s : State) (k : Nat) : RegsOnly (· ∈ stopRegs) s (s.leadGiven k) := by
  have hrole := ((WritesOnly.refl (· ∈ stopRegs) s).setFld (a := LNK_STAT) (by decide) 0 3 k).setRole (by decide) 0
  have hdropped : RegsOnly (· ∈ stopRegs) s (s.leadDropped k) := hrole.regsOnly.toBeatState (by decide) B_FREE
  exact hdropped.kept (regs_leadGiven s k) rfl

theorem writesOnly_stopLeading (s : State) (k : Nat) : WritesOnly (· ∈ mapRegs ++ mirrorRegs) (s.leadGiven k) (s.stopLeading k) := by
  rw [stopLeading_eq]
  exact ((writesOnly_clearMaps _).weaken fun _ h => List.mem_append_left _ h).setMirror (by decide) 0

theorem adm_stopLeading (s : State) (k : Nat) : (s.stopLeading k).adm = k % 8 := by
  rw [adm_congr ((writesOnly_stopLeading s k).rg _ (by decide)), adm_leadGiven]

theorem regsOnly_stopLeading (s : State) (k : Nat) : RegsOnly (· ∈ stopRegs) s (s.stopLeading k) :=
  (regsOnly_leadGiven s k).writes ((writesOnly_stopLeading s k).weaken (by decide))

/-- The device, or the lead, out of the vehicle, its ports DOWN: before the maps are cleared. -/
def State.linkLeft (s : State) : State :=
  if s.portsDown.leads = true then s.portsDown.stopLeading A_STOPPED else (s.portsDown.setFld LNK_STAT 0 3 A_STOPPED).setRole 0

/-- The maps are cleared too, and edges are made again. -/
def State.linkCleared (s : State) : State := ((s.linkLeft.setRg64 LNK_ADMIT_LO 0).setRg64 LNK_OBS_LO 0).endSilence

theorem lnkStop_eq (s : State) : s.lnkStop = s.linkCleared.setTopology T_ALONE := rfl

theorem adm_linkLeft (s : State) : s.linkLeft.adm = 0 := by
  unfold State.linkLeft
  split
  · exact adm_stopLeading _ _
  · rw [adm_setRole]
    exact adm_setAdm _ _

theorem regsOnly_linkLeft (s : State) : RegsOnly (· ∈ stopRegs) s.portsDown s.linkLeft :=
  .ite (regsOnly_stopLeading _ _) (((WritesOnly.refl _ _).setFld (by decide) 0 3 A_STOPPED).setRole (by decide) 0).regsOnly

theorem adm_linkCleared (s : State) : s.linkCleared.adm = 0 :=
  (adm_congr ((writesOnly_clearMaps s.linkLeft).rg LNK_STAT (by decide))).trans (adm_linkLeft s)

theorem regsOnly_linkCleared (s : State) : RegsOnly (· ∈ stopRegs) s.portsDown s.linkCleared :=
  ((regsOnly_linkLeft s).writes ((writesOnly_clearMaps _).weaken (by decide))).kept rfl rfl

theorem mem_portsDown (s : State) : s.portsDown.mem = s.mem :=
  (((WritesOnly.refl (· ∈ portRegs) s).portDown (fun _ h => h) 0).portDown (fun _ h => h) 1).mem

/-- What STOP leaves: the ports DOWN, and nothing of the vehicle. -/
theorem lnkStop_spec (s : State) : s.lnkStop.adm = 0 ∧ s.lnkStop.portUp 0 = false ∧ s.lnkStop.portUp 1 = false ∧
    s.lnkStop.rg64 LNK_ADMIT_LO = 0 ∧ s.lnkStop.topology = 0 ∧ s.lnkStop.mem = s.mem := by
  have htopo := (WritesOnly.refl (· ∈ topologyRegs) s.linkCleared).setTopology (fun _ h => h) T_ALONE
  have hall : RegsOnly (· ∈ stopRegs) s.portsDown s.lnkStop := (regsOnly_linkCleared s).writes (htopo.weaken (by decide))
  obtain ⟨hdownA, hdownB⟩ := portUp_portsDown s
  refine ⟨?_, ?_, ?_, ?_, topology_setTopology _ (by decide), by rw [hall.mem, mem_portsDown]⟩
  · rw [lnkStop_eq, adm_setTopology, adm_linkCleared]
  · rw [portUp_congr (hall.rg _ (by decide)), hdownA]
  · rw [portUp_congr (hall.rg _ (by decide)), hdownB]
  · rw [lnkStop_eq, htopo.rg64 (by decide) (by decide)]
    exact admit_clearMaps s.linkLeft

theorem lnkStop_stops (hs : s.serves i LNK_CMD 0x20000000 = true) (hrun : s.adm ≠ 0) :
    Ends (.lnkStop i) s (fun u => u.adm = 0 ∧ u.portUp 0 = false ∧ u.portUp 1 = false ∧ u.rg64 LNK_ADMIT_LO = 0 ∧ u.topology = 0 ∧
      u.mem = s.mem) := by
  refine ends_served hs rfl ?_
  rw [writeLnkCmd_stop, command_accepted _ rfl (by simpa using hrun) rfl]
  exact lnkStop_spec _

theorem lnkStop_refused (hs : s.serves i LNK_CMD 0x20000000 = true) (hstop : s.adm = 0) :
    exec (.lnkStop i) s = .next (s.reject lnkPort ST_STATE) := by
  rw [exec_served hs rfl, writeLnkCmd_stop, command_rejected_state _ (by simp [hstop])]

/-! ### FORGET and member timeouts (R297) -/

theorem writeLnkCmd_forget (s : State) (d : Fin 64) : s.writeLnkCmd (BitVec.ofNat 32 (0x30000000 + d.val)) =
    s.command lnkPort false (!s.leads) false (fun t => t.dropMember d.val) := by
  have hop : fieldOf (BitVec.ofNat 32 (0x30000000 + d.val)) 28 4 = 3 ∧ fieldOf (BitVec.ofNat 32 (0x30000000 + d.val)) 0 6 = d.val := by
    decide +revert
  obtain ⟨hcode, hdev⟩ := hop
  simp only [State.writeLnkCmd, hcode, hdev]

theorem forget_drops {d : Fin 64} (hs : s.serves i LNK_CMD (BitVec.ofNat 32 (0x30000000 + d.val)) = true) (hlead : s.leads = true)
    (hmember : (s.member d.val).isSome = true) : Ends (.forget i d) s (fun u => u.member d.val = none ∧ u.admitted d.val = false ∧
      u.bit LNK_EVT 3 = true ∧ u.mem = s.mem) := by
  refine ends_served hs rfl ?_
  rw [show w32 (0x30000000 + d.val) = BitVec.ofNat 32 (0x30000000 + d.val) from rfl, writeLnkCmd_forget,
    command_accepted _ rfl (by simp [hlead]) rfl]
  exact dropMember_spec (s := s.accept lnkPort) hmember d.isLt

theorem forget_refused {d : Fin 64} (hs : s.serves i LNK_CMD (BitVec.ofNat 32 (0x30000000 + d.val)) = true) (hlead : s.leads = false) :
    exec (.forget i d) s = .next (s.reject lnkPort ST_STATE) := by
  rw [exec_served hs rfl, show w32 (0x30000000 + d.val) = BitVec.ofNat 32 (0x30000000 + d.val) from rfl, writeLnkCmd_forget,
    command_rejected_state _ (by simp [hlead])]

theorem memberTimeout_drops {d : Fin 64} {m : Member} (hm : s.member d.val = some m) (hlead : s.leads = true)
    (hsilent : (s.rg LNK_DEADB).toNat ≤ m.silent) : Ends (.memberTimeout d) s (fun u => u.member d.val = none ∧
      u.admitted d.val = false ∧ u.bit LNK_EVT 3 = true) := by
  have hexec : exec (.memberTimeout d) s = .next (s.dropMember d.val) := by
    show execMemberTimeout d s = _
    simp only [execMemberTimeout, hm, if_pos (And.intro hlead hsilent)]
    rfl
  obtain ⟨hnone, hclear, hevt, -⟩ := dropMember_spec (s := s) (by rw [hm]; rfl) d.isLt
  exact ⟨_, hexec, hnone, hclear, hevt⟩

theorem memberTimeout_keeps {d : Fin 64} (h : s.member d.val = none ∨ s.leads = false ∨
    ∃ m, s.member d.val = some m ∧ m.silent < (s.rg LNK_DEADB).toNat) : exec (.memberTimeout d) s = .next s := by
  show execMemberTimeout d s = _
  unfold execMemberTimeout
  split
  next m hm =>
    have hnot : ¬(s.leads = true ∧ (s.rg LNK_DEADB).toNat ≤ m.silent) := by
      rintro ⟨hlead, hsilent⟩
      rcases h with h | h | ⟨m', hm', hlt⟩
      · simp [hm] at h
      · simp [hlead] at h
      · rw [hm] at hm'
        cases hm'
        omega
    rw [if_neg hnot]
    rfl
  next => rfl

/-! ### LNK_DEPUTY (R298) -/

theorem deputyBad_eq (s : State) (d : Nat) : (d == 0 || d == 63 || d == s.ownId) = [0, 63, s.ownId].contains d := by
  rw [Bool.eq_iff_iff]
  simp [or_assoc]

theorem writeLnkDeputy_eq (s : State) (v : Word) : s.writeLnkDeputy v = s.command lnkPort false false
    ([0, 63, s.ownId].contains (fieldOf v 0 6)) (fun t => (t.setRg LNK_DEPUTY (v &&& 0x8000003F)).applyDeputy) := by
  rw [← deputyBad_eq]
  rfl

theorem lnkDeputyWrite_refused (hs : s.serves i LNK_DEPUTY v = true) (hbad : ([0, 63, s.ownId].contains (fieldOf v 0 6)) = true) :
    exec (.lnkDeputyWrite i v) s = .next (s.reject lnkPort ST_ARG) := by
  rw [exec_served hs rfl, writeLnkDeputy_eq, command_rejected_arg _ rfl hbad]

/-- LNK_DEPUTY once the write is accepted. -/
def State.deputyNamed (s : State) (v : Word) : State := (s.accept lnkPort).setRg LNK_DEPUTY (v &&& 0x8000003F)

theorem deputyNamed_rg (s : State) (v : Word) : (s.deputyNamed v).rg LNK_DEPUTY = v &&& 0x8000003F := rg_setRg_same _ _ _

theorem writesOnly_deputyNamed (s : State) (v : Word) : WritesOnly (· ∈ [LNK_DEPUTY, LNK_CMDST]) s (s.deputyNamed v) :=
  ((WritesOnly.refl _ s).accept (by simp [lnkPort])).setRg (by simp) _

theorem leads_deputyNamed (s : State) (v : Word) : (s.deputyNamed v).leads = s.leads := by
  rw [State.leads, State.leads, adm_congr ((writesOnly_deputyNamed s v).rg _ (by decide))]

theorem lnkDeputyWrite_stores (hs : s.serves i LNK_DEPUTY v = true) (hok : ([0, 63, s.ownId].contains (fieldOf v 0 6)) = false)
    (hlead : s.leads = false) : Ends (.lnkDeputyWrite i v) s (fun u => u.rg LNK_DEPUTY = v &&& 0x8000003F ∧
      SameRegsBut s u [LNK_DEPUTY, LNK_CMDST] ∧ u.lnk = s.lnk) := by
  refine ends_served hs rfl ?_
  have hkept : (s.deputyNamed v).applyDeputy = s.deputyNamed v := by
    rw [State.applyDeputy, if_neg (by simp [leads_deputyNamed, hlead])]
  rw [writeLnkDeputy_eq, command_accepted _ rfl rfl hok]
  show (s.deputyNamed v).applyDeputy.rg _ = _ ∧ SameRegsBut s (s.deputyNamed v).applyDeputy _ ∧ (s.deputyNamed v).applyDeputy.lnk = _
  rw [hkept]
  exact ⟨deputyNamed_rg s v, (writesOnly_deputyNamed s v).sameRegsBut, rfl⟩

/-- The name and the enable of a deputy pass the mask of LNK_DEPUTY. -/
theorem deputyMask (v : Word) : bitOf (v &&& 0x8000003F) 31 = bitOf v 31 ∧ fieldOf (v &&& 0x8000003F) 0 6 = fieldOf v 0 6 := by
  constructor
  · simp [bitOf]
  · apply Nat.eq_of_testBit_eq
    intro n
    rw [testBit_fieldOf, testBit_fieldOf, BitVec.getLsbD_and]
    by_cases hn : n < 6
    · have hmask : (0x8000003F : Word).getLsbD (0 + n) = true := by interval_cases n <;> rfl
      rw [hmask, Bool.and_true]
    · simp [hn]

/-- The one member, a worker that LNK_DEPUTY now names, is taken again as the deputy. -/
theorem applyDeputy_one {m : Member} (hlead : t.leads = true) (hmembers : t.lnk.members = [m]) (hworker : m.result = 1)
    (hen : t.bit LNK_DEPUTY 31 = true) (hname : t.fld LNK_DEPUTY 0 6 = m.id) : t.applyDeputy =
    (t.takeMember m.id m.uid 2).setAdmission { id := m.id, uid := m.uid, result := 2, fresh := true } := by
  simp [State.applyDeputy, hlead, hmembers, hworker, hen, hname]

theorem takeMember_deputy {m : Member} (hmembers : t.lnk.members = [m]) (hid : m.id < 64) :
    (t.takeMember m.id m.uid 2).rg LNK_DEPUTY = t.rg LNK_DEPUTY ∧ (t.takeMember m.id m.uid 2).deputyId = some m.id ∧
      (t.takeMember m.id m.uid 2).mirror = 1 := by
  have hentries : (t.setMember (t.takenEntry m.id m.uid 2)).lnk.members = [t.takenEntry m.id m.uid 2] := by
    show t.lnk.members.filter (fun x => x.id != m.id) ++ [_] = _
    simp [hmembers]
  refine ⟨(writesOnly_takeMember t hid m.uid 2).rg _ (by decide), ?_, ?_⟩
  · rw [State.deputyId, lnk_takeMember, hentries]
    rfl
  · rw [takeMember_eq, if_pos rfl]
    refine mirror_deputyChange_new (d := m.id) ?_
    have hlnk : ∀ x : State, x.lnk.members = [t.takenEntry m.id m.uid 2] → x.deputyId = some m.id := fun x hx => by
      rw [State.deputyId, hx]
      rfl
    refine hlnk _ ?_
    split
    · exact hentries
    · rw [State.lnkEvt, State.event_lnk]
      exact hentries

theorem lnkDeputyWrite_names {m : Member} (hs : s.serves i LNK_DEPUTY v = true) (hok : ([0, 63, s.ownId].contains (fieldOf v 0 6)) = false)
    (hlead : s.leads = true) (hen : bitOf v 31 = true) (hmembers : s.lnk.members = [m]) (hworker : m.result = 1)
    (hname : m.id = fieldOf v 0 6) : Ends (.lnkDeputyWrite i v) s (fun u => u.rg LNK_DEPUTY = v &&& 0x8000003F ∧
      u.deputyId = some m.id ∧ u.mirror = 1) := by
  refine ends_served hs rfl ?_
  have hid : m.id < 64 := by rw [hname]; exact fieldOf_lt v 0 6
  obtain ⟨hbit, hfld⟩ := deputyMask v
  have happly := applyDeputy_one (t := s.deputyNamed v) (m := m) (by rw [leads_deputyNamed, hlead]) hmembers hworker
    (by rw [State.bit, deputyNamed_rg, hbit, hen]) (by rw [State.fld, deputyNamed_rg, hfld, hname])
  rw [writeLnkDeputy_eq, command_accepted _ rfl rfl hok]
  show (s.deputyNamed v).applyDeputy.rg _ = _ ∧ (s.deputyNamed v).applyDeputy.deputyId = _ ∧ (s.deputyNamed v).applyDeputy.mirror = _
  rw [happly]
  obtain ⟨hrg, hdep, hmir⟩ := takeMember_deputy (t := s.deputyNamed v) hmembers hid
  exact ⟨hrg.trans (deputyNamed_rg s v), hdep, hmir⟩

/-! ### LNK_ANN (R301) -/

theorem writeLnkAnn_eq (s : State) (k : Nat) (v : Word) : s.writeLnkAnn k v = s.command lnkPort false (!s.leads)
    (bitOf v 0 && decide (s.rg64 (LNK_ANN_BEAT_LO k) < s.beatNo + 4)) (fun t => t.setRg (LNK_ANN_CTL k) (v &&& 1)) := rfl

theorem lnkAnnWrite_stores {k : Fin 8} (hs : s.serves i (LNK_ANN_CTL k.val) v = true) (hlead : s.leads = true)
    (hok : bitOf v 0 = false ∨ s.beatNo + 4 ≤ s.rg64 (LNK_ANN_BEAT_LO k.val)) :
    Ends (.lnkAnnWrite i k v) s (fun u => u.rg (LNK_ANN_CTL k.val) = v &&& 1 ∧ SameRegsBut s u [LNK_ANN_CTL k.val, LNK_CMDST]) := by
  have harg : (bitOf v 0 && decide (s.rg64 (LNK_ANN_BEAT_LO k.val) < s.beatNo + 4)) = false := by
    rcases hok with h | h
    · simp [h]
    · simp [Nat.not_lt.mpr h]
  refine ends_served hs rfl ?_
  rw [writeLnkAnn_eq, command_accepted _ rfl (by simp [hlead]) harg]
  exact ⟨rg_setRg_same _ _ _, (((WritesOnly.refl _ s).accept (by simp [lnkPort])).setRg (by simp) _).sameRegsBut⟩

theorem lnkAnnWrite_follower {k : Fin 8} (hs : s.serves i (LNK_ANN_CTL k.val) v = true) (hlead : s.leads = false) :
    exec (.lnkAnnWrite i k v) s = .next (s.reject lnkPort ST_STATE) := by
  rw [exec_served hs rfl, writeLnkAnn_eq, command_rejected_state _ (by simp [hlead])]

theorem lnkAnnWrite_early {k : Fin 8} (hs : s.serves i (LNK_ANN_CTL k.val) v = true) (hen : bitOf v 0 = true) (hlead : s.leads = true)
    (hnear : s.rg64 (LNK_ANN_BEAT_LO k.val) < s.beatNo + 4) : exec (.lnkAnnWrite i k v) s = .next (s.reject lnkPort ST_ARG) := by
  rw [exec_served hs rfl, writeLnkAnn_eq, command_rejected_arg _ (by simp [hlead]) (by simp [hen, hnear])]

/-! ### The end of discovery (R50, R294) -/

/-- The beat number that the new lead begins with. -/
def State.firstBeat (s : State) : Nat :=
  (match s.lnk.reported with
    | some r => max s.beatNo (64 + r)
    | none => s.beatNo) % 2 ^ 64

/-- The new lead's beat number and ADM. -/
def State.leadNumbered (s : State) : State :=
  ((s.setRg64 BEAT_COUNT_LO s.firstBeat).setFld LNK_STAT 0 3 A_LEAD).setFld LNK_STAT 24 6 0

/-- It takes the beat's state LEAD and the role of the manager, and follows itself. -/
def State.leadTaken (s : State) : State :=
  ((s.leadNumbered.toBeatState B_LEAD).setRole 1).setLeadId (s.leadNumbered.toBeatState B_LEAD).ownId

/-- The first edge follows in the next cycle. -/
def State.leadBegun (s : State) : State :=
  { s.leadTaken with
    beat := { s.leadTaken.beat with silent := false, len := some ((s.leadTaken.rg BEAT_PHASE).toNat + 1) }
    lnk := { s.leadTaken.lnk with members := [], hasLead := true, leadTerm := s.leadTaken.ldg.nv.term } }

theorem regs_leadBegun (s : State) : s.leadBegun.regs = s.leadTaken.regs := rfl

theorem discoveryEnd_leads (hadm : s.adm = 1) (hmgr : s.bit LNK_CFG 0 = true) :
    exec .discoveryEnd s = .next (s.leadBegun.setMap LNK_ADMIT_LO s.leadBegun.ownId true) :=
  congrArg Host.Outcome.next (if_pos ⟨hadm, hmgr⟩)

theorem discoveryEnd_keeps (h : s.adm ≠ 1 ∨ s.bit LNK_CFG 0 = false) : exec .discoveryEnd s = .next s := by
  refine congrArg Host.Outcome.next (if_neg ?_)
  rintro ⟨hadm, hmgr⟩
  rcases h with h | h
  · exact h hadm
  · simp [hmgr] at h

/-- The registers of the new lead's number, state, role and place. -/
def leadRegs : List Nat := [BEAT_COUNT_LO, BEAT_COUNT_LO + 4] ++ beatStateRegs ++ roleRegs

theorem writesOnly_leadNumbered (s : State) : WritesOnly (· ∈ leadRegs) s s.leadNumbered :=
  (((WritesOnly.refl (· ∈ leadRegs) s).setRg64 (a := BEAT_COUNT_LO) (by decide) (by decide) s.firstBeat).setFld (a := LNK_STAT)
    (by decide) 0 3 A_LEAD).setFld (a := LNK_STAT) (by decide) 24 6 0

/-- The registers that the role and the lead write leave the number, and the beat's state, alone. -/
theorem writesOnly_leadTaken (s : State) : WritesOnly (· ∈ roleRegs) (s.leadNumbered.toBeatState B_LEAD) s.leadTaken :=
  ((WritesOnly.refl (· ∈ roleRegs) (s.leadNumbered.toBeatState B_LEAD)).setRole (fun _ h => h) 1).setFld (a := LNK_STAT)
    (by decide) 16 6 _

theorem regsOnly_leadTaken (s : State) : RegsOnly (· ∈ leadRegs) s s.leadTaken :=
  ((writesOnly_leadNumbered s).regsOnly.toBeatState (by decide) B_LEAD).writes
    ((writesOnly_leadTaken s).weaken fun _ h => List.mem_append_right _ h)

theorem ownId_congr (h : t.rg LNK_ID = s.rg LNK_ID) : t.ownId = s.ownId := fld_congr h 0 6

theorem ownId_lt (s : State) : s.ownId < 64 := fieldOf_lt _ 0 6

theorem adm_leadTaken (s : State) : s.leadTaken.adm = 4 := by
  have hstate : (s.leadNumbered.toBeatState B_LEAD).rg LNK_STAT = s.leadNumbered.rg LNK_STAT :=
    rg_toBeatState_ne _ (by decide) (by decide) (by decide)
  have hlead : s.leadNumbered.adm = 4 := by
    rw [State.leadNumbered, State.adm, fld_setFld_other _ _ _ _ _ (by decide) (by decide)]
    exact adm_setAdm _ _
  rw [State.leadTaken, adm_setLeadId, adm_setRole, adm_congr hstate, hlead]

theorem beatState_leadTaken (s : State) : s.leadTaken.beatState = 4 := by
  rw [State.beatState, (writesOnly_leadTaken s).fld (by decide)]
  exact beatState_toBeatState _ (by decide)

theorem count_leadTaken (s : State) : s.leadTaken.rg64 BEAT_COUNT_LO = s.firstBeat := by
  have hcount : s.leadNumbered.rg64 BEAT_COUNT_LO = s.firstBeat := by
    have hstat := ((WritesOnly.refl (· ∈ [LNK_STAT]) (s.setRg64 BEAT_COUNT_LO s.firstBeat)).setFld (a := LNK_STAT) (by decide) 0 3
      A_LEAD).setFld (a := LNK_STAT) (by decide) 24 6 0
    rw [State.leadNumbered, hstat.rg64 (by decide) (by decide), rg64_setRg64]
    exact Nat.mod_mod _ _
  have hstate : ∀ a, a ∈ [BEAT_COUNT_LO, BEAT_COUNT_LO + 4] →
      (s.leadNumbered.toBeatState B_LEAD).rg a = s.leadNumbered.rg a := fun a ha => by
    simp only [List.mem_cons, List.not_mem_nil, or_false] at ha
    rcases ha with rfl | rfl <;> exact rg_toBeatState_ne _ (by decide) (by decide) (by decide)
  rw [(writesOnly_leadTaken s).rg64 (by decide) (by decide), rg64_congr (hstate _ (by simp)) (hstate _ (by simp)), hcount]

theorem leadId_leadTaken (s : State) : s.leadTaken.leadId = s.ownId := by
  have hid : (s.leadNumbered.toBeatState B_LEAD).rg LNK_ID = s.rg LNK_ID :=
    ((writesOnly_leadNumbered s).regsOnly.toBeatState (by decide) B_LEAD).rg _ (by decide)
  rw [State.leadTaken, leadId_setLeadId, ownId_congr hid, Nat.mod_eq_of_lt (ownId_lt s)]

theorem role_leadTaken (s : State) : s.leadTaken.role = 1 := by
  rw [State.leadTaken, role_setLeadId, role_setRole]

theorem ldgRole_leadTaken (s : State) : s.leadTaken.ldgRole = 1 := by
  have hlead : s.leadTaken.rg LDG_STAT = ((s.leadNumbered.toBeatState B_LEAD).setRole 1).rg LDG_STAT := rg_setFld_ne _ _ _ _ (by decide)
  rw [State.ldgRole, fld_congr hlead]
  exact ldgRole_setRole _ 1

theorem discoveryEnd_spec (hadm : s.adm = 1) (hmgr : s.bit LNK_CFG 0 = true) : Ends .discoveryEnd s (fun u => u.adm = 4 ∧
    u.beatState = 4 ∧ u.ldgRole = 1 ∧ u.leadId = s.ownId ∧ u.role = 1 ∧ u.beatNo = s.firstBeat ∧ u.beat.silent = false ∧
    u.beat.len = some ((s.rg BEAT_PHASE).toNat + 1) ∧ u.admitted s.ownId = true ∧ u.mem = s.mem) := by
  have htaken := regsOnly_leadTaken s
  have hown : s.leadBegun.ownId = s.ownId := ownId_congr ((rg_congr (regs_leadBegun s) _).trans (htaken.rg _ (by decide)))
  have hexec := discoveryEnd_leads hadm hmgr
  rw [hown] at hexec
  have hmap := (WritesOnly.refl (· ∈ mapRegs) s.leadBegun).setMap (ownId_lt s) (a := LNK_ADMIT_LO) (by decide) (by decide) true
  have hsame : ∀ a, a ∉ mapRegs → (s.leadBegun.setMap LNK_ADMIT_LO s.ownId true).rg a = s.leadTaken.rg a := fun a ha =>
    (hmap.rg a ha).trans (rg_congr (regs_leadBegun s) a)
  refine ⟨_, hexec, ?_, ?_, ?_, ?_, ?_, ?_, rfl, ?_, mapBit_setMap _ _ _ _, hmap.mem.trans htaken.mem⟩
  · rw [adm_congr (hsame _ (by decide)), adm_leadTaken]
  · rw [State.beatState, fld_congr (hsame _ (by decide))]
    exact beatState_leadTaken s
  · rw [State.ldgRole, fld_congr (hsame _ (by decide))]
    exact ldgRole_leadTaken s
  · rw [State.leadId, fld_congr (hsame _ (by decide))]
    exact leadId_leadTaken s
  · rw [State.role, fld_congr (hsame _ (by decide))]
    exact role_leadTaken s
  · rw [State.beatNo, rg64_congr (hsame _ (by decide)) (hsame _ (by decide)), count_leadTaken]
  · rw [hmap.beat, ← htaken.rg BEAT_PHASE (by decide)]
    rfl

end Sys2Proof.Machine
end

section
/-! HELLO, ADMIT and TOPO (spec/10 R276, R294 to R297), and the statement LinkAdmission. -/

namespace Sys2Proof.Machine

variable {s t : State} {p : Fin 2} {f : Llp} {g : LinkFrame}

/-! ### HELLO sent (R294, R297) -/

theorem helloSend_stopped (h : s.adm = 0) : exec .helloSend s = .next s := congrArg Host.Outcome.next (if_pos h)

/-- The window of a HELLO after admission: the bulk window, or the sync window of a beat without a BEAT frame (R302). -/
def State.helloWindow (s : State) : Nat := if s.adm = 3 ∧ s.beat.heard = false then 0 else 4

theorem exec_helloSend_admitted (h : s.adm = 3 ∨ s.adm = 4) :
    exec .helloSend s = .next (s.sendFrame 2 0xFF s.helloWindow s.helloPayload) := by
  have hrun : s.adm ≠ 0 := by omega
  show execHelloSend s = _
  rw [execHelloSend, if_neg hrun, if_pos h]
  rfl

theorem exec_helloSend_before (h : s.adm = 1 ∨ s.adm = 2 ∨ s.adm = 5) : exec .helloSend s =
    .next ([0, 1].foldl (fun t q => if t.portUp q then t.queueOn q (s.ownFrame 2 0xFF 15 s.helloPayload) else t) s) := by
  have hrun : s.adm ≠ 0 := by omega
  have hout : ¬(s.adm = 3 ∨ s.adm = 4) := by omega
  show execHelloSend s = _
  rw [execHelloSend, if_neg hrun, if_neg hout]
  rfl

/-- A HELLO after admission waits on port A in a ring, else on each ring port that is UP. -/
theorem helloSend_admitted (h : s.adm = 3 ∨ s.adm = 4)
    (hport : s.lnk.topoKind ≠ 2 ∧ s.portUp p.val = true ∨ s.lnk.topoKind = 2 ∧ p = 0) :
    Ends .helloSend s (fun u => u.regs = s.regs ∧ u.mem = s.mem ∧ ∃ h : LinkFrame,
      (u.port p.val).exempt = (s.port p.val).exempt ++ [h] ∧ h.type = 2 ∧ h.payload = s.helloPayload ∧ h.win = s.helloWindow) := by
  have hports : PortsOnly s (s.sendFrame 2 0xFF s.helloWindow s.helloPayload) := (PortsOnly.refl s).sendFrame _ _ _ _
  refine ⟨_, exec_helloSend_admitted h, hports.regs, hports.mem, ?_⟩
  rcases hport with ⟨hline, hup⟩ | ⟨hring, rfl⟩
  · rw [sendFrame_line hline]
    exact ⟨_, exempt_queueBoth rfl hup, rfl, rfl, rfl⟩
  · rw [sendFrame_ring hring]
    exact ⟨_, exempt_queueOn s 0 rfl, rfl, rfl, rfl⟩

theorem helloSend_before (h : s.adm = 1 ∨ s.adm = 2 ∨ s.adm = 5) (hup : s.portUp p.val = true) :
    Ends .helloSend s (fun u => u.regs = s.regs ∧ u.mem = s.mem ∧ ∃ h : LinkFrame,
      (u.port p.val).exempt = (s.port p.val).exempt ++ [h] ∧ h.type = 2 ∧ h.win = 15 ∧ h.payload = s.helloPayload) := by
  have hports : PortsOnly s
      ([0, 1].foldl (fun t q => if t.portUp q then t.queueOn q (s.ownFrame 2 0xFF 15 s.helloPayload) else t) s) :=
    List.foldlRecOn _ _ (.refl s) fun t ht q _ => .ite (ht.queueOn q _) ht
  exact ⟨_, exec_helloSend_before h, hports.regs, hports.mem, _, exempt_queueBoth rfl hup, rfl, rfl, rfl⟩

/-! ### HELLO received (R294 to R297) -/

theorem helloResult_setLnk {k : LnkSt} (g : LinkFrame) (h : k.members = s.lnk.members) : (s.setLnk k).helloResult g = s.helloResult g := by
  unfold State.helloResult
  rw [show (s.setLnk k).lnk.members = s.lnk.members from h]
  rfl

/-- A HELLO of a device that the lead does not know is noted in what the lead has heard, and decided. -/
theorem helloRx_decides {g : LinkFrame} (hlen : 36 ≤ g.payload.length)
    (hown : ¬(g.src = s.ownId ∧ fieldAt g.payload 0 8 = Config.dieUid.toNat)) (hlead : s.leads = true)
    (hflag : bitOf (w32 (fieldAt g.payload 17 1)) 1 = false) (hnew : s.member (fieldAt g.payload 16 1 % 64) = none) :
    ∃ k : LnkSt, s.helloRx g = (s.setLnk k).decideHello g ∧ k.members = s.lnk.members ∧ k.admissions = s.lnk.admissions := by
  have hmine : ¬(decide (g.payload.length < 36) || (g.src == s.ownId && fieldAt g.payload 0 8 == Config.dieUid.toNat)) = true := by
    simpa [Nat.not_lt.mpr hlen] using hown
  have hjudged : ∀ k : LnkSt, ((s.setLnk k).leads && !bitOf (w32 (fieldAt g.payload 17 1)) 1) = true := fun k => by
    rw [hflag, show (s.setLnk k).leads = true from hlead]
    rfl
  unfold State.helloRx
  dsimp only
  rw [if_neg hmine, if_pos (hjudged _)]
  split
  next m hm => exact absurd (hnew.symm.trans hm) (by simp)
  next => exact ⟨_, rfl, rfl, rfl⟩

/-- With no ADMIT to be sent the lead's decision is new: a DUPID has its event, another device is taken as a member. -/
theorem decideHello_new {g : LinkFrame} (h : s.lnk.admissions = []) :
    let d := fieldAt g.payload 16 1 % 64
    let uid := fieldAt g.payload 0 8
    let s1 := s.setAdmission { id := d, uid := uid, result := s.helloResult g, fresh := true }
    s.decideHello g = if s.helloResult g = 8 then s1.lnkEvt 4
      else (if s.helloResult g = 3 then s1.lnkEvt 5 else s1).takeMember d uid (s.helloResult g) := by
  unfold State.decideHello
  simp only [h, List.any_nil, Bool.false_eq_true, if_false]
  split <;> rfl

theorem members_lnkEvt (s : State) (k : Nat) : (s.lnkEvt k).lnk.members = s.lnk.members := by rw [State.lnkEvt, State.event_lnk]

theorem member_ite_lnkEvt (s : State) (b : Prop) [Decidable b] (k d : Nat) : (if b then s.lnkEvt k else s).member d = s.member d := by
  split
  · exact member_congr (members_lnkEvt s k) d
  · rfl

theorem decideHello_admits {g : LinkFrame} (h : s.lnk.admissions = []) (hnew : s.member (fieldAt g.payload 16 1 % 64) = none)
    (hres : s.helloResult g ≠ 8) : (s.decideHello g).admitted (fieldAt g.payload 16 1 % 64) = true ∧
    (s.decideHello g).bit LNK_EVT 3 = true ∧ ∃ m : Member, (s.decideHello g).member (fieldAt g.payload 16 1 % 64) = some m ∧
      m.uid = fieldAt g.payload 0 8 ∧ m.result = s.helloResult g := by
  have hdecide := decideHello_new (s := s) (g := g) h
  simp only [if_neg hres] at hdecide
  have hid : fieldAt g.payload 16 1 % 64 < 64 := Nat.mod_lt _ (by decide)
  rw [hdecide]
  refine ⟨admitted_takeMember _ hid _ _, bit_takeMember ?_, _, member_takeMember _ _ _ _, rfl, rfl⟩
  rw [member_ite_lnkEvt]
  show Option.map _ (s.member _) ≠ _
  rw [hnew]
  simp

theorem decideHello_dup {g : LinkFrame} (h : s.lnk.admissions = []) (hnew : s.member (fieldAt g.payload 16 1 % 64) = none)
    (hres : s.helloResult g = 8) : (s.decideHello g).member (fieldAt g.payload 16 1 % 64) = none ∧
    (s.decideHello g).bit LNK_EVT 4 = true := by
  have hdecide := decideHello_new (s := s) (g := g) h
  simp only [if_pos hres] at hdecide
  rw [hdecide]
  exact ⟨(member_congr (members_lnkEvt _ _) _).trans hnew, bit_lnkEvt _ (by decide)⟩

theorem exec_helloRx (h : (s.receive p.val (frameOf f 2)).deliver = true) :
    exec (.helloRx p f) s = .next ((s.receive p.val (frameOf f 2)).st.helloRx (frameOf f 2)) := congrArg Host.Outcome.next (if_pos h)

/-! ### ADMIT (R295, R296) -/

theorem admitSend_idle (h : s.leads = false) : exec .admitSend s = .next s := congrArg Host.Outcome.next (if_neg (by simp [h]))

/-- Every ADMIT due goes out; those that no HELLO asked for again are dropped. -/
theorem admitSend_sends (h : s.leads = true) : Ends .admitSend s (fun u => u.regs = s.regs ∧
    u.lnk.admissions.all (fun a => !a.fresh) = true ∧
    u.lnk.admissions.map (fun a => a.id) = (s.lnk.admissions.filter (fun a => a.fresh)).map (fun a => a.id)) := by
  have hsent : PortsOnly s ((s.lnk.admissions.filter (fun a => a.fresh)).foldl
      (fun u a => u.sendFrame 3 0xFF 0 (u.admitPayload a)) s) :=
    List.foldlRecOn _ _ (.refl s) fun u hu a _ => hu.sendFrame _ _ _ _
  refine ⟨_, congrArg Host.Outcome.next (if_pos h), hsent.regs, ?_, ?_⟩
  · simp [State.setLnk]
  · simp [State.setLnk]

/-- A frame on port `p` is an ADMIT of this device, which waits for one. -/
def Admits (s : State) (p : Fin 2) (f : Llp) : Prop :=
  (s.receive p.val (frameOf f 3)).deliver = true ∧ 32 ≤ f.payload.length ∧ fieldAt f.payload 0 8 = Config.dieUid.toNat ∧
    ((s.receive p.val (frameOf f 3)).st.adm = 1 ∨ (s.receive p.val (frameOf f 3)).st.adm = 2 ∨
      (s.receive p.val (frameOf f 3)).st.adm = 3 ∨ (s.receive p.val (frameOf f 3)).st.adm = 5)

/-- The check that the command makes. -/
def State.admitCheck (s : State) (p : Fin 2) (f : Llp) : Bool :=
  (s.receive p.val (frameOf f 3)).deliver && decide (32 ≤ (frameOf f 3).payload.length) &&
    fieldAt (frameOf f 3).payload 0 8 == Config.dieUid.toNat &&
    ((s.receive p.val (frameOf f 3)).st.adm == A_DISCOVER || (s.receive p.val (frameOf f 3)).st.adm == A_WAIT ||
      (s.receive p.val (frameOf f 3)).st.adm == A_MEMBER || (s.receive p.val (frameOf f 3)).st.adm == A_REFUSED)

theorem admitCheck_iff : s.admitCheck p f = true ↔ Admits s p f := by
  simp only [State.admitCheck, Admits, Bool.and_eq_true, Bool.or_eq_true, beq_iff_eq, decide_eq_true_eq, and_assoc, or_assoc]
  rfl

theorem exec_admitRx (h : Admits s p f) :
    exec (.admitRx p f) s = .next ((s.receive p.val (frameOf f 3)).st.takeAdmit (frameOf f 3)) :=
  congrArg Host.Outcome.next (if_pos (admitCheck_iff.mpr h))

theorem exec_admitRx_other (h : ¬ Admits s p f) : exec (.admitRx p f) s = .next (s.receive p.val (frameOf f 3)).st :=
  congrArg Host.Outcome.next (if_neg (fun g => h (admitCheck_iff.mp g)))

/-- The tuple of an ADMIT is in the own list. -/
def State.admitListed (s : State) (g : LinkFrame) : Bool :=
  s.compatLists (fieldAt g.payload 24 1) (fieldAt g.payload 25 1) (fieldAt g.payload 26 2) g.gen

theorem takeAdmit_refused (h : fieldAt g.payload 8 1 = 8) : t.takeAdmit g = (t.setFld LNK_STAT 0 3 A_REFUSED).endSilence := if_pos h

theorem takeAdmit_none (h : fieldAt g.payload 8 1 = 0 ∨ 5 ≤ fieldAt g.payload 8 1 ∧ fieldAt g.payload 8 1 ≠ 8) :
    t.takeAdmit g = t := by
  have hrefused : fieldAt g.payload 8 1 ≠ 8 := by omega
  have hno : fieldAt g.payload 8 1 = 0 ∨ 4 < fieldAt g.payload 8 1 := by omega
  unfold State.takeAdmit
  dsimp only
  rw [if_neg hrefused, if_pos hno]

theorem takeAdmit_unlisted (h : fieldAt g.payload 8 1 = 1 ∨ fieldAt g.payload 8 1 = 2) (hlist : t.admitListed g = false) :
    t.takeAdmit g = ((t.setLnk { t.lnk with obs := true }).setFld LNK_STAT 0 3 A_WAIT).endSilence := by
  have hrefused : fieldAt g.payload 8 1 ≠ 8 := by omega
  have hno : ¬(fieldAt g.payload 8 1 = 0 ∨ 4 < fieldAt g.payload 8 1) := by omega
  have hbad : (fieldAt g.payload 8 1 = 1 ∨ fieldAt g.payload 8 1 = 2) ∧ (!t.admitListed g) = true := ⟨h, by simp [hlist]⟩
  unfold State.takeAdmit
  dsimp only
  rw [if_neg hrefused, if_neg hno]
  exact if_pos hbad

/-- The device in the vehicle, as a member with its role and its lead. -/
def State.joined (s : State) (role lead : Nat) : State :=
  let s1 := ((s.endSilence.setFld LNK_STAT 0 3 A_MEMBER).setRole role).setLeadId lead
  let s2 := s1.setLnk { s1.lnk with obs := false }
  s2.setLdg { s2.ldg with handed := 0 }

/-- The role that an ADMIT's result gives. -/
def admitRole (result : Nat) : Nat :=
  match result with
  | 1 => 0
  | 2 => 2
  | 3 => 3
  | _ => 4

theorem admitRole_eq {r : Nat} (h : 1 ≤ r) (h4 : r ≤ 4) : admitRole r % 8 = if r = 1 then 0 else r := by
  interval_cases r <;> rfl

/-- The last acknowledged number of an ADMIT may be taken besides. -/
theorem takeAdmit_joins (h : ((fieldAt g.payload 8 1 = 1 ∨ fieldAt g.payload 8 1 = 2) ∧ t.admitListed g = true) ∨
    fieldAt g.payload 8 1 = 3 ∨ fieldAt g.payload 8 1 = 4) :
    t.takeAdmit g = t.joined (admitRole (fieldAt g.payload 8 1)) (fieldAt g.payload 9 1 % 64) ∨
    ∃ x, t.takeAdmit g = (t.joined (admitRole (fieldAt g.payload 8 1)) (fieldAt g.payload 9 1 % 64)).setNv x := by
  have hrefused : fieldAt g.payload 8 1 ≠ 8 := by omega
  have hno : ¬(fieldAt g.payload 8 1 = 0 ∨ 4 < fieldAt g.payload 8 1) := by omega
  have hgood : ¬((fieldAt g.payload 8 1 = 1 ∨ fieldAt g.payload 8 1 = 2) ∧ (!t.admitListed g) = true) := by
    rintro ⟨hworks, hbad⟩
    rcases h with ⟨-, hlist⟩ | h
    · simp [hlist] at hbad
    · omega
  have htake : t.takeAdmit g = if ((t.joined (admitRole (fieldAt g.payload 8 1)) (fieldAt g.payload 9 1 % 64)).ldg.nv.fresh &&
      decide (2 ^ 63 ≤ fieldAt g.payload 16 8)) = true then
      (t.joined (admitRole (fieldAt g.payload 8 1)) (fieldAt g.payload 9 1 % 64)).setNv
        { (t.joined (admitRole (fieldAt g.payload 8 1)) (fieldAt g.payload 9 1 % 64)).ldg.nv with
          base := fieldAt g.payload 16 8 % 2 ^ 48 }
      else t.joined (admitRole (fieldAt g.payload 8 1)) (fieldAt g.payload 9 1 % 64) := by
    unfold State.takeAdmit
    dsimp only
    rw [if_neg hrefused, if_neg hno]
    exact if_neg hgood
  rw [htake]
  split
  · exact .inr ⟨_, rfl⟩
  · exact .inl rfl

/-- What a device is after it joined. -/
def JoinedAs (role lead : Nat) (u : State) : Prop :=
  u.adm = 3 ∧ u.leadId = lead ∧ u.role = role ∧ u.lnk.obs = false ∧ u.ldg.handed = 0 ∧ u.beat.silent = false

theorem joinedAs_joined (s : State) (role : Nat) {lead : Nat} (hlead : lead < 64) : JoinedAs (role % 8) lead (s.joined role lead) := by
  have hregs : ∀ a, (s.joined role lead).rg a = (((s.endSilence.setFld LNK_STAT 0 3 A_MEMBER).setRole role).setLeadId lead).rg a :=
    fun _ => rfl
  refine ⟨?_, ?_, ?_, rfl, rfl, rfl⟩
  · rw [adm_congr (hregs _), adm_setLeadId, adm_setRole]
    exact adm_setAdm _ _
  · rw [State.leadId, fld_congr (hregs _)]
    exact (leadId_setLeadId _ _).trans (Nat.mod_eq_of_lt hlead)
  · rw [State.role, fld_congr (hregs _)]
    exact (role_setLeadId _ _).trans (role_setRole _ _)

theorem admitRx_joins (h : Admits s p f) (hres : ((fieldAt f.payload 8 1 = 1 ∨ fieldAt f.payload 8 1 = 2) ∧
    (s.receive p.val (frameOf f 3)).st.admitListed (frameOf f 3) = true) ∨ fieldAt f.payload 8 1 = 3 ∨ fieldAt f.payload 8 1 = 4) :
    Ends (.admitRx p f) s
      (JoinedAs (if fieldAt f.payload 8 1 = 1 then 0 else fieldAt f.payload 8 1) (fieldAt f.payload 9 1 % 64)) := by
  have hjoined := joinedAs_joined (s.receive p.val (frameOf f 3)).st (admitRole (fieldAt f.payload 8 1))
    (lead := fieldAt f.payload 9 1 % 64) (Nat.mod_lt _ (by decide))
  rw [admitRole_eq (by omega) (by omega)] at hjoined
  refine ⟨_, exec_admitRx h, ?_⟩
  rcases takeAdmit_joins (t := (s.receive p.val (frameOf f 3)).st) (g := frameOf f 3) hres with htake | ⟨x, htake⟩
  · rw [htake]
    exact hjoined
  · rw [htake]
    obtain ⟨hadm, hlead, hrole, hobs, -, hsilent⟩ := hjoined
    exact ⟨hadm, hlead, hrole, hobs, rfl, hsilent⟩

theorem admitRx_refused (h : Admits s p f) (hres : fieldAt f.payload 8 1 = 8) :
    Ends (.admitRx p f) s (fun u => u.adm = 5 ∧ u.beat.silent = false) := by
  refine ⟨_, exec_admitRx h, ?_⟩
  rw [takeAdmit_refused hres]
  exact ⟨adm_setAdm _ _, rfl⟩

theorem admitRx_unlisted (h : Admits s p f) (hres : fieldAt f.payload 8 1 = 1 ∨ fieldAt f.payload 8 1 = 2)
    (hlist : (s.receive p.val (frameOf f 3)).st.admitListed (frameOf f 3) = false) :
    Ends (.admitRx p f) s (fun u => u.adm = 2 ∧ u.lnk.obs = true ∧ u.beat.silent = false) := by
  refine ⟨_, exec_admitRx h, ?_⟩
  rw [takeAdmit_unlisted hres hlist]
  exact ⟨adm_setAdm _ _, rfl, rfl⟩

theorem admitRx_keeps (h : ¬ Admits s p f ∨ fieldAt f.payload 8 1 = 0 ∨ 5 ≤ fieldAt f.payload 8 1 ∧ fieldAt f.payload 8 1 ≠ 8) :
    exec (.admitRx p f) s = .next (s.receive p.val (frameOf f 3)).st := by
  by_cases hadmits : Admits s p f
  · rw [exec_admitRx hadmits, takeAdmit_none (g := frameOf f 3) (h.resolve_left (fun hno => hno hadmits))]
  · exact exec_admitRx_other hadmits

/-! ### TOPO (R276, R297) -/

theorem topoSend_idle (h : s.leads = false) : exec .topoSend s = .next s := congrArg Host.Outcome.next (if_neg (by simp [h]))

theorem leadTopo_kind_lt (s : State) : s.leadTopo.1 < 4 := by
  have hcode : ∀ b c : Bool, (if b = true then T_RING else if c = true then T_LINE else T_ALONE) < 4 := by decide
  exact hcode _ _

theorem topoSend_sends (h : s.leads = true) : Ends .topoSend s (fun u => u.lnk.topo = s.leadTopo.2.2 ∧ u.lnk.topoN = s.leadTopo.2.1 ∧
    u.topology = s.leadTopo.1 ∧ u.mem = s.mem) := by
  let k := { s.lnk with topoKind := s.leadTopo.1, topoN := s.leadTopo.2.1, topo := s.leadTopo.2.2 }
  let u := (s.setLnk k).setTopology s.leadTopo.1
  have hexec : ∃ pl, exec .topoSend s = .next (u.sendFrame 4 0xFF 0 pl) := ⟨_, congrArg Host.Outcome.next (if_pos h)⟩
  obtain ⟨pl, hexec⟩ := hexec
  have hsent : PortsOnly u (u.sendFrame 4 0xFF 0 pl) := (PortsOnly.refl u).sendFrame _ _ _ _
  obtain ⟨x, hlnk⟩ := hsent.lnk
  have hu : u.lnk = k := lnk_setTopology _ _
  have hmem : u.mem = s.mem := ((WritesOnly.refl (· ∈ topologyRegs) (s.setLnk k)).setTopology (fun _ h => h) _).mem
  refine ⟨_, hexec, by rw [hlnk, hu], by rw [hlnk, hu], ?_, hsent.mem.trans hmem⟩
  rw [State.topology, fld_congr (rg_congr hsent.regs _)]
  exact topology_setTopology _ (leadTopo_kind_lt s)

/-- The entries of a TOPO frame. -/
def topoEntries (pl : List Byte) : List TopoEntry :=
  (List.range ((pl.length - 4) / 4)).map (fun n => ⟨fieldAt pl (4 + 4 * n) 1 % 64, fieldAt pl (5 + 4 * n) 1, fieldAt pl (6 + 4 * n) 1,
    fieldAt pl (7 + 4 * n) 1⟩)

theorem topoRx_takes (hlen : 4 ≤ g.payload.length) (hlead : t.leads = false) (hsrc : g.src = t.leadId) :
    ∃ x y, t.topoRx g = ((t.setLnk { t.lnk with
      topoKind := fieldAt g.payload 1 1, topoN := fieldAt g.payload 0 1, topo := topoEntries g.payload }).setRg64 LNK_ADMIT_LO x).setRg64
        LNK_OBS_LO y := by
  have hmine : ¬(decide (g.payload.length < 4) || t.leads || g.src != t.leadId) = true := by
    simp [Nat.not_lt.mpr hlen, hlead, hsrc]
  unfold State.topoRx
  dsimp only
  rw [if_neg hmine]
  exact ⟨_, _, rfl⟩

theorem topoRx_spec (hd : (s.receive p.val (frameOf f 4)).deliver = true) (hlen : 4 ≤ f.payload.length)
    (hlead : (s.receive p.val (frameOf f 4)).st.leads = false) (hsrc : f.src.toNat = (s.receive p.val (frameOf f 4)).st.leadId) :
    Ends (.topoRx p f) s (fun u => u.lnk.topoKind = fieldAt f.payload 1 1 ∧ u.lnk.topoN = fieldAt f.payload 0 1 ∧
      u.lnk.topo = topoEntries f.payload ∧ SameRegsBut s u [LNK_ADMIT_LO, LNK_ADMIT_LO + 4, LNK_OBS_LO, LNK_OBS_LO + 4]) := by
  have hexec : exec (.topoRx p f) s = .next ((s.receive p.val (frameOf f 4)).st.topoRx (frameOf f 4)) :=
    congrArg Host.Outcome.next (if_pos hd)
  obtain ⟨x, y, htakes⟩ := topoRx_takes (t := (s.receive p.val (frameOf f 4)).st) (g := frameOf f 4) hlen hlead hsrc
  refine ⟨_, hexec, ?_⟩
  rw [htakes]
  have hregs : (s.receive p.val (frameOf f 4)).st.regs = s.regs := regs_receive rfl hd
  refine ⟨rfl, rfl, rfl, fun a ha => ?_⟩
  simp only [List.mem_cons, List.not_mem_nil, or_false, not_or] at ha
  obtain ⟨hadmitLo, hadmitHi, hobsLo, hobsHi⟩ := ha
  rw [rg_setRg64_ne _ hobsLo hobsHi, rg_setRg64_ne _ hadmitLo hadmitHi]
  exact rg_congr hregs a

/-- Settles O35: each clause is one of the rules above. That a follower's LNK_ANN ends in STATE, that LNK_DEPUTY's ARG does not depend on
its enable, that START of another device leads to WAIT and that a refused device goes on with HELLO are the model's readings (log
entry 17). -/
theorem linkAdmission : Obligations.LinkAdmission := by
  intro s i p f d k v
  refine ⟨lnkStart_starts, lnkStart_refused, lnkStart_badId, lnkStop_stops, lnkStop_refused, forget_drops, forget_refused,
    lnkDeputyWrite_refused, lnkDeputyWrite_stores, fun m => lnkDeputyWrite_names, lnkAnnWrite_stores, lnkAnnWrite_follower,
    lnkAnnWrite_early, discoveryEnd_spec, discoveryEnd_keeps, helloSend_admitted, helloSend_before, helloSend_stopped, ?_,
    admitSend_sends, fun h => ⟨admitSend_idle h, topoSend_idle h⟩, admitRx_refused, admitRx_joins, admitRx_unlisted, admitRx_keeps,
    topoSend_sends, topoRx_spec, fun m => memberTimeout_drops, memberTimeout_keeps⟩
  intro hd hlen hlead hflag hown hnew hadm
  obtain ⟨n, hdecide, hmembers, hadmissions⟩ := helloRx_decides (g := frameOf f 2) hlen hown hlead hflag hnew
  have hexec := exec_helloRx hd
  have hresult := helloResult_setLnk (frameOf f 2) hmembers
  have hnone := (member_congr (t := (s.receive p.val (frameOf f 2)).st.setLnk n) hmembers _).trans hnew
  rw [hdecide] at hexec
  rw [← hresult]
  refine ⟨fun hres => ?_, fun hres => ?_⟩
  · exact ⟨_, hexec, decideHello_admits (hadmissions.trans hadm) hnone hres⟩
  · exact ⟨_, hexec, decideHello_dup (hadmissions.trans hadm) hnone hres⟩

end Sys2Proof.Machine
end

section
/-! SUPPORT. One core among the others, and where the accesses of a core land (spec/03 R79, R89, R94, R100): a memory that soundAt
admits reads as its bytes, takes a store, and the store breaks the reservations of other cores. -/

namespace Sys2Proof.Machine

variable {s : State} {c : CoreId}

/-! ### One core replaced -/

@[simp] theorem setCore_setCore (s : State) (c : CoreId) (j k : Core) : (s.setCore c j).setCore c k = s.setCore c k := by
  cases c <;> rfl

@[simp] theorem setCore_core (s : State) (c : CoreId) : s.setCore c (s.core c) = s := by cases c <;> rfl

@[simp] theorem ms_setCore (s : State) (c : CoreId) (k : Core) : (s.setCore c k).ms = s.ms := by cases c <;> rfl

@[simp] theorem eccAt_setCore (s : State) (c : CoreId) (k : Core) (w : Nat) : (s.setCore c k).eccAt w = s.eccAt w := by
  simp only [State.eccAt, ms_setCore]

@[simp] theorem powered_setCore (s : State) (c : CoreId) (k : Core) : (s.setCore c k).powered = s.powered := by
  simp only [State.powered, pwr_setCore]

/-- Where a row lies depends on registers and on the copies and restored rows only (R190, R191). -/
theorem physOf_congr {t : State} (hregs : t.regs = s.regs) (hcopies : t.ms.copies = s.ms.copies)
    (hrestored : t.ms.restored = s.ms.restored) (r : Region) (g0 : Bool) (a : Nat) : t.physOf r g0 a = s.physOf r g0 a := by
  have hhome (row : Nat) : t.rowHome row = s.rowHome row := by
    unfold State.rowHome State.bit State.fld State.rg
    rw [hregs, hcopies, hrestored]
  unfold State.physOf State.chanState State.fld State.rg
  simp only [hregs, hhome]

@[simp] theorem physOf_setCore (s : State) (c : CoreId) (k : Core) (r : Region) (g0 : Bool) (a : Nat) :
    (s.setCore c k).physOf r g0 a = s.physOf r g0 a :=
  physOf_congr (regs_setCore s c k) (by rw [ms_setCore]) (by rw [ms_setCore]) r g0 a

@[simp] theorem soundAt_setCore (s : State) (c e : CoreId) (k : Core) (a p : Nat) :
    (s.setCore e k).soundAt c a p ↔ s.soundAt c a p := by
  simp only [State.soundAt, eccAt_setCore, physOf_setCore]

@[simp] theorem peek_setCore (s : State) (c : CoreId) (k : Core) (p n : Nat) : (s.setCore c k).peek p n = s.peek p n :=
  peek_congr (mem_setCore s c k) p n

/-- Whether an access is cacheable depends on the core through its protection regions only (R79). -/
theorem cacheable_setCore {k : Core} (hbase : k.rgnBase = (s.core c).rgnBase) (hcfg : k.rgnCfg = (s.core c).rgnCfg) (a : Nat) :
    (s.setCore c k).cacheable c a = s.cacheable c a := by
  have hdecides : k.decides a = (s.core c).decides a := by
    unfold Core.decides Core.covers Core.base Core.cfg
    rw [hbase, hcfg]
  unfold State.cacheable
  rw [core_setCore, hdecides]

theorem w32_toNat_self (x : Word) : w32 x.toNat = x := BitVec.ofNat_toNat 32 x

/-! ### The state after a fetch -/

/-- Core `c` runs and has fetched: `t` is the state after the fetch, and `k` the core in it. -/
structure Fetched (s : State) (c : CoreId) (t : State) (k : Core) : Prop where
  fetches : s.fetches c = true
  state : s.fetched c = t
  core : t.core c = k

namespace Fetched

variable {t : State} {k : Core}

theorem of_fetches (h : s.fetches c = true) : Fetched s c (s.fetched c) ((s.fetched c).core c) := ⟨h, rfl, rfl⟩

theorem instr (h : Fetched s c t k) (body : State → State) : s.instr c body = body t := by
  rw [instr_fetches s body h.fetches, h.state]

theorem run (h : Fetched s c t k) : k.run = .running := by
  rw [← h.core, ← h.state]
  exact run_fetched s h.fetches

theorem powered (h : Fetched s c t k) : t.powered = true := by
  have hfetches := h.fetches
  simp only [State.fetches, State.runs, Bool.and_eq_true, h.state] at hfetches
  obtain ⟨_, hpow, _⟩ := hfetches
  exact hpow

/-- An instruction that retires on the state after the fetch. -/
theorem retire (h : Fetched s c t k) (f : Core → Core) : t.retire_ c f = t.setCore c ((f k).retired k.pc) := by
  have hrun : (t.core c).run = .running := by rw [h.core, h.run]
  rw [retire_running t f hrun, h.core]
  rfl

end Fetched

/-! ### Memories that hold bytes under ECC -/

/-- The memories that hold bytes and nothing else: TCM, G0's own SRAM, SRAM and expert memory. -/
def Region.holdsBytes : Region → Bool
  | .tcm _ => true
  | .g0sram => true
  | .sram => true
  | .expert _ => true
  | _ => false

theorem four_le_eccBytes (r : Region) : 4 ≤ eccBytes r := by
  unfold eccBytes
  split <;> decide

/-- An address of every memory but SRAM is the physical address. -/
theorem physOf_of_ne_sram (s : State) {r : Region} (hr : r ≠ .sram) (g0 : Bool) (a : Nat) : s.physOf r g0 a = some a := by
  unfold State.physOf
  split
  · exact absurd rfl hr
  · rfl

theorem eccRead_sound {r : Region} {a p n : Nat} (he : s.eccAt (eccWord r p) = none) :
    s.eccRead r a p n = (some (s.peek p n), s) := by
  unfold State.eccRead
  dsimp only
  rw [he]

/-- A read inside a sound ECC word gives its bytes (R186, R94). -/
theorem memRead_sound {r : Region} {g0 : Bool} {a p n : Nat} (hr : r.holdsBytes = true) (hp : s.physOf r g0 a = some p)
    (he : s.eccAt (eccWord r p) = none) (hn : n ≤ eccBytes r) : s.memRead r g0 a n = (some (s.peek p n), s) := by
  unfold State.memRead
  cases r with
  | tcm k | g0sram | sram | expert k =>
    simp only [State.endProgram, reduceCtorEq, decide_false, Bool.false_and, Bool.false_eq_true, if_false]
    rw [hp]
    exact (if_neg (Nat.not_lt.mpr hn)).trans (eccRead_sound he)
  | _ => cases hr

/-- A store stores its bytes and leaves the ECC word sound where it fills the word or finds it sound. -/
theorem eccWrite_stores {r : Region} {a p n : Nat} (v : Nat) (hr : r.holdsBytes = true)
    (he : s.eccAt (eccWord r p) = none ∨ eccBytes r ≤ n) :
    s.eccWrite r a p n v = (true, (s.poke p n v).setEcc (eccWord r p) none) := by
  have hfull : ¬eccBytes r ≤ n → s.eccAt (eccWord r p) = none := fun hn => he.resolve_right hn
  unfold State.eccWrite
  dsimp only
  cases r with
  | tcm k | g0sram | sram | expert k =>
    split
    · rfl
    next hn => rw [hfull hn]
  | _ => cases hr

/-- A store inside an ECC word that it fills or finds sound (R187), and the reservations that it breaks (R100). -/
theorem memWrite_stores {r : Region} {by_ : Option CoreId} {a p n : Nat} (v : Nat) (hr : r.holdsBytes = true)
    (hp : s.physOf r (by_ == some .g0) a = some p) (he : s.eccAt (eccWord r p) = none ∨ eccBytes r ≤ n) (hn : n ≤ eccBytes r) :
    s.memWrite r by_ a n v = (true, ((s.poke p n v).setEcc (eccWord r p) none).breakReservations by_ a n) := by
  unfold State.memWrite
  rw [hp]
  simp only [if_neg (Nat.not_lt.mpr hn), eccWrite_stores v hr he, if_true]

/-! ### Where the addresses of soundAt lie (R14, R16) -/

theorem regionOf_ownTcm {a : Nat} (hlo : 0x08000000 ≤ a) (hhi : a ≤ 0x0800FFFF) : regionOf a = some .ownTcm := by
  unfold regionOf
  rw [if_neg (by omega), if_pos ⟨hlo, hhi⟩]

theorem regionOf_expert {a : Nat} (hlo : 0x20000000 ≤ a) (hhi : a ≤ 0x201FFFFF) :
    regionOf a = some (.expert ((a - 0x20000000) / 0x20000)) := by
  unfold regionOf
  rw [if_neg (by omega), if_neg (by omega), if_neg (by omega), if_neg (by omega), if_neg (by omega), if_neg (by omega),
    if_pos ⟨hlo, hhi⟩]

theorem regionOf_g0sram {a : Nat} (hlo : 0x50100000 ≤ a) (hhi : a ≤ 0x5011FFFF) : regionOf a = some .g0sram := by
  unfold regionOf
  repeat rw [if_neg (by omega)]
  rw [if_pos ⟨hlo, hhi⟩]

theorem ownMemory_ownTcm {a : Nat} (hc : c ≠ .g0) (hlo : 0x08000000 ≤ a) (hhi : a ≤ 0x0800FFFF) :
    ownMemory c a = some (.tcm c.num, 0x08100000 + c.num * 0x10000 + (a - 0x08000000)) := by
  simp only [ownMemory, regionOf_ownTcm hlo hhi, if_neg hc]

theorem ownMemory_g0sram {a : Nat} (hlo : 0x50100000 ≤ a) (hhi : a ≤ 0x5011FFFF) : ownMemory .g0 a = some (.g0sram, a) := by
  simp only [ownMemory, regionOf_g0sram hlo hhi, if_true]

/-- SRAM and expert memory, which every initiator reaches over the fabric. -/
def Region.onFabric : Region → Bool
  | .sram => true
  | .expert _ => true
  | _ => false

theorem ownMemory_onFabric {r : Region} {a : Nat} (hr : r.onFabric = true) (h : regionOf a = some r) : ownMemory c a = none := by
  cases r with
  | sram | expert k => simp only [ownMemory, h]
  | _ => cases hr

theorem decodeFor_onFabric (i : Initiator) {r : Region} {a : Nat} (hr : r.onFabric = true) (h : regionOf a = some r) :
    decodeFor i a = some r := by
  cases r with
  | sram | expert k => simp only [decodeFor, h]
  | _ => cases hr

/-- Every initiator may read and write the memories of the fabric at any aligned size (R16, R17). -/
theorem judge_onFabric (s : State) (i : Initiator) {r : Region} {a : Nat} (wr : Bool) {z : Size} (v : Nat) (hr : r.onFabric = true)
    (h : regionOf a = some r) (hlt : a < 0x40000000) (hz : a % z.bytes = 0) : s.judge i a wr z v = none := by
  have hdec := decodeFor_onFabric i hr h
  have hper : ldgPerCore (a / 4 * 4) = false := by
    unfold ldgPerCore
    exact decide_eq_false (by omega)
  cases r with
  | sram | expert k =>
    simp [State.judge, hdec, State.writeNarrowed, h, mayWrite, mayRead, sizeBad, hz, State.clocked, gateOf, hper]
  | _ => cases hr

/-- A read of a memory of the fabric is a read of its bytes. -/
theorem fabRead_onFabric {i : Initiator} {r : Region} {a p : Nat} {z : Size} (hr : r.onFabric = true) (h : regionOf a = some r)
    (hlt : a < 0x40000000) (hz : a % z.bytes = 0) (hp : s.physOf r (i == .g0) a = some p) (he : s.eccAt (eccWord r p) = none)
    (hn : z.bytes ≤ eccBytes r) : s.fabRead i a z = (.ok (s.peek p z.bytes), s) := by
  have hjudge := judge_onFabric s i false 0 hr h hlt hz
  have hdec := decodeFor_onFabric i hr h
  cases r with
  | sram | expert k =>
    have hread := memRead_sound rfl hp he hn
    simp only [State.fabRead, hjudge, hdec, aliasOf, hread]
  | _ => cases hr

/-- A store to a memory of the fabric stores bytes and breaks reservations. -/
theorem fabWrite_onFabric {i : Initiator} {r : Region} {a p : Nat} {z : Size} (v : Nat) (hr : r.onFabric = true)
    (h : regionOf a = some r) (hlt : a < 0x40000000) (hz : a % z.bytes = 0) (hp : s.physOf r (i == .g0) a = some p)
    (he : s.eccAt (eccWord r p) = none ∨ eccBytes r ≤ z.bytes) (hn : z.bytes ≤ eccBytes r) : s.fabWrite i a z v =
      (.ok 0, ((s.poke p z.bytes v).setEcc (eccWord r p) none).breakReservations i.core? a z.bytes) := by
  have hjudge := judge_onFabric s i true v hr h hlt hz
  have hdec := decodeFor_onFabric i hr h
  rw [← core?_eq_g0] at hp
  cases r with
  | sram | expert k =>
    have hwrite := memWrite_stores v rfl hp he hn
    simp only [State.fabWrite, hjudge, hdec, aliasOf, hwrite]
  | _ => cases hr

/-! ### Accesses of a core to the memories of soundAt -/

/-- Core `c`'s access to `a` lands in memory `r`, at address `x` of the map and at the physical address `p`, in a sound ECC word. -/
structure State.LandsAt (s : State) (c : CoreId) (a : Nat) (r : Region) (x p : Nat) : Prop where
  holds : r.holdsBytes = true
  phys : s.physOf r (c == .g0) x = some p
  sound : s.eccAt (eccWord r p) = none
  route : ownMemory c a = some (r, x) ∨ (r.onFabric = true ∧ regionOf a = some r ∧ a < 0x40000000 ∧ x = a)
  granule : granuleOf a p = x / 32
  aligned : x % 32 = a % 32

theorem landsAt_of_soundAt {a p : Nat} (h : s.soundAt c a p) : ∃ r x, s.LandsAt c a r x p := by
  obtain ⟨hc, hlo, hhi, hp, he⟩ | ⟨hlo, hhi, hp, he⟩ | ⟨hlo, hhi, hp, he⟩ | ⟨hc, hlo, hhi, hp, he⟩ := h
  · have hown := ownMemory_ownTcm hc hlo hhi
    rw [← hp] at hown
    exact ⟨.tcm c.num, p, rfl, physOf_of_ne_sram s (by simp) _ _, he, .inl hown, by rw [granuleOf, if_pos ⟨hlo, hhi⟩], by omega⟩
  · exact ⟨.sram, a, rfl, hp, he, .inr ⟨rfl, regionOf_sram hlo hhi, by omega, rfl⟩, by rw [granuleOf, if_neg (by omega)], rfl⟩
  · subst hp
    exact ⟨.expert _, p, rfl, physOf_of_ne_sram s (by simp) _ _, he, .inr ⟨rfl, regionOf_expert hlo hhi, by omega, rfl⟩,
      by rw [granuleOf, if_neg (by omega)], rfl⟩
  · subst hp hc
    exact ⟨.g0sram, p, rfl, physOf_of_ne_sram s (by simp) _ _, he, .inl (ownMemory_g0sram hlo hhi),
      by rw [granuleOf, if_neg (by omega)], rfl⟩

theorem init_core? (c : CoreId) : c.init.core? = some c := by cases c <;> rfl

theorem init_eq_g0 (c : CoreId) : (c.init == .g0) = (c == .g0) := by cases c <;> rfl

theorem some_eq_g0 (c : CoreId) : (some c == some CoreId.g0) = (c == .g0) := by cases c <;> rfl

/-- A read past the caches from a sound memory gives its bytes and changes nothing. -/
theorem directRead_sound {a p : Nat} {z : Size} (h : s.soundAt c a p) (hpow : s.powered = true) (hz : a % z.bytes = 0)
    (h4 : z.bytes ≤ 4) : s.directRead c a z = (.ok (s.peek p z.bytes), s) := by
  obtain ⟨r, x, hl⟩ := landsAt_of_soundAt h
  have hn := h4.trans (four_le_eccBytes r)
  obtain hown | ⟨hr, hreg, hlt, rfl⟩ := hl.route
  · simp only [State.directRead, hown, memRead_sound hl.holds hl.phys hl.sound hn]
  · have hfab := fabRead_onFabric (i := c.init) hr hreg hlt hz (by rw [init_eq_g0]; exact hl.phys) hl.sound hn
    have hbus : s.busRead c.init x z = (.ok (s.peek p z.bytes), s) := by
      unfold State.busRead
      simp only [hpow, judge_onFabric s c.init false 0 hr hreg hlt hz, decodeFor_onFabric c.init hr hreg]
      cases r with
      | sram | expert k => exact hfab
      | _ => cases hr
    simp only [State.directRead, ownMemory_onFabric hr hreg, hbus]

/-- The state after core `c`'s store of `n` bytes into memory `r`, at address `x` of the map and the physical address `p`. -/
def State.storedAt (s : State) (c : CoreId) (r : Region) (x p n v : Nat) : State :=
  ((s.poke p n v).setEcc (eccWord r p) none).breakReservations (some c) x n

/-- A store past the caches into a sound memory. -/
theorem directWrite_landsAt {r : Region} {a x p : Nat} {z : Size} (v : Nat) (hl : s.LandsAt c a r x p) (hpow : s.powered = true)
    (hz : a % z.bytes = 0) (h4 : z.bytes ≤ 4) : s.directWrite c a z v = (none, s.storedAt c r x p z.bytes v) := by
  have hn := h4.trans (four_le_eccBytes r)
  obtain hown | ⟨hr, hreg, hlt, rfl⟩ := hl.route
  · have hwrite := memWrite_stores (by_ := some c) v hl.holds (by rw [some_eq_g0]; exact hl.phys) (.inl hl.sound) hn
    simp only [State.directWrite, hown, hwrite, State.storedAt]
  · have hfab := fabWrite_onFabric (i := c.init) v hr hreg hlt hz (by rw [init_eq_g0]; exact hl.phys) (.inl hl.sound) hn
    rw [init_core?] at hfab
    have hbus : s.busWrite c.init x z v = (.ok 0, s.storedAt c r x p z.bytes v) := by
      unfold State.busWrite
      simp only [hpow, judge_onFabric s c.init true v hr hreg hlt hz, decodeFor_onFabric c.init hr hreg]
      cases r with
      | sram | expert k => exact hfab
      | _ => cases hr
    simp only [State.directWrite, ownMemory_onFabric hr hreg, hbus]

/-! ### What a store changes (R100) -/

/-- A core after another core's write of `n` bytes at `a`. -/
def Core.loses (k : Core) (a n : Nat) : Core :=
  if k.reserved.any (fun g => decide (a / 32 ≤ g ∧ g ≤ (a + n - 1) / 32)) then { k with reserved := none } else k

/-- A write within one granule breaks the reservation on that granule only. -/
theorem loses_granule (k : Core) {a n : Nat} (h : (a + n - 1) / 32 = a / 32) :
    k.loses a n = if k.reserved = some (a / 32) then { k with reserved := none } else k := by
  have hiff : (k.reserved.any (fun g => decide (a / 32 ≤ g ∧ g ≤ (a + n - 1) / 32)) = true) ↔ k.reserved = some (a / 32) := by
    rw [h, Option.any_eq_true]
    simp only [decide_eq_true_eq, ← Nat.le_antisymm_iff, eq_comm (a := a / 32), exists_eq_right]
  simp only [Core.loses, hiff]

theorem loses_loses (k : Core) (a n : Nat) : (k.loses a n).loses a n = k.loses a n := by
  unfold Core.loses
  split <;> rfl

/-- One step of a write's effect on reservations: core `m`'s. -/
def State.breakAt (s : State) (by_ : Option CoreId) (a n : Nat) (m : CoreId) : State :=
  if by_ == some m then s else s.setCore m ((s.core m).loses a n)

theorem breakReservations_eq (s : State) (by_ : Option CoreId) (a n : Nat) :
    s.breakReservations by_ a n = allCores.foldl (fun t m => t.breakAt by_ a n m) s := by
  unfold State.breakReservations
  congr 1
  funext t m
  unfold State.breakAt Core.loses
  split
  · rfl
  · split
    next hnone => rw [hnone, Option.any_none, if_neg Bool.false_ne_true, setCore_core]
    next g hsome =>
      rw [hsome, Option.any_some]
      simp only [decide_eq_true_eq]
      split
      · rfl
      · rw [setCore_core]

theorem core_breakAt (s : State) (by_ : Option CoreId) (a n : Nat) (m e : CoreId) :
    (s.breakAt by_ a n m).core e = if e = m ∧ by_ ≠ some m then (s.core e).loses a n else s.core e := by
  unfold State.breakAt
  by_cases hby : by_ = some m
  · rw [if_pos (by simp [hby]), if_neg (fun h => h.2 hby)]
  · rw [if_neg (by simp [hby])]
    by_cases he : e = m
    · subst he
      rw [core_setCore, if_pos ⟨rfl, hby⟩]
    · rw [core_setCore_ne _ _ he, if_neg (fun h => he h.1)]

/-- Every core but the writer loses its reservation on what is written. -/
theorem core_breakReservations (s : State) (by_ : Option CoreId) (a n : Nat) (e : CoreId) :
    (s.breakReservations by_ a n).core e = if by_ = some e then s.core e else (s.core e).loses a n := by
  have hfold (l : List CoreId) (t : State) : (l.foldl (fun t m => t.breakAt by_ a n m) t).core e =
      if e ∈ l ∧ by_ ≠ some e then (t.core e).loses a n else t.core e := by
    induction l generalizing t with
    | nil => simp
    | cons m l ih =>
      rw [List.foldl_cons, ih, core_breakAt]
      by_cases hby : by_ = some e
      · simp [hby]
      · by_cases hm : e = m
        · subst hm
          by_cases hl : e ∈ l <;> simp [hby, hl, loses_loses]
        · simp [hm]
  have hall : e ∈ allCores := by cases e <;> decide
  rw [breakReservations_eq, hfold]
  by_cases hby : by_ = some e <;> simp [hby, hall]

variable {r : Region} {x p n v : Nat}

@[simp] theorem regs_storedAt : (s.storedAt c r x p n v).regs = s.regs := by simp [State.storedAt]

/-- What the store of one byte keeps, the store of a run of bytes keeps. -/
theorem pokeBytes_keeps {α : Type} (f : State → α) (hf : ∀ (t : State) (q : Nat) (b : Byte), f (t.setByte q b) = f t) (s : State)
    (p : Nat) (l : List Byte) : f (s.pokeBytes p l) = f s := by
  induction l generalizing s p with
  | nil => rfl
  | cons b l ih => exact (ih (s.setByte p b) (p + 1)).trans (hf s p b)

@[simp] theorem core_pokeBytes (s : State) (p : Nat) (l : List Byte) (e : CoreId) : (s.pokeBytes p l).core e = s.core e :=
  pokeBytes_keeps (fun t => t.core e) (fun _ _ _ => by cases e <;> rfl) s p l

@[simp] theorem ms_pokeBytes (s : State) (p : Nat) (l : List Byte) : (s.pokeBytes p l).ms = s.ms :=
  pokeBytes_keeps State.ms (fun _ _ _ => rfl) s p l

@[simp] theorem live_storedAt : (s.storedAt c r x p n v).live = s.live := by
  unfold State.storedAt
  rw [breakReservations_keeps _ State.live (fun t c k => live_setCore t c k)]
  exact pokeBytes_keeps State.live (fun _ _ _ => rfl) s p _

theorem mem_storedAt : (s.storedAt c r x p n v).mem = (s.poke p n v).mem := by simp [State.storedAt]

/-- The stored bytes read back. -/
theorem peek_storedAt : (s.storedAt c r x p n v).peek p n = v % 256 ^ n := by
  rw [peek_congr mem_storedAt, peek_poke]

theorem sameBytesBut_storedAt : SameBytesBut s (s.storedAt c r x p n v) p n := fun q hq => by
  rw [byteAt_congr mem_storedAt, byteAt_poke_outside s p q n v hq]

@[simp] theorem core_setEcc (s : State) (w : Nat) (m : Option EccMark) (e : CoreId) : (s.setEcc w m).core e = s.core e := by
  cases e <;> rfl

@[simp] theorem core_storedAt : (s.storedAt c r x p n v).core c = s.core c := by
  unfold State.storedAt
  rw [core_breakReservations, if_pos rfl, core_setEcc, State.poke, core_pokeBytes]

/-- A store takes the reservations that other cores hold on its granule. -/
theorem core_storedAt_ne {e : CoreId} (he : e ≠ c) (hn : (x + n - 1) / 32 = x / 32) : (s.storedAt c r x p n v).core e =
    if (s.core e).reserved = some (x / 32) then { s.core e with reserved := none } else s.core e := by
  unfold State.storedAt
  rw [core_breakReservations, if_neg (fun h => he (Option.some_inj.mp h).symm), core_setEcc, State.poke, core_pokeBytes, loses_granule _ hn]

end Sys2Proof.Machine
end

section
/-! Control registers (spec/03 R77, R81, R82; spec/04 R122), and the statements ControlRegisterReads and ControlRegisterWrites. -/

namespace Sys2Proof.Machine

variable {s t : State} {c : CoreId} {k : Core} {d a : Fin 16} {n : Fin 64} {v : Word}

/-! ### CTLR -/

/-- CTLR at a level that may read the register reads it, and gd takes the value. -/
theorem ctlr_reads (h : Fetched s c t k) (d : Fin 16) (hreads : ctlReads n.val = true)
    (hlvl : k.lvl ≠ 0 ∨ ctlTaskReads n.val = true) :
    exec (.ctlr c d n) s = .next ((t.ctlRead c n.val).2.retire_ c (fun q => q.setReg d.val (t.ctlRead c n.val).1)) := by
  have hpriv : (k.lvl == 0 && !ctlTaskReads n.val) = false := by
    obtain hlvl | htask := hlvl
    · simp [hlvl]
    · simp [htask]
  show execCtlr c d n s = _
  simp only [execCtlr, h.instr, h.core, hreads, hpriv, done, Bool.not_true, Bool.false_eq_true, if_false]

theorem ctlr_value (h : Fetched s c t k) (d : Fin 16) (hreads : ctlReads n.val = true)
    (hlvl : k.lvl ≠ 0 ∨ ctlTaskReads n.val = true) (hv : t.ctlRead c n.val = (v, t)) :
    exec (.ctlr c d n) s = .next (t.setCore c ((k.setReg d.val v).retired k.pc)) := by
  rw [ctlr_reads h d hreads hlvl, hv, h.retire]

theorem ctlr_absent (h : Fetched s c t k) (d : Fin 16) (hreads : ctlReads n.val = false) :
    exec (.ctlr c d n) s = .next (t.raiseExc c { vec := 1, epc := k.pc, addr := 0, cause := 1 }) := by
  show execCtlr c d n s = _
  simp only [execCtlr, h.instr, h.core, hreads, done, Bool.not_false, if_true]
  rfl

theorem ctlr_refused (h : Fetched s c t k) (d : Fin 16) (hreads : ctlReads n.val = true) (hlvl : k.lvl = 0)
    (htask : ctlTaskReads n.val = false) :
    exec (.ctlr c d n) s = .next (t.raiseExc c { vec := 2, epc := k.pc, addr := 0, cause := 2 }) := by
  show execCtlr c d n s = _
  simp only [execCtlr, h.instr, h.core, hreads, hlvl, htask, done, Bool.not_true, Bool.not_false, Bool.false_eq_true, if_false,
    beq_self_eq_true, Bool.and_self, if_true]
  rfl

/-- A read of CYCLE_LO latches CYCLE_HI (R28, R82). -/
theorem ctlRead_cycle (hk : t.core c = k) : t.ctlRead c 12 =
    (k.cycle.setWidth 32, t.setCore c { k with cycleLatch := (k.cycle >>> 32).setWidth 32 }) := by
  have hlow : w32 k.cycle.toNat = k.cycle.setWidth 32 := BitVec.eq_of_toNat_eq (by simp [w32])
  have hhigh : w32 (k.cycle.toNat / 0x100000000) = (k.cycle >>> 32).setWidth 32 :=
    BitVec.eq_of_toNat_eq (by simp [w32, Nat.shiftRight_eq_div_pow])
  rw [← hlow, ← hhigh, ← hk]
  rfl

theorem ctlr_cycle (h : Fetched s c t k) (d : Fin 16) : exec (.ctlr c d 12) s = .next (t.setCore c
    { (k.setReg d.val (k.cycle.setWidth 32)).retired k.pc with cycleLatch := (k.cycle >>> 32).setWidth 32 }) := by
  have hread : t.ctlRead c (12 : Fin 64).val = _ := ctlRead_cycle h.core
  rw [ctlr_reads h d rfl (.inr rfl), hread, retire_running _ _ (by rw [core_setCore]; exact h.run),
    setCore_setCore, core_setCore]
  rfl

/-- The registers of a region are read by their number (R81). -/
theorem ctlRead_region (hk : t.core c = k) {m : Nat} (hlo : 32 ≤ m) :
    t.ctlRead c m = (if m % 2 = 0 then k.base ((m - 32) / 2) else k.cfg ((m - 32) / 2), t) := by
  rw [← hk]
  unfold State.ctlRead
  dsimp only
  split
  any_goals omega
  rfl

/-- The control registers that instructions read, by number (R81). -/
theorem ctlReads_iff (m : Nat) : ctlReads m = true ↔ m ≤ 8 ∨ m = 10 ∨ m = 12 ∨ m = 13 ∨ m = 24 ∨ (32 ≤ m ∧ m ≤ 47) := by
  simp [ctlReads, or_assoc]

theorem ctlTaskReads_iff (m : Nat) : ctlTaskReads m = true ↔ m = 0 ∨ m = 2 ∨ m = 12 ∨ m = 13 ∨ m = 24 := by
  simp [ctlTaskReads, or_assoc]

/-- Settles O14: CTLR reads what `ctlRead` answers, number by number. -/
theorem controlRegisterReads : Obligations.ControlRegisterReads := by
  intro s c d n r hf t k reads
  have h : Fetched s c t k := .of_fetches hf
  refine ⟨fun hlvl => ?_, fun hn => ?_, fun hlvl hn => ?_, fun hlvl => ?_⟩
  · have hvalue {m : Fin 64} {v : Word} (hm : ctlReads m.val = true) (hv : t.ctlRead c m.val = (v, t)) : reads m v :=
      ctlr_value h d hm (.inl hlvl) hv
    refine ⟨hvalue rfl rfl, hvalue rfl rfl, hvalue rfl rfl, hvalue rfl rfl, hvalue rfl rfl, hvalue rfl rfl, hvalue rfl rfl,
      hvalue rfl rfl, hvalue rfl rfl, hvalue rfl rfl, ctlr_cycle h d, hvalue rfl rfl, hvalue rfl rfl, fun m hm => ?_, fun m hm => ?_⟩
    · refine hvalue ((ctlReads_iff _).mpr (by omega)) ?_
      rw [ctlRead_region h.core (by omega), if_pos (by omega), show (m.val - 32) / 2 = r.val by omega]
    · refine hvalue ((ctlReads_iff _).mpr (by omega)) ?_
      rw [ctlRead_region h.core (by omega), if_neg (by omega), show (m.val - 32) / 2 = r.val by omega]
  · refine ctlr_absent h d (Bool.eq_false_iff.mpr fun hreads => ?_)
    have := (ctlReads_iff _).mp hreads
    omega
  · refine ctlr_refused h d ((ctlReads_iff _).mpr (by omega)) hlvl (Bool.eq_false_iff.mpr fun htask => ?_)
    have := (ctlTaskReads_iff _).mp htask
    omega
  · have hvalue {m : Fin 64} {v : Word} (hm : ctlReads m.val = true) (htask : ctlTaskReads m.val = true)
        (hv : t.ctlRead c m.val = (v, t)) : reads m v := ctlr_value h d hm (.inr htask) hv
    exact ⟨hvalue rfl rfl rfl, hvalue rfl rfl rfl, hvalue rfl rfl rfl, hvalue rfl rfl rfl, ctlr_cycle h d⟩

/-! ### CTLW -/

theorem ctlWrites_iff (m : Nat) :
    ctlWrites m = true ↔ (1 ≤ m ∧ m ≤ 8) ∨ (16 ≤ m ∧ m ≤ 22) ∨ m = 24 ∨ (32 ≤ m ∧ m ≤ 47) := by
  simp [ctlWrites, or_assoc]

theorem ctlTaskWrites_iff (m : Nat) : ctlTaskWrites m = true ↔ m = 2 ∨ (16 ≤ m ∧ m ≤ 18) ∨ m = 24 := by
  simp [ctlTaskWrites, or_assoc]

/-- Core `c` at its level may write control register `m` (R77, R81): all at Host and Guard level, but on G0 at Host level only
those that Task level writes. -/
def mayCtlWrite (c : CoreId) (k : Core) (m : Nat) : Prop :=
  ctlTaskWrites m = true ∨ (k.lvl ≠ 0 ∧ (c = .g0 → k.lvl ≠ 1))

/-- A write of a control register at a level that may write it retires, unless a cache operation meets an error. -/
theorem ctlWriteInstr_done (h : Fetched s c t k) {m a : Nat} {u : State} (hwrites : ctlWrites m = true) (hmay : mayCtlWrite c k m)
    (hu : t.ctlWrite c m (k.reg a) = (none, u)) : s.ctlWriteInstr c m a = u.retire_ c (fun q => q) := by
  have hpriv : ((k.lvl == 0 && !ctlTaskWrites m) || (c == .g0 && k.lvl == 1 && ctlGuardOnly m)) = false := by
    obtain htask | ⟨hlvl, hg0⟩ := hmay
    · simp [htask, ctlGuardOnly]
    · by_cases hc : c = .g0
      · simp [hlvl, hg0 hc]
      · simp [hlvl, hc]
  simp only [State.ctlWriteInstr, h.instr, h.core, hwrites, hpriv, hu, Bool.not_true, Bool.false_eq_true, if_false]

theorem ctlWriteInstr_sets (h : Fetched s c t k) {m a : Nat} {q : Core} (hwrites : ctlWrites m = true) (hmay : mayCtlWrite c k m)
    (hq : t.ctlWrite c m (k.reg a) = (none, t.setCore c q)) (hrun : q.run = k.run) (hpc : q.pc = k.pc) :
    s.ctlWriteInstr c m a = t.setCore c (q.retired k.pc) := by
  rw [ctlWriteInstr_done h hwrites hmay hq, retire_running _ _ (by rw [core_setCore, hrun]; exact h.run), setCore_setCore,
    core_setCore, hpc]
  rfl

theorem ctlWriteInstr_absent (h : Fetched s c t k) (a : Nat) {m : Nat} (hwrites : ctlWrites m = false) :
    s.ctlWriteInstr c m a = t.raiseExc c { vec := 1, epc := k.pc, addr := 0, cause := 1 } := by
  simp only [State.ctlWriteInstr, h.instr, h.core, hwrites, Bool.not_false, if_true]
  rfl

theorem ctlWriteInstr_refused (h : Fetched s c t k) (a : Nat) {m : Nat} (hwrites : ctlWrites m = true)
    (htask : ctlTaskWrites m = false) (hlvl : k.lvl = 0 ∨ (c = .g0 ∧ k.lvl = 1)) :
    s.ctlWriteInstr c m a = t.raiseExc c { vec := 2, epc := k.pc, addr := 0, cause := 2 } := by
  have hpriv : ((k.lvl == 0 && !ctlTaskWrites m) || (c == .g0 && k.lvl == 1 && ctlGuardOnly m)) = true := by
    obtain hlvl | ⟨rfl, hlvl⟩ := hlvl
    · simp [hlvl, htask]
    · simp [hlvl, htask, ctlGuardOnly, hwrites]
  simp only [State.ctlWriteInstr, h.instr, h.core, hwrites, hpriv, Bool.not_true, Bool.false_eq_true, if_false, if_true]
  rfl

theorem ctlw_writes (h : Fetched s c t k) {q : Core} (hwrites : ctlWrites n.val = true) (hmay : mayCtlWrite c k n.val)
    (hq : t.ctlWrite c n.val (k.reg a.val) = (none, t.setCore c q)) (hrun : q.run = k.run) (hpc : q.pc = k.pc) :
    exec (.ctlw c n a) s = .next (t.setCore c (q.retired k.pc)) :=
  congrArg Host.Outcome.next (ctlWriteInstr_sets h hwrites hmay hq hrun hpc)

theorem ctlWrite_base (hk : t.core c = k) {m : Nat} (hlo : 32 ≤ m) (hhi : m ≤ 47) (heven : m % 2 = 0) (v : Word) :
    t.ctlWrite c m v =
      (none, t.setCore c { k with rgnBase := smSet (fun _ => 0) k.rgnBase ((m - 32) / 2) (v &&& 0xFFFFF000) }) := by
  rw [← hk]
  unfold State.ctlWrite
  dsimp only
  split
  any_goals omega
  rw [if_neg (by omega), if_pos ⟨hlo, hhi⟩, if_pos heven]

theorem ctlWrite_cfg (hk : t.core c = k) {m : Nat} (hlo : 32 ≤ m) (hhi : m ≤ 47) (hodd : m % 2 ≠ 0) (v : Word) :
    t.ctlWrite c m v =
      (none, t.setCore c { k with rgnCfg := smSet (fun _ => 0) k.rgnCfg ((m - 32) / 2) (v &&& 0xFFFFF01F) }) := by
  rw [← hk]
  unfold State.ctlWrite
  dsimp only
  split
  any_goals omega
  rw [if_neg (by omega), if_pos ⟨hlo, hhi⟩, if_neg hodd]

/-- Settles O15: CTLW stores what `ctlWrite` stores, number by number. -/
theorem controlRegisterWrites : Obligations.ControlRegisterWrites := by
  intro s c a n r hf t k v writes
  have h : Fetched s c t k := .of_fetches hf
  refine ⟨fun hlvl hg0 => ?_, fun hn => ?_, fun hlvl hn => ?_, fun hlvl => ?_⟩
  · have hmay (m : Nat) : mayCtlWrite c k m := .inr ⟨hlvl, fun hc => by rw [hg0 hc]; decide⟩
    have hwrite {m : Fin 64} {q : Core} (hm : ctlWrites m.val = true) (hq : t.ctlWrite c m.val v = (none, t.setCore c q))
        (hrun : q.run = k.run) (hpc : q.pc = k.pc) : writes m q := ctlw_writes h hm (hmay _) hq hrun hpc
    refine ⟨hwrite rfl rfl rfl rfl, hwrite rfl rfl rfl rfl, hwrite rfl rfl rfl rfl, hwrite rfl rfl rfl rfl, hwrite rfl rfl rfl rfl,
      hwrite rfl rfl rfl rfl, hwrite rfl rfl rfl rfl, hwrite rfl rfl rfl rfl, hwrite rfl rfl rfl rfl, fun m hm => ?_, fun m hm => ?_⟩
    · have hq := ctlWrite_base h.core (m := m.val) (by omega) (by omega) (by omega) v
      rw [show (m.val - 32) / 2 = r.val by omega] at hq
      refine ⟨{ k with rgnBase := smSet (fun _ => 0) k.rgnBase r.val (v &&& 0xFFFFF000) }, ?_, fun j hj => ?_,
        hwrite ((ctlWrites_iff _).mpr (by omega)) hq rfl rfl⟩
      · exact (smGet_smSet _ _ _ _ _).trans (if_pos rfl)
      · exact (smGet_smSet _ _ _ _ _).trans (if_neg hj)
    · have hq := ctlWrite_cfg h.core (m := m.val) (by omega) (by omega) (by omega) v
      rw [show (m.val - 32) / 2 = r.val by omega] at hq
      refine ⟨{ k with rgnCfg := smSet (fun _ => 0) k.rgnCfg r.val (v &&& 0xFFFFF01F) }, ?_, fun j hj => ?_,
        hwrite ((ctlWrites_iff _).mpr (by omega)) hq rfl rfl⟩
      · exact (smGet_smSet _ _ _ _ _).trans (if_pos rfl)
      · exact (smGet_smSet _ _ _ _ _).trans (if_neg hj)
  · refine congrArg Host.Outcome.next (ctlWriteInstr_absent h a.val (Bool.eq_false_iff.mpr fun hwrites => ?_))
    have := (ctlWrites_iff _).mp hwrites
    omega
  · refine congrArg Host.Outcome.next (ctlWriteInstr_refused h a.val ((ctlWrites_iff _).mpr (by omega))
      (Bool.eq_false_iff.mpr fun htask => ?_) hlvl)
    have := (ctlTaskWrites_iff _).mp htask
    omega
  · exact ⟨ctlw_writes h rfl (.inl rfl) rfl rfl rfl, ctlw_writes h rfl (.inl rfl) rfl rfl rfl⟩

end Sys2Proof.Machine
end

section
/-! Entry to a vector and lock-up (spec/03 R83 to R88), the system instructions (R90; spec/04 R106, R123), and the statements
SystemInstructions and LockUp. -/

namespace Sys2Proof.Machine

variable {s t : State} {c : CoreId} {k : Core}

/-! ### Entry (R84) -/

theorem fieldOf_eq (w : Word) (lo len : Nat) : fieldOf w lo len = w.toNat / 2 ^ lo % 2 ^ len := by
  rw [fieldOf, Nat.shiftRight_eq_div_pow]

theorem entryStatus_eq (st : Word) (l : Nat) :
    entryStatus st l = BitVec.ofNat 32 (l + 8 + 16 * (st.toNat % 4) + 64 * (st.toNat / 4 % 2)) := by
  simp only [entryStatus, w32, fieldOf_eq]
  congr 1
  omega

/-- A vector table whose entry soundAt admits does not lie at 0, where the boot ROM is. -/
theorem vbase_ne_zero {n p : Nat} (hn : n < 64) (h : s.soundAt c ((k.vbase.toNat + 4 * n) % 2 ^ 32) p) : k.vbase ≠ 0 := by
  intro hzero
  have haddr : (k.vbase.toNat + 4 * n) % 2 ^ 32 = 4 * n := by
    rw [hzero, show (0 : Word).toNat = 0 from rfl]
    omega
  rw [haddr] at h
  obtain ⟨_, hlo, _⟩ | ⟨hlo, _⟩ | ⟨hlo, _⟩ | ⟨_, hlo, _⟩ := h <;> omega

/-- The read of a vector entry, from the core as it is while it enters (R84). -/
theorem coreRead_vector {q : Core} {n w : Nat} (hpow : s.powered = true) (h : s.vectorAt c n w)
    (hbase : q.rgnBase = (s.core c).rgnBase) (hcfg : q.rgnCfg = (s.core c).rgnCfg) :
    (s.setCore c q).coreRead c (((s.core c).vbase.toNat + 4 * n) % 0x100000000) .word = (.ok w, s.setCore c q) := by
  obtain ⟨p, halign, hsound, hcache, rfl⟩ := h
  have hread := directRead_sound (z := .word) ((soundAt_setCore s c c q _ p).mpr hsound) (by rw [powered_setCore, hpow]) halign (by decide)
  rw [peek_setCore] at hread
  unfold State.coreRead
  rw [if_neg (by rw [cacheable_setCore hbase hcfg]; exact Bool.eq_false_iff.mp hcache)]
  exact hread

/-- Entry to a vector whose entry can be read leaves the core that R84 names, and nothing else. -/
theorem enter_vectorAt {e : Exc} {w : Nat} (hpow : s.powered = true) (hvec : e.vec < 64) (h : s.vectorAt c e.vec w) :
    s.enter c e = s.setCore c ((s.core c).entered c e.epc e.addr e.cause w) := by
  have hvbase : (s.core c).vbase ≠ 0 := by
    obtain ⟨p, _, hsound, _⟩ := h
    exact vbase_ne_zero hvec hsound
  rw [enter_ok s (coreRead_vector hpow h rfl rfl), setCore_setCore, core_setCore, entryStatus_eq, Core.handles, if_neg hvbase]
  rfl

theorem raiseExc_vectorAt {e : Exc} {w : Nat} (hpow : s.powered = true) (hexc : (s.core c).exc = false) (hvec : e.vec < 64)
    (h : s.vectorAt c e.vec w) : s.raiseExc c e = s.setCore c ((s.core c).entered c e.epc e.addr e.cause w) := by
  rw [raiseExc_enter s e hexc, enter_vectorAt hpow hvec h]

/-- An instruction that raises an exception, outside a handler and with a vector entry that can be read. -/
theorem Fetched.enters (h : Fetched s c t k) {e : Exc} {w : Nat} (hexc : k.exc = false) (hvec : e.vec < 64) (hw : t.vectorAt c e.vec w) :
    t.raiseExc c e = t.setCore c (k.entered c e.epc e.addr e.cause w) := by
  rw [raiseExc_vectorAt h.powered (by rw [h.core, hexc]) hvec hw, h.core]

/-! ### BRK, TRAP and undefined words (R106, R123) -/

theorem exec_brk (h : Fetched s c t k) : exec (.brk c) s = .next (t.raiseExc c { vec := 10, epc := k.pc, addr := 0, cause := 10 }) := by
  show execBrk c s = _
  simp only [execBrk, h.instr, h.core]
  rfl

theorem exec_trap (h : Fetched s c t k) (n : Fin 16) : exec (.trap c n) s =
    .next (t.raiseExc c { vec := 48 + n.val, epc := k.pc + 4, addr := 0, cause := BitVec.ofNat 32 (48 + n.val) }) := by
  show execTrap c n s = _
  simp only [execTrap, h.instr, h.core]
  rfl

theorem exec_undefinedWord (h : Fetched s c t k) {w : Word} (hw : decodeRyux c w = none) :
    exec (.undefinedWord c w) s = .next (t.raiseExc c { vec := 1, epc := k.pc, addr := 0, cause := 1 }) := by
  show execUndefinedWord c w s = _
  simp only [execUndefinedWord, hw, h.instr, h.core]
  rfl

/-! ### ERET (R85) -/

theorem plvl_eq (k : Core) : k.plvl = k.status.toNat / 16 % 4 := fieldOf_eq _ _ _

theorem returnStatus_eq (st : Word) : returnStatus st = BitVec.ofNat 32
    (st.toNat / 16 % 4 + 4 * (st.toNat / 64 % 2) + 16 * (st.toNat / 16 % 4) + 64 * (st.toNat / 64 % 2)) := by
  simp only [returnStatus, w32, fieldOf_eq]
  congr 1
  omega

/-- ERET to a level that the core has not. -/
theorem exec_eret_undef (h : Fetched s c t k) (hbad : k.plvl = 3 ∨ (k.plvl = 2 ∧ c ≠ .g0)) :
    exec (.eret c) s = .next (t.raiseExc c { vec := 1, epc := k.pc, addr := 0, cause := 1 }) := by
  have hcond : (k.plvl == 3 || (k.plvl == 2 && c != .g0)) = true := by simpa using hbad
  show execEret c s = _
  simp only [execEret, h.instr, h.core, hcond, if_true]
  rfl

theorem plvl_legal (h3 : k.plvl ≠ 3) (h2 : k.plvl = 2 → c = .g0) : (k.plvl == 3 || (k.plvl == 2 && c != .g0)) = false := by
  simpa [h3] using h2

theorem exec_eret_priv (h : Fetched s c t k) (h3 : k.plvl ≠ 3) (h2 : k.plvl = 2 → c = .g0) (hlvl : k.lvl = 0) :
    exec (.eret c) s = .next (t.raiseExc c { vec := 2, epc := k.pc, addr := 0, cause := 2 }) := by
  show execEret c s = _
  simp only [execEret, h.instr, h.core, plvl_legal h3 h2, hlvl, Bool.false_eq_true, if_false, beq_self_eq_true, if_true]
  rfl

theorem exec_eret_returns (h : Fetched s c t k) (h3 : k.plvl ≠ 3) (h2 : k.plvl = 2 → c = .g0) (hlvl : k.lvl ≠ 0) :
    exec (.eret c) s = .next (t.setCore c
      { k with status := returnStatus k.status, pc := k.epc &&& 0xFFFFFFFC, reserved := none }) := by
  show execEret c s = _
  simp only [execEret, h.instr, h.core, plvl_legal h3 h2, beq_eq_false_iff_ne.mpr hlvl, Bool.false_eq_true, if_false]
  rfl

/-! ### IDLE (R90) -/

theorem exec_idle_priv (h : Fetched s c t k) (hlvl : k.lvl = 0) :
    exec (.idle c) s = .next (t.raiseExc c { vec := 2, epc := k.pc, addr := 0, cause := 2 }) := by
  show execIdle c s = _
  simp only [execIdle, h.instr, h.core, hlvl, beq_self_eq_true, if_true]
  rfl

theorem exec_idle_stops (h : Fetched s c t k) (hlvl : k.lvl ≠ 0) (hline : t.line c.num = false) :
    exec (.idle c) s = .next (t.setCore c { k with reserved := none, run := .idle }) := by
  show execIdle c s = _
  simp only [execIdle, h.instr, h.core, beq_eq_false_iff_ne.mpr hlvl, hline, Bool.false_eq_true, if_false]
  rfl

theorem exec_idle_retires (h : Fetched s c t k) (hlvl : k.lvl ≠ 0) (hline : t.line c.num = true) :
    exec (.idle c) s = .next (t.setCore c { k.retired k.pc with reserved := none }) := by
  show execIdle c s = _
  simp only [execIdle, h.instr, h.core, beq_eq_false_iff_ne.mpr hlvl, hline, Bool.false_eq_true, if_false, if_true, h.retire]
  rfl

/-- Settles O16: each clause is the rule of its instruction above. -/
theorem systemInstructions : Obligations.SystemInstructions := by
  intro s c n w hf t k priv plvl pie
  have h : Fetched s c t k := .of_fetches hf
  have hplvl : k.plvl = plvl := plvl_eq k
  refine ⟨fun hexc => ⟨fun x hx => ?_, fun x hx => ?_, fun x hw hx => ?_⟩, fun h3 h2 hlvl => ?_, fun hbad => ?_,
    fun h3 h2 hlvl => ?_, ?_, exec_idle_stops h, exec_idle_retires h, exec_idle_priv h⟩
  · have hvec : 10 < 64 := by decide
    rw [exec_brk h, h.enters hexc hvec hx]
  · have hvec : 48 + n.val < 64 := by omega
    rw [exec_trap h, h.enters hexc hvec hx]
  · have hvec : 1 < 64 := by decide
    rw [exec_undefinedWord h hw, h.enters hexc hvec hx]
  · rw [← hplvl] at h3 h2
    rw [exec_eret_returns h h3 h2 hlvl, returnStatus_eq]
  · rw [← hplvl] at hbad
    exact exec_eret_undef h hbad
  · rw [← hplvl] at h3 h2
    exact exec_eret_priv h h3 h2 hlvl
  · show execFence c s = _
    rw [execFence, h.instr, h.retire]
    rfl

/-! ### Lock-up (R88, R225) -/

/-- The registers that the report of a lock-up writes. -/
abbrev lockRegs : List Nat := [FLT_CORESTAT, FLT_EVT, FLT_RECOVF, ECX_PEND 3]

theorem core_event (s : State) (e b n : Nat) (m : CoreId) : (s.event e b n).core m = s.core m := by cases m <;> simp [State.core]

section
variable (s : State) (chan ev count first : Nat) (detail : Word) (addr : Nat)

theorem core_queueRecord (m : CoreId) : (s.queueRecord chan ev count first detail addr).core m = s.core m := by
  unfold State.queueRecord
  dsimp only
  split
  · cases m <;> rfl
  · rw [core_event]
    cases m <;> rfl

theorem writesOnly_queueRecord : WritesOnly (· ∈ [FLT_EVT, FLT_RECOVF, ECX_PEND 3]) s (s.queueRecord chan ev count first detail addr) := by
  have h := WritesOnly.refl (· ∈ [FLT_EVT, FLT_RECOVF, ECX_PEND 3]) s
  unfold State.queueRecord
  dsimp only
  split
  · exact h.kept rfl rfl rfl
  · exact (h.count (by decide) 1).event (by decide) (by decide) 5

/-- Queueing a record clears no bit of FLT_EVT. -/
theorem bit_evt_queueRecord {b : Nat} (hb : b < 32) (h : s.bit FLT_EVT b = true) :
    (s.queueRecord chan ev count first detail addr).bit FLT_EVT b = true := by
  unfold State.queueRecord
  dsimp only
  split
  · exact h
  · rw [State.bit, rg_event_self _ _ _ _ (by decide), bitOf_withBit _ _ _ _ hb, rg_count_ne _ _ (by decide)]
    split
    · rfl
    · exact h

end

/-- The state in which the Gauntlet has recorded and reported core `c`'s lock-up, before it queues the record. -/
def State.lockReported (s : State) (c : CoreId) : State :=
  ((s.setCore c { s.core c with run := .locked }).setBit FLT_CORESTAT c.num true).event FLT_EVT 4 108

theorem lockUp_app (hc : c ≠ .g0) : s.lockUp c = (s.lockReported c).queueRecord c.num 3 0 0 0 0 := if_neg hc

theorem writesOnly_lockReported (s : State) (c : CoreId) : WritesOnly (· ∈ lockRegs) s (s.lockReported c) :=
  (((WritesOnly.refl _ s).setCore c _).setBit (by decide) _ _).event (by decide) (by decide) 4

theorem core_lockUp (hc : c ≠ .g0) (m : CoreId) : (s.lockUp c).core m = (s.setCore c { s.core c with run := .locked }).core m := by
  rw [lockUp_app hc, core_queueRecord, State.lockReported, core_event]
  cases m <;> rfl

theorem writesOnly_lockUp (hc : c ≠ .g0) : WritesOnly (· ∈ lockRegs) s (s.lockUp c) := by
  have hreported := writesOnly_lockReported s c
  have hqueued := writesOnly_queueRecord (s.lockReported c) c.num 3 0 0 0 0
  rw [lockUp_app hc]
  exact ⟨fun a ha => (hqueued.rg a fun hmem => ha (List.mem_cons_of_mem _ hmem)).trans (hreported.rg a ha),
    hqueued.beat.trans hreported.beat, hqueued.mem.trans hreported.mem⟩

theorem bit_corestat_lockUp (hc : c ≠ .g0) : (s.lockUp c).bit FLT_CORESTAT c.num = true := by
  have hnum : c.num < 32 := by cases c <;> decide
  rw [lockUp_app hc, State.bit, (writesOnly_queueRecord _ c.num 3 0 0 0 0).rg FLT_CORESTAT (by decide), State.lockReported,
    rg_event_ne _ _ _ _ (by decide) (by decide)]
  exact bit_setBit_same _ _ _ _ hnum

theorem bit_evt_lockUp (hc : c ≠ .g0) : (s.lockUp c).bit FLT_EVT 4 = true := by
  rw [lockUp_app hc]
  exact bit_evt_queueRecord _ _ _ _ _ _ _ (by decide) (bit_event_self _ _ _ _ (by decide) (by decide))

/-- Settles O17: BRK inside a handler locks the core up. -/
theorem lockUp : Obligations.LockUp := by
  intro s c hf hc hexc t
  refine ⟨t.lockUp c, ?_, ?_, bit_corestat_lockUp hc, bit_evt_lockUp hc, (writesOnly_lockUp hc).sameRegsBut,
    (writesOnly_lockUp hc).mem, fun e he => ?_⟩
  · rw [exec_brk (.of_fetches hf), raiseExc_locked _ _ hexc]
  · rw [core_lockUp hc, core_setCore]
  · rw [core_lockUp hc, core_setCore_ne _ _ he]

end Sys2Proof.Machine
end

section
/-! The checks of loads and stores (spec/03 R76 to R79, R83, R87; spec/04 R116), and the statement LoadStoreTraps. -/

namespace Sys2Proof.Machine

variable {s t : State} {c : CoreId} {k : Core} {d a : Nat} {imm : BitVec 18} {post : Bool} {z : Size} {x : Word} {e : Exc}

/-! ### The checks of an access -/

/-- The bits of ECAUSE beside its vector that name a store. -/
def storeBit (wr : Bool) : Nat := if wr then C_WR else 0

/-- A store of G0 at Host level to a control register is refused at aligned words of its control space only (R77). -/
theorem dataCheck_of_unprivileged {x : Nat} (wr : Bool) (h : c = .g0 → x < 0xF0000000 ∨ x % 4 ≠ 0 ∨ z ≠ .word) :
    dataCheck k c x z wr =
    if x % z.bytes ≠ 0 then some (excAt k.pc V_DALIGN (w32 x) (storeBit wr))
    else if (k.lvl == 0 && decide (0xF0000000 ≤ x ∧ x ≤ 0xF000FFFF)) || !k.permits (if wr then 2 else 1) x ||
        (c == .g0 && k.lvl != 2 && decide (0x50000000 ≤ x ∧ x ≤ 0x5005FFFF)) then
      some (excAt k.pc V_DPROT (w32 x) (storeBit wr))
    else none := by
  have hcond : (c == .g0 && k.lvl == 1 && wr && z == .word && decide (0xF0000000 ≤ x ∧ x ≤ 0xF000FFFF) && decide (x < 0xF0000100) &&
      x % 4 == 0 && ctlGuardOnly (privReg x)) = false := by
    by_cases hc : c = .g0
    · obtain hlow | hodd | hz := h hc
      · have hout : ¬(0xF0000000 ≤ x ∧ x ≤ 0xF000FFFF) := by omega
        simp [hout]
      · simp [hodd]
      · simp [hz]
    · simp [hc]
  unfold dataCheck
  simp only [hcond, Bool.false_eq_true, if_false, storeBit]

theorem dataCheck_misaligned {x : Nat} (wr : Bool) (hx : x % z.bytes ≠ 0) :
    dataCheck k c x z wr = some (excAt k.pc V_DALIGN (w32 x) (storeBit wr)) := by
  have hword : x % 4 ≠ 0 ∨ z ≠ .word := by
    by_cases hz : z = .word
    · subst hz
      exact .inl hx
    · exact .inr hz
  rw [dataCheck_of_unprivileged wr fun _ => .inr hword, if_pos hx]

/-- An aligned access without the rights of R76 to R78. -/
theorem dataCheck_refused {x : Nat} (wr : Bool) (hlow : c = .g0 → x < 0xF0000000) (hx : x % z.bytes = 0)
    (hbad : (k.lvl = 0 ∧ 0xF0000000 ≤ x ∧ x ≤ 0xF000FFFF) ∨ k.permits (if wr then 2 else 1) x = false ∨
      (c = .g0 ∧ k.lvl = 1 ∧ 0x50000000 ≤ x ∧ x ≤ 0x5005FFFF)) :
    dataCheck k c x z wr = some (excAt k.pc V_DPROT (w32 x) (storeBit wr)) := by
  have hcond : ((k.lvl == 0 && decide (0xF0000000 ≤ x ∧ x ≤ 0xF000FFFF)) || !k.permits (if wr then 2 else 1) x ||
      (c == .g0 && k.lvl != 2 && decide (0x50000000 ≤ x ∧ x ≤ 0x5005FFFF))) = true := by
    obtain ⟨hlvl, hrange⟩ | hperm | ⟨hc, hlvl, hrange⟩ := hbad
    · simp [hlvl, hrange]
    · simp [hperm]
    · simp [hc, hlvl, hrange]
  rw [dataCheck_of_unprivileged wr fun hc => .inl (hlow hc), if_neg (by simp [hx]), if_pos hcond]

/-- An aligned access to a memory that the deciding region permits. -/
theorem dataCheck_passes {x : Nat} (wr : Bool) (hlow : x < 0x50000000 ∨ (0x50060000 ≤ x ∧ x < 0xF0000000)) (hx : x % z.bytes = 0)
    (hperm : k.permits (if wr then 2 else 1) x = true) : dataCheck k c x z wr = none := by
  have hpriv : ¬(0xF0000000 ≤ x ∧ x ≤ 0xF000FFFF) := by omega
  have hgnt : ¬(0x50000000 ≤ x ∧ x ≤ 0x5005FFFF) := by omega
  rw [dataCheck_of_unprivileged wr fun _ => .inl (by omega), if_neg (by simp [hx]), if_neg (by simp [hpriv, hgnt, hperm])]

/-! ### Loads and stores that trap -/

theorem load_traps (h : Fetched s c t k) (ext : Nat → Word) (hform : (post && d == a) = false) (haddr : memAddr (k.reg a) imm post = x)
    (hcheck : dataCheck k c x.toNat z false = some e) : s.load c d a imm post z ext = t.raiseExc c e := by
  simp only [State.load, h.instr, h.core, hform, haddr, hcheck, Bool.false_eq_true, if_false]

theorem store_traps (h : Fetched s c t k) (haddr : memAddr (k.reg a) imm post = x) (hcheck : dataCheck k c x.toNat z true = some e) :
    s.store c d a imm post z = t.raiseExc c e := by
  simp only [State.store, h.instr, h.core, haddr, hcheck]

theorem excAt_address (pc : Word) (vec : Nat) (x : Word) (extra : Nat) :
    excAt pc vec (w32 x.toNat) extra = { vec := vec, epc := pc, addr := x, cause := w32 (vec + extra) } := by
  rw [w32_toNat_self, excAt]

/-- Settles O11: the checks of an access raise DALIGN before DPROT. -/
theorem loadStoreTraps : Obligations.LoadStoreTraps := by
  intro s c d a imm hf t k y hlow traps
  have h : Fetched s c t k := .of_fetches hf
  have haddr : memAddr (k.reg a.val) imm false = y := rfl
  have hload {z : Size} {vec : Nat} (ext : Nat → Word) (hcheck : dataCheck k c y.toNat z false = some (excAt k.pc vec (w32 y.toNat) 0)) :
      s.load c d.val a.val imm false z ext = t.raiseExc c { vec := vec, epc := k.pc, addr := y, cause := w32 vec } := by
    rw [load_traps h ext rfl haddr hcheck, excAt_address, Nat.add_zero]
  have hstore {z : Size} {vec : Nat} (hcheck : dataCheck k c y.toNat z true = some (excAt k.pc vec (w32 y.toNat) C_WR)) :
      s.store c d.val a.val imm false z = t.raiseExc c { vec := vec, epc := k.pc, addr := y, cause := w32 (vec + C_WR) } := by
    rw [store_traps h haddr hcheck, excAt_address]
  refine ⟨fun h2 => ⟨?_, ?_, ?_⟩, fun h4 => ⟨?_, ?_⟩, fun h4 hperm => ?_, fun h4 hperm => ?_, fun h4 hlvl hlo hhi => ⟨?_, ?_⟩,
    fun hc hlvl h4 hlo hhi => ⟨?_, ?_⟩⟩
  · exact congrArg Host.Outcome.next (hload _ (dataCheck_misaligned (z := .half) false h2))
  · exact congrArg Host.Outcome.next (hload _ (dataCheck_misaligned (z := .half) false h2))
  · exact congrArg Host.Outcome.next (hstore (dataCheck_misaligned (z := .half) true h2))
  · exact congrArg Host.Outcome.next (hload _ (dataCheck_misaligned (z := .word) false h4))
  · exact congrArg Host.Outcome.next (hstore (dataCheck_misaligned (z := .word) true h4))
  · exact congrArg Host.Outcome.next (hload _ (dataCheck_refused (z := .word) false hlow h4 (.inr (.inl hperm))))
  · exact congrArg Host.Outcome.next (hstore (dataCheck_refused (z := .word) true hlow h4 (.inr (.inl hperm))))
  · exact congrArg Host.Outcome.next (hload _ (dataCheck_refused (z := .word) false hlow h4 (.inl ⟨hlvl, hlo, hhi⟩)))
  · exact congrArg Host.Outcome.next (hstore (dataCheck_refused (z := .word) true hlow h4 (.inl ⟨hlvl, hlo, hhi⟩)))
  · exact congrArg Host.Outcome.next (hload _ (dataCheck_refused (z := .word) false hlow h4 (.inr (.inr ⟨hc, hlvl, hlo, hhi⟩))))
  · exact congrArg Host.Outcome.next (hstore (dataCheck_refused (z := .word) true hlow h4 (.inr (.inr ⟨hc, hlvl, hlo, hhi⟩))))

end Sys2Proof.Machine
end

section
/-! The lines of a core's data cache (spec/03 R73, R91, R92): what storing, dropping and cleaning a line leaves, and the write-back of a
sound dirty line to SRAM. -/

namespace Sys2Proof.Machine

variable {s t : State} {c : CoreId} {k : Core} {n : Nat} {l : CacheLine}

/-! ### Lines stored and dropped -/

theorem find?_smPut_ne {α : Type} (m : List (Nat × α)) (x : α) {i j : Nat} (h : i ≠ j) :
    (smPut m j x).find? (fun e => e.1 == i) = m.find? (fun e => e.1 == i) := by
  induction m with
  | nil => simp [smPut, h.symm]
  | cons e m ih =>
    obtain ⟨q, v⟩ := e
    by_cases hlt : j < q
    · simp [smPut, hlt, h.symm]
    · by_cases heq : j = q
      · subst heq
        simp [smPut, h.symm]
      · simp only [smPut, if_neg hlt, if_neg heq, List.find?_cons, ih]

theorem find?_smErase {α : Type} (m : List (Nat × α)) (i j : Nat) :
    (smErase m j).find? (fun e => e.1 == i) = if i = j then none else m.find? (fun e => e.1 == i) := by
  induction m with
  | nil => simp [smErase]
  | cons e m ih =>
    obtain ⟨q, v⟩ := e
    by_cases heq : j = q
    · subst heq
      by_cases hi : i = j
      · simpa [smErase, hi] using ih
      · simp [smErase, ih, hi, Ne.symm hi]
    · by_cases hi : i = q
      · subst hi
        simp [smErase, heq, Ne.symm heq]
      · simp [smErase, heq, ih, Ne.symm hi]

theorem smErase_absent {α : Type} {m : List (Nat × α)} {j : Nat} (h : m.find? (fun e => e.1 == j) = none) : smErase m j = m := by
  induction m with
  | nil => rfl
  | cons e m ih =>
    obtain ⟨q, v⟩ := e
    rw [List.find?_cons] at h
    split at h
    · exact absurd h (by simp)
    next hne =>
      have hq : j ≠ q := fun hq => by simp [hq] at hne
      rw [smErase, if_neg hq, ih h]

/-- The core with line `n` of its data cache stored, and dropped. -/
def Core.putLine (k : Core) (n : Nat) (l : CacheLine) : Core := { k with dcache := smPut k.dcache n l }
def Core.eraseLine (k : Core) (n : Nat) : Core := { k with dcache := smErase k.dcache n }

theorem dline_putLine (k : Core) (n m : Nat) (l : CacheLine) : (k.putLine n l).dline m = if m = n then some l else k.dline m := by
  by_cases h : m = n
  · subst h
    simp [Core.dline, Core.putLine, find?_smPut]
  · simp [Core.dline, Core.putLine, find?_smPut_ne _ _ h, h]

theorem dline_eraseLine (k : Core) (n m : Nat) : (k.eraseLine n).dline m = if m = n then none else k.dline m := by
  by_cases h : m = n <;> simp [Core.dline, Core.eraseLine, find?_smErase, h]

theorem eraseLine_absent (h : k.dline n = none) : k.eraseLine n = k := by
  have hfind : k.dcache.find? (fun e => e.1 == n) = none := by simpa [Core.dline] using h
  rw [Core.eraseLine, smErase_absent hfind]

theorem setDline_eq (hk : t.core c = k) (n : Nat) (l : CacheLine) : t.setDline c n l = t.setCore c (k.putLine n l) := by
  rw [← hk]
  rfl

theorem dropDline_eq (hk : t.core c = k) (n : Nat) : t.dropDline c n = t.setCore c (k.eraseLine n) := by
  rw [← hk]
  rfl

/-! ### Cleaning a line (R92) -/

/-- A line that is not dirty is dropped without a write-back. -/
theorem cleanLine_drops (hk : t.core c = k) (h : ∀ l, k.dline n = some l → l.dirty = false) :
    t.cleanLine c n true = (none, t.setCore c (k.eraseLine n)) := by
  rw [← dropDline_eq hk]
  unfold State.cleanLine
  rw [hk]
  split
  next hnone => rw [dropDline_eq hk, eraseLine_absent hnone, ← hk, setCore_core]
  next l hsome =>
    have hclean := h l hsome
    cases l.err <;> simp [hclean]

/-- A sound line that is not dirty stays as it is. -/
theorem cleanLine_keeps (hk : t.core c = k) (h : ∀ l, k.dline n = some l → l.dirty = false ∧ l.err = false) :
    ∃ q : Core, t.cleanLine c n false = (none, t.setCore c q) ∧ (∃ x, q = { k with dcache := x }) ∧ ∀ m, q.dline m = k.dline m := by
  unfold State.cleanLine
  rw [hk]
  split
  next hnone => exact ⟨k, by rw [← hk, setCore_core], ⟨k.dcache, rfl⟩, fun m => rfl⟩
  next l hsome =>
    obtain ⟨bytes, dirty, err⟩ := l
    obtain ⟨hclean, herr⟩ : dirty = false ∧ err = false := h _ hsome
    subst hclean herr
    refine ⟨k.putLine n ⟨bytes, false, false⟩, ?_, ⟨_, rfl⟩, fun m => ?_⟩
    · simp [setDline_eq hk]
    · rw [dline_putLine]
      split
      next hm => rw [hm, hsome]
      next => rfl

/-- A dirty line with an error is not written back and stays (R83). -/
theorem cleanLine_fails (hk : t.core c = k) (hl : k.dline n = some l) (hdirty : l.dirty = true) (herr : l.err = true) (drop : Bool) :
    t.cleanLine c n drop = (some (.memory (32 * n)), t) := by
  unfold State.cleanLine
  rw [hk, hl]
  simp [hdirty, herr]

/-- A sound dirty line is written back, then kept or dropped. -/
theorem cleanLine_writes (hk : t.core c = k) (hl : k.dline n = some l) (hdirty : l.dirty = true) (herr : l.err = false) {u : State}
    (hu : t.writeLine c n l.bytes = (none, u)) (drop : Bool) :
    t.cleanLine c n drop = (none, if drop then u.dropDline c n else u.setDline c n { l with dirty := false }) := by
  unfold State.cleanLine
  rw [hk, hl]
  simp [hdirty, herr, hu]

/-! ### The write-back of a line to SRAM -/

theorem leBytes_succ (n v : Nat) : leBytes (n + 1) v = BitVec.ofNat 8 v :: leBytes n (v / 256) := by
  simp only [leBytes, List.range_succ_eq_map, List.map_cons, List.map_map, Nat.mul_zero, Nat.shiftRight_zero]
  congr 1
  apply List.map_congr_left
  intro i _
  simp only [Function.comp_apply, Nat.mul_succ, Nat.add_comm (8 * i), Nat.shiftRight_add, Nat.shiftRight_eq_div_pow v 8]

theorem leBytes_ofLe (l : List Byte) : leBytes l.length (ofLe l) = l := by
  induction l with
  | nil => rfl
  | cons b l ih =>
    have hofLe : ofLe (b :: l) = b.toNat + 256 * ofLe l := rfl
    have hb : b.toNat < 256 := b.isLt
    rw [List.length_cons, leBytes_succ, hofLe, show (b.toNat + 256 * ofLe l) / 256 = ofLe l by omega, ih]
    congr 1
    apply BitVec.eq_of_toNat_eq
    rw [BitVec.toNat_ofNat]
    omega

theorem pokeBytes_append (s : State) (p : Nat) (l m : List Byte) :
    s.pokeBytes p (l ++ m) = (s.pokeBytes p l).pokeBytes (p + l.length) m := by
  induction l generalizing s p with
  | nil => rfl
  | cons b l ih =>
    rw [List.cons_append, State.pokeBytes, State.pokeBytes, ih, List.length_cons, Nat.add_right_comm, Nat.add_assoc]

theorem mem_pokeBytes_congr {s t : State} (h : t.mem = s.mem) (p : Nat) (l : List Byte) :
    (t.pokeBytes p l).mem = (s.pokeBytes p l).mem := by
  induction l generalizing s t p with
  | nil => exact h
  | cons b l ih => exact ih (by simp only [State.setByte, h]) (p + 1)

/-- A byte of a stored run reads as it was stored. -/
theorem byteAt_pokeBytes (s : State) (p : Nat) {l : List Byte} {j : Nat} {b : Byte} (h : l[j]? = some b) :
    (s.pokeBytes p l).byteAt (p + j) = b := by
  have hbytes := congrArg (fun m => m[j]?) (bytes_pokeBytes s p l)
  obtain ⟨hj, rfl⟩ := List.getElem?_eq_some_iff.mp h
  simpa [List.getElem?_range', hj] using hbytes

/-- From `s` to `u` the bytes `l` are stored from `p` up by core `c`; the registers, the homes of the rows and core `c` stay. -/
structure BytesStored (s u : State) (c : CoreId) (p : Nat) (l : List Byte) : Prop where
  mem : u.mem = (s.pokeBytes p l).mem
  regs : u.regs = s.regs
  copies : u.ms.copies = s.ms.copies
  restored : u.ms.restored = s.ms.restored
  core : u.core c = s.core c

/-- An address of the same 32-byte line lies in the same row. -/
theorem physOf_sram_line {a p o : Nat} (h : s.physOf .sram false a = some p) (ha : a % 32 = 0) (ho : o < 32) (hlo : 0x10000000 ≤ a) :
    s.physOf .sram false (a + o) = some (p + o) := by
  have hrow : (a + o - 0x10000000) / 4096 = (a - 0x10000000) / 4096 := by omega
  have hoff : (a + o) % 4096 = a % 4096 + o := by omega
  unfold State.physOf at h ⊢
  simp only [Bool.false_and, Bool.false_eq_true, if_false, hrow, hoff] at h ⊢
  split at h
  · rw [← Option.some_inj.mp h]
  · rw [← Option.some_inj.mp h]
    simp only [sparePhys, Nat.add_assoc]
  · cases h

/-- The write of one aligned doubleword of SRAM by an application core. -/
theorem fabWrite_dword {a p : Nat} {b : List Byte} (hc : c ≠ .g0) (hlo : 0x10000000 ≤ a) (hhi : a ≤ 0x107FFFFF) (ha : a % 8 = 0)
    (hp : s.physOf .sram false a = some p) (hb : b.length = 8) :
    ∃ u, s.fabWrite c.init a .dword (ofLe b) = (.ok 0, u) ∧ BytesStored s u c p b := by
  have hg0 : (c.init == .g0) = false := by rw [init_eq_g0]; exact beq_eq_false_iff_ne.mpr hc
  have hpoke : s.poke p Size.dword.bytes (ofLe b) = s.pokeBytes p b := by
    have hle := leBytes_ofLe b
    rw [hb] at hle
    exact congrArg (s.pokeBytes p) hle
  have hwrite := fabWrite_onFabric (i := c.init) (z := .dword) (ofLe b) (r := .sram) rfl (regionOf_sram hlo hhi) (by omega) ha
    (by rw [hg0]; exact hp) (.inr (by decide)) (by decide)
  rw [hpoke, init_core?] at hwrite
  refine ⟨_, hwrite, by simp, by simp, ?_, ?_, ?_⟩
  · rw [breakReservations_keeps _ (fun t => t.ms.copies) (fun t c k => by rw [ms_setCore]), ← ms_pokeBytes s p b]
    rfl
  · rw [breakReservations_keeps _ (fun t => t.ms.restored) (fun t c k => by rw [ms_setCore]), ← ms_pokeBytes s p b]
    rfl
  · rw [core_breakReservations, if_pos rfl, core_setEcc, core_pokeBytes]

/-- A write of whole doublewords to a line of SRAM by an application core stores its bytes. -/
theorem fabWriteRun_dwords (hc : c ≠ .g0) {m fuel a p : Nat} {b : List Byte} (hb : b.length = 8 * m) (hfuel : m ≤ fuel)
    (ha : a % 8 = 0) (hlo : 0x10000000 ≤ a) (hhi : a + 8 * m ≤ 0x10800000)
    (hp : ∀ i, i < m → s.physOf .sram false (a + 8 * i) = some (p + 8 * i)) :
    ∃ u, s.fabWriteRun c.init fuel a b = (none, u) ∧ BytesStored s u c p b := by
  induction m generalizing fuel a p b s with
  | zero =>
    obtain rfl : b = [] := List.eq_nil_of_length_eq_zero hb
    refine ⟨s, ?_, rfl, rfl, rfl, rfl, rfl⟩
    cases fuel <;> rfl
  | succ m ih =>
    obtain ⟨fuel, rfl⟩ : ∃ f, fuel = f + 1 := ⟨fuel - 1, by omega⟩
    have htake : (b.take 8).length = 8 := by rw [List.length_take]; omega
    obtain ⟨v, hv, hfirst⟩ := fabWrite_dword hc hlo (by omega) ha (by simpa using hp 0 (by omega)) htake
    have hrest (i : Nat) (hi : i < m) : v.physOf .sram false (a + 8 + 8 * i) = some (p + 8 + 8 * i) := by
      rw [physOf_congr hfirst.regs hfirst.copies hfirst.restored]
      have := hp (i + 1) (by omega)
      rwa [show a + 8 * (i + 1) = a + 8 + 8 * i by omega, show p + 8 * (i + 1) = p + 8 + 8 * i by omega] at this
    obtain ⟨u, hu, hlast⟩ := ih (b := b.drop 8) (by rw [List.length_drop]; omega) (by omega : m ≤ fuel) (by omega) (by omega) (by omega) hrest
    refine ⟨u, ?_, ?_, hlast.regs.trans hfirst.regs, hlast.copies.trans hfirst.copies, hlast.restored.trans hfirst.restored,
      hlast.core.trans hfirst.core⟩
    · have hne : b.isEmpty = false := by cases b <;> simp_all
      have hsize : (if a % 8 = 0 ∧ 8 ≤ b.length then Size.dword else .byte) = .dword := if_pos ⟨ha, by omega⟩
      rw [State.fabWriteRun]
      simp only [hne, hsize, Bool.false_eq_true, if_false, Size.bytes, hv, hu]
    · have happend := pokeBytes_append s p (b.take 8) (b.drop 8)
      rw [List.take_append_drop, htake] at happend
      rw [hlast.mem, happend, mem_pokeBytes_congr hfirst.mem]

/-- A sound dirty line of SRAM is written back whole (R92). -/
theorem writeLine_stores {p : Nat} {b : List Byte} (hc : c ≠ .g0) (hb : b.length = 32) (hlo : 0x10000000 ≤ 32 * n)
    (hhi : 32 * n ≤ 0x107FFFFF) (hp : s.physOf .sram false (32 * n) = some p) :
    ∃ u, s.writeLine c n b = (none, u) ∧ BytesStored s u c p b :=
  fabWriteRun_dwords hc (m := 4) hb (by omega) (by omega) hlo (by omega)
    fun i hi => physOf_sram_line hp (by omega) (by omega) hlo

/-- The bytes that a write-back leaves. -/
theorem BytesStored.bytes {u : State} {p : Nat} {b : List Byte} (h : BytesStored s u c p b) :
    (∀ (j : Nat) (x : Byte), b[j]? = some x → u.byteAt (p + j) = x) ∧ SameBytesBut s u p b.length := by
  refine ⟨fun j x hx => ?_, fun q hq => ?_⟩
  · rw [byteAt_congr h.mem, byteAt_pokeBytes s p hx]
  · rw [byteAt_congr h.mem, byteAt_pokeBytes_outside s p q b (by omega)]

end Sys2Proof.Machine
end

section
/-! The atomics of the cores (spec/03 R99, R100; spec/04 R121), and the statement AtomicInstructions. -/

namespace Sys2Proof.Machine

variable {s t : State} {c : CoreId} {k : Core} {d b a : Fin 16} {x : Nat}

/-! ### The checks of LDX and STC (R99) -/

theorem eq_some_of_ite {α : Type} {p : Prop} [Decidable p] {y z : α} {o : Option α} (h : (if p then some y else o) = some z)
    (hne : y ≠ z) : o = some z := by
  split at h
  · exact absurd (Option.some_inj.mp h) hne
  · exact h

theorem regionOf_sram_range (h : regionOf x = some .sram) : 0x10000000 ≤ x ∧ x ≤ 0x107FFFFF := by
  by_contra hout
  unfold regionOf at h
  rw [if_neg hout] at h
  repeat replace h := eq_some_of_ite h (by simp)
  cases h

theorem regionOf_expert_range {n : Nat} (h : regionOf x = some (.expert n)) : 0x20000000 ≤ x ∧ x ≤ 0x201FFFFF := by
  by_contra hout
  unfold regionOf at h
  rw [if_neg hout] at h
  repeat replace h := eq_some_of_ite h (by simp)
  cases h

theorem regionOf_ownTcm_range (h : regionOf x = some .ownTcm) : 0x08000000 ≤ x ∧ x ≤ 0x0800FFFF := by
  by_contra hout
  unfold regionOf at h
  rw [if_neg hout] at h
  repeat replace h := eq_some_of_ite h (by simp)
  cases h

theorem atomRegion_iff : atomRegion c x = true ↔ atomReach c x := by
  constructor
  · intro h
    unfold atomRegion at h
    split at h
    next hreg => exact .inr (.inl (regionOf_sram_range hreg))
    next hreg => exact .inr (.inr (regionOf_expert_range hreg))
    next hreg => exact .inl ⟨by simpa using h, regionOf_ownTcm_range hreg⟩
    next => cases h
  · rintro (⟨hc, hlo, hhi⟩ | ⟨hlo, hhi⟩ | ⟨hlo, hhi⟩)
    · simp [atomRegion, regionOf_ownTcm hlo hhi, hc]
    · simp [atomRegion, regionOf_sram hlo hhi]
    · simp [atomRegion, regionOf_expert hlo hhi]

theorem atomReach_lt (h : atomReach c x) : x < 0x50000000 := by
  obtain ⟨_, _, hhi⟩ | ⟨_, hhi⟩ | ⟨_, hhi⟩ := h <;> omega

theorem atomCheck_misaligned (wr : Bool) (h : x % 4 ≠ 0) :
    atomCheck k c x wr = some (excAt k.pc V_DALIGN (w32 x) (storeBit wr)) := if_pos h

theorem atomCheck_unreached (wr : Bool) (h4 : x % 4 = 0) (h : ¬atomReach c x) :
    atomCheck k c x wr = some (excAt k.pc V_DPROT (w32 x) (C_ATOM + storeBit wr)) := by
  have hreg : atomRegion c x = false := Bool.eq_false_iff.mpr (atomRegion_iff.not.mpr h)
  unfold atomCheck
  simp only [h4, hreg, ne_eq, not_true_eq_false, if_false, Bool.not_false, if_true, storeBit]

theorem atomCheck_passes (wr : Bool) (h4 : x % 4 = 0) (h : atomReach c x) (hperm : k.permits (if wr then 2 else 1) x = true) :
    atomCheck k c x wr = none := by
  unfold atomCheck
  simp only [h4, atomRegion_iff.mpr h, ne_eq, not_true_eq_false, if_false, Bool.not_true, Bool.false_eq_true]
  exact dataCheck_passes (z := .word) wr (.inl (atomReach_lt h)) h4 hperm

/-! ### LDX -/

theorem ldx_traps (h : Fetched s c t k) (d : Fin 16) {e : Exc} (hcheck : atomCheck k c (k.reg a.val).toNat false = some e) :
    exec (.ldx c d a) s = .next (t.raiseExc c e) := by
  show execLdx c d a s = _
  simp only [execLdx, h.instr, h.core, hcheck, done]

/-- An LDX whose line is dirty with an error ends in that error. -/
theorem ldx_memerr (h : Fetched s c t k) (d : Fin 16) {e : CacheErr} (hcheck : atomCheck k c (k.reg a.val).toNat false = none)
    (hclean : t.cleanForLdx c (k.reg a.val).toNat = (some e, t)) : exec (.ldx c d a) s = .next (t.raiseExc c (e.exc k.pc)) := by
  show execLdx c d a s = _
  simp only [execLdx, h.instr, h.core, hcheck, hclean, done]

theorem ldx_loads (h : Fetched s c t k) (d : Fin 16) {u w : State} {v : Nat}
    (hcheck : atomCheck k c (k.reg a.val).toNat false = none) (hclean : t.cleanForLdx c (k.reg a.val).toNat = (none, u))
    (hread : u.directRead c (k.reg a.val).toNat .word = (.ok v, w)) : exec (.ldx c d a) s =
      .next (w.retire_ c (fun q => { q.setReg d.val (w32 v) with reserved := some ((k.reg a.val).toNat / 32) })) := by
  show execLdx c d a s = _
  simp only [execLdx, h.instr, h.core, hcheck, hclean, hread, done]

/-- The clean of an LDX's line that is not dirty drops it; G0 has no cache. -/
theorem cleanForLdx_clean (hk : t.core c = k) (hline : ∀ l, k.dline (x / 32) = some l → l.dirty = false) :
    ∃ m, t.cleanForLdx c x = (none, t.setCore c { k with dcache := m }) ∧
      (c ≠ .g0 → ({ k with dcache := m } : Core).dline (x / 32) = none) := by
  unfold State.cleanForLdx
  split
  next hc => exact ⟨k.dcache, by rw [← hk, setCore_core], fun hg0 => absurd hc hg0⟩
  next => exact ⟨_, cleanLine_drops hk hline, fun _ => (dline_eraseLine k _ _).trans (if_pos rfl)⟩

/-- What an LDX of a sound word leaves: the word, the reservation of its granule, and no line of the data cache. -/
theorem ldx_sound (h : Fetched s c t k) (d : Fin 16) {p : Nat} (hp : t.plainAt c 1 (k.reg a.val).toNat 4 p)
    (hreach : atomReach c (k.reg a.val).toNat) (hline : ∀ l, k.dline ((k.reg a.val).toNat / 32) = some l → l.dirty = false) :
    ∃ q : Core, exec (.ldx c d a) s = .next (t.setCore c q) ∧ q.reg d.val = BitVec.ofNat 32 (t.peek p 4) ∧
      (∀ r, r ≠ d.val → q.reg r = k.reg r) ∧ q.reserved = some ((k.reg a.val).toNat / 32) ∧ q.pc = k.pc + 4 ∧ q.flags = k.flags ∧
      q.status = k.status ∧ (c ≠ .g0 → q.dline ((k.reg a.val).toNat / 32) = none) := by
  obtain ⟨h4, hperm, hsound⟩ := hp
  rw [h.core] at hperm
  obtain ⟨m, hclean, hdropped⟩ := cleanForLdx_clean h.core hline
  have hread := directRead_sound (z := .word) ((soundAt_setCore t c c { k with dcache := m } _ p).mpr hsound)
    (by rw [powered_setCore, h.powered]) h4 (by decide)
  refine ⟨{ (({ k with dcache := m } : Core).setReg d.val (w32 (t.peek p 4))).retired k.pc with
    reserved := some ((k.reg a.val).toNat / 32) }, ?_, reg_setReg_same _ _ _, fun r hr => reg_setReg_ne k _ hr, rfl, rfl, rfl, rfl,
    hdropped⟩
  rw [ldx_loads h d (atomCheck_passes false h4 hreach hperm) hclean hread, retire_running _ _ (by rw [core_setCore]; exact h.run),
    setCore_setCore, core_setCore, peek_setCore]
  rfl

/-! ### STC -/

theorem stc_traps (h : Fetched s c t k) (d b : Fin 16) {e : Exc} (hcheck : atomCheck k c (k.reg a.val).toNat true = some e) :
    exec (.stc c d b a) s = .next (t.raiseExc c e) := by
  show execStc c d b a s = _
  simp only [execStc, h.instr, h.core, hcheck, done]

/-- An STC whose granule is not reserved stores nothing. -/
theorem stc_unreserved (h : Fetched s c t k) (d b : Fin 16) (hcheck : atomCheck k c (k.reg a.val).toNat true = none)
    (hres : k.reserved ≠ some ((k.reg a.val).toNat / 32)) :
    exec (.stc c d b a) s = .next (t.setCore c { (k.setReg d.val 1).retired k.pc with reserved := none }) := by
  show execStc c d b a s = _
  simp only [execStc, h.instr, h.core, hcheck, hres, if_false, h.retire]
  rfl

theorem stc_reserved (h : Fetched s c t k) (d b : Fin 16) {u : State} (hcheck : atomCheck k c (k.reg a.val).toNat true = none)
    (hres : k.reserved = some ((k.reg a.val).toNat / 32))
    (hwrite : t.directWrite c (k.reg a.val).toNat .word (k.reg b.val).toNat = (none, u)) (hu : u.core c = k) :
    exec (.stc c d b a) s = .next (u.setCore c { (k.setReg d.val 0).retired k.pc with reserved := none }) := by
  have hretire := retire_running u (fun q => { q.setReg d.val 0 with reserved := none }) (c := c) (by rw [hu, h.run])
  rw [hu] at hretire
  show execStc c d b a s = _
  simp only [execStc, h.instr, h.core, hcheck, hres, if_true, hwrite, hretire]
  rfl

/-- What an STC that holds the reservation leaves. -/
theorem stc_stores (h : Fetched s c t k) (d b : Fin 16) {p : Nat} (hp : t.plainAt c 2 (k.reg a.val).toNat 4 p)
    (hreach : atomReach c (k.reg a.val).toNat) (hres : k.reserved = some ((k.reg a.val).toNat / 32)) :
    ∃ u, exec (.stc c d b a) s = .next u ∧ u.peek p 4 = (k.reg b.val).toNat ∧ SameBytesBut t u p 4 ∧ u.regs = t.regs ∧
      u.core c = { (k.setReg d.val 0).retired k.pc with reserved := none } ∧
      ∀ e, e ≠ c → u.core e =
        if (t.core e).reserved = some (granuleOf (k.reg a.val).toNat p) then { t.core e with reserved := none } else t.core e := by
  obtain ⟨h4, hperm, hsound⟩ := hp
  rw [h.core] at hperm
  obtain ⟨r, x, hl⟩ := landsAt_of_soundAt hsound
  have hgranule := hl.granule
  have halign := hl.aligned
  have hsame : (x + 4 - 1) / 32 = x / 32 := by omega
  have hwrite := directWrite_landsAt (z := .word) (k.reg b.val).toNat hl h.powered h4 (by decide)
  refine ⟨_, stc_reserved h d b (atomCheck_passes true h4 hreach hperm) hres hwrite (by rw [core_storedAt, h.core]), ?_, fun q hq => ?_,
    ?_, core_setCore _ _ _, fun e he => ?_⟩
  · rw [peek_setCore]
    exact peek_storedAt.trans (Nat.mod_eq_of_lt (k.reg b.val).isLt)
  · rw [byteAt_congr (mem_setCore _ _ _)]
    exact sameBytesBut_storedAt q hq
  · rw [regs_setCore, regs_storedAt]
  · rw [core_setCore_ne _ _ he, hgranule]
    exact core_storedAt_ne he hsame

/-- Settles O10. That the MEMERR of a dirty line in error names the line's address, and that ATOM stands for the regions of R99 only, are
the model's choices (log entries 12 and 31). -/
theorem atomicInstructions : Obligations.AtomicInstructions := by
  intro s c d b a hf t k addr
  have h : Fetched s c t k := .of_fetches hf
  have haddr : w32 addr = k.reg a.val := w32_toNat_self _
  refine ⟨fun p hp hreach hline => ldx_sound h d hp hreach hline, fun l hc h4 hreach hperm hl hdirty herr => ?_,
    fun p hp hreach hres => stc_stores h d b hp hreach hres, fun p hp hreach hres => ?_, fun h4 => ⟨?_, ?_⟩, fun h4 hreach => ⟨?_, ?_⟩⟩
  · have hclean : t.cleanForLdx c addr = (some (.memory (32 * (addr / 32))), t) :=
      (if_neg hc).trans (cleanLine_fails h.core hl hdirty herr true)
    rw [ldx_memerr h d (atomCheck_passes false h4 hreach hperm) hclean, Nat.mul_comm]
    rfl
  · obtain ⟨h4, hperm, _⟩ := hp
    rw [h.core] at hperm
    exact stc_unreserved h d b (atomCheck_passes true h4 hreach hperm) hres
  · rw [ldx_traps h d (atomCheck_misaligned false h4), haddr]
    rfl
  · rw [stc_traps h d b (atomCheck_misaligned true h4), haddr]
    rfl
  · rw [ldx_traps h d (atomCheck_unreached false h4 hreach), haddr]
    rfl
  · rw [stc_traps h d b (atomCheck_unreached true h4 hreach), haddr]
    rfl

end Sys2Proof.Machine
end

section
/-! Loads and stores that hit the data cache, and the cache operations (spec/03 R73, R79, R91, R92), and the statement CachedAccesses. -/

namespace Sys2Proof.Machine

variable {s t : State} {c : CoreId} {k : Core} {d a : Nat} {imm : BitVec 18} {post : Bool} {z : Size} {x : Word} {l : CacheLine}

/-! ### Hits (R79, R91) -/

theorem regionOf_rom_range {y : Nat} (h : regionOf y = some .rom) : y ≤ 0x0001FFFF := by
  by_contra hout
  unfold regionOf at h
  rw [if_neg hout] at h
  repeat replace h := eq_some_of_ite h (by simp)
  cases h

theorem regionOf_xip_range {y : Nat} (h : regionOf y = some .xip) : 0x30000000 ≤ y ∧ y ≤ 0x3FFFFFFF := by
  by_contra hout
  unfold regionOf at h
  rw [if_neg hout] at h
  repeat replace h := eq_some_of_ite h (by simp)
  cases h

/-- Only addresses of SRAM, the boot ROM and the execute-in-place window are cacheable (R79). -/
theorem cacheable_lt {y : Nat} (h : t.cacheable c y = true) : y < 0x40000000 := by
  unfold State.cacheable at h
  simp only [Bool.and_eq_true] at h
  obtain ⟨⟨_, hreg⟩, _⟩ := h
  split at hreg
  next heq =>
    have hrange := regionOf_sram_range heq
    omega
  next heq =>
    have hrange := regionOf_rom_range heq
    omega
  next heq =>
    have hrange := regionOf_xip_range heq
    omega
  next => cases hreg

theorem fillLine_hit (hk : t.core c = k) {n : Nat} (hl : k.dline n = some l) (herr : l.err = false) : t.fillLine c n = (.ok l, t) := by
  unfold State.fillLine
  rw [hk, hl]
  simp [herr]

theorem fillLine_dirty_error (hk : t.core c = k) {n : Nat} (hl : k.dline n = some l) (herr : l.err = true) (hdirty : l.dirty = true) :
    t.fillLine c n = (.error (9, 0), t) := by
  unfold State.fillLine
  rw [hk, hl]
  simp [herr, hdirty]

theorem coreRead_hit {y : Nat} (hk : t.core c = k) (hcache : t.cacheable c y = true) (hl : k.dline (y / 32) = some l)
    (herr : l.err = false) (z : Size) : t.coreRead c y z = (.ok (ofLe ((l.bytes.drop (y % 32)).take z.bytes)), t) := by
  unfold State.coreRead
  rw [if_pos hcache, fillLine_hit hk hl herr]

theorem coreWrite_hit {y : Nat} (hk : t.core c = k) (hcache : t.cacheable c y = true) (hl : k.dline (y / 32) = some l)
    (herr : l.err = false) (z : Size) (v : Nat) : t.coreWrite c y z v = (.ok 0, t.setCore c (k.putLine (y / 32)
      { bytes := putBytes l.bytes (y % 32) (leBytes z.bytes v), dirty := true, err := false })) := by
  unfold State.coreWrite
  rw [if_pos hcache, fillLine_hit hk hl herr, ← setDline_eq hk]

theorem coreRead_dirty_error {y : Nat} (hk : t.core c = k) (hcache : t.cacheable c y = true) (hl : k.dline (y / 32) = some l)
    (herr : l.err = true) (hdirty : l.dirty = true) (z : Size) : t.coreRead c y z = (.err 9 0, t) := by
  unfold State.coreRead
  rw [if_pos hcache, fillLine_dirty_error hk hl herr hdirty]

theorem coreWrite_dirty_error {y : Nat} (hk : t.core c = k) (hcache : t.cacheable c y = true) (hl : k.dline (y / 32) = some l)
    (herr : l.err = true) (hdirty : l.dirty = true) (z : Size) (v : Nat) : t.coreWrite c y z v = (.err 9 0, t) := by
  unfold State.coreWrite
  rw [if_pos hcache, fillLine_dirty_error hk hl herr hdirty]

/-! ### Bytes put into a line -/

theorem length_putBytes {m b : List Byte} {o : Nat} (h : o + b.length ≤ m.length) : (putBytes m o b).length = m.length := by
  simp only [putBytes, List.length_append, List.length_take, List.length_drop]
  omega

/-- The bytes put read back. -/
theorem take_drop_putBytes {m b : List Byte} {o : Nat} (h : o ≤ m.length) : ((putBytes m o b).drop o).take b.length = b := by
  have htake : (m.take o).length = o := by rw [List.length_take]; omega
  rw [putBytes, List.append_assoc, List.drop_append_of_le_length (by omega), List.drop_eq_nil_of_le (by omega), List.nil_append,
    List.take_left]

/-- The other bytes of the line stay. -/
theorem getElem?_putBytes {m b : List Byte} {o j : Nat} (h : o + b.length ≤ m.length) (hj : ¬(o ≤ j ∧ j < o + b.length)) :
    (putBytes m o b)[j]? = m[j]? := by
  have htake : (m.take o).length = o := by rw [List.length_take]; omega
  by_cases hlow : j < o
  · rw [putBytes, List.append_assoc, List.getElem?_append_left (by omega), List.getElem?_take_of_lt hlow]
  · rw [putBytes, List.getElem?_append_right (by rw [List.length_append]; omega), List.getElem?_drop]
    congr 1
    rw [List.length_append]
    omega

/-! ### LDW and STW on a line of the data cache -/

theorem load_answered (h : Fetched s c t k) (ext : Nat → Word) (haddr : memAddr (k.reg a) imm false = x)
    (hcheck : dataCheck k c x.toNat z false = none) {v : Nat} (hread : t.coreRead c x.toNat z = (.ok v, t)) :
    s.load c d a imm false z ext = t.setCore c ((k.setReg d (ext v)).retired k.pc) := by
  simp only [State.load, h.instr, h.core, haddr, hcheck, hread, Bool.false_and, Bool.false_eq_true, if_false, h.retire]

theorem load_failed (h : Fetched s c t k) (ext : Nat → Word) (haddr : memAddr (k.reg a) imm false = x)
    (hcheck : dataCheck k c x.toNat z false = none) {vec kind : Nat} (hread : t.coreRead c x.toNat z = (.err vec kind, t)) :
    s.load c d a imm false z ext = t.raiseExc c { vec := vec, epc := k.pc, addr := x, cause := w32 (vec + kind * 256) } := by
  simp only [State.load, h.instr, h.core, haddr, hcheck, hread, Bool.false_and, Bool.false_eq_true, if_false, excAt_address]

theorem store_answered (h : Fetched s c t k) (haddr : memAddr (k.reg a) imm false = x)
    (hcheck : dataCheck k c x.toNat z true = none) {q : Core} {v : Nat}
    (hwrite : t.coreWrite c x.toNat z ((k.reg d).toNat % 2 ^ (8 * z.bytes)) = (.ok v, t.setCore c q)) (hrun : q.run = k.run)
    (hpc : q.pc = k.pc) : s.store c d a imm false z = t.setCore c (q.retired k.pc) := by
  have hretire := retire_running (t.setCore c q) (c := c) (fun q => q) (by rw [core_setCore, hrun, h.run])
  rw [core_setCore, setCore_setCore, hpc] at hretire
  simp only [State.store, h.instr, h.core, haddr, hcheck, hwrite, Bool.false_eq_true, if_false, hretire]
  rfl

theorem store_failed (h : Fetched s c t k) (haddr : memAddr (k.reg a) imm false = x)
    (hcheck : dataCheck k c x.toNat z true = none) {vec kind : Nat}
    (hwrite : t.coreWrite c x.toNat z ((k.reg d).toNat % 2 ^ (8 * z.bytes)) = (.err vec kind, t)) :
    s.store c d a imm false z = t.raiseExc c { vec := vec, epc := k.pc, addr := x, cause := w32 (vec + (C_WR + kind * 256)) } := by
  simp only [State.store, h.instr, h.core, haddr, hcheck, hwrite, excAt_address]

theorem cached_dataCheck {y : Word} (wr : Bool) (hcache : t.cacheable c y.toNat = true) (h4 : y.toNat % 4 = 0)
    (hperm : k.permits (if wr then 2 else 1) y.toNat = true) : dataCheck k c y.toNat .word wr = none := by
  have hlt := cacheable_lt hcache
  exact dataCheck_passes (z := .word) wr (.inl (by omega)) h4 hperm

/-- A load of a word that hits the data cache: gd takes the word of the line. -/
theorem ldw_hit (h : Fetched s c t k) (d a : Fin 16) (imm : BitVec 18) (haddr : k.reg a.val + imm.signExtend 32 = x)
    (h4 : x.toNat % 4 = 0) (hcache : t.cacheable c x.toNat = true) (hl : k.dline (x.toNat / 32) = some l) (herr : l.err = false)
    (hperm : k.permits 1 x.toNat = true) : exec (.ldw c d a imm) s =
      .next (t.setCore c ((k.setReg d.val (BitVec.ofNat 32 (ofLe ((l.bytes.drop (x.toNat % 32)).take 4)))).retired k.pc)) := by
  have hload := load_answered h (d := d.val) (imm := imm) w32 haddr (cached_dataCheck false hcache h4 hperm)
    (coreRead_hit h.core hcache hl herr .word)
  exact congrArg Host.Outcome.next hload

/-- A load or store of a word whose line is dirty with an error (R83). -/
theorem word_memerr (h : Fetched s c t k) (d a : Fin 16) (imm : BitVec 18) (haddr : k.reg a.val + imm.signExtend 32 = x)
    (h4 : x.toNat % 4 = 0) (hcache : t.cacheable c x.toNat = true) (hl : k.dline (x.toNat / 32) = some l) (herr : l.err = true)
    (hdirty : l.dirty = true) :
    (k.permits 1 x.toNat = true →
      exec (.ldw c d a imm) s = .next (t.raiseExc c { vec := 9, epc := k.pc, addr := x, cause := 9 })) ∧
    (k.permits 2 x.toNat = true →
      exec (.stw c d a imm) s = .next (t.raiseExc c { vec := 9, epc := k.pc, addr := x, cause := 0x4009 })) := by
  refine ⟨fun hperm => ?_, fun hperm => ?_⟩
  · have hload := load_failed h (d := d.val) (imm := imm) w32 haddr (cached_dataCheck false hcache h4 hperm)
      (coreRead_dirty_error h.core hcache hl herr hdirty .word)
    exact congrArg Host.Outcome.next hload
  · have hstore := store_failed h (d := d.val) (imm := imm) haddr (cached_dataCheck true hcache h4 hperm)
      (coreWrite_dirty_error h.core hcache hl herr hdirty .word _)
    exact congrArg Host.Outcome.next hstore

/-- A store of a word that hits the data cache: the line takes the bytes and is dirty. -/
theorem stw_hit (h : Fetched s c t k) (d a : Fin 16) (imm : BitVec 18) (haddr : k.reg a.val + imm.signExtend 32 = x)
    (h4 : x.toNat % 4 = 0) (hcache : t.cacheable c x.toNat = true) (hl : k.dline (x.toNat / 32) = some l) (herr : l.err = false)
    (hperm : k.permits 2 x.toNat = true) (hlen : l.bytes.length = 32) :
    ∃ (q : Core) (l' : CacheLine), exec (.stw c d a imm) s = .next (t.setCore c (q.retired k.pc)) ∧ q.g = k.g ∧ q.pc = k.pc ∧
      q.dline (x.toNat / 32) = some l' ∧ l'.dirty = true ∧ l'.err = false ∧ l'.bytes.length = 32 ∧
      ofLe ((l'.bytes.drop (x.toNat % 32)).take 4) = (k.reg d.val).toNat ∧
      (∀ j, j < 32 → ¬(x.toNat % 32 ≤ j ∧ j < x.toNat % 32 + 4) → l'.bytes[j]? = l.bytes[j]?) := by
  have hfit : x.toNat % 32 + (leBytes 4 (k.reg d.val).toNat).length ≤ l.bytes.length := by rw [length_leBytes]; omega
  have hv : (k.reg d.val).toNat % 2 ^ (8 * Size.word.bytes) = (k.reg d.val).toNat := Nat.mod_eq_of_lt (k.reg d.val).isLt
  have hwrite := coreWrite_hit h.core hcache hl herr .word (k.reg d.val).toNat
  rw [← hv] at hwrite
  have hstore := store_answered h (d := d.val) (imm := imm) haddr (cached_dataCheck true hcache h4 hperm) hwrite rfl rfl
  rw [hv] at hstore
  refine ⟨_, _, congrArg Host.Outcome.next hstore, rfl, rfl, (dline_putLine _ _ _ _).trans (if_pos rfl), rfl, rfl,
    (length_putBytes hfit).trans hlen, ?_, fun j _ hj => getElem?_putBytes hfit (by rw [length_leBytes]; exact hj)⟩
  have hback := take_drop_putBytes (m := l.bytes) (b := leBytes 4 (k.reg d.val).toNat) (o := x.toNat % 32) (by omega)
  rw [length_leBytes] at hback
  exact (congrArg ofLe hback).trans ((ofLe_leBytes _ _).trans (Nat.mod_eq_of_lt (k.reg d.val).isLt))

/-! ### The cache operations (R92) -/

theorem ctlWrite_cacheOp (t : State) (c : CoreId) {m : Nat} (hlo : 16 ≤ m) (hhi : m ≤ 22) (v : Word) :
    t.ctlWrite c m v = t.cacheOp c m v.toNat := by
  unfold State.ctlWrite
  dsimp only
  split
  any_goals omega
  rw [if_pos ⟨hlo, hhi⟩]

/-- A cache operation that meets no error and leaves core `q`. -/
theorem cacheOp_retires (h : Fetched s c t k) {m a : Nat} (hlo : 16 ≤ m) (hhi : m ≤ 22) (hmay : mayCtlWrite c k m) {u : State} {q : Core}
    (hop : t.cacheOp c m (k.reg a).toNat = (none, u.setCore c q)) (hrun : q.run = k.run) (hpc : q.pc = k.pc) :
    s.ctlWriteInstr c m a = u.setCore c (q.retired k.pc) := by
  have hwrite : t.ctlWrite c m (k.reg a) = (none, u.setCore c q) := (ctlWrite_cacheOp t c hlo hhi _).trans hop
  rw [ctlWriteInstr_done h ((ctlWrites_iff m).mpr (by omega)) hmay hwrite, retire_running _ _ (by rw [core_setCore, hrun]; exact h.run),
    setCore_setCore, core_setCore, hpc]
  rfl

/-- On G0, which has no caches, a cache operation has no effect. -/
theorem cacheOp_g0 (h : Fetched s .g0 t k) {m : Nat} (a : Nat) (hlo : 16 ≤ m) (hhi : m ≤ 22) (hmay : mayCtlWrite .g0 k m) :
    s.ctlWriteInstr .g0 m a = t.setCore .g0 (k.retired k.pc) := by
  refine cacheOp_retires h hlo hhi hmay ?_ rfl rfl
  rw [← h.core, setCore_core]
  unfold State.cacheOp
  exact if_pos rfl

theorem cacheOp_app (hc : c ≠ .g0) (hk : t.core c = k) (y : Nat) :
    t.cacheOp c 16 y = (none, t.setCore c { k with icache := smErase k.icache (y / 32) }) ∧
    t.cacheOp c 17 y = t.cleanLine c (y / 32) false ∧ t.cacheOp c 18 y = t.cleanLine c (y / 32) true ∧
    t.cacheOp c 19 y = (none, t.setCore c (k.eraseLine (y / 32))) ∧ t.cacheOp c 20 y = (none, t.setCore c { k with icache := [] }) ∧
    t.cacheOp c 21 y = t.cleanAll c ∧ t.cacheOp c 22 y = (none, t.setCore c { k with dcache := [] }) := by
  rw [← dropDline_eq hk, ← hk]
  exact ⟨if_neg hc, if_neg hc, if_neg hc, if_neg hc, if_neg hc, if_neg hc, if_neg hc⟩

/-! ### The whole data cache (R92) -/

theorem dline_foldl_eraseLine (k : Core) (ns : List Nat) (n : Nat) :
    (ns.foldl Core.eraseLine k).dline n = if n ∈ ns then none else k.dline n := by
  induction ns generalizing k with
  | nil => simp
  | cons m ns ih =>
    rw [List.foldl_cons, ih, dline_eraseLine]
    by_cases hn : n ∈ ns
    · simp [hn]
    · by_cases hm : n = m <;> simp [hn, hm]

theorem foldl_eraseLine_eq (k : Core) (ns : List Nat) : ∃ m, ns.foldl Core.eraseLine k = { k with dcache := m } := by
  induction ns generalizing k with
  | nil => exact ⟨k.dcache, rfl⟩
  | cons n ns ih =>
    obtain ⟨m, hm⟩ := ih (k.eraseLine n)
    exact ⟨m, hm⟩

/-- Where no line is dirty, DCCLINVALL drops every line and writes nothing back. -/
theorem cleanAll_clean (hk : t.core c = k) (h : ∀ e ∈ k.dcache, e.2.dirty = false) :
    t.cleanAll c = (none, t.setCore c ((k.dcache.map Prod.fst).foldl Core.eraseLine k)) ∧
      ∀ n, ((k.dcache.map Prod.fst).foldl Core.eraseLine k).dline n = none := by
  have hclean (n : Nat) (l : CacheLine) (hl : k.dline n = some l) : l.dirty = false := by
    obtain ⟨e, he, rfl⟩ := Option.map_eq_some_iff.mp hl
    exact h e (List.mem_of_find?_eq_some he)
  have hfold (ns : List Nat) (q : Core) (hq : ∀ n l, q.dline n = some l → l.dirty = false) :
      ns.foldl (fun (acc : Option CacheErr × State) n =>
        match acc.2.cleanLine c n true with
        | (e, t) => (acc.1.or e, t)) (none, t.setCore c q) = (none, t.setCore c (ns.foldl Core.eraseLine q)) := by
    induction ns generalizing q with
    | nil => rfl
    | cons n ns ih =>
      have hstep := cleanLine_drops (t := t.setCore c q) (core_setCore t c q) (hq n)
      rw [setCore_setCore] at hstep
      rw [List.foldl_cons, List.foldl_cons, ← ih (q.eraseLine n)]
      · simp only [hstep, Option.or_none]
      · intro m l hl
        rw [dline_eraseLine] at hl
        split at hl
        · cases hl
        · exact hq m l hl
  refine ⟨?_, fun n => ?_⟩
  · have hall := hfold (k.dcache.map Prod.fst) k hclean
    rw [← hk, setCore_core, hk] at hall
    unfold State.cleanAll
    rw [hk]
    exact hall
  · rw [dline_foldl_eraseLine]
    split
    · rfl
    next hn =>
      simp only [List.mem_map, not_exists, not_and] at hn
      simpa [Core.dline] using fun a l hmem hal => hn (a, l) hmem hal

/-! ### The cache operations of an application core -/

/-- A write-back followed by the change of core `c` to `q`. -/
theorem cacheOp_wrote (h : Fetched s c t k) {m a p : Nat} (hlo : 16 ≤ m) (hhi : m ≤ 22) (hmay : mayCtlWrite c k m) {u : State} {q : Core}
    {b : List Byte} (hu : BytesStored t u c p b) (hb : b.length = 32)
    (hop : t.cacheOp c m (k.reg a).toNat = (none, u.setCore c q)) (hq : q.g = k.g) (hrun : q.run = k.run) (hpc : q.pc = k.pc) :
    ∃ w, s.ctlWriteInstr c m a = w ∧ (∀ (j : Nat) (x : Byte), b[j]? = some x → w.byteAt (p + j) = x) ∧ SameBytesBut t w p 32 ∧
      w.regs = t.regs ∧ (w.core c).g = k.g ∧ (w.core c).pc = k.pc + 4 ∧ w.core c = q.retired k.pc := by
  obtain ⟨hbytes, hframe⟩ := hu.bytes
  rw [hb] at hframe
  refine ⟨_, cacheOp_retires h hlo hhi hmay hop hrun hpc, fun j x hx => ?_, fun r hr => ?_, ?_, ?_, ?_, core_setCore _ _ _⟩
  · rw [byteAt_congr (mem_setCore _ _ _), hbytes j x hx]
  · rw [byteAt_congr (mem_setCore _ _ _), hframe r hr]
  · rw [regs_setCore, hu.regs]
  · rw [core_setCore]
    exact hq
  · rw [core_setCore]
    rfl

/-- DCCLEAN (17) and DCCLINV (18) of a sound dirty line of SRAM. -/
theorem cleanOp_writes (h : Fetched s c t k) {a p : Nat} (hc : c ≠ .g0) (hl : k.dline ((k.reg a).toNat / 32) = some l)
    (hdirty : l.dirty = true) (herr : l.err = false) (hlen : l.bytes.length = 32) (hlo : 0x10000000 ≤ 32 * ((k.reg a).toNat / 32))
    (hhi : 32 * ((k.reg a).toNat / 32) ≤ 0x107FFFFF) (hp : t.physOf .sram false (32 * ((k.reg a).toNat / 32)) = some p) (drop : Bool) :
    ∃ w, s.ctlWriteInstr c (if drop then 18 else 17) a = w ∧
      (∀ (j : Nat) (x : Byte), l.bytes[j]? = some x → w.byteAt (p + j) = x) ∧ SameBytesBut t w p 32 ∧ w.regs = t.regs ∧
      (w.core c).g = k.g ∧ (w.core c).pc = k.pc + 4 ∧
      (w.core c).dline ((k.reg a).toNat / 32) = if drop then none else some { l with dirty := false } := by
  obtain ⟨u, hu, hstored⟩ := writeLine_stores hc hlen hlo hhi hp
  have hcore : u.core c = k := hstored.core.trans h.core
  have hclean := cleanLine_writes h.core hl hdirty herr hu drop
  obtain ⟨_, hop17, hop18, _⟩ := cacheOp_app hc h.core (k.reg a).toNat
  cases drop with
  | false =>
    rw [if_neg Bool.false_ne_true, setDline_eq hcore] at hclean
    obtain ⟨w, hw, hbytes, hframe, hregs, hg, hpc, hq⟩ := cacheOp_wrote h (m := 17) (a := a) (by decide) (by decide) (.inl rfl) hstored hlen
      (hop17.trans hclean) rfl rfl rfl
    refine ⟨w, hw, hbytes, hframe, hregs, hg, hpc, ?_⟩
    rw [hq]
    exact (dline_putLine _ _ _ _).trans (if_pos rfl)
  | true =>
    rw [if_pos rfl, dropDline_eq hcore] at hclean
    obtain ⟨w, hw, hbytes, hframe, hregs, hg, hpc, hq⟩ := cacheOp_wrote h (m := 18) (a := a) (by decide) (by decide) (.inl rfl) hstored hlen
      (hop18.trans hclean) rfl rfl rfl
    refine ⟨w, hw, hbytes, hframe, hregs, hg, hpc, ?_⟩
    rw [hq]
    exact (dline_eraseLine _ _ _).trans (if_pos rfl)

/-- The operations that Task level, and on G0 Host level, may not use. -/
theorem exec_guardedOp {a : Fin 16} {i : Instr} (hi : i ∈ [Instr.dcinv c a, .icinvall c a, .dcclinvall c a, .dcinvall c a]) :
    ∃ m, 19 ≤ m ∧ m ≤ 22 ∧ exec i s = .next (s.ctlWriteInstr c m a.val) := by
  simp only [List.mem_cons, List.not_mem_nil, or_false] at hi
  obtain rfl | rfl | rfl | rfl := hi
  · exact ⟨19, by decide, by decide, rfl⟩
  · exact ⟨20, by decide, by decide, rfl⟩
  · exact ⟨21, by decide, by decide, rfl⟩
  · exact ⟨22, by decide, by decide, rfl⟩

theorem exec_taskOp {a : Fin 16} {i : Instr} (hi : i ∈ [Instr.icinv c a, .dcclean c a, .dcclinv c a]) :
    ∃ m, 16 ≤ m ∧ m ≤ 18 ∧ exec i s = .next (s.ctlWriteInstr c m a.val) := by
  simp only [List.mem_cons, List.not_mem_nil, or_false] at hi
  obtain rfl | rfl | rfl := hi
  · exact ⟨16, by decide, by decide, rfl⟩
  · exact ⟨17, by decide, by decide, rfl⟩
  · exact ⟨18, by decide, by decide, rfl⟩

/-- The operations of an application core that every level may use, where they write nothing back. -/
theorem taskOps_app (h : Fetched s c t k) (hc : c ≠ .g0) (a : Fin 16) :
    (∃ q : Core, exec (.icinv c a) s = .next (t.setCore c q) ∧ q.g = k.g ∧ q.pc = k.pc + 4 ∧ q.flags = k.flags ∧ q.status = k.status ∧
      q.iline ((k.reg a.val).toNat / 32) = none ∧ q.dcache = k.dcache) ∧
    ((∀ l, k.dline ((k.reg a.val).toNat / 32) = some l → l.dirty = false ∧ l.err = false) →
      ∃ q : Core, exec (.dcclean c a) s = .next (t.setCore c q) ∧ q.g = k.g ∧ q.pc = k.pc + 4 ∧ q.flags = k.flags ∧
        q.status = k.status ∧ ∀ n, q.dline n = k.dline n) ∧
    ((∀ l, k.dline ((k.reg a.val).toNat / 32) = some l → l.dirty = false) →
      ∃ q : Core, exec (.dcclinv c a) s = .next (t.setCore c q) ∧ q.g = k.g ∧ q.pc = k.pc + 4 ∧ q.flags = k.flags ∧
        q.status = k.status ∧ q.dline ((k.reg a.val).toNat / 32) = none) := by
  obtain ⟨hop16, hop17, hop18, _⟩ := cacheOp_app hc h.core (k.reg a.val).toNat
  refine ⟨?_, fun hline => ?_, fun hline => ?_⟩
  · refine ⟨_, congrArg Host.Outcome.next (cacheOp_retires h (a := a.val) (by decide) (by decide) (.inl rfl) hop16 rfl rfl), rfl, rfl, rfl,
      rfl, ?_, rfl⟩
    simp [Core.iline, Core.retired, find?_smErase]
  · obtain ⟨q, hq, ⟨m, rfl⟩, hsame⟩ := cleanLine_keeps h.core hline
    exact ⟨_, congrArg Host.Outcome.next (cacheOp_retires h (a := a.val) (by decide) (by decide) (.inl rfl) (hop17.trans hq) rfl rfl), rfl,
      rfl, rfl, rfl, hsame⟩
  · exact ⟨_, congrArg Host.Outcome.next (cacheOp_retires h (a := a.val) (by decide) (by decide) (.inl rfl)
      (hop18.trans (cleanLine_drops h.core hline)) rfl rfl), rfl, rfl, rfl, rfl, (dline_eraseLine _ _ _).trans (if_pos rfl)⟩

/-- The other operations, at Host and Guard level. -/
theorem guardedOps_app (h : Fetched s c t k) (hc : c ≠ .g0) (hlvl : k.lvl ≠ 0) (a : Fin 16) :
    (∃ q : Core, exec (.dcinv c a) s = .next (t.setCore c q) ∧ q.g = k.g ∧ q.pc = k.pc + 4 ∧ q.flags = k.flags ∧ q.status = k.status ∧
      q.dline ((k.reg a.val).toNat / 32) = none ∧ q.icache = k.icache) ∧
    (∃ q : Core, exec (.icinvall c a) s = .next (t.setCore c q) ∧ q.g = k.g ∧ q.pc = k.pc + 4 ∧ q.flags = k.flags ∧ q.status = k.status ∧
      q.icache = [] ∧ q.dcache = k.dcache) ∧
    (∃ q : Core, exec (.dcinvall c a) s = .next (t.setCore c q) ∧ q.g = k.g ∧ q.pc = k.pc + 4 ∧ q.flags = k.flags ∧ q.status = k.status ∧
      q.dcache = [] ∧ q.icache = k.icache) ∧
    ((∀ e ∈ k.dcache, e.2.dirty = false) →
      ∃ q : Core, exec (.dcclinvall c a) s = .next (t.setCore c q) ∧ q.g = k.g ∧ q.pc = k.pc + 4 ∧ q.flags = k.flags ∧
        q.status = k.status ∧ ∀ n, q.dline n = none) := by
  have hmay (m : Nat) : mayCtlWrite c k m := .inr ⟨hlvl, fun hg0 => absurd hg0 hc⟩
  obtain ⟨_, _, _, hop19, hop20, hop21, hop22⟩ := cacheOp_app hc h.core (k.reg a.val).toNat
  refine ⟨?_, ?_, ?_, fun hclean => ?_⟩
  · exact ⟨_, congrArg Host.Outcome.next (cacheOp_retires h (a := a.val) (by decide) (by decide) (hmay _) hop19 rfl rfl), rfl, rfl, rfl, rfl,
      (dline_eraseLine _ _ _).trans (if_pos rfl), rfl⟩
  · exact ⟨_, congrArg Host.Outcome.next (cacheOp_retires h (a := a.val) (by decide) (by decide) (hmay _) hop20 rfl rfl), rfl, rfl, rfl, rfl,
      rfl, rfl⟩
  · exact ⟨_, congrArg Host.Outcome.next (cacheOp_retires h (a := a.val) (by decide) (by decide) (hmay _) hop22 rfl rfl), rfl, rfl, rfl, rfl,
      rfl, rfl⟩
  · obtain ⟨hall, hempty⟩ := cleanAll_clean h.core hclean
    obtain ⟨m, hm⟩ := foldl_eraseLine_eq k (k.dcache.map Prod.fst)
    rw [hm] at hall hempty
    exact ⟨_, congrArg Host.Outcome.next (cacheOp_retires h (a := a.val) (by decide) (by decide) (hmay _) (hop21.trans hall) rfl rfl), rfl,
      rfl, rfl, rfl, hempty⟩

/-- Settles O12: hits read and write the line, and each cache operation is one of the rules above. That a dirty line in error stays is the
model's choice (log entry 12). -/
theorem cachedAccesses : Obligations.CachedAccesses := by
  intro s c d a imm hf t k y line gives memerr priv
  have h : Fetched s c t k := .of_fetches hf
  obtain ⟨x, hx⟩ : ∃ x, k.reg a.val + imm.signExtend 32 = x := ⟨_, rfl⟩
  have hy : y = x.toNat := congrArg BitVec.toNat hx
  have hofNat : BitVec.ofNat 32 y = x := by rw [hy]; exact w32_toNat_self x
  refine ⟨fun l h4 hcache hl herr hperm => ?_, fun l h4 hcache hl herr hperm hlen => ?_, fun l h4 hcache hl herr hdirty => ?_,
    fun hc => ?_, fun hc i hi => ?_, fun i hi => ⟨fun hlvl => ?_, fun hc hlvl => ?_⟩⟩
  · rw [hy] at h4 hcache hl hperm ⊢
    exact ldw_hit h d a imm hx h4 hcache hl herr hperm
  · rw [hy] at h4 hcache hl hperm ⊢
    exact stw_hit h d a imm hx h4 hcache hl herr hperm hlen
  · dsimp only [memerr]
    rw [hofNat]
    rw [hy] at h4 hcache hl ⊢
    exact word_memerr h d a imm hx h4 hcache hl herr hdirty
  · obtain ⟨hicinv, hclean, hclinv⟩ := taskOps_app h hc a
    refine ⟨hicinv, hclean, hclinv, ?_, fun hlvl => guardedOps_app h hc hlvl a⟩
    intro l p hl hdirty herr hlen hlo hhi hp writes
    have hwrites := cleanOp_writes h hc hl hdirty herr hlen hlo hhi hp
    obtain ⟨u, hu, hkept⟩ := hwrites false
    obtain ⟨w, hw, hdropped⟩ := hwrites true
    exact ⟨⟨u, congrArg Host.Outcome.next hu, hkept⟩, ⟨w, congrArg Host.Outcome.next hw, hdropped⟩⟩
  · subst hc
    obtain ⟨m, hlo, hhi, hexec⟩ := exec_taskOp (s := s) hi
    rw [hexec, cacheOp_g0 h a.val hlo (by omega) (.inl ((ctlTaskWrites_iff m).mpr (by omega)))]
  · obtain ⟨m, hlo, hhi, hexec⟩ := exec_guardedOp (s := s) hi
    have htask : ctlTaskWrites m = false := Bool.eq_false_iff.mpr fun htask => by
      have hnums := (ctlTaskWrites_iff m).mp htask
      omega
    rw [hexec, ctlWriteInstr_refused h a.val ((ctlWrites_iff m).mpr (by omega)) htask hlvl]
  · subst hc
    obtain ⟨m, hlo, hhi, hexec⟩ := exec_guardedOp (s := s) hi
    rw [hexec, cacheOp_g0 h a.val (by omega) hhi (.inr ⟨by omega, fun _ => by omega⟩)]

end Sys2Proof.Machine
end

section
/-! Events, imprecise errors and wake-ups of the cores (spec/03 R86 to R90; spec/04 R130), and the statement EventsAndWakes. -/

namespace Sys2Proof.Machine

variable {s : State} {c : CoreId} {k : Core}

/-! ### Wake-ups (R90, R130) -/

theorem leaveDoze_awake (h : s.pwr ≠ .doze) : s.leaveDoze = s := if_neg h

/-- Leaving Doze writes PWR_STAT and no core. -/
theorem leaveDoze_spec (s : State) : s.leaveDoze.pwr = (if s.pwr = .doze then .run else s.pwr) ∧ SameRegsBut s s.leaveDoze [PWR_STAT] ∧
    s.leaveDoze.mem = s.mem ∧ ∀ e, s.leaveDoze.core e = s.core e := by
  unfold State.leaveDoze
  split
  · refine ⟨rfl, fun a ha => ?_, rfl, fun e => by cases e <;> rfl⟩
    rw [rg_setFld_ne _ _ _ _ (List.ne_of_not_mem_cons ha)]
    rfl
  · exact ⟨rfl, fun _ _ => rfl, rfl, fun _ => rfl⟩

/-- What the end of a stopped instruction leaves: the core runs on, Doze ends, and nothing else changes. -/
theorem wakeCore_spec (hk : s.core c = k) (f : Core → Core) : (s.wakeCore c f).core c = { f k with run := .running, pc := k.pc + 4 } ∧
    (s.wakeCore c f).pwr = (if s.pwr = .doze then .run else s.pwr) ∧ SameRegsBut s (s.wakeCore c f) [PWR_STAT] ∧
    (s.wakeCore c f).mem = s.mem ∧ ∀ e, e ≠ c → (s.wakeCore c f).core e = s.core e := by
  obtain ⟨hpwr, hregs, hmem, hcore⟩ := leaveDoze_spec (s.setCore c { f (s.core c) with run := .running, pc := (s.core c).pc + 4 })
  rw [pwr_setCore] at hpwr
  rw [mem_setCore] at hmem
  refine ⟨?_, hpwr, fun a ha => (hregs a ha).trans (rg_setCore s c _ a), hmem, fun e he => ?_⟩
  · rw [← hk]
    exact (hcore c).trans (core_setCore s c _)
  · exact (hcore e).trans (core_setCore_ne s _ he)

theorem idleWake_wakes (hpow : s.powered = true) (hk : s.core c = k) (hrun : k.run = .idle) (hline : s.line c.num = true) :
    exec (.idleWake c) s = .next (s.wakeCore c (fun q => q)) := by
  show execIdleWake c s = _
  unfold execIdleWake
  rw [if_pos (by rw [hk, hrun, hpow, hline]; rfl)]
  rfl

theorem beatWake_wbeat {d b : Nat} (hk : s.core c = k) (hrun : k.run = .wbeat d (some b)) :
    s.beatWake c = s.wakeCore c (fun q => q.setReg d (w32 b)) := by
  unfold State.beatWake
  rw [hk, hrun]

theorem beatWake_wbeatn {d n b : Nat} (hk : s.core c = k) (hrun : k.run = .wbeatn d n (some b)) :
    s.beatWake c = s.wakeCore c (fun q => q.setReg d (w32 b)) := by
  unfold State.beatWake
  rw [hk, hrun]

/-- No WBEAT or WBEATN has ended in core `k`. -/
def Core.noBeatEnd (k : Core) : Prop := (∀ d b, k.run ≠ .wbeat d (some b)) ∧ ∀ d n b, k.run ≠ .wbeatn d n (some b)

theorem beatWake_none (hk : s.core c = k) (h : k.noBeatEnd) : s.beatWake c = s := by
  obtain ⟨hbeat, hbeatn⟩ := h
  unfold State.beatWake
  rw [hk]
  split
  next d b hrun => exact absurd hrun (hbeat d b)
  next d n b hrun => exact absurd hrun (hbeatn d n b)
  next => rfl

theorem exec_wbeatWake (hpow : s.powered = true) (hk : s.core c = k) {d : Nat} {b : Option Nat} (hrun : k.run = .wbeat d b) :
    exec (.wbeatWake c) s = .next (s.beatWake c) := by
  show execWbeatWake c s = _
  unfold execWbeatWake
  rw [hk, hrun]
  exact congrArg Host.Outcome.next (if_pos hpow)

theorem exec_wbeatnWake (hpow : s.powered = true) (hk : s.core c = k) {d n : Nat} {b : Option Nat} (hrun : k.run = .wbeatn d n b) :
    exec (.wbeatnWake c) s = .next (s.beatWake c) := by
  show execWbeatnWake c s = _
  unfold execWbeatnWake
  rw [hk, hrun]
  exact congrArg Host.Outcome.next (if_pos hpow)

/-! ### Events (R86, R87, R90) -/

/-- A core resumes at its own pc unless IDLE stopped it. -/
theorem resumeAt_of_ne_idle (h : k.run ≠ .idle) : k.resumeAt = k.pc := if_neg h

/-- EVENT_ENTRY where an event is due and no imprecise error comes first. -/
theorem eventEntry_enters {w : Nat} (hpow : s.powered = true) (hk : s.core c = k) (hend : k.noBeatEnd) (hawake : s.pwr ≠ .doze)
    (hie : k.ie = true) (hline : s.line c.num = true) (himp : k.impDue = false) (hstand : k.interruptible = true)
    (hw : s.vectorAt c 32 w) : exec (.eventEntry c) s = .next (s.setCore c (k.entered c k.resumeAt 0 0x80000020 w)) := by
  have hdue : s.eventDue c = true := by
    unfold State.eventDue
    rw [hk]
    simp only [hpow, hstand, hie, hline, Bool.and_self]
  have hvec : V_EVENT < 64 := by decide
  show execEventEntry c s = _
  simp only [execEventEntry, beatWake_none hk hend, hk, hdue, himp, Bool.not_true, Bool.or_self, Bool.false_eq_true, if_false, done]
  rw [enter_vectorAt hpow hvec hw, hk, leaveDoze_awake (by rw [pwr_setCore]; exact hawake)]
  rfl

theorem eventEntry_masked (hk : s.core c = k) (hend : k.noBeatEnd) (h : k.ie = false ∨ s.line c.num = false) :
    exec (.eventEntry c) s = .next s := by
  have hdue : s.eventDue c = false := by
    unfold State.eventDue
    rw [hk]
    obtain hie | hline := h
    · simp only [hie, Bool.and_false, Bool.false_and]
    · simp only [hline, Bool.and_false]
  show execEventEntry c s = _
  simp only [execEventEntry, beatWake_none hk hend, hdue, Bool.not_false, Bool.true_or, if_true, done]

/-! ### Imprecise errors (R88, R89) -/

theorem impreciseBuserr_held {e : StoreError} {l : List StoreError} (hk : s.core c = k) (herrs : k.storeErrs = e :: l)
    (hheld : k.heldErr = none) : exec (.impreciseBuserr c) s =
      .next (s.setCore c { k with storeErrs := l, heldErr := some e, ecause := k.ecause ||| 0x1000 }) := by
  show execImpreciseBuserr c s = _
  simp only [execImpreciseBuserr, hk, herrs, hheld]
  rfl

theorem impreciseBuserr_lost {e f : StoreError} {l : List StoreError} (hk : s.core c = k) (herrs : k.storeErrs = e :: l)
    (hheld : k.heldErr = some f) : exec (.impreciseBuserr c) s =
      .next (s.setCore c { k with storeErrs := l, lostErr := true, ecause := k.ecause ||| 0x8000 }) := by
  show execImpreciseBuserr c s = _
  simp only [execImpreciseBuserr, hk, herrs, hheld]
  rfl

/-- A core's vector table stays where it is while its other registers change. -/
theorem vectorAt_setCore {q : Core} {n w : Nat} (hvbase : q.vbase = (s.core c).vbase) (hbase : q.rgnBase = (s.core c).rgnBase)
    (hcfg : q.rgnCfg = (s.core c).rgnCfg) (h : s.vectorAt c n w) : (s.setCore c q).vectorAt c n w := by
  obtain ⟨p, halign, hsound, hcache, hw⟩ := h
  refine ⟨p, ?_, ?_, ?_, ?_⟩
  · rw [core_setCore, hvbase, halign]
  · rw [core_setCore, hvbase, soundAt_setCore]
    exact hsound
  · rw [core_setCore, hvbase, cacheable_setCore hbase hcfg, hcache]
  · rw [peek_setCore, hw]

theorem impreciseTake_enters {e : StoreError} {w : Nat} (hpow : s.powered = true) (hk : s.core c = k) (hawake : s.pwr ≠ .doze)
    (hheld : k.heldErr = some e) (hrun : k.run = .running) (hexc : k.exc = false) (hw : s.vectorAt c 5 w) :
    exec (.impreciseBuserrTake c) s = .next (s.setCore c ({ k with heldErr := none, lostErr := false }.entered c k.pc
      (BitVec.ofNat 32 e.addr) (BitVec.ofNat 32 (0x5005 + 256 * e.kind + if k.lostErr then 0x8000 else 0)) w)) := by
  have hend : k.noBeatEnd := by simp [Core.noBeatEnd, hrun]
  have hbound : s.impBoundary c = true := by
    unfold State.impBoundary State.runs
    rw [hk, hrun, hpow]
    rfl
  have hdue : k.impDue = true := by simp [Core.impDue, hheld, hexc]
  have hresume : k.resumeAt = k.pc := resumeAt_of_ne_idle (by simp [hrun])
  have hcause : w32 (V_BUSERR + (C_WR + C_IMP + e.kind * 256 + if k.lostErr then C_MULTI else 0)) =
      BitVec.ofNat 32 (0x5005 + 256 * e.kind + if k.lostErr then 0x8000 else 0) := by
    unfold w32 V_BUSERR C_WR C_IMP C_MULTI
    congr 1
    omega
  have hvec : V_BUSERR < 64 := by decide
  have hwq : (s.setCore c { k with heldErr := none, lostErr := false }).vectorAt c V_BUSERR w :=
    vectorAt_setCore (by rw [hk]) (by rw [hk]) (by rw [hk]) hw
  have henter := enter_vectorAt (e := excAt k.pc V_BUSERR (w32 e.addr) (C_WR + C_IMP + e.kind * 256 + if k.lostErr then C_MULTI else 0))
    (by rw [powered_setCore, hpow]) hvec hwq
  rw [core_setCore, setCore_setCore] at henter
  show execImpreciseBuserrTake c s = _
  simp only [execImpreciseBuserrTake, beatWake_none hk hend, hk, hheld, hbound, hdue, hresume, henter, Bool.and_self, if_true, done]
  rw [leaveDoze_awake (by rw [pwr_setCore]; exact hawake), excAt, hcause]
  rfl

/-- Settles O18: each clause is one of the rules above. That IMP and MULTI are set as an error arrives, and where an imprecise error is
taken, are the model's readings (log entry 31). -/
theorem eventsAndWakes : Obligations.EventsAndWakes := by
  intro s c hpow k wakes
  have hk : s.core c = k := rfl
  refine ⟨?_, fun hmask hbeat hbeatn => eventEntry_masked hk ⟨hbeat, hbeatn⟩ hmask,
    fun e l => impreciseBuserr_held hk, fun e l f => impreciseBuserr_lost hk,
    fun e w hawake hheld hrun hexc hw => impreciseTake_enters hpow hk hawake hheld hrun hexc hw, fun hrun hline => ?_, fun d b hrun => ?_,
    fun d n b hrun => ?_, fun d n => ⟨fun hrun => ?_, fun hrun => ?_⟩⟩
  · intro w hawake hie hline himp hw enters
    have henter (hend : k.noBeatEnd) (hstand : k.interruptible = true) : enters k.resumeAt :=
      eventEntry_enters hpow hk hend hawake hie hline himp hstand hw
    have hself (hend : k.noBeatEnd) (hstand : k.interruptible = true) (hne : k.run ≠ .idle) : enters k.pc :=
      resumeAt_of_ne_idle hne ▸ henter hend hstand
    refine ⟨fun hrun => ?_, fun hrun => ?_, fun d n hrun => ?_⟩
    · exact hself (by simp [Core.noBeatEnd, hrun]) (by simp [Core.interruptible, hrun]) (by simp [hrun])
    · have hresume : k.resumeAt = k.pc + 4 := by simp [Core.resumeAt, hrun]
      exact hresume ▸ henter (by simp [Core.noBeatEnd, hrun]) (by simp [Core.interruptible, hrun])
    · obtain hrun | hrun | hrun := hrun <;>
        exact hself (by simp [Core.noBeatEnd, hrun]) (by simp [Core.interruptible, hrun]) (by simp [hrun])
  · exact ⟨_, idleWake_wakes hpow hk hrun hline, wakeCore_spec hk _⟩
  · exact ⟨_, (exec_wbeatWake hpow hk hrun).trans (congrArg Host.Outcome.next (beatWake_wbeat hk hrun)), wakeCore_spec hk _⟩
  · exact ⟨_, (exec_wbeatnWake hpow hk hrun).trans (congrArg Host.Outcome.next (beatWake_wbeatn hk hrun)), wakeCore_spec hk _⟩
  · rw [exec_wbeatWake hpow hk hrun, beatWake_none hk (by simp [Core.noBeatEnd, hrun])]
  · rw [exec_wbeatnWake hpow hk hrun, beatWake_none hk (by simp [Core.noBeatEnd, hrun])]

end Sys2Proof.Machine
end

section
/-! The words of the cores' instructions (spec/04 R104 to R124): what the fields of an encoded word read as, that every group decodes what it
encodes, and the statement EncodeDecode. -/

namespace Sys2Proof

/-! ### The fields of an encoded word (R105) -/

/-- What a word in the R format reads as. -/
structure RFields (w : Word) (op : Nat) (d a b : Fin 16) (f : Bool) (fn : Nat) : Prop where
  opcode : wordField w 26 6 = op
  regD : fieldD w = d
  regS : fieldS w = a
  regT : fieldT w = b
  flag : fieldF w = f
  fnc : fieldFn w = fn
  zero : wordField w 6 7 = 0

/-- What a word in the I format reads as; its immediate is `imm`. -/
structure IFields (w : Word) (op : Nat) (d a : Fin 16) (imm : Nat) : Prop where
  opcode : wordField w 26 6 = op
  regD : fieldD w = d
  regS : fieldS w = a
  imm18 : fieldImm18 w = BitVec.ofNat 18 imm
  shift : w.toNat % 32 = imm % 32
  shiftRest : wordField w 5 13 = imm / 32
  ctl : w.toNat % 64 = imm % 64
  ctlRest : wordField w 6 12 = imm / 64

theorem rFields_wordR {op d a b fn : Nat} {f : Bool} (hop : op < 64) (hd : d < 16) (ha : a < 16) (hb : b < 16) (hfn : fn < 64) :
    RFields (wordR op d a b f fn) op ⟨d, hd⟩ ⟨a, ha⟩ ⟨b, hb⟩ f fn := by
  have hf := f.toNat_le
  have hw : (wordR op d a b f fn).toNat = op * 2 ^ 26 + d * 2 ^ 22 + a * 2 ^ 18 + b * 2 ^ 14 + f.toNat * 2 ^ 13 + fn := by
    rw [wordR, BitVec.toNat_ofNat]
    omega
  have hflag : wordField (wordR op d a b f fn) 13 1 = f.toNat := by
    rw [wordField, hw]
    omega
  constructor
  case regD | regS | regT =>
    apply Fin.ext
    simp only [regField, hw]
    omega
  case flag =>
    rw [fieldF, hflag]
    cases f <;> rfl
  case opcode | fnc | zero =>
    simp only [wordField, hw]
    omega

theorem iFields_wordI {op d a imm : Nat} (hop : op < 64) (hd : d < 16) (ha : a < 16) (himm : imm < 2 ^ 18) :
    IFields (wordI op d a imm) op ⟨d, hd⟩ ⟨a, ha⟩ imm := by
  have hw : (wordI op d a imm).toNat = op * 2 ^ 26 + d * 2 ^ 22 + a * 2 ^ 18 + imm := by
    rw [wordI, BitVec.toNat_ofNat]
    omega
  constructor
  case regD | regS =>
    apply Fin.ext
    simp only [regField, hw]
    omega
  case imm18 =>
    apply BitVec.eq_of_toNat_eq
    rw [BitVec.toNat_ofNat, BitVec.toNat_ofNat, hw]
    omega
  case shift | ctl =>
    rw [hw]
    omega
  case opcode | shiftRest | ctlRest =>
    rw [wordField, hw]
    omega

variable {i : Instr} {c e : CoreId} {w : Word}

theorem rFields_of_encoded {op d a b fn : Nat} {f : Bool} (h : some (e, wordR op d a b f fn) = some (c, w))
    (hop : op < 64) (hd : d < 16) (ha : a < 16) (hb : b < 16) (hfn : fn < 64) :
    e = c ∧ RFields w op ⟨d, hd⟩ ⟨a, ha⟩ ⟨b, hb⟩ f fn := by
  cases h
  exact ⟨rfl, rFields_wordR hop hd ha hb hfn⟩

theorem iFields_of_encoded {op d a imm : Nat} (h : some (e, wordI op d a imm) = some (c, w))
    (hop : op < 64) (hd : d < 16) (ha : a < 16) (himm : imm < 2 ^ 18) : e = c ∧ IFields w op ⟨d, hd⟩ ⟨a, ha⟩ imm := by
  cases h
  exact ⟨rfl, iFields_wordI hop hd ha himm⟩

theorem uFields_of_encoded {op d : Nat} {imm : BitVec 22} (h : some (e, wordU op d imm.toNat) = some (c, w)) (hop : op < 64)
    (hd : d < 16) : e = c ∧ wordField w 26 6 = op ∧ fieldD w = ⟨d, hd⟩ ∧ fieldImm22 w = imm := by
  have himm := imm.isLt
  have hw : (wordU op d imm.toNat).toNat = op * 2 ^ 26 + d * 2 ^ 22 + imm.toNat := by
    rw [wordU, BitVec.toNat_ofNat]
    omega
  cases h
  refine ⟨rfl, ?_, Fin.ext ?_, BitVec.eq_of_toNat_eq ?_⟩
  · rw [wordField, hw]
    omega
  · simp only [regField, hw]
    omega
  · rw [BitVec.toNat_ofNat, hw]
    omega

theorem jFields_of_encoded {op : Nat} {off : BitVec 26} (h : some (e, wordJ op off.toNat) = some (c, w)) (hop : op < 64) :
    e = c ∧ wordField w 26 6 = op ∧ fieldOff26 w = off := by
  have hoff := off.isLt
  have hw : (wordJ op off.toNat).toNat = op * 2 ^ 26 + off.toNat := by
    rw [wordJ, BitVec.toNat_ofNat]
    omega
  cases h
  refine ⟨rfl, ?_, BitVec.eq_of_toNat_eq ?_⟩
  · rw [wordField, hw]
    omega
  · rw [BitVec.toNat_ofNat, hw]
    omega

/-! ### Decoding what was encoded -/

/-- A write of a control register that is no cache operation. -/
theorem decodeCtlw_plain {n : Fin 64} {a : Fin 16} (hwf : (Instr.ctlw c n a).wellFormed = true) : decodeCtlw c n a = .ctlw c n a := by
  have hplain : ¬(16 ≤ n.val ∧ n.val ≤ 22) := of_decide_eq_false (Bool.not_eq_eq_eq_not.mp hwf)
  unfold decodeCtlw
  split
  any_goals omega
  rfl

/-- The word of an instruction decodes to it, group by group of the encoding tables. -/
theorem decode_encode (hwf : i.wellFormed = true) (h : encodeRyux i = some (c, w)) : decodeRyux c w = some i.dropPick := by
  cases i with
  -- the R format
  | add | sub | adc | sbc | andR | orR | xorR | andn | shl | shr | sar | ror | slt | sltu | min | max | minu | maxu | adds | subs
  | addus | subus | clz | cmp | padd | psub | padds | psubs | paddus | psubus | pmulq | pdot | mul | mulh | mulhu | mac | div | divu
  | rem | remu | jr | callr | ldx | stc | eret | brk | trap | fence | idle | done | post | wbeat =>
    obtain ⟨rfl, hw⟩ := rFields_of_encoded h (by omega) (by omega) (by omega) (by omega) (by omega)
    rw [decodeRyux, hw.opcode]
    delta rFormat decodeInteger decodePair decodeMulDiv decodeJumpReg decodeAtomic decodeSystem decodeBeat
    rw [hw.zero, hw.fnc, hw.regD, hw.regS, hw.regT, hw.flag]
    rfl
  -- a register pair starts at an even register
  | take | slot | wbeatn =>
    obtain ⟨rfl, hw⟩ := rFields_of_encoded h (by omega) (by omega) (by omega) (by omega) (by omega)
    rw [decodeRyux, hw.opcode]
    delta rFormat decodeBeat
    rw [hw.zero, hw.fnc, hw.regD, hw.regS, hw.regT, hw.flag]
    exact if_pos hwf
  -- the I format
  | addi | slti | sltiu | andi | ori | xori | cmpi | ldb | ldbu | ldh | ldhu | ldw | stb | sth | stw | ldbp | ldbup | ldhp | ldhup
  | ldwp | stbp | sthp | stwp | beq | bne | blt | bge | bltu | bgeu =>
    obtain ⟨rfl, hw⟩ := iFields_of_encoded h (by omega) (by omega) (by omega) (by omega)
    rw [decodeRyux, hw.opcode, hw.regD, hw.regS, hw.imm18, BitVec.ofNat_toNat, BitVec.setWidth_eq]
    rfl
  -- condition 15 is reserved
  | bc =>
    obtain ⟨rfl, hw⟩ := iFields_of_encoded h (by omega) (by omega) (by omega) (by omega)
    rw [decodeRyux, hw.opcode, hw.regD, hw.regS, hw.imm18, BitVec.ofNat_toNat, BitVec.setWidth_eq]
    exact if_pos hwf
  | shli _ _ _ n | shri _ _ _ n | sari _ _ _ n =>
    obtain ⟨rfl, hw⟩ := iFields_of_encoded h (by omega) (by omega) (by omega) (by omega)
    simp only [decodeRyux, hw.opcode, hw.regD, hw.regS, hw.shift, hw.shiftRest, Nat.mod_eq_of_lt n.isLt, Nat.div_eq_of_lt n.isLt]
    rfl
  | ctlr _ _ n =>
    obtain ⟨rfl, hw⟩ := iFields_of_encoded h (by omega) (by omega) (by omega) (by omega)
    simp only [decodeRyux, hw.opcode, hw.regD, hw.regS, hw.ctl, hw.ctlRest, Nat.mod_eq_of_lt n.isLt, Nat.div_eq_of_lt n.isLt]
    rfl
  -- a write of c16 to c22 is a cache operation
  | icinv | dcclean | dcclinv | dcinv | icinvall | dcclinvall | dcinvall =>
    obtain ⟨rfl, hw⟩ := iFields_of_encoded h (by omega) (by omega) (by omega) (by omega)
    simp only [decodeRyux, hw.opcode, hw.regD, hw.regS, hw.ctl, hw.ctlRest]
    rfl
  | ctlw _ n =>
    obtain ⟨rfl, hw⟩ := iFields_of_encoded h (by omega) (by omega) (by omega) (by omega)
    simp only [decodeRyux, hw.opcode, hw.regD, hw.regS, hw.ctl, hw.ctlRest, Nat.mod_eq_of_lt n.isLt, Nat.div_eq_of_lt n.isLt]
    exact congrArg some (decodeCtlw_plain hwf)
  -- the U and J formats
  | li | lui =>
    obtain ⟨rfl, hop, hd, himm⟩ := uFields_of_encoded h (by omega) (by omega)
    rw [decodeRyux, hop, hd, himm]
    rfl
  | j | call =>
    obtain ⟨rfl, hop, hoff⟩ := jFields_of_encoded h (by omega)
    rw [decodeRyux, hop, hoff]
    rfl
  -- every other command is no instruction
  | _ => cases h

/-- Settles O60: an encoded word decodes to its instruction, and a well-formed undefined word is by definition one without decoding. -/
theorem encodeDecode : Obligations.EncodeDecode := fun _ _ _ => ⟨decode_encode, Option.isNone_iff_eq_none⟩

end Sys2Proof
end

section
/-! How the integer instructions retire (spec/04 R109 to R115): the shared operations and the flags that they write. -/

namespace Sys2Proof.Machine

variable {s t : State} {c : CoreId} {k : Core} {d a b : Nat} {f : Bool}

/-! ### The flags (R110, R111) -/

theorem bitOf_setNZ (w r : Word) {i : Nat} (hi : i < 32) :
    bitOf (setNZ w r) i = if i = 30 then r == 0 else if i = 31 then r.msb else bitOf w i := by
  rw [setNZ, bitOf_withBit _ _ _ _ hi, bitOf_withBit _ _ _ _ hi]

/-- A flag that takes the value computed for it, if one is. -/
def writeFlag (w : Word) (n : Nat) (o : Option Bool) : Word := o.elim w (withBit w n)

theorem bitOf_writeFlag (w : Word) (n : Nat) (o : Option Bool) {i : Nat} (hi : i < 32) :
    bitOf (writeFlag w n o) i = if i = n then o.getD (bitOf w n) else bitOf w i := by
  cases o with
  | none =>
    split
    next h => rw [h]; rfl
    · rfl
  | some b => exact bitOf_withBit w n i b hi

theorem aluFlags_eq (r : Alu) (w : Word) : r.flags w = writeFlag (writeFlag (setNZ w r.r) 29 r.c) 28 r.v := by
  obtain ⟨r, c, v⟩ := r
  cases c <;> cases v <;> rfl

theorem bitOf_aluFlags (r : Alu) (w : Word) {i : Nat} (hi : i < 32) : bitOf (r.flags w) i =
    if i = 28 then r.v.getD (bitOf w 28) else if i = 29 then r.c.getD (bitOf w 29)
    else if i = 30 then r.r == 0 else if i = 31 then r.r.msb else bitOf w i := by
  simp [aluFlags_eq, bitOf_writeFlag, bitOf_setNZ, hi]

/-- The flags that an operation writes where F is 1 are those of its result (R110). -/
theorem aluFlags_flags (f : Bool) (r : Alu) (w : Word) : AluFlags f w (if f then r.flags w else w) r.r r.c r.v := by
  cases f with
  | false => rfl
  | true =>
    refine ⟨bitOf_aluFlags r w (by decide), bitOf_aluFlags r w (by decide), bitOf_aluFlags r w (by decide),
      bitOf_aluFlags r w (by decide), fun i hi => ?_⟩
    rw [if_pos rfl, bitOf_aluFlags r w (by omega), if_neg (by omega), if_neg (by omega), if_neg (by omega), if_neg (by omega)]

/-- Q is sticky, and no other flag moves (R111). -/
theorem satFlags_flags (r : Sat) (w : Word) : SatFlags w (r.flags w) r.q := by
  obtain ⟨r, q⟩ := r
  cases q with
  | false => exact ⟨(Bool.or_false _).symm, fun _ _ _ => rfl⟩
  | true =>
    refine ⟨?_, fun i hi hne => ?_⟩
    · rw [Bool.or_true]
      exact (bitOf_withBit w 27 27 true (by decide)).trans (if_pos rfl)
    · exact (bitOf_withBit w 27 i true hi).trans (if_neg hne)

/-! ### The shared operations -/

theorem aluOp_retires (h : Fetched s c t k) {op : Word → Word → Word → Alu} {r : Word} {cf vf : Option Bool}
    (hr : op k.flags (k.reg a) (k.reg b) = ⟨r, cf, vf⟩) : ∃ w, AluFlags f k.flags w r cf vf ∧
      done (s.aluOp c d a b f op) = .next (t.setCore c { (k.setReg d r).retired k.pc with flags := w }) := by
  refine ⟨if f then Alu.flags ⟨r, cf, vf⟩ k.flags else k.flags, aluFlags_flags f ⟨r, cf, vf⟩ k.flags, ?_⟩
  rw [State.aluOp, h.instr, h.retire, hr]
  rfl

theorem cmpOp_retires (h : Fetched s c t k) {op : Core → Alu} {r : Word} {cf vf : Option Bool} (hr : op k = ⟨r, cf, vf⟩) :
    ∃ w, AluFlags true k.flags w r cf vf ∧ done (s.cmpOp c op) = .next (t.setCore c { k.retired k.pc with flags := w }) := by
  refine ⟨Alu.flags ⟨r, cf, vf⟩ k.flags, aluFlags_flags true ⟨r, cf, vf⟩ k.flags, ?_⟩
  rw [State.cmpOp, h.instr, h.retire, hr]
  rfl

theorem satOp_retires (h : Fetched s c t k) {op : Word → Word → Sat} {r : Word} {q : Bool} (hr : op (k.reg a) (k.reg b) = ⟨r, q⟩) :
    ∃ w, SatFlags k.flags w q ∧
      done (s.satOp c d a b op) = .next (t.setCore c { (k.setReg d r).retired k.pc with flags := w }) := by
  refine ⟨Sat.flags ⟨r, q⟩ k.flags, satFlags_flags ⟨r, q⟩ k.flags, ?_⟩
  rw [State.satOp, h.instr, h.retire, hr]
  rfl

theorem plainOp_retires (h : Fetched s c t k) {op : Word → Word → Word} {r : Word} (hr : op (k.reg a) (k.reg b) = r) :
    done (s.plainOp c d a b op) = .next (t.setCore c ((k.setReg d r).retired k.pc)) := by
  rw [State.plainOp, h.instr, h.retire, hr, done]

theorem immOp_retires (h : Fetched s c t k) {op : Word → Word} {r : Word} (hr : op (k.reg a) = r) :
    done (s.immOp c d a op) = .next (t.setCore c ((k.setReg d r).retired k.pc)) := by
  rw [State.immOp, h.instr, h.retire, hr, done]

end Sys2Proof.Machine
end

section
/-! Sums and differences (spec/04 R109, R110, R112), and the statement AddSubtractCompare. -/

namespace Sys2Proof.Machine

/-- An addition with carry: C is the carry out of bit 31, and V says that the signed sum is out of range. -/
theorem addCarry_eq (x y : Word) (cin : Bool) : addCarry x y cin =
    { r := x + y + (if cin then 1 else 0), c := some (decide (2 ^ 32 ≤ x.toNat + y.toNat + cin.toNat))
      v := some (decide (x.toInt + y.toInt + cin.toNat < -2 ^ 31 ∨ 2 ^ 31 ≤ x.toInt + y.toInt + cin.toNat)) } := by
  have hr : w32 (x.toNat + y.toNat + cin.toNat) = x + y + (if cin then 1 else 0) := by
    apply BitVec.eq_of_toNat_eq
    cases cin <;> simp [w32]
  have hv : (x.msb == y.msb && (w32 (x.toNat + y.toNat + cin.toNat)).msb != x.msb) =
      decide (x.toInt + y.toInt + cin.toNat < -2 ^ 31 ∨ 2 ^ 31 ≤ x.toInt + y.toInt + cin.toNat) := by
    have hx := x.isLt
    have hy := y.isLt
    have hc := cin.toNat_le
    rw [Bool.eq_iff_iff]
    simp only [BitVec.msb_eq_decide, BitVec.toInt_eq_toNat_cond, w32, BitVec.toNat_ofNat, Bool.and_eq_true, beq_iff_eq, bne_iff_ne,
      ne_eq, decide_eq_decide, decide_eq_true_eq]
    split <;> split <;> omega
  rw [addCarry, hv, hr]
  rfl

theorem toInt_not (y : Word) : (~~~y).toInt = -y.toInt - 1 := by
  have hy := y.isLt
  rw [BitVec.toInt_eq_toNat_cond, BitVec.toInt_eq_toNat_cond, BitVec.toNat_not]
  split <;> split <;> omega

/-- The addition of a complement: C is 1 where the subtraction borrows nothing. -/
theorem addCarry_not (x y : Word) (cin : Bool) : addCarry x (~~~y) cin =
    { r := x - y - 1 + (if cin then 1 else 0), c := some (decide (y.toNat + 1 ≤ x.toNat + cin.toNat))
      v := some (decide (x.toInt - y.toInt - (1 - cin.toNat) < -2 ^ 31 ∨ 2 ^ 31 ≤ x.toInt - y.toInt - (1 - cin.toNat))) } := by
  have hy := y.isLt
  have hr : x + ~~~y = x - y - 1 := by
    rw [BitVec.not_eq_neg_add, BitVec.sub_eq_add_neg x y]
    exact (add_sub_assoc x (-y) 1).symm
  have hc : 2 ^ 32 ≤ x.toNat + (~~~y).toNat + cin.toNat ↔ y.toNat + 1 ≤ x.toNat + cin.toNat := by
    rw [BitVec.toNat_not]
    omega
  have hv : x.toInt + (~~~y).toInt + cin.toNat = x.toInt - y.toInt - (1 - cin.toNat) := by
    rw [toInt_not]
    omega
  simp only [addCarry_eq, hr, hc, hv]

theorem add_eq (x y : Word) : addCarry x y false =
    { r := x + y, c := some (decide (2 ^ 32 ≤ x.toNat + y.toNat)), v := some (x.saddOverflow y) } := by
  simp [addCarry_eq, BitVec.saddOverflow, or_comm]

theorem subBorrow_eq (x y : Word) : subBorrow x y =
    { r := x - y, c := some (decide (y.toNat ≤ x.toNat)), v := some (x.ssubOverflow y) } := by
  simp [subBorrow, addCarry_not, BitVec.ssubOverflow, or_comm]

/-- Settles O1: each instruction retires with its sum or difference as computed above. -/
theorem addSubtractCompare : Obligations.AddSubtractCompare := by
  intro s c d a b f imm hf t k x y z cy w sum dif
  have h : Fetched s c t k := .of_fetches hf
  have hcy : (flagC k.flags).toNat = cy := by
    simp only [cy, flagC]
    cases bitOf k.flags 29 <;> rfl
  have hadc : addCarry x y (flagC k.flags) =
      ⟨x + y + w, some (decide (2 ^ 32 ≤ x.toNat + y.toNat + cy)), some (decide (sum < -2 ^ 31 ∨ 2 ^ 31 ≤ sum))⟩ := by
    rw [addCarry_eq, hcy]
    rfl
  have hsbc : addCarry x (~~~y) (flagC k.flags) =
      ⟨x - y - 1 + w, some (decide (y.toNat + 1 ≤ x.toNat + cy)), some (decide (dif < -2 ^ 31 ∨ 2 ^ 31 ≤ dif))⟩ := by
    rw [addCarry_not, hcy]
    rfl
  exact ⟨aluOp_retires h (add_eq x y), aluOp_retires h (subBorrow_eq x y), aluOp_retires h hadc, aluOp_retires h hsbc,
    cmpOp_retires h (subBorrow_eq x y), cmpOp_retires h (subBorrow_eq x z)⟩

end Sys2Proof.Machine
end

section
/-! Logic, shifts, comparisons and selections (spec/04 R109, R110, R112), and the statements LogicInstructions, ShiftInstructions and
CompareAndSelect. -/

namespace Sys2Proof.Machine

/-- Settles O2: the results are bitwise, and the flags are those of an operation that computes neither C nor V. -/
theorem logicInstructions : Obligations.LogicInstructions := by
  intro s c d a b f imm u hf t k x y gives
  have h : Fetched s c t k := .of_fetches hf
  exact ⟨aluOp_retires h rfl, aluOp_retires h rfl, aluOp_retires h rfl, aluOp_retires h rfl, immOp_retires h rfl, immOp_retires h rfl,
    immOp_retires h rfl, immOp_retires h rfl, immOp_retires h rfl, immOp_retires h rfl⟩

/-- Settles O3: the amount is the low five bits of gt, and C is given but for amount 0. -/
theorem shiftInstructions : Obligations.ShiftInstructions := by
  intro s c d a b f m hf t k x n out gives givesF
  have h : Fetched s c t k := .of_fetches hf
  exact ⟨aluOp_retires h rfl, aluOp_retires h rfl, aluOp_retires h rfl, aluOp_retires h rfl, immOp_retires h rfl, immOp_retires h rfl,
    immOp_retires h rfl⟩

/-! ### Comparisons and selections -/

theorem boolWord_slt (x y : Word) : boolWord (x.slt y) = if x.toInt < y.toInt then 1 else 0 := by
  simp [boolWord, BitVec.slt_eq_decide]

theorem boolWord_ult (x y : Word) : boolWord (x.ult y) = if x.toNat < y.toNat then 1 else 0 := by
  simp [boolWord, BitVec.ult_eq_decide]

/-- Where equal keys mean equal values, a selection by the strict comparison is one by the weak comparison. -/
theorem select_lt_eq_le {α : Type} [LinearOrder α] {key : Word → α} (hkey : Function.Injective key) {p q : Word → Word → Word}
    (hpq : ∀ z, p z z = q z z) (x y : Word) :
    (if decide (key x < key y) then p x y else q x y) = if key x ≤ key y then p x y else q x y := by
  obtain hlt | heq | hgt := lt_trichotomy (key x) (key y)
  · simp [hlt, hlt.le]
  · obtain rfl := hkey heq
    simp [hpq]
  · simp [hgt.not_gt, hgt.not_ge]

/-! ### Leading zeros -/

/-- The count is the place of the first 1 from the top, or 32. -/
theorem clzOf_eq_findIdx (x : Word) : clzOf x = (List.range 32).findIdx (fun i => bitOf x (31 - i)) := by
  have hle : (List.range 32).findIdx (fun i => bitOf x (31 - i)) ≤ (List.range 32).length := List.findIdx_le_length
  simp only [clzOf, List.takeWhile_eq_take_findIdx_not, Bool.not_not, List.length_take, Nat.min_eq_left hle]

theorem clzOf_le (x : Word) : clzOf x ≤ 32 := by
  rw [clzOf_eq_findIdx]
  exact List.findIdx_le_length

/-- The bits above the count are 0. -/
theorem toNat_lt_of_clzOf (x : Word) : x.toNat < 2 ^ (32 - clzOf x) := by
  have hle := clzOf_le x
  refine Nat.lt_pow_two_of_testBit _ fun i hi => ?_
  by_cases h32 : i < 32
  · have hlt : 31 - i < (List.range 32).findIdx (fun i => bitOf x (31 - i)) := by
      rw [← clzOf_eq_findIdx]
      omega
    have hbit := List.not_of_lt_findIdx hlt
    rw [List.getElem_range, show 31 - (31 - i) = i by omega] at hbit
    exact hbit
  · exact BitVec.getLsbD_of_ge x i (by omega)

/-- The bit at the count is 1. -/
theorem pow_le_of_clzOf (x : Word) (h : clzOf x < 32) : 2 ^ (31 - clzOf x) ≤ x.toNat := by
  have hlt : (List.range 32).findIdx (fun i => bitOf x (31 - i)) < (List.range 32).length := by
    rwa [← clzOf_eq_findIdx, List.length_range]
  have hbit := List.findIdx_getElem (w := hlt)
  rw [List.getElem_range, ← clzOf_eq_findIdx] at hbit
  exact Nat.ge_two_pow_of_testBit hbit

/-- Settles O4: each instruction retires with its comparison, its selection, or its count of leading zeros. -/
theorem compareAndSelect : Obligations.CompareAndSelect := by
  intro s c d a b imm hf t k x y z gives
  have h : Fetched s c t k := .of_fetches hf
  have hint : Function.Injective (BitVec.toInt : Word → Int) := fun _ _ => BitVec.toInt_inj.mp
  have hnat : Function.Injective (BitVec.toNat : Word → Nat) := fun _ _ => BitVec.eq_of_toNat_eq
  exact ⟨plainOp_retires h (boolWord_slt x y), plainOp_retires h (boolWord_ult x y), immOp_retires h (boolWord_slt x z),
    immOp_retires h (boolWord_ult x z), plainOp_retires h (select_lt_eq_le hint (p := fun x _ => x) (q := fun _ y => y) (fun _ => rfl) x y),
    plainOp_retires h (select_lt_eq_le hint (p := fun _ y => y) (q := fun x _ => x) (fun _ => rfl) x y),
    plainOp_retires h (select_lt_eq_le hnat (p := fun x _ => x) (q := fun _ y => y) (fun _ => rfl) x y),
    plainOp_retires h (select_lt_eq_le hnat (p := fun _ y => y) (q := fun x _ => x) (fun _ => rfl) x y),
    clzOf x, immOp_retires h rfl, clzOf_le x, toNat_lt_of_clzOf x, pow_le_of_clzOf x⟩

end Sys2Proof.Machine
end

section
/-! Saturation, the 16-bit lanes, products and divisions (spec/04 R111, R113 to R115), and the statements SaturatingInstructions, PairSimd
and MultiplyDivide. -/

namespace Sys2Proof.Machine

variable {s t : State} {c : CoreId} {k : Core} {d a b : Nat}

/-! ### Clamping (R111) -/

theorem clampI_eq {lo hi : Int} (h : lo ≤ hi) (v : Int) : clampI lo hi v = max lo (min hi v) := by
  unfold clampI
  split
  · omega
  · split <;> omega

/-- A value is clamped where it lies outside the range. -/
theorem clampI_ne_self {lo hi : Int} (h : lo ≤ hi) (v : Int) : (clampI lo hi v != v) = decide (v < lo ∨ hi < v) := by
  rw [clampI_eq h, Bool.eq_iff_iff, bne_iff_ne, decide_eq_true_iff]
  omega

theorem sat32_eq (v : Int) : sat32 v = ⟨BitVec.ofInt 32 (max (-2 ^ 31) (min (2 ^ 31 - 1) v)), decide (v < -2 ^ 31 ∨ 2 ^ 31 - 1 < v)⟩ := by
  have h : (-2 ^ 31 : Int) ≤ 2 ^ 31 - 1 := by decide
  rw [← clampI_eq h, ← clampI_ne_self h]
  rfl

theorem satU32_eq (v : Int) : satU32 v = ⟨BitVec.ofInt 32 (max 0 (min (2 ^ 32 - 1) v)), decide (v < 0 ∨ 2 ^ 32 - 1 < v)⟩ := by
  have h : (0 : Int) ≤ 2 ^ 32 - 1 := by decide
  rw [← clampI_eq h, ← clampI_ne_self h]
  rfl

/-- Settles O5: each instruction retires with its clamped sum or difference. -/
theorem saturatingInstructions : Obligations.SaturatingInstructions := by
  intro s c d a b hf t k x y clamp clamps
  have h : Fetched s c t k := .of_fetches hf
  exact ⟨satOp_retires h (sat32_eq _), satOp_retires h (sat32_eq _), satOp_retires h (satU32_eq _), satOp_retires h (satU32_eq _)⟩

/-! ### Lanes (R113) -/

theorem joinLanes_eq (lo hi : Nat) : joinLanes lo hi = (BitVec.ofNat 16 hi ++ BitVec.ofNat 16 lo : BitVec 32) := by
  apply BitVec.eq_of_toNat_eq
  rw [BitVec.toNat_append, BitVec.toNat_ofNat, BitVec.toNat_ofNat, joinLanes, w32_toNat, ← Nat.shiftLeft_add_eq_or_of_lt (by omega),
    Nat.shiftLeft_eq]
  omega

theorem loLane_eq (x : Word) : loLane x = (x.setWidth 16).toNat := by simp [loLane, fieldOf]

theorem hiLane_eq (x : Word) : hiLane x = ((x >>> 16).setWidth 16).toNat := by simp [hiLane, fieldOf]

/-- A lane read as a signed number. -/
theorem signed_toNat (l : BitVec 16) : signed 16 l.toNat = l.toInt := by
  have hl := l.isLt
  rw [signed, Nat.mod_eq_of_lt hl, BitVec.toInt_eq_toNat_cond]
  split <;> split <;> omega

theorem lanes_eq {g : Nat → Nat → Nat} {op : BitVec 16 → BitVec 16 → BitVec 16}
    (hop : ∀ l m : BitVec 16, BitVec.ofNat 16 (g l.toNat m.toNat) = op l m) (x y : Word) : lanes g x y =
    (op ((x >>> 16).setWidth 16) ((y >>> 16).setWidth 16) ++ op (x.setWidth 16) (y.setWidth 16) : BitVec 32) := by
  rw [lanes, joinLanes_eq, loLane_eq, loLane_eq, hiLane_eq, hiLane_eq, hop, hop]

theorem ofNat_toNat_emod (v : Int) : BitVec.ofNat 16 (v % 65536).toNat = BitVec.ofInt 16 v := by
  apply BitVec.eq_of_toNat_eq
  rw [BitVec.toNat_ofNat, BitVec.toNat_ofInt]
  omega

theorem clampLane_eq {l u : Int} (hlu : l ≤ u) (v : Int) : (BitVec.ofNat 16 (clampLane l u v).1, (clampLane l u v).2) =
    (BitVec.ofInt 16 (max l (min u v)), decide (v < l ∨ u < v)) := by
  rw [← clampI_eq hlu, ← clampI_ne_self hlu, ← ofNat_toNat_emod]
  rfl

/-- A saturating operation on lanes that `read` reads as `val` does. -/
theorem satLanes_eq {l u : Int} (hlu : l ≤ u) {read : Nat → Int} {val : BitVec 16 → Int} (hread : ∀ m : BitVec 16, read m.toNat = val m)
    (g : Int → Int → Int) (x y : Word) {v w : Int} (hv : g (val (x.setWidth 16)) (val (y.setWidth 16)) = v)
    (hw : g (val ((x >>> 16).setWidth 16)) (val ((y >>> 16).setWidth 16)) = w) : satLanes l u read g x y =
    ⟨(BitVec.ofInt 16 (max l (min u w)) ++ BitVec.ofInt 16 (max l (min u v)) : BitVec 32), decide (v < l ∨ u < v ∨ w < l ∨ u < w)⟩ := by
  obtain ⟨hrv, hqv⟩ := Prod.ext_iff.mp (clampLane_eq hlu v)
  obtain ⟨hrw, hqw⟩ := Prod.ext_iff.mp (clampLane_eq hlu w)
  simp only at hrv hqv hrw hqw
  simp only [satLanes, loLane_eq, hiLane_eq, hread, hv, hw, joinLanes_eq, hrv, hqv, hrw, hqw, ← Bool.decide_or, or_assoc]

/-- The exact sum of PDOT, over the lanes as signed numbers. -/
theorem dotSum_eq (acc x y : Word) : dotSum acc x y = acc.toInt + (x.setWidth 16).toInt * (y.setWidth 16).toInt +
    ((x >>> 16).setWidth 16).toInt * ((y >>> 16).setWidth 16).toInt := by
  simp only [dotSum, loLane_eq, hiLane_eq, signed_toNat]

/-- Settles O6: each lane is computed on its own. -/
theorem pairSimd : Obligations.PairSimd := by
  intro s c d a b hf t k x y lo hi join plain sat dot
  have h : Fetched s c t k := .of_fetches hf
  have hsigned (g : Int → Int → Int) {v w : Int} (hv : g (lo x).toInt (lo y).toInt = v) (hw : g (hi x).toInt (hi y).toInt = w) :
      satS16 g x y = ⟨join (BitVec.ofInt 16 (max (-32768) (min 32767 w))) (BitVec.ofInt 16 (max (-32768) (min 32767 v))),
        decide (v < -32768 ∨ 32767 < v ∨ w < -32768 ∨ 32767 < w)⟩ :=
    satLanes_eq (by decide) signed_toNat g x y hv hw
  have hunsigned (g : Int → Int → Int) {v w : Int} (hv : g (lo x).toNat (lo y).toNat = v) (hw : g (hi x).toNat (hi y).toNat = w) :
      satU16 g x y = ⟨join (BitVec.ofInt 16 (max 0 (min 65535 w))) (BitVec.ofInt 16 (max 0 (min 65535 v))),
        decide (v < 0 ∨ 65535 < v ∨ w < 0 ∨ 65535 < w)⟩ :=
    satLanes_eq (val := fun m => m.toNat) (by decide) (fun _ => rfl) g x y hv hw
  refine ⟨plainOp_retires h (lanes_eq (fun l m => ?_) x y), plainOp_retires h (lanes_eq (fun l m => ?_) x y),
    satOp_retires h (hsigned _ rfl rfl), satOp_retires h (hsigned _ rfl rfl), satOp_retires h (hunsigned _ rfl rfl),
    satOp_retires h (hunsigned _ rfl rfl), satOp_retires h (hsigned _ rfl rfl), ?_⟩
  · rw [BitVec.ofNat_add, BitVec.ofNat_toNat, BitVec.ofNat_toNat, BitVec.setWidth_eq, BitVec.setWidth_eq]
  · apply BitVec.eq_of_toNat_eq
    rw [BitVec.toNat_ofNat, BitVec.toNat_sub]
    omega
  · refine ⟨(sat32 dot).flags k.flags, ?_, ?_⟩
    · have hflags := satFlags_flags (sat32 dot) k.flags
      rwa [sat32_eq dot] at hflags ⊢
    · have hdot : dotSum (k.reg d.val) x y = dot := dotSum_eq _ _ _
      show execPdot c d a b s = _
      rw [execPdot, h.instr, h.retire, hdot, sat32_eq]
      rfl

/-! ### Products and divisions (R114, R115) -/

theorem mul_eq (x y : Word) : x * y = BitVec.ofNat 32 (x.toNat * y.toNat) := by
  apply BitVec.eq_of_toNat_eq
  rw [BitVec.toNat_mul, BitVec.toNat_ofNat]

theorem divOp_retires (h : Fetched s c t k) (hy : k.reg b ≠ 0) (op : Word → Word → Word) :
    done (s.divOp c d a b op) = .next (t.setCore c ((k.setReg d (op (k.reg a) (k.reg b))).retired k.pc)) := by
  simp only [State.divOp, h.instr, h.core, if_neg hy, h.retire, done]

theorem divOp_zero (h : Fetched s c t k) (hy : k.reg b = 0) (op : Word → Word → Word) :
    done (s.divOp c d a b op) = .next (t.raiseExc c { vec := 8, epc := k.pc, addr := 0, cause := 8 }) := by
  simp only [State.divOp, h.instr, h.core, if_pos hy, done]
  rfl

/-- Settles O7: a division by 0 raises DIVZ, and every other instruction retires with its result. -/
theorem multiplyDivide : Obligations.MultiplyDivide := by
  intro s c d a b hf t k x y gives divz
  have h : Fetched s c t k := .of_fetches hf
  refine ⟨plainOp_retires h (mul_eq x y), plainOp_retires h rfl, plainOp_retires h rfl, ?_, fun hy => ?_, fun hy => ?_⟩
  · show execMac c d a b s = _
    rw [execMac, h.instr, h.retire, mul_eq]
    rfl
  · exact ⟨divOp_retires h hy _, divOp_retires h hy _, divOp_retires h hy _, divOp_retires h hy _⟩
  · exact ⟨divOp_zero h hy _, divOp_zero h hy _, divOp_zero h hy _, divOp_zero h hy _⟩

end Sys2Proof.Machine
end

section
/-! Branches and jumps (spec/04 R118 to R120), and the statement BranchesAndJumps. -/

namespace Sys2Proof.Machine

variable {s t : State} {c : CoreId} {k : Core}

/-- A compare branch goes to its target where the comparison holds, else to the next instruction. -/
theorem branchIf_goes (h : Fetched s c t k) {d a : Nat} {imm : BitVec 18} {op : Word → Word → Bool} {b : Bool}
    (hb : op (k.reg d) (k.reg a) = b) : done (s.branchIf c d a imm op) =
    .next (t.setCore c { k with pc := if b then k.pc + 4 * imm.signExtend 32 else k.pc + 4 }) := by
  simp only [State.branchIf, h.instr, h.core, hb, done]
  rfl

theorem exec_bc (h : Fetched s c t k) {cond : Fin 16} (imm : BitVec 18) (hc : cond.val ≠ 15) : exec (.bc c cond imm) s =
    .next (t.setCore c { k with pc := if condHolds cond.val k.flags then k.pc + 4 * imm.signExtend 32 else k.pc + 4 }) := by
  show execBc c cond imm s = _
  simp only [execBc, h.instr, h.core, if_neg hc, done]
  rfl

/-- Condition 15 is reserved. -/
theorem exec_bc_reserved (h : Fetched s c t k) {cond : Fin 16} (imm : BitVec 18) (hc : cond.val = 15) :
    exec (.bc c cond imm) s = .next (t.raiseExc c { vec := 1, epc := k.pc, addr := 0, cause := 1 }) := by
  show execBc c cond imm s = _
  simp only [execBc, h.instr, h.core, if_pos hc, done]
  rfl

/-- The conditions of BC, in the order of their numbers (R119). -/
def condTable (f : Word) : List Bool :=
  let n := bitOf f 31
  let z := bitOf f 30
  let cy := bitOf f 29
  let v := bitOf f 28
  [z, !z, cy, !cy, n, !n, v, !v, cy && !z, !cy || z, n == v, n != v, !z && n == v, z || n != v, true]

theorem condHolds_eq {m : Nat} {f : Word} {b : Bool} (h : (condTable f)[m]? = some b) : condHolds m f = b := by
  obtain ⟨hm, hb⟩ := List.getElem?_eq_some_iff.mp h
  have hlt : m < 15 := hm
  rw [← hb]
  interval_cases m <;> rfl

theorem cond_ne_reserved {m : Nat} {f : Word} {b : Bool} (h : (condTable f)[m]? = some b) : m ≠ 15 := by
  rintro rfl
  cases h

theorem jumpReg_jumps (h : Fetched s c t k) {a : Nat} (ha : (k.reg a).toNat % 4 = 0) (link : Bool) : done (s.jumpReg c a link) =
    .next (t.setCore c { (if link then k.setReg 15 (k.pc + 4) else k) with pc := k.reg a }) := by
  simp only [State.jumpReg, h.instr, h.core, ha, ne_eq, not_true_eq_false, if_false, done]

theorem jumpReg_misaligned (h : Fetched s c t k) {a : Nat} (ha : (k.reg a).toNat % 4 ≠ 0) (link : Bool) : done (s.jumpReg c a link) =
    .next (t.raiseExc c { vec := 3, epc := k.pc, addr := k.reg a, cause := 3 }) := by
  simp only [State.jumpReg, h.instr, h.core, if_pos ha, done]
  rfl

/-- Settles O13: a branch tests what its table says, and a jump to a register is checked for alignment first. -/
theorem branchesAndJumps : Obligations.BranchesAndJumps := by
  intro s c d a cond imm off hf t k x y n z cy v goes ialign
  have h : Fetched s c t k := .of_fetches hf
  have hne (p q : Word) : (p != q) = decide (p ≠ q) := by rw [bne, beq_eq_decide, decide_not]
  have hge (p q : Word) : (!p.slt q) = decide (q.toInt ≤ p.toInt) := by
    rw [BitVec.slt_eq_decide, ← decide_not, decide_eq_decide, Int.not_lt]
  have hgeu (p q : Word) : (!p.ult q) = decide (q.toNat ≤ p.toNat) := by
    rw [BitVec.ult_eq_decide, ← decide_not, decide_eq_decide, Nat.not_lt]
  refine ⟨branchIf_goes h (beq_eq_decide x y), branchIf_goes h (hne x y), branchIf_goes h rfl,
    branchIf_goes h (hge x y), branchIf_goes h rfl, branchIf_goes h (hgeu x y), fun b hb => ?_, exec_bc_reserved h imm, ?_, ?_,
    fun hy => ⟨jumpReg_jumps h hy false, jumpReg_jumps h hy true⟩, fun hy => ⟨jumpReg_misaligned h hy false, jumpReg_misaligned h hy true⟩⟩
  · show exec (.bc c cond imm) s = _
    rw [exec_bc h imm (cond_ne_reserved hb), condHolds_eq hb]
  · show execJ c off s = _
    rw [execJ, h.instr, h.core]
    rfl
  · show execCall c off s = _
    rw [execCall, h.instr, h.core]
    rfl

end Sys2Proof.Machine
end

section
/-! Loads and stores past the caches (spec/03 R79, R100; spec/04 R116, R117), and the statements LoadInstructions and StoreInstructions. -/

namespace Sys2Proof.Machine

variable {s t : State} {c : CoreId} {k : Core} {d a : Nat} {imm : BitVec 18} {post : Bool} {z : Size} {x : Word} {p : Nat}

/-! ### Accesses to the memories of soundAt -/

/-- No memory of soundAt lies where a level refuses accesses of its own. -/
theorem soundAt_unguarded {y : Nat} (h : t.soundAt c y p) : y < 0x50000000 ∨ (0x50060000 ≤ y ∧ y < 0xF0000000) := by
  obtain ⟨_, _, hhi, _⟩ | ⟨_, hhi, _⟩ | ⟨_, hhi, _⟩ | ⟨_, hlo, hhi, _⟩ := h <;> omega

theorem plainAt_dataCheck {y : Nat} (hk : t.core c = k) (wr : Bool) (h : t.plainAt c (if wr then 2 else 1) y z.bytes p) :
    dataCheck k c y z wr = none := by
  obtain ⟨halign, hperm, hsound⟩ := h
  rw [hk] at hperm
  exact dataCheck_passes wr (soundAt_unguarded hsound) halign hperm

theorem coreRead_plainAt {y : Nat} (hpow : t.powered = true) (h : t.plainAt c 1 y z.bytes p) (hcache : t.cacheable c y = false)
    (h4 : z.bytes ≤ 4) : t.coreRead c y z = (.ok (t.peek p z.bytes), t) := by
  obtain ⟨halign, _, hsound⟩ := h
  rw [State.coreRead, if_neg (Bool.eq_false_iff.mp hcache), directRead_sound hsound hpow halign h4]

theorem coreWrite_landsAt {r : Region} {y q : Nat} (hpow : t.powered = true) (hl : t.LandsAt c y r q p) (halign : y % z.bytes = 0)
    (hcache : t.cacheable c y = false) (h4 : z.bytes ≤ 4) (v : Nat) :
    t.coreWrite c y z v = (.ok 0, t.storedAt c r q p z.bytes v) := by
  rw [State.coreWrite, if_neg (Bool.eq_false_iff.mp hcache), directWrite_landsAt v hl hpow halign h4]

/-! ### Loads (R116, R117) -/

/-- A byte or halfword read as a signed number. -/
theorem signed_eq_toInt {n : Nat} (hn : 0 < n) (v : Nat) : signed n v = (BitVec.ofNat n v).toInt := by
  obtain ⟨m, rfl⟩ : ∃ m, n = m + 1 := ⟨n - 1, by omega⟩
  have hpow : 2 ^ (m + 1) = 2 * 2 ^ m := by rw [Nat.pow_succ, Nat.mul_comm]
  rw [signed, BitVec.toInt_eq_toNat_cond, BitVec.toNat_ofNat, Nat.add_sub_cancel, hpow]
  split <;> split <;> omega

theorem sextByte_eq (v : Nat) : sextByte v = (BitVec.ofNat 8 v).signExtend 32 := by
  rw [sextByte, signed_eq_toInt (by decide)]
  rfl

theorem sextHalf_eq (v : Nat) : sextHalf v = (BitVec.ofNat 16 v).signExtend 32 := by
  rw [sextHalf, signed_eq_toInt (by decide)]
  rfl

theorem load_reads (h : Fetched s c t k) {ext : Nat → Word} {v : Word} (haddr : k.reg a + imm.signExtend 32 = x)
    (hp : t.plainAt c 1 x.toNat z.bytes p) (hcache : t.cacheable c x.toNat = false) (h4 : z.bytes ≤ 4)
    (hv : ext (t.peek p z.bytes) = v) :
    done (s.load c d a imm false z ext) = .next (t.setCore c ((k.setReg d v).retired k.pc)) := by
  rw [load_answered h ext haddr (plainAt_dataCheck h.core false hp) (coreRead_plainAt h.powered hp hcache h4), hv, done]

/-- A post-increment load reads at gs, and gs moves on. -/
theorem load_reads_post (h : Fetched s c t k) {ext : Nat → Word} {v : Word} (hda : d ≠ a) (hp : t.plainAt c 1 (k.reg a).toNat z.bytes p)
    (hcache : t.cacheable c (k.reg a).toNat = false) (h4 : z.bytes ≤ 4) (hv : ext (t.peek p z.bytes) = v) :
    done (s.load c d a imm true z ext) =
      .next (t.setCore c (((k.setReg d v).setReg a (k.reg a + imm.signExtend 32)).retired k.pc)) := by
  have hform : (true && d == a) = false := by simp [hda]
  have haddr : memAddr (k.reg a) imm true = k.reg a := rfl
  simp only [State.load, h.instr, h.core, hform, haddr, plainAt_dataCheck h.core false hp, coreRead_plainAt h.powered hp hcache h4, hv,
    Bool.false_eq_true, if_false, if_true, h.retire, done]
  rfl

/-- A post-increment load into its own base is undefined (R117). -/
theorem load_undef (h : Fetched s c t k) (d : Nat) (imm : BitVec 18) (z : Size) (ext : Nat → Word) :
    done (s.load c d d imm true z ext) = .next (t.raiseExc c { vec := 1, epc := k.pc, addr := 0, cause := 1 }) := by
  simp only [State.load, h.instr, h.core, beq_self_eq_true, Bool.and_self, if_true, done]
  rfl

/-- Settles O8: the bytes are those of the memory that plainAt names, extended as the instruction says. -/
theorem loadInstructions : Obligations.LoadInstructions := by
  intro s c d a imm hf t k x y undef sb sh zx plain post
  have h : Fetched s c t k := .of_fetches hf
  have hpost {z : Size} {i : Instr} {ext extOf : Nat → Word} (hext : ∀ v, ext v = extOf v) (h4 : z.bytes ≤ 4)
      (hi : exec i s = done (s.load c d.val a.val imm true z ext)) : post i z.bytes extOf := by
    refine ⟨fun hda p hp hcache => hi.trans ?_, fun hda => hi.trans ?_⟩
    · exact load_reads_post h (Fin.val_ne_of_ne hda) hp hcache h4 (hext _)
    · rw [hda]
      exact load_undef h a.val imm z ext
  exact ⟨fun p hp hcache => load_reads (z := .byte) h rfl hp hcache (by decide) (sextByte_eq _),
    fun p hp hcache => load_reads (z := .byte) h rfl hp hcache (by decide) rfl,
    fun p hp hcache => load_reads (z := .half) h rfl hp hcache (by decide) (sextHalf_eq _),
    fun p hp hcache => load_reads (z := .half) h rfl hp hcache (by decide) rfl,
    fun p hp hcache => load_reads (z := .word) h rfl hp hcache (by decide) rfl,
    hpost (z := .byte) sextByte_eq (by decide) rfl, hpost (z := .byte) (fun _ => rfl) (by decide) rfl,
    hpost (z := .half) sextHalf_eq (by decide) rfl, hpost (z := .half) (fun _ => rfl) (by decide) rfl,
    hpost (z := .word) (fun _ => rfl) (by decide) rfl⟩

/-! ### Stores (R100, R116, R117) -/

/-- The core after a store: the post-increment form moves gs on. -/
def Core.afterStore (k : Core) (a : Nat) (imm : BitVec 18) (post : Bool) : Core :=
  if post then k.setReg a (k.reg a + imm.signExtend 32) else k

theorem store_retires (h : Fetched s c t k) {u : State} {v : Nat} (haddr : memAddr (k.reg a) imm post = x)
    (hcheck : dataCheck k c x.toNat z true = none)
    (hwrite : t.coreWrite c x.toNat z ((k.reg d).toNat % 2 ^ (8 * z.bytes)) = (.ok v, u)) (hu : u.core c = k) :
    s.store c d a imm post z = u.setCore c ((k.afterStore a imm post).retired k.pc) := by
  have hretire := retire_running u (fun q => if post then q.setReg a (k.reg a + simm18 imm) else q) (c := c) (by rw [hu, h.run])
  rw [hu] at hretire
  simp only [State.store, h.instr, h.core, haddr, hcheck, hwrite, hretire]
  rfl

/-- An access within its alignment stays in one granule. -/
theorem same_granule {y q : Nat} (halign : y % z.bytes = 0) (h : q % 32 = y % 32) : (q + z.bytes - 1) / 32 = q / 32 := by
  cases z <;> simp only [Size.bytes] at halign ⊢ <;> omega

theorem store_stores (h : Fetched s c t k) (haddr : memAddr (k.reg a) imm post = x) (hp : t.plainAt c 2 x.toNat z.bytes p)
    (hcache : t.cacheable c x.toNat = false) (h4 : z.bytes ≤ 4) :
    ∃ u, done (s.store c d a imm post z) = .next u ∧ u.peek p z.bytes = (k.reg d).toNat % 2 ^ (8 * z.bytes) ∧
      SameBytesBut t u p z.bytes ∧ u.regs = t.regs ∧ u.live = t.live ∧ u.core c = (k.afterStore a imm post).retired k.pc ∧
      ∀ e, e ≠ c → u.core e =
        if (t.core e).reserved = some (granuleOf x.toNat p) then { t.core e with reserved := none } else t.core e := by
  have hcheck := plainAt_dataCheck h.core true hp
  obtain ⟨halign, _, hsound⟩ := hp
  obtain ⟨r, q, hl⟩ := landsAt_of_soundAt hsound
  have hwrite := coreWrite_landsAt h.powered hl halign hcache h4 ((k.reg d).toNat % 2 ^ (8 * z.bytes))
  have hstore := store_retires h haddr hcheck hwrite (core_storedAt.trans h.core)
  refine ⟨_, congrArg Host.Outcome.next hstore, ?_, fun b hb => ?_, ?_, ?_, core_setCore _ _ _, fun e he => ?_⟩
  · rw [peek_setCore, peek_storedAt, Nat.pow_mul]
    exact Nat.mod_mod _ _
  · rw [byteAt_congr (mem_setCore _ _ _)]
    exact sameBytesBut_storedAt b hb
  · rw [regs_setCore, regs_storedAt]
  · rw [live_setCore, live_storedAt]
  · rw [core_setCore_ne _ _ he, hl.granule]
    exact core_storedAt_ne he (same_granule halign hl.aligned)

/-- Settles O9: the store lands where plainAt says, at the address of its form. -/
theorem storeInstructions : Obligations.StoreInstructions := by
  intro s c d a imm hf t k x y stores k1 k2
  have h : Fetched s c t k := .of_fetches hf
  exact ⟨fun p hp hcache => store_stores (z := .byte) (post := false) h rfl hp hcache (by decide),
    fun p hp hcache => store_stores (z := .half) (post := false) h rfl hp hcache (by decide),
    fun p hp hcache => store_stores (z := .word) (post := false) h rfl hp hcache (by decide),
    fun p hp hcache => store_stores (z := .byte) (post := true) h rfl hp hcache (by decide),
    fun p hp hcache => store_stores (z := .half) (post := true) h rfl hp hcache (by decide),
    fun p hp hcache => store_stores (z := .word) (post := true) h rfl hp hcache (by decide)⟩

end Sys2Proof.Machine
end

section
/-! SUPPORT. The Dispatcher's descriptors and its view of the cores (spec/05): what each operation leaves, and what the taking of a FREE
descriptor for a template does (R140, R142). -/

namespace Sys2Proof.Machine

variable (s : State) (n m i : Nat) (d : Desc) (v : DisCore) (c e : CoreId) (k : Core)

/-! ### One descriptor, one core's view -/

theorem desc_setDesc : (s.setDesc n d).desc m = if m = n then d else s.desc m := smGet_smSet _ _ _ _ _

@[simp] theorem desc_setDesc_same : (s.setDesc n d).desc n = d := (desc_setDesc s n n d).trans (if_pos rfl)

theorem desc_setDesc_ne {n m : Nat} (h : m ≠ n) : (s.setDesc n d).desc m = s.desc m := (desc_setDesc s n m d).trans (if_neg h)

@[simp] theorem disCore_setDisCore : (s.setDisCore n v).disCore n = v := (smGet_smSet _ _ _ _ _).trans (if_pos rfl)

@[simp] theorem desc_setDisCore : (s.setDisCore n v).desc m = s.desc m := rfl
@[simp] theorem disCore_setDesc : (s.setDesc n d).disCore m = s.disCore m := rfl
@[simp] theorem desc_setDelayList (l : List Nat) : (s.setDelayList n l).desc m = s.desc m := rfl
@[simp] theorem disCore_setDelayList (l : List Nat) : (s.setDelayList n l).disCore m = s.disCore m := rfl
@[simp] theorem core_setDesc : (s.setDesc n d).core e = s.core e := by cases e <;> rfl
@[simp] theorem core_setDisCore : (s.setDisCore n v).core e = s.core e := by cases e <;> rfl
@[simp] theorem core_setDelayList (l : List Nat) : (s.setDelayList n l).core e = s.core e := by cases e <;> rfl
@[simp] theorem desc_setCore : (s.setCore c k).desc m = s.desc m := by rw [State.desc, dis_setCore]; rfl
@[simp] theorem disCore_setCore : (s.setCore c k).disCore m = s.disCore m := by rw [State.disCore, dis_setCore]; rfl

/-! ### A pulse of a source leaves both -/

@[simp] theorem desc_setPend (b : Bool) : (s.setPend i b).desc m = s.desc m := by
  unfold State.setPend
  split <;> rfl

@[simp] theorem disCore_setPend (b : Bool) : (s.setPend i b).disCore m = s.disCore m := by
  unfold State.setPend
  split <;> rfl

@[simp] theorem desc_event (a b : Nat) : (s.event a b i).desc m = s.desc m := by
  unfold State.event State.raise
  split
  · rfl
  · exact desc_setPend _ _ _ _

@[simp] theorem disCore_event (a b : Nat) : (s.event a b i).disCore m = s.disCore m := by
  unfold State.event State.raise
  split
  · rfl
  · exact disCore_setPend _ _ _ _

/-! ### The report that the FREE descriptors run low leaves both (R142) -/

section
variable (before : Nat)

@[simp] theorem desc_lowCheck : (s.lowCheck before).desc m = s.desc m := by
  unfold State.lowCheck
  dsimp only
  split
  · exact desc_event _ _ _ _ _
  · rfl

@[simp] theorem disCore_lowCheck : (s.lowCheck before).disCore m = s.disCore m := by
  unfold State.lowCheck
  dsimp only
  split
  · exact disCore_event _ _ _ _ _
  · rfl

@[simp] theorem core_lowCheck : (s.lowCheck before).core e = s.core e := by
  unfold State.lowCheck
  dsimp only
  split
  · exact core_event _ _ _ _ _
  · rfl

end

/-! ### A descriptor becomes READY or DELAYED (R140) -/

/-- The descriptor that makeReady leaves. -/
def Desc.readied (d : Desc) (now : Nat) : Desc :=
  if d.delay = 0 then { d with state := .ready, core := 0, wake := 0 }
  else { d with state := .delayed, core := 0, wake := (now + d.delay.toNat) % 2 ^ 64 }

theorem desc_makeReady : (s.makeReady n).desc m = if m = n then (s.desc n).readied s.disTime else s.desc m := by
  unfold State.makeReady Desc.readied
  dsimp only
  split
  · exact desc_setDesc _ _ _ _
  · exact desc_setDesc _ _ _ _

@[simp] theorem disCore_makeReady : (s.makeReady n).disCore m = s.disCore m := by
  unfold State.makeReady
  dsimp only
  split <;> rfl

@[simp] theorem core_makeReady : (s.makeReady n).core e = s.core e := by
  unfold State.makeReady
  dsimp only
  split
  · exact core_setDesc _ _ _ _
  · exact (core_setDelayList _ _ _ _).trans (core_setDesc _ _ _ _)

/-! ### A template's task (R140) -/

theorem mem_freeList : n ∈ s.freeList ↔ n < 4096 ∧ (s.desc n).state = .free := by
  simp [State.freeList]

/-- Descriptor `m`, which was FREE, has become the task of template `tpl` with argument `arg`. -/
structure Posted (s u : State) (tpl : Nat) (arg : Word) (m : Nat) : Prop where
  lt : m < 4096
  free : (s.desc m).state = .free
  entry : (u.desc m).entry = (s.desc tpl).entry
  arg : (u.desc m).arg = arg
  prio : (u.desc m).prio = (s.desc tpl).prio
  kind : (u.desc m).kind = .posted
  state : (u.desc m).state = if (s.desc tpl).delay = 0 then .ready else .delayed
  others : ∀ j, j ≠ m → u.desc j = s.desc j
  disCore : ∀ n, u.disCore n = s.disCore n
  core : ∀ e, u.core e = s.core e

/-- The choice that `pick` makes in a list that is not empty. -/
theorem exists_pick {l : List Nat} (h : l ≠ []) (pick : Nat) : ∃ m, l[pick % max 1 l.length]? = some m ∧ m ∈ l := by
  have hlt : pick % max 1 l.length < l.length := by
    have hpos := List.length_pos_of_ne_nil h
    rw [Nat.max_eq_right hpos]
    exact Nat.mod_lt _ hpos
  exact ⟨l[pick % max 1 l.length], List.getElem?_eq_getElem hlt, List.getElem_mem hlt⟩

/-- The descriptor that a template's task takes. -/
def Desc.task (d : Desc) (arg : Word) : Desc := { d with arg := arg, kind := .posted, state := .ready, core := 0, wake := 0 }

/-- The state in which FREE descriptor `m` has become the task of template `tpl`. -/
def State.taskTaken (s : State) (tpl m : Nat) (arg : Word) : State :=
  ((s.setDesc m ((s.desc tpl).task arg)).makeReady m).lowCheck s.freeCount

theorem postFrom_some {s : State} {tpl pick m : Nat} {arg : Word} (h : s.freeList[pick % max 1 s.freeList.length]? = some m) :
    s.postFrom tpl arg pick = some (m, s.taskTaken tpl m arg) := by
  unfold State.postFrom
  generalize s.freeList = free at h ⊢
  simp only [h]
  rfl

theorem desc_taskTaken (s : State) (tpl m n : Nat) (arg : Word) :
    (s.taskTaken tpl m arg).desc n = if n = m then ((s.desc tpl).task arg).readied s.disTime else s.desc n := by
  rw [State.taskTaken, desc_lowCheck, desc_makeReady, desc_setDesc_same]
  split
  · rfl
  next hn => exact desc_setDesc_ne _ _ hn

theorem disCore_taskTaken (s : State) (tpl m n : Nat) (arg : Word) : (s.taskTaken tpl m arg).disCore n = s.disCore n := by
  rw [State.taskTaken, disCore_lowCheck, disCore_makeReady, disCore_setDesc]

theorem core_taskTaken (s : State) (tpl m : Nat) (arg : Word) (e : CoreId) : (s.taskTaken tpl m arg).core e = s.core e := by
  rw [State.taskTaken, core_lowCheck, core_makeReady, core_setDesc]

theorem readied_task (d : Desc) (arg : Word) (now : Nat) :
    ((d.task arg).readied now).entry = d.entry ∧ ((d.task arg).readied now).arg = arg ∧ ((d.task arg).readied now).prio = d.prio ∧
      ((d.task arg).readied now).kind = .posted ∧
      ((d.task arg).readied now).state = if d.delay = 0 then .ready else .delayed := by
  have hdelay : (d.task arg).delay = d.delay := rfl
  unfold Desc.readied
  rw [hdelay]
  split <;> exact ⟨rfl, rfl, rfl, rfl, rfl⟩

/-- Where a descriptor is FREE, one of them becomes the task. -/
theorem postFrom_posts {s : State} (tpl : Nat) (arg : Word) (pick : Nat) (h : s.freeList ≠ []) :
    ∃ m u, s.postFrom tpl arg pick = some (m, u) ∧ Posted s u tpl arg m := by
  obtain ⟨m, hm, hmem⟩ := exists_pick h pick
  obtain ⟨hlt, hfree⟩ := (mem_freeList s m).mp hmem
  obtain ⟨hentry, harg, hprio, hkind, hstate⟩ := readied_task (s.desc tpl) arg s.disTime
  have htask := (desc_taskTaken s tpl m m arg).trans (if_pos rfl)
  refine ⟨m, _, postFrom_some hm, hlt, hfree, ?_, ?_, ?_, ?_, ?_, fun j hj => (desc_taskTaken s tpl m j arg).trans (if_neg hj),
    fun n => disCore_taskTaken s tpl m n arg, core_taskTaken s tpl m arg⟩
  · rw [htask, hentry]
  · rw [htask, harg]
  · rw [htask, hprio]
  · rw [htask, hkind]
  · rw [htask, hstate]

/-- Where none is FREE, nothing is taken. -/
theorem postFrom_none {s : State} (tpl : Nat) (arg : Word) (pick : Nat) (h : s.freeList = []) : s.postFrom tpl arg pick = none := by
  unfold State.postFrom
  rw [h]
  rfl

end Sys2Proof.Machine
end

section
/-! The Dispatcher and beat instructions (spec/04 R124 to R131; spec/05 R136 to R152), and the statement TaskInstructions. -/

namespace Sys2Proof.Machine

variable {s t u : State} {c : CoreId} {k : Core} {d a b : Fin 16} {pick n m x : Nat}

/-! ### TAKE and SLOT (R125 to R127) -/

theorem app_num (hc : c ≠ .g0) : CoreId.app ⟨c.num % 4, Nat.mod_lt _ (by decide)⟩ = c := by
  cases c with
  | g0 => exact absurd rfl hc
  | c0 | c1 | c2 | c3 => rfl

/-- The state in which core `c` has received the task of its palm slot, descriptor `n`. -/
def State.slotTaken (t : State) (c : CoreId) (n d : Nat) : State :=
  (t.setDisCore c.num { t.disCore c.num with slot := none, slotAt := 0 }).deliverTask c.num n d

theorem slotTaken_eq (t : State) (hc : c ≠ .g0) (n d : Nat) : t.slotTaken c n d =
    (((t.setDisCore c.num { t.disCore c.num with slot := none, slotAt := 0 }).setDesc n
      { t.desc n with state := .running, core := c.num }).setDisCore c.num { cur := some n, slot := none, slotAt := 0 }).setCore c
        (((t.core c).setReg d (t.desc n).entry).setReg (d + 1) (t.desc n).arg) := by
  simp only [State.slotTaken, State.deliverTask, app_num hc, core_setDisCore, core_setDesc, disCore_setDesc, disCore_setDisCore,
    desc_setDisCore]

/-- The instruction retires with the task that the palm slot held. -/
theorem slotTaken_retires (h : Fetched s c t k) (hc : c ≠ .g0) (fl : Word → Word) :
    ∃ u, (t.slotTaken c n d.val).retire_ c (fun q => { q with reserved := none, flags := fl q.flags }) = u ∧
      u.core c = { ((k.setReg d.val (t.desc n).entry).setReg (d.val + 1) (t.desc n).arg).retired k.pc with
        reserved := none, flags := fl k.flags } ∧
      (u.desc n).state = .running ∧ (u.disCore c.num).cur = some n ∧ (u.disCore c.num).slot = none ∧
      (∀ m, m ≠ n → u.desc m = t.desc m) ∧ u.regs = t.regs ∧ u.mem = t.mem := by
  have hretire := retire_running (t.slotTaken c n d.val) (c := c) (fun q => { q with reserved := none, flags := fl q.flags })
    (by rw [slotTaken_eq t hc, core_setCore, h.core]; exact h.run)
  rw [slotTaken_eq t hc, core_setCore, setCore_setCore, h.core] at hretire
  refine ⟨_, rfl, ?_⟩
  rw [slotTaken_eq t hc, h.core, hretire]
  refine ⟨core_setCore _ _ _, ?_, ?_, ?_, fun m hm => ?_, ?_, ?_⟩
  · rw [desc_setCore, desc_setDisCore, desc_setDesc_same]
  · rw [disCore_setCore, disCore_setDisCore]
  · rw [disCore_setCore, disCore_setDisCore]
  · rw [desc_setCore, desc_setDisCore, desc_setDesc_ne _ _ hm, desc_setDisCore]
  · rw [regs_setCore]
    rfl
  · rw [mem_setCore]
    rfl

/-- TAKE and SLOT are undefined on G0, for an odd register and with a current task (R124, R125). -/
theorem takeBad_iff : (pairBad c d.val || (t.disCore c.num).cur.isSome) = true ↔
    c = .g0 ∨ d.val % 2 = 1 ∨ (t.disCore c.num).cur ≠ none := by
  simp [pairBad, or_assoc, Option.isSome_iff_ne_none]

section
variable (h : Fetched s c t k)
include h

theorem take_undef (hbad : c = .g0 ∨ d.val % 2 = 1 ∨ (t.disCore c.num).cur ≠ none) :
    exec (.take c d) s = .next (t.raiseExc c { vec := 1, epc := k.pc, addr := 0, cause := 1 }) := by
  show execTake c d s = _
  simp only [execTake, h.instr, h.core, takeBad_iff.mpr hbad, if_true, done]
  rfl

theorem slot_undef (hbad : c = .g0 ∨ d.val % 2 = 1 ∨ (t.disCore c.num).cur ≠ none) :
    exec (.slot c d) s = .next (t.raiseExc c { vec := 1, epc := k.pc, addr := 0, cause := 1 }) := by
  show execSlot c d s = _
  simp only [execSlot, h.instr, h.core, takeBad_iff.mpr hbad, if_true, done]
  rfl

variable (hok : (pairBad c d.val || (t.disCore c.num).cur.isSome) = false)
include hok

/-- With no task in its palm slot TAKE stops the core. -/
theorem take_stops (hslot : t.palm c.num = false ∨ (t.disCore c.num).slot = none) :
    exec (.take c d) s = .next (t.setCore c { k with reserved := none, run := .take d.val }) := by
  show execTake c d s = _
  simp only [execTake, h.instr, h.core, hok, Bool.false_eq_true, if_false, done]
  split
  next hpalm hfull => simp [hpalm, hfull] at hslot
  next => rfl

theorem slot_empty (hslot : t.palm c.num = false ∨ (t.disCore c.num).slot = none) : exec (.slot c d) s =
    .next (t.setCore c { ((k.setReg d.val 0).setReg (d.val + 1) 0).retired k.pc with
      reserved := none, flags := withBit k.flags 30 true }) := by
  show execSlot c d s = _
  simp only [execSlot, h.instr, h.core, hok, Bool.false_eq_true, if_false, done]
  split
  next hpalm hfull => simp [hpalm, hfull] at hslot
  next =>
    rw [h.retire]
    rfl

theorem take_takes (hpalm : t.palm c.num = true) (hslot : (t.disCore c.num).slot = some n) : exec (.take c d) s =
    .next ((t.slotTaken c n d.val).retire_ c (fun q => { q with reserved := none, flags := q.flags })) := by
  show execTake c d s = _
  simp only [execTake, h.instr, h.core, hok, hpalm, hslot, Bool.false_eq_true, if_false, done]
  rfl

theorem slot_takes (hpalm : t.palm c.num = true) (hslot : (t.disCore c.num).slot = some n) : exec (.slot c d) s =
    .next ((t.slotTaken c n d.val).retire_ c (fun q => { q with reserved := none, flags := withBit q.flags 30 false })) := by
  show execSlot c d s = _
  simp only [execSlot, h.instr, h.core, hok, hpalm, hslot, Bool.false_eq_true, if_false, done]
  rfl

end

/-! ### DONE (R128, R131, R151) -/

theorem done_undef (h : Fetched s c t k) (hc : c = .g0) :
    exec (.done c d pick) s = .next (t.raiseExc c { vec := 1, epc := k.pc, addr := 0, cause := 1 }) := by
  show execDone c d pick s = _
  simp only [execDone, h.instr, h.core, if_pos hc, done]
  rfl

theorem done_waits (h : Fetched s c t k) (hc : c ≠ .g0) (hwait : t.disWaits = true) :
    exec (.done c d pick) s = .next (t.setCore c { k with reserved := none, run := .disp d.val (.done pick) }) := by
  show execDone c d pick s = _
  simp only [execDone, h.instr, h.core, if_neg hc, if_pos hwait, done]

/-- A DONE that the Dispatcher serves retires with the result. -/
theorem done_served (h : Fetched s c t k) (hc : c ≠ .g0) (hwait : t.disWaits = false) {r : Word}
    (hdone : t.taskDone c.num pick = (r, u)) (hu : u.core c = k) :
    exec (.done c d pick) s = .next (u.setCore c { (k.setReg d.val r).retired k.pc with reserved := none }) := by
  have hretire := retire_running u (c := c) (fun q => { q.setReg d.val r with reserved := none }) (by rw [hu, h.run])
  rw [hu] at hretire
  show execDone c d pick s = _
  simp only [execDone, h.instr, if_neg hc, hwait, Bool.false_eq_true, if_false, hdone, hretire, done]
  rfl

theorem taskDone_idle (hcur : (t.disCore n).cur = none) : t.taskDone n pick = (1, t) := by
  simp only [State.taskDone, hcur]

/-- The state in which core `n`'s posted task, descriptor `m`, has become FREE (R151). -/
def State.taskFreed (t : State) (n m : Nat) : State := (t.freeDesc m).setDisCore n { t.disCore n with cur := none }

theorem desc_taskFreed (t : State) (n m j : Nat) : (t.taskFreed n m).desc j = if j = m then Desc.blank else t.desc j :=
  desc_setDesc t m j Desc.blank

theorem core_taskFreed (t : State) (n m : Nat) (e : CoreId) : (t.taskFreed n m).core e = t.core e := by
  rw [State.taskFreed, State.freeDesc, core_setDisCore, core_setDesc]

theorem taskDone_posted (hcur : (t.disCore n).cur = some m) (hsen : (t.desc m).sen = false) (hkind : (t.desc m).kind = .posted) :
    t.taskDone n pick = (0, t.taskFreed n m) := by
  simp only [State.taskDone, hcur, State.releaseTask, hkind, hsen, Bool.not_false, if_true]
  rfl

/-- A DONE with a successor makes the template's task on a FREE descriptor, of which there is one: the ended task's own. -/
theorem taskDone_successor (hcur : (t.disCore n).cur = some m) (hm : m < 4096) (hsen : (t.desc m).sen = true)
    (hkind : (t.desc m).kind = .posted) (hne : (t.desc m).sidx ≠ m) : ∃ j u, t.taskDone n pick = (0, u) ∧
    Posted (t.taskFreed n m) u (t.desc m).sidx (if (t.desc m).sargt then (t.desc (t.desc m).sidx).arg else (t.desc m).arg) j := by
  have hfree : (t.taskFreed n m).freeList ≠ [] := by
    refine List.ne_nil_of_mem ((mem_freeList _ m).mpr ⟨hm, ?_⟩)
    rw [desc_taskFreed, if_pos rfl]
    rfl
  have hsuccessor : (t.taskFreed n m).desc (t.desc m).sidx = t.desc (t.desc m).sidx := (desc_taskFreed t n m _).trans (if_neg hne)
  obtain ⟨j, u, hpost, hposted⟩ := postFrom_posts (t.desc m).sidx
    (if (t.desc m).sargt then (t.desc (t.desc m).sidx).arg else (t.desc m).arg) pick hfree
  refine ⟨j, u, ?_, hposted⟩
  rw [← hsuccessor] at hpost
  unfold State.taskFreed at hpost
  simp only [State.taskDone, hcur, State.releaseTask, hkind, hsen, Bool.not_true, Bool.false_eq_true, if_false, hpost]

/-! ### POST (R129, R131, R141) -/

theorem post_waits (h : Fetched s c t k) (hwait : t.disWaits = true) : exec (.post c d a b pick) s =
    .next (t.setCore c { k with run := .disp d.val (.post (k.reg a.val).toNat (k.reg b.val) pick) }) := by
  show execPost c d a b pick s = _
  simp only [execPost, h.instr, h.core, if_pos hwait, done]

/-- A POST that the Dispatcher serves retires with the result. -/
theorem post_served (h : Fetched s c t k) (hwait : t.disWaits = false) {r : Word}
    (hpost : t.post (k.reg a.val).toNat (k.reg b.val) pick = (r, u)) (hu : u.core c = k) :
    exec (.post c d a b pick) s = .next (u.setCore c ((k.setReg d.val r).retired k.pc)) := by
  have hretire := retire_running u (c := c) (fun q => q.setReg d.val r) (by rw [hu, h.run])
  rw [hu] at hretire
  show execPost c d a b pick s = _
  simp only [execPost, h.instr, h.core, hwait, Bool.false_eq_true, if_false, hpost, hretire, done]
  rfl

/-- The posting of a task of the PRIO of template `x` is refused while few descriptors are FREE (R142). -/
def State.admitRefuses (t : State) (x : Nat) : Prop :=
  t.fld DIS_ADMIT 16 4 < (t.desc x).prio ∧ t.freeCount ≤ min 4096 (t.fld DIS_ADMIT 0 13)

theorem post_unnamed (arg : Word) (hx : 4096 ≤ x ∨ (t.desc x).state ≠ .template) : t.post x arg pick = (3, t) := if_pos hx

section
variable (arg : Word) (hx : x < 4096) (htpl : (t.desc x).state = .template)
include hx htpl

theorem post_refused (hrefuses : t.admitRefuses x) : t.post x arg pick = (1, t.noslot) := by
  obtain ⟨hprio, hfew⟩ := hrefuses
  have hnamed : ¬(4096 ≤ x ∨ (t.desc x).state ≠ .template) := by simp [hx, htpl]
  simp only [State.post, if_neg hnamed, hprio, hfew, decide_true, Bool.and_self, if_true]

/-- A POST that is admitted takes what postFrom answers. -/
theorem post_admitted (hadmits : ¬t.admitRefuses x) :
    (t.postFrom x arg pick = none → t.post x arg pick = (1, t.noslot)) ∧
    ∀ j u, t.postFrom x arg pick = some (j, u) → t.post x arg pick = (BitVec.ofNat 32 (j * 65536), u) := by
  have hnamed : ¬(4096 ≤ x ∨ (t.desc x).state ≠ .template) := by simp [hx, htpl]
  have hcond : (decide (t.fld DIS_ADMIT 16 4 < (t.desc x).prio) && decide (t.freeCount ≤ min 4096 (t.fld DIS_ADMIT 0 13))) = false := by
    rw [← Bool.decide_and]
    exact decide_eq_false hadmits
  refine ⟨fun hpost => ?_, fun j u hpost => ?_⟩
  · simp only [State.post, if_neg hnamed, hcond, Bool.false_eq_true, if_false, hpost]
  · simp only [State.post, if_neg hnamed, hcond, Bool.false_eq_true, if_false, hpost, w32]

theorem post_noslot (hno : t.admitRefuses x ∨ t.freeList = []) : t.post x arg pick = (1, t.noslot) := by
  by_cases hrefuses : t.admitRefuses x
  · exact post_refused arg hx htpl hrefuses
  · exact (post_admitted arg hx htpl hrefuses).1 (postFrom_none x arg pick (hno.resolve_left hrefuses))

theorem post_posts (hadmits : ¬t.admitRefuses x) (hfree : t.freeList ≠ []) :
    ∃ j u, t.post x arg pick = (BitVec.ofNat 32 (j * 65536), u) ∧ Posted t u x arg j := by
  obtain ⟨j, u, hpost, hposted⟩ := postFrom_posts x arg pick hfree
  exact ⟨j, u, (post_admitted arg hx htpl hadmits).2 j u hpost, hposted⟩

end

/-- A NOSLOT result is counted and reported, and leaves the descriptors and the cores (R141). -/
theorem noslot_counts (t : State) : t.noslot.rg DIS_NOSLOTCNT = satInc (t.rg DIS_NOSLOTCNT) 1 ∧ t.noslot.bit DIS_EVT 1 = true ∧
    (∀ m, t.noslot.desc m = t.desc m) ∧ ∀ e, t.noslot.core e = t.core e := by
  refine ⟨?_, bit_event_self _ _ _ _ (by decide) (by decide), fun m => desc_event _ _ _ _ _, fun e => (core_event _ _ _ _ _).trans ?_⟩
  · rw [State.noslot, rg_event_ne _ _ _ _ (by decide) (by decide), rg_count, if_pos rfl]
  · cases e <;> rfl

/-! ### WBEAT and WBEATN (R130) -/

theorem exec_wbeat (h : Fetched s c t k) :
    exec (.wbeat c d) s = .next (t.setCore c { k with reserved := none, run := .wbeat d.val none }) := by
  show execWbeat c d s = _
  rw [execWbeat, h.instr, h.core, done]

theorem wbeatn_undef (h : Fetched s c t k) (hodd : a.val % 2 = 1) :
    exec (.wbeatn c d a) s = .next (t.raiseExc c { vec := 1, epc := k.pc, addr := 0, cause := 1 }) := by
  show execWbeatn c d a s = _
  simp only [execWbeatn, h.instr, h.core, if_pos hodd, done]
  rfl

theorem wbeatn_reached (h : Fetched s c t k) (heven : a.val % 2 = 0) (hreached : beatTarget k a.val ≤ t.beatNo) : exec (.wbeatn c d a) s =
    .next (t.setCore c { (k.setReg d.val (BitVec.ofNat 32 t.beatNo)).retired k.pc with reserved := none }) := by
  have hpair : ¬a.val % 2 = 1 := by omega
  show execWbeatn c d a s = _
  simp only [execWbeatn, h.instr, h.core, if_neg hpair, if_pos hreached, h.retire, done]
  rfl

theorem wbeatn_stops (h : Fetched s c t k) (heven : a.val % 2 = 0) (hahead : t.beatNo < beatTarget k a.val) : exec (.wbeatn c d a) s =
    .next (t.setCore c { k with reserved := none, run := .wbeatn d.val (beatTarget k a.val) none }) := by
  have hpair : ¬a.val % 2 = 1 := by omega
  show execWbeatn c d a s = _
  simp only [execWbeatn, h.instr, h.core, if_neg hpair, if_neg (Nat.not_le.mpr hahead), done]

/-- Settles O19: each clause is the rule of its instruction above. -/
theorem taskInstructions : Obligations.TaskInstructions := by
  intro s c d a b pick hf t k v palm undef takes tpl refused target
  have h : Fetched s c t k := .of_fetches hf
  have htarget : beatTarget k a.val = target := by
    rw [beatTarget, Nat.mul_comm]
    rfl
  refine ⟨fun hc hd hcur => ?_, fun hbad => ⟨take_undef h hbad, slot_undef h hbad⟩, done_undef h, done_waits h, post_waits h,
    fun hc hwait hcur => done_served h hc hwait (taskDone_idle hcur) h.core, fun n hc hwait hcur hsen hkind => ?_,
    fun n x hc hwait hcur hn hsen hkind hx hne => ?_, fun hwait htpl => post_served h hwait (post_unnamed _ htpl) h.core,
    fun hwait hlt htpl hno => ?_, fun hwait hlt htpl hadmits hfree => ?_, exec_wbeat h, wbeatn_undef h,
    fun heven hreached => wbeatn_reached h heven (htarget ▸ hreached), fun heven hahead => htarget ▸ wbeatn_stops h heven (htarget ▸ hahead)⟩
  · have hok : (pairBad c d.val || (t.disCore c.num).cur.isSome) = false := by
      refine Bool.eq_false_iff.mpr fun hbad => ?_
      obtain hg0 | hodd | hcurrent := takeBad_iff.mp hbad
      · exact hc hg0
      · omega
      · exact hcurrent hcur
    refine ⟨fun hslot => ⟨take_stops h hok hslot, slot_empty h hok hslot⟩, fun n hpalm hslot => ⟨?_, ?_⟩⟩
    · obtain ⟨u, hu, hleaves⟩ := slotTaken_retires (n := n) (d := d) h hc (fun f => f)
      exact ⟨u, (take_takes h hok hpalm hslot).trans (congrArg Host.Outcome.next hu), hleaves⟩
    · obtain ⟨u, hu, hleaves⟩ := slotTaken_retires (n := n) (d := d) h hc (fun f => withBit f 30 false)
      exact ⟨u, (slot_takes h hok hpalm hslot).trans (congrArg Host.Outcome.next hu), hleaves⟩
  · have hcore : (t.taskFreed c.num n).core c = k := (core_taskFreed t _ n c).trans h.core
    refine ⟨_, done_served h hc hwait (taskDone_posted hcur hsen hkind) hcore, core_setCore _ _ _, ?_, ?_, fun m hm => ?_, ?_⟩
    · rw [desc_setCore, desc_taskFreed, if_pos rfl]
    · rw [disCore_setCore, State.taskFreed, disCore_setDisCore]
    · rw [desc_setCore, desc_taskFreed, if_neg hm]
    · rw [regs_setCore]
      rfl
  · subst hx
    obtain ⟨m, u, hdone, hposted⟩ := taskDone_successor (pick := pick) hcur hn hsen hkind hne
    have hcore : u.core c = k := (hposted.core c).trans ((core_taskFreed t _ n c).trans h.core)
    refine ⟨_, done_served h hc hwait hdone hcore, core_setCore _ _ _, ?_, m, hposted.lt, ?_, ?_, ?_, ?_, fun j hjn hjm => ?_⟩
    · rw [disCore_setCore, hposted.disCore, State.taskFreed, disCore_setDisCore]
    · refine or_iff_not_imp_left.mpr fun hmn => ?_
      have hfree := hposted.free
      rwa [desc_taskFreed, if_neg hmn] at hfree
    · rw [desc_setCore, hposted.entry, desc_taskFreed, if_neg hne]
    · rw [desc_setCore, hposted.arg]
    · rw [desc_setCore, hposted.kind]
    · rw [desc_setCore, hposted.others j hjm, desc_taskFreed, if_neg hjn]
  · obtain ⟨hcount, hevt, hdesc, hcore⟩ := noslot_counts t
    refine ⟨_, post_served h hwait (post_noslot _ hlt htpl hno) ((hcore c).trans h.core), core_setCore _ _ _, ?_, ?_, fun m => ?_⟩
    · rw [rg_setCore, hcount]
    · rw [State.bit, rg_setCore]
      exact hevt
    · rw [desc_setCore, hdesc]
  · obtain ⟨n, u, hpost, hposted⟩ := post_posts (pick := pick) (k.reg b.val) hlt htpl hadmits hfree
    refine ⟨_, post_served h hwait hpost ((hposted.core c).trans h.core), n, hposted.lt, hposted.free, core_setCore _ _ _, ?_⟩
    simp only [desc_setCore]
    exact ⟨hposted.entry, hposted.arg, hposted.prio, hposted.state, hposted.others⟩

end Sys2Proof.Machine
end

section
/-! The Dispatcher's commands (spec/05 R135 to R139, R143, R150, R154): what each leaves of the descriptors, the delay lists and the
status, and the statement DispatcherCommands. -/

namespace Sys2Proof.Machine

variable {s t u : State} {i : Initiator} {v : Word} {n m l : Nat} {d : Desc} {c : CoreId}

/-! ### A command that rewrites one descriptor (R138) -/

/-- From `s` to `u` descriptor `n` has become `d`, no other has changed, the status reads OK and memory is as before. -/
def Rewritten (s u : State) (n : Nat) (d : Desc) : Prop :=
  u.desc n = d ∧ (∀ m, m ≠ n → u.desc m = s.desc m) ∧ u.fld DIS_CMDST 0 4 = 0 ∧ u.mem = s.mem

theorem rewritten_setDesc (s : State) (n : Nat) (d : Desc) : Rewritten s ((s.accept disPort).setDesc n d) n d :=
  ⟨desc_setDesc_same _ n d, fun _ hm => desc_setDesc_ne _ d hm, st_accept s disPort, rfl⟩

theorem rg_lowCheck_ne (before : Nat) {a : Nat} (hpend : a ≠ ECX_PEND 1) (hevt : a ≠ DIS_EVT) : (s.lowCheck before).rg a = s.rg a := by
  unfold State.lowCheck
  dsimp only
  split
  · exact rg_event_ne s _ _ _ hpend hevt
  · rfl

@[simp] theorem mem_lowCheck (s : State) (before : Nat) : (s.lowCheck before).mem = s.mem := by
  unfold State.lowCheck
  dsimp only
  split
  · exact State.event_mem s _ _ _
  · rfl

/-- The report that the FREE descriptors run low comes after the command's own effect (R142). -/
theorem Rewritten.lowCheck (h : Rewritten s u n d) (before : Nat) : Rewritten s (u.lowCheck before) n d := by
  obtain ⟨hself, hothers, hstatus, hmem⟩ := h
  refine ⟨?_, fun m hm => ?_, ?_, ?_⟩
  · rw [desc_lowCheck, hself]
  · rw [desc_lowCheck, hothers m hm]
  · rw [fld_congr (rg_lowCheck_ne before (by decide) (by decide)), hstatus]
  · rw [mem_lowCheck, hmem]

theorem disTime_accept (s : State) : (s.accept disPort).disTime = s.disTime :=
  rg64_congr (rg_accept_ne s disPort (by decide)) (rg_accept_ne s disPort (by decide))

/-- A descriptor made READY or DELAYED. -/
theorem rewritten_makeReady (s : State) (n : Nat) :
    Rewritten s ((s.accept disPort).makeReady n) n ((s.desc n).readied s.disTime) := by
  have hkeeps := (WritesOnly.refl (fun _ => False) (s.accept disPort)).makeReady n
  refine ⟨?_, fun m hm => ?_, ?_, hkeeps.mem⟩
  · rw [desc_makeReady, if_pos rfl, disTime_accept]
    rfl
  · rw [desc_makeReady, if_neg hm]
    rfl
  · rw [fld_congr (hkeeps.rg _ id)]
    exact st_accept s disPort

/-! ### MKTPL and MKBND -/

theorem entryOk_iff : entryOk v = true ↔ v ≠ 0 ∧ v.toNat % 4 = 0 := by
  simp [entryOk, fieldOf]

theorem disMake_makes (hbusy : s.dis.busy = false) (hfree : (s.desc n).state = .free) (hentry : entryOk (s.desc n).entry = true)
    (hcores : (s.desc n).cores ≠ 0) (hsen : (s.desc n).sen = false) (tpl : Bool) : Rewritten s (s.disMake n tpl) n
      { s.desc n with state := if tpl then .template else .bound, kind := if tpl then .template else .bound } := by
  unfold State.disMake
  rw [command_accepted _ rfl (by simp [hbusy, hfree]) (by simp [hentry, hcores, hsen, State.successorOk])]
  exact (rewritten_setDesc s n _).lowCheck _

/-! ### FREE and READY -/

theorem disFree_frees (hbusy : s.dis.busy = false) (hstate : (s.desc n).state = .template) (hunused : s.templateUsed n = false) :
    Rewritten s (s.disFree n) n Desc.blank := by
  unfold State.disFree
  rw [command_accepted _ rfl (by simp [hbusy, hstate, hunused]) rfl, if_neg (by simp [hstate])]
  exact rewritten_setDesc s n Desc.blank

theorem disReady_accepted (hbusy : s.dis.busy = false) (hstate : (s.desc n).state = .bound) :
    s.disReady n = (s.accept disPort).makeReady n := by
  unfold State.disReady
  rw [command_accepted _ rfl (by simp [hbusy, hstate]) rfl, if_neg (by simp [hstate])]

theorem disReady_refused (hbound : (s.desc n).state ≠ .bound) (hhalted : (s.desc n).state ≠ .halted) :
    s.disReady n = s.reject disPort ST_STATE := by
  unfold State.disReady
  exact command_rejected_state _ (by simp [hbound, hhalted])

theorem mem_insertByWake (wake : Nat → Nat) (n w : Nat) (q : List Nat) : n ∈ insertByWake wake n w q := by
  induction q with
  | nil => exact List.mem_singleton.mpr rfl
  | cons m q ih =>
    unfold insertByWake
    split
    · exact List.mem_cons_self
    · exact List.mem_cons_of_mem _ ih

theorem delayList_setDelayList (s : State) (l : Nat) (q : List Nat) : (s.setDelayList l q).delayList l = q :=
  (smGet_smSet _ _ _ _ _).trans (if_pos rfl)

/-- A DELAYED descriptor stands on its list (R144). -/
theorem mem_delayList_makeReady (hdelay : (s.desc n).delay ≠ 0) : n ∈ (s.makeReady n).delayList (s.desc n).dlist := by
  unfold State.makeReady
  dsimp only
  rw [if_neg hdelay, delayList_setDelayList]
  exact mem_insertByWake _ _ _ _

/-! ### CANCEL and FLUSH -/

theorem releaseTask_posted (hkind : (t.desc m).kind = .posted) : t.releaseTask m = t.freeDesc m := by
  simp only [State.releaseTask, hkind]

/-- CANCEL of a posted task takes it from its delay list and frees its descriptor. -/
theorem cancelTask_posted (hkind : (t.desc m).kind = .posted) : t.cancelTask m =
    (if (t.desc m).state = .delayed then
      t.setDelayList (t.desc m).dlist ((t.delayList (t.desc m).dlist).filter (fun j => j != m)) else t).freeDesc m := by
  unfold State.cancelTask
  refine releaseTask_posted ?_
  split <;> exact hkind

theorem desc_cancelTask (hkind : (t.desc m).kind = .posted) (j : Nat) :
    (t.cancelTask m).desc j = if j = m then Desc.blank else t.desc j := by
  rw [cancelTask_posted hkind, State.freeDesc, desc_setDesc]
  split
  · rfl
  · split <;> rfl

theorem disCancel_frees (hbusy : s.dis.busy = false) (hstate : (s.desc n).state = .ready) (hkind : (s.desc n).kind = .posted) :
    Rewritten s (s.disCancel n) n Desc.blank := by
  have hready : ((s.accept disPort).desc n).state ≠ .delayed := by
    rw [show (s.accept disPort).desc n = s.desc n from rfl, hstate]
    decide
  unfold State.disCancel
  rw [command_accepted _ rfl (by simp [hbusy, hstate]) rfl, cancelTask_posted (t := s.accept disPort) hkind, if_neg hready]
  exact rewritten_setDesc s n Desc.blank

/-- FLUSH of delay list `l` may cancel descriptor `m`: a posted task that stands DELAYED on the list, or one that does not stand there
any more, as a second mention of it finds it. -/
def State.flushable (t : State) (l m : Nat) : Prop := (t.desc m).kind = .posted ∧
  (((t.desc m).state = .delayed ∧ (t.desc m).dlist = l) ∨ ((t.desc m).state ≠ .delayed ∧ m ∉ t.delayList l))

theorem delayList_cancelTask (h : t.flushable l m) : (t.cancelTask m).delayList l = (t.delayList l).filter (fun j => j != m) := by
  obtain ⟨hkind, ⟨hdelayed, hlist⟩ | ⟨hready, hgone⟩⟩ := h
  · rw [cancelTask_posted hkind, if_pos hdelayed, hlist]
    exact delayList_setDelayList t l _
  · rw [cancelTask_posted hkind, if_neg hready]
    refine (List.filter_eq_self.mpr fun j hj => ?_).symm
    exact bne_iff_ne.mpr fun hjm => hgone (hjm ▸ hj)

/-- What FLUSH may cancel it may cancel still when it has cancelled another. -/
theorem flushable_cancelTask {j : Nat} (hm : t.flushable l m) (hj : t.flushable l j) : (t.cancelTask m).flushable l j := by
  unfold State.flushable
  rw [delayList_cancelTask hm, desc_cancelTask hm.1]
  by_cases hjm : j = m
  · rw [if_pos hjm]
    exact ⟨rfl, .inr ⟨by decide, by simp [hjm]⟩⟩
  · obtain ⟨hkind, hplace⟩ := hj
    rw [if_neg hjm]
    exact ⟨hkind, hplace.imp_right fun ⟨hready, hgone⟩ => ⟨hready, fun hmem => hgone (List.mem_of_mem_filter hmem)⟩⟩

theorem desc_foldl_cancelTask (q : List Nat) (h : ∀ m ∈ q, t.flushable l m) (j : Nat) :
    (q.foldl (fun u m => u.cancelTask m) t).desc j = if j ∈ q then Desc.blank else t.desc j := by
  induction q generalizing t with
  | nil => rfl
  | cons m q ih =>
    have hm := h m List.mem_cons_self
    rw [List.foldl_cons, ih fun k hk => flushable_cancelTask hm (h k (List.mem_cons_of_mem _ hk)), desc_cancelTask hm.1]
    by_cases hjq : j ∈ q <;> by_cases hjm : j = m <;> simp [hjq, hjm]

theorem delayList_foldl_cancelTask (q : List Nat) (h : ∀ m ∈ q, t.flushable l m) :
    (q.foldl (fun u m => u.cancelTask m) t).delayList l = (t.delayList l).filter (fun j => decide (j ∉ q)) := by
  induction q generalizing t with
  | nil => simp
  | cons m q ih =>
    have hm := h m List.mem_cons_self
    rw [List.foldl_cons, ih fun k hk => flushable_cancelTask hm (h k (List.mem_cons_of_mem _ hk)), delayList_cancelTask hm,
      List.filter_filter]
    refine List.filter_congr fun j _ => ?_
    by_cases hjm : j = m <;> simp [hjm]

theorem disFlush_flushes (hbusy : s.dis.busy = false) (hl : l < 8)
    (h : ∀ m ∈ s.delayList l, (s.desc m).state = .delayed ∧ (s.desc m).kind = .posted ∧ (s.desc m).dlist = l) :
    (s.disFlush l).dis.busy = true ∧ (s.disFlush l).delayList l = [] ∧ (∀ m, m ∈ s.delayList l → (s.disFlush l).desc m = Desc.blank) ∧
      ∀ m, m ∉ s.delayList l → (s.disFlush l).desc m = s.desc m := by
  have hflush : ∀ m ∈ (s.accept disPort).delayList l, (s.accept disPort).flushable l m := fun m hm =>
    have ⟨hdelayed, hkind, hlist⟩ := h m hm
    ⟨hkind, .inl ⟨hdelayed, hlist⟩⟩
  have hdesc := desc_foldl_cancelTask _ hflush
  unfold State.disFlush
  rw [command_accepted _ rfl hbusy (decide_eq_false (by omega)), Nat.mod_eq_of_lt hl]
  refine ⟨rfl, (delayList_foldl_cancelTask _ hflush).trans (by simp), fun m hm => (hdesc m).trans (if_pos hm),
    fun m hm => (hdesc m).trans (if_neg hm)⟩

/-! ### FLUSH_DONE and the instructions that waited (R131, R138) -/

/-- No DONE or POST waits in core `c`. -/
def State.noneWaits (s : State) (c : CoreId) : Prop := ∀ x y, (s.core c).run ≠ .disp x y

theorem serveDisp_idle (h : s.noneWaits c) : s.serveDisp c = s := by
  unfold State.serveDisp
  dsimp only
  split
  next hrun => exact absurd hrun (h _ _)
  next hrun => exact absurd hrun (h _ _)
  next => rfl

theorem foldl_serveDisp_idle (q : List CoreId) (h : ∀ c ∈ q, s.noneWaits c) : q.foldl (fun t c => t.serveDisp c) s = s := by
  induction q with
  | nil => rfl
  | cons c q ih =>
    rw [List.foldl_cons, serveDisp_idle (h c List.mem_cons_self)]
    exact ih fun e he => h e (List.mem_cons_of_mem _ he)

/-- The state in which the instruction that waited in core `c` has retired with result `r` in register `d`. -/
def State.waitEnds (s : State) (c : CoreId) (d : Nat) (r : Word) : State :=
  s.setCore c { (s.core c).setReg d r with run := .running, pc := (s.core c).pc + 4 }

/-- A DONE of a core without a current task answers 1 (R128). -/
theorem serveDisp_done {r p : Nat} (hrun : (s.core c).run = .disp r (.done p)) (hcur : (s.disCore c.num).cur = none) :
    s.serveDisp c = s.waitEnds c r 1 := by
  unfold State.serveDisp
  simp only [hrun, taskDone_idle hcur]
  rfl

/-- A POST that names no template answers 3 (R129). -/
theorem serveDisp_post {r x p : Nat} {arg : Word} (hrun : (s.core c).run = .disp r (.post x arg p)) (hx : (s.desc x).state ≠ .template) :
    s.serveDisp c = s.waitEnds c r 3 := by
  unfold State.serveDisp
  simp only [hrun, post_unnamed arg (.inr hx)]
  rfl

/-- Where one core alone holds an instruction that waits, its service is all that happens. -/
theorem serveWaiting_one {r : Nat} {w : Word} (hwaits : s.disWaits = false) (hothers : ∀ e, e ≠ c → s.noneWaits e)
    (hserved : s.serveDisp c = s.waitEnds c r w) : s.serveWaiting = s.waitEnds c r w := by
  have hdone : ∀ e, (s.waitEnds c r w).noneWaits e := by
    intro e x y
    by_cases he : e = c
    · subst he
      rw [State.waitEnds, core_setCore]
      exact CoreRun.noConfusion
    · rw [State.waitEnds, core_setCore_ne _ _ he]
      exact hothers e he x y
  obtain ⟨before, after, hcores, hfirst⟩ := List.eq_append_cons_of_mem (show c ∈ allCores by cases c <;> decide)
  unfold State.serveWaiting
  rw [hwaits, if_neg Bool.false_ne_true, hcores, List.foldl_append, List.foldl_cons,
    foldl_serveDisp_idle before fun e he => hothers e fun hec => hfirst (hec ▸ he), hserved,
    foldl_serveDisp_idle after fun e _ => hdone e]

/-- The state in which the FLUSH has ended. -/
def State.flushed (t : State) : State := { t with dis := { t.dis with busy := false } }

@[simp] theorem core_flushed (t : State) (e : CoreId) : t.flushed.core e = t.core e := by cases e <;> rfl

theorem disWaits_flushed (hcopies : t.beat.copying = []) : t.flushed.disWaits = false := by
  simp [State.disWaits, State.flushed, hcopies]

theorem noneWaits_flushed (h : t.noneWaits c) : t.flushed.noneWaits c := by
  unfold State.noneWaits
  rw [core_flushed]
  exact h

/-- FLUSH_DONE serves nothing while shadow copies run, nor where nothing waits. -/
theorem flushDone_clears (h : t.beat.copying ≠ [] ∨ ∀ e, t.noneWaits e) : exec .flushDone t = .next t.flushed := by
  refine congrArg Host.Outcome.next (?_ : t.flushed.serveWaiting = t.flushed)
  unfold State.serveWaiting
  split
  next => rfl
  next hwaits =>
    have hidle : ∀ e, t.noneWaits e := h.resolve_left fun hcopies => hwaits (by simp [State.disWaits, State.flushed, hcopies])
    exact foldl_serveDisp_idle _ fun e _ => noneWaits_flushed (hidle e)

theorem flushDone_serves {r : Nat} {w : Word} (hcopies : t.beat.copying = []) (hothers : ∀ e, e ≠ c → t.noneWaits e)
    (hserved : t.flushed.serveDisp c = t.flushed.waitEnds c r w) : Ends .flushDone t (fun u => u.dis.busy = false ∧
      u.core c = { (t.core c).setReg r w with run := .running, pc := (t.core c).pc + 4 }) := by
  have hserve : exec .flushDone t = .next (t.flushed.waitEnds c r w) := congrArg Host.Outcome.next
    (serveWaiting_one (disWaits_flushed hcopies) (fun e he => noneWaits_flushed (hothers e he)) hserved)
  refine ⟨_, hserve, ?_, ?_⟩
  · rw [State.waitEnds, dis_setCore]
    rfl
  · rw [State.waitEnds, core_setCore, core_flushed]

/-! ### DIS_DWIN (R135, R137) -/

/-- What a write of `v` to each of the eight words leaves of a descriptor. -/
def Desc.written (d : Desc) (v : Word) : List Desc :=
  [{ d with entry := v }, { d with arg := v },
    { d with prio := v.toNat % 16, cores := v.toNat / 16 % 16, dlist := v.toNat / 256 % 8 }, { d with delay := v }, d, d,
    { d with sen := v.msb, sargt := bitOf v 30, sidx := v.toNat % 4096 }, { d with tag := v }]

theorem bitOf_31 (v : Word) : bitOf v 31 = v.msb := (BitVec.msb_eq_getLsbD_last v).symm

theorem written_setWord (d : Desc) (v : Word) (w : Fin 8) : (d.written v)[w.val]? = some (d.setWord w.val v) := by
  fin_cases w <;> simp [Desc.written, Desc.setWord, bitOf_31, fieldOf, Nat.shiftRight_eq_div_pow]

theorem writeDwin_refused {x : Nat} (hx : x = s.fld DIS_DSEL 0 12) (hfree : (s.desc x).state ≠ .free)
    (htpl : (s.desc x).state ≠ .template) (hbound : (s.desc x).state ≠ .bound) (w : Nat) :
    s.writeDwin w v = s.reject disPort ST_STATE := by
  subst hx
  unfold State.writeDwin
  exact command_rejected_state _ (by simp [hfree, htpl, hbound])

/-- Word `w` of a TEMPLATE or BOUND descriptor takes `v`: a legal ENTRY and CORES, and SEN 0. -/
def Desc.takes (w : Nat) (v : Word) : Prop :=
  (w = 0 → v ≠ 0 ∧ v.toNat % 4 = 0) ∧ (w = 2 → v.toNat / 16 % 16 ≠ 0) ∧ (w = 6 → v.msb = false)

/-- No check of a write to a TEMPLATE or BOUND descriptor objects to such a word (R137). -/
theorem takes_legal {w : Nat} (h : Desc.takes w v) (n : Nat) (self : Bool) (d : Desc) :
    ((w == 0 && !entryOk v) || (w == 2 && (d.setWord w v).cores == 0) || (w == 6 && !s.successorOk n self (d.setWord w v))) = false := by
  obtain ⟨hentry, hcores, hsen⟩ := h
  have h0 : (w == 0 && !entryOk v) = false := by
    by_cases hw : w = 0
    · simp [entryOk_iff.mpr (hentry hw)]
    · simp [hw]
  have h2 : (w == 2 && (d.setWord w v).cores == 0) = false := by
    by_cases hw : w = 2
    · have hset : (d.setWord 2 v).cores = v.toNat / 16 % 16 := by simp [Desc.setWord, fieldOf, Nat.shiftRight_eq_div_pow]
      simpa [hw, hset] using hcores hw
    · simp [hw]
  have h6 : (w == 6 && !s.successorOk n self (d.setWord w v)) = false := by
    by_cases hw : w = 6
    · have hset : (d.setWord 6 v).sen = false := (bitOf_31 v).trans (hsen hw)
      simp [hw, State.successorOk, hset]
    · simp [hw]
  rw [h0, h2, h6]
  rfl

theorem writeDwin_stores {w : Nat} (hbusy : s.dis.busy = false) (hlegal : (s.desc (s.fld DIS_DSEL 0 12)).state = .free ∨
    (((s.desc (s.fld DIS_DSEL 0 12)).state = .template ∨ (s.desc (s.fld DIS_DSEL 0 12)).state = .bound) ∧ Desc.takes w v)) :
    Rewritten s (s.writeDwin w v) (s.fld DIS_DSEL 0 12) ((s.desc (s.fld DIS_DSEL 0 12)).setWord w v) := by
  generalize hx : s.fld DIS_DSEL 0 12 = x at hlegal ⊢
  suffices hwrite : s.writeDwin w v = (s.accept disPort).setDesc x ((s.desc x).setWord w v) by
    rw [hwrite]
    exact rewritten_setDesc s x _
  unfold State.writeDwin
  rw [hx]
  obtain hfree | ⟨hmade, htakes⟩ := hlegal
  · exact command_accepted _ rfl (by simp [hbusy, hfree]) (by simp [hfree])
  · refine command_accepted _ rfl ?_ (by rw [takes_legal htakes, Bool.and_false])
    obtain htpl | hbound := hmade
    · simp [hbusy, htpl]
    · simp [hbusy, hbound]

/-! ### DIS_TICK, DIS_CORE and DIS_BIND (R143, R150, R154) -/

theorem writeTick_stores (hbusy : s.dis.busy = false) (hempty : ∀ l, l < 8 → s.delayList l = []) :
    (s.writeTick v).rg DIS_TICK = v &&& 0x7F ∧ SameRegsBut s (s.writeTick v) [DIS_TICK, DIS_CMDST] := by
  have hstate : (s.dis.busy || (List.range 8).any (fun l => s.delayList l != [])) = false := by
    simp only [hbusy, Bool.false_or, List.any_eq_false, List.mem_range]
    exact fun l hl => by simp [hempty l hl]
  unfold State.writeTick
  rw [command_accepted _ rfl hstate rfl]
  exact ⟨rg_setRg_same _ _ _, (((WritesOnly.refl _ s).accept (by simp [disPort])).setRg (by simp) _).sameRegsBut⟩

theorem writeDisCore_noSlot (hslot : (s.disCore n).slot = none) : s.writeDisCore n v = s.setRg (DIS_CORE n) (v &&& 0xFFFF0F01) := by
  have hnone : ((s.setRg (DIS_CORE n) (v &&& 0xFFFF0F01)).disCore n).slot = none := hslot
  unfold State.writeDisCore
  simp only [hnone]

theorem writeBind_stores (hbusy : s.dis.busy = false) (hoff : v.msb = false) (hwas : s.bit (DIS_BIND n) 31 = false) :
    (s.writeBind n v).rg (DIS_BIND n) = v &&& 0x8FFF03FF ∧ (s.writeBind n v).fld DIS_CMDST 0 4 = 0 := by
  have hen : bitOf v 31 = false := (bitOf_31 v).trans hoff
  have hne : DIS_CMDST ≠ DIS_BIND n := by
    unfold DIS_CMDST DIS_BIND
    omega
  unfold State.writeBind
  rw [command_accepted _ rfl (by simp [hbusy, hen, hwas]) (by simp [hen])]
  refine ⟨rg_setRg_same _ _ _, (fld_congr (rg_setRg_ne (s.accept disPort) _ hne) 0 4).trans ?_⟩
  exact st_accept s disPort

/-! ### The statement -/

/-- Settles O20: each clause is the rule of its command above, run where the fabric serves the write. -/
theorem dispatcherCommands : Obligations.DispatcherCommands := by
  intro s i n w v c b hbusy d ok made good x e
  have hready : ∀ {d' : Desc}, ok 4 → d.state = .bound → d.readied s.disTime = d' → made (.disReady i n) d' := by
    intro d' hs hstate hd'
    subst hd'
    refine ends_served hs rfl ?_
    rw [disReady_accepted hbusy hstate]
    exact rewritten_makeReady s n.val
  have hmake : good → ∀ tpl, Rewritten s (s.disMake n.val tpl) n.val
      { d with state := if tpl then .template else .bound, kind := if tpl then .template else .bound } := by
    rintro ⟨hfree, hne, halign, hcores, hsen⟩ tpl
    exact disMake_makes hbusy hfree (entryOk_iff.mpr ⟨hne, halign⟩) hcores hsen tpl
  refine ⟨fun hs hgood => ends_served hs rfl (hmake hgood true), fun hs hgood => ends_served hs rfl (hmake hgood false),
    fun hs hstate hunused => ends_served hs rfl (disFree_frees hbusy hstate hunused),
    fun hs hstate hdelay => hready hs hstate (if_pos hdelay), fun hs hstate hdelay => ⟨hready hs hstate (if_neg hdelay), ?_⟩,
    fun hs hbound hhalted => ?_, fun hs hstate hkind => ends_served hs rfl (disCancel_frees hbusy hstate hkind),
    fun hs hn hlist => ends_served hs rfl (disFlush_flushes hbusy hn hlist), fun t h => flushDone_clears h,
    fun t k r p hcopies hothers => ⟨fun hrun hcur => ?_, fun tpl arg hrun htpl => ?_⟩, fun hs hfree htpl hbound => ?_,
    fun e' hs hlegal he' => ?_, fun hs hempty => ends_served hs rfl (writeTick_stores hbusy hempty), fun hs hslot => ?_,
    fun hs hoff hwas => ends_served hs rfl (writeBind_stores hbusy hoff hwas)⟩
  · refine ends_served hs rfl ?_
    rw [disReady_accepted hbusy hstate]
    exact mem_delayList_makeReady (s := s.accept disPort) hdelay
  · rw [exec_served hs rfl, disReady_refused hbound hhalted]
  · exact flushDone_serves hcopies (fun e he x y => hothers e x y he)
      (serveDisp_done ((congrArg Core.run (core_flushed t k)).trans hrun) hcur)
  · exact flushDone_serves hcopies (fun e he x y => hothers e x y he)
      (serveDisp_post ((congrArg Core.run (core_flushed t k)).trans hrun) htpl)
  · rw [exec_served hs rfl, writeDwin_refused rfl hfree htpl hbound]
  · have hset : e.setWord w.val v = e' := Option.some.inj ((written_setWord e v w).symm.trans he')
    obtain ⟨hself, hothers, hstatus, _⟩ := writeDwin_stores hbusy hlegal
    exact ends_served hs rfl ⟨hself.trans hset, hothers, hstatus⟩
  · refine ends_served hs rfl ?_
    rw [writeDisCore_noSlot hslot]
    exact ⟨rg_setRg_same _ _ _, ((WritesOnly.refl _ s).setRg (by simp) _).sameRegsBut, rfl⟩

end Sys2Proof.Machine
end

section
/-! The Dispatcher's own steps (spec/05 R143 to R149, R153, R155; spec/06 R179): time, the choice of a task, hand-overs, palm slots and
offered sources, and the statement DispatcherEvents. -/

namespace Sys2Proof.Machine

variable {s t u : State} {n : Fin 4} {idx old src pick d m : Nat}

/-! ### Time and delay lists (R143, R144) -/

theorem delayWake_wakes {l : Fin 8} {rest : List Nat} (hlist : s.delayList l.val = m :: rest) (hdue : (s.desc m).wake ≤ s.disTime) :
    exec (.delayWake l) s = .next ((s.setDelayList l.val rest).setDesc m { s.desc m with state := .ready, wake := 0 }) := by
  show execDelayWake l s = _
  simp only [execDelayWake, hlist, if_pos hdue, done]

/-! ### The choice of a task (R145) -/

theorem foldl_min_le {α : Type} (f : α → Nat) (q : List α) (b : Nat) :
    q.foldl (fun x i => min x (f i)) b ≤ b ∧ ∀ i ∈ q, q.foldl (fun x i => min x (f i)) b ≤ f i := by
  induction q generalizing b with
  | nil => exact ⟨Nat.le_refl b, fun i hi => absurd hi List.not_mem_nil⟩
  | cons j q ih =>
    obtain ⟨hbase, hall⟩ := ih (min b (f j))
    refine ⟨hbase.trans (Nat.min_le_left _ _), fun i hi => ?_⟩
    obtain rfl | hmem := List.mem_cons.mp hi
    · exact hbase.trans (Nat.min_le_right _ _)
    · exact hall i hmem

/-- A key that does not read as its default is listed. -/
theorem mem_keys_of_smGet_ne {α : Type} {dflt : Nat → α} {q : List (Nat × α)} {k : Nat} (h : smGet dflt q k ≠ dflt k) :
    k ∈ q.map (fun e => e.1) := by
  induction q with
  | nil => exact absurd rfl h
  | cons e q ih =>
    by_cases hk : k = e.1
    · exact List.mem_cons.mpr (.inl hk)
    · rw [smGet, if_neg hk] at h
      exact List.mem_cons_of_mem _ (ih h)

/-- An eligible task is READY, so its descriptor is listed. -/
theorem mem_keys_of_taskEligible {k : Nat} (h : s.taskEligible idx k = true) : idx ∈ s.dis.desc.map (fun e => e.1) := by
  refine mem_keys_of_smGet_ne (dflt := fun _ => Desc.blank) fun hblank => ?_
  have hready : (s.desc idx).state = .ready := by
    simp only [State.taskEligible, Bool.and_eq_true, beq_iff_eq] at h
    exact h.1.1
  rw [State.desc, hblank] at hready
  exact absurd hready (by decide)

/-- A candidate is eligible, and no eligible task has a lower PRIO. -/
theorem candidates_best {k : Nat} (h : idx ∈ s.candidates k) :
    s.taskEligible idx k = true ∧ ∀ m, s.taskEligible m k = true → (s.desc idx).prio ≤ (s.desc m).prio := by
  unfold State.candidates at h
  dsimp only at h
  obtain ⟨hmem, hbest⟩ := List.mem_filter.mp h
  obtain ⟨_, heligible⟩ := List.mem_filter.mp hmem
  refine ⟨heligible, fun m hm => ?_⟩
  rw [eq_of_beq hbest]
  exact (foldl_min_le _ _ _).2 m (List.mem_filter.mpr ⟨mem_keys_of_taskEligible hm, hm⟩)

theorem choose_best {k : Nat} (h : s.choose k pick = some idx) :
    s.taskEligible idx k = true ∧ ∀ m, s.taskEligible m k = true → (s.desc idx).prio ≤ (s.desc m).prio :=
  candidates_best (List.mem_of_getElem? h)

/-! ### A task handed to a core (R125, R126, R147) -/

theorem app_val (n : Fin 4) : CoreId.app ⟨n.val % 4, Nat.mod_lt _ (by decide)⟩ = CoreId.app n :=
  congrArg CoreId.app (Fin.ext (Nat.mod_eq_of_lt n.isLt))

theorem deliverTask_eq (s : State) (n : Fin 4) (idx d : Nat) : s.deliverTask n.val idx d =
    ((s.setDesc idx { s.desc idx with state := .running, core := n.val }).setDisCore n.val
      { s.disCore n.val with cur := some idx }).setCore (.app n)
        (((s.core (.app n)).setReg d (s.desc idx).entry).setReg (d + 1) (s.desc idx).arg) := by
  simp only [State.deliverTask, app_val, core_setDisCore, core_setDesc, disCore_setDesc]

theorem retireTake_eq (s : State) (n : Fin 4) (idx d : Nat) :
    s.retireTake n.val idx d = (s.deliverTask n.val idx d).wakeCore (.app n) (fun q => q) := by
  simp only [State.retireTake, app_val]
  rfl

/-- The waking of a core leaves what the Dispatcher holds. -/
@[simp] theorem dis_wakeCore (s : State) (c : CoreId) (f : Core → Core) : (s.wakeCore c f).dis = s.dis := by
  unfold State.wakeCore State.leaveDoze
  dsimp only
  split
  · exact dis_setCore s c _
  · exact dis_setCore s c _

/-- From `s` to `u` core `n`, blocked in TAKE, has received descriptor `idx` in registers `d` and `d + 1`, and its TAKE has retired. -/
def TaskReceived (s u : State) (n : Fin 4) (idx d : Nat) : Prop := (u.desc idx).state = .running ∧ (u.desc idx).core = n.val ∧
  (u.disCore n.val).cur = some idx ∧ (u.core (.app n)).reg d = (s.desc idx).entry ∧ (u.core (.app n)).reg (d + 1) = (s.desc idx).arg ∧
  (u.core (.app n)).run = .running ∧ (u.core (.app n)).pc = (s.core (.app n)).pc + 4 ∧ u.mem = s.mem

theorem retireTake_receives (s : State) (n : Fin 4) (idx d : Nat) : TaskReceived s (s.retireTake n.val idx d) n idx d := by
  have hgiven : (s.deliverTask n.val idx d).core (.app n) =
      ((s.core (.app n)).setReg d (s.desc idx).entry).setReg (d + 1) (s.desc idx).arg := by
    rw [deliverTask_eq, core_setCore]
  obtain ⟨hcore, _, _, hmem, _⟩ := wakeCore_spec hgiven (fun q => q)
  have hdesc : (s.retireTake n.val idx d).desc idx = { s.desc idx with state := .running, core := n.val } := by
    rw [State.desc, retireTake_eq, dis_wakeCore, deliverTask_eq, dis_setCore]
    exact desc_setDesc_same s idx _
  have hcur : (s.retireTake n.val idx d).disCore n.val = { s.disCore n.val with cur := some idx } := by
    rw [State.disCore, retireTake_eq, dis_wakeCore, deliverTask_eq, dis_setCore]
    exact disCore_setDisCore _ n.val _
  unfold TaskReceived
  rw [hdesc, hcur, retireTake_eq, hcore, hmem, deliverTask_eq, mem_setCore]
  refine ⟨rfl, rfl, rfl, ?_, reg_setReg_same _ _ _, rfl, rfl, rfl⟩
  exact (reg_setReg_ne _ _ (Nat.ne_of_lt (Nat.lt_succ_self d))).trans (reg_setReg_same _ _ _)

theorem taskHandover_receives (hpalm : s.palm n.val = false) (hwaits : s.disWaits = false) (htake : s.inTake n.val = some d)
    (hchoose : s.choose n.val pick = some idx) (hfirst : s.firstReceiver idx n.val = true) :
    exec (.taskHandover n pick) s = .next (s.retireTake n.val idx d) := by
  show execTaskHandover n pick s = _
  simp only [execTaskHandover, hpalm, hwaits, htake, hchoose, hfirst, Bool.or_self, Bool.false_eq_true, if_false, if_true, done]

/-! ### Palm slots (R148) -/

theorem inTake_congr (h : ∀ e, t.core e = s.core e) (k : Nat) : t.inTake k = s.inTake k := by
  unfold State.inTake
  rw [h]

theorem fillSlot_eq {k : Nat} (htake : s.inTake k = none) (idx : Nat) : s.fillSlot k idx =
    (s.setDesc idx { s.desc idx with state := .slotted, core := k }).setDisCore k
      { s.disCore k with slot := some idx, slotAt := s.disTime } := by
  simp only [State.fillSlot, htake]
  rfl

theorem unslot_eq {k : Nat} (hslot : (s.disCore k).slot = some old) : s.unslot k =
    (s.setDesc old { s.desc old with state := .ready, core := 0 }).setDisCore k { s.disCore k with slot := none, slotAt := 0 } := by
  simp only [State.unslot, hslot]
  rfl

theorem core_unslot {k : Nat} (hslot : (s.disCore k).slot = some old) (e : CoreId) : (s.unslot k).core e = s.core e := by
  rw [unslot_eq hslot, core_setDisCore, core_setDesc]

theorem inTake_unslot {k : Nat} (hslot : (s.disCore k).slot = some old) (j : Nat) : (s.unslot k).inTake j = s.inTake j :=
  inTake_congr (core_unslot hslot) j

theorem palm_unslot {k : Nat} (hslot : (s.disCore k).slot = some old) (j : Nat) : (s.unslot k).palm j = s.palm j := by
  rw [unslot_eq hslot]
  rfl

/-- The task that leaves a palm slot is READY again and keeps its fields. -/
theorem desc_unslot_self {k : Nat} (hslot : (s.disCore k).slot = some old) :
    (s.unslot k).desc old = { s.desc old with state := .ready, core := 0 } := by
  rw [unslot_eq hslot, desc_setDisCore, desc_setDesc_same]

theorem slotFill_fills (hpalm : s.palm n.val = true) (hwaits : s.disWaits = false) (hslot : (s.disCore n.val).slot = none)
    (hchoose : s.choose n.val pick = some idx) (hfirst : s.firstReceiver idx n.val = true) :
    exec (.slotFill n pick) s = .next (s.fillSlot n.val idx) := by
  show execSlotFill n pick s = _
  simp only [execSlotFill, hpalm, hwaits, hslot, hchoose, hfirst, Bool.not_true, Bool.or_self, Option.isSome_none, Bool.false_eq_true,
    if_false, if_true, done]

theorem slotSwap_swaps (hpalm : s.palm n.val = true) (hwaits : s.disWaits = false) (hslot : (s.disCore n.val).slot = some old)
    (hchoose : s.choose n.val pick = some idx) (hprio : (s.desc idx).prio < (s.desc old).prio) :
    exec (.slotSwap n pick) s = .next ((s.unslot n.val).fillSlot n.val idx) := by
  show execSlotSwap n pick s = _
  simp only [execSlotSwap, hpalm, hwaits, hslot, hchoose, if_pos hprio, Bool.not_true, Bool.or_self, Bool.false_eq_true, if_false, done]

/-- Filling the slot of a core that is not in TAKE makes the task SLOTTED there. -/
theorem fillSlot_slots (htake : s.inTake n.val = none) (idx : Nat) : ((s.fillSlot n.val idx).desc idx).state = .slotted ∧
    ((s.fillSlot n.val idx).desc idx).core = n.val ∧ ((s.fillSlot n.val idx).disCore n.val).slot = some idx ∧
    (s.fillSlot n.val idx).regs = s.regs ∧ (s.fillSlot n.val idx).mem = s.mem := by
  rw [fillSlot_eq htake, desc_setDisCore, desc_setDesc_same, disCore_setDisCore]
  exact ⟨rfl, rfl, rfl, rfl, rfl⟩

theorem desc_fillSlot_ne {k : Nat} (htake : s.inTake k = none) (h : m ≠ idx) : (s.fillSlot k idx).desc m = s.desc m := by
  rw [fillSlot_eq htake, desc_setDisCore, desc_setDesc_ne _ _ h]

/-! ### A slotted task that waited too long (R149) -/

/-- Core `m` may take over the task slotted in core `k`, as state `t` without the slot shows it. -/
def State.mayMigrate (t : State) (k idx m : Nat) : Bool := m != k && !t.palm m && (t.inTake m).isSome && t.taskEligible idx m

theorem slotMigrate_moves {m : Fin 4} (hslot : (s.disCore n.val).slot = some idx) (hwaits : s.disWaits = false)
    (hage : s.fld (DIS_CORE n.val) 16 16 ≠ 0) (hold : s.fld (DIS_CORE n.val) 16 16 < s.disTime - (s.disCore n.val).slotAt)
    (htake : (s.unslot n.val).inTake m.val = some d) (hmay : (s.unslot n.val).mayMigrate n.val idx m.val = true)
    (hlowest : ∀ j, j < m.val → (s.unslot n.val).mayMigrate n.val idx j = false) :
    exec (.slotMigrate n) s = .next ((s.unslot n.val).retireTake m.val idx d) := by
  have hfind : (List.range 4).find? (fun j => (s.unslot n.val).mayMigrate n.val idx j) = some m.val :=
    List.find?_range_eq_some.mpr ⟨hmay, List.mem_range.mpr m.isLt, fun j hj => by rw [hlowest j hj]; rfl⟩
  unfold State.mayMigrate at hfind
  show execSlotMigrate n s = _
  simp only [execSlotMigrate, hslot, if_pos (And.intro hage (And.intro hold hwaits)), hfind, htake, done]

/-- A core is passed over that is the task's own, in Palm mode, not in TAKE, or not one that may run it. -/
theorem mayMigrate_false {k j : Nat} (h : j = k ∨ t.palm j = true ∨ t.inTake j = none ∨ t.taskEligible idx j = false) :
    t.mayMigrate k idx j = false := by
  unfold State.mayMigrate
  obtain h | h | h | h := h <;> simp [h]

/-! ### Offered sources (R153, R155, R179) -/

theorem isActive_congr (h : t.ecx.claims = s.ecx.claims) (src : Nat) : t.isActive src = s.isActive src := by
  simp only [State.isActive, State.claimOf, h]

theorem isActive_deliver (s : State) (src tgt : Nat) (by_ : ClaimBy) : (s.deliver src tgt by_).isActive src = true := by
  simp [State.isActive, State.claimOf, State.deliver]

theorem pendOf_deliver (s : State) (src tgt : Nat) (by_ : ClaimBy) : (s.deliver src tgt by_).pendOf src = false :=
  bit_setBit_same s _ _ false (Nat.mod_lt _ (by decide))

@[simp] theorem ecx_makeReady (s : State) (n : Nat) : (s.makeReady n).ecx = s.ecx := by
  unfold State.makeReady
  dsimp only
  split <;> rfl

theorem claims_setPend (s : State) (src : Nat) (b : Bool) : (s.setPend src b).ecx.claims = s.ecx.claims := by
  unfold State.setPend
  split <;> rfl

theorem claims_event (s : State) (evt b src : Nat) : (s.event evt b src).ecx.claims = s.ecx.claims := by
  unfold State.event State.raise
  split
  · rfl
  · exact claims_setPend _ _ _

/-- The state in which source `src` has been offered. -/
def State.offered (s : State) (src : Nat) : State := { s with ecx := { s.ecx with offerAt := src + 1 } }

/-- The state in which source `src` has been delivered to the Dispatcher for bound descriptor `idx`. -/
def State.boundTaken (s : State) (src idx : Nat) : State :=
  { s.deliver src 5 .dispatcher with
    dis := { s.dis with madeReadyBy := (idx, src) :: s.dis.madeReadyBy.filter (fun e => e.1 != idx) } }

/-- The state in which source `src`, bound to no descriptor, has been recorded. -/
def State.unboundTaken (s : State) (src : Nat) : State :=
  let t := (s.setRg DIS_UNBOUND (w32 src)).event DIS_EVT 3 35
  { t with dis := { t.dis with unboundSeen := src :: t.dis.unboundSeen } }

theorem ecxOffer_bound (hoffer : s.nextOffer = some src) (hbind : s.bindingOf src = some idx) (hstate : (s.desc idx).state = .bound) :
    exec .ecxOffer s = .next (((s.offered src).boundTaken src idx).makeReady idx) := by
  have hbind' : (s.offered src).bindingOf src = some idx := hbind
  have hstate' : ((s.offered src).desc idx).state = .bound := hstate
  unfold State.offered at hbind' hstate'
  show execEcxOffer s = _
  simp only [execEcxOffer, hoffer, hbind', if_pos hstate', done]
  rfl

theorem ecxOffer_unbound (hoffer : s.nextOffer = some src) (hbind : s.bindingOf src = none)
    (hnew : s.dis.unboundSeen.contains src = false) : exec .ecxOffer s = .next ((s.offered src).unboundTaken src) := by
  have hbind' : (s.offered src).bindingOf src = none := hbind
  unfold State.offered at hbind'
  show execEcxOffer s = _
  simp only [execEcxOffer, hoffer, hbind', hnew, Bool.false_eq_true, if_false, done]
  rfl

/-- A bound source is delivered, and its descriptor becomes READY or DELAYED. -/
theorem makeReady_boundTaken (s : State) (src idx : Nat) :
    ((s.boundTaken src idx).makeReady idx).desc idx = (s.desc idx).readied (s.boundTaken src idx).disTime ∧
      ((s.boundTaken src idx).makeReady idx).isActive src = true ∧ ((s.boundTaken src idx).makeReady idx).pendOf src = false := by
  have hkeeps := (WritesOnly.refl (fun _ => False) (s.boundTaken src idx)).makeReady idx
  refine ⟨(desc_makeReady _ _ _).trans (if_pos rfl), ?_, (bit_congr (hkeeps.rg _ id) _).trans (pendOf_deliver s src 5 .dispatcher)⟩
  rw [isActive_congr (s := s.deliver src 5 .dispatcher) (by rw [ecx_makeReady]; rfl)]
  exact isActive_deliver s src 5 .dispatcher

theorem unboundTaken_records (s : State) (src : Nat) : (s.unboundTaken src).rg DIS_UNBOUND = w32 src ∧
    (s.unboundTaken src).bit DIS_EVT 3 = true ∧ (s.unboundTaken src).isActive src = s.isActive src := by
  refine ⟨?_, bit_event_self _ _ _ _ (by decide) (by decide), isActive_congr (claims_event _ _ _ _) src⟩
  exact (rg_event_ne _ _ _ _ (by decide) (by decide)).trans (rg_setRg_same _ _ _)

/-! ### The statement -/

/-- Settles O21: each clause is the rule of its step above. -/
theorem dispatcherEvents : Obligations.DispatcherEvents := by
  intro s l n pick idx d v runs slots
  refine ⟨?_, fun m rest hlist hdue => ⟨_, delayWake_wakes hlist hdue, delayList_setDelayList s l.val rest, desc_setDesc_same _ _ _,
      fun j hj => desc_setDesc_ne _ _ hj⟩,
    choose_best, fun hpalm hwaits htake hchoose hfirst => ⟨_, taskHandover_receives hpalm hwaits htake hchoose hfirst,
      retireTake_receives s n idx d⟩,
    fun hpalm hwaits hslot htake hchoose hfirst => ?_, fun old hpalm hwaits hslot htake hchoose hprio => ?_,
    fun m hslot hwaits hage hold hne hpalm htake heligible hlowest => ?_, fun src hoffer hbind hstate hdelay => ?_,
    fun src hoffer hbind hstate hdelay => ?_, fun src hoffer hbind hnew => ?_⟩
  · exact ⟨_, rfl, rg64_setRg64 _ _ _, (((WritesOnly.refl _ s).setRg (by simp) _).setRg (by simp) _).sameRegsBut⟩
  · obtain ⟨hstate, hcore, hfilled, hregs, hmem⟩ := fillSlot_slots htake idx
    exact ⟨_, slotFill_fills hpalm hwaits hslot hchoose hfirst, hstate, hcore, hfilled, hregs, hmem,
      fun old hold => nomatch hslot.symm.trans hold⟩
  · have htake' : (s.unslot n.val).inTake n.val = none := (inTake_unslot hslot n.val).trans htake
    obtain ⟨hstate, hcore, hfilled, hregs, hmem⟩ := fillSlot_slots htake' idx
    refine ⟨_, slotSwap_swaps hpalm hwaits hslot hchoose hprio, hstate, hcore, hfilled, ?_, ?_, fun other hother => ?_⟩
    · rw [hregs, unslot_eq hslot]
      rfl
    · rw [hmem, unslot_eq hslot]
      rfl
    · obtain rfl : old = other := Option.some.inj (hslot.symm.trans hother)
      have hdiffer : old ≠ idx := fun h => by
        subst h
        exact Nat.lt_irrefl _ hprio
      rw [desc_fillSlot_ne htake' hdiffer, desc_unslot_self hslot]
  · have htake' := (inTake_unslot hslot m.val).trans htake
    have hmay : (s.unslot n.val).mayMigrate n.val idx m.val = true := by
      simp [State.mayMigrate, palm_unslot hslot, hpalm, htake', heligible, Fin.val_ne_of_ne hne]
    have hothers : ∀ j, j < m.val → (s.unslot n.val).mayMigrate n.val idx j = false := fun j hj => by
      have h := hlowest j hj
      rw [← palm_unslot hslot, ← inTake_unslot hslot] at h
      exact mayMigrate_false h
    obtain ⟨hstate, hcore, hcur, hentry, harg, hrun, hpc, hmem⟩ := retireTake_receives (s.unslot n.val) m idx d
    rw [desc_unslot_self hslot] at hentry harg
    rw [core_unslot hslot] at hpc
    refine ⟨_, slotMigrate_moves hslot hwaits hage hold htake' hmay hothers, hstate, hcore, hcur, hentry, harg, hrun, hpc, ?_⟩
    rw [hmem, unslot_eq hslot]
    rfl
  · obtain ⟨hdesc, hactive, hpend⟩ := makeReady_boundTaken (s.offered src) src idx
    refine ⟨_, ecxOffer_bound hoffer hbind hstate, ?_, hactive, hpend⟩
    rw [hdesc]
    exact congrArg Desc.state (if_pos hdelay)
  · obtain ⟨hdesc, hactive, hpend⟩ := makeReady_boundTaken (s.offered src) src idx
    refine ⟨_, ecxOffer_bound hoffer hbind hstate, ?_, hactive, hpend⟩
    rw [hdesc]
    exact congrArg Desc.state (if_neg hdelay)
  · exact ⟨_, ecxOffer_unbound hoffer hbind hnew, unboundTaken_records (s.offered src) src⟩

end Sys2Proof.Machine
end

section
/-! The pending bits of sources (spec/06 R161, R162, R181): what setting and clearing one leaves of the others, how a signal moves its source's
bit, and what a write to a word of them stores. -/

namespace Sys2Proof.Machine

variable {s u : State} {i : Initiator} {v : Word} {src m n g b : Nat}

/-! ### One pending bit among the others -/

/-- The registers of the concentrator's commands and targets lie below its pending words. -/
theorem ne_pend_of_lt {a : Nat} (h : a < 0x40030480) (g : Nat) : a ≠ ECX_PEND g := by
  unfold ECX_PEND
  omega

theorem group_div (hb : b < 32) (g : Nat) : (32 * g + b) / 32 = g := by omega

theorem pendOf_clrPend_same (s : State) (n : Nat) : (s.clrPend n).pendOf n = false :=
  bit_setBit_same s _ _ false (Nat.mod_lt _ (by decide))

/-- A bit of the pending words that is stored leaves those of other sources. -/
theorem pendOf_setBit_ne (s : State) (b : Bool) (h : m ≠ n) : (s.setBit (ECX_PEND (n / 32)) (n % 32) b).pendOf m = s.pendOf m := by
  unfold State.pendOf
  by_cases hg : m / 32 = n / 32
  · rw [hg, bit_setBit s _ _ _ b (Nat.mod_lt m (by decide)), if_neg (by omega)]
  · exact bit_ne_setBit s _ _ b (by unfold ECX_PEND; omega)

theorem pendOf_clrPend_ne (s : State) (h : m ≠ n) : (s.clrPend n).pendOf m = s.pendOf m := pendOf_setBit_ne s false h

theorem pendOf_setPend_ne (s : State) (b : Bool) (h : m ≠ n) : (s.setPend n b).pendOf m = s.pendOf m := by
  unfold State.setPend
  split
  · rfl
  · exact pendOf_setBit_ne s true h

/-- Of what the concentrator holds, a set of PEND moves the stamps only. -/
theorem ecx_setPend (s : State) (n : Nat) (b : Bool) : ∃ l, (s.setPend n b).ecx = { s.ecx with stamps := l } := by
  unfold State.setPend
  split
  · exact ⟨s.ecx.stamps, rfl⟩
  · exact ⟨_, rfl⟩

theorem ecx_event (s : State) (evt b n : Nat) : ∃ l, (s.event evt b n).ecx = { s.ecx with stamps := l } := by
  unfold State.event State.raise
  split
  · exact ⟨s.ecx.stamps, rfl⟩
  · exact ecx_setPend (s.setBit evt b true) n false

/-! ### Changes of one group's pending bits -/

/-- From `s` to `u` no register but group `g`'s pending word changes, nor which sources are ACTIVE, nor which fell in this cycle. -/
structure PendsOnly (g : Nat) (s u : State) : Prop where
  rg : ∀ a, a ≠ ECX_PEND g → u.rg a = s.rg a
  claims : u.ecx.claims = s.ecx.claims
  fell : u.ecx.fell = s.ecx.fell

namespace PendsOnly

theorem refl (g : Nat) (s : State) : PendsOnly g s s := ⟨fun _ _ => rfl, rfl, rfl⟩

theorem setPend (h : PendsOnly g s u) (hn : n / 32 = g) (b : Bool) : PendsOnly g s (u.setPend n b) := by
  subst hn
  obtain ⟨l, hecx⟩ := ecx_setPend u n b
  exact ⟨fun a ha => (rg_setPend_ne u n b ha).trans (h.rg a ha), (claims_setPend u n b).trans h.claims,
    (congrArg EcxSt.fell hecx).trans h.fell⟩

theorem clrPend (h : PendsOnly g s u) (hn : n / 32 = g) : PendsOnly g s (u.clrPend n) := by
  subst hn
  exact ⟨fun a ha => (rg_setBit_ne u _ _ ha).trans (h.rg a ha), h.claims, h.fell⟩

theorem isActive (h : PendsOnly g s u) (n : Nat) : u.isActive n = s.isActive n := isActive_congr h.claims n

theorem lvlOf (h : PendsOnly g s u) (hn : n / 32 = g) : u.lvlOf n = s.lvlOf n := bit_congr (h.rg _ (by unfold ECX_LVL ECX_PEND; omega)) _

theorem isLevel (h : PendsOnly g s u) (hn : n / 32 = g) : u.isLevel n = s.isLevel n :=
  isLevel_congr h.claims (h.rg _ (by unfold ECX_TYPE ECX_PEND; omega))

end PendsOnly

/-! ### Signals (R160, R161, R181) -/

/-- The state in which the signal of source `src` stands at `x`. -/
def State.withSignal (s : State) (src : Nat) (x : Bool) : State := s.setBit (ECX_LVL (src / 32)) (src % 32) x

theorem lvlOf_withSignal (s : State) (src : Nat) (x : Bool) : (s.withSignal src x).lvlOf src = x :=
  bit_setBit_same s _ _ x (Nat.mod_lt _ (by decide))

theorem pendOf_withSignal (s : State) (src : Nat) (x : Bool) : (s.withSignal src x).pendOf src = s.pendOf src :=
  bit_ne_setBit s _ _ x (by unfold ECX_LVL ECX_PEND; omega)

theorem signal_edge_rise (h0 : 0 < src) (h864 : src < 864) (hedge : s.isLevel src = false) (hlow : s.lvlOf src = false) :
    s.signal src true = (s.withSignal src true).setPend src false := by
  have hlive : liveSource src = true := by simp only [liveSource, decide_eq_true_eq]; omega
  simp [State.signal, hlive, h864, hedge, hlow, State.withSignal]

theorem signal_level (h0 : 0 < src) (h864 : src < 864) (hlevel : s.isLevel src = true) (hidle : s.isActive src = false) (x : Bool) :
    s.signal src x = if x then (s.withSignal src x).setPend src false
      else if s.lvlOf src then (s.withSignal src x).fallLevel src else s.withSignal src x := by
  have hlive : liveSource src = true := by simp only [liveSource, decide_eq_true_eq]; omega
  simp [State.signal, hlive, h864, hlevel, hidle, State.withSignal]

/-- The signal stands as it was set whatever becomes of PEND. -/
theorem lvlOf_setPend (s : State) (src : Nat) (b : Bool) : (s.setPend src b).lvlOf src = s.lvlOf src :=
  ((PendsOnly.refl _ s).setPend rfl b).lvlOf rfl

theorem lvlOf_fallLevel (s : State) (src : Nat) : (s.fallLevel src).lvlOf src = s.lvlOf src := by
  unfold State.fallLevel
  dsimp only
  split
  · rfl
  · exact ((PendsOnly.refl (src / 32) _).clrPend rfl).lvlOf rfl

/-- A falling level clears PEND, but for software's 1 of the same cycle (R181). -/
theorem pendOf_fallLevel (s : State) (src : Nat) : (s.fallLevel src).pendOf src = (s.ecx.swPend.contains src && s.pendOf src) := by
  unfold State.fallLevel
  dsimp only
  split
  next hwon => rw [hwon, Bool.true_and]; rfl
  next hwon => rw [pendOf_clrPend_same, Bool.eq_false_iff.mpr hwon, Bool.false_and]

theorem signal_edge_pends (h0 : 0 < src) (h864 : src < 864) (hedge : s.isLevel src = false) (hlow : s.lvlOf src = false) :
    (s.signal src true).pendOf src = true ∧ (s.signal src true).lvlOf src = true := by
  rw [signal_edge_rise h0 h864 hedge hlow, lvlOf_setPend, lvlOf_withSignal]
  exact ⟨pendOf_setPend _ _ _, rfl⟩

/-- How PEND of a level source that is not ACTIVE follows its signal (R161). -/
theorem signal_level_follows (h0 : 0 < src) (h864 : src < 864) (hlevel : s.isLevel src = true) (hidle : s.isActive src = false) (x : Bool) :
    (s.signal src x).pendOf src = (x || ((!s.lvlOf src || s.ecx.swPend.contains src) && s.pendOf src)) ∧ (s.signal src x).lvlOf src = x := by
  rw [signal_level h0 h864 hlevel hidle]
  cases x with
  | true => exact ⟨pendOf_setPend _ _ _, (lvlOf_setPend _ _ _).trans (lvlOf_withSignal s src true)⟩
  | false =>
    cases hold : s.lvlOf src with
    | true =>
      refine ⟨(pendOf_fallLevel _ _).trans ?_, (lvlOf_fallLevel _ _).trans (lvlOf_withSignal s src false)⟩
      rw [pendOf_withSignal]
      rfl
    | false => exact ⟨pendOf_withSignal s src false, lvlOf_withSignal s src false⟩

/-! ### PEND of level sources after a write (R161, R181) -/

/-- PEND of the source follows its signal. -/
def State.follows (s : State) (src : Nat) : Bool := liveSource src && s.isLevel src && !s.isActive src

/-- One step of what follows a write to a group's words: that of its bit `b`. -/
def State.followBit (g : Nat) (won : Nat → Bool) (t : State) (b : Nat) : State :=
  if t.follows (32 * g + b) then
    if t.lvlOf (32 * g + b) then t.setPend (32 * g + b) false else if won (32 * g + b) then t else t.clrPend (32 * g + b)
  else t

theorem followLevels_eq (s : State) (g : Nat) (won : Nat → Bool) : s.followLevels g won = (List.range 32).foldl (State.followBit g won) s := rfl

theorem PendsOnly.follows (h : PendsOnly g s u) (hn : n / 32 = g) : u.follows n = s.follows n := by
  unfold State.follows
  rw [h.isLevel hn, h.isActive]

theorem PendsOnly.followBit (h : PendsOnly g s u) (won : Nat → Bool) (hb : b < 32) : PendsOnly g s (u.followBit g won b) := by
  unfold State.followBit
  split
  · split
    · exact h.setPend (group_div hb g) false
    · split
      · exact h
      · exact h.clrPend (group_div hb g)
  · exact h

theorem pendOf_followBit_ne (won : Nat → Bool) {c : Nat} (h : c ≠ b) :
    (s.followBit g won c).pendOf (32 * g + b) = s.pendOf (32 * g + b) := by
  have hne : 32 * g + b ≠ 32 * g + c := by omega
  unfold State.followBit
  split
  · split
    · exact pendOf_setPend_ne s false hne
    · split
      · rfl
      · exact pendOf_clrPend_ne s hne
  · rfl

/-- PEND of source `src` once it follows its signal, but where software's 1 stands. -/
def State.pendFollowed (s : State) (won : Nat → Bool) (src : Nat) : Bool :=
  if s.follows src then s.lvlOf src || (won src && s.pendOf src) else s.pendOf src

theorem pendOf_followBit_same (s : State) (won : Nat → Bool) :
    (s.followBit g won b).pendOf (32 * g + b) = s.pendFollowed won (32 * g + b) := by
  unfold State.followBit State.pendFollowed
  split
  · split
    next hhigh => rw [pendOf_setPend, hhigh, Bool.true_or]
    next hlow =>
      rw [Bool.eq_false_iff.mpr hlow, Bool.false_or]
      split
      next hwon => rw [hwon, Bool.true_and]
      next hwon => rw [pendOf_clrPend_same, Bool.eq_false_iff.mpr hwon, Bool.false_and]
  · rfl

theorem pendOf_foldl_followBit (won : Nat → Bool) (hb : b < 32) {l : List Nat} (hl : ∀ c ∈ l, c < 32) :
    (l.foldl (State.followBit g won) s).pendOf (32 * g + b) =
      if b ∈ l then s.pendFollowed won (32 * g + b) else s.pendOf (32 * g + b) := by
  induction l generalizing s with
  | nil => rfl
  | cons c l ih =>
    obtain ⟨hc, hl⟩ := List.forall_mem_cons.mp hl
    have hkept := (PendsOnly.refl g s).followBit won hc
    have hfollows := hkept.follows (group_div hb g)
    have hlvl := hkept.lvlOf (group_div hb g)
    rw [List.foldl_cons, ih hl]
    by_cases hcb : c = b
    · subst hcb
      rw [if_pos List.mem_cons_self]
      split
      · unfold State.pendFollowed
        rw [hfollows, hlvl, pendOf_followBit_same, State.pendFollowed]
        split
        · cases s.lvlOf (32 * g + c) <;> cases won (32 * g + c) <;> rfl
        · rfl
      · exact pendOf_followBit_same s won
    · have hmem : b ∈ c :: l ↔ b ∈ l := by simp [Ne.symm hcb]
      simp only [hmem, State.pendFollowed, hfollows, hlvl, pendOf_followBit_ne won hcb]

theorem pendOf_followLevels (s : State) (won : Nat → Bool) (hb : b < 32) :
    (s.followLevels g won).pendOf (32 * g + b) = s.pendFollowed won (32 * g + b) := by
  rw [followLevels_eq, pendOf_foldl_followBit won hb (fun c hc => List.mem_range.mp hc), if_pos (List.mem_range.mpr hb)]

/-! ### A write to ECX_PEND (R164, R181, R182) -/

/-- Bit `b` of a pending word as software writes it. -/
def State.putPend (g : Nat) (v : Word) (t : State) (b : Nat) : State :=
  if bitOf v b then t.setPend (32 * g + b) true else t.clrPend (32 * g + b)

/-- The bits of group `g` that software writes, before level sources follow their signals again. -/
def State.pendsPut (s : State) (i : Initiator) (g : Nat) (v : Word) : State := (s.writableBits i g).foldl (State.putPend g v) s

theorem mem_writableBits : b ∈ s.writableBits i g ↔
    b < 32 ∧ liveSource (32 * g + b) = true ∧ (i = .g0 ∨ s.tgtOf (32 * g + b) ≠ 4) := by
  simp [State.writableBits]

theorem PendsOnly.putPend (h : PendsOnly g s u) (v : Word) (hb : b < 32) : PendsOnly g s (u.putPend g v b) := by
  unfold State.putPend
  split
  · exact h.setPend (group_div hb g) true
  · exact h.clrPend (group_div hb g)

theorem pendsOnly_pendsPut (s : State) (i : Initiator) (g : Nat) (v : Word) : PendsOnly g s (s.pendsPut i g v) :=
  List.foldlRecOn _ _ (PendsOnly.refl g s) fun _ ht _ hb => ht.putPend v (mem_writableBits.mp hb).1

theorem pendOf_putPend (s : State) (v : Word) (c : Nat) :
    (s.putPend g v c).pendOf (32 * g + b) = if b = c then bitOf v c else s.pendOf (32 * g + b) := by
  unfold State.putPend
  by_cases hbc : b = c
  · subst hbc
    rw [if_pos rfl]
    split
    next hone => rw [pendOf_setPend, hone]
    next hzero => rw [pendOf_clrPend_same, Bool.eq_false_iff.mpr hzero]
  · have hne : 32 * g + b ≠ 32 * g + c := by omega
    rw [if_neg hbc]
    split
    · exact pendOf_setPend_ne s true hne
    · exact pendOf_clrPend_ne s hne

theorem pendOf_foldl_putPend (s : State) (v : Word) (l : List Nat) :
    (l.foldl (State.putPend g v) s).pendOf (32 * g + b) = if b ∈ l then bitOf v b else s.pendOf (32 * g + b) := by
  induction l generalizing s with
  | nil => rfl
  | cons c l ih =>
    rw [List.foldl_cons, ih, pendOf_putPend]
    by_cases hl : b ∈ l <;> by_cases hc : b = c <;> simp [hl, hc]

theorem pendOf_pendsPut (hb : b < 32) : (s.pendsPut i g v).pendOf (32 * g + b) =
    if liveSource (32 * g + b) = true ∧ (i = .g0 ∨ s.tgtOf (32 * g + b) ≠ 4) then bitOf v b else s.pendOf (32 * g + b) := by
  rw [State.pendsPut, pendOf_foldl_putPend]
  simp only [mem_writableBits, hb, true_and]

/-- A write to ECX_PEND stores the bits, and then level sources follow their signals again, but where a written 1 met a fall of this
cycle. -/
theorem writePend_eq (s : State) (i : Initiator) (g : Nat) (v : Word) : ∃ (u : State) (won : Nat → Bool),
    s.writePend i g v = u.followLevels g won ∧ PendsOnly g s u ∧ (∀ n, u.pendOf n = (s.pendsPut i g v).pendOf n) ∧
      ∀ n, s.ecx.fell.contains n = false → won n = false := by
  have hput := pendsOnly_pendsPut s i g v
  unfold State.writePend
  refine ⟨_, _, rfl, ⟨hput.rg, hput.claims, hput.fell⟩, fun n => rfl, fun n hn => ?_⟩
  exact Bool.and_eq_false_imp.mpr fun _ => (congrArg (fun l => l.contains n) hput.fell).trans hn

theorem pendOf_writePend_edge (hb : b < 32) (hedge : s.isLevel (32 * g + b) = false) : (s.writePend i g v).pendOf (32 * g + b) =
    if liveSource (32 * g + b) = true ∧ (i = .g0 ∨ s.tgtOf (32 * g + b) ≠ 4) then bitOf v b else s.pendOf (32 * g + b) := by
  obtain ⟨u, won, hwrite, hkept, hpend, _⟩ := writePend_eq s i g v
  have hstays : u.follows (32 * g + b) = false := by
    rw [hkept.follows (group_div hb g), State.follows, hedge, Bool.and_false, Bool.false_and]
  rw [hwrite, pendOf_followLevels _ won hb, State.pendFollowed, if_neg (Bool.eq_false_iff.mp hstays), hpend]
  exact pendOf_pendsPut hb

theorem pendOf_writePend_level (hb : b < 32) (hlive : liveSource (32 * g + b) = true) (hlevel : s.isLevel (32 * g + b) = true)
    (hidle : s.isActive (32 * g + b) = false) (hfell : s.ecx.fell.contains (32 * g + b) = false) :
    (s.writePend i g v).pendOf (32 * g + b) = s.lvlOf (32 * g + b) := by
  obtain ⟨u, won, hwrite, hkept, _, hwon⟩ := writePend_eq s i g v
  have hfollows : u.follows (32 * g + b) = true := by
    rw [hkept.follows (group_div hb g), State.follows, hlive, hlevel, hidle]
    rfl
  rw [hwrite, pendOf_followLevels _ won hb, State.pendFollowed, if_pos hfollows, hkept.lvlOf (group_div hb g), hwon _ hfell,
    Bool.false_and, Bool.or_false]

end Sys2Proof.Machine
end

section
/-! Line mode, the commands of the concentrator and hold-offs (spec/06 R162 to R172, R180): the lowest eligible source, claims and
completions, and what each command stores. -/

namespace Sys2Proof.Machine

variable {s u : State} {i : Initiator} {v : Word} {c : CoreId} {n m t : Nat}

/-! ### The lowest eligible source (R165) -/

theorem eligible_of_lowestIn {l : List Nat} (h : s.lowestIn t l = some n) : s.eligible n t = true := by
  induction l with
  | nil => cases h
  | cons g l ih =>
    rw [State.lowestIn] at h
    split at h
    next b hhit =>
      obtain rfl := Option.some.inj h
      split at hhit
      · cases hhit
      · exact List.find?_some (p := fun b => s.eligible (32 * g + b) t) hhit
    next => exact ih h

/-- No reserved number is ever eligible (R158). -/
theorem live_of_lowestEligible (h : s.lowestEligible t = some n) : liveSource n = true := by
  have heligible := eligible_of_lowestIn h
  simp only [State.eligible, Bool.and_eq_true] at heligible
  obtain ⟨⟨⟨⟨⟨⟨⟨hlive, _⟩, _⟩, _⟩, _⟩, _⟩, _⟩, _⟩ := heligible
  exact hlive

theorem lt_of_liveSource (h : liveSource n = true) : n < 1020 := (of_decide_eq_true h).2

/-! ### Delivery and completion (R166, R167) -/

theorem isActive_iff : s.isActive n = true ↔ ∃ k ∈ s.ecx.claims, k.src = n := by
  simp [State.isActive, State.claimOf]

theorem rg_deliver_ne (s : State) (t : Nat) (k : ClaimBy) {a : Nat} (ha : a ≠ ECX_PEND (n / 32)) : (s.deliver n t k).rg a = s.rg a :=
  rg_setBit_ne s _ _ ha

theorem claims_complete (s : State) (n : Nat) : (s.complete n).ecx.claims = s.ecx.claims.filter (fun k => k.src != n) := by
  unfold State.complete
  dsimp only
  split
  · split
    · exact claims_setPend _ _ _
    · rfl
  · rfl

theorem rg_complete_ne (s : State) {a : Nat} (ha : a ≠ ECX_PEND (n / 32)) : (s.complete n).rg a = s.rg a := by
  unfold State.complete
  dsimp only
  split
  · split
    · exact rg_setPend_ne _ n false ha
    · exact rg_setBit_ne _ _ _ ha
  · rfl

/-- A completion ends its own source's claim and no other. -/
theorem isActive_complete (s : State) (n m : Nat) : (s.complete n).isActive m = true ↔ s.isActive m = true ∧ m ≠ n := by
  simp only [isActive_iff, claims_complete, List.mem_filter, bne_iff_ne]
  constructor
  · rintro ⟨k, ⟨hk, hne⟩, rfl⟩
    exact ⟨⟨k, hk, rfl⟩, hne⟩
  · rintro ⟨⟨k, hk, rfl⟩, hne⟩
    exact ⟨k, ⟨hk, hne⟩, rfl⟩

theorem isActive_foldl_complete (s : State) (l : List Nat) (m : Nat) :
    (l.foldl (fun x n => x.complete n) s).isActive m = true ↔ s.isActive m = true ∧ m ∉ l := by
  induction l generalizing s with
  | nil => simp
  | cons n l ih => rw [List.foldl_cons, ih, isActive_complete, List.mem_cons, not_or, and_assoc]

theorem rg_foldl_complete_of_lt (s : State) (l : List Nat) {a : Nat} (ha : a < 0x40030480) :
    (l.foldl (fun x n => x.complete n) s).rg a = s.rg a :=
  List.foldlRecOn l _ (motive := fun x => x.rg a = s.rg a) rfl fun x hx _ _ => (rg_complete_ne x (ne_pend_of_lt ha _)).trans hx

/-! ### Claims (R169) -/

/-- The state in which core `t` has claimed source `n`. -/
def State.claimed (s : State) (t n : Nat) : State :=
  let s1 := s.deliver n t (.core t)
  { s1 with ecx := { s1.ecx with lastClaim := (t, n) :: s1.ecx.lastClaim.filter (fun e => e.1 != t) } }

theorem readClaim_claims (hcore : i.core? = some c) (hline : s.queueMode c.num = false) (hlow : s.lowestEligible c.num = some n) :
    s.readClaim i = (w32 n, s.claimed c.num n) := by
  have htarget : s.claimTarget i = some c.num := by
    simp only [State.claimTarget, hcore, hline, Bool.false_eq_true, if_false]
  simp only [State.readClaim, htarget, hlow]
  rfl

theorem readClaim_none (hnone : ∀ c, i.core? = some c → s.queueMode c.num = true ∨ s.lowestEligible c.num = none) :
    s.readClaim i = (0, s) := by
  cases hcore : i.core? with
  | none => simp only [State.readClaim, State.claimTarget, hcore]
  | some c =>
    cases hmode : s.queueMode c.num with
    | true => simp only [State.readClaim, State.claimTarget, hcore, hmode, if_true]
    | false =>
      have hlow : s.lowestEligible c.num = none := (hnone c hcore).resolve_left (by simp [hmode])
      simp only [State.readClaim, State.claimTarget, hcore, hmode, Bool.false_eq_true, if_false, hlow]

theorem ecxClaim_reads (hs : s.servesRead i ECX_CLAIM = true) :
    exec (.ecxClaim i) s = .next { (s.readClaim i).2 with rdata := (s.readClaim i).1.toNat } :=
  congrArg Host.Outcome.next (guardR_serves s _ hs)

theorem claimed_spec (s : State) (t n : Nat) : (s.claimed t n).isActive n = true ∧ (s.claimed t n).pendOf n = false :=
  ⟨isActive_deliver s n t (.core t), pendOf_deliver s n t (.core t)⟩

/-! ### ECX_SWTRIG, ECX_TGT and ECX_DONE (R162, R164, R171) -/

theorem status_of_rg (h : u.rg ECX_CMDST = (s.accept ecxPort).rg ECX_CMDST) : u.fld ECX_CMDST 0 4 = 0 :=
  (fld_congr h 0 4).trans (st_accept s ecxPort)

theorem writeSwtrig_sets (hn : n = v.toNat % 1024) (hlo : 864 ≤ n) (hhi : n ≤ 1019) (hmay : i = .g0 ∨ s.tgtOf n ≠ 4) :
    s.writeSwtrig i v = (s.accept ecxPort).setPend n true := by
  have hfield : fieldOf v 0 10 = n := hn.symm
  have hallowed : (i != .g0 && s.tgtOf n == 4) = false := by
    obtain rfl | hne := hmay
    · rfl
    · simp [hne]
  unfold State.writeSwtrig
  dsimp only
  rw [hfield, if_neg (by simp [hlo, hhi]), hallowed]
  rfl

theorem writeTgt_stores (hidle : s.isActive n = false) : (s.writeTgt n v).rg (ECX_TGT n) = v &&& 7 ∧
    SameRegsBut s (s.writeTgt n v) [ECX_TGT n, ECX_CMDST] := by
  unfold State.writeTgt
  rw [command_accepted _ rfl hidle rfl]
  exact ⟨rg_setRg_same _ _ _, (((WritesOnly.refl _ s).accept (by simp [ecxPort])).setRg (by simp) _).sameRegsBut⟩

theorem writeTgt_refused (hactive : s.isActive n = true) : s.writeTgt n v = s.reject ecxPort ST_STATE :=
  command_rejected_state _ hactive

theorem claimedBy_of_holder {k : EcxClaim} (hclaim : s.claimOf n = some k) (hholder : k.holder = .core t) : s.claimedBy n t = true := by
  simp only [State.claimedBy, hclaim, hholder, beq_self_eq_true]

theorem writeDone_completes (hn : n = v.toNat % 1024) (hlive : liveSource n = true) (hcore : i.core? = some c)
    (hmine : s.claimedBy n c.num = true) : s.writeDone i v = (s.accept ecxPort).complete n := by
  have hfield : fieldOf v 0 10 = n := hn.symm
  simp [State.writeDone, hfield, hlive, hcore, hmine]

theorem complete_spec (s : State) (n : Nat) : ((s.accept ecxPort).complete n).isActive n = false ∧
    ((s.accept ecxPort).complete n).fld ECX_CMDST 0 4 = 0 :=
  ⟨Bool.eq_false_iff.mpr fun h => ((isActive_complete _ n n).mp h).2 rfl,
    status_of_rg (rg_complete_ne _ (ne_pend_of_lt (by decide) _))⟩

/-! ### ECX_TCTL and ECX_QBASE (R172) -/

theorem writeTctl_enters (hline : s.queueMode t = false) (hqueue : bitOf v 0 = true) (hidle : s.targetActive t = false)
    (hring : inSram (s.rg (ECX_QBASE t)).toNat (16 * 2 ^ fieldOf v 8 4) = true) : (s.writeTctl t v).rg (ECX_TCTL t) = v &&& 0xF01 ∧
      (s.writeTctl t v).rg (ECX_QWR t) = 0 ∧ (s.writeTctl t v).rg (ECX_QRD t) = 0 := by
  have hctl : ECX_TCTL t ≠ ECX_QRD t ∧ ECX_TCTL t ≠ ECX_QWR t ∧ ECX_QWR t ≠ ECX_QRD t := by
    unfold ECX_TCTL ECX_QRD ECX_QWR
    omega
  obtain ⟨hrd, hwr, hwrd⟩ := hctl
  suffices hwrite : (s.writeTctl t v).regs =
      ((((s.accept ecxPort).setRg (ECX_TCTL t) (v &&& 0xF01)).setRg (ECX_QWR t) 0).setRg (ECX_QRD t) 0).regs by
    simp only [rg_congr hwrite, rg_setRg, hrd, hwr, hwrd, if_true, if_false, and_self]
  unfold State.writeTctl
  dsimp only
  rw [command_accepted _ rfl (by simp [hline, hqueue, hidle]) (by simp [hring])]
  simp only [hline, hqueue, Bool.not_false, Bool.and_self, if_true]

theorem writeQbase_stores (hline : s.queueMode t = false) : (s.writeQbase t v).rg (ECX_QBASE t) = v &&& 0xFFFFFFE0 := by
  unfold State.writeQbase
  rw [command_accepted _ rfl hline rfl]
  exact rg_setRg_same _ _ _

/-! ### The end of a hold-off (R180) -/

theorem heldOff_holdoffEnd (s : State) (g x : Nat) :
    ({ s with ecx := { s.ecx with holdoff := s.ecx.holdoff.filter (fun p => p != (g, x)) } } : State).heldOff g x = false := by
  simp [State.heldOff]

end Sys2Proof.Machine
end

section
/-! Queue mode (spec/06 R173 to R178): a record that begins, that is written to the ring and that is consumed, and the statement
EventConcentrator. -/

namespace Sys2Proof.Machine

variable {s u : State} {v : Word} {a n t : Nat}

/-! ### A record write begins (R173, R177) -/

/-- The ring of target `t` is being served: queue mode without an error, no shadow copies, and no record write of its own under way. -/
def State.ringServed (s : State) (t : Nat) : Prop :=
  s.beat.copying = [] ∧ s.queueMode t = true ∧ s.bit (ECX_TSTAT t) 1 = false ∧ ∀ e ∈ s.ecx.recWrites, e.1 ≠ t

theorem ringServed_guard (h : s.ringServed t) : (s.beat.copying.isEmpty && s.queueMode t && !s.bit (ECX_TSTAT t) 1 &&
    !(s.ecx.recWrites.any (fun e => e.1 == t))) = true := by
  obtain ⟨hcopies, hqueue, herr, hfree⟩ := h
  have hany : s.ecx.recWrites.any (fun e => e.1 == t) = false := List.any_eq_false.mpr fun e he => by simp [hfree e he]
  rw [hcopies, hqueue, herr, hany]
  rfl

theorem queueRecordWrite_begins {t : Fin 5} (h : s.ringServed t.val) (hlow : s.lowestEligible t.val = some n)
    (hroom : s.ringFull t.val = false) :
    exec (.queueRecordWrite t) s = .next { s with ecx := { s.ecx with recWrites := (t.val, n) :: s.ecx.recWrites } } := by
  show execQueueRecordWrite t s = _
  unfold execQueueRecordWrite
  rw [if_pos (ringServed_guard h)]
  simp only [hlow, hroom, Bool.false_eq_true, if_false, done]

/-- The state in which the full ring of target `t` has been reported. -/
def State.fullSeen (s : State) (t : Nat) : State :=
  let s1 := s.event (ECX_TSTAT t) 0 17
  { s1 with ecx := { s1.ecx with fullReported := t :: s1.ecx.fullReported } }

theorem queueRecordWrite_full {t : Fin 5} (h : s.ringServed t.val) (hlow : s.lowestEligible t.val = some n)
    (hfull : s.ringFull t.val = true) (hnew : s.ecx.fullReported.contains t.val = false) :
    exec (.queueRecordWrite t) s = .next (s.fullSeen t.val) := by
  show execQueueRecordWrite t s = _
  unfold execQueueRecordWrite
  rw [if_pos (ringServed_guard h)]
  simp only [hlow, hfull, hnew, Bool.false_eq_true, if_false, if_true, done]
  rfl

theorem targetRegs_below_pend (t : Fin 5) : ECX_TSTAT t.val < 0x40030480 ∧ ECX_QWR t.val < 0x40030480 ∧ ECX_QRD t.val < 0x40030480 ∧
    ECX_QSEQ t.val < 0x40030480 := by
  unfold ECX_TSTAT ECX_QWR ECX_QRD ECX_QSEQ
  omega

theorem fullSeen_spec (s : State) (t : Fin 5) : (s.fullSeen t.val).bit (ECX_TSTAT t.val) 0 = true ∧
    (s.fullSeen t.val).rg (ECX_QWR t.val) = s.rg (ECX_QWR t.val) ∧ (s.fullSeen t.val).ecx.recWrites = s.ecx.recWrites := by
  obtain ⟨hstat, hwr, _⟩ := targetRegs_below_pend t
  have hrecs : (s.event (ECX_TSTAT t.val) 0 17).ecx.recWrites = s.ecx.recWrites := by
    obtain ⟨l, hecx⟩ := ecx_event s (ECX_TSTAT t.val) 0 17
    rw [hecx]
  refine ⟨bit_event_self s _ _ _ (ne_pend_of_lt hstat _) (by decide), rg_event_ne s _ _ _ (ne_pend_of_lt hwr _) ?_, hrecs⟩
  unfold ECX_TSTAT ECX_QWR
  omega

/-! ### The words of a record (R173, R174) -/

/-- Every row of SRAM is served from its own place, and no ECC word is in error. -/
def State.plainSram (s : State) : Prop :=
  (∀ a, 0x10000000 ≤ a → a ≤ 0x107FFFFF → s.physOf .sram false a = some a) ∧ ∀ p, s.eccAt p = none

/-- From `s` to `u` the words `ws` are stored from `a` up; no other byte, no register and nothing of the concentrator changes. -/
structure WordsStored (s u : State) (a : Nat) (ws : List Nat) : Prop where
  regs : u.regs = s.regs
  ecx : u.ecx = s.ecx
  words : ∀ j w, ws[j]? = some w → u.peek (a + 4 * j) 4 = w % 2 ^ 32
  others : SameBytesBut s u a (4 * ws.length)

/-- The ECC state of one word among the others. -/
theorem eccAt_setEcc (s : State) (w p : Nat) (m : Option EccMark) : (s.setEcc w m).eccAt p = if p = w then m else s.eccAt p :=
  smGet_smSet (fun _ => none) s.ms.ecc w p m

theorem eccAt_congr {t : State} (h : t.ms = s.ms) (p : Nat) : t.eccAt p = s.eccAt p := by rw [State.eccAt, State.eccAt, h]

theorem peek_congr_bytes {p k : Nat} (h : ∀ q, p ≤ q → q < p + k → u.byteAt q = s.byteAt q) : u.peek p k = s.peek p k := by
  refine congrArg ofLe (List.map_congr_left fun j hj => h _ (Nat.le_add_right p j) ?_)
  have hlt := List.mem_range.mp hj
  omega

/-- The device's own store of one word of SRAM. -/
theorem memWrite_word (h : s.plainSram) (hlo : 0x10000000 ≤ a) (hhi : a ≤ 0x107FFFFF) (w : Nat) :
    ∃ u, s.memWrite .sram none a 4 w = (true, u) ∧ u.plainSram ∧ WordsStored s u a [w] := by
  obtain ⟨hphys, hecc⟩ := h
  have hms : (((s.poke a 4 w).setEcc (a / 8 * 8) none).breakReservations none a 4).ms = ((s.poke a 4 w).setEcc (a / 8 * 8) none).ms :=
    breakReservations_keeps _ State.ms (fun t c k => ms_setCore t c k) none a 4
  have hpoked : (s.poke a 4 w).ms = s.ms := ms_pokeBytes s a _
  refine ⟨_, memWrite_sramWord s none w (hphys a hlo hhi) (hecc _), ⟨fun b hb hb' => ?_, fun p => ?_⟩, by simp, ?_, ?_, fun q hq => ?_⟩
  · rw [physOf_congr (s := s) (by simp) (by rw [hms, ← hpoked]; rfl) (by rw [hms, ← hpoked]; rfl)]
    exact hphys b hb hb'
  · rw [eccAt_congr hms, eccAt_setEcc, eccAt_congr hpoked, hecc p, ite_self]
  · rw [breakReservations_keeps _ State.ecx (fun t c k => ecx_setCore t c k)]
    exact pokeBytes_keeps State.ecx (fun _ _ _ => rfl) s a _
  · intro j x hj
    obtain ⟨hlt, rfl⟩ := List.getElem?_eq_some_iff.mp hj
    obtain rfl : j = 0 := Nat.lt_one_iff.mp hlt
    exact (peek_congr (by simp) _ _).trans (peek_poke s a 4 w)
  · rw [byteAt_congr (s := s.poke a 4 w) (by simp)]
    exact byteAt_poke_outside s a q 4 w hq

/-- Words stored one after the other from `a` up by `put`, up to the first that fails. -/
def State.storeWords (put : State → Region → Option CoreId → Nat → Nat → Nat → Bool × State) (s : State) : Nat → List Nat → Bool × State
  | _, [] => (true, s)
  | a, w :: ws =>
    match put s .sram none a 4 w with
    | (false, t) => (false, t.ferr .dma a true .word .uncorr)
    | (true, t) => State.storeWords put t (a + 4) ws

/-- The model's run of stores, with the single store set apart: unfolding it past a store would have the kernel evaluate the store. -/
theorem writeWords_eq : State.writeWords = State.storeWords State.memWrite := by
  delta State.writeWords State.storeWords
  rfl

theorem writeWords_cons {w : Nat} {ws : List Nat} (h : s.memWrite .sram none a 4 w = (true, u)) :
    s.writeWords a (w :: ws) = u.writeWords (a + 4) ws := by
  rw [writeWords_eq, State.storeWords, h]

theorem writeWords_nil (s : State) (a : Nat) : s.writeWords a [] = (true, s) := by rw [writeWords_eq, State.storeWords]

theorem writeWords_stores (h : s.plainSram) {ws : List Nat} (hlo : 0x10000000 ≤ a) (hhi : a + 4 * ws.length ≤ 0x10800000) :
    ∃ u, s.writeWords a ws = (true, u) ∧ WordsStored s u a ws := by
  induction ws generalizing s a with
  | nil => exact ⟨s, writeWords_nil s a, rfl, rfl, fun _ _ hj => (nomatch hj), fun _ _ => rfl⟩
  | cons w ws ih =>
    rw [List.length_cons] at hhi
    obtain ⟨x, hwrite, hplain, hfirst⟩ := memWrite_word h hlo (by omega) w
    obtain ⟨u, hrest, hlast⟩ := ih (a := a + 4) hplain (by omega) (by omega)
    refine ⟨u, (writeWords_cons hwrite).trans hrest, hlast.regs.trans hfirst.regs, hlast.ecx.trans hfirst.ecx,
      fun j y hj => ?_, fun q hq => ?_⟩
    · cases j with
      | zero =>
        refine (peek_congr_bytes fun q hq hlt => hlast.others q ?_).trans (hfirst.words 0 y hj)
        omega
      | succ j =>
        have hword := hlast.words j y hj
        rwa [show a + 4 + 4 * j = a + 4 * (j + 1) by omega] at hword
    · rw [List.length_cons] at hq
      rw [hlast.others q (by omega), hfirst.others q (by simp; omega)]

/-! ### A record write completes (R166, R173) -/

theorem rg_setRing (s : State) (t : Nat) (l : List Nat) (a : Nat) : (s.setRing t l).rg a = s.rg a := rfl

theorem isActive_setRing (s : State) (t : Nat) (l : List Nat) (n : Nat) : (s.setRing t l).isActive n = s.isActive n := rfl

/-- The state in which the record of source `n`, whose words are stored, has been delivered to target `t`'s ring at `slot`. -/
def State.recordDelivered (s : State) (t n slot : Nat) : State :=
  let s2 := s.setRg (ECX_QWR t) (w32 ((slot + 1) % s.ringSlots t))
  let s3 := s2.setRg (ECX_QSEQ t) (s2.rg (ECX_QSEQ t) + 1)
  (s3.deliver n t (.queue t)).setRing t (s3.ringOf t ++ [n])

theorem recordDelivered_spec (s : State) (t : Fin 5) (n slot : Nat) :
    (s.recordDelivered t.val n slot).rg (ECX_QWR t.val) = w32 ((slot + 1) % s.ringSlots t.val) ∧
      (s.recordDelivered t.val n slot).rg (ECX_QSEQ t.val) = s.rg (ECX_QSEQ t.val) + 1 ∧
      (s.recordDelivered t.val n slot).isActive n = true ∧ (s.recordDelivered t.val n slot).mem = s.mem := by
  obtain ⟨_, hwr, _, hseq⟩ := targetRegs_below_pend t
  have hne : ECX_QWR t.val ≠ ECX_QSEQ t.val := by
    unfold ECX_QWR ECX_QSEQ
    omega
  unfold State.recordDelivered
  dsimp only
  refine ⟨?_, ?_, ?_, rfl⟩
  · rw [rg_setRing, rg_deliver_ne _ _ _ (ne_pend_of_lt hwr _), rg_setRg_ne _ _ hne, rg_setRg_same]
  · rw [rg_setRing, rg_deliver_ne _ _ _ (ne_pend_of_lt hseq _), rg_setRg_same, rg_setRg_ne _ _ hne.symm]
  · rw [isActive_setRing, isActive_deliver]

/-- The state in which target `t`'s record write is no longer under way. -/
def State.recordLeft (s : State) (t : Nat) : State :=
  { s with ecx := { s.ecx with recWrites := s.ecx.recWrites.filter (fun e => e.1 != t) } }

theorem plainSram_recordLeft (h : s.plainSram) (t : Nat) : (s.recordLeft t).plainSram :=
  ⟨fun a hlo hhi => (physOf_congr (s := s) (t := s.recordLeft t) rfl rfl rfl .sram false a).trans (h.1 a hlo hhi), h.2⟩

/-- Where the next record of target `t` goes. -/
def State.recordAt (s : State) (t : Nat) : Nat := (s.rg (ECX_QBASE t)).toNat + 16 * (s.rg (ECX_QWR t)).toNat

theorem queueRecordDone_delivers {t : Fin 5} {e : Nat × Nat} (hfind : s.ecx.recWrites.find? (fun e => e.1 == t.val) = some e)
    (hwrite : (s.recordLeft t.val).writeWords (s.recordAt t.val) (s.recordWords e.2 (s.rg (ECX_QSEQ t.val))) = (true, u)) :
    exec (.queueRecordDone t) s = .next (u.recordDelivered t.val e.2 (s.rg (ECX_QWR t.val)).toNat) := by
  obtain ⟨t', n⟩ := e
  -- The run of stores becomes a variable, so that the kernel does not evaluate it when it checks the match.
  obtain ⟨store, hstore⟩ : ∃ f, f = State.writeWords := ⟨_, rfl⟩
  rw [← hstore] at hwrite
  show execQueueRecordDone t s = _
  unfold execQueueRecordDone
  rw [← hstore]
  have hwrite' : store (s.recordLeft t.val) (((s.recordLeft t.val).rg (ECX_QBASE t.val)).toNat +
      16 * ((s.recordLeft t.val).rg (ECX_QWR t.val)).toNat)
      ((s.recordLeft t.val).recordWords n ((s.recordLeft t.val).rg (ECX_QSEQ t.val))) = (true, u) := hwrite
  unfold State.recordLeft at hwrite'
  simp only [hfind, hwrite', done]
  rfl

/-- The first word of a record: the source, its type, its signal and SW. -/
def State.recordHead (s : State) (n : Nat) : Nat :=
  n + (if s.isLevel n then 0x10000 else 0) + (if s.lvlOf n then 0x20000 else 0) + (if (s.stampOf n).sw then 0x40000 else 0)

theorem recordHead_lt (s : State) (hn : n < 1024) : s.recordHead n < 2 ^ 32 := by
  unfold State.recordHead
  split <;> split <;> split <;> omega

theorem queueRecordDone_writes {t : Fin 5} {e : Nat × Nat} (hfind : s.ecx.recWrites.find? (fun e => e.1 == t.val) = some e)
    (hsrc : e.2 < 1024) (hplain : s.plainSram) (hring : inSram (s.rg (ECX_QBASE t.val)).toNat (16 * s.ringSlots t.val) = true)
    (hslot : (s.rg (ECX_QWR t.val)).toNat < s.ringSlots t.val) : Ends (.queueRecordDone t) s (fun u =>
      u.rg (ECX_QWR t.val) = w32 (((s.rg (ECX_QWR t.val)).toNat + 1) % s.ringSlots t.val) ∧
      u.rg (ECX_QSEQ t.val) = s.rg (ECX_QSEQ t.val) + 1 ∧ u.isActive e.2 = true ∧ u.peek (s.recordAt t.val) 4 = s.recordHead e.2 ∧
      u.peek (s.recordAt t.val + 12) 4 = (s.rg (ECX_QSEQ t.val)).toNat ∧ SameBytesBut s u (s.recordAt t.val) 16) := by
  obtain ⟨hlo, hhi⟩ : 0x10000000 ≤ (s.rg (ECX_QBASE t.val)).toNat ∧
      (s.rg (ECX_QBASE t.val)).toNat + 16 * s.ringSlots t.val ≤ 0x10800000 := of_decide_eq_true hring
  have hin : 0x10000000 ≤ s.recordAt t.val ∧ s.recordAt t.val + 16 ≤ 0x10800000 := by
    unfold State.recordAt
    omega
  obtain ⟨u, hwrite, hstored⟩ := writeWords_stores (plainSram_recordLeft hplain t.val) hin.1 hin.2
    (ws := s.recordWords e.2 (s.rg (ECX_QSEQ t.val)))
  obtain ⟨hqwr, hqseq, hactive, hmem⟩ := recordDelivered_spec u t e.2 (s.rg (ECX_QWR t.val)).toNat
  have hslots : u.ringSlots t.val = s.ringSlots t.val := congrArg (2 ^ ·) (fld_congr (rg_congr hstored.regs _) 8 4)
  refine ⟨_, queueRecordDone_delivers hfind hwrite, by rw [hqwr, hslots], hqseq.trans (congrArg (· + 1) (rg_congr hstored.regs _)),
    hactive, ?_, ?_, fun q hq => (byteAt_congr hmem q).trans (hstored.others q hq)⟩
  · have hword := hstored.words 0 _ rfl
    rw [peek_congr hmem]
    exact hword.trans (Nat.mod_eq_of_lt (recordHead_lt s hsrc))
  · have hword := hstored.words 3 _ rfl
    rw [peek_congr hmem]
    exact hword.trans (Nat.mod_eq_of_lt (s.rg (ECX_QSEQ t.val)).isLt)

/-! ### Records consumed (R176) -/

theorem writeQrd_consumes {t : Fin 5} {k rd wr slots : Nat} (hn : n = v.toNat % 4096) (hslots : slots = s.ringSlots t.val)
    (hrd : rd = (s.rg (ECX_QRD t.val)).toNat) (hwr : wr = (s.rg (ECX_QWR t.val)).toNat) (hqueue : s.queueMode t.val = true)
    (hslot : n < slots) (hk : k = (n + slots - rd % slots) % slots) (hheld : k ≤ (wr + slots - rd % slots) % slots) :
    (s.writeQrd t.val v).rg (ECX_QRD t.val) = w32 n ∧ ∀ x ∈ (s.ringOf t.val).take k, (s.writeQrd t.val v).isActive x = false := by
  obtain ⟨_, _, hlt, _⟩ := targetRegs_below_pend t
  have hfield : fieldOf v 0 12 = n := hn.symm
  suffices hwrite : ∃ x, s.writeQrd t.val v = ((s.ringOf t.val).take k).foldl (fun x n => x.complete n) x ∧
      x.rg (ECX_QRD t.val) = w32 n by
    obtain ⟨x, hwrite, hx⟩ := hwrite
    rw [hwrite, rg_foldl_complete_of_lt x _ hlt]
    exact ⟨hx, fun m hm => Bool.eq_false_iff.mpr fun hactive => ((isActive_foldl_complete x _ m).mp hactive).2 hm⟩
  unfold State.writeQrd
  dsimp only
  rw [hfield, ← hslots, ← hrd, ← hwr, ← hk, command_accepted _ rfl (by rw [hqueue]; rfl) (by simp [hslot, hheld])]
  refine ⟨_, rfl, ?_⟩
  split <;> exact rg_setRg_same _ _ _

/-! ### The statement -/

/-- Settles O22: each clause is the rule of its step or command above. -/
theorem eventConcentrator : Obligations.EventConcentrator := by
  intro s i src g t v
  refine ⟨fun h0 h864 hedge hlow => ⟨_, rfl, signal_edge_pends h0 h864 hedge hlow⟩, fun b h0 h864 hlevel hidle hb => ?_,
    fun h0 h864 hlevel hidle hwon => ?_, fun n hn hs hlo hhi hmay => ends_served hs rfl ?_,
    fun hs hidle => ends_served hs rfl (writeTgt_stores hidle), fun hs hactive => ?_,
    fun hs hedge => ends_served hs rfl fun b hb => pendOf_writePend_edge hb (hedge b hb),
    fun b hb hs hlive hlevel hidle hfell => ends_served hs rfl (pendOf_writePend_level hb hlive hlevel hidle hfell),
    fun c n hs hcore hline hlow => ⟨_, ecxClaim_reads hs, ?_⟩, fun hs hnone => ?_,
    fun c n k hn hs hlive hcore hclaim hholder => ends_served hs rfl ?_,
    fun hs hline hqueue hidle hring => ends_served hs rfl (writeTctl_enters hline hqueue hidle hring),
    fun hs hline => ends_served hs rfl (writeQbase_stores hline), fun n hcopies hqueue herr hfree hlow => ?_,
    fun e hfind hsrc hphys hecc hring _ hslot => queueRecordDone_writes hfind hsrc ⟨hphys, hecc⟩ hring hslot,
    fun n k rd wr slots hn hslots hrd hwr hs hqueue hslot hk hheld =>
      ends_served hs rfl (writeQrd_consumes hn hslots hrd hwr hqueue hslot hk hheld),
    fun x => ⟨_, rfl, heldOff_holdoffEnd s g.val x.val, rfl, rfl⟩⟩
  · obtain ⟨hpend, hlvl⟩ := signal_level_follows h0 h864 hlevel hidle b
    refine ⟨_, rfl, hpend.trans ?_, hlvl⟩
    obtain rfl | ⟨hhigh, hfree⟩ := hb
    · rfl
    · rw [hhigh, hfree]
      exact Bool.or_false b
  · obtain ⟨hpend, hlvl⟩ := signal_level_follows h0 h864 hlevel hidle false
    refine ⟨_, rfl, hpend.trans ?_, hlvl⟩
    rw [hwon, Bool.or_true, Bool.true_and, Bool.false_or]
  · rw [writeSwtrig_sets hn hlo hhi hmay]
    exact ⟨pendOf_setPend _ n true, status_of_rg (rg_setPend_ne _ n true (ne_pend_of_lt (by decide) _))⟩
  · rw [exec_served hs rfl, writeTgt_refused hactive]
  · rw [readClaim_claims hcore hline hlow]
    have hlt := lt_of_liveSource (live_of_lowestEligible hlow)
    exact ⟨(w32_toNat n).trans (Nat.mod_eq_of_lt (by omega)), claimed_spec s c.num n⟩
  · rw [ecxClaim_reads hs, readClaim_none hnone]
    rfl
  · rw [writeDone_completes hn hlive hcore (claimedBy_of_holder hclaim hholder)]
    exact complete_spec s n
  · have hserved : s.ringServed t.val := ⟨hcopies, hqueue, herr, hfree⟩
    refine ⟨fun hroom => ⟨_, queueRecordWrite_begins hserved hlow hroom, ?_, rfl, rfl⟩,
      fun hfull hnew => ⟨_, queueRecordWrite_full hserved hlow hfull hnew, fullSeen_spec s t⟩⟩
    simp [State.beingWritten]

end Sys2Proof.Machine
end

section
/-! Memory maintenance (spec/07 R186 to R192): a state in which the scrubber meets one word twice, and the refutation of
MemoryMaintenance. -/

namespace Sys2Proof.Machine

/-- What a command is said to end in holds of the next state that it answers. -/
theorem of_ends {c : Instr} {s t : State} {P : State → Prop} (hexec : exec c s = .next t) (h : Ends c s P) : P t := by
  obtain ⟨u, hu, hP⟩ := h
  obtain rfl : t = u := Host.Outcome.next.inj (hexec.symm.trans hu)
  exact hP

/-- The scrubber at the first word of each memory, and the first row of bank 0, RETIRED, copied to a spare 2. A bank has the spares 0 and
1 only (R190): the place of the third is that of spare 0 of bank 1, to which the first row of that bank is copied. -/
def strayCopyState : State :=
  let s := (State.reset.setBit MEM_CTRL 0 true).setRg (FLT_CHSTAT 0) 2
  { s with ms := { s.ms with copies := [{ bank := 0, row := 0, spare := 2 }, { bank := 1, row := 0, spare := 0 }] } }

/-- Both banks' rows are served from the one place, so the scrubber finds its error in each of them. -/
theorem scrubStep_finds_twice :
    Ends (.scrubStep (some (.word 0x10000000 true))) strayCopyState (fun t => t.rg MEM_UECNT = 2) :=
  ⟨_, rfl, by decide +kernel⟩

/-- Refutes O24, in its clause on an upset that makes a word uncorrectable: the statement's states include those whose
copies name a spare that the bank does not have, which no retirement takes; MEM_UECNT then counts the one error in two banks. -/
theorem not_memoryMaintenance : ¬ Obligations.MemoryMaintenance := by
  intro h
  obtain ⟨_, _, _, hupset, _⟩ := h strayCopyState 0 0
  obtain ⟨t, hexec, htwice⟩ := scrubStep_finds_twice
  obtain ⟨_, honce, _⟩ := of_ends hexec (hupset 0x10000000 0x100002000 (fun _ => rfl) (by decide +kernel) (by decide) (by decide)
    (by decide +kernel) (by decide +kernel) (by decide +kernel))
  rw [htwice] at honce
  exact absurd honce (by decide +kernel)

end Sys2Proof.Machine
end

section
/-! The operations on a channel of the DMA (spec/07 R198 to R206), said once: what each leaves of the channel's fields, of its
descriptor, of the registers and of memory. -/

namespace Sys2Proof.Machine

variable {s u : State} {w : Nat → Prop} {n : Nat}

/-! ### Addresses and fields -/

/-- The registers of a channel that an operation writes together differ. -/
theorem chStat_ne (n : Nat) : DMA_CH_STAT n ≠ DMA_CH_CFG n ∧ DMA_CH_STAT n ≠ DMA_CH_DESC n ∧ DMA_CH_STAT n ≠ DMA_CH_ERRADDR n ∧
    DMA_CH_STAT n ≠ DMA_CH_TMISS n ∧ DMA_CH_STAT n ≠ DMA_EVT := by
  unfold DMA_CH_STAT DMA_CH_CFG DMA_CH_DESC DMA_CH_ERRADDR DMA_CH_TMISS DMA_EVT
  omega

theorem chCfg_ne_cmdst (n : Nat) : DMA_CH_CFG n ≠ DMA_CMDST := by
  unfold DMA_CH_CFG DMA_CMDST
  omega

theorem chCfg_ne_desc (n : Nat) : DMA_CH_CFG n ≠ DMA_CH_DESC n := by
  unfold DMA_CH_CFG DMA_CH_DESC
  omega

theorem chCfg_ne_pend (n : Nat) {g : Nat} (hg : g < 32) : DMA_CH_CFG n ≠ ECX_PEND g := by
  unfold DMA_CH_CFG ECX_PEND
  omega

theorem chTmiss_ne_evt (n : Nat) : DMA_CH_TMISS n ≠ DMA_EVT := by
  unfold DMA_CH_TMISS DMA_EVT
  omega

/-- The registers of the channels lie above every word of PEND. -/
theorem chRegs_ne_pend (n : Nat) {g : Nat} (hg : g < 32) : DMA_CH_STAT n ≠ ECX_PEND g ∧ DMA_CH_DESC n ≠ ECX_PEND g ∧
    DMA_CH_ERRADDR n ≠ ECX_PEND g ∧ DMA_CH_TMISS n ≠ ECX_PEND g := by
  unfold DMA_CH_STAT DMA_CH_DESC DMA_CH_ERRADDR DMA_CH_TMISS ECX_PEND
  omega

theorem bit_setFld_other (s : State) (a lo len v : Nat) {k : Nat} (hk : k < 32) (hd : k < lo ∨ lo + len ≤ k) :
    (s.setFld a lo len v).bit a k = s.bit a k := by
  simp only [State.bit, State.setFld, rg_setRg_same, bitOf_withField _ _ _ _ _ hk]
  rw [if_neg (by omega)]

theorem fld_setBit_other (s : State) (a k : Nat) (b : Bool) {lo len : Nat} (h : lo + len ≤ 32) (hd : k < lo ∨ lo + len ≤ k) :
    (s.setBit a k b).fld a lo len = s.fld a lo len :=
  fld_setFld_other s a k 1 _ h (by omega)

theorem dmaState_setFld (s : State) {v : Nat} (h : v < 8) : (s.setFld (DMA_CH_STAT n) 0 3 v).dmaState n = v :=
  (fld_setFld_same s _ _ _ _ (by decide)).trans (Nat.mod_eq_of_lt h)

theorem dmaState_congr (h : u.rg (DMA_CH_STAT n) = s.rg (DMA_CH_STAT n)) : u.dmaState n = s.dmaState n := fld_congr h 0 3

theorem dmaTrig_congr (h : u.rg (DMA_CH_CFG n) = s.rg (DMA_CH_CFG n)) : u.dmaTrig n = s.dmaTrig n := fld_congr h 0 6

/-- The state that a channel enters with trigger `t`: RUN without one, else WAIT (R201, R202). -/
def dmaEntered (t : Nat) : Nat := if t = 0 then D_RUN else D_WAIT

theorem dmaEntered_lt (t : Nat) : dmaEntered t < 8 := by
  unfold dmaEntered
  split <;> decide

theorem dmaStill_iff : s.dmaStill n = true ↔ s.dmaState n = 0 ∨ s.dmaState n = 3 := by
  simp [State.dmaStill]

theorem dmaLive_iff : s.dmaLive n = true ↔ s.bit SYS_CLKEN 0 = true ∧ (s.dmaState n = 1 ∨ s.dmaState n = 2) := by
  simp [State.dmaLive, State.dmaBusy, State.dmaState]

/-! ### A channel's descriptor and phase -/

@[simp] theorem dmaRun_setDmaRun (s : State) (n : Nat) (r : DmaRun) : (s.setDmaRun n r).dmaRun n = r :=
  (smGet_smSet _ _ _ _ _).trans (if_pos rfl)

@[simp] theorem dmaPhase_setDmaPhase (s : State) (n : Nat) (p : DmaPhase) : (s.setDmaPhase n p).dmaPhase n = p :=
  (smGet_smSet _ _ _ _ _).trans (if_pos rfl)

/-- The descriptor of a burst that starts (R202). -/
def DmaRun.started (r : DmaRun) : DmaRun := { r with burstLeft := r.burst }

/-! ### Registers that an operation writes -/

namespace WritesOnly

theorem setDmaRun (h : WritesOnly w s u) (n : Nat) (r : DmaRun) : WritesOnly w s (u.setDmaRun n r) := h.withDma _

theorem setDmaPhase (h : WritesOnly w s u) (n : Nat) (p : DmaPhase) : WritesOnly w s (u.setDmaPhase n p) := h.withDma _

theorem dmaBurst (h : WritesOnly w s u) (hstat : w (DMA_CH_STAT n)) : WritesOnly w s (u.dmaBurst n) :=
  (h.setDmaRun n _).setFld hstat _ _ _

/-- A waiting channel's burst writes its status alone (R203). -/
theorem dmaWake_stat (h : WritesOnly w s u) (hstat : w (DMA_CH_STAT n)) : WritesOnly w s (u.dmaWake n) := by
  unfold State.dmaWake
  dsimp only
  split
  · exact (h.setFld hstat _ _ _).dmaBurst hstat
  · exact h

/-- A pulse of one channel writes its status, or counts as missed (R203). -/
theorem dmaPulseOne_channel (h : WritesOnly w s u) (hstat : w (DMA_CH_STAT n)) (hmiss : w (DMA_CH_TMISS n)) (hevt : w DMA_EVT)
    (hpend : w (ECX_PEND 1)) : WritesOnly w s (u.dmaPulseOne n) := by
  unfold State.dmaPulseOne
  dsimp only
  split
  · exact (h.count hmiss 1).event hevt hpend 1
  · exact (h.setFld hstat _ _ _).dmaWake_stat hstat

end WritesOnly

/-! ### START and STOP (R201) -/

theorem dmaStart_spec (s : State) (n : Nat) : (s.dmaStart n).dmaState n = dmaEntered (s.dmaTrig n) ∧
    (s.dmaStart n).fld (DMA_CH_STAT n) 4 4 = 0 ∧ (s.dmaStart n).bit (DMA_CH_STAT n) 12 = false ∧ (s.dmaStart n).dmaPhase n = .fetch ∧
    (∀ w : Nat → Prop, w (DMA_CH_STAT n) → WritesOnly w s (s.dmaStart n)) := by
  refine ⟨dmaState_setFld _ (dmaEntered_lt _), ?_, ?_, dmaPhase_setDmaPhase _ _ _, fun w hw => ?_⟩
  · exact (fld_setFld_other _ _ _ _ _ (by decide) (by decide)).trans (fld_setFld_same _ _ _ _ _ (by decide))
  · refine (bit_setFld_other _ _ _ _ _ (by decide) (by decide)).trans ?_
    exact (bit_setFld_other _ _ _ _ _ (by decide) (by decide)).trans (bit_setBit_same s _ _ _ (by decide))
  · exact (((((WritesOnly.refl w s).setBit hw _ _).setFld hw _ _ _).setFld hw _ _ _).setDmaRun n _).setDmaPhase n _

theorem dmaIdle_spec (s : State) (n : Nat) : (s.dmaIdle n).dmaState n = 0 ∧
    (s.dmaIdle n).rg (DMA_CH_DESC n) = smGet (fun _ => 0) s.dma.first n ∧
    (∀ w : Nat → Prop, w (DMA_CH_STAT n) → w (DMA_CH_DESC n) → WritesOnly w s (s.dmaIdle n)) := by
  refine ⟨?_, rg_setRg_same _ _ _, fun w hstat hdesc => ?_⟩
  · refine (dmaState_congr (s := s.setFld (DMA_CH_STAT n) 0 3 D_IDLE) (rg_setRg_ne _ _ (chStat_ne n).2.1)).trans ?_
    exact dmaState_setFld s (by decide)
  · exact (((WritesOnly.refl w s).setFld hstat _ _ _).setRg hdesc _).setDmaPhase n _

/-- The channel goes on with the descriptor at `d`, which is fetched next (R205). -/
def State.dmaFollow (s : State) (n : Nat) (d : Word) : State :=
  let t := (s.setRg (DMA_CH_DESC n) d).setDmaPhase n .fetch
  t.setFld (DMA_CH_STAT n) 0 3 (dmaEntered (t.dmaTrig n))

theorem dmaFollow_spec (s : State) (n : Nat) (d : Word) : (s.dmaFollow n d).dmaState n = dmaEntered (s.dmaTrig n) ∧
    (s.dmaFollow n d).rg (DMA_CH_DESC n) = d ∧ (s.dmaFollow n d).dmaPhase n = .fetch ∧
    (∀ w : Nat → Prop, w (DMA_CH_STAT n) → w (DMA_CH_DESC n) → WritesOnly w s (s.dmaFollow n d)) := by
  obtain ⟨_, hstatDesc, _⟩ := chStat_ne n
  have htrig : ((s.setRg (DMA_CH_DESC n) d).setDmaPhase n .fetch).dmaTrig n = s.dmaTrig n :=
    dmaTrig_congr (rg_setRg_ne s d (chCfg_ne_desc n))
  refine ⟨(dmaState_setFld _ (dmaEntered_lt _)).trans (by rw [htrig]), ?_, dmaPhase_setDmaPhase _ _ _, fun w hstat hdesc => ?_⟩
  · exact (rg_setFld_ne _ _ _ _ hstatDesc.symm).trans (rg_setRg_same s _ d)
  · exact (((WritesOnly.refl w s).setRg hdesc d).setDmaPhase n _).setFld hstat _ _ _

theorem dmaStop_spec (s : State) (n : Nat) : (s.dmaStop n).dmaState n = 0 ∧ (s.dmaStop n).bit (DMA_CH_STAT n) 12 = true ∧
    (s.dmaStop n).rg (DMA_CH_DESC n) = smGet (fun _ => 0) s.dma.first n ∧
    (∀ w : Nat → Prop, w (DMA_CH_STAT n) → w (DMA_CH_DESC n) → WritesOnly w s (s.dmaStop n)) := by
  obtain ⟨hidle, hfirst, hwrites⟩ := dmaIdle_spec s n
  refine ⟨?_, bit_setBit_same _ _ _ _ (by decide), ?_, fun w hstat hdesc => ?_⟩
  · exact (fld_setBit_other _ _ _ _ (by decide) (by decide)).trans hidle
  · exact (rg_setBit_ne _ _ _ (chStat_ne n).2.1.symm).trans hfirst
  · exact ((hwrites w hstat hdesc).setBit hstat _ _).setDmaRun n _

/-! ### Bursts (R202, R203) -/

theorem dmaBurst_spec (s : State) (n : Nat) : (s.dmaBurst n).dmaState n = 2 ∧ (s.dmaBurst n).dmaRun n = (s.dmaRun n).started ∧
    (s.dmaBurst n).dmaPhase n = s.dmaPhase n ∧ (s.dmaBurst n).dma.lastServed = s.dma.lastServed ∧ (s.dmaBurst n).mem = s.mem :=
  ⟨dmaState_setFld _ (by decide), dmaRun_setDmaRun _ _ _, rfl, rfl, rfl⟩

theorem dmaWake_phase (h : s.dmaPhase n ≠ .move) : s.dmaWake n = s := if_neg fun hw => h hw.2.2.1

/-- A pulse that finds its channel waiting with a fetched descriptor starts a burst, and is consumed. -/
theorem dmaWake_burst {p : Nat} (hp : p < 15) (htrig : pulseTrig (s.dmaTrig n) = true) (hwait : s.dmaState n = 1)
    (hmove : s.dmaPhase n = .move) : (s.setFld (DMA_CH_STAT n) 16 4 (p + 1)).dmaWake n =
      ((s.setFld (DMA_CH_STAT n) 16 4 (p + 1)).setFld (DMA_CH_STAT n) 16 4 p).dmaBurst n := by
  have hpend : (s.setFld (DMA_CH_STAT n) 16 4 (p + 1)).fld (DMA_CH_STAT n) 16 4 = p + 1 :=
    (fld_setFld_same s _ _ _ _ (by decide)).trans (Nat.mod_eq_of_lt (by omega))
  have htrig' : (s.setFld (DMA_CH_STAT n) 16 4 (p + 1)).dmaTrig n = s.dmaTrig n := dmaTrig_congr (rg_setFld_ne s _ _ _ (chStat_ne n).1.symm)
  have hwait' : (s.setFld (DMA_CH_STAT n) 16 4 (p + 1)).dmaState n = 1 :=
    (fld_setFld_other s _ _ _ _ (by decide) (by decide)).trans hwait
  unfold State.dmaWake
  dsimp only
  rw [hpend, htrig', if_pos ⟨htrig, hwait', hmove, by omega⟩]
  rfl

/-! ### Halts (R206) -/

/-- What a halt of channel `n` shows: HALT, the phase `err` and the address `a`. -/
def State.dmaHalted (u : State) (n err a : Nat) : Prop :=
  u.dmaState n = 3 ∧ u.fld (DMA_CH_STAT n) 4 4 = err ∧ u.rg (DMA_CH_ERRADDR n) = BitVec.ofNat 32 a

theorem errKind_code_lt (k : ErrKind) : k.code < 16 := by cases k <;> decide

theorem dmaHalt_spec (s : State) {err kind : Nat} (hn : n < 16) (herr : err < 16) (hkind : kind < 16) (a : Nat) :
    (s.dmaHalt n err kind a).dmaHalted n err a ∧ (s.dmaHalt n err kind a).fld (DMA_CH_STAT n) 8 4 = kind ∧
    (s.dmaHalt n err kind a).mem = s.mem := by
  obtain ⟨hstatPend, _, haddrPend, _⟩ := chRegs_ne_pend n (g := (80 + n) / 32) (by omega)
  have hstat : ∀ x : State, ((x.setRg (DMA_CH_ERRADDR n) (w32 a)).raise (80 + n)).rg (DMA_CH_STAT n) = x.rg (DMA_CH_STAT n) := fun x =>
    (rg_raise_ne _ _ hstatPend).trans (rg_setRg_ne _ _ (chStat_ne n).2.2.1)
  refine ⟨⟨?_, ?_, ?_⟩, ?_, State.raise_mem _ _⟩
  · refine (fld_congr (hstat _) 0 3).trans ?_
    rw [fld_setFld_other _ _ _ _ _ (by decide) (by decide), fld_setFld_other _ _ _ _ _ (by decide) (by decide)]
    exact fld_setFld_same s _ _ _ _ (by decide)
  · refine (fld_congr (hstat _) 4 4).trans ?_
    rw [fld_setFld_other _ _ _ _ _ (by decide) (by decide), fld_setFld_same _ _ _ _ _ (by decide)]
    exact Nat.mod_eq_of_lt herr
  · exact (rg_raise_ne _ _ haddrPend).trans (rg_setRg_same _ _ _)
  · refine (fld_congr (hstat _) 8 4).trans ?_
    rw [fld_setFld_same _ _ _ _ _ (by decide)]
    exact Nat.mod_eq_of_lt hkind

/-! ### Elements (R199, R202) -/

theorem dmaWake_keeps (s : State) (n : Nat) : (s.dmaWake n).mem = s.mem ∧ (s.dmaWake n).dma.lastServed = s.dma.lastServed := by
  unfold State.dmaWake
  dsimp only
  split <;> exact ⟨rfl, rfl⟩

theorem dmaStep_keeps (s : State) (n : Nat) : (s.dmaStep n).mem = s.mem ∧ (s.dmaStep n).dma.lastServed = s.dma.lastServed := by
  unfold State.dmaStep
  extract_lets r x y wrap r1 t
  split
  · exact ⟨rfl, rfl⟩
  · split
    · exact ⟨rfl, rfl⟩
    · split
      · exact ⟨rfl, rfl⟩
      · exact dmaWake_keeps _ n

/-- An element inside its burst and its row moves the channel on by one column. -/
theorem dmaRun_dmaStep_column (hburst : 1 < (s.dmaRun n).burstLeft) (hcol : (s.dmaRun n).col + 1 < fieldOf ((s.dmaRun n).at_ 3) 0 16)
    (hrow : (s.dmaRun n).row < fieldOf ((s.dmaRun n).at_ 3) 16 16) : (s.dmaStep n).dmaRun n =
      { s.dmaRun n with col := (s.dmaRun n).col + 1, burstLeft := (s.dmaRun n).burstLeft - 1 } := by
  unfold State.dmaStep
  simp only [Nat.not_le.mpr hcol, Nat.not_le.mpr hrow, Nat.sub_pos_of_lt hburst, decide_false, Bool.false_eq_true, if_false, if_true]
  exact dmaRun_setDmaRun _ _ _

end Sys2Proof.Machine
end

section
/-! The DMA's commands and events (spec/07 R200 to R206): the effect of each, and the statement DmaChannels. -/

namespace Sys2Proof.Machine

variable {s u x : State} {i : Initiator} {v : Word} {n : Fin 16} {t : Fin 64} {k : ErrKind} {e : Nat}

/-! ### Commands (R201) -/

theorem writeDmaCtrl_start (s : State) (n : Nat) : s.writeDmaCtrl n 1 =
    s.command dmaPort false (!s.dmaStill n) false (fun t => t.dmaStart n) := rfl

theorem writeDmaCtrl_stop (s : State) (n : Nat) : s.writeDmaCtrl n 2 =
    s.command dmaPort false (s.dmaStill n) false (fun t => t.dmaStop n) := rfl

theorem dmaStart_starts (hs : s.serves i (DMA_CH_CTRL n.val) 1 = true) (hstill : s.dmaStill n.val = true) :
    Ends (.dmaStart i n) s (fun u => u.dmaState n.val = dmaEntered (s.dmaTrig n.val) ∧
      u.fld (DMA_CH_STAT n.val) 4 4 = 0 ∧ u.bit (DMA_CH_STAT n.val) 12 = false ∧ u.dmaPhase n.val = .fetch ∧
      SameRegsBut s u [DMA_CH_STAT n.val, DMA_CMDST] ∧ u.mem = s.mem) := by
  refine ends_served hs rfl ?_
  rw [writeDmaCtrl_start, command_accepted _ rfl (by rw [hstill]; rfl) rfl]
  obtain ⟨hstate, herr, hstopped, hphase, hwrites⟩ := dmaStart_spec (s.accept dmaPort) n.val
  have htrig : (s.accept dmaPort).dmaTrig n.val = s.dmaTrig n.val := dmaTrig_congr (rg_accept_ne s dmaPort (chCfg_ne_cmdst _))
  exact ⟨hstate.trans (by rw [htrig]), herr, hstopped, hphase,
    (((WritesOnly.refl _ s).accept (by simp [dmaPort])).regsOnly.writes (hwrites _ (by simp))).rg, (hwrites (fun _ => True) trivial).mem⟩

theorem dmaStart_refused (hs : s.serves i (DMA_CH_CTRL n.val) 1 = true) (hbusy : s.dmaStill n.val = false) :
    exec (.dmaStart i n) s = .next (s.reject dmaPort ST_STATE) := by
  rw [exec_served hs rfl, writeDmaCtrl_start, command_rejected_state _ (by rw [hbusy]; rfl)]

theorem dmaStop_stops (hs : s.serves i (DMA_CH_CTRL n.val) 2 = true) (hbusy : s.dmaStill n.val = false) :
    Ends (.dmaStop i n) s (fun u => u.dmaState n.val = 0 ∧ u.bit (DMA_CH_STAT n.val) 12 = true ∧
      u.rg (DMA_CH_DESC n.val) = smGet (fun _ => 0) s.dma.first n.val ∧
      SameRegsBut s u [DMA_CH_STAT n.val, DMA_CH_DESC n.val, DMA_CMDST] ∧ u.mem = s.mem) := by
  refine ends_served hs rfl ?_
  rw [writeDmaCtrl_stop, command_accepted _ rfl hbusy rfl]
  obtain ⟨hstate, hstopped, hfirst, hwrites⟩ := dmaStop_spec (s.accept dmaPort) n.val
  exact ⟨hstate, hstopped, hfirst,
    (((WritesOnly.refl _ s).accept (by simp [dmaPort])).regsOnly.writes (hwrites _ (by simp) (by simp))).rg,
    (hwrites (fun _ => True) trivial trivial).mem⟩

/-- A mask of the bits that hold a field keeps the field. -/
theorem fieldOf_and {lo len : Nat} (v m : Word) (h : ∀ j, j < len → bitOf m (lo + j) = true) :
    fieldOf (v &&& m) lo len = fieldOf v lo len := by
  apply Nat.eq_of_testBit_eq
  intro j
  rw [testBit_fieldOf, testBit_fieldOf, BitVec.getLsbD_and]
  by_cases hj : j < len
  · rw [show m.getLsbD (lo + j) = true from h j hj, Bool.and_true]
  · simp [hj]

/-- TRIG and PRIO of a written configuration (R202, R204). -/
theorem fieldOf_dmaCfg (v : Word) : fieldOf (v &&& 0x33F) 0 6 = v.toNat % 64 ∧ fieldOf (v &&& 0x33F) 8 2 = v.toNat / 256 % 4 := by
  refine ⟨fieldOf_and v _ (by decide), (fieldOf_and v _ (by decide)).trans ?_⟩
  exact congrArg (· % 4) (Nat.shiftRight_eq_div_pow v.toNat 8)

theorem dmaCfgWrite_stores (hs : s.serves i (DMA_CH_CFG n.val) v = true) (hstill : s.dmaStill n.val = true) :
    Ends (.dmaCfgWrite i n v) s (fun u => u.dmaTrig n.val = v.toNat % 64 ∧ u.fld (DMA_CH_CFG n.val) 8 2 = v.toNat / 256 % 4 ∧
      SameRegsBut s u [DMA_CH_CFG n.val, DMA_CMDST]) := by
  refine ends_served hs rfl ?_
  rw [State.writeDmaCfg, command_accepted _ rfl (by rw [hstill]; rfl) rfl]
  obtain ⟨htrig, hprio⟩ := fieldOf_dmaCfg v
  refine ⟨?_, ?_, (((WritesOnly.refl _ s).accept (by simp [dmaPort])).setRg (by simp) _).sameRegsBut⟩
  · rw [State.dmaTrig, State.fld, rg_setRg_same, htrig]
  · rw [State.fld, rg_setRg_same, hprio]

theorem dmaDescWrite_stores (hs : s.serves i (DMA_CH_DESC n.val) v = true) (hstill : s.dmaStill n.val = true) :
    Ends (.dmaDescWrite i n v) s (fun u => u.rg (DMA_CH_DESC n.val) = v &&& 0xFFFFFFE0 ∧
      SameRegsBut s u [DMA_CH_DESC n.val, DMA_CMDST]) := by
  refine ends_served hs rfl ?_
  rw [State.writeDmaDesc, command_accepted _ rfl (by rw [hstill]; rfl) rfl]
  exact ⟨rg_setRg_same _ _ _, ((((WritesOnly.refl _ s).accept (by simp [dmaPort])).setRg (by simp) _).withDma _).sameRegsBut⟩

/-! ### Pulses (R203) -/

/-- A pulse of one channel writes no configuration. -/
theorem dmaTrig_dmaPulseOne (s : State) {n m : Nat} : (s.dmaPulseOne n).dmaTrig m = s.dmaTrig m := by
  have hne : ∀ a ∈ [DMA_CH_STAT n, DMA_CH_TMISS n, DMA_EVT, ECX_PEND 1], DMA_CH_CFG m ≠ a := by
    unfold DMA_CH_STAT DMA_CH_TMISS DMA_EVT ECX_PEND DMA_CH_CFG
    simp only [List.mem_cons, List.not_mem_nil, or_false, forall_eq_or_imp, forall_eq]
    omega
  have hwrites : WritesOnly (· ∈ [DMA_CH_STAT n, DMA_CH_TMISS n, DMA_EVT, ECX_PEND 1]) s (s.dmaPulseOne n) :=
    (WritesOnly.refl _ s).dmaPulseOne_channel (by simp) (by simp) (by simp) (by simp)
  exact dmaTrig_congr (hwrites.rg _ fun hm => hne _ hm rfl)

/-- A pulse of trigger `t` over channels that do not select it changes nothing. -/
theorem foldl_dmaPulse_others {l : List Nat} {t : Nat} (h : ∀ m ∈ l, s.dmaTrig m ≠ t) :
    l.foldl (fun u m => if u.dmaTrig m = t then u.dmaPulseOne m else u) s = s :=
  List.foldlRecOn (motive := fun u => u = s) l _ rfl fun _ hu m hm => by rw [hu, if_neg (h m hm)]

/-- A pulse that one channel alone selects is that channel's pulse. -/
theorem dmaPulse_one (hclk : s.bit SYS_CLKEN 0 = true) (hpulse : pulseTrig t.val = true) (htrig : s.dmaTrig n.val = t.val)
    (hothers : ∀ m, m < 16 → m ≠ n.val → s.dmaTrig m ≠ t.val) : s.dmaPulse t.val = s.dmaPulseOne n.val := by
  obtain ⟨l, r, hsplit⟩ := List.append_of_mem (List.mem_range.mpr n.isLt)
  have hnodup : (l ++ n.val :: r).Nodup := hsplit ▸ List.nodup_range
  have hlt : ∀ m ∈ l ++ n.val :: r, m < 16 := fun m hm => List.mem_range.mp (hsplit ▸ hm)
  obtain ⟨-, hright, hdisj⟩ := List.nodup_append.mp hnodup
  have hl : ∀ m ∈ l, s.dmaTrig m ≠ t.val := fun m hm =>
    hothers m (hlt m (by simp [hm])) (hdisj m hm _ (by simp))
  have hr : ∀ m ∈ r, (s.dmaPulseOne n.val).dmaTrig m ≠ t.val := fun m hm => by
    rw [dmaTrig_dmaPulseOne]
    exact hothers m (hlt m (by simp [hm])) fun e => (List.nodup_cons.mp hright).1 (e ▸ hm)
  rw [State.dmaPulse, hpulse, hclk, hsplit, List.foldl_append, foldl_dmaPulse_others hl, List.foldl_cons, if_pos htrig,
    foldl_dmaPulse_others hr]
  rfl

section
variable (hclk : s.bit SYS_CLKEN 0 = true) (hpulse : pulseTrig t.val = true) (htrig : s.dmaTrig n.val = t.val)
  (hothers : ∀ m, m < 16 → m ≠ n.val → s.dmaTrig m ≠ t.val) (hpend : s.fld (DMA_CH_STAT n.val) 16 4 < 15)
include hclk hpulse htrig hothers

theorem dmaTriggerPulse_one : exec (.dmaTriggerPulse t) s = .next (s.dmaPulseOne n.val) :=
  congrArg Host.Outcome.next (dmaPulse_one hclk hpulse htrig hothers)

theorem dmaTriggerPulse_missed (hstill : s.dmaStill n.val = true) : Ends (.dmaTriggerPulse t) s (fun u =>
    u.rg (DMA_CH_TMISS n.val) = satInc (s.rg (DMA_CH_TMISS n.val)) 1 ∧ u.bit DMA_EVT 1 = true ∧
    u.rg (DMA_CH_STAT n.val) = s.rg (DMA_CH_STAT n.val)) := by
  refine ⟨_, dmaTriggerPulse_one hclk hpulse htrig hothers, ?_⟩
  obtain ⟨_, _, _, hstatMiss, hstatEvt⟩ := chStat_ne n.val
  obtain ⟨hstatPend, _, _, hmissPend⟩ := chRegs_ne_pend n.val (g := 54 / 32) (by decide)
  rw [State.dmaPulseOne, if_pos (.inr hstill)]
  refine ⟨?_, bit_event_self _ _ _ _ (by decide) (by decide), ?_⟩
  · rw [rg_event_ne _ _ _ _ hmissPend (chTmiss_ne_evt _), rg_count, if_pos rfl]
  · rw [rg_event_ne _ _ _ _ hstatPend hstatEvt, rg_count_ne _ _ hstatMiss]

include hpend

theorem dmaTriggerPulse_live (hbusy : s.dmaStill n.val = false) : exec (.dmaTriggerPulse t) s =
    .next ((s.setFld (DMA_CH_STAT n.val) 16 4 (s.fld (DMA_CH_STAT n.val) 16 4 + 1)).dmaWake n.val) := by
  rw [dmaTriggerPulse_one hclk hpulse htrig hothers, State.dmaPulseOne, if_neg (not_or.mpr ⟨Nat.ne_of_lt hpend, Bool.eq_false_iff.mp hbusy⟩)]

theorem dmaTriggerPulse_counts (hbusy : s.dmaStill n.val = false) (hfetch : s.dmaPhase n.val = .fetch) :
    Ends (.dmaTriggerPulse t) s (fun u => u.fld (DMA_CH_STAT n.val) 16 4 = s.fld (DMA_CH_STAT n.val) 16 4 + 1 ∧
      SameRegsBut s u [DMA_CH_STAT n.val]) := by
  refine ⟨_, dmaTriggerPulse_live hclk hpulse htrig hothers hpend hbusy, ?_⟩
  have hphase : s.dmaPhase n.val ≠ .move := by
    rw [hfetch]
    decide
  rw [dmaWake_phase (s := s.setFld _ _ _ _) hphase]
  exact ⟨(fld_setFld_same _ _ _ _ _ (by decide)).trans (Nat.mod_eq_of_lt (by omega)),
    ((WritesOnly.refl _ s).setFld (by simp) _ _ _).sameRegsBut⟩

theorem dmaTriggerPulse_starts (hwait : s.dmaState n.val = 1) (hmove : s.dmaPhase n.val = .move) :
    Ends (.dmaTriggerPulse t) s (fun u => u.dmaState n.val = 2 ∧
      u.fld (DMA_CH_STAT n.val) 16 4 = s.fld (DMA_CH_STAT n.val) 16 4 ∧ (u.dmaRun n.val).burstLeft = (s.dmaRun n.val).burst) := by
  have hbusy : s.dmaStill n.val = false := by simp [State.dmaStill, hwait]
  refine ⟨_, dmaTriggerPulse_live hclk hpulse htrig hothers hpend hbusy, ?_⟩
  rw [dmaWake_burst hpend (by rw [htrig, hpulse]) hwait hmove]
  obtain ⟨hrun, hstarted, _⟩ := dmaBurst_spec ((s.setFld (DMA_CH_STAT n.val) 16 4 (s.fld (DMA_CH_STAT n.val) 16 4 + 1)).setFld
    (DMA_CH_STAT n.val) 16 4 (s.fld (DMA_CH_STAT n.val) 16 4)) n.val
  refine ⟨hrun, ?_, by rw [hstarted]; rfl⟩
  refine (fld_setFld_other _ _ _ _ _ (by decide) (by decide)).trans ((fld_setFld_same _ _ _ _ _ (by decide)).trans ?_)
  exact Nat.mod_eq_of_lt (by omega)

end

/-! ### Descriptor fetches (R200, R206) -/

/-- A descriptor of the bytes `b`, at its first element. -/
def DmaRun.fetched (b : List Byte) : DmaRun :=
  { words := (List.range 8).map (fun j => w32 (ofLe ((b.drop (4 * j)).take 4))), row := 0, col := 0, burstLeft := 0 }

/-- The state in which a descriptor has been fetched. -/
def State.dmaLoaded (u : State) (n : Nat) (r : DmaRun) : State := (u.setDmaRun n r).setDmaPhase n .move

section
variable {b : List Byte} (hlive : s.dmaLive n.val = true) (hphase : s.dmaPhase n.val = .fetch)
include hlive hphase

theorem dmaDescFetch_ok (hread : s.readRun .dma (s.rg (DMA_CH_DESC n.val)).toNat 32 = (b, none, u)) :
    exec (.dmaDescFetch n) s = .next (
      if (DmaRun.fetched b).invalid then
        (u.dmaLoaded n.val (DmaRun.fetched b)).dmaHalt n.val 4 0 (s.rg (DMA_CH_DESC n.val)).toNat
      else if u.dmaTrig n.val = 0 then (u.dmaLoaded n.val (DmaRun.fetched b)).dmaBurst n.val
      else (u.dmaLoaded n.val (DmaRun.fetched b)).dmaWake n.val) := by
  show execDmaDescFetch n s = _
  unfold execDmaDescFetch
  simp only [hlive, hphase, hread, beq_self_eq_true, Bool.and_self, if_true, done]
  rfl

theorem dmaDescFetch_runs (hread : s.readRun .dma (s.rg (DMA_CH_DESC n.val)).toNat 32 = (b, none, u))
    (hvalid : (DmaRun.fetched b).invalid = false) (htrig : u.dmaTrig n.val = 0) : Ends (.dmaDescFetch n) s (fun x =>
      x.dmaState n.val = 2 ∧ x.dmaPhase n.val = .move ∧ x.dmaRun n.val = (DmaRun.fetched b).started ∧ x.mem = u.mem) := by
  refine ⟨_, dmaDescFetch_ok hlive hphase hread, ?_⟩
  rw [hvalid, if_neg Bool.false_ne_true, if_pos htrig]
  obtain ⟨hrun, hstarted, hmove, _, hmem⟩ := dmaBurst_spec (u.dmaLoaded n.val (DmaRun.fetched b)) n.val
  have hloaded : (u.dmaLoaded n.val (DmaRun.fetched b)).dmaRun n.val = DmaRun.fetched b :=
    dmaRun_setDmaRun u n.val (DmaRun.fetched b)
  exact ⟨hrun, hmove.trans (dmaPhase_setDmaPhase _ _ _), hstarted.trans (by rw [hloaded]), hmem⟩

theorem dmaDescFetch_invalid (hread : s.readRun .dma (s.rg (DMA_CH_DESC n.val)).toNat 32 = (b, none, u))
    (hbad : (DmaRun.fetched b).invalid = true) : Ends (.dmaDescFetch n) s (fun x =>
      x.dmaHalted n.val 4 (s.rg (DMA_CH_DESC n.val)).toNat ∧ x.mem = u.mem) := by
  refine ⟨_, dmaDescFetch_ok hlive hphase hread, ?_⟩
  rw [hbad, if_pos rfl]
  obtain ⟨hhalted, _, hmem⟩ := dmaHalt_spec (u.dmaLoaded n.val (DmaRun.fetched b)) n.isLt (err := 4) (kind := 0) (by decide) (by decide)
    (s.rg (DMA_CH_DESC n.val)).toNat
  exact ⟨hhalted, hmem⟩

theorem dmaDescFetch_fails {p : Nat} (hread : s.readRun .dma (s.rg (DMA_CH_DESC n.val)).toNat 32 = (b, some (k, p), u)) :
    Ends (.dmaDescFetch n) s (fun x => x.dmaHalted n.val 3 p ∧ x.fld (DMA_CH_STAT n.val) 8 4 = k.code ∧ x.mem = u.mem) := by
  have hexec : exec (.dmaDescFetch n) s = .next (u.dmaHalt n.val 3 k.code p) := by
    show execDmaDescFetch n s = _
    unfold execDmaDescFetch
    simp only [hlive, hphase, hread, beq_self_eq_true, Bool.and_self, if_true, done]
  exact ⟨_, hexec, dmaHalt_spec u n.isLt (by decide) (errKind_code_lt k) p⟩

end

theorem dmaLevelTrigger_starts (hlive : s.dmaLive n.val = true) (hwait : s.dmaState n.val = 1) (hphase : s.dmaPhase n.val = .move)
    (hreq : s.dmaLevel (s.dmaTrig n.val) = true) : Ends (.dmaLevelTrigger n) s (fun u =>
      u.dmaState n.val = 2 ∧ (u.dmaRun n.val).burstLeft = (s.dmaRun n.val).burst) := by
  have hexec : exec (.dmaLevelTrigger n) s = .next (s.dmaBurst n.val) := by
    show execDmaLevelTrigger n s = _
    unfold execDmaLevelTrigger
    simp only [hlive, hwait, hphase, hreq, beq_self_eq_true, Bool.and_self, if_true, done]
  obtain ⟨hrun, hstarted, _⟩ := dmaBurst_spec s n.val
  exact ⟨_, hexec, hrun, by rw [hstarted]; rfl⟩

/-! ### Elements (R204, R206) -/

/-- The channel of each PRIO served last, once channel `n` is served (R204). -/
def State.dmaServed (s : State) (n : Nat) : State :=
  { s with dma := { s.dma with lastServed := smSet (fun _ => 15) s.dma.lastServed (s.dmaPrio n) n } }

/-- Size, source and destination of the element that a descriptor stands at (R198, R199). -/
def DmaRun.size (r : DmaRun) : Size := Size.ofCode (fieldOf (r.at_ 0) 0 2)
def DmaRun.src (r : DmaRun) : Nat := r.addr 1 4 (fieldOf (r.at_ 0) 2 2)
def DmaRun.dst (r : DmaRun) : Nat := r.addr 2 5 (fieldOf (r.at_ 0) 4 2)

section
variable (hclk : s.bit SYS_CLKEN 0 = true) (hnext : s.dmaNext = some n.val)
include hclk hnext

theorem dmaElement_readFails (hread : (s.dmaServed n.val).busRead .dma (s.dmaRun n.val).src (s.dmaRun n.val).size = (.err k, u)) :
    Ends .dmaElement s (fun x => x.dmaHalted n.val 1 (s.dmaRun n.val).src ∧ x.fld (DMA_CH_STAT n.val) 8 4 = k.code ∧ x.mem = u.mem) := by
  have hexec : exec .dmaElement s = .next (u.dmaHalt n.val 1 k.code (s.dmaRun n.val).src) := by
    show execDmaElement s = _
    unfold execDmaElement
    simp only [State.dmaServed, DmaRun.src, DmaRun.size] at hread
    simp only [hclk, hnext, hread, Bool.not_true, Bool.false_eq_true, if_false, done]
    rfl
  exact ⟨_, hexec, dmaHalt_spec u n.isLt (by decide) (errKind_code_lt k) _⟩

section
variable (hread : (s.dmaServed n.val).busRead .dma (s.dmaRun n.val).src (s.dmaRun n.val).size = (.ok e, u))
include hread

theorem dmaElement_writeFails (hwrite : u.busWrite .dma (s.dmaRun n.val).dst (s.dmaRun n.val).size e = (.err k, x)) :
    Ends .dmaElement s (fun y => y.dmaHalted n.val 2 (s.dmaRun n.val).dst ∧ y.fld (DMA_CH_STAT n.val) 8 4 = k.code ∧ y.mem = x.mem) := by
  have hexec : exec .dmaElement s = .next (x.dmaHalt n.val 2 k.code (s.dmaRun n.val).dst) := by
    show execDmaElement s = _
    unfold execDmaElement
    simp only [State.dmaServed, DmaRun.src, DmaRun.dst, DmaRun.size] at hread hwrite
    simp only [hclk, hnext, hread, hwrite, Bool.not_true, Bool.false_eq_true, if_false, done]
    rfl
  exact ⟨_, hexec, dmaHalt_spec x n.isLt (by decide) (errKind_code_lt k) _⟩

theorem dmaElement_moves (hwrite : u.busWrite .dma (s.dmaRun n.val).dst (s.dmaRun n.val).size e = (.ok 0, x)) :
    exec .dmaElement s = .next (if x.dmaReady n.val then x.dmaStep n.val else x) := by
  show execDmaElement s = _
  unfold execDmaElement
  simp only [State.dmaServed, DmaRun.src, DmaRun.dst, DmaRun.size] at hread hwrite
  simp only [hclk, hnext, hread, hwrite, Bool.not_true, Bool.false_eq_true, if_false, done]

theorem dmaElement_steps (hwrite : u.busWrite .dma (s.dmaRun n.val).dst (s.dmaRun n.val).size e = (.ok 0, x)) :
    Ends .dmaElement s (fun y => y.mem = x.mem ∧ y.dma.lastServed = x.dma.lastServed ∧
      (x.dmaReady n.val = true → 1 < (x.dmaRun n.val).burstLeft →
        (x.dmaRun n.val).col + 1 < fieldOf ((x.dmaRun n.val).at_ 3) 0 16 →
        (x.dmaRun n.val).row < fieldOf ((x.dmaRun n.val).at_ 3) 16 16 →
        y.dmaRun n.val = { x.dmaRun n.val with col := (x.dmaRun n.val).col + 1, burstLeft := (x.dmaRun n.val).burstLeft - 1 })) := by
  refine ⟨_, dmaElement_moves hclk hnext hread hwrite, ?_⟩
  obtain ⟨hmem, hserved⟩ := dmaStep_keeps x n.val
  cases hready : x.dmaReady n.val with
  | false => exact ⟨rfl, rfl, fun h => absurd h Bool.false_ne_true⟩
  | true => exact ⟨hmem, hserved, fun _ => dmaRun_dmaStep_column⟩

end
end

/-! ### The end of a descriptor (R205) -/

/-- Source 64 + `n` is raised where the descriptor's IRQ is 1. -/
def State.dmaIrq (s : State) (n : Nat) : State := if bitOf ((s.dmaRun n).at_ 0) 9 then s.raise (64 + n) else s

theorem dmaIrq_mem (s : State) (n : Nat) : (s.dmaIrq n).mem = s.mem := by
  unfold State.dmaIrq
  split
  · exact State.raise_mem s _
  · rfl

theorem dmaIrq_dma (s : State) (n : Nat) : (s.dmaIrq n).dma = s.dma := by
  unfold State.dmaIrq
  split
  · exact State.raise_dma s _
  · rfl

theorem rg_dmaIrq_ne (s : State) (n : Nat) {a : Nat} (h : a ≠ ECX_PEND ((64 + n) / 32)) : (s.dmaIrq n).rg a = s.rg a := by
  unfold State.dmaIrq
  split
  · exact rg_raise_ne s _ h
  · rfl

/-- The source stays pending through what writes the channel's own registers. -/
theorem pendOf_dmaIrq {w : Nat → Prop} (h : WritesOnly w (s.dmaIrq n.val) u) (hw : ¬ w (ECX_PEND ((64 + n.val) / 32)))
    (hirq : bitOf ((s.dmaRun n.val).at_ 0) 9 = true) (hedge : s.isLevel (64 + n.val) = false) : u.pendOf (64 + n.val) = true := by
  refine (bit_congr (h.rg _ hw) _).trans ?_
  rw [State.dmaIrq, if_pos hirq]
  exact pendOf_raise s _ hedge

section
variable (hlive : s.dmaLive n.val = true) (hphase : s.dmaPhase n.val = .ending) (hback : bitOf ((s.dmaRun n.val).at_ 0) 10 = false)
include hlive hphase hback

theorem dmaDescEnd_eq : exec (.dmaDescEnd n) s = .next (if bitOf ((s.dmaRun n.val).at_ 0) 11 then (s.dmaIrq n.val).dmaIdle n.val
    else (s.dmaIrq n.val).dmaFollow n.val ((s.dmaRun n.val).at_ 6)) := by
  show execDmaDescEnd n s = _
  unfold execDmaDescEnd
  simp only [hlive, hphase, hback, beq_self_eq_true, Bool.and_self, if_true, Bool.false_eq_true, if_false, done]
  rfl

theorem dmaDescEnd_last (hlast : bitOf ((s.dmaRun n.val).at_ 0) 11 = true) : Ends (.dmaDescEnd n) s (fun u =>
    u.dmaState n.val = 0 ∧ u.rg (DMA_CH_DESC n.val) = smGet (fun _ => 0) s.dma.first n.val ∧ u.mem = s.mem ∧
    (bitOf ((s.dmaRun n.val).at_ 0) 9 = true → s.isLevel (64 + n.val) = false → u.pendOf (64 + n.val) = true)) := by
  refine ⟨_, dmaDescEnd_eq hlive hphase hback, ?_⟩
  rw [if_pos hlast]
  obtain ⟨hidle, hfirst, hwrites⟩ := dmaIdle_spec (s.dmaIrq n.val) n.val
  obtain ⟨hstatPend, hdescPend, _⟩ := chRegs_ne_pend n.val (g := (64 + n.val) / 32) (by omega)
  have hown := hwrites (· ∈ [DMA_CH_STAT n.val, DMA_CH_DESC n.val]) (by simp) (by simp)
  exact ⟨hidle, hfirst.trans (by rw [dmaIrq_dma]), hown.mem.trans (dmaIrq_mem s _),
    pendOf_dmaIrq hown (by simp [hstatPend.symm, hdescPend.symm])⟩

theorem dmaDescEnd_follows (hlast : bitOf ((s.dmaRun n.val).at_ 0) 11 = false) : Ends (.dmaDescEnd n) s (fun u =>
    u.dmaState n.val = dmaEntered (s.dmaTrig n.val) ∧ u.rg (DMA_CH_DESC n.val) = (s.dmaRun n.val).at_ 6 ∧
    u.dmaPhase n.val = .fetch ∧ u.mem = s.mem ∧
    (bitOf ((s.dmaRun n.val).at_ 0) 9 = true → s.isLevel (64 + n.val) = false → u.pendOf (64 + n.val) = true)) := by
  refine ⟨_, dmaDescEnd_eq hlive hphase hback, ?_⟩
  rw [hlast, if_neg Bool.false_ne_true]
  obtain ⟨hstate, hdesc, hfetch, hwrites⟩ := dmaFollow_spec (s.dmaIrq n.val) n.val ((s.dmaRun n.val).at_ 6)
  obtain ⟨hstatPend, hdescPend, _⟩ := chRegs_ne_pend n.val (g := (64 + n.val) / 32) (by omega)
  have hown := hwrites (· ∈ [DMA_CH_STAT n.val, DMA_CH_DESC n.val]) (by simp) (by simp)
  have htrig : (s.dmaIrq n.val).dmaTrig n.val = s.dmaTrig n.val := dmaTrig_congr (rg_dmaIrq_ne s _ (chCfg_ne_pend _ (by omega)))
  exact ⟨hstate.trans (by rw [htrig]), hdesc, hfetch, hown.mem.trans (dmaIrq_mem s _),
    pendOf_dmaIrq hown (by simp [hstatPend.symm, hdescPend.symm])⟩

end

/-! ### The statement -/

theorem pulseTrig_of_range {t : Nat} (hlo : 1 ≤ t) (hhi : t ≤ 25) : pulseTrig t = true := decide_eq_true ⟨hlo, hhi⟩

/-- Settles O25: each clause is the rule of its command or event above. -/
theorem dmaChannels : Obligations.DmaChannels := by
  intro s i n v t st still r first z src dst s1 halted live
  have hbusy : ¬ still → s.dmaStill n.val = false := fun h => Bool.eq_false_iff.mpr (mt dmaStill_iff.mp h)
  have hmoving : (st = 1 ∨ st = 2) → s.dmaStill n.val = false := fun h => hbusy (by simp only [still]; omega)
  refine ⟨fun hs h => dmaStart_starts hs (dmaStill_iff.mpr h), fun hs h => dmaStart_refused hs (hbusy h),
    fun hs h => dmaStop_stops hs (hbusy h), fun hs h => dmaCfgWrite_stores hs (dmaStill_iff.mpr h),
    fun hs h => dmaDescWrite_stores hs (dmaStill_iff.mpr h), fun hclk hlo hhi htrig hothers hpend => ?_,
    fun b e u d hlive hfetch hread hd => ?_, fun hlive => dmaLevelTrigger_starts (dmaLive_iff.mpr hlive),
    fun k u hclk hnext => dmaElement_readFails hclk hnext, fun e u w hclk hnext hread => ?_, fun hlive hphase hback => ?_⟩
  · have hpulse := pulseTrig_of_range hlo hhi
    exact ⟨fun h => dmaTriggerPulse_counts hclk hpulse htrig hothers hpend (hmoving h),
      dmaTriggerPulse_starts hclk hpulse htrig hothers hpend,
      fun h => dmaTriggerPulse_missed hclk hpulse htrig hothers (dmaStill_iff.mpr h)⟩
  · obtain rfl : d = DmaRun.fetched b := hd
    have hrun := dmaLive_iff.mpr hlive
    refine ⟨fun he hvalid htrig => ?_, fun he hbad => ?_, fun k p he => ?_⟩
    · exact dmaDescFetch_runs hrun hfetch (hread.trans (by rw [he])) hvalid htrig
    · exact dmaDescFetch_invalid hrun hfetch (hread.trans (by rw [he])) hbad
    · exact dmaDescFetch_fails hrun hfetch (hread.trans (by rw [he]))
  · exact ⟨fun k => dmaElement_writeFails hclk hnext hread, dmaElement_steps hclk hnext hread⟩
  · have hrun := dmaLive_iff.mpr hlive
    exact ⟨dmaDescEnd_last hrun hphase hback, dmaDescEnd_follows hrun hphase hback⟩

end Sys2Proof.Machine
end

section
/-! The removal of a log entry and the watchdog (spec/08 R211, R214 to R218), and the statement WatchdogAndLog. -/

namespace Sys2Proof.Machine

variable {s t : State} {i : Initiator} {v : Word} {reason : Nat}

/-! ### When COUNT advances (R218) -/

theorem wdgCounts_iff : s.wdgCounts = true ↔
    s.bit WDG_CFG 0 = true ∧ s.powered = true ∧ (s.bit WDG_CFG 2 = true → s.pwr ≠ .doze) := by
  simp only [State.wdgCounts, Bool.and_eq_true, Bool.not_eq_true', Bool.and_eq_false_imp, beq_eq_false_iff_ne]
  exact ⟨fun ⟨⟨hp, hen⟩, hdoze⟩ => ⟨hen, hp, hdoze⟩, fun ⟨hen, hp, hdoze⟩ => ⟨⟨hp, hen⟩, hdoze⟩⟩

theorem wdgCounts_doze (hcfg : s.bit WDG_CFG 2 = true) (hpwr : s.pwr = .doze) : s.wdgCounts = false :=
  Bool.eq_false_iff.mpr fun h => (wdgCounts_iff.mp h).2.2 hcfg hpwr

/-- What decides whether COUNT advances, and COUNT itself, are as in `s`. -/
def SameCount (s t : State) : Prop := t.pwr = s.pwr ∧ t.rg WDG_CFG = s.rg WDG_CFG ∧ t.rg WDG_COUNT = s.rg WDG_COUNT

theorem SameCount.setRg {a : Nat} (h : SameCount s t) (hcfg : WDG_CFG ≠ a) (hcount : WDG_COUNT ≠ a) (v : Word) :
    SameCount s (t.setRg a v) :=
  ⟨h.1, (rg_setRg_ne t v hcfg).trans h.2.1, (rg_setRg_ne t v hcount).trans h.2.2⟩

theorem SameCount.settleLevels (h : SameCount s t) : SameCount s t.settleLevels := by
  refine settleLevels_keeps t (P := SameCount s) (fun u src hsrc hu => ?_) (fun _ hu => hu) h
  exact SameCount.setRg hu (by unfold WDG_CFG ECX_PEND; omega) (by unfold WDG_COUNT ECX_PEND; omega) _

theorem SameCount.wdgCounts (h : SameCount s t) : t.wdgCounts = s.wdgCounts := by
  obtain ⟨hpwr, hcfg, -⟩ := h
  simp only [State.wdgCounts, State.powered, State.bit, hpwr, hcfg]

/-- A watchdog that does not count keeps COUNT while time passes. -/
theorem wdgCount_advance (hstill : s.wdgCounts = false) (n : Nat) : (s.advance n).rg WDG_COUNT = s.rg WDG_COUNT := by
  have hclocks : ∀ p m, SameCount s ((s.setRg BEAT_PHASE p).setRg64 LNK_TIME_LO m) := fun p m => by
    have hphase : SameCount s (s.setRg BEAT_PHASE p) := SameCount.setRg ⟨rfl, rfl, rfl⟩ (by decide) (by decide) p
    exact (hphase.setRg (by decide) (by decide) _).setRg (by decide) (by decide) _
  unfold State.advance
  split
  · rfl
  · extract_lets tot ns half us s1 up settled s2
    have hsettled : SameCount s settled := by
      dsimp only [settled]
      split
      · exact hclocks _ _
      · exact (hclocks _ _).settleLevels
    have hmoved : SameCount s s2 := hsettled
    rw [hmoved.wdgCounts, hstill, Bool.false_and, if_neg Bool.false_ne_true]
    exact hmoved.2.2

/-! ### A new service interval (R215) -/

theorem count_wdgRestart (s : State) : s.wdgRestart.rg WDG_COUNT = 0 := rg_setRg_same s WDG_COUNT 0

theorem rg_wdgRestart_ne (s : State) {a : Nat} (h : a ≠ WDG_COUNT) : s.wdgRestart.rg a = s.rg a := rg_setRg_ne s 0 h

/-! ### Violations (R216) -/

/-- What a violation of REASON `reason` leaves, where bit 1 of WDG_CFG reads as in `s`. -/
def WdgViolated (s : State) (reason : Nat) (u : State) : Prop :=
  u.fld WDG_STAT 0 2 = reason ∧ u.gnt.wdgSeq = false ∧ (s.bit WDG_CFG 1 = false → u.gnt.wdgGrace = some reason) ∧
    (s.bit WDG_CFG 1 = true → u.gnt.wdgGrace = none ∧ u.rg WDG_COUNT = 0)

/-- The violation shown in WDG_STAT, with source 101. -/
def State.wdgShown (s : State) (reason : Nat) : State := ((s.wdgSeqTo false).setFld WDG_STAT 0 2 reason).raise 101

theorem gnt_wdgShown (s : State) (reason : Nat) : (s.wdgShown reason).gnt = { s.gnt with wdgSeq := false } := by
  rw [State.wdgShown, State.raise_gnt]
  rfl

theorem stat_wdgShown (s : State) (h : reason < 4) : (s.wdgShown reason).fld WDG_STAT 0 2 = reason := by
  rw [State.wdgShown, fld_congr (rg_raise_ne _ 101 (by decide))]
  exact (fld_setFld_same _ WDG_STAT 0 2 reason (by decide)).trans (Nat.mod_eq_of_lt h)

theorem cfg_wdgShown (s : State) (reason : Nat) : (s.wdgShown reason).bit WDG_CFG 1 = s.bit WDG_CFG 1 := by
  rw [State.wdgShown, bit_congr (rg_raise_ne _ 101 (by decide)), bit_congr (rg_setFld_ne _ _ _ _ (by decide))]
  rfl

theorem wdgViolation_eq (hgrace : s.gnt.wdgGrace = none) (reason : Nat) : s.wdgViolation reason =
    if s.bit WDG_CFG 1 then (s.wdgShown reason).wdgRestart
    else { s.wdgShown reason with gnt := { (s.wdgShown reason).gnt with wdgGrace := some reason } } := by
  rw [← cfg_wdgShown s reason, State.wdgViolation, hgrace]
  rfl

theorem wdgViolation_violates (hgrace : s.gnt.wdgGrace = none) (hreason : reason < 4) :
    WdgViolated s reason (s.wdgViolation reason) := by
  have hseq : (s.wdgShown reason).gnt.wdgSeq = false := by rw [gnt_wdgShown]
  rw [wdgViolation_eq hgrace]
  split
  next hcfg =>
    refine ⟨?_, hseq, fun h => absurd hcfg (by simp [h]), fun _ => ⟨?_, count_wdgRestart _⟩⟩
    · exact (fld_congr (rg_wdgRestart_ne _ (by decide)) 0 2).trans (stat_wdgShown s hreason)
    · exact (congrArg GntSt.wdgGrace (gnt_wdgShown s reason)).trans hgrace
  next hcfg => exact ⟨stat_wdgShown s hreason, hseq, fun _ => rfl, fun h => absurd h hcfg⟩

/-! ### Kicks (R214) -/

section
variable (hs : s.serves i WDG_KICK v = true) (hen : s.bit WDG_CFG 0 = true) (hgrace : s.gnt.wdgGrace = none)
include hs hen hgrace

theorem wdgKick_eq : exec (.wdgKick i v) s = .next (
    if v = 0xC35A ∧ s.gnt.wdgSeq = false then s.wdgSeqTo true
    else if v = 0x3CA5 ∧ s.gnt.wdgSeq = true then
      if (s.rg WDG_COUNT).toNat < (s.rg WDG_OPEN).toNat then s.wdgViolation 2 else (s.wdgSeqTo false).wdgRestart
    else s.wdgViolation 3) := by
  rw [exec_served (act := fun t => t.writeWdgKick v) hs rfl, State.writeWdgKick, hen, hgrace]
  rfl

theorem wdgKick_begins (hv : v = 0xC35A) (hseq : s.gnt.wdgSeq = false) :
    Ends (.wdgKick i v) s (fun u => u.gnt.wdgSeq = true ∧ u.regs = s.regs) :=
  ⟨_, wdgKick_eq hs hen hgrace, by rw [if_pos ⟨hv, hseq⟩]; exact ⟨rfl, rfl⟩⟩

theorem wdgKick_restarts (hv : v = 0x3CA5) (hseq : s.gnt.wdgSeq = true) (hopen : (s.rg WDG_OPEN).toNat ≤ (s.rg WDG_COUNT).toNat) :
    Ends (.wdgKick i v) s (fun u => u.gnt.wdgSeq = false ∧ u.rg WDG_COUNT = 0 ∧ u.gnt.wdgWarned = false ∧
      SameRegsBut s u [WDG_COUNT]) := by
  refine ⟨_, wdgKick_eq hs hen hgrace, ?_⟩
  rw [if_neg (by simp [hseq]), if_pos ⟨hv, hseq⟩, if_neg (by omega)]
  exact ⟨rfl, count_wdgRestart _, rfl, fun a ha => rg_wdgRestart_ne (s.wdgSeqTo false) (by simpa using ha)⟩

theorem wdgKick_early (hv : v = 0x3CA5) (hseq : s.gnt.wdgSeq = true) (hopen : (s.rg WDG_COUNT).toNat < (s.rg WDG_OPEN).toNat) :
    Ends (.wdgKick i v) s (WdgViolated s 2) := by
  refine ⟨_, wdgKick_eq hs hen hgrace, ?_⟩
  rw [if_neg (by simp [hseq]), if_pos ⟨hv, hseq⟩, if_pos hopen]
  exact wdgViolation_violates hgrace (by decide)

theorem wdgKick_badKey (hfirst : v ≠ 0xC35A) (hsecond : v ≠ 0x3CA5) : Ends (.wdgKick i v) s (WdgViolated s 3) := by
  refine ⟨_, wdgKick_eq hs hen hgrace, ?_⟩
  rw [if_neg fun h => hfirst h.1, if_neg fun h => hsecond h.1]
  exact wdgViolation_violates hgrace (by decide)

end

/-! ### COUNT reaches TIMEOUT, and the warning before it (R214, R215, R218) -/

theorem wdgLate_still (h : s.wdgCounts = false) : exec .wdgLate s = .next s :=
  congrArg Host.Outcome.next (if_neg (by simp [h]))

theorem wdgWarn_still (h : s.wdgCounts = false ∨ s.gnt.wdgWarned = true) : exec .wdgWarn s = .next s :=
  congrArg Host.Outcome.next (if_neg (by rcases h with h | h <;> simp [h]))

theorem wdgLate_violates (hcounts : s.wdgCounts = true) (hgrace : s.gnt.wdgGrace = none) :
    Ends .wdgLate s (WdgViolated s 1) := by
  refine ⟨_, congrArg Host.Outcome.next (if_pos hcounts), ?_⟩
  have hcfg : (s.setRg WDG_COUNT (s.rg WDG_TIMEOUT)).bit WDG_CFG 1 = s.bit WDG_CFG 1 := bit_congr (rg_setRg_ne s _ (by decide)) 1
  have hlate := wdgViolation_violates (s := s.setRg WDG_COUNT (s.rg WDG_TIMEOUT)) (reason := 1) hgrace (by decide)
  rwa [WdgViolated, hcfg] at hlate

theorem wdgWarn_warns (hcounts : s.wdgCounts = true) (hfirst : s.gnt.wdgWarned = false) :
    Ends .wdgWarn s (fun u => u.gnt.wdgWarned = true ∧ SameRegsBut s u [WDG_COUNT, ECX_PEND 3]) :=
  ⟨_, congrArg Host.Outcome.next (if_pos (by simp [hcounts, hfirst])), rfl,
    (((WritesOnly.refl _ s).setRg (by simp) _).raise (n := 100) (by simp)).sameRegsBut⟩

/-! ### Configuration (R217) -/

theorem wdgCfgWrite_stores (hs : s.serves i WDG_CFG v = true) (hoff : s.bit WDG_CFG 0 = false)
    (hopen : (s.rg WDG_OPEN).toNat < (s.rg WDG_TIMEOUT).toNat) (hwarn : (s.rg WDG_WARN).toNat < (s.rg WDG_TIMEOUT).toNat) :
    Ends (.wdgCfgWrite i v) s (fun u => u.rg WDG_CFG = v &&& 0x3FF0007 ∧ u.fld WDG_CMDST 0 4 = 0 ∧
      (bitOf v 0 = true → u.rg WDG_COUNT = 0)) := by
  have hst : ((s.accept wdgPort).setRg WDG_CFG (v &&& 0x3FF0007)).fld WDG_CMDST 0 4 = 0 :=
    (fld_congr (rg_setRg_ne _ _ (by decide)) 0 4).trans (st_accept s wdgPort)
  refine ends_served hs rfl ?_
  rw [State.writeWdgCfg, command_accepted _ rfl hoff (by simp [hopen, hwarn])]
  dsimp only
  split
  next => exact ⟨(rg_wdgRestart_ne _ (by decide)).trans (rg_setRg_same (s.accept wdgPort) _ _),
    (fld_congr (rg_wdgRestart_ne _ (by decide)) 0 4).trans hst, fun _ => count_wdgRestart _⟩
  next hen => exact ⟨rg_setRg_same _ _ _, hst, fun h => absurd h hen⟩

theorem wdgCfgWrite_refused (hs : s.serves i WDG_CFG v = true) (hen : s.bit WDG_CFG 0 = true) :
    exec (.wdgCfgWrite i v) s = .next (s.reject wdgPort ST_STATE) := by
  rw [exec_served (act := fun t => t.writeWdgCfg v) hs rfl, State.writeWdgCfg, command_rejected_state _ hen]

theorem limit_eq_warn : ∀ r : Fin 3, WDG_TIMEOUT + 4 * r.val = WDG_WARN ↔ r = 2 := by decide

theorem wdgLimitWrite_stores {r : Fin 3} (hs : s.serves i (WDG_TIMEOUT + 4 * r.val) v = true) (hoff : s.bit WDG_CFG 0 = false) :
    Ends (.wdgLimitWrite i r v) s (fun u =>
      u.rg (WDG_TIMEOUT + 4 * r.val) = (if r = 2 then v &&& 0xFFFF else v &&& 0xFFFFFF) ∧
      SameRegsBut s u [WDG_TIMEOUT + 4 * r.val, WDG_CMDST]) := by
  refine ends_served hs rfl ?_
  rw [State.writeWdgLimit, command_accepted _ rfl hoff rfl]
  refine ⟨?_, (((WritesOnly.refl _ s).accept (by simp [wdgPort])).setRg (by simp) _).sameRegsBut⟩
  rw [rg_setRg_same]
  simp only [limit_eq_warn]

theorem wdgLimitWrite_refused {r : Fin 3} (hs : s.serves i (WDG_TIMEOUT + 4 * r.val) v = true) (hen : s.bit WDG_CFG 0 = true) :
    exec (.wdgLimitWrite i r v) s = .next (s.reject wdgPort ST_STATE) := by
  rw [exec_served (act := fun t => t.writeWdgLimit (WDG_TIMEOUT + 4 * r.val) v) hs rfl, State.writeWdgLimit,
    command_rejected_state _ hen]

/-! ### The statement -/

/-- Settles O26: each clause is the rule of its command or event above. -/
theorem watchdogAndLog : Obligations.WatchdogAndLog := by
  intro s i v r on counts kick violates
  have hcounts : counts → s.wdgCounts = true := wdgCounts_iff.mpr
  refine ⟨fun hs => ends_served hs rfl ⟨rfl, rfl, rfl⟩, fun ⟨hen, hgrace, hs⟩ => wdgKick_begins hs hen hgrace,
    fun ⟨hen, hgrace, hs⟩ => wdgKick_restarts hs hen hgrace, fun ⟨hen, hgrace, hs⟩ => wdgKick_early hs hen hgrace,
    fun ⟨hen, hgrace, hs⟩ => wdgKick_badKey hs hen hgrace, fun h => wdgLate_violates (hcounts h), fun h => wdgWarn_warns (hcounts h),
    fun _ h => wdgWarn_still (.inr h), fun hcfg hpwr => ?_, fun hs hoff => wdgCfgWrite_stores hs (Bool.eq_false_iff.mpr hoff),
    wdgCfgWrite_refused, fun hs hoff => wdgLimitWrite_stores hs (Bool.eq_false_iff.mpr hoff), wdgLimitWrite_refused⟩
  have hstill := wdgCounts_doze hcfg hpwr
  exact ⟨wdgLate_still hstill, wdgWarn_still (.inl hstill), wdgCount_advance hstill⟩

end Sys2Proof.Machine
end

section
/-! The key store and random numbers (spec/08 R213, R227 to R230, R234), and the statement KeyStore. -/

namespace Sys2Proof.Machine

variable {s t u : State} {i : Initiator} {slot type : Fin 16} {usage : Fin 4} {n : Nat} {k x : KeySlot} {q : KeySlot → Prop}

/-! ### A key command begins (R228, R229) -/

theorem keyTypeOk_iff {type usage : Nat} :
    keyTypeOk type usage = true ↔ (1 ≤ type ∧ type ≤ 2) ∨ (type = 3 ∧ usage = 0) := by
  simp only [keyTypeOk, Bool.and_eq_true, decide_eq_true_eq, Bool.or_eq_true, bne_iff_ne, beq_iff_eq]
  omega

theorem keyWord_eq (op type usage slot : Nat) :
    BitVec.ofNat 32 (op * 0x10000000 + (type * 65536 + usage * 256 + slot)) = keyWord op type usage slot :=
  congrArg (BitVec.ofNat 32) (by omega)

theorem keyWord_slot (op slot : Nat) : BitVec.ofNat 32 (op * 0x10000000 + slot) = keyWord op 0 0 slot :=
  congrArg (BitVec.ofNat 32) (by omega)

/-- What a key command on slot `n` that begins leaves: BUSY with status OK, the slots as they were, and contents with `q` under way. -/
def KeyBegins (s : State) (n : Nat) (q : KeySlot → Prop) (u : State) : Prop :=
  u.bit KEY_STAT 31 = true ∧ u.fld KEY_STAT 0 4 = 0 ∧ u.gnt.keys = s.gnt.keys ∧ (∃ x, u.gnt.keyOp = some (n, x) ∧ q x) ∧
    SameRegsBut s u [KEY_STAT] ∧ u.mem = s.mem

/-- A command that begins after its acceptance; `t` may have drawn its key since. -/
theorem keyBegin_begins (hregs : t.regs = (s.accept keyPort).regs) (hgnt : t.gnt = s.gnt) (hmem : t.mem = s.mem) (rng : Bool)
    (hq : q k) : KeyBegins s n q (t.keyBegin rng n k) := by
  have hst : t.fld KEY_STAT 0 4 = 0 := (fld_congr (rg_congr hregs _) 0 4).trans (st_accept s keyPort)
  refine ⟨bit_setBit_same t _ _ _ (by decide), (fld_setBit_other t KEY_STAT 31 true (by decide) (by decide)).trans hst,
    (congrArg GntSt.keys hgnt :), ⟨k, rfl, hq⟩, fun a ha => ?_, hmem⟩
  have hne : a ≠ KEY_STAT := by simpa using ha
  exact ((rg_setBit_ne t 31 true hne).trans (rg_congr hregs a)).trans (rg_accept_ne s keyPort hne)

theorem KeyBegins.clearKeyIn (h : KeyBegins s n q u) : KeyBegins s n q u.clearKeyIn := h

/-! ### GEN (R228, R234) -/

theorem keyGen_exec (hs : s.serves i KEY_CMD (BitVec.ofNat 32 (0x10000000 + (type.val * 65536 + usage.val * 256 + slot.val))) = true) :
    exec (.keyGen i slot type usage) s = .next (s.keyGen slot.val type.val usage.val) := by
  rw [show 0x10000000 = 1 * 0x10000000 from rfl, keyWord_eq] at hs
  exact exec_served (act := fun t => t.keyGen slot.val type.val usage.val) hs rfl

theorem keyGen_full (hfull : (s.keySlot n).type ≠ 0) (type usage : Nat) : s.keyGen n type usage = s.reject keyPort ST_STATE := by
  have hbad : (s.keyBusy || (s.keySlot n).type != 0) = true := by simp [hfull]
  rw [State.keyGen, hbad]
  rfl

theorem keyGen_unhealthy {type usage : Nat} (hidle : s.keyBusy = false) (hempty : (s.keySlot n).type = 0)
    (hlegal : keyTypeOk type usage = true) (hrng : s.bit CRY_STAT 8 = true) :
    s.keyGen n type usage = s.reject keyPort ST_RNGFAIL := by
  rw [State.keyGen, hidle, hempty, hlegal, hrng]
  rfl

theorem keyGen_begins {type usage : Nat} (hidle : s.keyBusy = false) (hempty : (s.keySlot n).type = 0)
    (hlegal : keyTypeOk type usage = true) (hrng : s.bit CRY_STAT 8 = false) :
    KeyBegins s n (fun x => x.type = type ∧ x.usage = usage ∧ x.lock = false) (s.keyGen n type usage) := by
  rw [State.keyGen, hidle, hempty, hlegal, hrng]
  exact keyBegin_begins rfl rfl rfl true ⟨rfl, rfl, rfl⟩

/-! ### LOAD (R228, R230) -/

theorem keyLoad_exec (hs : s.serves i KEY_CMD (BitVec.ofNat 32 (0x20000000 + (type.val * 65536 + usage.val * 256 + slot.val))) = true) :
    exec (.keyLoad i slot type usage) s = .next (s.keyLoad slot.val type.val usage.val) := by
  rw [show 0x20000000 = 2 * 0x10000000 from rfl, keyWord_eq] at hs
  exact exec_served (act := fun t => t.keyLoad slot.val type.val usage.val) hs rfl

theorem keyLoad_begins {type usage : Nat} (hidle : s.keyBusy = false) (hempty : (s.keySlot n).type = 0)
    (hlegal : keyTypeOk type usage = true) (hkey : type = 3 → 1 ≤ s.keyInValue ∧ s.keyInValue < p256n) :
    KeyBegins s n (fun x => x.type = type ∧ x.usage = usage ∧ x.lock = false ∧
      x.key = if type = 1 then s.keyInValue / 2 ^ 128 * 2 ^ 128 else s.keyInValue) (s.keyLoad n type usage) := by
  have hgood : (!keyTypeOk type usage || (type == 3 && !decide (1 ≤ s.keyInValue ∧ s.keyInValue < p256n))) = false := by
    simpa [hlegal] using hkey
  unfold State.keyLoad
  dsimp only
  rw [command_accepted _ rfl (by simp [hidle, hempty]) hgood]
  exact (keyBegin_begins rfl rfl rfl false ⟨rfl, rfl, rfl, rfl⟩).clearKeyIn

theorem keyInValue_clearKeyIn (s : State) : s.clearKeyIn.keyInValue = 0 := by
  simp [State.keyInValue, State.clearKeyIn, smGet, List.range_succ]

/-- KEY_IN reads 0 after every LOAD (R228). -/
theorem keyInValue_keyLoad (s : State) (n type usage : Nat) : (s.keyLoad n type usage).keyInValue = 0 :=
  keyInValue_clearKeyIn _

/-! ### ERASE and LOCK (R228) -/

theorem keyErase_exec (hs : s.serves i KEY_CMD (BitVec.ofNat 32 (0x30000000 + slot.val)) = true) :
    exec (.keyErase i slot) s = .next (s.keyErase slot.val) := by
  rw [show 0x30000000 = 3 * 0x10000000 from rfl, keyWord_slot] at hs
  exact exec_served (act := fun t => t.keyErase slot.val) hs rfl

theorem keyErase_begins (hidle : s.keyBusy = false) (hlock : (s.keySlot n).lock = false) (hcry : s.gnt.cryOp = none) :
    KeyBegins s n (fun x => x = KeySlot.empty) (s.keyErase n) := by
  rw [State.keyErase, command_accepted _ rfl (by simp [hidle, hlock, State.cryUses, hcry]) rfl]
  exact keyBegin_begins rfl rfl rfl false rfl

theorem keyErase_locked (hlock : (s.keySlot n).lock = true) : s.keyErase n = s.reject keyPort ST_STATE := by
  rw [State.keyErase, command_rejected_state _ (by simp [hlock])]

theorem keyLock_exec (hs : s.serves i KEY_CMD (BitVec.ofNat 32 (0x40000000 + slot.val)) = true) :
    exec (.keyLock i slot) s = .next (s.keyLock slot.val) := by
  rw [show 0x40000000 = 4 * 0x10000000 from rfl, keyWord_slot] at hs
  exact exec_served (act := fun t => t.keyLock slot.val) hs rfl

theorem keyLock_begins (hidle : s.keyBusy = false) (hfull : (s.keySlot n).type ≠ 0) :
    KeyBegins s n (fun x => x = { s.keySlot n with lock := true }) (s.keyLock n) := by
  rw [State.keyLock, command_accepted _ rfl (by simp [hidle, hfull]) rfl]
  exact keyBegin_begins rfl rfl rfl false rfl

/-! ### KEY_DONE (R229, R230, R234) -/

/-- The key store is free again, with BUSY clear. -/
def State.keyFreed (s : State) : State := s.gntKeyFree.setBit KEY_STAT 31 false

theorem busy_keyFreed (s : State) : s.keyFreed.bit KEY_STAT 31 = false := bit_setBit_same s.gntKeyFree _ _ _ (by decide)

theorem writesOnly_keyFreed (s : State) : WritesOnly (· ∈ [KEY_STAT]) s s.keyFreed :=
  ((WritesOnly.refl _ s).kept rfl rfl rfl : WritesOnly _ s s.gntKeyFree).setBit (by simp) _ _

theorem reject_key (s : State) (code : Nat) :
    s.reject keyPort code = ((s.setFld KEY_STAT 0 4 code).count KEY_REJECT 1).raise 113 := rfl

theorem keyDone_fails (hop : s.gnt.keyOp = some (n, x)) (hgen : s.gnt.keyRng = true) (hrng : s.bit CRY_STAT 8 = true) :
    exec .keyDone s = .next (s.keyFreed.reject keyPort ST_RNGFAIL) := by
  show execKeyDone s = _
  simp only [execKeyDone, hop, hgen, hrng]
  rfl

theorem keyDone_stores (hop : s.gnt.keyOp = some (n, x)) (hgood : s.gnt.keyRng = false ∨ s.bit CRY_STAT 8 = false) :
    exec .keyDone s = .next (State.raise { s.keyFreed with
      gnt := { s.keyFreed.gnt with keys := smSet (fun _ => KeySlot.empty) s.gnt.keys n x } } 112) := by
  have hpass : (s.gnt.keyRng && s.bit CRY_STAT 8) = false := by rcases hgood with h | h <;> simp [h]
  show execKeyDone s = _
  simp only [execKeyDone, hop, hpass]
  rfl

theorem keyDone_rngFail (hop : s.gnt.keyOp = some (n, x)) (hgen : s.gnt.keyRng = true) (hrng : s.bit CRY_STAT 8 = true) :
    Ends .keyDone s (fun u => u.gnt.keys = s.gnt.keys ∧ u.bit KEY_STAT 31 = false ∧ u.fld KEY_STAT 0 4 = 7 ∧ u.gnt.keyOp = none ∧
      u.rg KEY_REJECT = satInc (s.rg KEY_REJECT) 1 ∧ SameRegsBut s u [KEY_STAT, KEY_REJECT, ECX_PEND 3]) := by
  refine ⟨_, keyDone_fails hop hgen hrng, ?_⟩
  have hstat : (s.keyFreed.reject keyPort ST_RNGFAIL).rg KEY_STAT = (s.keyFreed.setFld KEY_STAT 0 4 ST_RNGFAIL).rg KEY_STAT := by
    rw [reject_key, rg_raise_ne _ _ (by decide), rg_count_ne _ _ (by decide)]
  have hfreed : WritesOnly (· ∈ [KEY_STAT, KEY_REJECT, ECX_PEND 3]) s s.keyFreed :=
    (writesOnly_keyFreed s).weaken (by simp +contextual)
  refine ⟨by rw [State.reject_gnt]; rfl, ?_, ?_, by rw [State.reject_gnt]; rfl, ?_,
    (((hfreed.setFld (a := KEY_STAT) (by simp) 0 4 _).count (a := KEY_REJECT) (by simp) 1).raise (n := 113) (by simp)).sameRegsBut⟩
  · rw [bit_congr hstat, bit_setFld_other _ _ _ _ _ (by decide) (by decide), busy_keyFreed]
  · exact (fld_congr hstat 0 4).trans (fld_setFld_same _ _ _ _ _ (by decide))
  · rw [reject_key, rg_raise_ne _ _ (by decide), rg_count, if_pos rfl, rg_setFld_ne _ _ _ _ (by decide),
      (writesOnly_keyFreed s).rg _ (by decide)]

theorem keyDone_ends (hop : s.gnt.keyOp = some (n, x)) (hgood : s.gnt.keyRng = false ∨ s.bit CRY_STAT 8 = false) :
    Ends .keyDone s (fun u => u.keySlot n = x ∧ (∀ m, m ≠ n → u.keySlot m = s.keySlot m) ∧ u.bit KEY_STAT 31 = false ∧
      u.gnt.keyOp = none ∧ SameRegsBut s u [KEY_STAT, ECX_PEND 3]) := by
  refine ⟨_, keyDone_stores hop hgood, ?_⟩
  have hfreed : WritesOnly (· ∈ [KEY_STAT, ECX_PEND 3]) s s.keyFreed := (writesOnly_keyFreed s).weaken (by simp +contextual)
  have hset : WritesOnly (· ∈ [KEY_STAT, ECX_PEND 3]) s { s.keyFreed with
      gnt := { s.keyFreed.gnt with keys := smSet (fun _ => KeySlot.empty) s.gnt.keys n x } } := hfreed.kept rfl rfl rfl
  refine ⟨?_, fun m hm => ?_, ?_, by rw [State.raise_gnt]; rfl, (hset.raise (n := 112) (by simp)).sameRegsBut⟩
  · rw [State.keySlot, State.raise_gnt, smGet_smSet, if_pos rfl]
  · rw [State.keySlot, State.raise_gnt, smGet_smSet, if_neg hm]
    rfl
  · exact (bit_congr (rg_raise_ne _ 112 (by decide)) 31).trans (busy_keyFreed s)

/-! ### Random numbers (R213, R234) -/

theorem trngHealthFail_sets (s : State) :
    Ends .trngHealthFail s (fun u => u.bit CRY_STAT 8 = true ∧ SameRegsBut s u [CRY_STAT] ∧ u.mem = s.mem) :=
  ⟨_, rfl, bit_setBit_same s _ _ _ (by decide), ((WritesOnly.refl _ s).setBit (by simp) _ _).sameRegsBut, rfl⟩

/-- Who reads random bits: G0, and C0 before the handover (R213, R546). -/
def State.rngGrants (s : State) (i : Initiator) : Bool := i == Initiator.g0 || s.bootKeys (.gauntlet 2) i

/-- The read's answer. -/
def State.rngAnswered (s : State) (granted : Bool) : State := { (s.readRng granted).2 with rdata := (s.readRng granted).1 }

theorem cryRngRead_exec (hs : s.servesRead i CRY_RNG = true) :
    exec (.cryRngRead i) s = .next (State.rngAnswered { s with rdata := 0 } (s.rngGrants i)) :=
  congrArg Host.Outcome.next (guardR_serves { s with rdata := 0 } _ hs)

theorem rngAnswered_zero {granted : Bool} (h : granted = false ∨ s.bit CRY_STAT 8 = true) :
    s.rngAnswered granted = { s with rdata := 0 } := by
  have hnone : s.readRng granted = (0, s) := if_pos (by rcases h with h | h <;> simp [h])
  rw [State.rngAnswered, hnone]

theorem rngAnswered_draws (h : s.bit CRY_STAT 8 = false) :
    s.rngAnswered true = { s.draw.2 with rdata := s.draw.1 % 0x100000000 } := by
  have hdraws : s.readRng true = (s.draw.1 % 0x100000000, s.draw.2) := if_neg (by simp [h])
  rw [State.rngAnswered, hdraws]

theorem cryRngRead_zero (hs : s.servesRead i CRY_RNG = true) (h : s.rngGrants i = false ∨ s.bit CRY_STAT 8 = true) :
    Ends (.cryRngRead i) s (fun u => u.rdata = 0 ∧ u.regs = s.regs) :=
  ⟨_, (cryRngRead_exec hs).trans (congrArg _ (rngAnswered_zero h)), rfl, rfl⟩

theorem cryRngRead_draws (hs : s.servesRead .g0 CRY_RNG = true) (hrng : s.bit CRY_STAT 8 = false) :
    Ends (.cryRngRead .g0) s (fun u => u.rdata < 2 ^ 32 ∧ u.drawn = s.drawn + 1 ∧ u.regs = s.regs) :=
  ⟨_, (cryRngRead_exec hs).trans (congrArg _ (rngAnswered_draws hrng)), Nat.mod_lt _ (by decide), rfl, rfl⟩

/-! ### The statement -/

/-- Settles O28: each clause is the rule of its command or event above. That a GEN overtaken by RNGERR ends with RNGFAIL is log
entry 16's. -/
theorem keyStore : Obligations.KeyStore := by
  intro s i slot type usage k op arg begins idle legal
  have hok : legal → keyTypeOk type.val usage.val = true := keyTypeOk_iff.mpr
  refine ⟨fun hs hidle hempty hlegal hrng => ⟨_, keyGen_exec hs, keyGen_begins hidle hempty (hok hlegal) hrng⟩,
    fun hs _ hfull => ?_, fun hs hidle hempty hlegal hrng => ?_, fun hs hidle hempty hlegal hkey => ?_,
    fun hs hidle hlock hcry => ⟨_, keyErase_exec hs, keyErase_begins hidle hlock hcry⟩, fun hs hlock => ?_,
    fun hs hidle hfull => ⟨_, keyLock_exec hs, keyLock_begins hidle hfull⟩, fun n x => keyDone_rngFail, fun n x => keyDone_ends,
    trngHealthFail_sets s, fun hs hrng => cryRngRead_zero hs (.inr hrng), cryRngRead_draws, fun hs hother hover => ?_⟩
  · rw [keyGen_exec hs, keyGen_full hfull]
  · rw [keyGen_exec hs, keyGen_unhealthy hidle hempty (hok hlegal) hrng]
  · exact ⟨⟨_, keyLoad_exec hs, keyLoad_begins hidle hempty (hok hlegal) hkey⟩, _, keyLoad_exec hs, keyInValue_keyLoad s _ _ _⟩
  · rw [keyErase_exec hs, keyErase_locked hlock]
  · exact cryRngRead_zero hs (.inl (by simp [State.rngGrants, State.bootKeys, hother, hover]))

end Sys2Proof.Machine
end

section
/-! The crypto engine (spec/08 R231 to R233): how an operation starts, how each ends, and the statement CryptoOperations. -/

namespace Sys2Proof.Machine

variable {s t u : State} {i : Initiator} {flags slot : Fin 16} {o : CryOp} {j : Instr} {n : Nat}

/-! ### Registers in a row (R230) -/

/-- `m` registers from `a` up take the words that `f` gives. -/
def State.setRun (s : State) (a m : Nat) (f : Nat → Word) : State :=
  (List.range m).foldl (fun t k => t.setRg (a + 4 * k) (f k)) s

theorem setRun_succ (s : State) (a m : Nat) (f : Nat → Word) : s.setRun a (m + 1) f = (s.setRun a m f).setRg (a + 4 * m) (f m) := by
  simp [State.setRun, List.range_succ]

theorem setRgBe_eq (s : State) (a m v : Nat) : s.setRgBe a m v = s.setRun a m (fun k => w32 (v / 0x100000000 ^ (m - 1 - k))) := rfl

theorem rg_setRun_outside (s : State) {a m b : Nat} (f : Nat → Word) (hb : b < a ∨ a + 4 * m ≤ b) : (s.setRun a m f).rg b = s.rg b := by
  induction m with
  | zero => rfl
  | succ m ih => rw [setRun_succ, rg_setRg_ne _ _ (by omega), ih (by omega)]

theorem rg_setRun (s : State) (a : Nat) {m k : Nat} (f : Nat → Word) (hk : k < m) : (s.setRun a m f).rg (a + 4 * k) = f k := by
  induction m with
  | zero => omega
  | succ m ih =>
    rw [setRun_succ]
    by_cases hlast : k = m
    · rw [hlast, rg_setRg_same]
    · rw [rg_setRg_ne _ _ (by omega), ih (by omega)]

@[simp] theorem mem_setRun (s : State) (a m : Nat) (f : Nat → Word) : (s.setRun a m f).mem = s.mem := by
  induction m with
  | zero => rfl
  | succ m ih => rw [setRun_succ, State.setRg_mem, ih]

/-! ### The start of an operation (R231) -/

/-- What the start of operation `op` leaves: BUSY with status OK, and the operation with its input registers as they stand. -/
def CryStarts (s : State) (op flags slot : Nat) (u : State) : Prop :=
  u.bit CRY_STAT 31 = true ∧ u.fld CRY_STAT 0 4 = 0 ∧
    (∃ o, u.gnt.cryOp = some o ∧ o.op = op ∧ o.flags = flags ∧ o.slot = slot ∧
      ∀ m, m < 60 → o.word (CRY_SRC + 4 * m) = (s.rg (CRY_SRC + 4 * m)).toNat) ∧
    SameRegsBut s u [CRY_STAT] ∧ u.mem = s.mem

/-- BUSY is set on an accepted command. -/
def State.cryBusied (s : State) : State := (s.accept cryPort).setBit CRY_STAT 31 true

theorem writesOnly_cryBusied (s : State) : WritesOnly (· ∈ [CRY_STAT]) s s.cryBusied :=
  ((WritesOnly.refl _ s).accept (by simp [cryPort])).setBit (by simp) _ _

theorem status_cryBusied (s : State) : s.cryBusied.fld CRY_STAT 0 4 = 0 :=
  (fld_setBit_other _ CRY_STAT 31 true (by decide) (by decide)).trans (st_accept s cryPort)

/-- The operation as it is taken. -/
def State.cryTaken (s : State) (op flags slot : Nat) : CryOp :=
  { op := op, flags := flags, slot := slot, regs := (List.range 60).map (fun k => s.rg (CRY_SRC + 4 * k)) }

theorem word_cryTaken (s : State) (op flags slot : Nat) {m : Nat} (hm : m < 60) :
    (s.cryTaken op flags slot).word (CRY_SRC + 4 * m) = (s.rg (CRY_SRC + 4 * m)).toNat := by
  simp [CryOp.word, State.cryTaken, hm]

theorem cryStart_eq {op flags slot : Nat} (hidle : s.bit CRY_STAT 31 = false) (hgood : s.cryBad op flags slot = false) :
    s.cryStart op flags slot =
      { s.cryBusied with gnt := { s.cryBusied.gnt with cryOp := some (s.cryBusied.cryTaken op flags slot) } } :=
  command_accepted _ rfl hidle hgood

theorem cryStart_starts {op flags slot : Nat} (hidle : s.bit CRY_STAT 31 = false) (hgood : s.cryBad op flags slot = false) :
    CryStarts s op flags slot (s.cryStart op flags slot) := by
  have hbusied := writesOnly_cryBusied s
  rw [cryStart_eq hidle hgood]
  refine ⟨bit_setBit_same (s.accept cryPort) _ _ _ (by decide), status_cryBusied s, ⟨_, rfl, rfl, rfl, rfl, fun m hm => ?_⟩,
    hbusied.sameRegsBut, hbusied.mem⟩
  rw [word_cryTaken _ _ _ _ hm, hbusied.rg _ (by simp only [List.mem_singleton, CRY_SRC, CRY_STAT]; omega)]

/-- A write to CRY_CMD that the fabric lets through is judged by R231. -/
theorem cryCommand_serves {op flags slot : Nat}
    (hs : s.serves i CRY_CMD (BitVec.ofNat 32 (op * 0x10000000 + flags * 0x1000000 + slot)) = true) :
    s.cryCommand i op flags slot = s.cryStart op flags slot := guardW_serves s _ hs

theorem ends_cryStarts {op : Nat} (hexec : exec j s = .next (s.cryCommand i op flags.val slot.val))
    (hs : s.serves i CRY_CMD (BitVec.ofNat 32 (op * 0x10000000 + flags.val * 0x1000000 + slot.val)) = true)
    (hidle : s.bit CRY_STAT 31 = false) (hgood : s.cryBad op flags.val slot.val = false) :
    Ends j s (CryStarts s op flags.val slot.val) :=
  ⟨_, hexec.trans (congrArg _ (cryCommand_serves hs)), cryStart_starts hidle hgood⟩

theorem cryStart_busy (hbusy : s.bit CRY_STAT 31 = true) (op flags slot : Nat) :
    s.cryStart op flags slot = s.reject cryPort ST_STATE := command_rejected_state _ hbusy

theorem cryStart_bad {op flags slot : Nat} (hidle : s.bit CRY_STAT 31 = false) (hbad : s.cryBad op flags slot = true) :
    s.cryStart op flags slot = s.reject cryPort ST_ARG := command_rejected_arg _ hidle hbad

/-! ### The conditions of R231 -/

section
variable {f n : Nat}

theorem cryBad_sha (h : (s.rg CRY_LEN).toNat % 64 = 0 ∨ f.testBit 2 = true) : s.cryBad 1 f n = false := by
  rcases h with h | h <;> simp [State.cryBad, h]

/-- Slot `n` holds an AES key whose USAGE has bit `b` set. -/
def State.aesKey (s : State) (n b : Nat) : Prop :=
  ((s.keySlot n).type = 1 ∨ (s.keySlot n).type = 2) ∧ (s.keySlot n).usage.testBit b = true

theorem aesKey_type {b : Nat} (h : s.aesKey n b) : ((s.keySlot n).type == 1 || (s.keySlot n).type == 2) = true := by
  simpa using h.1

/-- The key fits the direction of a CBC or GCM operation: bit 1 of USAGE to decrypt, bit 0 to encrypt. -/
def State.aesFits (s : State) (f n : Nat) : Prop :=
  (f.testBit 0 = true ∧ s.aesKey n 1) ∨ (¬f.testBit 0 = true ∧ s.aesKey n 0)

theorem aesFits_type (h : s.aesFits f n) : ((s.keySlot n).type == 1 || (s.keySlot n).type == 2) = true :=
  h.elim (fun g => aesKey_type g.2) (fun g => aesKey_type g.2)

theorem aesFits_usage (h : s.aesFits f n) :
    (if f.testBit 0 = true then (s.keySlot n).usage.testBit 1 else (s.keySlot n).usage.testBit 0) = true := by
  rcases h with ⟨hdec, hkey⟩ | ⟨henc, hkey⟩
  · rw [if_pos hdec, hkey.2]
  · rw [if_neg henc, hkey.2]

theorem cryBad_cbc (hfits : s.aesFits f n) (hblocks : (s.rg CRY_LEN).toNat % 16 = 0) (hlen : (s.rg CRY_LEN).toNat ≠ 0) :
    s.cryBad 2 f n = false := by
  simp only [State.cryBad, Nat.reduceBNe, Bool.and_true, aesFits_type hfits, aesFits_usage hfits, hblocks]
  simpa using hlen

theorem cryBad_ctr (hkey : s.aesKey n 0) (hlen : (s.rg CRY_LEN).toNat ≠ 0) : s.cryBad 3 f n = false := by
  simp [State.cryBad, aesKey_type hkey, hkey.2, hlen]

theorem cryBad_gcm (hfits : s.aesFits f n) (hlen : (s.rg CRY_LEN).toNat ≠ 0 ∨ (s.rg CRY_AADLEN).toNat ≠ 0) :
    s.cryBad 4 f n = false := by
  simp only [State.cryBad, Nat.reduceBNe, Bool.and_true, aesFits_type hfits, aesFits_usage hfits]
  rcases hlen with h | h <;> simp [h]

theorem cryBad_sign : s.cryBad 5 f n = ((s.keySlot n).type != 3) := rfl

theorem cryBad_verify (h : if f.testBit 3 = true then (s.keySlot n).type = 3
    else onCurve (s.rgBe (CRY_PUB 0) 8) (s.rgBe (CRY_PUB 8) 8) = true) : s.cryBad 6 f n = false := by
  have hcond : s.cryBad 6 f n = if f.testBit 3 then (s.keySlot n).type != 3
      else !onCurve (s.rgBe (CRY_PUB 0) 8) (s.rgBe (CRY_PUB 8) 8) := rfl
  rw [hcond]
  split
  next hslot => exact bne_eq_false_iff_eq.mpr (by rwa [if_pos hslot] at h)
  next hslot =>
    rw [if_neg hslot] at h
    rw [h, Bool.not_true]

theorem cryBad_public : s.cryBad 7 f n = ((s.keySlot n).type != 3) := rfl

end

/-! ### The end of an operation (R233) -/

theorem end_source (st : Nat) : (if st = 0 then 114 else 115) / 32 = 3 := by split <;> rfl

/-- The engine is free, and its status reads `st`. -/
def State.cryFreed (s : State) (st : Nat) : State := (s.setBit CRY_STAT 31 false).setFld CRY_STAT 0 4 st

theorem rg_cryEnd_ne (s : State) (st : Nat) {a : Nat} (hpend : a ≠ ECX_PEND 3) : (s.cryEnd st).rg a = (s.cryFreed st).rg a :=
  rg_raise_ne _ _ (by rwa [end_source])

theorem busy_cryEnd (s : State) (st : Nat) : (s.cryEnd st).bit CRY_STAT 31 = false := by
  rw [bit_congr (rg_cryEnd_ne s st (by decide)), State.cryFreed, bit_setFld_other _ _ _ _ _ (by decide) (by decide)]
  exact bit_setBit_same s _ _ _ (by decide)

theorem status_cryEnd (s : State) {st : Nat} (hst : st < 16) : (s.cryEnd st).fld CRY_STAT 0 4 = st := by
  rw [fld_congr (rg_cryEnd_ne s st (by decide)), State.cryFreed, fld_setFld_same _ _ _ _ _ (by decide)]
  exact Nat.mod_eq_of_lt hst

theorem cryOp_cryEnd (s : State) (st : Nat) : (s.cryEnd st).gnt.cryOp = none := by
  rw [State.cryEnd, State.raise_gnt]

theorem writesOnly_cryEnd (s : State) (st : Nat) : WritesOnly (· ∈ [CRY_STAT, ECX_PEND 3]) s (s.cryEnd st) := by
  have hfreed : WritesOnly (· ∈ [CRY_STAT, ECX_PEND 3]) s (s.cryFreed st) :=
    ((WritesOnly.refl _ s).setBit (by simp) _ _).setFld (by simp) _ _ _
  have hnone : WritesOnly (· ∈ [CRY_STAT, ECX_PEND 3]) s { s.cryFreed st with gnt := { (s.cryFreed st).gnt with cryOp := none } } :=
    hfreed.kept rfl rfl rfl
  exact hnone.raise (by simp [end_source])

/-- The state is one in which an operation has just ended. -/
def State.cryEnded (u : State) : Prop := ∃ t st, u = State.cryEnd t st

theorem cryEnded_cryHash (s : State) (o : CryOp) : (s.cryHash o).cryEnded := by
  unfold State.cryHash
  split
  · exact ⟨_, _, rfl⟩
  · exact ⟨_, _, rfl⟩

theorem cryEnded_cryCbc (s : State) (o : CryOp) : (s.cryCbc o).cryEnded := by
  unfold State.cryCbc
  dsimp only
  split
  · exact ⟨_, _, rfl⟩
  · split
    · exact ⟨_, _, rfl⟩
    · exact ⟨_, _, rfl⟩

theorem cryEnded_cryCtr (s : State) (o : CryOp) : (s.cryCtr o).cryEnded := by
  unfold State.cryCtr
  dsimp only
  split
  · exact ⟨_, _, rfl⟩
  · split
    · exact ⟨_, _, rfl⟩
    · exact ⟨_, _, rfl⟩

theorem cryEnded_ite {p : Prop} [Decidable p] (ht : t.cryEnded) (hu : u.cryEnded) : (if p then t else u).cryEnded := by
  split
  · exact ht
  · exact hu

theorem cryEnded_cryGcm (s : State) (o : CryOp) : (s.cryGcm o).cryEnded := by
  unfold State.cryGcm
  dsimp only
  split
  · exact ⟨_, _, rfl⟩
  · split
    · exact ⟨_, _, rfl⟩
    · split
      · exact ⟨_, _, rfl⟩
      · exact cryEnded_ite ⟨_, _, rfl⟩ (cryEnded_ite ⟨_, _, rfl⟩ ⟨_, _, rfl⟩)

theorem cryEnded_crySign (s : State) (o : CryOp) : (s.crySign o).cryEnded := cryEnded_ite ⟨_, _, rfl⟩ ⟨_, _, rfl⟩

theorem cryEnded_cryPublic (s : State) (o : CryOp) : (s.cryPublic o).cryEnded := by
  unfold State.cryPublic
  split
  · exact ⟨_, _, rfl⟩
  · exact ⟨_, _, rfl⟩

section
variable (hop : s.gnt.cryOp = some o)
include hop

theorem cryDone_ended : Ends .cryDone s State.cryEnded := by
  refine ⟨_, rfl, ?_⟩
  rw [hop]
  dsimp only
  split
  · exact cryEnded_cryHash s o
  · exact cryEnded_cryCbc s o
  · exact cryEnded_cryCtr s o
  · exact cryEnded_cryGcm s o
  · exact cryEnded_crySign s o
  · exact ⟨_, _, rfl⟩
  · exact cryEnded_cryPublic s o

theorem cryDone_frees : Ends .cryDone s (fun u => u.bit CRY_STAT 31 = false ∧ u.gnt.cryOp = none) := by
  obtain ⟨u, hexec, t, st, rfl⟩ := cryDone_ended hop
  exact ⟨_, hexec, busy_cryEnd t st, cryOp_cryEnd t st⟩

/-! ### Signatures overtaken by RNGERR -/

theorem cryDone_sign (hsign : o.op = 5) : exec .cryDone s = .next (s.crySign o) := by
  show execCryDone s = _
  simp only [execCryDone, hop, hsign]
  rfl

theorem cryDone_signFails (hsign : o.op = 5) (hrng : s.bit CRY_STAT 8 = true) :
    Ends .cryDone s (fun u => u.fld CRY_STAT 0 4 = 7 ∧ SameRegsBut s u [CRY_STAT, ECX_PEND 3] ∧ u.mem = s.mem) := by
  have hfails : s.crySign o = s.cryEnd ST_RNGFAIL := if_pos hrng
  exact ⟨_, (cryDone_sign hop hsign).trans (congrArg _ hfails), status_cryEnd s (by decide),
    (writesOnly_cryEnd s _).sameRegsBut, (writesOnly_cryEnd s _).mem⟩

/-! ### SHA-256 (R232) -/

theorem cryDone_hash (hsha : o.op = 1) : exec .cryDone s = .next (s.cryHash o) := by
  show execCryDone s = _
  simp only [execCryDone, hop, hsha]
  rfl

theorem cryDone_hashFails {b : List Byte} {e : ErrKind × Nat} (hsha : o.op = 1)
    (hread : s.readRun .g0 (o.word CRY_SRC) (o.word CRY_LEN) = (b, some e, t)) :
    Ends .cryDone s (fun u => u.bit CRY_STAT 31 = false ∧ u.fld CRY_STAT 0 4 = 6 ∧ u.gnt.cryOp = none ∧ u.mem = t.mem) := by
  have hfails : s.cryHash o = t.cryEnd CRY_BUSERR := by rw [State.cryHash, hread]
  exact ⟨_, (cryDone_hash hop hsha).trans (congrArg _ hfails), busy_cryEnd t _, status_cryEnd t (by decide), cryOp_cryEnd t _,
    (writesOnly_cryEnd t _).mem⟩

end

/-- The digest of a whole message, padded (R232). -/
def wholeDigest (b : List Byte) : List Word :=
  shaBlocks shaInit (natsOf b ++ shaPad b.length) ((natsOf b ++ shaPad b.length).length / 64)

/-- The digest stands in CRY_HASH, and the message's length is kept. -/
def State.hashed (t : State) (b : List Byte) : State :=
  State.setRun { t with gnt := { t.gnt with shaLen := b.length } } (CRY_HASH 0) 8 (fun k => (wholeDigest b).getD k 0)

theorem cryHash_whole {b : List Byte} (hfirst : o.flags.testBit 1 = true) (hlast : o.flags.testBit 2 = true)
    (hread : s.readRun .g0 (o.word CRY_SRC) (o.word CRY_LEN) = (b, none, t)) : s.cryHash o = (t.hashed b).cryEnd 0 := by
  rw [State.cryHash, hread]
  simp only [hfirst, hlast, if_true, Nat.zero_add]
  rfl

section
variable (hop : s.gnt.cryOp = some o)
include hop

theorem cryDone_hashEnds {b : List Byte} (hsha : o.op = 1) (hfirst : o.flags.testBit 1 = true) (hlast : o.flags.testBit 2 = true)
    (hread : s.readRun .g0 (o.word CRY_SRC) (o.word CRY_LEN) = (b, none, t)) :
    Ends .cryDone s (fun u => u.bit CRY_STAT 31 = false ∧ u.fld CRY_STAT 0 4 = 0 ∧ u.gnt.cryOp = none ∧ u.mem = t.mem ∧
      ∀ n, n < 8 → u.rg (CRY_HASH n) = (wholeDigest b).getD n 0) := by
  have hends := writesOnly_cryEnd (t.hashed b) 0
  refine ⟨_, (cryDone_hash hop hsha).trans (congrArg _ (cryHash_whole hfirst hlast hread)), busy_cryEnd _ 0,
    status_cryEnd _ (by decide), cryOp_cryEnd _ 0, hends.mem.trans (mem_setRun _ _ _ _), fun n hn => ?_⟩
  rw [hends.rg _ (by simp only [List.mem_cons, List.not_mem_nil, or_false, CRY_HASH, CRY_STAT, ECX_PEND]; omega)]
  exact rg_setRun _ (CRY_HASH 0) _ hn

/-! ### Verifications -/

theorem cryDone_verify (hver : o.op = 6) : exec .cryDone s = .next (s.cryVerify o) := by
  show execCryDone s = _
  simp only [execCryDone, hop, hver]
  rfl

theorem cryDone_verifies (hver : o.op = 6) (hpub : o.flags.testBit 3 = false) :
    Ends .cryDone s (fun u => u.bit CRY_STAT 31 = false ∧ u.mem = s.mem ∧ u.fld CRY_STAT 0 4 =
      if ecVerify (o.be (CRY_HASH 0) 8) (o.be (CRY_SIG 0) 8) (o.be (CRY_SIG 8) 8) (some (o.be (CRY_PUB 0) 8, o.be (CRY_PUB 8) 8)) = true
      then 0 else 5) := by
  refine ⟨_, cryDone_verify hop hver, ?_⟩
  rw [State.cryVerify, hpub, if_neg Bool.false_ne_true]
  refine ⟨busy_cryEnd s _, (writesOnly_cryEnd s _).mem, status_cryEnd s ?_⟩
  split <;> decide

/-! ### Public keys -/

theorem cryDone_public (hkey : o.op = 7) : exec .cryDone s = .next (s.cryPublic o) := by
  show execCryDone s = _
  simp only [execCryDone, hop, hkey]
  rfl

theorem cryDone_writesKey {x y : Nat} (hkey : o.op = 7) (hpoint : ecMul (s.keySlot o.slot).key p256g = some (x, y)) :
    Ends .cryDone s (fun u => u.bit CRY_STAT 31 = false ∧ u.mem = s.mem ∧ u.rg (CRY_PUB 7) = BitVec.ofNat 32 x ∧
      u.rg (CRY_PUB 15) = BitVec.ofNat 32 y) := by
  have hwrites : s.cryPublic o = ((s.setRgBe (CRY_PUB 0) 8 x).setRgBe (CRY_PUB 8) 8 y).cryEnd 0 := by
    rw [State.cryPublic, pubOf, hpoint]
  have hends := writesOnly_cryEnd ((s.setRgBe (CRY_PUB 0) 8 x).setRgBe (CRY_PUB 8) 8 y) 0
  refine ⟨_, (cryDone_public hop hkey).trans (congrArg _ hwrites), busy_cryEnd _ 0, ?_, ?_, ?_⟩
  · rw [hends.mem, setRgBe_eq, setRgBe_eq, mem_setRun, mem_setRun]
  · rw [hends.rg _ (by decide), setRgBe_eq, rg_setRun_outside _ _ (.inl (by decide)), setRgBe_eq]
    refine (rg_setRun s (CRY_PUB 0) (k := 7) _ (by decide)).trans ?_
    simp [w32]
  · rw [hends.rg _ (by decide), setRgBe_eq]
    refine (rg_setRun _ (CRY_PUB 8) (k := 7) _ (by decide)).trans ?_
    simp [w32]

end

/-! ### The statement -/

/-- Settles O29: each clause is the rule of its command or event above. That a signature overtaken by RNGERR ends with RNGFAIL is
log entry 16's. -/
theorem cryptoOperations : Obligations.CryptoOperations := by
  intro s i flags slot op idle k len dec aes starts
  refine ⟨fun hs hidle h => ends_cryStarts rfl hs hidle (cryBad_sha h),
    fun hs hidle hfits hblocks hlen => ends_cryStarts rfl hs hidle (cryBad_cbc hfits hblocks hlen),
    fun hs hidle hkey hlen => ends_cryStarts rfl hs hidle (cryBad_ctr hkey hlen),
    fun hs hidle hfits hlen => ends_cryStarts rfl hs hidle (cryBad_gcm hfits hlen),
    fun hs hidle htype => ends_cryStarts rfl hs hidle (cryBad_sign.trans (bne_eq_false_iff_eq.mpr htype)),
    fun hs hidle h => ends_cryStarts rfl hs hidle (cryBad_verify h),
    fun hs hidle htype => ends_cryStarts rfl hs hidle (cryBad_public.trans (bne_eq_false_iff_eq.mpr htype)),
    fun hs hbusy => ?_, fun hs hidle htype => ?_, fun o => cryDone_frees, fun o => cryDone_signFails,
    fun o b t hop => cryDone_hashEnds hop, fun o b e t hop => cryDone_hashFails hop, fun o => cryDone_verifies,
    fun o x y hop => cryDone_writesKey hop⟩
  · exact congrArg Host.Outcome.next ((cryCommand_serves hs).trans (cryStart_busy (eq_true_of_ne_false hbusy) _ _ _))
  · exact congrArg Host.Outcome.next ((cryCommand_serves hs).trans
      (cryStart_bad hidle (cryBad_sign.trans (bne_iff_ne.mpr htype))))

end Sys2Proof.Machine
end

section
/-! The fault manager's channels (spec/08 R219 to R223), said once: what FLT_CHSTAT holds after a change, what a record leaves, and what a
channel's block leaves of the fault manager when the channel is retired, reinstated or brought back. -/

namespace Sys2Proof.Machine

variable {s t u : State} {keep keep' : Prop} {ch cls n p : Nat} {detail : Word}

/-! ### A channel's number and registers (R219) -/

theorem lt_of_chanClass (h : chanClass ch = some cls) : ch < 0x825 := by
  by_contra hge
  have hnone : chanClass ch = none := by
    unfold chanClass
    rw [if_neg (by omega), if_neg (by omega), if_neg (by omega), if_neg (by omega), if_neg (by omega), if_neg (by omega),
      if_neg (by omega), if_neg (by omega)]
  exact absurd (h.symm.trans hnone) (Option.some_ne_none cls)

/-- The registers of the fault manager that are no channel's lie below FLT_CHSTAT. -/
theorem chstat_ne (ch : Nat) {a : Nat} (ha : a < 0x50044000) : FLT_CHSTAT ch ≠ a := by unfold FLT_CHSTAT; omega

/-! ### A channel's state, error count and first beat (R220, R221) -/

theorem regs_setChan (s : State) (ch first count st : Nat) : (s.setChan ch first count st).regs =
    (s.setRg (FLT_CHSTAT ch) (w32 (first % 65536 * 65536 + count * 256 + st))).regs := rfl

theorem gnt_setChan (s : State) (ch first count st : Nat) : (s.setChan ch first count st).gnt =
    { s.gnt with chanFirst := (ch, first) :: s.gnt.chanFirst.filter (fun e => e.1 != ch) } := by
  unfold State.setChan
  dsimp only
  rw [State.setRg_gnt]

theorem chstat_setChan (s : State) (ch first count st : Nat) :
    (s.setChan ch first count st).rg (FLT_CHSTAT ch) = w32 (first % 65536 * 65536 + count * 256 + st) :=
  (rg_congr (regs_setChan s ch first count st) _).trans (rg_setRg_same s (FLT_CHSTAT ch) _)

theorem chanState_setChan (s : State) (ch first count : Nat) {st : Nat} (hst : st < 4) :
    (s.setChan ch first count st).chanState ch = st := by
  rw [State.chanState, State.fld, chstat_setChan, fieldOf, w32_toNat, Nat.shiftRight_zero]
  omega

theorem count_setChan (s : State) (ch first : Nat) {count st : Nat} (hcount : count < 256) (hst : st < 4) :
    (s.setChan ch first count st).fld (FLT_CHSTAT ch) 8 8 = count := by
  rw [State.fld, chstat_setChan, fieldOf, w32_toNat, Nat.shiftRight_eq_div_pow]
  omega

theorem chanFirst_setChan (s : State) (ch first count st : Nat) : (s.setChan ch first count st).chanFirst ch = first := by
  simp [State.chanFirst, gnt_setChan]

theorem writesOnly_setChan (s : State) (ch first count st : Nat) :
    WritesOnly (· ∈ [FLT_CHSTAT ch]) s (s.setChan ch first count st) :=
  (WritesOnly.refl _ s).setChan (by simp) first count st

theorem chanState_congr (h : t.rg (FLT_CHSTAT ch) = s.rg (FLT_CHSTAT ch)) : t.chanState ch = s.chanState ch := fld_congr h 0 2

theorem chanFirst_congr (h : t.gnt = s.gnt) (ch : Nat) : t.chanFirst ch = s.chanFirst ch := by
  rw [State.chanFirst, State.chanFirst, h]

theorem beatNo_congr {w : Nat → Prop} (h : WritesOnly w s t) (hlow : ¬ w BEAT_COUNT_LO) (hhigh : ¬ w (BEAT_COUNT_LO + 4)) :
    t.beatNo = s.beatNo := h.rg64 hlow hhigh

/-- A bit of FLT_EVT that is set stays set through another event of the fault manager. -/
theorem bit_evt_event (s : State) (k n : Nat) {b : Nat} (hpend : FLT_EVT ≠ ECX_PEND (n / 32)) (hb : b < 32)
    (h : s.bit FLT_EVT b = true) : (s.event FLT_EVT k n).bit FLT_EVT b = true := by
  rw [State.bit, rg_event_self s FLT_EVT k n hpend, bitOf_withBit _ _ _ _ hb]
  split
  · rfl
  · exact h

theorem records_queueRecord (s : State) (chan ev count first addr : Nat) (detail : Word) (hroom : s.gnt.records.length < 16) :
    (s.queueRecord chan ev count first detail addr).gnt.records = s.gnt.records ++
      [[w32 (chan + ev * 65536 + count * 16777216), w32 first, w32 s.beatNo, detail, w32 addr, 0]] :=
  congrArg (fun t : State => t.gnt.records) (if_pos hroom)

/-! ### What a channel's block writes -/

/-- From `s` to `u` nothing of the fault manager's registers changes, nor what the Gauntlet holds, nor, where `keep` holds, a byte of
memory. -/
structure BlockOnly (keep : Prop) (s u : State) : Prop where
  rg : ∀ a, 0x50040000 ≤ a → u.rg a = s.rg a
  gnt : u.gnt = s.gnt
  mem : keep → u.mem = s.mem

namespace BlockOnly

theorem refl (keep : Prop) (s : State) : BlockOnly keep s s := ⟨fun _ _ => rfl, rfl, fun _ => rfl⟩

theorem trans (h : BlockOnly keep s u) (g : BlockOnly keep u t) : BlockOnly keep s t :=
  ⟨fun a ha => (g.rg a ha).trans (h.rg a ha), g.gnt.trans h.gnt, fun k => (g.mem k).trans (h.mem k)⟩

theorem weaken (h : BlockOnly keep s u) (hk : keep' → keep) : BlockOnly keep' s u := ⟨h.rg, h.gnt, fun k => h.mem (hk k)⟩

theorem kept (h : BlockOnly keep s u) (hregs : t.regs = u.regs) (hgnt : t.gnt = u.gnt) (hmem : keep → t.mem = u.mem) :
    BlockOnly keep s t :=
  h.trans ⟨fun a _ => rg_congr hregs a, hgnt, hmem⟩

theorem setRg {a : Nat} (h : BlockOnly keep s u) (ha : a < 0x50040000) (v : Word) : BlockOnly keep s (u.setRg a v) :=
  h.trans ⟨fun b hb => rg_setRg_ne u v (by omega), rfl, fun _ => rfl⟩

theorem setFld {a : Nat} (h : BlockOnly keep s u) (ha : a < 0x50040000) (lo len v : Nat) : BlockOnly keep s (u.setFld a lo len v) :=
  h.setRg ha _

theorem setBit {a : Nat} (h : BlockOnly keep s u) (ha : a < 0x50040000) (k : Nat) (b : Bool) : BlockOnly keep s (u.setBit a k b) :=
  h.setRg ha _

theorem count {a : Nat} (h : BlockOnly keep s u) (ha : a < 0x50040000) (k : Nat) : BlockOnly keep s (u.count a k) := h.setRg ha _

theorem event {a : Nat} (h : BlockOnly keep s u) (ha : a < 0x50040000) (k : Nat) {src : Nat} (hsrc : src < 1024) :
    BlockOnly keep s (u.event a k src) := by
  refine h.trans ⟨fun b hb => rg_event_ne u a k src ?_ (by omega), State.event_gnt u a k src, fun _ => State.event_mem u a k src⟩
  unfold ECX_PEND
  omega

theorem ite {c : Prop} [Decidable c] {x y : State} (hx : BlockOnly keep s x) (hy : BlockOnly keep s y) :
    BlockOnly keep s (if c then x else y) := by
  split
  · exact hx
  · exact hy

theorem chanState (h : BlockOnly keep s u) (ch : Nat) : u.chanState ch = s.chanState ch :=
  chanState_congr (h.rg _ (by unfold FLT_CHSTAT; omega))

/-! ### SRAM rows (R190, R191) -/

theorem eccCount (h : BlockOnly keep s u) (code a : Nat) (scrub ue : Bool) : BlockOnly keep s (u.eccCount code a scrub ue) := by
  have hcaptured := fun v w => (h.setRg (by decide : MEM_ERR_ADDR < 0x50040000) v).setRg (by decide : MEM_ERR_INFO < 0x50040000) w
  unfold State.eccCount
  exact .ite
    (.ite (((hcaptured _ _).count (by decide) 1).event (by decide) 1 (by decide))
      (((hcaptured _ _).count (by decide) 1).event (by decide) 0 (by decide)))
    (.ite ((hcaptured _ _).event (by decide) 5 (by decide)) (((hcaptured _ _).count (by decide) 1).event (by decide) 4 (by decide)))

theorem copyRow (s : State) (row src dst : Nat) : BlockOnly False s (s.copyRow row src dst) := by
  unfold State.copyRow
  refine BlockOnly.kept (List.foldlRecOn _ _ (BlockOnly.refl False s) fun x hx e _ => hx.eccCount _ _ _ _) rfl rfl False.elim

theorem retireRow (s : State) {row : Nat} (hrow : row < 0x800) : BlockOnly False s (s.retireRow row) := by
  have hcopied : ∀ src dst l, BlockOnly False s { s.copyRow row src dst with ms := l } := fun src dst l =>
    (copyRow s row src dst).kept rfl rfl fun _ => rfl
  have hhole : MEM_HOLE (row / 32) < 0x50040000 := by unfold MEM_HOLE; omega
  unfold State.retireRow
  exact .ite (hcopied _ _ _) (.ite (hcopied _ _ _) (((BlockOnly.refl _ s).setBit hhole _ true).event (by decide) 3 (by decide)))

/-! ### Ports (R275, R289, R292) -/

theorem portDown (h : BlockOnly keep s u) (hp : p ≤ 2) : BlockOnly keep s (u.portDown p) := by
  have hstat : LNK_PSTAT p < 0x50040000 := by unfold LNK_PSTAT; omega
  have hcred : LNK_CRED p < 0x50040000 := by unfold LNK_CRED; omega
  have hset : BlockOnly keep s ((u.setBit (LNK_PSTAT p) 0 false).setPort p
      { (u.port p).restart with beatHops := none, beatNow := false }) := (h.setBit hstat 0 false).kept rfl rfl fun _ => rfl
  unfold State.portDown
  exact .ite ((((hset.setFld hstat 16 6 63).setBit hstat 15 false).setRg hcred _).event (by decide) 1 (by decide)) h

theorem portBring (h : BlockOnly keep s u) (hp : p ≤ 2) : BlockOnly keep s (u.portBring p) := by
  have hstat : LNK_PSTAT p < 0x50040000 := by unfold LNK_PSTAT; omega
  have hset : BlockOnly keep s (u.setPort p { (u.port p).restart with silent := 0 }) := h.kept rfl rfl fun _ => rfl
  unfold State.portBring
  exact .ite ((hset.setBit hstat 0 true).event (by decide) 1 (by decide)) h

/-! ### Engines, cameras and the eMMC port (R418, R429, R452) -/

theorem retireEngine (s : State) (n : Nat) : BlockOnly keep s (s.retireEngine n) := by
  have hset : ∀ x : XpaSt, BlockOnly keep s { s with xpa := x } := fun x => (BlockOnly.refl _ s).kept rfl rfl fun _ => rfl
  unfold State.retireEngine
  split
  · exact .refl _ s
  · exact .ite ((hset _).setBit (by decide) 9 true) (.refl _ s)

theorem retireCamera (s : State) {x : Nat} (hx : x ≤ 1) : BlockOnly keep s (s.retireCamera x) := by
  have hset : ∀ l, BlockOnly keep s { s with cams := l } := fun l => (BlockOnly.refl _ s).kept rfl rfl fun _ => rfl
  have hstat : CAM_BSTAT x < 0x50040000 := by unfold CAM_BSTAT; omega
  unfold State.retireCamera
  dsimp only
  split
  · exact .refl _ s
  · exact (hset _).setFld hstat _ 2 0

theorem retireEmmc (s : State) : BlockOnly keep s s.retireEmmc := by
  have hhalted := (((BlockOnly.refl keep s).setFld (by decide : REC_STAT < 0x50040000) 0 2 2).setFld (by decide : REC_STAT < 0x50040000)
    4 2 1).setBit (by decide : EMMC_STAT < 0x50040000) 1 false
  have hset : ∀ x : RecSt, BlockOnly keep s
      { ((s.setFld REC_STAT 0 2 2).setFld REC_STAT 4 2 1).setBit EMMC_STAT 1 false with recorder := x } := fun x =>
    hhalted.kept rfl rfl fun _ => rfl
  unfold State.retireEmmc
  exact .ite ((hset _).event (by decide) 8 (by decide)) (.refl _ s)

/-! ### The blocks of all channels -/

theorem retireBlock (s : State) (h : chanClass ch = some cls) : BlockOnly (0x800 ≤ ch) s (s.retireBlock ch) := by
  have hlt := lt_of_chanClass h
  unfold State.retireBlock
  split
  next hrow => exact (retireRow s hrow).weaken (by omega)
  split
  next => exact retireEngine s _
  split
  next hport => exact (BlockOnly.refl _ s).portDown (by omega)
  split
  next hcam => exact retireCamera s (by omega)
  · exact .ite (retireEmmc s) (.refl _ s)

theorem requalBlock (s : State) (ch : Nat) : BlockOnly True s (s.requalBlock ch) := by
  unfold State.requalBlock
  split
  · exact (BlockOnly.refl _ s).portBring (by omega)
  · exact .refl _ s

theorem abortBlock (s : State) (ch : Nat) : BlockOnly True s (s.abortBlock ch) := by
  unfold State.abortBlock
  split
  · exact (BlockOnly.refl _ s).portDown (by omega)
  · exact .refl _ s

end BlockOnly

@[simp] theorem regs_scramble (s : State) (p n : Nat) : (s.scramble p n).regs = s.regs := regs_pokeBytes s p _

theorem gnt_scramble (s : State) (p n : Nat) : (s.scramble p n).gnt = s.gnt := pokeBytes_keeps State.gnt (fun _ _ _ => rfl) s p _

namespace BlockOnly

theorem withMs (h : BlockOnly keep s u) (x : MemSt) : BlockOnly keep s { u with ms := x } := ⟨h.rg, h.gnt, h.mem⟩

theorem scramble (h : BlockOnly False s u) (p n : Nat) : BlockOnly False s (u.scramble p n) :=
  h.kept (regs_scramble u p n) (gnt_scramble u p n) False.elim

end BlockOnly

theorem blockOnly_reinstateBlock (s : State) (ch : Nat) : BlockOnly False s (s.reinstateBlock ch) := by
  unfold State.reinstateBlock
  split
  next hrow =>
    have hhole : MEM_HOLE (ch / 32) < 0x50040000 := by unfold MEM_HOLE; omega
    have hfilled := ((BlockOnly.refl False s).setBit hhole (ch % 32) false).scramble (0x10000000 + ch * 4096) 4096
    exact .ite (hfilled.withMs _) (.refl _ s)
  split
  next => exact (BlockOnly.refl _ s).kept rfl rfl False.elim
  split
  next hport => exact (BlockOnly.refl _ s).portBring (by omega)
  next => exact .refl _ s

theorem bit_withMs (s : State) (x : MemSt) (a k : Nat) : State.bit { s with ms := x } a k = s.bit a k := rfl

theorem bit_scramble (s : State) (p n a k : Nat) : (s.scramble p n).bit a k = s.bit a k :=
  bit_congr (rg_congr (regs_scramble s p n) a) k

/-- A reinstated row is no hole (R191). -/
theorem hole_reinstateBlock (s : State) (hrow : ch < 0x800) :
    (s.reinstateBlock ch).bit (MEM_HOLE (ch / 32)) (ch % 32) = false := by
  unfold State.reinstateBlock
  rw [if_pos hrow]
  split
  next =>
    exact (bit_withMs _ _ _ _).trans ((bit_scramble _ _ _ _ _).trans (bit_setBit_same s _ _ _ (Nat.mod_lt _ (by decide))))
  next hserved => exact Bool.eq_false_iff.mpr hserved

/-! ### Ports that come UP and go DOWN -/

theorem pstat_ne_cred (hp : p ≤ 2) : LNK_PSTAT p ≠ LNK_CRED p := by unfold LNK_PSTAT LNK_CRED; omega
theorem pstat_ne_evt (p : Nat) : LNK_PSTAT p ≠ LNK_EVT := by unfold LNK_PSTAT LNK_EVT; omega
theorem pstat_ne_pend (p : Nat) : LNK_PSTAT p ≠ ECX_PEND ((192 + 1) / 32) := by unfold LNK_PSTAT ECX_PEND; omega

theorem portUp_lnkEvt (s : State) (p : Nat) : (s.lnkEvt 1).portUp p = s.portUp p :=
  portUp_congr (rg_event_ne s LNK_EVT 1 _ (pstat_ne_pend p) (pstat_ne_evt p))

theorem portUp_portBring (hable : s.portAble p = true) : (s.portBring p).portUp p = true := by
  unfold State.portBring
  split
  next =>
    rw [portUp_lnkEvt]
    exact bit_setBit_same (s.setPort p _) _ _ _ (by decide)
  next hup => simpa [hable] using hup

theorem portDown_down (s : State) (hp : p ≤ 2) : (s.portDown p).portUp p = false := by
  have hclear : ∀ x : State, x.bit (LNK_PSTAT p) 0 = false →
      ((x.setFld (LNK_PSTAT p) 16 6 63).setBit (LNK_PSTAT p) 15 false).bit (LNK_PSTAT p) 0 = false := fun x hx => by
    rw [bit_setBit _ _ _ _ _ (by decide), if_neg (by decide), bit_setFld_other _ _ _ _ _ (by decide) (by decide), hx]
  unfold State.portDown
  split
  next =>
    rw [portUp_lnkEvt, portUp_congr (rg_setRg_ne _ _ (pstat_ne_cred hp))]
    exact hclear _ (bit_setBit_same s _ _ _ (by decide))
  next hdown => exact Bool.eq_false_iff.mpr hdown

end Sys2Proof.Machine
end

section
/-! The fault manager (spec/08 R220 to R224): errors reported on a channel, windows, the commands of FLT_CMD, and the statement
FaultManager. -/

namespace Sys2Proof.Machine

variable {s t u : State} {i : Initiator} {ch : Fin 4096} {c cls count first : Nat} {detail : Word}

/-! ### Errors (R220 to R222) -/

/-- An error noted on a channel that is not retired by it. -/
def State.suspected (s : State) (c first count : Nat) : State := (s.setChan c first count 1).event FLT_EVT 1 105

theorem faultReport_opens (hclass : chanClass c = some cls) (hst : s.chanState c = 0) (detail : Word) :
    s.faultReport c detail = if s.fld (FLT_POLICY cls) 0 4 < 1 then (s.suspected c s.beatNo 1).retire c s.beatNo 1 detail
      else s.suspected c s.beatNo 1 := by
  simp [State.faultReport, hclass, hst, State.suspected]

theorem faultReport_counts (hclass : chanClass c = some cls) (hst : s.chanState c = 1)
    (hwin : s.beatNo < s.chanFirst c + s.fld (FLT_POLICY cls) 16 16) (detail : Word) :
    s.faultReport c detail =
      if s.fld (FLT_POLICY cls) 0 4 < s.fld (FLT_CHSTAT c) 8 8 + 1 then
        (s.suspected c (s.chanFirst c) (s.fld (FLT_CHSTAT c) 8 8 + 1)).retire c (s.chanFirst c) (s.fld (FLT_CHSTAT c) 8 8 + 1) detail
      else s.suspected c (s.chanFirst c) (s.fld (FLT_CHSTAT c) 8 8 + 1) := by
  simp [State.faultReport, hclass, hst, hwin, State.suspected]

theorem faultReport_ignored (hst : s.chanState c = 2 ∨ s.chanState c = 3) (detail : Word) : s.faultReport c detail = s := by
  unfold State.faultReport
  split
  · rfl
  · exact if_pos hst

/-- What an error within the retries leaves: the channel is SUSPECT with its count, in a window that began at `first`. -/
structure Suspects (s : State) (c first count : Nat) (u : State) : Prop where
  state : u.chanState c = 1
  count : u.fld (FLT_CHSTAT c) 8 8 = count
  first : u.chanFirst c = first
  evt : u.bit FLT_EVT 1 = true
  regs : SameRegsBut s u [FLT_CHSTAT c, FLT_EVT, ECX_PEND 3]
  mem : u.mem = s.mem

theorem gnt_suspected (s : State) (c first count : Nat) : (s.suspected c first count).gnt = (s.setChan c first count 1).gnt :=
  State.event_gnt _ _ _ _

theorem chstat_suspected (s : State) (c first count : Nat) :
    (s.suspected c first count).rg (FLT_CHSTAT c) = (s.setChan c first count 1).rg (FLT_CHSTAT c) :=
  rg_event_ne _ _ _ _ (chstat_ne c (by decide)) (chstat_ne c (by decide))

theorem suspects_suspected (s : State) (c first : Nat) {count : Nat} (hcount : count < 256) :
    Suspects s c first count (s.suspected c first count) := by
  have hwrites : WritesOnly (· ∈ [FLT_CHSTAT c, FLT_EVT, ECX_PEND 3]) s (s.suspected c first count) :=
    ((WritesOnly.refl _ s).setChan (by simp) first count 1).event (n := 105) (by simp) (by simp) 1
  exact {
    state := (chanState_congr (chstat_suspected s c first count)).trans (chanState_setChan s c first count (by decide))
    count := (fld_congr (chstat_suspected s c first count) 8 8).trans (count_setChan s c first hcount (by decide))
    first := (chanFirst_congr (gnt_suspected s c first count) c).trans (chanFirst_setChan s c first count 1)
    evt := bit_event_self _ _ _ _ (by decide) (by decide)
    regs := hwrites.sameRegsBut
    mem := hwrites.mem }

/-- What an error past the retries leaves: the channel is RETIRED, FLT_LASTCH names it, and a record with the count is queued where there is
room (R222, R223). -/
structure Retires (s : State) (c count : Nat) (detail : Word) (u : State) : Prop where
  state : u.chanState c = 2
  last : u.rg FLT_LASTCH = BitVec.ofNat 32 c
  evt : u.bit FLT_EVT 2 = true
  mem : 0x800 ≤ c → u.mem = s.mem
  record : s.gnt.records.length < 16 → ∃ r, u.gnt.records = s.gnt.records ++ [r] ∧
    r[0]? = some (BitVec.ofNat 32 (c + 0x10000 + count * 0x1000000)) ∧ r[3]? = some detail

theorem chstat_not_mem_record (c : Nat) : FLT_CHSTAT c ∉ [FLT_EVT, FLT_RECOVF, ECX_PEND 3] := by
  simp only [List.mem_cons, List.not_mem_nil, or_false, FLT_CHSTAT, FLT_EVT, FLT_RECOVF, ECX_PEND]
  omega

/-- The channel is marked RETIRED, before its record is queued. -/
def State.retireMarked (s : State) (c first count : Nat) : State :=
  ((s.setChan c first count 2).setRg FLT_LASTCH (w32 c)).event FLT_EVT 2 106

theorem chstat_retireMarked (s : State) (c first count : Nat) :
    (s.retireMarked c first count).rg (FLT_CHSTAT c) = (s.setChan c first count 2).rg (FLT_CHSTAT c) := by
  rw [State.retireMarked, rg_event_ne _ _ _ _ (chstat_ne c (by decide)) (chstat_ne c (by decide)),
    rg_setRg_ne _ _ (chstat_ne c (by decide))]

theorem last_retireMarked (s : State) (c first count : Nat) : (s.retireMarked c first count).rg FLT_LASTCH = w32 c := by
  rw [State.retireMarked, rg_event_ne _ _ _ _ (by decide) (by decide), rg_setRg_same]

theorem records_retireMarked (s : State) (c first count : Nat) : (s.retireMarked c first count).gnt.records = s.gnt.records := by
  rw [State.retireMarked, State.event_gnt, State.setRg_gnt, gnt_setChan]

theorem mem_retireMarked (s : State) (c first count : Nat) : (s.retireMarked c first count).mem = s.mem := by
  rw [State.retireMarked, State.event_mem, State.setRg_mem, (writesOnly_setChan s c first count 2).mem]

theorem retire_retires (s : State) (hclass : chanClass c = some cls) (first count : Nat) (detail : Word) :
    Retires s c count detail (s.retire c first count detail) := by
  let marked := s.retireMarked c first count
  let addr := if c < 0x800 then 0x10000000 + c * 4096 else 0
  have hqueued := writesOnly_queueRecord marked c 1 count first detail addr
  have hblock : BlockOnly (0x800 ≤ c) (marked.queueRecord c 1 count first detail addr) (s.retire c first count detail) :=
    .retireBlock _ hclass
  have hstat := (hqueued.rg (FLT_CHSTAT c) (chstat_not_mem_record c)).trans (chstat_retireMarked s c first count)
  have hevt : marked.bit FLT_EVT 2 = true := bit_event_self _ _ _ _ (by decide) (by decide)
  exact {
    state := (hblock.chanState c).trans ((chanState_congr hstat).trans (chanState_setChan s c first count (by decide)))
    last := (hblock.rg _ (by decide)).trans ((hqueued.rg _ (by decide)).trans (last_retireMarked s c first count))
    evt := (bit_congr (hblock.rg _ (by decide)) 2).trans (bit_evt_queueRecord _ _ _ _ _ _ _ (by decide) hevt)
    mem := fun hrow => (hblock.mem hrow).trans (hqueued.mem.trans (mem_retireMarked s c first count))
    record := fun hroom => by
      have hrecords : marked.gnt.records = s.gnt.records := records_retireMarked s c first count
      refine ⟨[w32 (c + 1 * 65536 + count * 16777216), w32 first, w32 marked.beatNo, detail, w32 addr, 0], ?_, rfl, rfl⟩
      rw [hblock.gnt, records_queueRecord _ _ _ _ _ _ _ (hrecords ▸ hroom), hrecords] }

/-- An error's mark changes neither the records nor a byte of memory, so that a retirement after it is one from before it. -/
theorem Retires.of_suspected {first : Nat} (h : Retires (s.suspected c first count) c count detail u) :
    Retires s c count detail u := by
  have hrecords : (s.suspected c first count).gnt.records = s.gnt.records := by
    rw [gnt_suspected, gnt_setChan]
  have hmem : (s.suspected c first count).mem = s.mem := by
    rw [State.suspected, State.event_mem, (writesOnly_setChan s c first count 1).mem]
  exact ⟨h.state, h.last, h.evt, fun hrow => (h.mem hrow).trans hmem, hrecords ▸ h.record⟩

theorem faultReport_suspects (hclass : chanClass c = some cls) (hst : s.chanState c = 0) (hretries : 1 ≤ s.fld (FLT_POLICY cls) 0 4) :
    Suspects s c s.beatNo 1 (s.faultReport c detail) := by
  rw [faultReport_opens hclass hst, if_neg (by omega)]
  exact suspects_suspected s c _ (by decide)

theorem faultReport_retires (hclass : chanClass c = some cls) (hst : s.chanState c = 0) (hretries : s.fld (FLT_POLICY cls) 0 4 = 0) :
    Retires s c 1 detail (s.faultReport c detail) := by
  rw [faultReport_opens hclass hst, if_pos (by omega)]
  exact (retire_retires _ hclass _ _ _).of_suspected

section
variable (hclass : chanClass c = some cls) (hst : s.chanState c = 1)
  (hwin : s.beatNo < s.chanFirst c + s.fld (FLT_POLICY cls) 16 16)
include hclass hst hwin

theorem faultReport_suspectsAgain (hretries : s.fld (FLT_CHSTAT c) 8 8 + 1 ≤ s.fld (FLT_POLICY cls) 0 4) :
    Suspects s c (s.chanFirst c) (s.fld (FLT_CHSTAT c) 8 8 + 1) (s.faultReport c detail) := by
  have hfour : s.fld (FLT_POLICY cls) 0 4 < 2 ^ 4 := fieldOf_lt _ 0 4
  rw [faultReport_counts hclass hst hwin, if_neg (by omega)]
  exact suspects_suspected s c _ (by omega)

theorem faultReport_retiresPast (hretries : s.fld (FLT_POLICY cls) 0 4 < s.fld (FLT_CHSTAT c) 8 8 + 1) :
    Retires s c (s.fld (FLT_CHSTAT c) 8 8 + 1) detail (s.faultReport c detail) := by
  rw [faultReport_counts hclass hst hwin, if_pos hretries]
  exact (retire_retires _ hclass _ _ _).of_suspected

end

/-! ### A report of a link port is counted (R291) -/

/-- The state in which a port's report is counted in LNK_PERR, and that of any other channel is not. -/
def State.portCounted (s : State) (c : Nat) : State :=
  if 0x810 ≤ c ∧ c ≤ 0x812 then s.setRg (LNK_PERR (c - 0x810)) (s.rg (LNK_PERR (c - 0x810)) + 1) else s

theorem exec_faultReport (s : State) (ch : Fin 4096) (detail : Word) :
    exec (.faultReport ch detail) s = .next ((s.portCounted ch.val).faultReport ch.val detail) := rfl

theorem gnt_portCounted (s : State) (c : Nat) : (s.portCounted c).gnt = s.gnt := by
  unfold State.portCounted
  split <;> rfl

/-- The error counters of the ports lie in the link's window. -/
abbrev perrReg (a : Nat) : Prop := 0x40070000 ≤ a ∧ a < 0x50000000

theorem writesOnly_portCounted (s : State) (c : Nat) : WritesOnly perrReg s (s.portCounted c) := by
  unfold State.portCounted
  split
  · exact (WritesOnly.refl _ s).setRg (by unfold perrReg LNK_PERR; omega) _
  · exact .refl _ s

/-- What the fault manager reads of a channel is the same after the count. -/
theorem portCounted_same (s : State) (c cls : Nat) : (s.portCounted c).chanState c = s.chanState c ∧
    (s.portCounted c).beatNo = s.beatNo ∧ (s.portCounted c).chanFirst c = s.chanFirst c ∧
    (s.portCounted c).fld (FLT_CHSTAT c) 8 8 = s.fld (FLT_CHSTAT c) 8 8 ∧
    (s.portCounted c).fld (FLT_POLICY cls) 0 4 = s.fld (FLT_POLICY cls) 0 4 ∧
    (s.portCounted c).fld (FLT_POLICY cls) 16 16 = s.fld (FLT_POLICY cls) 16 16 := by
  have hcounted := writesOnly_portCounted s c
  have hstat := hcounted.rg (FLT_CHSTAT c) (by unfold perrReg FLT_CHSTAT; omega)
  have hpolicy := hcounted.rg (FLT_POLICY cls) (by unfold perrReg FLT_POLICY; omega)
  exact ⟨chanState_congr hstat, beatNo_congr hcounted (by decide) (by decide), chanFirst_congr (gnt_portCounted s c) c,
    fld_congr hstat 8 8, fld_congr hpolicy 0 4, fld_congr hpolicy 16 16⟩

theorem Retires.of_portCounted (h : Retires (s.portCounted c) c count detail u) : Retires s c count detail u :=
  ⟨h.state, h.last, h.evt, fun hrow => (h.mem hrow).trans (writesOnly_portCounted s c).mem, gnt_portCounted s c ▸ h.record⟩

theorem Suspects.mem_portCounted {first : Nat} (h : Suspects (s.portCounted c) c first count u) : u.mem = s.mem :=
  h.mem.trans (writesOnly_portCounted s c).mem

/-! ### The end of a window (R221) -/

theorem faultWindowEnd_clears (hclass : chanClass ch.val = some cls) (hst : s.chanState ch.val = 1)
    (hwin : s.chanFirst ch.val + s.fld (FLT_POLICY cls) 16 16 ≤ s.beatNo) :
    Ends (.faultWindowEnd ch) s (fun u => u.chanState ch.val = 0 ∧ SameRegsBut s u [FLT_CHSTAT ch.val]) := by
  refine ⟨s.setChan ch.val (s.chanFirst ch.val) 0 0, ?_, chanState_setChan s ch.val _ 0 (by decide),
    (writesOnly_setChan s ch.val _ 0 0).sameRegsBut⟩
  show execFaultWindowEnd ch s = _
  simp only [execFaultWindowEnd, hclass, hst, hwin]
  rfl

/-! ### Commands of FLT_CMD (R224) -/

/-- The word of operation `op` on channel `c` in FLT_CMD is let through. -/
abbrev FltServed (s : State) (i : Initiator) (op c : Nat) : Prop :=
  s.serves i FLT_CMD (BitVec.ofNat 32 (op * 0x10000000 + c)) = true

theorem requal_exec (hs : FltServed s i 1 ch.val) : exec (.fltRequal i ch) s = .next (s.fltRequal ch.val) :=
  exec_served (act := fun t => t.fltRequal ch.val) hs rfl

theorem reinstate_exec (hs : FltServed s i 2 ch.val) : exec (.fltReinstate i ch) s = .next (s.fltReinstate ch.val) :=
  exec_served (act := fun t => t.fltReinstate ch.val) hs rfl

theorem abort_exec (hs : FltServed s i 3 ch.val) : exec (.fltAbort i ch) s = .next (s.fltAbort ch.val) :=
  exec_served (act := fun t => t.fltAbort ch.val) hs rfl

theorem corerst_exec (hs : FltServed s i 4 ch.val) : exec (.corerst i ch) s = .next (s.fltCorerst ch.val) :=
  exec_served (act := fun t => t.fltCorerst ch.val) hs rfl

/-- The channel's state set by a command that leaves its count and window. -/
def State.chanMoved (s : State) (c st : Nat) : State := (s.accept fltPort).setFld (FLT_CHSTAT c) 0 2 st

theorem writesOnly_chanMoved (s : State) (c st : Nat) : WritesOnly (· ∈ [FLT_CHSTAT c, FLT_CMDST]) s (s.chanMoved c st) :=
  ((WritesOnly.refl _ s).accept (by simp [fltPort])).setFld (by simp) _ _ _

theorem chanState_chanMoved (s : State) (c : Nat) {st : Nat} (hst : st < 4) : (s.chanMoved c st).chanState c = st :=
  (fld_setFld_same _ _ _ _ _ (by decide)).trans (Nat.mod_eq_of_lt hst)

section
variable (hclass : chanClass c = some cls)
include hclass

theorem fltRequal_moves (hst : s.chanState c = 2) : s.fltRequal c = (s.chanMoved c 3).requalBlock c := by
  unfold State.fltRequal
  dsimp only
  rw [command_accepted _ rfl (by simp [hst]) (by simp [hclass])]
  rfl

theorem fltRequal_refused (hst : s.chanState c ≠ 2) : s.fltRequal c = s.reject fltPort ST_STATE := by
  unfold State.fltRequal
  dsimp only
  rw [command_rejected_state _ (by simp [hst, hclass])]

theorem fltAbort_moves (hst : s.chanState c = 3) : s.fltAbort c = (s.chanMoved c 2).abortBlock c := by
  unfold State.fltAbort
  dsimp only
  rw [command_accepted _ rfl (by simp [hst]) (by simp [hclass])]
  rfl

theorem fltAbort_refused (hst : s.chanState c ≠ 3) : s.fltAbort c = s.reject fltPort ST_STATE := by
  unfold State.fltAbort
  dsimp only
  rw [command_rejected_state _ (by simp [hst, hclass])]

theorem fltReinstate_refused (hst : s.chanState c ≠ 3) : s.fltReinstate c = s.reject fltPort ST_STATE := by
  unfold State.fltReinstate
  dsimp only
  rw [command_rejected_state _ (by simp [hst, hclass])]

end

theorem requalBlock_other (h : ¬(0x810 ≤ c ∧ c ≤ 0x812)) : s.requalBlock c = s := if_neg h
theorem abortBlock_other (h : ¬(0x810 ≤ c ∧ c ≤ 0x812)) : s.abortBlock c = s := if_neg h

/-- A port in REQUAL whose PHY has link and which is enabled may be UP, port C without regard to the link's admission (R275, R292). -/
theorem portAble_chanMoved (hport : 0x810 ≤ c ∧ c ≤ 0x812) (hphy : (s.port (c - 0x810)).phy = true)
    (hen : s.bit (LNK_PORT (c - 0x810)) 0 = true) (hadm : c = 0x812 ∨ s.fld LNK_STAT 0 3 ≠ 0) :
    (s.chanMoved c 3).portAble (c - 0x810) = true := by
  have hmoved := writesOnly_chanMoved s c 3
  have hchan : (s.chanMoved c 3).fld (FLT_CHSTAT (0x810 + (c - 0x810))) 0 2 = 3 := by
    rw [Nat.add_sub_cancel' hport.1]
    exact chanState_chanMoved s c (by decide)
  have hlnk : ∀ a, a < 0x50000000 → (s.chanMoved c 3).rg a = s.rg a := fun a ha =>
    hmoved.rg a (by simp only [List.mem_cons, List.not_mem_nil, or_false, FLT_CHSTAT, FLT_CMDST]; omega)
  have hen' : (s.chanMoved c 3).bit (LNK_PORT (c - 0x810)) 0 = true :=
    (bit_congr (hlnk _ (by unfold LNK_PORT; omega)) 0).trans hen
  have hstat : (s.chanMoved c 3).fld LNK_STAT 0 3 = s.fld LNK_STAT 0 3 := fld_congr (hlnk _ (by decide)) 0 3
  have hphy' : ((s.chanMoved c 3).port (c - 0x810)).phy = true := hphy
  have hadm' : (c - 0x810 == 2 || s.fld LNK_STAT 0 3 != 0) = true := by
    rw [Bool.or_eq_true, beq_iff_eq, bne_iff_ne]
    exact hadm.imp_left (by omega)
  rw [State.portAble, hphy', hen', hchan, hstat, hadm']
  rfl

theorem fltRequal_requalifies (hclass : chanClass ch.val = some cls) (hs : FltServed s i 1 ch.val) (hst : s.chanState ch.val = 2) :
    Ends (.fltRequal i ch) s (fun u => u.chanState ch.val = 3 ∧ u.mem = s.mem ∧
      (¬(0x810 ≤ ch.val ∧ ch.val ≤ 0x812) → SameRegsBut s u [FLT_CHSTAT ch.val, FLT_CMDST]) ∧
      (0x810 ≤ ch.val ∧ ch.val ≤ 0x812 → (s.port (ch.val - 0x810)).phy = true → s.bit (LNK_PORT (ch.val - 0x810)) 0 = true →
        (ch.val = 0x812 ∨ s.fld LNK_STAT 0 3 ≠ 0) → u.portUp (ch.val - 0x810) = true)) := by
  have hmoved := writesOnly_chanMoved s ch.val 3
  have hblock := BlockOnly.requalBlock (s.chanMoved ch.val 3) ch.val
  refine ⟨_, (requal_exec hs).trans (congrArg _ (fltRequal_moves hclass hst)),
    (hblock.chanState _).trans (chanState_chanMoved s _ (by decide)), (hblock.mem trivial).trans hmoved.mem, fun hother => ?_,
    fun hport hphy hen hadm => ?_⟩
  · rw [requalBlock_other hother]
    exact hmoved.sameRegsBut
  · rw [State.requalBlock, if_pos hport]
    exact portUp_portBring (portAble_chanMoved hport hphy hen hadm)

theorem fltAbort_retires (hclass : chanClass ch.val = some cls) (hs : FltServed s i 3 ch.val) (hst : s.chanState ch.val = 3) :
    Ends (.fltAbort i ch) s (fun u => u.chanState ch.val = 2 ∧ u.mem = s.mem ∧
      (¬(0x810 ≤ ch.val ∧ ch.val ≤ 0x812) → SameRegsBut s u [FLT_CHSTAT ch.val, FLT_CMDST]) ∧
      (0x810 ≤ ch.val ∧ ch.val ≤ 0x812 → u.portUp (ch.val - 0x810) = false)) := by
  have hmoved := writesOnly_chanMoved s ch.val 2
  have hblock := BlockOnly.abortBlock (s.chanMoved ch.val 2) ch.val
  refine ⟨_, (abort_exec hs).trans (congrArg _ (fltAbort_moves hclass hst)),
    (hblock.chanState _).trans (chanState_chanMoved s _ (by decide)), (hblock.mem trivial).trans hmoved.mem, fun hother => ?_,
    fun hport => ?_⟩
  · rw [abortBlock_other hother]
    exact hmoved.sameRegsBut
  · rw [State.abortBlock, if_pos hport]
    exact portDown_down _ (by omega)

/-! ### REINSTATE (R191, R223, R224) -/

/-- The channel is OK again and told, before its record is queued. -/
def State.chanRestored (s : State) (c : Nat) : State := ((s.accept fltPort).setChan c 0 0 0).event FLT_EVT 3 107

theorem fltReinstate_moves (hclass : chanClass c = some cls) (hst : s.chanState c = 3) : s.fltReinstate c =
    ((s.chanRestored c).queueRecord c 2 0 0 0 (if c < 0x800 then 0x10000000 + c * 4096 else 0)).reinstateBlock c := by
  unfold State.fltReinstate
  dsimp only
  rw [command_accepted _ rfl (by simp [hst]) (by simp [hclass])]
  rfl

theorem chanRestored_spec (s : State) (c : Nat) : (s.chanRestored c).chanState c = 0 ∧ (s.chanRestored c).fld FLT_CMDST 0 4 = 0 ∧
    (s.chanRestored c).bit FLT_EVT 3 = true := by
  refine ⟨?_, ?_, bit_event_self _ _ _ _ (by decide) (by decide)⟩
  · exact (chanState_congr (rg_event_ne _ _ _ _ (chstat_ne c (by decide)) (chstat_ne c (by decide)))).trans
      (chanState_setChan _ c 0 0 (by decide))
  · have hset := (writesOnly_setChan (s.accept fltPort) c 0 0 0).rg FLT_CMDST (by simp [(chstat_ne c (a := FLT_CMDST) (by decide)).symm])
    exact (fld_congr ((rg_event_ne _ _ _ _ (by decide) (by decide)).trans hset) 0 4).trans (st_accept s fltPort)

theorem fltReinstate_restores (hclass : chanClass ch.val = some cls) (hs : FltServed s i 2 ch.val) (hst : s.chanState ch.val = 3) :
    Ends (.fltReinstate i ch) s (fun u => u.chanState ch.val = 0 ∧ u.fld FLT_CMDST 0 4 = 0 ∧ u.bit FLT_EVT 3 = true ∧
      (ch.val < 0x800 → u.bit (MEM_HOLE (ch.val / 32)) (ch.val % 32) = false)) := by
  let addr := if ch.val < 0x800 then 0x10000000 + ch.val * 4096 else 0
  obtain ⟨hstate, hstatus, hevt⟩ := chanRestored_spec s ch.val
  have hqueued := writesOnly_queueRecord (s.chanRestored ch.val) ch.val 2 0 0 0 addr
  have hblock := blockOnly_reinstateBlock ((s.chanRestored ch.val).queueRecord ch.val 2 0 0 0 addr) ch.val
  have hqstate := (chanState_congr (hqueued.rg (FLT_CHSTAT ch.val) (chstat_not_mem_record ch.val))).trans hstate
  have hqstatus := (hqueued.fld (a := FLT_CMDST) (by decide) 0 4).trans hstatus
  exact ⟨_, (reinstate_exec hs).trans (congrArg _ (fltReinstate_moves hclass hst)), (hblock.chanState _).trans hqstate,
    (fld_congr (hblock.rg _ (by decide)) 0 4).trans hqstatus,
    (bit_congr (hblock.rg _ (by decide)) 3).trans (bit_evt_queueRecord _ _ _ _ _ _ _ (by decide) hevt),
    hole_reinstateBlock _⟩

/-! ### CORERST (R156, R224, R547) -/

section
variable (s : State) (k : Nat)

theorem unslot_spec : ((s.unslot k).disCore k).slot = none ∧ (s.unslot k).regs = s.regs ∧
    ∀ e, (s.unslot k).core e = s.core e := by
  cases hslot : (s.disCore k).slot with
  | none =>
    have hsame : s.unslot k = s := by rw [State.unslot, hslot]
    rw [hsame]
    exact ⟨hslot, rfl, fun _ => rfl⟩
  | some idx =>
    refine ⟨?_, ?_, core_unslot hslot⟩
    · rw [unslot_eq hslot, disCore_setDisCore]
    · rw [unslot_eq hslot]
      rfl

/-- The task of a core that is reset is HALTED, and the core has none (R156). -/
def State.taskHalted (idx : Nat) : State :=
  ((s.setDesc idx { s.desc idx with state := .halted, core := k }).setDisCore k { s.disCore k with cur := none }).event DIS_EVT 2 34

theorem disCoreReset_spec : ((s.disCoreReset k).disCore k).slot = none ∧ ((s.disCoreReset k).disCore k).cur = none ∧
    (∀ a, a ≠ DIS_EVT → a ≠ ECX_PEND 1 → (s.disCoreReset k).rg a = s.rg a) ∧ ∀ e, (s.disCoreReset k).core e = s.core e := by
  obtain ⟨hslot, hregs, hcores⟩ := unslot_spec s k
  cases hcur : ((s.unslot k).disCore k).cur with
  | none =>
    have hsame : s.disCoreReset k = s.unslot k := by simp only [State.disCoreReset, hcur]
    rw [hsame]
    exact ⟨hslot, hcur, fun a _ _ => rg_congr hregs a, hcores⟩
  | some idx =>
    have hhalted : s.disCoreReset k = (s.unslot k).taskHalted k idx := by
      simp only [State.disCoreReset, hcur]
      rfl
    have hview : ((s.unslot k).taskHalted k idx).disCore k = { (s.unslot k).disCore k with cur := none } := by
      rw [State.taskHalted, disCore_event, disCore_setDisCore]
    rw [hhalted, hview]
    refine ⟨hslot, rfl, fun a hevt hpend => ?_, fun e => ?_⟩
    · exact (rg_event_ne _ _ _ 34 hpend hevt).trans (rg_congr hregs a)
    · rw [State.taskHalted, core_event, core_setDisCore, core_setDesc, hcores]

end

theorem fltCorerst_core (s : State) (n : Fin 4) : s.fltCorerst n.val = (s.accept fltPort).resetCore n := by
  rw [State.fltCorerst, command_accepted _ rfl rfl (decide_eq_false (by omega)), dif_pos n.isLt]

theorem fltCorerst_refused (hother : 4 ≤ c) : s.fltCorerst c = s.reject fltPort ST_ARG :=
  command_rejected_arg _ rfl (decide_eq_true hother)

/-- What a reset of core `n` alone leaves (R156, R547). -/
theorem resetCore_resets (s : State) (n : Fin 4) :
    (s.resetCore n).core (.app n) = Core.atReset 1 ∧ (s.resetCore n).bit SYS_CRUN n.val = false ∧
    (s.resetCore n).bit FLT_CORESTAT n.val = false ∧ ((s.resetCore n).disCore n.val).slot = none ∧
    ((s.resetCore n).disCore n.val).cur = none ∧ ∀ e, e ≠ .app n → (s.resetCore n).core e = s.core e := by
  let held := ((s.setCore (.app n) (Core.atReset 1)).setBit SYS_CRUN n.val false).setBit FLT_CORESTAT n.val false
  have hn : n.val < 32 := by omega
  have hheld : ∀ e, held.core e = (s.setCore (.app n) (Core.atReset 1)).core e := fun e => by cases e <;> rfl
  obtain ⟨hslot, hcur, hregs, hcores⟩ := disCoreReset_spec held n.val
  refine ⟨?_, ?_, ?_, hslot, hcur, fun e he => ?_⟩
  · rw [← core_setCore s (.app n) (Core.atReset 1), ← hheld]
    exact hcores _
  · rw [State.resetCore, bit_congr (hregs _ (by decide) (by decide)), bit_ne_setBit _ _ _ _ (by decide)]
    exact bit_setBit_same _ _ _ _ hn
  · rw [State.resetCore, bit_congr (hregs _ (by decide) (by decide))]
    exact bit_setBit_same _ _ _ _ hn
  · rw [← core_setCore_ne s (Core.atReset 1) he, ← hheld]
    exact hcores e

theorem corerst_resets {n : Fin 4} (hs : FltServed s i 4 ch.val) (hn : ch.val = n.val) :
    Ends (.corerst i ch) s (fun u => u.core (.app n) = Core.atReset 1 ∧ u.bit SYS_CRUN n.val = false ∧
      u.bit FLT_CORESTAT n.val = false ∧ (u.disCore n.val).slot = none ∧ (u.disCore n.val).cur = none ∧
      ∀ e, e ≠ .app n → u.core e = s.core e) := by
  have hexec : exec (.corerst i ch) s = .next ((s.accept fltPort).resetCore n) := by
    rw [corerst_exec hs, hn, fltCorerst_core]
  obtain ⟨hcore, hrun, hstat, hslot, hcur, hothers⟩ := resetCore_resets (s.accept fltPort) n
  have haccept : ∀ e, (s.accept fltPort).core e = s.core e := fun e => by cases e <;> rfl
  exact ⟨_, hexec, hcore, hrun, hstat, hslot, hcur, fun e he => (hothers e he).trans (haccept e)⟩

/-! ### The statement -/

/-- Settles O27: each clause is the rule of its report, event or command above; a port's report is counted first. -/
theorem faultManager : Obligations.FaultManager := by
  intro s i ch detail cls hclass st op port perr s1 retries window cnt retires
  obtain ⟨hstate, hbeat, hfirst, hcount, hretries, hwindow⟩ := portCounted_same s ch.val cls
  have hretires : ∀ n, Retires (s.portCounted ch.val) ch.val n detail ((s.portCounted ch.val).faultReport ch.val detail) →
      retires n := fun n h =>
    have h := h.of_portCounted
    ⟨_, exec_faultReport s ch detail, h.state, h.last, h.evt, h.mem, h.record⟩
  refine ⟨fun hst hok => ?_, fun hst hwin hok => ?_, fun hst hnone => hretires 1 ?_, fun hst hwin hpast => hretires (cnt + 1) ?_,
    fun hst => ?_, faultWindowEnd_clears hclass, fltRequal_requalifies hclass, fun hs hst => ?_, fltReinstate_restores hclass,
    fun hs hst => ?_, fltAbort_retires hclass, fun hs hst => ?_, fun n hn hs => corerst_resets hs hn, fun hother hs => ?_⟩
  · have h := faultReport_suspects (detail := detail) hclass (hstate.trans hst) (hok.trans_eq hretries.symm)
    exact ⟨_, exec_faultReport s ch detail, h.state, h.count, h.first.trans hbeat, h.evt, h.regs, h.mem_portCounted⟩
  · have h := faultReport_suspectsAgain (detail := detail) hclass (hstate.trans hst) (by rwa [hbeat, hfirst, hwindow])
      (by rwa [hcount, hretries])
    exact ⟨_, exec_faultReport s ch detail, h.state, h.count.trans (by rw [hcount]), h.first.trans hfirst, h.regs, h.mem_portCounted⟩
  · exact faultReport_retires hclass (hstate.trans hst) (hretries.trans hnone)
  · have h := faultReport_retiresPast (detail := detail) hclass (hstate.trans hst) (by rwa [hbeat, hfirst, hwindow])
      (by rwa [hcount, hretries])
    rwa [hcount] at h
  · rw [exec_faultReport, faultReport_ignored (by rwa [hstate])]
    rfl
  · rw [requal_exec hs, fltRequal_refused hclass hst]
  · rw [reinstate_exec hs, fltReinstate_refused hclass hst]
  · rw [abort_exec hs, fltAbort_refused hclass hst]
  · rw [corerst_exec hs, fltCorerst_refused hother]

end Sys2Proof.Machine
end

section
/-! The Ledger's ring (spec/09 R243 to R253), said once: what each operation on slots, MRAM words and tallies leaves of what the
Ledger and the link hold. -/

namespace Sys2Proof.Machine

variable {s t : State} {a i k g n v : Nat} {l : List Nat}

/-! ### Entries of a sparse map -/

theorem mem_smErase {α : Type} {m : List (Nat × α)} {e : Nat × α} : e ∈ smErase m k ↔ e ∈ m ∧ e.1 ≠ k := by
  induction m with
  | nil => simp [smErase]
  | cons x m ih =>
    obtain ⟨j, y⟩ := x
    by_cases hkey : k = j
    · rw [smErase, if_pos hkey, ih, List.mem_cons]
      refine ⟨fun h => ⟨.inr h.1, h.2⟩, fun h => ⟨h.1.resolve_left fun heq => h.2 ?_, h.2⟩⟩
      rw [heq, hkey]
    · rw [smErase, if_neg hkey, List.mem_cons, ih, List.mem_cons]
      refine ⟨fun h => h.elim (fun heq => ⟨.inl heq, ?_⟩) fun h => ⟨.inr h.1, h.2⟩, fun h => h.1.imp id fun hm => ⟨hm, h.2⟩⟩
      rw [heq]
      exact Ne.symm hkey

/-- The entries that are left when the keys `ks` are taken away. -/
theorem mem_foldl_smErase {α : Type} (ks : List Nat) {m : List (Nat × α)} {e : Nat × α} :
    e ∈ ks.foldl smErase m ↔ e ∈ m ∧ e.1 ∉ ks := by
  induction ks generalizing m with
  | nil => simp
  | cons j ks ih => rw [List.foldl_cons, ih, mem_smErase, List.mem_cons, not_or, and_assoc]

/-- Where no key stands twice, taking away the keys of some entries takes away just those entries. -/
theorem mem_foldl_smErase_filter {α : Type} {m : List (Nat × α)} (hnodup : (m.map (fun e => e.1)).Nodup) (p : Nat × α → Bool)
    {e : Nat × α} : e ∈ ((m.filter p).map (fun x => x.1)).foldl smErase m ↔ e ∈ m ∧ ¬ p e = true := by
  rw [mem_foldl_smErase]
  refine and_congr_right fun he => not_congr ⟨fun hkey => ?_, fun hp => List.mem_map.mpr ⟨e, List.mem_filter.mpr ⟨he, hp⟩, rfl⟩⟩
  obtain ⟨x, hx, hxe⟩ := List.mem_map.mp hkey
  obtain ⟨hxm, hpx⟩ := List.mem_filter.mp hx
  rwa [List.inj_on_of_nodup_map hnodup hxm he hxe] at hpx

/-- Where no entry satisfies `p`, after a store only the stored one may be found by it. -/
theorem find?_smPut_new {α : Type} {m : List (Nat × α)} {p : Nat × α → Bool} (hnone : m.find? p = none) (j : Nat) (x : α) :
    (smPut m j x).find? p = if p (j, x) then some (j, x) else none := by
  induction m with
  | nil => rw [smPut, List.find?_cons, List.find?_nil]; split <;> simp_all
  | cons e m ih =>
    obtain ⟨l, y⟩ := e
    obtain ⟨hhead, htail⟩ : p (l, y) = false ∧ m.find? p = none := by
      rw [List.find?_cons] at hnone
      split at hnone
      · cases hnone
      next hl => exact ⟨hl, hnone⟩
    rw [smPut]
    split
    next => cases hp : p (j, x) <;> simp [hp, hhead, htail]
    next =>
      split
      next => cases hp : p (j, x) <;> simp [hp, htail]
      next => rw [List.find?_cons, hhead, ih htail]

/-! ### Words of MRAM (R192, R243) -/

/-- A word that the device programs itself changes bytes, ECC marks, the running program and reservations only. -/
theorem mramPut_keeps {α : Type} (f : State → α) (hbyte : ∀ (t : State) q b, f (t.setByte q b) = f t)
    (hms : ∀ (t : State) x, f { t with ms := x } = f t) (hcore : ∀ (t : State) c q, f (t.setCore c q) = f t) (s : State) (a v : Nat) :
    f (s.mramPut a v) = f s := by
  have hput : ∀ (r : Region) (p : Nat), (r = .mramRing ∨ r = .mramKeys) → f (s.memWrite r none p 8 v).2 = f s := fun r p hr => by
    rcases hr with rfl | rfl <;>
      simp only [State.memWrite, State.physOf, eccBytes, Nat.lt_irrefl, if_false, State.eccWrite, Nat.le_refl, if_true] <;>
      exact (breakReservations_keeps _ f hcore none p 8).trans
        ((hms _ _).trans ((pokeBytes_keeps f hbyte _ _ _).trans (hms s _)))
  unfold State.mramPut mramRegion
  split
  · exact hput _ a (.inl rfl)
  · exact hput _ a (.inr rfl)

@[simp] theorem ldg_mramPut (s : State) (a v : Nat) : (s.mramPut a v).ldg = s.ldg :=
  mramPut_keeps State.ldg (fun _ _ _ => rfl) (fun _ _ => rfl) (fun _ c _ => by cases c <;> rfl) s a v

@[simp] theorem lnk_mramPut (s : State) (a v : Nat) : (s.mramPut a v).lnk = s.lnk :=
  mramPut_keeps State.lnk (fun _ _ _ => rfl) (fun _ _ => rfl) (fun _ c _ => by cases c <;> rfl) s a v

@[simp] theorem ldg_mramSettle (s : State) : s.mramSettle.ldg = s.ldg := rfl
@[simp] theorem lnk_mramSettle (s : State) : s.mramSettle.lnk = s.lnk := rfl

@[simp] theorem ldg_setLdg (s : State) (x : LdgSt) : (s.setLdg x).ldg = x := rfl
@[simp] theorem lnk_setLdg (s : State) (x : LdgSt) : (s.setLdg x).lnk = s.lnk := rfl
@[simp] theorem mem_setLdg (s : State) (x : LdgSt) : (s.setLdg x).mem = s.mem := rfl
@[simp] theorem ldg_setNv (s : State) (x : LdgNv) : (s.setNv x).ldg = { s.ldg with nv := x } := rfl
@[simp] theorem lnk_setNv (s : State) (x : LdgNv) : (s.setNv x).lnk = s.lnk := rfl

/-! ### Events (R241, R250) -/

@[simp] theorem ldg_ldgEvt (s : State) (k : Nat) : (s.ldgEvt k).ldg = s.ldg := State.event_ldg s _ _ _
@[simp] theorem lnk_ldgEvt (s : State) (k : Nat) : (s.ldgEvt k).lnk = s.lnk := State.event_lnk s _ _ _
@[simp] theorem mem_ldgEvt (s : State) (k : Nat) : (s.ldgEvt k).mem = s.mem := State.event_mem s _ _ _

/-- The events of the watermark mark the ring as above or below it. -/
theorem ldg_usedChanged (s : State) : ∃ b, s.usedChanged.ldg = { s.ldg with atHwm := b } := by
  unfold State.usedChanged
  dsimp only
  split
  · exact ⟨true, by simp⟩
  · split
    · exact ⟨false, by simp⟩
    · exact ⟨s.ldg.atHwm, rfl⟩

theorem ldg_usedChanged_of {x : LdgSt} (h : s.ldg = x) : ∃ b, s.usedChanged.ldg = { x with atHwm := b } := h ▸ ldg_usedChanged s

@[simp] theorem lnk_usedChanged (s : State) : s.usedChanged.lnk = s.lnk := by
  unfold State.usedChanged
  dsimp only
  split
  · simp
  · split
    · simp
    · rfl

@[simp] theorem mem_usedChanged (s : State) : s.usedChanged.mem = s.mem := by
  unfold State.usedChanged
  dsimp only
  split
  · simp
  · split
    · simp
    · rfl

/-! ### Slots (R244) -/

theorem slotRec_congr (h : t.ldg.slots = s.ldg.slots) (i : Nat) : t.slotRec i = s.slotRec i := by
  rw [State.slotRec, State.slotRec, h]

/-- A record stored in slot `i` is the one that the slot holds. -/
theorem slotRec_put (h : t.ldg.slots = smPut s.ldg.slots i l) : t.slotRec i = some l := by
  rw [State.slotRec, h, find?_smPut]
  rfl

theorem slotRec_put_ne (h : t.ldg.slots = smPut s.ldg.slots i l) (hne : i ≠ k) : t.slotRec k = s.slotRec k := by
  rw [State.slotRec, h, find?_smPut_ne _ _ hne.symm, State.slotRec]

theorem slotRec_none_iff : s.slotRec i = none ↔ s.ldg.slots.find? (fun e => e.1 == i) = none := Option.map_eq_none_iff

theorem ldg_writeSlot (s : State) (i : Nat) (l : List Nat) :
    ∃ b, (s.writeSlot i l).ldg = { s.ldg with slots := smPut s.ldg.slots i l, atHwm := b } := by
  have hbody : ∀ (ks : List Nat) (t : State),
      (ks.foldl (fun u k => u.mramPut (slotAddr i (k + 1)) (wd l (k + 1))) t).ldg = t.ldg := fun ks t =>
    List.foldlRecOn (motive := fun u => u.ldg = t.ldg) ks _ rfl fun u hu k _ => (ldg_mramPut u _ _).trans hu
  exact ldg_usedChanged_of (x := { s.ldg with slots := smPut s.ldg.slots i l }) (by simp only [ldg_setLdg, ldg_mramSettle, ldg_mramPut, hbody])

theorem ldg_defectSlot (s : State) (i : Nat) (l : List Nat) :
    (s.defectSlot i l).ldg = { s.ldg with defective := i :: s.ldg.defective } := by
  simp [State.defectSlot]

theorem ldg_setHeader (h : s.slotRec i = some l) (w : Nat) :
    (s.setHeader i w).ldg = { s.ldg with slots := smPut s.ldg.slots i (w :: l.drop 1) } := by
  simp [State.setHeader, h]

theorem ldg_freeSlot (s : State) (i : Nat) :
    ∃ b, (s.freeSlot i).ldg = { s.ldg with slots := smErase s.ldg.slots i, atHwm := b } := by
  unfold State.freeSlot
  split
  next hfree => exact ⟨s.ldg.atHwm, by rw [smErase_absent (slotRec_none_iff.mp hfree)]⟩
  next => exact ldg_usedChanged_of (x := { s.ldg with slots := smErase s.ldg.slots i }) (by simp)

@[simp] theorem lnk_freeSlot (s : State) (i : Nat) : (s.freeSlot i).lnk = s.lnk := by
  unfold State.freeSlot
  split
  · rfl
  · simp

/-- Freeing slots takes their entries away, and nothing else of what the Ledger holds but the watermark's mark. -/
theorem ldg_foldl_freeSlot (ks : List Nat) (s : State) : ∃ b, (ks.foldl (fun t i => t.freeSlot i) s).ldg =
    { s.ldg with slots := ks.foldl smErase s.ldg.slots, atHwm := b } := by
  induction ks generalizing s with
  | nil => exact ⟨s.ldg.atHwm, rfl⟩
  | cons i ks ih =>
    obtain ⟨b, hfree⟩ := ldg_freeSlot s i
    obtain ⟨c, hrest⟩ := ih (s.freeSlot i)
    exact ⟨c, by rw [List.foldl_cons, hrest, hfree, List.foldl_cons]⟩

theorem lnk_foldl_freeSlot (ks : List Nat) (s : State) : (ks.foldl (fun t i => t.freeSlot i) s).lnk = s.lnk :=
  List.foldlRecOn (motive := fun u => u.lnk = s.lnk) ks _ rfl fun u hu i _ => (lnk_freeSlot u i).trans hu

/-! ### Free slots (R244) -/

theorem slotFree_congr (hslots : t.ldg.slots = s.ldg.slots) (hbad : t.ldg.defective = s.ldg.defective) (i : Nat) :
    t.slotFree i = s.slotFree i := by
  rw [State.slotFree, State.slotFree, slotRec_congr hslots, hbad]

theorem slotRec_of_slotFree (h : s.slotFree i = true) : s.slotRec i = none := by
  simp only [State.slotFree, Bool.and_eq_true, Option.isNone_iff_eq_none] at h
  exact h.1

theorem slotFree_of_freeFrom (h : s.freeFrom i n = some k) : s.slotFree k = true := by
  induction n generalizing i with
  | zero => cases h
  | succ n ih =>
    unfold State.freeFrom at h
    split at h
    next hfree => cases h; exact hfree
    next => exact ih h

theorem slotFree_of_pickSlot (h : s.pickSlot n = some k) : s.slotFree k = true := slotFree_of_freeFrom h

theorem freeFrom_congr (hslots : t.ldg.slots = s.ldg.slots) (hbad : t.ldg.defective = s.ldg.defective) (i n : Nat) :
    t.freeFrom i n = s.freeFrom i n := by
  induction n generalizing i with
  | zero => rfl
  | succ n ih => rw [State.freeFrom, State.freeFrom, slotFree_congr hslots hbad, ih]

theorem pickSlot_congr (hslots : t.ldg.slots = s.ldg.slots) (hbad : t.ldg.defective = s.ldg.defective) (n : Nat) :
    t.pickSlot n = s.pickSlot n := by
  rw [State.pickSlot, State.pickSlot, freeFrom_congr hslots hbad, State.ldgUsed, State.ldgUsed, hslots, hbad]

/-- A record goes into the free slot that the search finds, where that slot reads back what is written. -/
theorem acceptInto_sound (hpick : s.pickSlot n = some k) (hweak : k ∉ s.ldg.weak) (l : List Nat) :
    s.acceptInto l n 0 = (true, s.writeSlot k l) := by
  rw [State.acceptInto, hpick]
  exact if_pos ⟨rfl, by simp [hweak]⟩

/-- A record's write changes slots, defective slots and the watermark's mark only. -/
theorem ldg_acceptInto (s : State) (l : List Nat) (n bad : Nat) :
    ∃ sl ds b, (s.acceptInto l n bad).2.ldg = { s.ldg with slots := sl, defective := ds, atHwm := b } := by
  have hwritten : ∀ (x : State) j, x.ldg = { s.ldg with defective := x.ldg.defective } →
      ∃ sl ds b, (x.writeSlot j l).ldg = { s.ldg with slots := sl, defective := ds, atHwm := b } := fun x j hx => by
    obtain ⟨b, hw⟩ := ldg_writeSlot x j l
    exact ⟨_, _, b, by rw [hw, hx]⟩
  have hdefect : ∀ (x : State) j, x.ldg = { s.ldg with defective := x.ldg.defective } →
      (x.defectSlot j l).ldg = { s.ldg with defective := (x.defectSlot j l).ldg.defective } := fun x j hx => by
    rw [ldg_defectSlot, hx]
  unfold State.acceptInto
  split
  · exact ⟨_, _, _, rfl⟩
  next i _ =>
    split
    · exact hwritten s i rfl
    · dsimp only
      split
      · exact ⟨_, _, _, hdefect s i rfl⟩
      · split
        · exact hwritten _ _ (hdefect s i rfl)
        · exact ⟨_, _, _, hdefect _ _ (hdefect s i rfl)⟩

/-- A first read-back that differs leaves the slot free of records and defective; with a second one no record is written. -/
theorem acceptInto_defect (hpick : s.pickSlot n = some k) {bad : Nat} (hbad : bad ≠ 0) (l : List Nat) :
    (s.acceptInto l n bad).2.slotRec k = none ∧ k ∈ (s.acceptInto l n bad).2.ldg.defective ∧
      (1 < bad → (s.acceptInto l n bad).1 = false ∧ (s.acceptInto l n bad).2.ldg.slots = s.ldg.slots) := by
  have hfree := slotRec_of_slotFree (slotFree_of_pickSlot hpick)
  have hfirst := ldg_defectSlot s k l
  have hempty : (s.defectSlot k l).slotRec k = none := (slotRec_congr (by rw [hfirst]) k).trans hfree
  have hmark : k ∈ (s.defectSlot k l).ldg.defective := by simp [hfirst]
  unfold State.acceptInto
  simp only [hpick, hbad, false_and, if_false]
  split
  · exact ⟨hempty, hmark, fun _ => ⟨rfl, by rw [hfirst]⟩⟩
  next j hnext =>
    have hother : j ≠ k := fun heq => by
      have hsound := slotFree_of_pickSlot hnext
      simp [State.slotFree, heq, hmark] at hsound
    split
    next hone =>
      obtain ⟨b, hwrite⟩ := ldg_writeSlot (s.defectSlot k l) j l
      exact ⟨(slotRec_put_ne (by rw [hwrite]) hother).trans hempty, by rw [hwrite]; exact hmark, fun htwo => by omega⟩
    next =>
      have hsecond := ldg_defectSlot (s.defectSlot k l) j l
      exact ⟨(slotRec_congr (by rw [hsecond]) k).trans hempty, by rw [hsecond]; exact List.mem_cons_of_mem j hmark,
        fun _ => ⟨rfl, by rw [hsecond, hfirst]⟩⟩

/-! ### Tallies and commits (R253, R259 to R261) -/

theorem ldg_applyTally (s : State) (n v g : Nat) : ∃ ts, (s.applyTally n v g).ldg = { s.ldg with tallies := ts } := by
  unfold State.applyTally
  dsimp only
  split
  · exact ⟨_, by rw [ldg_ldgEvt, ldg_setLdg, ldg_mramPut, ldg_mramPut]⟩
  · exact ⟨_, by rw [ldg_setLdg, ldg_mramPut, ldg_mramPut]⟩

theorem ldg_applyTallies (s : State) (ks : List Nat) (l : List Nat) (g : Nat) :
    ∃ ts, (s.applyTallies ks l g).ldg = { s.ldg with tallies := ts } := by
  refine List.foldlRecOn (motive := fun u : State => ∃ ts, u.ldg = { s.ldg with tallies := ts }) ks _ ⟨s.ldg.tallies, rfl⟩
    fun u hu k _ => ?_
  obtain ⟨ts, hts⟩ := hu
  split
  · exact ⟨ts, hts⟩
  next inc _ =>
    obtain ⟨ts', happ⟩ := ldg_applyTally u k inc g
    exact ⟨ts', by rw [happ, hts]⟩

/-- The header word of a committed record: the low half of the old one, with SAT where a tally saturates, under the GSEQ. -/
def commitWord (w : Nat) (sat : Bool) (g : Nat) : Nat := (if sat && !w.testBit 13 then w + 2 ^ 13 else w) + g * 65536

theorem recGseq_commitWord {w : Nat} (hw : w < 65536) (sat : Bool) (g : Nat) (l : List Nat) :
    recGseq (commitWord w sat g :: l) = g := by
  have hlow : (if sat && !w.testBit 13 then w + 2 ^ 13 else w) < 65536 := by
    split
    next hsat =>
      have hclear : w.testBit 13 = false := by
        rw [Bool.and_eq_true, Bool.not_eq_true'] at hsat
        exact hsat.2
      rw [Nat.testBit_eq_decide_div_mod_eq, decide_eq_false_iff_not] at hclear
      omega
    next => exact hw
  show commitWord w sat g / 65536 = g
  unfold commitWord
  omega

/-- A commit writes the GSEQ into the header, and leaves the rest of the record. -/
theorem ldg_commitSlot (h : s.slotRec i = some l) (g : Nat) : ∃ m ts, recGseq m = g ∧ m.drop 1 = l.drop 1 ∧
    (s.commitSlot i g).ldg = { s.ldg with
      slots := smPut s.ldg.slots i m, tallies := ts, nv := { s.ldg.nv with gseq := max s.ldg.nv.gseq g } } := by
  let sat := (List.range 64).any (fun t => s.tallyFull t l)
  obtain ⟨ts, htallies⟩ := ldg_applyTallies (s.setHeader i (commitWord (wd l 0 % 65536) sat g)) (List.range 64) l g
  rw [ldg_setHeader h] at htallies
  have hlow : wd l 0 % 65536 < 65536 := Nat.mod_lt _ (by decide)
  refine ⟨_, ts, recGseq_commitWord hlow sat g (l.drop 1), rfl, ?_⟩
  unfold State.commitSlot
  rw [h]
  show (State.setNv _ _).ldg = _
  rw [ldg_setNv]
  exact congrArg (fun x : LdgSt => { x with nv := { x.nv with gseq := max x.nv.gseq g } }) htallies

/-- The words behind the header name the record. -/
theorem recName_of_drop {m l : List Nat} (h : m.drop 1 = l.drop 1) : recOrigin m = recOrigin l ∧ recOseq m = recOseq l := by
  have hword : wd m 1 = wd l 1 := by
    have hget := congrArg (fun x : List Nat => x.getD 0 0) h
    simpa [wd, List.getD_eq_getElem?_getD] using hget
  exact ⟨congrArg (· % 64) hword, congrArg (· / 65536) hword⟩

end Sys2Proof.Machine
end

section
/-! The Ledger's acceptances (spec/09 R244, R246 to R251): a write to LDG_PUT, and the service of its queue. -/

namespace Sys2Proof.Machine

variable {s t u : State} {i : Initiator} {v : Word} {a k n : Nat} {l : List Nat} {p : LdgPut}

/-! ### The cores' views and the registers below them (R246) -/

/-- The registers that are no core's own view. -/
abbrev lowReg (a : Nat) : Prop := a < 0x100000000

theorem not_lowReg_view (n a : Nat) : ¬ lowReg (viewKey n a) := by unfold viewKey lowReg; omega
theorem not_lowReg_view_high (n a : Nat) : ¬ lowReg (viewKey n a + 4) := by unfold viewKey lowReg; omega

theorem WritesOnly.ldgEvt {w : Nat → Prop} (h : WritesOnly w s u) (hevt : w LDG_EVT) (hpend : w (ECX_PEND ((160 + k) / 32))) :
    WritesOnly w s (u.ldgEvt k) := h.event hevt hpend k

theorem lowReg_putPend (hn : n < 64) : lowReg (ECX_PEND ((160 + (1 + n)) / 32)) := by unfold lowReg ECX_PEND; omega

theorem code_lt (i : Initiator) : i.code < 64 := by cases i <;> decide

/-! ### LDG_PUT (R247) -/

/-- The acceptance that a write of `v` to LDG_PUT by core `n` asks for. -/
def State.putAsked (s : State) (n : Nat) (v : Word) : LdgPut :=
  { src := n, type := fieldOf v 0 8, chk := bitOf v 8, payload := (List.range 6).map (fun w => s.rg (viewKey n (LDG_STG w)))
    pcrc := s.rg (viewKey n LDG_PCRC), down := s.ldgState == 3 || s.bit PWR_STAT 4 }

theorem writeLdgPut_queues (hidle : s.bit (viewKey n LDG_PUTST) 31 = false) (hrun : 2 ≤ s.ldgState) (hopen : s.bit LDG_RESTR 0 = false)
    (htype : putType (fieldOf v 0 8) = true) : s.writeLdgPut n v =
      (s.setLdg { s.ldg with queue := s.ldg.queue ++ [s.putAsked n v] }).setBit (viewKey n LDG_PUTST) 31 true := by
  have hjudged : (s.bit (pcKey n LDG_PUTST) 31 || decide (s.ldgState ≤ L_STOPPED) || s.bit LDG_RESTR 0) = false := by
    simp [pcKey, hidle, hopen, show ¬ s.ldgState ≤ 1 by omega]
  simp only [State.writeLdgPut, hjudged, htype, Bool.not_true, Bool.false_eq_true, if_false]
  rfl

/-- The state in which core `n`'s write to LDG_PUT has been rejected with status `c`. -/
def State.putRejected (s : State) (n c : Nat) : State :=
  ((((s.setFld (viewKey n LDG_PUTST) 0 4 c).setRg64 (viewKey n LDG_PUTSEQ_LO) 0).count LDG_REJECT 1).ldgEvt 0).ldgEvt (1 + n)

theorem writeLdgPut_state (h : s.bit (viewKey n LDG_PUTST) 31 = true ∨ s.ldgState ≤ 1 ∨ s.bit LDG_RESTR 0 = true) :
    s.writeLdgPut n v = s.putRejected n 2 := by
  have hjudged : (s.bit (pcKey n LDG_PUTST) 31 || decide (s.ldgState ≤ L_STOPPED) || s.bit LDG_RESTR 0) = true := by
    rcases h with h | h | h <;> simp [pcKey, h]
  simp only [State.writeLdgPut, hjudged, if_true]
  rfl

theorem writeLdgPut_arg (hidle : s.bit (viewKey n LDG_PUTST) 31 = false) (hrun : 2 ≤ s.ldgState) (hopen : s.bit LDG_RESTR 0 = false)
    (htype : putType (fieldOf v 0 8) = false) : s.writeLdgPut n v = s.putRejected n 3 := by
  have hjudged : (s.bit (pcKey n LDG_PUTST) 31 || decide (s.ldgState ≤ L_STOPPED) || s.bit LDG_RESTR 0) = false := by
    simp [pcKey, hidle, hopen, show ¬ s.ldgState ≤ 1 by omega]
  simp only [State.writeLdgPut, hjudged, htype, Bool.not_false, Bool.false_eq_true, if_false, if_true]
  rfl

theorem putst_ne_putseq (n : Nat) : viewKey n LDG_PUTST ≠ viewKey n LDG_PUTSEQ_LO ∧
    viewKey n LDG_PUTST ≠ viewKey n LDG_PUTSEQ_LO + 4 := by
  unfold viewKey LDG_PUTST LDG_PUTSEQ_LO
  omega

/-- A rejection posts its status and sequence number 0, and keeps the Ledger and memory. -/
theorem putRejected_spec (s : State) (hn : n < 64) {c : Nat} (hc : c < 16) : (s.putRejected n c).fld (viewKey n LDG_PUTST) 0 4 = c ∧
    (s.putRejected n c).rg64 (viewKey n LDG_PUTSEQ_LO) = 0 ∧ (s.putRejected n c).ldg = s.ldg ∧ (s.putRejected n c).mem = s.mem := by
  let posted := (s.setFld (viewKey n LDG_PUTST) 0 4 c).setRg64 (viewKey n LDG_PUTSEQ_LO) 0
  have hlow : WritesOnly lowReg posted (s.putRejected n c) :=
    (((WritesOnly.refl lowReg posted).count (by decide : lowReg LDG_REJECT) 1).ldgEvt (by decide) (by decide)).ldgEvt (by decide)
      (lowReg_putPend hn)
  obtain ⟨hseq, hseq'⟩ := putst_ne_putseq n
  refine ⟨?_, ?_, ?_, by rw [hlow.mem, State.setRg64_mem, State.setFld_mem]⟩
  · rw [hlow.fld (not_lowReg_view _ _), fld_congr (rg_setRg64_ne 0 hseq hseq'), fld_setFld_same _ _ _ _ _ (by decide)]
    exact Nat.mod_eq_of_lt hc
  · rw [hlow.rg64 (not_lowReg_view _ _) (not_lowReg_view_high _ _), rg64_setRg64, Nat.zero_mod]
  · rw [State.putRejected, ldg_ldgEvt, ldg_ldgEvt, State.count_ldg, State.setRg64_ldg, State.setFld_ldg]

/-! ### A queued acceptance is served (R244, R247 to R251) -/

/-- The state in which the front of the queue has been taken from it. -/
def State.dequeued (s : State) (q : List LdgPut) : State := s.setLdg { s.ldg with queue := q }

theorem ldgAcceptance_serves {q : List LdgPut} (hq : s.ldg.queue = p :: q) (pick : Fin 16384) (bad : Fin 3) :
    exec (.ldgAcceptance pick bad) s = .next ((s.dequeued q).servePut p pick.val bad.val) := by
  show execLdgAcceptance pick bad s = _
  unfold execLdgAcceptance
  rw [hq]
  rfl

theorem ldgAcceptance_idle (hq : s.ldg.queue = []) (pick : Fin 16384) (bad : Fin 3) : exec (.ldgAcceptance pick bad) s = .next s := by
  show execLdgAcceptance pick bad s = _
  unfold execLdgAcceptance
  rw [hq]
  rfl

theorem ldg_postPut (s : State) (n code q : Nat) : (s.postPut n code q).ldg = s.ldg := by
  let posted := (s.setRg (viewKey n LDG_PUTST) (w32 code)).setRg64 (viewKey n LDG_PUTSEQ_LO) (if code = 0 then q else 0)
  have hposted : posted.ldg = s.ldg := by rw [State.setRg64_ldg, State.setRg_ldg]
  have hcount : (if code = 0 then posted else posted.count LDG_REFCNT 1).ldg = s.ldg := by
    split
    · exact hposted
    · rw [State.count_ldg, hposted]
  unfold State.postPut
  dsimp only
  rw [ldg_ldgEvt]
  split
  · rw [ldg_ldgEvt]
    exact hcount
  · exact hcount

/-- A posted result: its status, and the OSEQ of an accepted record. -/
theorem postPut_spec (s : State) (hn : n < 64) (code q : Nat) :
    (s.postPut n code q).rg (viewKey n LDG_PUTST) = w32 code ∧
      (s.postPut n code q).rg64 (viewKey n LDG_PUTSEQ_LO) = (if code = 0 then q else 0) % 2 ^ 64 ∧ (s.postPut n code q).mem = s.mem := by
  let posted := (s.setRg (viewKey n LDG_PUTST) (w32 code)).setRg64 (viewKey n LDG_PUTSEQ_LO) (if code = 0 then q else 0)
  have hcounted : ∀ x : State, WritesOnly lowReg posted x →
      WritesOnly lowReg posted ((if code = 6 then x.ldgEvt 11 else x).ldgEvt (1 + n)) := fun x hx =>
    (WritesOnly.ite (hx.ldgEvt (by decide) (by decide)) hx).ldgEvt (by decide) (lowReg_putPend hn)
  have hlow : WritesOnly lowReg posted (s.postPut n code q) :=
    hcounted _ (.ite (.refl _ _) ((WritesOnly.refl lowReg posted).count (by decide : lowReg LDG_REFCNT) 1))
  obtain ⟨hseq, hseq'⟩ := putst_ne_putseq n
  refine ⟨?_, ?_, by rw [hlow.mem, State.setRg64_mem, State.setRg_mem]⟩
  · rw [hlow.rg _ (not_lowReg_view _ _), rg_setRg64_ne _ hseq hseq', rg_setRg_same]
  · rw [hlow.rg64 (not_lowReg_view _ _) (not_lowReg_view_high _ _), rg64_setRg64]

/-- The staged payload passes the check that CHK asks for (R247). -/
def LdgPut.crcGood (p : LdgPut) : Prop := p.chk = true → p.pcrc.toNat =
  crc32 (bytesLe 8 (wd (payOf p.payload) 0) ++ bytesLe 8 (wd (payOf p.payload) 1) ++ bytesLe 8 (wd (payOf p.payload) 2))

/-- A slot may take a record of LDG_PUT. -/
def State.putRoom (s : State) : Prop := s.ldgUsed < (s.rg LDG_HWM).toNat ∧ s.anyFree = true

theorem servePut_down (h : p.down = true) (n bad : Nat) : s.servePut p n bad = s.postPut p.src 4 0 := by
  simp [State.servePut, h]

theorem servePut_full (hup : p.down = false) (h : (s.rg LDG_HWM).toNat ≤ s.ldgUsed ∨ s.anyFree = false) (n bad : Nat) :
    s.servePut p n bad = s.postPut p.src 1 0 := by
  have hfull : (decide ((s.rg LDG_HWM).toNat ≤ s.ldgUsed) || !s.anyFree) = true := by rcases h with h | h <;> simp [h]
  simp only [State.servePut, hup, hfull, Bool.false_eq_true, if_false, if_true]

theorem putRoom_guard (h : s.putRoom) : (decide ((s.rg LDG_HWM).toNat ≤ s.ldgUsed) || !s.anyFree) = false := by
  simp [h.2, Nat.not_le.mpr h.1]

theorem servePut_seqmax (hup : p.down = false) (hroom : s.putRoom) (h : s.oseqBase = 0xFFFFFFFFFFFF) (n bad : Nat) :
    s.servePut p n bad = s.postPut p.src 6 0 := by
  simp only [State.servePut, hup, putRoom_guard hroom, Bool.false_eq_true, if_false, if_pos (show s.oseqBase = seqMax from h)]

theorem servePut_badCrc (hup : p.down = false) (hroom : s.putRoom) (hseq : s.oseqBase ≠ 0xFFFFFFFFFFFF) (h : ¬ p.crcGood) (n bad : Nat) :
    s.servePut p n bad = s.postPut p.src 5 0 := by
  obtain ⟨hchk, hcrc⟩ := Classical.not_imp.mp h
  simp only [State.servePut, hup, putRoom_guard hroom, Bool.false_eq_true, if_false, if_neg (show ¬ s.oseqBase = seqMax from hseq),
    hchk, Bool.true_and, bne_iff_ne, ne_eq, hcrc, not_false_eq_true, if_true]

/-- What becomes of an acceptance by core `n` under OSEQ `q` whose record's write answers as given. -/
def State.putAnswered (n q : Nat) : Bool × State → State
  | (true, t) => (t.setNv { t.ldg.nv with fresh := false }).postPut n 0 q
  | (false, t) => t.postPut n 5 0

theorem servePut_writes (hup : p.down = false) (hroom : s.putRoom) (hseq : s.oseqBase ≠ 0xFFFFFFFFFFFF) (h : p.crcGood) (n bad : Nat) :
    s.servePut p n bad = State.putAnswered p.src (s.oseqBase + 1)
      (s.acceptInto (s.makeRecord p.type false none (s.oseqBase + 1) (payOf p.payload)) n bad) := by
  have hgood : (p.chk && p.pcrc.toNat != crc32 (bytesLe 8 (wd (payOf p.payload) 0) ++ bytesLe 8 (wd (payOf p.payload) 1) ++
      bytesLe 8 (wd (payOf p.payload) 2))) = false := by
    cases hchk : p.chk with
    | false => rfl
    | true => simp [h hchk]
  simp only [State.servePut, hup, putRoom_guard hroom, Bool.false_eq_true, if_false, if_neg (show ¬ s.oseqBase = seqMax from hseq), hgood]
  generalize s.acceptInto _ n bad = r
  obtain ⟨b, x⟩ := r
  cases b <;> rfl

theorem pickSlot_dequeued (s : State) (q : List LdgPut) (n : Nat) : (s.dequeued q).pickSlot n = s.pickSlot n :=
  pickSlot_congr (s := s) (t := s.dequeued q) rfl rfl n

/-- A refusal writes no record. -/
theorem ldgAcceptance_refuses {q : List LdgPut} (hq : s.ldg.queue = p :: q) (hsrc : p.src < 64) {code : Nat} (hcode : code ≠ 0)
    (pick : Fin 16384) (h : (s.dequeued q).servePut p pick.val 0 = (s.dequeued q).postPut p.src code 0) :
    Ends (.ldgAcceptance pick 0) s (fun u => u.rg (viewKey p.src LDG_PUTST) = BitVec.ofNat 32 code ∧
      u.rg64 (viewKey p.src LDG_PUTSEQ_LO) = 0 ∧ u.ldg.queue = q ∧ u.ldg.slots = s.ldg.slots ∧ u.mem = s.mem) := by
  obtain ⟨hst, hseq, hmem⟩ := postPut_spec (s.dequeued q) hsrc code 0
  refine ⟨_, (ldgAcceptance_serves hq pick 0).trans (congrArg Host.Outcome.next h), hst, ?_, by rw [ldg_postPut]; rfl, by rw [ldg_postPut]; rfl, hmem⟩
  rw [hseq, if_neg hcode, Nat.zero_mod]

theorem ldgAcceptance_accepts {q : List LdgPut} (hq : s.ldg.queue = p :: q) (hsrc : p.src < 64) (pick : Fin 16384)
    (hup : p.down = false) (hroom : s.putRoom) (hseq : s.oseqBase < 0xFFFFFFFFFFFF) (hcrc : p.crcGood)
    (hpick : s.pickSlot pick.val = some k) (hweak : k ∉ s.ldg.weak) : Ends (.ldgAcceptance pick 0) s (fun u =>
      u.rg (viewKey p.src LDG_PUTST) = 0 ∧ u.ldg.queue = q ∧ u.rg64 (viewKey p.src LDG_PUTSEQ_LO) = s.oseqBase + 1 ∧
      u.slotRec k = some (s.makeRecord p.type false none (s.oseqBase + 1) (payOf p.payload))) := by
  let l := (s.dequeued q).makeRecord p.type false none ((s.dequeued q).oseqBase + 1) (payOf p.payload)
  let x := (s.dequeued q).writeSlot k l
  obtain ⟨b, hwrite⟩ : ∃ b, x.ldg = _ := ldg_writeSlot (s.dequeued q) k l
  have hserve : (s.dequeued q).servePut p pick.val 0 =
      (x.setNv { x.ldg.nv with fresh := false }).postPut p.src 0 (s.oseqBase + 1) := by
    rw [servePut_writes (s := s.dequeued q) hup hroom hseq.ne hcrc,
      acceptInto_sound ((pickSlot_dequeued s q _).trans hpick) hweak]
    rfl
  obtain ⟨hst, hput, -⟩ := postPut_spec (x.setNv { x.ldg.nv with fresh := false }) hsrc 0 (s.oseqBase + 1)
  refine ⟨_, (ldgAcceptance_serves hq pick 0).trans (congrArg Host.Outcome.next hserve), hst, ?_, ?_, ?_⟩
  · rw [ldg_postPut, ldg_setNv, hwrite]
    rfl
  · refine hput.trans ?_
    rw [if_pos rfl]
    omega
  · refine slotRec_put (s := s) ?_
    rw [ldg_postPut, ldg_setNv, hwrite]
    rfl

theorem ldgAcceptance_defect {q : List LdgPut} (hq : s.ldg.queue = p :: q) (hsrc : p.src < 64) (pick : Fin 16384) {bad : Fin 3}
    (hbad : bad ≠ 0) (hup : p.down = false) (hroom : s.putRoom) (hseq : s.oseqBase < 0xFFFFFFFFFFFF) (hcrc : p.crcGood)
    (hpick : s.pickSlot pick.val = some k) : Ends (.ldgAcceptance pick bad) s (fun u => u.ldg.queue = q ∧ u.slotRec k = none ∧
      k ∈ u.ldg.defective ∧ (bad = 2 → u.rg (viewKey p.src LDG_PUTST) = 5 ∧ u.ldg.slots = s.ldg.slots)) := by
  have hserve := servePut_writes (s := s.dequeued q) hup hroom hseq.ne hcrc pick.val bad.val
  have hdefect := acceptInto_defect (s := s.dequeued q) ((pickSlot_dequeued s q _).trans hpick) (bad := bad.val) (by omega)
    ((s.dequeued q).makeRecord p.type false none ((s.dequeued q).oseqBase + 1) (payOf p.payload))
  obtain ⟨sl, ds, b, hkeep⟩ := ldg_acceptInto (s.dequeued q)
    ((s.dequeued q).makeRecord p.type false none ((s.dequeued q).oseqBase + 1) (payOf p.payload)) pick.val bad.val
  revert hserve hdefect hkeep
  generalize (s.dequeued q).acceptInto _ _ _ = r
  intro hserve ⟨hempty, hmark, htwo⟩ hkeep
  obtain ⟨b, x⟩ := r
  have hanswered : (State.putAnswered p.src (s.oseqBase + 1) (b, x)).ldg.slots = x.ldg.slots ∧
      (State.putAnswered p.src (s.oseqBase + 1) (b, x)).ldg.queue = x.ldg.queue ∧
      (State.putAnswered p.src (s.oseqBase + 1) (b, x)).ldg.defective = x.ldg.defective := by
    cases b <;> rw [State.putAnswered, ldg_postPut] <;> exact ⟨rfl, rfl, rfl⟩
  obtain ⟨hslots, hqueue, hbads⟩ := hanswered
  refine ⟨_, (ldgAcceptance_serves hq pick bad).trans (congrArg Host.Outcome.next hserve), ?_, ?_, ?_, fun h2 => ?_⟩
  · exact hqueue.trans (congrArg LdgSt.queue hkeep)
  · exact (slotRec_congr hslots k).trans hempty
  · exact hbads ▸ hmark
  · obtain ⟨hfail, hsame⟩ := htwo (by omega)
    obtain rfl : b = false := hfail
    exact ⟨(postPut_spec x hsrc 5 0).1, hslots.trans hsame⟩

end Sys2Proof.Machine
end

section
/-! The Ledger's commands, recovery and power fail (spec/09 R245, R256 to R270), and the statement LedgerCommands. -/

namespace Sys2Proof.Machine

variable {s t u : State} {i : Initiator} {v : Word} {a k n : Nat} {l : List Nat} {p : LdgPut}

/-! ### Errors found in MRAM (R194) -/

/-- Errors that the Ledger finds as it reads MRAM are counted, captured and raised. -/
theorem mramSeen_keeps {α : Type} (f : State → α) (hcount : ∀ (t : State) c a b d, f (t.eccCount c a b d) = f t)
    (s : State) (inside : Nat → Bool) : f (s.mramSeen inside) = f s.mramSettle := by
  refine List.foldlRecOn (motive := fun u => f u = f s.mramSettle) _ _ rfl fun u hu e _ => ?_
  refine Eq.trans ?_ hu
  rw [mramRegion]
  split
  · exact hcount u 2 e.1 false _
  · exact hcount u 3 e.1 false _

theorem eccCount_keeps (s : State) (c a : Nat) (b d : Bool) :
    (s.eccCount c a b d).ldg = s.ldg ∧ (s.eccCount c a b d).ms = s.ms := by
  unfold State.eccCount
  dsimp only
  split <;> split <;> simp

theorem ldg_mramSeen (s : State) (inside : Nat → Bool) : (s.mramSeen inside).ldg = s.ldg :=
  mramSeen_keeps State.ldg (fun t c a b d => (eccCount_keeps t c a b d).1) s inside

theorem mem_mramSeen (s : State) (inside : Nat → Bool) : (s.mramSeen inside).mem = s.mem :=
  mramSeen_keeps State.mem mem_eccCount s inside

theorem eccAt_mramSeen (s : State) (inside : Nat → Bool) (w : Nat) : (s.mramSeen inside).eccAt w = s.eccAt w :=
  mramSeen_keeps (fun t => t.eccAt w) (fun t c a b d => eccAt_congr (eccCount_keeps t c a b d).2 w) s inside

theorem mramWord_congr (hecc : t.eccAt a = s.eccAt a) (hmem : t.mem = s.mem) : t.mramWord a = s.mramWord a := by
  rw [State.mramWord, State.mramWord, hecc, peek_congr hmem]

theorem mramWord_mramSeen (s : State) (inside : Nat → Bool) (a : Nat) : (s.mramSeen inside).mramWord a = s.mramWord a :=
  mramWord_congr (eccAt_mramSeen s inside a) (mem_mramSeen s inside)

theorem mramWord_readable (h : s.eccAt a ≠ some .uncorrectable) : s.mramWord a = some (s.peek a 8) := if_neg h

/-! ### Registers of the command port -/

theorem rg_accept_ldg (s : State) {a : Nat} (h : a ≠ LDG_CMDST) : (s.accept ldgPort).rg a = s.rg a := rg_accept_ne s ldgPort h

theorem rg_ldgEvt_ne (s : State) (k : Nat) {a : Nat} (hevt : a ≠ LDG_EVT) (hpend : a ≠ ECX_PEND ((160 + k) / 32)) :
    (s.ldgEvt k).rg a = s.rg a := rg_event_ne s _ _ _ hpend hevt

/-- STATE and bit 8 of LDG_STAT as START and the end of a power fail leave them. -/
theorem ldgState_running (s : State) : ((s.setFld LDG_STAT 0 3 L_RUN).setBit LDG_STAT 8 false).ldgState = 2 ∧
    ((s.setFld LDG_STAT 0 3 L_RUN).setBit LDG_STAT 8 false).bit LDG_STAT 8 = false := by
  refine ⟨?_, bit_setBit_same _ _ _ _ (by decide)⟩
  rw [State.ldgState, fld_setBit_other _ _ _ _ (by decide) (by decide), fld_setFld_same _ _ _ _ _ (by decide)]
  rfl

/-! ### START (R261, R269) -/

theorem storedTally_congr (hecc : ∀ w, t.eccAt w = s.eccAt w) (hmem : t.mem = s.mem) (n : Nat) : t.storedTally n = s.storedTally n := by
  unfold State.storedTally
  simp only [hecc, peek_congr hmem]

theorem smGet_foldl_smSet_keys {α : Type} [DecidableEq α] (d f : Nat → α) (ks : List Nat) (m : List (Nat × α)) (j : Nat) :
    smGet d (ks.foldl (fun x k => smSet d x k (f k)) m) j = if j ∈ ks then f j else smGet d m j := by
  induction ks generalizing m with
  | nil => rfl
  | cons k ks ih =>
    rw [List.foldl_cons, ih, smGet_smSet]
    by_cases hj : j ∈ ks
    · simp [hj]
    · by_cases hk : j = k <;> simp [hj, hk]

theorem committedAbove_congr (h : t.ldg.slots = s.ldg.slots) (g : Nat) : t.committedAbove g = s.committedAbove g := by
  rw [State.committedAbove, State.committedAbove, h]

/-- Where no record is committed, START takes the stored tallies as they are. -/
theorem completeTallies_stored (h : s.committedAbove 0 = []) : ∃ ts, s.completeTallies.ldg = { s.ldg with tallies := ts } ∧
    ∀ n, n < 64 → s.completeTallies.tally n = s.storedTally n := by
  let seen := s.mramSeen (fun a => decide (0x181E0000 ≤ a ∧ a ≤ 0x181E3FFF))
  have hldg : seen.ldg = s.ldg := ldg_mramSeen s _
  let ts := (List.range 64).foldl (fun m t => smSet (fun _ => Tally.zero) m t (seen.storedTally t)) []
  have hnone : (seen.setLdg { seen.ldg with tallies := ts }).committedAbove 0 = [] :=
    (committedAbove_congr (s := s) (congrArg LdgSt.slots hldg) 0).trans h
  have hall : s.completeTallies = seen.setLdg { seen.ldg with tallies := ts } := by
    show List.foldl _ (seen.setLdg { seen.ldg with tallies := ts }) ((seen.setLdg { seen.ldg with tallies := ts }).committedAbove 0) = _
    rw [hnone]
    rfl
  refine ⟨ts, by rw [hall, ldg_setLdg, hldg], fun n hn => ?_⟩
  rw [hall, State.tally, ldg_setLdg]
  refine (smGet_foldl_smSet_keys _ _ _ _ _).trans ?_
  rw [if_pos (List.mem_range.mpr hn)]
  exact storedTally_congr (eccAt_mramSeen s _) (mem_mramSeen s _) n

/-- What START does before it enters RUN. -/
def State.startPrepared (s : State) : State :=
  if s.completeTallies.ldg.lastReset = 1 ∨ s.completeTallies.ldg.lastReset = 2 then s.completeTallies.restartRecords
  else s.completeTallies

theorem ldgStart_runs (hst : s.ldgState = 1) :
    s.ldgStart = ((s.accept ldgPort).startPrepared.setFld LDG_STAT 0 3 L_RUN).setBit LDG_STAT 8 false :=
  command_accepted _ rfl (by simp [hst]) rfl

theorem ldgStart_spec (hst : s.ldgState = 1) : s.ldgStart.ldgState = 2 ∧ s.ldgStart.bit LDG_STAT 8 = false ∧
    (s.ldg.lastReset ≠ 1 → s.ldg.lastReset ≠ 2 → s.committedAbove 0 = [] → ∀ n, n < 64 → s.ldgStart.tally n = s.storedTally n) := by
  rw [ldgStart_runs hst]
  obtain ⟨hrun, hquiet⟩ := ldgState_running (s.accept ldgPort).startPrepared
  refine ⟨hrun, hquiet, fun h1 h2 hnone n hn => ?_⟩
  have hldg : (s.accept ldgPort).ldg = s.ldg := State.accept_ldg s ldgPort
  obtain ⟨ts, hkeep, htally⟩ := completeTallies_stored
    ((committedAbove_congr (s := s) (t := s.accept ldgPort) (congrArg LdgSt.slots hldg) 0).trans hnone)
  have hprep : (s.accept ldgPort).startPrepared = (s.accept ldgPort).completeTallies := by
    refine if_neg ?_
    rw [hkeep, hldg]
    exact not_or.mpr ⟨h1, h2⟩
  rw [hprep, State.tally, State.setBit_ldg, State.setFld_ldg]
  exact (htally n hn).trans (storedTally_congr (fun _ => rfl) rfl n)

/-! ### RELEASE (R256) -/

/-- A release above the present cursor frees the committed records up to it. -/
theorem releaseTo_frees {g : Nat} (h : s.ldg.nv.rel < g) (hnodup : (s.ldg.slots.map (fun e => e.1)).Nodup) :
    (s.releaseTo g).ldg.nv.rel = g ∧
      ∀ e, e ∈ (s.releaseTo g).ldg.slots ↔ e ∈ s.ldg.slots ∧ ¬(0 < recGseq e.2 ∧ recGseq e.2 ≤ g) := by
  obtain ⟨b, hfreed⟩ := ldg_foldl_freeSlot
    ((s.ldg.slots.filter (fun e => decide (0 < recGseq e.2 ∧ recGseq e.2 ≤ g))).map (fun e => e.1)) (s.setNv { s.ldg.nv with rel := g })
  rw [State.releaseTo, if_neg (Nat.not_le.mpr h)]
  refine ⟨by rw [hfreed]; rfl, fun e => ?_⟩
  rw [hfreed]
  refine (mem_foldl_smErase_filter hnodup _).trans ?_
  rw [decide_eq_true_iff]

theorem ldgRelease_frees (hrole : s.ldgRole = 1) (hmax : s.rg64 LDG_REL_LO ≤ s.ldg.nv.gseq) :
    s.ldgRelease = (s.accept ldgPort).releaseTo (s.rg64 LDG_REL_LO) :=
  command_accepted (fun t => t.releaseTo (s.rg64 LDG_REL_LO)) rfl (by simp [hrole]) (by simpa using hmax)

theorem ldgRelease_follower (hrole : s.ldgRole ≠ 1) : s.ldgRelease = s.reject ldgPort ST_STATE :=
  command_rejected_state (fun t => t.releaseTo (s.rg64 LDG_REL_LO)) (by simp [hrole])

theorem ldgRelease_beyond (hrole : s.ldgRole = 1) (hmax : s.ldg.nv.gseq < s.rg64 LDG_REL_LO) :
    s.ldgRelease = s.reject ldgPort ST_ARG :=
  command_rejected_arg (fun t => t.releaseTo (s.rg64 LDG_REL_LO)) (by simp [hrole]) (by simpa using hmax)

/-! ### SNAP (R262) -/

/-- The words that hold the tallies of a snapshot. -/
def State.snapTallies (s : State) (f : Nat → Nat) (n : Nat) : State :=
  (List.range n).foldl (fun u k => u.setRg64 (LDG_TALLY_LO k) (f k)) s

theorem snapTallies_succ (s : State) (f : Nat → Nat) (n : Nat) :
    s.snapTallies f (n + 1) = (s.snapTallies f n).setRg64 (LDG_TALLY_LO n) (f n) := by
  rw [State.snapTallies, List.range_succ, List.foldl_append]
  rfl

theorem rg64_snapTallies (s : State) (f : Nat → Nat) {n k : Nat} (h : k < n) :
    (s.snapTallies f n).rg64 (LDG_TALLY_LO k) = f k % 2 ^ 64 := by
  induction n with
  | zero => cases h
  | succ n ih =>
    rw [snapTallies_succ]
    by_cases heq : k = n
    · rw [heq, rg64_setRg64]
    · have hlt : k < n := by omega
      rw [← ih hlt]
      unfold LDG_TALLY_LO
      exact rg64_congr (rg_setRg64_ne _ (by omega) (by omega)) (rg_setRg64_ne _ (by omega) (by omega))

theorem snapTallies_keeps (s : State) (f : Nat → Nat) (n : Nat) :
    (s.snapTallies f n).ldg = s.ldg ∧ (s.snapTallies f n).mem = s.mem := by
  induction n with
  | zero => exact ⟨rfl, rfl⟩
  | succ n ih => rwa [snapTallies_succ, State.setRg64_ldg, State.setRg64_mem]

theorem ldgSnap_eq (s : State) : s.ldgSnap =
    ((s.accept ldgPort).snapTallies (fun k => (s.tally k).value) 64).setRg64 LDG_SNAPSEQ_LO s.ldg.nv.gseq := rfl

theorem ldgSnap_spec (s : State) (hn : n < 64) : s.ldgSnap.rg64 (LDG_TALLY_LO n) = (s.tally n).value % 2 ^ 64 ∧
    s.ldgSnap.rg64 LDG_SNAPSEQ_LO = s.ldg.nv.gseq % 2 ^ 64 ∧ s.ldgSnap.ldg = s.ldg ∧ s.ldgSnap.mem = s.mem := by
  obtain ⟨hldg, hmem⟩ := snapTallies_keeps (s.accept ldgPort) (fun k => (s.tally k).value) 64
  rw [ldgSnap_eq]
  refine ⟨?_, rg64_setRg64 _ _ _, ?_, ?_⟩
  · rw [← rg64_snapTallies (s.accept ldgPort) (fun k => (s.tally k).value) hn]
    unfold LDG_TALLY_LO LDG_SNAPSEQ_LO
    exact rg64_congr (rg_setRg64_ne _ (by omega) (by omega)) (rg_setRg64_ne _ (by omega) (by omega))
  · rw [State.setRg64_ldg, hldg, State.accept_ldg]
  · rw [State.setRg64_mem, hmem, State.accept_mem]

/-! ### TSCHED, TCANCEL and FORMAT (R257, R258, R263) -/

theorem writesOnly_accept_ldg (s : State) : WritesOnly (· ∈ [LDG_CMDST]) s (s.accept ldgPort) :=
  (WritesOnly.refl (· ∈ [LDG_CMDST]) s).accept (by decide)

theorem ldgTsched_arms (h : (s.ldg.nv.armed.isSome && s.ldg.armedAnn) = false) :
    s.ldgTsched.ldg.nv.armed = some (s.rg64 LDG_TAT_LO, s.fld LDG_TNEW 0 16) ∧ SameRegsBut s s.ldgTsched [LDG_CMDST] ∧
      s.ldgTsched.mem = s.mem := by
  have hacc := writesOnly_accept_ldg s
  have hrun : s.ldgTsched = (s.accept ldgPort).setNv { (s.accept ldgPort).ldg.nv with
      armed := some ((s.accept ldgPort).rg64 LDG_TAT_LO, (s.accept ldgPort).fld LDG_TNEW 0 16) } := command_accepted _ rfl h rfl
  rw [hrun, ldg_setNv, hacc.rg64 (by decide) (by decide), hacc.fld (by decide)]
  exact ⟨rfl, hacc.rg, hacc.mem⟩

theorem ldgTcancel_disarms (h : (s.ldg.nv.armed.isSome && s.ldg.armedAnn) = false) :
    s.ldgTcancel.ldg.nv.armed = none ∧ SameRegsBut s s.ldgTcancel [LDG_CMDST] ∧ s.ldgTcancel.mem = s.mem := by
  have hacc := writesOnly_accept_ldg s
  have hrun : s.ldgTcancel = (s.accept ldgPort).setNv { (s.accept ldgPort).ldg.nv with armed := none } := command_accepted _ rfl h rfl
  rw [hrun, ldg_setNv]
  exact ⟨rfl, hacc.rg, hacc.mem⟩

theorem ldgFormat_spec (hst : s.ldgState = 1) (hused : s.ldgUsed = 0) (n : Nat) : s.ldgFormat.ldg.nv.term = 1 ∧
    s.ldgFormat.ldg.nv.fresh = true ∧ s.ldgFormat.ldg.nv.epoch = s.ldg.nv.epoch ∧ s.ldgFormat.ldg.nv.gseq = 0 ∧
    s.ldgFormat.tally n = Tally.zero ∧ SameRegsBut s s.ldgFormat [LDG_CMDST] := by
  have hrun := command_accepted (s := s) (p := ldgPort) (clash := false) (badState := s.ldgState != L_STOPPED || s.ldgUsed != 0)
    (badArg := false) (fun t =>
      let keys := fun (a : Nat) => decide (0x181E0000 ≤ a ∧ a ≤ 0x181E3FFF)
      let t1 := { t with mem := smDrop keys t.mem, ms := { t.ms with ecc := smDrop keys t.ms.ecc } }
      (t1.setLdg { t1.ldg with tallies := [] }).setNv
        { LdgNv.blank with
          term := 1, fresh := true, epoch := t.ldg.nv.epoch, interval := t.ldg.nv.interval, armed := t.ldg.nv.armed
          recInterval := t.ldg.nv.recInterval, recEpoch := t.ldg.nv.recEpoch
          pfSince := t.ldg.nv.pfSince }) rfl (by simp [hst, hused]) rfl
  rw [State.ldgFormat, hrun]
  exact ⟨rfl, rfl, rfl, rfl, rfl, (writesOnly_accept_ldg s).rg⟩

/-! ### LDG_TDEF (R259) -/

/-- The bits that software writes of LDG_TDEF_A and LDG_TDEF_B. -/
def tdefMask (w : Fin 2) : Word := if w = 0 then 0x87FFBFFF else 0xFF

theorem regAt_tdef (n : Fin 64) (w : Fin 2) : ∃ row, regAt (LDG_TDEF_A n.val + 4 * w.val) = some (row, n.val, 0) ∧
    w32 row.rw = tdefMask w ∧ row.w1c = 0 ∧ row.w1s = 0 := by
  have hrow : (regAt (LDG_TDEF_A n.val + 4 * w.val)).map (fun r => (w32 r.1.rw, r.1.w1c, r.1.w1s, r.2)) =
      some (tdefMask w, 0, 0, n.val, 0) := by decide +revert
  obtain ⟨r, hreg, hr⟩ := Option.map_eq_some_iff.mp hrow
  obtain ⟨row, x, y⟩ := r
  obtain ⟨hrw, hc, hs, hx⟩ : w32 row.rw = tdefMask w ∧ row.w1c = 0 ∧ row.w1s = 0 ∧ (x, y) = (n.val, 0) := by simpa using hr
  exact ⟨row, by rw [hreg, hx], hrw, hc, hs⟩

theorem writeStopped_tdef (hst : s.ldgState = 1) (n : Fin 64) (w : Fin 2) (v : Word) :
    (s.writeStopped (LDG_TDEF_A n.val + 4 * w.val) v).rg (LDG_TDEF_A n.val + 4 * w.val) =
        (s.rg (LDG_TDEF_A n.val + 4 * w.val) &&& ~~~(tdefMask w)) ||| (v &&& tdefMask w) ∧
      SameRegsBut s (s.writeStopped (LDG_TDEF_A n.val + 4 * w.val) v) [LDG_TDEF_A n.val + 4 * w.val, LDG_CMDST] ∧
      (s.writeStopped (LDG_TDEF_A n.val + 4 * w.val) v).mem = s.mem := by
  obtain ⟨row, hreg, hrw, hc, hs⟩ := regAt_tdef n w
  have hrun : s.writeStopped (LDG_TDEF_A n.val + 4 * w.val) v =
      (s.accept ldgPort).storeReg (LDG_TDEF_A n.val + 4 * w.val) row v := by
    unfold State.writeStopped
    rw [hreg]
    exact command_accepted (fun t => t.storeReg (LDG_TDEF_A n.val + 4 * w.val) row v) rfl (by simp [hst]) rfl
  have hne : LDG_TDEF_A n.val + 4 * w.val ≠ LDG_CMDST := by unfold LDG_TDEF_A LDG_CMDST; omega
  rw [hrun]
  refine ⟨?_, ?_, (mem_storeReg _ _ _ _).trans (State.accept_mem s ldgPort)⟩
  · rw [rg_storeReg, if_pos rfl, rg_accept_ldg s hne, RegRow.stored, hrw, hc, hs,
      show v &&& w32 0 = 0#32 from BitVec.and_zero, BitVec.not_zero, BitVec.and_allOnes, BitVec.or_zero]
  · exact (((WritesOnly.refl (· ∈ [LDG_TDEF_A n.val + 4 * w.val, LDG_CMDST]) s).accept (p := ldgPort) (by simp [ldgPort])).storeReg
      (by simp) row v).rg

theorem writeStopped_refused (hst : s.ldgState ≠ 1) (a : Nat) (v : Word) : s.writeStopped a v = s.reject ldgPort ST_STATE :=
  command_rejected_state _ (by simp [hst])

/-! ### Recovery (R245) -/

/-- Slot `k`, its copy and its body hold the sound record `l`. -/
structure State.soundSlot (s : State) (k : Nat) (l : List Nat) : Prop where
  words : l = (List.range 8).map (fun n => s.peek (slotAddr k n) 8)
  copy : s.peek (copyAddr k) 8 = wd l 0
  copyReadable : s.eccAt (copyAddr k) ≠ some .uncorrectable
  readable : ∀ n, n < 8 → s.eccAt (slotAddr k n) ≠ some .uncorrectable
  present : recType l ≠ 0
  crc : wd l 4 / 2 ^ 32 = recCrc l

theorem State.soundSlot.word (h : s.soundSlot k l) (hn : n < 8) : s.mramWord (slotAddr k n) = some (wd l n) := by
  rw [mramWord_readable (h.readable n hn)]
  have hword : wd l n = wd ((List.range 8).map (fun n => s.peek (slotAddr k n) 8)) n := congrArg (wd · n) h.words
  rw [hword]
  simp [wd, List.getD_eq_getElem?_getD, hn]

/-- A present body that reads back whole enters the index as it stands. -/
theorem recoverBody_sound (h : s.soundSlot k l) : s.recoverBody k (wd l 0) =
    (s.mramSeen (fun a => decide (slotAddr k 1 ≤ a ∧ a ≤ slotAddr k 7))).setLdg { s.ldg with slots := smPut s.ldg.slots k l } := by
  have hbody : (List.range 7).map (fun j => (s.mramSeen (fun a => decide (slotAddr k 1 ≤ a ∧ a ≤ slotAddr k 7))).mramWord
      (slotAddr k (j + 1))) = (List.range 7).map (fun j => some (wd l (j + 1))) :=
    List.map_congr_left fun j hj => by
      rw [mramWord_mramSeen]
      exact h.word (by have hlt := List.mem_range.mp hj; omega)
  have hwhole : wd l 0 :: ((List.range 7).map (fun j => some (wd l (j + 1)))).map (fun o => o.getD 0) = l := by
    obtain ⟨hwords, -, -, -, -, -⟩ := h
    rw [hwords]
    rfl
  have hgood : (((List.range 7).map (fun j => some (wd l (j + 1)))).any (fun o => o.isNone) || wd l 4 / 2 ^ 32 != recCrc l) = false := by
    rw [h.crc]
    simp
  unfold State.recoverBody
  simp only [hbody, hwhole, hgood, Bool.false_eq_true, if_false, ldg_mramSeen]

theorem soundSlot_mramSeen (h : s.soundSlot k l) (inside : Nat → Bool) : (s.mramSeen inside).soundSlot k l where
  words := by simp only [peek_congr (mem_mramSeen s inside)]; exact h.words
  copy := by rw [peek_congr (mem_mramSeen s inside)]; exact h.copy
  copyReadable := by rw [eccAt_mramSeen]; exact h.copyReadable
  readable n hn := by rw [eccAt_mramSeen]; exact h.readable n hn
  present := h.present
  crc := h.crc

/-- A sound slot is present, and no word of it is written (R245). -/
theorem recoverSlot_sound (h : s.soundSlot k l) :
    (s.recoverSlot k).ldg = { s.ldg with slots := smPut s.ldg.slots k l } ∧ (s.recoverSlot k).mem = s.mem := by
  let seen := s.mramSeen (fun x => x == slotAddr k 0 || x == copyAddr k)
  have hseen : seen.soundSlot k l := soundSlot_mramSeen h _
  have hcopy : seen.mramWord (copyAddr k) = some (wd l 0) := by
    rw [mramWord_readable hseen.copyReadable, hseen.copy]
  have hrun : s.recoverSlot k = seen.recoverBody k (wd l 0) := by
    unfold State.recoverSlot
    dsimp only
    rw [hseen.word (by decide), hcopy]
    dsimp only
    rw [if_neg (show ¬ wd l 0 % 256 = 0 from h.present), if_pos rfl]
  rw [hrun, recoverBody_sound hseen]
  exact ⟨by rw [ldg_setLdg, ldg_mramSeen], by rw [mem_setLdg, mem_mramSeen, mem_mramSeen]⟩

/-- The state in which every slot has been judged. -/
def State.slotsJudged (s : State) : State :=
  (s.touchedSlots.foldl (fun t i => t.recoverSlot i) (s.setLdg { s.ldg with slots := [] })).mramSettle

/-- The state in which the highest GSEQ and the watermark follow the recovered ring. -/
def State.ringRecovered (s : State) : State :=
  (s.slotsJudged.setNv { s.slotsJudged.ldg.nv with
    gseq := s.slotsJudged.ldg.slots.foldl (fun m e => max m (recGseq e.2)) s.slotsJudged.ldg.nv.gseq }).usedChanged

theorem ldgRecovery_runs (hst : s.ldgState = 0) :
    exec .ldgRecovery s = .next ((s.ringRecovered.setFld LDG_STAT 0 3 L_STOPPED).ldgEvt 16) :=
  congrArg Host.Outcome.next (if_pos hst)

theorem ldgRecovery_idle (hst : s.ldgState ≠ 0) : exec .ldgRecovery s = .next s := congrArg Host.Outcome.next (if_neg hst)

theorem ldgRecovery_stops (hst : s.ldgState = 0) : Ends .ldgRecovery s (fun u => u.ldgState = 1 ∧ u.bit LDG_EVT 16 = true) := by
  refine ⟨_, ldgRecovery_runs hst, ?_, bit_event_self _ _ _ _ (by decide) (by decide)⟩
  rw [State.ldgState, fld_congr (rg_ldgEvt_ne _ _ (by decide) (by decide)), fld_setFld_same _ _ _ _ _ (by decide)]
  rfl

theorem ldgRecovery_sound (hst : s.ldgState = 0) (hone : s.touchedSlots = [k]) (h : s.soundSlot k l) :
    Ends .ldgRecovery s (fun u => u.ldg.slots = [(k, l)] ∧ u.mem = s.mem) := by
  have hempty : (s.setLdg { s.ldg with slots := [] }).soundSlot k l := ⟨h.words, h.copy, h.copyReadable, h.readable, h.present, h.crc⟩
  obtain ⟨hldg, hmem⟩ := recoverSlot_sound hempty
  have hjudged : s.slotsJudged = ((s.setLdg { s.ldg with slots := [] }).recoverSlot k).mramSettle := by
    rw [State.slotsJudged, hone]
    rfl
  refine ⟨_, ldgRecovery_runs hst, ?_, ?_⟩
  · obtain ⟨b, hused⟩ := ldg_usedChanged (s.slotsJudged.setNv { s.slotsJudged.ldg.nv with
      gseq := s.slotsJudged.ldg.slots.foldl (fun m e => max m (recGseq e.2)) s.slotsJudged.ldg.nv.gseq })
    rw [ldg_ldgEvt, State.setFld_ldg, State.ringRecovered, hused, ldg_setNv, hjudged, ldg_mramSettle, hldg]
    rfl
  · rw [mem_ldgEvt, State.setFld_mem, State.ringRecovered, mem_usedChanged]
    show s.slotsJudged.mem = s.mem
    rw [hjudged]
    exact hmem

/-! ### Power fail (R267) -/

theorem queue_acceptInto (s : State) (l : List Nat) (n bad : Nat) : (s.acceptInto l n bad).2.ldg.queue = s.ldg.queue := by
  obtain ⟨_, _, _, hkeep⟩ := ldg_acceptInto s l n bad
  rw [hkeep]

theorem queue_servePut (s : State) (p : LdgPut) (n bad : Nat) : (s.servePut p n bad).ldg.queue = s.ldg.queue := by
  have hposted : ∀ c, (s.postPut p.src c 0).ldg.queue = s.ldg.queue := fun c => congrArg LdgSt.queue (ldg_postPut s p.src c 0)
  unfold State.servePut
  dsimp only
  split
  · exact hposted 4
  split
  · exact hposted 1
  split
  · exact hposted 6
  split
  · exact hposted 5
  have hqueue := queue_acceptInto s (s.makeRecord p.type false none (s.oseqBase + 1) (payOf p.payload)) n bad
  split
  next t ht =>
    rw [ht] at hqueue
    rw [ldg_postPut]
    exact hqueue
  next t ht =>
    rw [ht] at hqueue
    rw [ldg_postPut]
    exact hqueue

/-- Every queued acceptance is served. -/
theorem queue_serveAll {q : List LdgPut} (hq : s.ldg.queue = q) : (s.serveAll q).ldg.queue = [] := by
  induction q generalizing s with
  | nil => exact hq
  | cons p q ih => exact ih (queue_servePut _ p _ 0)

theorem queue_ownRecord (s : State) (type : Nat) (late : Bool) (time : Option Nat) (pay : List Nat) :
    (s.ownRecord type late time pay).2.ldg.queue = s.ldg.queue := by
  unfold State.ownRecord
  split
  · rfl
  split
  · exact congrArg LdgSt.queue (ldg_ldgEvt s 11)
  dsimp only
  have hqueue := queue_acceptInto s.draw.2 (s.draw.2.makeRecord type late time (s.draw.2.oseqBase + 1) pay) (s.draw.1 % 16384) 0
  split
  next t ht =>
    rw [ht] at hqueue
    exact hqueue
  next t ht =>
    rw [ht] at hqueue
    exact hqueue

theorem queue_powerFailRecord (s : State) : (s.powerFailRecord 1).ldg.queue = s.ldg.queue := by
  have hown := queue_ownRecord s 0x12 false none (payload4 1 0 s.ldg.nv.gseq s.beatNo)
  unfold State.powerFailRecord
  simp only [if_true]
  split
  · exact hown
  · exact hown

/-- What the Ledger does in a power fail before it is quiet. -/
def State.heldUp (s : State) : State := if s.ldgState = L_DOWN then (s.serveAll s.ldg.queue).powerFailRecord 1 else s

theorem ldgQuiet_runs (hfail : s.bit PWR_STAT 4 = true) (hloud : s.bit LDG_STAT 8 = false) :
    exec .ldgQuiet s = .next ((s.heldUp.setBit LDG_STAT 8 true).ldgEvt 9) :=
  congrArg Host.Outcome.next (if_pos (by rw [hfail, hloud]; rfl))

theorem ldgQuiet_quiets (hfail : s.bit PWR_STAT 4 = true) (hloud : s.bit LDG_STAT 8 = false) : Ends .ldgQuiet s (fun u =>
    u.bit LDG_STAT 8 = true ∧ u.bit LDG_EVT 9 = true ∧ (s.ldgState = 3 → u.ldg.queue = [])) := by
  refine ⟨_, ldgQuiet_runs hfail hloud, ?_, bit_event_self _ _ _ _ (by decide) (by decide), fun hdown => ?_⟩
  · rw [bit_congr (rg_ldgEvt_ne _ _ (by decide) (by decide)), bit_setBit_same _ _ _ _ (by decide)]
  · rw [ldg_ldgEvt, State.setBit_ldg, State.heldUp, if_pos hdown, queue_powerFailRecord]
    exact queue_serveAll rfl

theorem pfwRestore_runs (hdown : s.ldgState = 3) (hgood : s.bit PWR_STAT 4 = false) :
    Ends .pfwRestore s (fun u => u.ldgState = 2 ∧ u.bit LDG_STAT 8 = false) :=
  ⟨_, congrArg Host.Outcome.next (if_pos ⟨hdown, hgood⟩), ldgState_running _⟩

/-! ### The statement -/

/-- Settles O32: each clause is the rule of its command or step above. -/
theorem ledgerCommands : Obligations.LedgerCommands := by
  intro s i v t w pick
  refine ⟨fun hs hidle hrun hopen htype => ends_served hs rfl ?_,
    fun hs h => ends_served hs rfl ?_, fun hs hidle hrun hopen htype => ends_served hs rfl ?_, fun p q hq hsrc => ?_,
    fun hq => ldgAcceptance_idle hq pick 0, fun hs hst => ?_,
    fun hs hst => (exec_served hs rfl).trans (congrArg Host.Outcome.next (command_rejected_state _ (by simp [hst]))),
    fun hs hrole hmax hrel hnodup => ends_served hs rfl ?_, 
    fun hs hrole => (exec_served hs rfl).trans (congrArg Host.Outcome.next (ldgRelease_follower hrole)),
    fun hs hrole hmax => (exec_served hs rfl).trans (congrArg Host.Outcome.next (ldgRelease_beyond hrole hmax)),
    fun hs => ends_served hs rfl (ldgSnap_spec s t.isLt), fun hs h => ends_served hs rfl (ldgTsched_arms h),
    fun hs h => ends_served hs rfl (ldgTcancel_disarms h),
    fun hs h => (exec_served hs rfl).trans (congrArg Host.Outcome.next (command_rejected_state _ h)),
    fun hs hst hused => ends_served hs rfl (ldgFormat_spec hst hused t.val), fun hs h => ?_,
    fun hs hst => ends_served hs rfl (writeStopped_tdef hst t w v),
    fun hs hst => (exec_served hs rfl).trans (congrArg Host.Outcome.next (writeStopped_refused hst _ v)),
    ldgRecovery_stops,
    fun k l hst hone hwords hcopy hcopyEcc hecc hpresent hcrc =>
      ldgRecovery_sound hst hone ⟨hwords, hcopy, hcopyEcc, hecc, hpresent, hcrc⟩,
    ldgRecovery_idle, ldgQuiet_quiets, pfwRestore_runs⟩
  · rw [writeLdgPut_queues hidle hrun hopen htype]
    refine ⟨bit_setBit_same _ _ _ _ (by decide), fun a ha => ?_, ?_, ?_⟩
    · rw [rg_setBit_ne _ _ _ (fun heq => ha (List.mem_singleton.mpr heq))]
      rfl
    · rw [State.setBit_mem, mem_setLdg]
    · rw [State.setBit_ldg, ldg_setLdg]
      rfl
  · rw [writeLdgPut_state h]
    exact putRejected_spec s (code_lt i) (by decide)
  · rw [writeLdgPut_arg hidle hrun hopen htype]
    exact putRejected_spec s (code_lt i) (by decide)
  · have hlt : p.src < 64 := by omega
    refine ⟨fun hdown => ldgAcceptance_refuses hq hlt (by decide) pick (servePut_down (s := s.dequeued q) hdown _ _),
      fun hup hfull => ldgAcceptance_refuses hq hlt (by decide) pick (servePut_full (s := s.dequeued q) hup hfull _ _),
      fun ⟨hup, hroom⟩ hseq => ldgAcceptance_refuses hq hlt (by decide) pick (servePut_seqmax (s := s.dequeued q) hup hroom hseq _ _),
      fun ⟨hup, hroom⟩ hseq hchk hcrc =>
        ldgAcceptance_refuses hq hlt (by decide) pick (servePut_badCrc (s := s.dequeued q) hup hroom hseq (fun h => hcrc (h hchk)) _ _),
      fun k ⟨hup, hroom⟩ hseq hcrc hpick => ⟨slotFree_of_pickSlot hpick, fun hweak => ?_,
        fun bad hbad => ldgAcceptance_defect hq hlt pick hbad hup hroom hseq hcrc hpick⟩⟩
    exact ldgAcceptance_accepts hq hlt pick hup hroom hseq hcrc hpick (by simpa using hweak)
  · obtain ⟨hrun, hquiet, htally⟩ := ldgStart_spec hst
    exact ends_served hs rfl ⟨hrun, hquiet, fun h1 h2 hnone => htally h1 h2 hnone _ t.isLt⟩
  · rw [ldgRelease_frees hrole hmax]
    exact releaseTo_frees (s := s.accept ldgPort) hrel hnodup
  · refine (exec_served hs rfl).trans (congrArg Host.Outcome.next (command_rejected_state _ ?_))
    rcases h with h | h <;> simp [h]

end Sys2Proof.Machine
end

section
/-! LEDGER frames (spec/09 R250 to R257, spec/10 R284, R285): what the link delivers to the Ledger, and the handoff with the commit
of the record next in line. -/

namespace Sys2Proof.Machine

variable {s t u : State} {p : Fin 2} {f : Llp} {fr : LinkFrame} {c : Instr} {i q kind : Nat}
  {l : List Nat}

/-! ### Frames that the link delivers (R257, R284) -/

/-- The link delivers a whole LEDGER frame of a KIND to a device that takes part, whose Ledger then stands in `t` and knows no
higher term. -/
def LedgerTaken (s : State) (p : Fin 2) (f : Llp) (kind : Nat) (t : State) : Prop :=
  (s.receive p.val (frameOf f 6)).deliver = true ∧ ledgerWhole f.payload kind = true ∧
    (s.receive p.val (frameOf f 6)).st.observer = false ∧ t = (s.receive p.val (frameOf f 6)).st.hearTerm (fieldAt f.payload 4 4) ∧
    (s.receive p.val (frameOf f 6)).st.ldg.nv.term ≤ fieldAt f.payload 4 4

variable {handle : State → LinkFrame → Bool × State}

theorem ledgerRx_undelivered (h : (s.receive p.val (frameOf f 6)).deliver = false) :
    s.ledgerRx p.val kind f handle = (s.receive p.val (frameOf f 6)).st := by
  simp only [State.ledgerRx, h, Bool.false_and, Bool.false_eq_true, if_false]

theorem ledgerRx_lowerTerm (h : fieldAt f.payload 4 4 < (s.receive p.val (frameOf f 6)).st.ldg.nv.term) :
    s.ledgerRx p.val kind f handle = (s.receive p.val (frameOf f 6)).st := by
  have hcheck : (s.receive p.val (frameOf f 6)).st.termCheck (frameOf f 6).payload = (false, (s.receive p.val (frameOf f 6)).st) :=
    if_pos h
  have hignored : (s.receive p.val (frameOf f 6)).st.ledgerHandle handle (frameOf f 6) = (true, (s.receive p.val (frameOf f 6)).st) := by
    unfold State.ledgerHandle
    split
    · rfl
    · rw [hcheck]
  unfold State.ledgerRx
  dsimp only
  rw [hignored]
  split <;> rfl

/-- A frame that is taken goes to the handler of its KIND; one that the Ledger cannot take now stays in its buffer. -/
theorem ledgerRx_taken (h : LedgerTaken s p f kind t) : s.ledgerRx p.val kind f handle =
    if (handle t (frameOf f 6)).1 then (handle t (frameOf f 6)).2 else (handle t (frameOf f 6)).2.holdFrame p.val (frameOf f 6) := by
  obtain ⟨hdeliver, hwhole, hpart, rfl, hterm⟩ := h
  have hcheck : (s.receive p.val (frameOf f 6)).st.termCheck (frameOf f 6).payload =
      (true, (s.receive p.val (frameOf f 6)).st.hearTerm (fieldAt f.payload 4 4)) := if_neg (Nat.not_lt.mpr hterm)
  have hhandled : (s.receive p.val (frameOf f 6)).st.ledgerHandle handle (frameOf f 6) =
      handle ((s.receive p.val (frameOf f 6)).st.hearTerm (fieldAt f.payload 4 4)) (frameOf f 6) := by
    unfold State.ledgerHandle
    rw [hpart, hcheck]
    rfl
  have hwhole' : ledgerWhole (frameOf f 6).payload kind = true := hwhole
  unfold State.ledgerRx
  dsimp only
  rw [hhandled, hdeliver, hwhole', Bool.true_and, if_pos rfl]
  generalize handle _ (frameOf f 6) = r
  obtain ⟨b, x⟩ := r
  cases b <;> rfl

theorem ends_ledgerTaken {P : State → Prop} (hexec : exec c s = .next (s.ledgerRx p.val kind f handle)) (h : LedgerTaken s p f kind t)
    (hh : handle t (frameOf f 6) = (true, u)) (hP : P u) : Ends c s P :=
  ⟨u, by rw [hexec, ledgerRx_taken h, hh]; rfl, hP⟩

theorem exec_ledgerTaken (hexec : exec c s = .next (s.ledgerRx p.val kind f handle)) (h : LedgerTaken s p f kind t)
    (hh : handle t (frameOf f 6) = (true, u)) : exec c s = .next u := by
  rw [hexec, ledgerRx_taken h, hh]
  rfl

theorem exec_ledgerHeld (hexec : exec c s = .next (s.ledgerRx p.val kind f handle)) (h : LedgerTaken s p f kind t)
    (hh : handle t (frameOf f 6) = (false, u)) : exec c s = .next (u.holdFrame p.val (frameOf f 6)) := by
  rw [hexec, ledgerRx_taken h, hh]
  rfl

/-- The five commands that receive a LEDGER frame, with the KIND that each takes. -/
theorem ledgerRx_kinds (h : [(Instr.handoffRx p f, 1), (.ackRx p f, 2), (.mirrorRx p f, 3), (.confirmRx p f, 4),
    (.releaseCursorRx p f, 5)].contains (c, kind) = true) (s : State) :
    ∃ handle, exec c s = .next (s.ledgerRx p.val kind f handle) := by
  simp only [List.contains_iff_mem, List.mem_cons, List.not_mem_nil, or_false, Prod.mk.injEq] at h
  obtain ⟨rfl, rfl⟩ | ⟨rfl, rfl⟩ | ⟨rfl, rfl⟩ | ⟨rfl, rfl⟩ | ⟨rfl, rfl⟩ := h <;> exact ⟨_, rfl⟩

/-! ### The commit of the record next in line (R253) -/

theorem findRec_congr (h : t.ldg.slots = s.ldg.slots) (o q : Nat) : t.findRec o q = s.findRec o q := by
  rw [State.findRec, State.findRec, h]

theorem findRec_none_iff {o : Nat} :
    s.findRec o q = none ↔ s.ldg.slots.find? (fun e => recOrigin e.2 == o && recOseq e.2 == q) = none := Option.map_eq_none_iff

/-- A record stored in a slot is found under its origin and OSEQ, where none of that name was held. -/
theorem findRec_put (h : t.ldg.slots = smPut s.ldg.slots i l) (hnone : s.findRec (recOrigin l) (recOseq l) = none) :
    t.findRec (recOrigin l) (recOseq l) = some i := by
  rw [State.findRec, h, find?_smPut_new (findRec_none_iff.mp hnone), if_pos (by simp)]
  rfl

/-- A stored record is not found under another OSEQ. -/
theorem findRec_put_ne (h : t.ldg.slots = smPut s.ldg.slots i l) {o : Nat} (hne : recOseq l ≠ q) (hnone : s.findRec o q = none) :
    t.findRec o q = none := by
  rw [findRec_none_iff, h, find?_smPut_new (findRec_none_iff.mp hnone), if_neg (by simp [hne])]

/-- The state in which the record of slot `i`, next in line of origin `o` behind OSEQ `last`, is committed. -/
def State.committedNext (s : State) (o last i : Nat) : State :=
  let g := s.ldg.nv.gseq + 1
  let t := (s.commitSlot i g).setOrg o (last + 1)
  let t1 := t.setLdg { t.ldg with
    unack := t.ldg.unack ++ [(o, last + 1, g)]
    mirrorQ := if t.mirror = 2 then t.ldg.mirrorQ ++ [(t.beatNo, g)] else t.ldg.mirrorQ }
  if g = seqMax then t1.ldgEvt 11 else t1

theorem commitRun_commits {o last : Nat} (horg : s.orgLast o = some last) (hfind : s.findRec o (last + 1) = some i)
    (hroom : s.ldg.nv.gseq < seqMax) (n : Nat) : s.commitRun o (n + 1) = (s.committedNext o last i).commitRun o n := by
  rw [State.commitRun, horg]
  dsimp only
  rw [hfind]
  exact if_neg hroom.ne

theorem commitRun_stops {o last : Nat} (horg : s.orgLast o = some last) (hfind : s.findRec o (last + 1) = none) (n : Nat) :
    s.commitRun o n = s := by
  cases n with
  | zero => rfl
  | succ n =>
    rw [State.commitRun, horg]
    dsimp only
    rw [hfind]

theorem committedNext_spec {o last : Nat} (hrec : s.slotRec i = some l) : ∃ m, recGseq m = s.ldg.nv.gseq + 1 ∧ m.drop 1 = l.drop 1 ∧
    (s.committedNext o last i).ldg.slots = smPut s.ldg.slots i m ∧
    (s.committedNext o last i).ldg.nv.gseq = s.ldg.nv.gseq + 1 ∧ (s.committedNext o last i).orgLast o = some (last + 1) := by
  obtain ⟨m, ts, hgseq, hdrop, hcommit⟩ := ldg_commitSlot hrec (s.ldg.nv.gseq + 1)
  have hldg : ∃ ua mq, (s.committedNext o last i).ldg = { ((s.commitSlot i (s.ldg.nv.gseq + 1)).setOrg o (last + 1)).ldg with
      unack := ua, mirrorQ := mq } := by
    unfold State.committedNext
    dsimp only
    split
    · exact ⟨_, _, ldg_ldgEvt _ 11⟩
    · exact ⟨_, _, rfl⟩
  obtain ⟨ua, mq, hldg⟩ := hldg
  rw [State.setOrg, ldg_setNv, hcommit] at hldg
  refine ⟨m, hgseq, hdrop, by rw [hldg], by rw [hldg]; exact max_eq_right (Nat.le_succ _), ?_⟩
  rw [State.orgLast, hldg, find?_smPut]
  rfl

/-- A record written and next in line is committed, and with no other behind it nothing more is. -/
theorem tryCommit_one {o last : Nat} (horg : s.orgLast o = some last) (hfind : s.findRec o (last + 1) = some i)
    (hnext : s.findRec o (last + 2) = none) (hrec : s.slotRec i = some l) (hname : recOseq l = last + 1)
    (hroom : s.ldg.nv.gseq < seqMax) : (s.tryCommit o).ldg.nv.gseq = s.ldg.nv.gseq + 1 ∧
      (s.tryCommit o).orgLast o = some (last + 1) ∧
      ∃ m, (s.tryCommit o).slotRec i = some m ∧ recGseq m = s.ldg.nv.gseq + 1 ∧ m.drop 1 = l.drop 1 := by
  obtain ⟨m, hgseq, hdrop, hslots, hnv, hlast⟩ := committedNext_spec (o := o) (last := last) hrec
  have hnone : (s.committedNext o last i).findRec o (last + 1 + 1) = none := by
    refine findRec_put_ne hslots ?_ hnext
    rw [(recName_of_drop hdrop).2, hname]
    omega
  rw [State.tryCommit, commitRun_commits horg hfind hroom, commitRun_stops hlast hnone]
  exact ⟨hnv, hlast, m, slotRec_put hslots, hgseq, hdrop⟩

/-! ### Handoff (R250 to R253) -/

/-- The record as it is written into the ring: without a GSEQ. -/
def uncommitted (l : List Nat) : List Nat := wd l 0 % 65536 :: l.drop 1

theorem uncommitted_name (l : List Nat) : recOrigin (uncommitted l) = recOrigin l ∧ recOseq (uncommitted l) = recOseq l :=
  recName_of_drop (m := uncommitted l) (l := l) rfl

/-- The ring takes a record wherever the search begins: no slot is weak and one is free. -/
def State.roomy (s : State) : Prop := s.ldg.weak = [] ∧ ∀ n, (s.pickSlot n).isSome = true

theorem acceptInto_roomy (h : s.roomy) (l : List Nat) (n : Nat) :
    ∃ k, s.slotFree k = true ∧ s.acceptInto l n 0 = (true, s.writeSlot k l) := by
  obtain ⟨hweak, hpick⟩ := h
  obtain ⟨k, hk⟩ := Option.isSome_iff_exists.mp (hpick n)
  exact ⟨k, slotFree_of_pickSlot hk, acceptInto_sound hk (by simp [hweak]) l⟩

theorem roomy_draw (h : s.roomy) : s.draw.2.roomy :=
  ⟨h.1, fun n => by rw [pickSlot_congr (s := s) (t := s.draw.2) rfl rfl]; exact h.2 n⟩

theorem slotFree_draw (s : State) (k : Nat) : s.draw.2.slotFree k = s.slotFree k := slotFree_congr (s := s) (t := s.draw.2) rfl rfl k

/-- The manager commits the handed-off record that is next in line of its origin. -/
theorem takeRecord_commits (hroom : t.roomy) (hgseq : t.ldg.nv.gseq < seqMax) (horg : t.orgLast (recOrigin l) = some (recOseq l - 1))
    (hpos : 0 < recOseq l) (hnew : t.findRec (recOrigin l) (recOseq l) = none)
    (hnext : t.findRec (recOrigin l) (recOseq l + 1) = none) : (t.takeRecord l).ldg.nv.gseq = t.ldg.nv.gseq + 1 ∧
      (t.takeRecord l).orgLast (recOrigin l) = some (recOseq l) ∧ ∃ k m, t.slotFree k = true ∧ (t.takeRecord l).slotRec k = some m ∧
        recGseq m = t.ldg.nv.gseq + 1 ∧ m.drop 1 = l.drop 1 := by
  obtain ⟨k, hfree, haccept⟩ := acceptInto_roomy (roomy_draw hroom) (uncommitted l) (t.draw.1 % 16384)
  have hrun : t.takeRecord l = (t.draw.2.writeSlot k (uncommitted l)).tryCommit (recOrigin l) := by
    have hlast : ¬ recOseq l ≤ (t.orgLast (recOrigin l)).getD 0 := by
      rw [horg]
      exact Nat.not_le.mpr (Nat.sub_lt hpos Nat.one_pos)
    unfold State.takeRecord
    simp only [horg, Option.isNone_some, Bool.false_eq_true, if_false, hnew, Option.isSome_none]
    rw [horg] at hlast
    rw [if_neg hlast]
    exact congrArg (fun r : Bool × State => r.2.tryCommit (recOrigin l)) haccept
  obtain ⟨b, hwrite⟩ := ldg_writeSlot t.draw.2 k (uncommitted l)
  obtain ⟨horigin, hoseq⟩ := uncommitted_name l
  let x := t.draw.2.writeSlot k (uncommitted l)
  have hslots : x.ldg.slots = smPut t.ldg.slots k (uncommitted l) := by rw [hwrite]; rfl
  have hnv : x.ldg.nv = t.ldg.nv := by rw [hwrite]; rfl
  have hsucc : recOseq l - 1 + 1 = recOseq l := Nat.sub_add_cancel hpos
  have hfind := findRec_put (s := t) hslots (by rw [horigin, hoseq]; exact hnew)
  rw [horigin, hoseq] at hfind
  obtain ⟨hcount, hcommitted, m, hslot, hm, hdrop⟩ := tryCommit_one (s := x) (o := recOrigin l) (last := recOseq l - 1) (i := k)
    (l := uncommitted l) (by rw [State.orgLast, hnv]; exact horg) (by rw [hsucc]; exact hfind)
    (findRec_put_ne (s := t) hslots (by omega) (by rw [show recOseq l - 1 + 2 = recOseq l + 1 by omega]; exact hnext))
    (slotRec_put (s := t) hslots) (by rw [hoseq, hsucc]) (by rw [hnv]; exact hgseq)
  rw [hnv] at hcount hm
  rw [hsucc] at hcommitted
  rw [hrun]
  exact ⟨hcount, hcommitted, k, m, slotFree_draw t k ▸ hfree, hslot, hm, hdrop⟩

theorem handoffIn_takes (hrole : t.ldgRole = 1) (hrun : t.ldgState = 2) (hgseq : t.ldg.nv.gseq ≠ seqMax)
    (hroom : t.ldgUsed + ((ledgerRecs fr.payload).filter t.newHandoff).length ≤ 16320) :
    t.handoffIn fr = (true, (ledgerRecs fr.payload).foldl (fun x l => x.takeRecord l) t) := by
  simp [State.handoffIn, hrole, hrun, hgseq, Nat.not_lt.mpr hroom]

theorem handoffIn_waits (hrole : t.ldgRole = 1) (h : t.ldgState ≠ 2 ∨ (t.ldg.nv.gseq ≠ seqMax ∧
    16320 < t.ldgUsed + ((ledgerRecs fr.payload).filter t.newHandoff).length)) : t.handoffIn fr = (false, t) := by
  rcases h with h | ⟨hgseq, hfull⟩
  · simp [State.handoffIn, hrole, h]
  · simp [State.handoffIn, hrole, hgseq, hfull]

theorem handoffIn_seqmax (hrole : t.ldgRole = 1) (hrun : t.ldgState = 2) (hgseq : t.ldg.nv.gseq = seqMax) :
    t.handoffIn fr = (false, t.ldgEvt 11) := by
  simp [State.handoffIn, hrole, hrun, hgseq]

theorem handoffIn_other (hrole : t.ldgRole ≠ 1) : t.handoffIn fr = (true, t) := by simp [State.handoffIn, hrole]

end Sys2Proof.Machine
end

section
/-! The mirror, acknowledgements and what leaves in the Ledger window (spec/09 R252, R254 to R256), and the statement LedgerFrames. -/

namespace Sys2Proof.Machine

variable {s t u : State} {p : Fin 2} {f : Llp} {fr : LinkFrame} {d : Fin 64} {high : BitVec 48} {k : Nat} {l : List Nat}

/-! ### Frames of the Ledger that leave -/

theorem sendLedger_spec (s : State) (dst kind origin value : Nat) (recs : List (List Nat)) :
    (s.sendLedger dst kind origin value recs).ldg = s.ldg ∧ (s.sendLedger dst kind origin value recs).regs = s.regs ∧
      (s.sendLedger dst kind origin value recs).mem = s.mem := by
  obtain ⟨x, hsend⟩ := (PortsOnly.refl s).sendFrame 6 dst 1 (ledgerPayload kind origin s.ldg.nv.term value recs)
  rw [State.sendLedger, hsend]
  exact ⟨rfl, rfl, rfl⟩

theorem queueOn_setLdg (s : State) (x : LdgSt) (n : Nat) (fr : LinkFrame) : (s.setLdg x).queueOn n fr = (s.queueOn n fr).setLdg x := by
  unfold State.queueOn
  dsimp only
  split <;> rfl

/-- What is sent, and by which port, does not depend on what the Ledger holds. -/
theorem sendFrame_setLdg (s : State) (x : LdgSt) (type dst win : Nat) (pl : List Byte) :
    (s.setLdg x).sendFrame type dst win pl = (s.sendFrame type dst win pl).setLdg x := by
  unfold State.sendFrame
  dsimp only
  split
  · rw [show (s.setLdg x).lnk.topoKind = s.lnk.topoKind from rfl]
    split
    · exact queueOn_setLdg s x _ _
    · refine List.foldl_hom (fun u => State.setLdg u x) fun u n => ?_
      change (if u.portUp n = true then _ else _) = _
      split
      · exact queueOn_setLdg u x _ _
      · rfl
  · exact queueOn_setLdg s x _ _

/-! ### The mirror (R254) -/

theorem mirrorIn_takes (hrole : t.ldgRole = 2) (hrun : t.ldgState = 2)
    (hroom : t.ldgUsed + ((ledgerRecs fr.payload).filter t.newMirror).length ≤ 16320) : t.mirrorIn fr =
      (true, ((ledgerRecs fr.payload).foldl (fun x l => x.mirrorRecord l) t).sendLedger fr.src 4
        ((ledgerRecs fr.payload).foldl (fun x l => x.mirrorRecord l) t).ownId
        ((ledgerRecs fr.payload).foldl (fun x l => x.mirrorRecord l) t).ldg.nv.gseq []) := by
  simp [State.mirrorIn, hrole, hrun, Nat.not_lt.mpr hroom]

/-- A mirrored record is of interest: it is not released yet, and no record is held under its GSEQ. -/
def State.mirrorsNew (t : State) (l : List Nat) : Prop :=
  t.ldg.nv.rel < recGseq l ∧ t.ldg.slots.all (fun e => recGseq e.2 != recGseq l) = true

/-- The state in which the origin of `l` is known up to its OSEQ. -/
def State.originKnown (t : State) (l : List Nat) : State :=
  t.setOrg (recOrigin l) (max (recOseq l) ((t.orgLast (recOrigin l)).getD 0))

theorem mirrorRecord_new (hnew : t.mirrorsNew l) : t.mirrorRecord l =
    match (t.originKnown l).findRec (recOrigin l) (recOseq l) with
    | some i => if recGseq (((t.originKnown l).slotRec i).getD []) = 0 then (t.originKnown l).commitSlot i (recGseq l) else t.originKnown l
    | none =>
      match (t.originKnown l).draw.2.acceptInto (uncommitted l) ((t.originKnown l).draw.1 % 16384) 0 with
      | (false, x) => x
      | (true, x) =>
        match x.findRec (recOrigin l) (recOseq l) with
        | some i => x.commitSlot i (recGseq l)
        | none => x := by
  obtain ⟨hrel, hall⟩ := hnew
  have hany : t.ldg.slots.any (fun e => recGseq e.2 == recGseq l) = false := by
    rw [← Bool.not_eq_true, List.any_eq_true]
    rintro ⟨e, he, heq⟩
    exact absurd heq (by simpa using List.all_eq_true.mp hall e he)
  have hguard : ¬(recGseq l = 0 ∨ recGseq l ≤ t.ldg.nv.rel ∨ t.ldg.slots.any (fun e => recGseq e.2 == recGseq l) = true) := by
    rw [hany]
    simp
    omega
  unfold State.mirrorRecord
  dsimp only
  rw [if_neg hguard]
  rfl

/-- The deputy holds a mirrored record, in slot `k`, under its GSEQ, with the body `body`. -/
structure MirroredIn (t u : State) (l body : List Nat) (k : Nat) : Prop where
  gseq : u.ldg.nv.gseq = max t.ldg.nv.gseq (recGseq l)
  held : ∃ m, u.slotRec k = some m ∧ recGseq m = recGseq l ∧ m.drop 1 = body

theorem mirrored_commitSlot {x : State} {held : List Nat} (hrec : x.slotRec k = some held) (hnv : x.ldg.nv.gseq = t.ldg.nv.gseq) :
    MirroredIn t (x.commitSlot k (recGseq l)) l (held.drop 1) k := by
  obtain ⟨m, ts, hgseq, hdrop, hcommit⟩ := ldg_commitSlot hrec (recGseq l)
  exact ⟨by rw [hcommit, hnv], m, slotRec_put (s := x) (by rw [hcommit]), hgseq, hdrop⟩

/-- A record that the deputy does not hold is written and takes its GSEQ. -/
theorem mirrorRecord_writes (hroom : t.roomy) (hnew : t.mirrorsNew l) (hnone : t.findRec (recOrigin l) (recOseq l) = none) :
    ∃ k, t.slotFree k = true ∧ MirroredIn t (t.mirrorRecord l) l (l.drop 1) k := by
  have hknown : (t.originKnown l).roomy :=
    ⟨hroom.1, fun n => by rw [pickSlot_congr (s := t) (t := t.originKnown l) rfl rfl]; exact hroom.2 n⟩
  obtain ⟨k, hfree, haccept⟩ := acceptInto_roomy (roomy_draw hknown) (uncommitted l) ((t.originKnown l).draw.1 % 16384)
  obtain ⟨b, hwrite⟩ := ldg_writeSlot (t.originKnown l).draw.2 k (uncommitted l)
  obtain ⟨horigin, hoseq⟩ := uncommitted_name l
  let x := (t.originKnown l).draw.2.writeSlot k (uncommitted l)
  have hslots : x.ldg.slots = smPut t.ldg.slots k (uncommitted l) := by rw [hwrite]; rfl
  have hfind := findRec_put (s := t) hslots (by rw [horigin, hoseq]; exact hnone)
  rw [horigin, hoseq] at hfind
  have hrun : t.mirrorRecord l = x.commitSlot k (recGseq l) := by
    rw [mirrorRecord_new hnew, findRec_congr (s := t) (t := t.originKnown l) rfl, hnone]
    dsimp only
    rw [haccept]
    dsimp only
    rw [hfind]
  refine ⟨k, ?_, ?_⟩
  · rwa [slotFree_congr (s := t) (t := (t.originKnown l).draw.2) rfl rfl] at hfree
  · rw [hrun]
    exact mirrored_commitSlot (held := uncommitted l) (slotRec_put (s := t) hslots) (by rw [hwrite]; rfl)

/-- A record that the deputy holds uncommitted takes its GSEQ in place. -/
theorem mirrorRecord_commits {held : List Nat} (hnew : t.mirrorsNew l) (hfind : t.findRec (recOrigin l) (recOseq l) = some k)
    (hrec : t.slotRec k = some held) (hzero : recGseq held = 0) : MirroredIn t (t.mirrorRecord l) l (held.drop 1) k := by
  have hrec' : (t.originKnown l).slotRec k = some held := (slotRec_congr (s := t) rfl k).trans hrec
  have hrun : t.mirrorRecord l = (t.originKnown l).commitSlot k (recGseq l) := by
    rw [mirrorRecord_new hnew, findRec_congr (s := t) (t := t.originKnown l) rfl, hfind]
    dsimp only
    rw [hrec', Option.getD_some, if_pos hzero]
  rw [hrun]
  exact mirrored_commitSlot hrec' rfl

/-! ### Confirmation, acknowledgement and release cursor (R254 to R256) -/

/-- The state in which the deputy's confirmation of `v` is noted. -/
def State.confirmNoted (t : State) (v : Nat) : State := t.setLdg { t.ldg with confG := max t.ldg.confG v }

theorem setMirror_syncs (h : t.mirror ≠ 2) : (t.setMirror 2).mirror = 2 ∧ (t.setMirror 2).bit LDG_EVT 12 = true ∧
    (t.setMirror 2).mem = t.mem := by
  refine ⟨mirror_setMirror t (by decide), ?_, ?_⟩ <;> rw [State.setMirror, if_neg h]
  · exact bit_event_self _ _ _ _ (by decide) (by decide)
  · rw [mem_ldgEvt, State.setFld_mem]

theorem confirmIn_syncs {v : Nat} (hv : v = fieldAt fr.payload 8 8 % 2 ^ 48) (hrole : t.ldgRole = 1) (hdep : t.deputyId = some fr.src)
    (hmirror : t.mirror = 1) (hall : t.ldg.nv.gseq ≤ v) : t.confirmIn fr =
      (true, ((t.confirmNoted v).setMirror 2).setLdg { ((t.confirmNoted v).setMirror 2).ldg with mirrorQ := [] }) := by
  have hguard : (t.ldgRole != 1 || t.deputyId != some fr.src) = false := by simp [hrole, hdep]
  unfold State.confirmIn
  rw [hguard]
  dsimp only
  rw [if_neg (by decide), ← hv]
  exact if_pos ⟨hmirror, hall⟩

/-- The record is an own one that no commit has reached, and the manager acknowledges it with OSEQ `q`. -/
def ownAcked (own q : Nat) (e : Nat × List Nat) : Bool := recOrigin e.2 == own && decide (recOseq e.2 ≤ q) && recGseq e.2 == 0

theorem markAcked_eq (t : State) (q : Nat) : t.markAcked q = ((t.ldg.slots.filter (ownAcked t.ownId q)).map (fun e => e.1)).foldl
    (fun u i => u.freeSlot i) (t.setNv { t.ldg.nv with acked := max t.ldg.nv.acked q }) := by
  rw [List.foldl_map]
  rfl

theorem ldg_markAcked (t : State) (q : Nat) : ∃ b, (t.markAcked q).ldg = { t.ldg with
    slots := ((t.ldg.slots.filter (ownAcked t.ownId q)).map (fun e => e.1)).foldl smErase t.ldg.slots
    nv := { t.ldg.nv with acked := max t.ldg.nv.acked q }
    atHwm := b } := by
  rw [markAcked_eq]
  exact ldg_foldl_freeSlot _ _

theorem acked_markAcked (t : State) (q : Nat) : (t.markAcked q).ldg.nv.acked = max t.ldg.nv.acked q := by
  obtain ⟨b, hldg⟩ := ldg_markAcked t q
  rw [hldg]

/-- An origin frees its own uncommitted records up to the acknowledged OSEQ. -/
theorem markAcked_frees (hnodup : (t.ldg.slots.map (fun e => e.1)).Nodup) (q : Nat) (e : Nat × List Nat) :
    e ∈ (t.markAcked q).ldg.slots ↔ e ∈ t.ldg.slots ∧ ¬(recOrigin e.2 = t.ownId ∧ recOseq e.2 ≤ q ∧ recGseq e.2 = 0) := by
  obtain ⟨b, hldg⟩ := ldg_markAcked t q
  rw [hldg]
  refine (mem_foldl_smErase_filter hnodup _).trans (and_congr_right fun _ => not_congr ?_)
  simp [ownAcked, and_assoc]

theorem lnk_markAcked (t : State) (q : Nat) : (t.markAcked q).lnk = t.lnk := by
  rw [markAcked_eq, lnk_foldl_freeSlot]
  rfl

theorem ackIn_takes (hrole : t.ldgRole ≠ 1) (hmine : fieldAt fr.payload 2 1 = t.ownId) (hready : t.ldgState ≠ 0) :
    t.ackIn fr = (true, t.markAcked (fieldAt fr.payload 8 8 % 2 ^ 48)) := by
  unfold State.ackIn
  rw [if_neg (not_or.mpr ⟨hrole, not_not.mpr hmine⟩), if_neg hready]

theorem cursorIn_takes (hrole : t.ldgRole = 2) (hready : t.ldgState ≠ 0) :
    t.cursorIn fr = (true, t.releaseTo (fieldAt fr.payload 8 8 % 2 ^ 48)) := by
  unfold State.cursorIn
  rw [if_neg (by simp [hrole]), if_neg hready]

/-! ### What leaves in the Ledger window (R252, R254, R255) -/

section
variable (hrun : s.ldgState = 2) (hwin : s.inLedgerWindow = true)
include hrun hwin

theorem exec_ledgerHandoff {recs : List (List Nat)} (hrole : s.ldgRole = 0 ∨ s.ldgRole = 2) (hadm : s.adm = 3)
    (hrecs : recs = (s.unackedOwn.filter (fun l => decide (s.ldg.handed < recOseq l))).take 22) :
    exec .ledgerHandoff s = .next (match recs.getLast? with
      | none => s
      | some l => (s.sendLedger s.leadId 1 s.ownId 0 recs).setLdg
          { (s.sendLedger s.leadId 1 s.ownId 0 recs).ldg with handed := recOseq l }) := by
  subst hrecs
  exact congrArg Host.Outcome.next (if_pos ⟨hrun, hrole, hadm, hwin⟩)

theorem exec_mirrorSend {dep : Nat} {due : List (Nat × Nat)} (hdep : s.deputyId = some dep) (hrole : s.ldgRole = 1)
    (hmirror : s.mirror = 2) (hdue : due = (s.ldg.mirrorQ.takeWhile (fun e => decide (e.1 < s.beatNo))).take 22) (hne : due ≠ []) :
    ∃ recs, exec .mirrorSend s = .next ((s.sendLedger dep 3 s.ownId 0 recs).setLdg
      { (s.sendLedger dep 3 s.ownId 0 recs).ldg with mirrorQ := (s.sendLedger dep 3 s.ownId 0 recs).ldg.mirrorQ.drop due.length }) := by
  subst hdue
  refine ⟨((s.ldg.mirrorQ.takeWhile (fun e => decide (e.1 < s.beatNo))).take 22).filterMap
    (fun e => (s.ldg.slots.find? (fun x => recGseq x.2 == e.2)).map (fun x => x.2)), ?_⟩
  change execMirrorSend s = _
  unfold execMirrorSend
  rw [hdep]
  exact congrArg Host.Outcome.next ((if_pos ⟨hrole, hmirror, hrun, hwin⟩).trans (if_neg (by rwa [List.isEmpty_iff])))

theorem exec_catchupSend {dep : Nat} {recs : List (List Nat)} (hdep : s.deputyId = some dep) (hrole : s.ldgRole = 1)
    (hmirror : s.mirror = 1) (hrecs : recs = (s.committedAbove (max high.toNat (s.ldg.catchup.getD 0))).take 22) :
    exec (.catchupSend high) s = .next (match recs.getLast? with
      | none => if s.ldg.nv.gseq ≤ high.toNat then s.setMirror 2 else s
      | some l => (s.sendLedger dep 3 s.ownId 0 recs).setLdg
          { (s.sendLedger dep 3 s.ownId 0 recs).ldg with catchup := some (recGseq l) }) := by
  subst hrecs
  change execCatchupSend high s = _
  unfold execCatchupSend
  rw [hdep]
  exact congrArg Host.Outcome.next (if_pos ⟨hrole, hmirror, hrun, hwin⟩)

end

/-- The Ledger of the manager that acknowledges origin `o` up to what it may. -/
def State.ackGiven (s : State) (o : Nat) : State := s.setLdg { s.ldg with
  unack := s.ldg.unack.filter (fun e => !(e.1 == o && decide (e.2.1 ≤ s.ackOf o)))
  reack := smErase s.ldg.reack o }

theorem unack_ackGiven {o : Nat} {e : Nat × Nat × Nat} (he : e ∈ (s.ackGiven o).ldg.unack) (ho : e.1 = o) : s.ackOf o < e.2.1 := by
  have hkept := (List.mem_filter.mp he).2
  simpa [ho] using hkept

theorem exec_ackSend (hrole : s.ldgRole = 1) (hrun : s.ldgState = 2) (hwin : s.inLedgerWindow = true) (hack : s.ackOf d.val ≠ 0) :
    exec (.ackSend d) s = .next (if d.val = s.ownId then (s.ackGiven d.val).markAcked (s.ackOf d.val)
      else (s.ackGiven d.val).sendLedger d.val 2 d.val (s.ackOf d.val) []) :=
  congrArg Host.Outcome.next ((if_pos ⟨hrole, hrun, hwin⟩).trans (if_neg hack))

theorem exec_ackSend_none (hack : s.ackOf d.val = 0) : exec (.ackSend d) s = .next s := by
  refine congrArg Host.Outcome.next ?_
  split
  · exact if_pos hack
  · rfl

/-- Outside RUN nothing is sent in the Ledger window. -/
theorem ledgerSends_idle (h : s.ldgState ≠ 2) : exec .ledgerHandoff s = .next s ∧ exec .mirrorSend s = .next s ∧
    exec (.catchupSend high) s = .next s ∧ exec (.ackSend d) s = .next s := by
  refine ⟨congrArg Host.Outcome.next (if_neg fun hc => h hc.1), congrArg Host.Outcome.next ?_, congrArg Host.Outcome.next ?_,
    congrArg Host.Outcome.next (if_neg fun hc => h hc.2.1)⟩
  · cases s.deputyId with
    | none => rfl
    | some dep => exact if_neg fun hc => h hc.2.2.1
  · cases s.deputyId with
    | none => rfl
    | some dep => exact if_neg fun hc => h hc.2.2.1

/-! ### What a received frame comes to (R250 to R256) -/

/-- A frame with one record adds at most one to the ring. -/
theorem ledgerUsed_one {n : Nat} {pl : List Byte} {new : List Nat → Bool} (hone : ledgerRecs pl = [l]) (hroom : n + 1 ≤ 16320) :
    n + ((ledgerRecs pl).filter new).length ≤ 16320 := by
  have hle := List.length_filter_le new [l]
  rw [List.length_singleton] at hle
  rw [hone]
  omega

theorem handoffRx_commits (ht : LedgerTaken s p f 1 t) (hrole : t.ldgRole = 1) (hrun : t.ldgState = 2) (hgseq : t.ldg.nv.gseq < seqMax)
    (hused : t.ldgUsed + 1 ≤ 16320) (hone : ledgerRecs f.payload = [l]) (horg : t.orgLast (recOrigin l) = some (recOseq l - 1))
    (hpos : 0 < recOseq l) (hroom : t.roomy) (hnew : t.findRec (recOrigin l) (recOseq l) = none)
    (hnext : t.findRec (recOrigin l) (recOseq l + 1) = none) :
    Ends (.handoffRx p f) s (fun u => u.ldg.nv.gseq = t.ldg.nv.gseq + 1 ∧ u.orgLast (recOrigin l) = some (recOseq l) ∧
      ∃ (k : Nat) (m : List Nat), t.slotFree k = true ∧ u.slotRec k = some m ∧ recGseq m = t.ldg.nv.gseq + 1 ∧ m.drop 1 = l.drop 1) := by
  have hone' : ledgerRecs (frameOf f 6).payload = [l] := hone
  refine ends_ledgerTaken rfl ht (handoffIn_takes hrole hrun hgseq.ne (ledgerUsed_one hone' hused)) ?_
  rw [hone']
  exact takeRecord_commits hroom hgseq horg hpos hnew hnext

theorem ackRx_frees (ht : LedgerTaken s p f 2 t) (hrole : t.ldgRole ≠ 1) (hmine : fieldAt f.payload 2 1 = t.ownId)
    (hready : t.ldgState ≠ 0) (hnodup : (t.ldg.slots.map (fun e => e.1)).Nodup) :
    Ends (.ackRx p f) s (fun u => u.ldg.nv.acked = max t.ldg.nv.acked (fieldAt f.payload 8 8 % 2 ^ 48) ∧ ∀ e, e ∈ u.ldg.slots ↔
      e ∈ t.ldg.slots ∧ ¬(recOrigin e.2 = t.ownId ∧ recOseq e.2 ≤ fieldAt f.payload 8 8 % 2 ^ 48 ∧ recGseq e.2 = 0)) :=
  ends_ledgerTaken rfl ht (ackIn_takes (fr := frameOf f 6) hrole hmine hready) ⟨acked_markAcked t _, markAcked_frees hnodup _⟩

/-- The record stays where it was put when the deputy confirms it. -/
theorem mirroredIn_sendLedger {body : List Nat} (h : MirroredIn t u l body k) (dst kind origin value : Nat) :
    MirroredIn t (u.sendLedger dst kind origin value []) l body k := by
  obtain ⟨hgseq, m, hslot, hm⟩ := h
  have hldg := (sendLedger_spec u dst kind origin value []).1
  exact ⟨by rw [hldg]; exact hgseq, m, by rw [slotRec_congr (congrArg LdgSt.slots hldg)]; exact hslot, hm⟩

theorem mirrorRx_holds {body : List Nat} (ht : LedgerTaken s p f 3 t) (hrole : t.ldgRole = 2) (hrun : t.ldgState = 2)
    (hused : t.ldgUsed + ((ledgerRecs f.payload).filter t.newMirror).length ≤ 16320) (hone : ledgerRecs f.payload = [l])
    (hin : MirroredIn t (t.mirrorRecord l) l body k) : Ends (.mirrorRx p f) s (fun u => MirroredIn t u l body k) := by
  refine ends_ledgerTaken rfl ht (mirrorIn_takes (fr := frameOf f 6) hrole hrun hused) (mirroredIn_sendLedger ?_ _ _ _ _)
  rw [show ledgerRecs (frameOf f 6).payload = [l] from hone]
  exact hin

/-- A record that the deputy holds asks for no slot. -/
theorem newMirror_held (hfind : t.findRec (recOrigin l) (recOseq l) = some k) : t.newMirror l = false := by
  simp [State.newMirror, hfind]

theorem confirmRx_syncs (ht : LedgerTaken s p f 4 t) (hrole : t.ldgRole = 1) (hdep : t.deputyId = some f.src.toNat) (hmirror : t.mirror = 1)
    (hall : t.ldg.nv.gseq ≤ fieldAt f.payload 8 8 % 2 ^ 48) :
    Ends (.confirmRx p f) s (fun u => u.mirror = 2 ∧ u.bit LDG_EVT 12 = true ∧ u.ldg.mirrorQ = [] ∧ u.mem = t.mem) := by
  obtain ⟨hsync, hevt, hmem⟩ := setMirror_syncs (t := t.confirmNoted (fieldAt f.payload 8 8 % 2 ^ 48))
    (ne_of_eq_of_ne hmirror (by decide))
  exact ends_ledgerTaken rfl ht (confirmIn_syncs (fr := frameOf f 6) rfl hrole hdep hmirror hall) ⟨hsync, hevt, rfl, hmem⟩

theorem releaseCursorRx_frees (ht : LedgerTaken s p f 5 t) (hrole : t.ldgRole = 2) (hready : t.ldgState ≠ 0)
    (hrel : t.ldg.nv.rel < fieldAt f.payload 8 8 % 2 ^ 48) (hnodup : (t.ldg.slots.map (fun e => e.1)).Nodup) :
    Ends (.releaseCursorRx p f) s (fun u => u.ldg.nv.rel = fieldAt f.payload 8 8 % 2 ^ 48 ∧ ∀ e, e ∈ u.ldg.slots ↔
      e ∈ t.ldg.slots ∧ ¬(0 < recGseq e.2 ∧ recGseq e.2 ≤ fieldAt f.payload 8 8 % 2 ^ 48)) :=
  ends_ledgerTaken rfl ht (cursorIn_takes (fr := frameOf f 6) hrole hready) (releaseTo_frees hrel hnodup)

/-! ### What a window's sending comes to (R252 to R255) -/

section
variable (hrun : s.ldgState = 2) (hwin : s.inLedgerWindow = true)
include hrun hwin

theorem ledgerHandoff_sends {recs : List (List Nat)} (hrole : s.ldgRole = 0 ∨ s.ldgRole = 2) (hadm : s.adm = 3)
    (hrecs : recs = (s.unackedOwn.filter (fun l => decide (s.ldg.handed < recOseq l))).take 22) (hlast : recs.getLast? = some l) :
    Ends .ledgerHandoff s (fun u => u.ldg.handed = recOseq l ∧ u.regs = s.regs ∧ u.mem = s.mem ∧
      u.lnk = (s.sendFrame 6 s.leadId 1 (ledgerPayload 1 s.ownId s.ldg.nv.term 0 recs)).lnk) := by
  obtain ⟨-, hregs, hmem⟩ := sendLedger_spec s s.leadId 1 s.ownId 0 recs
  refine ⟨_, exec_ledgerHandoff hrun hwin hrole hadm hrecs, ?_⟩
  rw [hlast]
  exact ⟨rfl, hregs, hmem, rfl⟩

theorem mirrorSend_sends {dep : Nat} {due : List (Nat × Nat)} (hdep : s.deputyId = some dep) (hrole : s.ldgRole = 1)
    (hmirror : s.mirror = 2) (hdue : due = (s.ldg.mirrorQ.takeWhile (fun e => decide (e.1 < s.beatNo))).take 22) (hne : due ≠ []) :
    Ends .mirrorSend s (fun u => u.ldg.mirrorQ = s.ldg.mirrorQ.drop due.length ∧ u.regs = s.regs ∧ u.mem = s.mem) := by
  obtain ⟨recs, hexec⟩ := exec_mirrorSend hrun hwin hdep hrole hmirror hdue hne
  obtain ⟨hldg, hregs, hmem⟩ := sendLedger_spec s dep 3 s.ownId 0 recs
  exact ⟨_, hexec, by rw [hldg]; rfl, hregs, hmem⟩

theorem catchupSend_sends {dep : Nat} {recs : List (List Nat)} (hdep : s.deputyId = some dep) (hrole : s.ldgRole = 1)
    (hmirror : s.mirror = 1) (hrecs : recs = (s.committedAbove (max high.toNat (s.ldg.catchup.getD 0))).take 22) (hlast : recs.getLast? = some l) :
    Ends (.catchupSend high) s (fun u => u.ldg.catchup = some (recGseq l) ∧ u.regs = s.regs ∧ u.mem = s.mem ∧
      u.lnk = (s.sendFrame 6 dep 1 (ledgerPayload 3 s.ownId s.ldg.nv.term 0 recs)).lnk) := by
  obtain ⟨-, hregs, hmem⟩ := sendLedger_spec s dep 3 s.ownId 0 recs
  refine ⟨_, exec_catchupSend hrun hwin hdep hrole hmirror hrecs, ?_⟩
  rw [hlast]
  exact ⟨rfl, hregs, hmem, rfl⟩

/-- With nothing left to catch up, a deputy that holds all that is committed is in SYNC. -/
theorem catchupSend_ends {dep : Nat} (hdep : s.deputyId = some dep) (hrole : s.ldgRole = 1) (hmirror : s.mirror = 1)
    (hnone : s.committedAbove (max high.toNat (s.ldg.catchup.getD 0)) = []) :
    (s.ldg.nv.gseq ≤ high.toNat → Ends (.catchupSend high) s (fun u => u.mirror = 2 ∧ u.bit LDG_EVT 12 = true ∧ u.mem = s.mem)) ∧
      (high.toNat < s.ldg.nv.gseq → exec (.catchupSend high) s = .next s) := by
  have hexec := exec_catchupSend (high := high) hrun hwin hdep hrole hmirror rfl
  rw [hnone, List.take_nil] at hexec
  refine ⟨fun h => ⟨_, hexec.trans (congrArg _ (if_pos h)), setMirror_syncs (ne_of_eq_of_ne hmirror (by decide))⟩, fun h => ?_⟩
  exact hexec.trans (congrArg _ (if_neg (Nat.not_le.mpr h)))

theorem ackSend_sends (hrole : s.ldgRole = 1) (hother : d.val ≠ s.ownId) (hack : s.ackOf d.val ≠ 0) :
    Ends (.ackSend d) s (fun u => u.regs = s.regs ∧ u.mem = s.mem ∧ (∀ e, e ∈ u.ldg.unack → e.1 = d.val → s.ackOf d.val < e.2.1) ∧
      u.lnk = (s.sendFrame 6 d.val 1 (ledgerPayload 2 d.val s.ldg.nv.term (s.ackOf d.val) [])).lnk) := by
  obtain ⟨hldg, hregs, hmem⟩ := sendLedger_spec (s.ackGiven d.val) d.val 2 d.val (s.ackOf d.val) []
  refine ⟨_, (exec_ackSend hrole hrun hwin hack).trans (congrArg _ (if_neg hother)), hregs, hmem, fun e he => ?_, ?_⟩
  · rw [hldg] at he
    exact unack_ackGiven he
  · rw [State.sendLedger, State.ackGiven, sendFrame_setLdg]
    rfl

theorem ackSend_own (hrole : s.ldgRole = 1) (hown : d.val = s.ownId) (hack : s.ackOf d.val ≠ 0) :
    Ends (.ackSend d) s (fun u => u.ldg.nv.acked = max s.ldg.nv.acked (s.ackOf d.val) ∧ u.lnk = s.lnk) :=
  ⟨_, (exec_ackSend hrole hrun hwin hack).trans (congrArg _ (if_pos hown)), acked_markAcked _ _, lnk_markAcked _ _⟩

end

/-- Settles O33: a frame that the link does not deliver, or of a lower term, leaves what the link makes of it; of one that is taken,
the handler of its KIND says what is held afterwards; what leaves in the window moves its cursor past what was sent. The choices of
the model that stand behind it: a record held with GSEQ 0 is committed in place, and source 171 is raised per handoff at the largest
GSEQ (log entry 14); room is judged by the new records of the whole frame against 16,320 (log entry 17). -/
theorem ledgerFrames : Obligations.LedgerFrames := by
  intro s p f d high j kind r taken value roomy
  refine ⟨fun hkind => ?undelivered, fun t l => ?commits, fun t => ?waits, fun t => ?seqmax, fun t => ?notManager, fun t => ?acked,
    fun t l => ?mirrorNew, fun t l held k => ?mirrorHeld, fun t => ?confirmed, fun t => ?released, fun recs => ?handoff,
    fun h => ledgerSends_idle h, fun dep due => ?mirrorSend, fun dep recs l => ?catchup, fun dep => ?caughtUp, ?ackOther, ?ackOwn,
    exec_ackSend_none⟩
  case undelivered =>
    obtain ⟨handle, hexec⟩ := ledgerRx_kinds hkind s
    exact ⟨fun hno => hexec.trans (congrArg _ (ledgerRx_undelivered hno)),
      fun hlow => hexec.trans (congrArg _ (ledgerRx_lowerTerm hlow))⟩
  case commits => exact handoffRx_commits
  case waits => exact fun ht hrole hwait => exec_ledgerHeld rfl ht (handoffIn_waits (fr := frameOf f 6) hrole hwait)
  case seqmax => exact fun ht hrole hrun hmax => exec_ledgerHeld rfl ht (handoffIn_seqmax (fr := frameOf f 6) hrole hrun hmax)
  case notManager => exact fun ht hrole => exec_ledgerTaken rfl ht (handoffIn_other (fr := frameOf f 6) hrole)
  case acked => exact ackRx_frees
  case mirrorNew =>
    intro ht hrole hrun hused hone hrel hall hroom _ hnone
    obtain ⟨k, hfree, hin⟩ := mirrorRecord_writes hroom ⟨hrel, hall⟩ hnone
    obtain ⟨u, hexec, hgseq, m, hheld⟩ := mirrorRx_holds ht hrole hrun (ledgerUsed_one hone hused) hone hin
    exact ⟨u, hexec, hgseq, k, m, hfree, hheld⟩
  case mirrorHeld =>
    intro ht hrole hrun hused hone hrel hall hfind hslot hzero
    have hroom : t.ldgUsed + ((ledgerRecs f.payload).filter t.newMirror).length ≤ 16320 := by
      simpa [hone, newMirror_held hfind] using hused
    obtain ⟨u, hexec, hgseq, hheld⟩ := mirrorRx_holds ht hrole hrun hroom hone (mirrorRecord_commits ⟨hrel, hall⟩ hfind hslot hzero)
    exact ⟨u, hexec, hgseq, hheld⟩
  case confirmed => exact confirmRx_syncs
  case released => exact releaseCursorRx_frees
  case handoff =>
    refine fun hrun hrole hadm hwin hrecs => ⟨fun hnil => ?_, fun l => ledgerHandoff_sends hrun hwin hrole hadm hrecs⟩
    have hexec := exec_ledgerHandoff hrun hwin hrole hadm hrecs
    rwa [hnil] at hexec
  case mirrorSend => exact fun hdep hrole hmirror hrun hwin => mirrorSend_sends hrun hwin hdep hrole hmirror
  case catchup => exact fun hdep hrole hmirror hrun hwin => catchupSend_sends hrun hwin hdep hrole hmirror
  case caughtUp => exact fun hdep hrole hmirror hrun hwin => catchupSend_ends hrun hwin hdep hrole hmirror
  case ackOther => exact fun hrole hrun hwin => ackSend_sends hrun hwin hrole
  case ackOwn => exact fun hrole hrun hwin => ackSend_own hrun hwin hrole

end Sys2Proof.Machine
end

section
/-! What the fabric and the Ledger leave of the link and of the beat (spec/01 R14 to R21, spec/07 R186 to R195, spec/09 R244 to R257):
accesses of memory, reports of memory errors and the work on the ring write no register of either, and nothing that either holds. -/

namespace Sys2Proof.Machine

variable {s t u : State} {i : Initiator} {r : Region} {a n : Nat}

/-! ### The relation -/

/-- The registers of the beat generator and of the link. -/
abbrev beatLinkReg (a : Nat) : Prop := (0x40010000 ≤ a ∧ a < 0x40020000) ∨ (0x40070000 ≤ a ∧ a < 0x40080000)

/-- From `s` to `u` no register of the beat generator or of the link changes, nor what either holds. -/
structure LinkKept (s u : State) : Prop where
  rg : ∀ a, beatLinkReg a → u.rg a = s.rg a
  lnk : u.lnk = s.lnk
  beat : u.beat = s.beat

namespace LinkKept

theorem refl (s : State) : LinkKept s s := ⟨fun _ _ => rfl, rfl, rfl⟩

theorem trans (h : LinkKept s u) (g : LinkKept u t) : LinkKept s t :=
  ⟨fun a ha => (g.rg a ha).trans (h.rg a ha), g.lnk.trans h.lnk, g.beat.trans h.beat⟩

/-- An update that keeps registers, link and beat generator continues the chain. -/
theorem kept (h : LinkKept s u) (hregs : t.regs = u.regs) (hlnk : t.lnk = u.lnk) (hbeat : t.beat = u.beat) : LinkKept s t :=
  h.trans ⟨fun a _ => rg_congr hregs a, hlnk, hbeat⟩

theorem setRg (h : LinkKept s u) (ha : ¬ beatLinkReg a) (v : Word) : LinkKept s (u.setRg a v) :=
  h.trans ⟨fun _ hb => rg_setRg_ne u v fun e => ha (e ▸ hb), rfl, rfl⟩

theorem setBit (h : LinkKept s u) (ha : ¬ beatLinkReg a) (k : Nat) (b : Bool) : LinkKept s (u.setBit a k b) := h.setRg ha _

theorem count (h : LinkKept s u) (ha : ¬ beatLinkReg a) (k : Nat) : LinkKept s (u.count a k) := h.setRg ha _

theorem raise (h : LinkKept s u) {src : Nat} (hsrc : src < 1024) : LinkKept s (u.raise src) := by
  refine h.trans ⟨fun b hb => rg_raise_ne u src ?_, State.raise_lnk u src, State.raise_beat u src⟩
  unfold ECX_PEND
  omega

theorem event (h : LinkKept s u) (ha : ¬ beatLinkReg a) (k : Nat) {src : Nat} (hsrc : src < 1024) : LinkKept s (u.event a k src) :=
  (h.setBit ha k true).raise hsrc

theorem setPend (h : LinkKept s u) {src : Nat} (hsrc : src < 1024) (b : Bool) : LinkKept s (u.setPend src b) := by
  refine h.trans ⟨fun a ha => rg_setPend_ne u src b ?_, State.setPend_lnk u src b, State.setPend_beat u src b⟩
  unfold ECX_PEND
  omega

theorem ite {c : Prop} [Decidable c] {x y : State} (hx : LinkKept s x) (hy : LinkKept s y) : LinkKept s (if c then x else y) := by
  split
  · exact hx
  · exact hy

/-- What an operation's second part keeps, its result's second part keeps. -/
theorem of_eq {α : Type} {x : α} {o : α × State} (h : LinkKept s o.2) (ho : o = (x, t)) : LinkKept s t := by rwa [ho] at h

theorem draw (h : LinkKept s u) : LinkKept s u.draw.2 := h.kept rfl rfl rfl

theorem fld (h : LinkKept s u) (ha : beatLinkReg a) (lo len : Nat) : u.fld a lo len = s.fld a lo len := fld_congr (h.rg a ha) lo len

theorem signal (h : LinkKept s u) {src : Nat} (hsrc : src < 1024) (v : Bool) : LinkKept s (u.signal src v) := by
  have hlvl : ¬ beatLinkReg (ECX_LVL (src / 32)) := by unfold ECX_LVL; omega
  have hpend : ¬ beatLinkReg (ECX_PEND (src / 32)) := by unfold ECX_PEND; omega
  have hset := h.setBit hlvl (src % 32) v
  have hfell : LinkKept s ((u.setBit (ECX_LVL (src / 32)) (src % 32) v).fallLevel src) := by
    have hecx : ∀ x : EcxSt, LinkKept s { u.setBit (ECX_LVL (src / 32)) (src % 32) v with ecx := x } := fun x =>
      hset.kept rfl rfl rfl
    unfold State.fallLevel
    exact .ite (hecx _) ((hecx _).setBit hpend _ _)
  unfold State.signal
  exact .ite h (.ite (.ite hset (.ite (hset.setPend hsrc _) (.ite hfell hset))) (.ite (hset.setPend hsrc _) hset))

/-! ### Reports of memory errors (R188, R190, R220 to R222) -/

theorem eccCount (h : LinkKept s u) (code a : Nat) (scrub ue : Bool) : LinkKept s (u.eccCount code a scrub ue) := by
  have hcaptured := fun v w => (h.setRg (by decide : ¬ beatLinkReg MEM_ERR_ADDR) v).setRg (by decide : ¬ beatLinkReg MEM_ERR_INFO) w
  unfold State.eccCount
  exact .ite
    (.ite (((hcaptured _ _).count (by decide) 1).event (by decide) 1 (by decide))
      (((hcaptured _ _).count (by decide) 1).event (by decide) 0 (by decide)))
    (.ite ((hcaptured _ _).event (by decide) 5 (by decide)) (((hcaptured _ _).count (by decide) 1).event (by decide) 4 (by decide)))

theorem copyRow (s : State) (row src dst : Nat) : LinkKept s (s.copyRow row src dst) := by
  unfold State.copyRow
  exact LinkKept.kept (List.foldlRecOn _ _ (LinkKept.refl s) fun x hx e _ => hx.eccCount _ _ _ _) rfl rfl rfl

theorem retireRow (s : State) {row : Nat} (hrow : row < 0x800) : LinkKept s (s.retireRow row) := by
  have hcopied : ∀ src dst l, LinkKept s { s.copyRow row src dst with ms := l } := fun src dst l =>
    (copyRow s row src dst).kept rfl rfl rfl
  have hhole : ¬ beatLinkReg (MEM_HOLE (row / 32)) := by unfold MEM_HOLE; omega
  unfold State.retireRow
  exact .ite (hcopied _ _ _) (.ite (hcopied _ _ _) (((LinkKept.refl s).setBit hhole _ true).event (by decide) 3 (by decide)))

theorem retireEngine (s : State) (n : Nat) : LinkKept s (s.retireEngine n) := by
  have hset : ∀ x : XpaSt, LinkKept s { s with xpa := x } := fun x => (LinkKept.refl s).kept rfl rfl rfl
  unfold State.retireEngine
  split
  · exact .refl s
  · exact .ite ((hset _).setBit (by decide) 9 true) (.refl s)

theorem setChan (h : LinkKept s u) (ch first count st : Nat) : LinkKept s (u.setChan ch first count st) := by
  have hstat : ¬ beatLinkReg (FLT_CHSTAT ch) := by unfold FLT_CHSTAT; omega
  exact (h.setRg hstat _).kept rfl rfl rfl

theorem queueRecord (h : LinkKept s u) (chan ev count first : Nat) (detail : Word) (addr : Nat) :
    LinkKept s (u.queueRecord chan ev count first detail addr) := by
  unfold State.queueRecord
  exact .ite (h.kept rfl rfl rfl) ((h.count (by decide : ¬ beatLinkReg FLT_RECOVF) 1).event (by decide) 5 (by decide))

/-- The channels of rows and of engines touch no port when they are retired. -/
theorem retireBlock (s : State) {ch : Nat} (hch : ch < 0x810) : LinkKept s (s.retireBlock ch) := by
  unfold State.retireBlock
  split
  next hrow => exact retireRow s hrow
  exact retireEngine s _

theorem retire (h : LinkKept s u) {ch : Nat} (hch : ch < 0x810) (first count : Nat) (detail : Word) :
    LinkKept s (u.retire ch first count detail) := by
  have hmarked := ((h.setChan ch first count 2).setRg (by decide : ¬ beatLinkReg FLT_LASTCH) (w32 ch)).event
    (by decide : ¬ beatLinkReg FLT_EVT) 2 (by decide : 106 < 1024)
  exact (hmarked.queueRecord ch 1 count first detail _).trans (retireBlock _ hch)

theorem faultReport (h : LinkKept s u) {ch : Nat} (hch : ch < 0x810) (detail : Word) : LinkKept s (u.faultReport ch detail) := by
  have hnoted : ∀ first count, LinkKept s ((u.setChan ch first count 1).event FLT_EVT 1 105) := fun first count =>
    (h.setChan ch first count 1).event (by decide) 1 (by decide)
  unfold State.faultReport
  split
  · exact h
  · exact .ite h (.ite ((hnoted _ _).retire hch _ _ _) (hnoted _ _))

end LinkKept

/-! ### Where an access lands (R14) -/

/-- An address of SRAM lies below its end, and an expert memory is one of the sixteen: their errors are reported on channels of rows and
engines. -/
def Region.reports (r : Region) (a : Nat) : Prop := (r = .sram → a < 0x10800000) ∧ ∀ n, r = .expert n → n < 16

theorem regionOf_of_decodeFor (h : decodeFor i a = some r) : regionOf a = some r := by
  unfold decodeFor at h
  split at h
  next hown => split at h <;> simp_all
  next hpriv => split at h <;> simp_all
  next hlram => split at h <;> simp_all
  next => exact h

theorem ite_some_cases {α : Type} {c : Prop} [Decidable c] {x y : α} {o : Option α} (h : (if c then some x else o) = some y) :
    (c ∧ x = y) ∨ o = some y := by
  split at h
  next hc => exact .inl ⟨hc, Option.some.inj h⟩
  next => exact .inr h

theorem reports_of_regionOf (h : regionOf a = some r) : r.reports a := by
  repeat
    rcases ite_some_cases h with ⟨hin, rfl⟩ | h
    · exact ⟨fun e => by cases e <;> omega, fun m e => by cases e <;> omega⟩
  cases h

/-- A core's own TCM and its place on the memory map report on no channel. -/
theorem reports_aliasOf (h : decodeFor i a = some r) : (aliasOf i r a).1.reports (aliasOf i r a).2 := by
  unfold aliasOf
  split
  · exact ⟨nofun, nofun⟩
  · exact reports_of_regionOf (regionOf_of_decodeFor h)

theorem reports_of_narrow (h : eccBytes r < n) (hn : n ≤ 8) (b : Nat) : r.reports b := by
  refine ⟨fun hr => ?_, fun m hr => ?_⟩ <;> rw [hr] at h <;> exact absurd h (Nat.not_lt.mpr hn)

namespace LinkKept

/-! ### Memories (R186 to R195) -/

theorem eccFound (h : LinkKept s u) (hr : r.reports a) (scrub ue : Bool) : LinkKept s (u.eccFound r a scrub ue) := by
  obtain ⟨hrow, hengine⟩ := hr
  unfold State.eccFound
  cases r with
  | sram => exact (h.eccCount 0 a scrub ue).faultReport (by have := hrow rfl; omega) _
  | expert n => exact .ite ((h.eccCount 1 a scrub ue).faultReport (by have := hengine n rfl; omega) _) (h.eccCount 1 a scrub ue)
  | mramRing => exact h.eccCount 2 a scrub ue
  | mramKeys => exact h.eccCount 3 a scrub ue
  | _ => exact h

theorem endProgram (h : LinkKept s u) (r : Region) : LinkKept s (u.endProgram r) := by
  cases r <;> exact h.kept rfl rfl rfl

theorem setEcc (h : LinkKept s u) (w : Nat) (m : Option EccMark) : LinkKept s (u.setEcc w m) := h.kept rfl rfl rfl

theorem drawBytes (h : LinkKept s u) (n : Nat) : LinkKept s (u.drawBytes n).2 := by
  induction n generalizing u with
  | zero => exact h
  | succ n ih => exact ih h.draw

theorem xipLine (h : LinkKept s u) (a : Nat) (given : List Byte) : LinkKept s (u.xipLine a given).2 := by
  have hmiss : ∀ m l, LinkKept s { (u.drawBytes m).2 with ospi := { (u.drawBytes m).2.ospi with line := l } } := fun m l =>
    (h.drawBytes m).kept rfl rfl rfl
  unfold State.xipLine
  dsimp only
  split
  · split
    · exact h
    · exact hmiss _ _
  · exact hmiss _ _

theorem eccRead (h : LinkKept s u) (hr : r.reports a) (p n : Nat) : LinkKept s (u.eccRead r a p n).2 := by
  unfold State.eccRead
  dsimp only
  split
  · exact h
  · refine LinkKept.eccFound ?_ hr false false
    split
    · exact h
    · exact h
    · exact h.setEcc _ none
  · exact h.eccFound hr false true

theorem memRead (h : LinkKept s u) (hr : r.reports a) (g0 : Bool) (hn : n ≤ 8) : LinkKept s (u.memRead r g0 a n).2 := by
  have hend := h.endProgram r
  unfold State.memRead
  dsimp only
  split
  · exact hend.xipLine a []
  · split
    · exact hend
    · split
      · exact hend
      next p _ =>
        split
        next hwide =>
          have hlow := hend.eccRead hr p 4
          split
          next hread => exact hlow.of_eq hread
          next hread =>
            have hhigh := (hlow.of_eq hread).eccRead (reports_of_narrow hwide hn (a + 4)) (p + 4) 4
            split
            next hread' => exact hhigh.of_eq hread'
            next hread' => exact hhigh.of_eq hread'
        next => exact hend.eccRead hr p n

theorem poke (h : LinkKept s u) (p n v : Nat) : LinkKept s (u.poke p n v) :=
  h.kept (regs_pokeBytes u p _) (pokeBytes_keeps State.lnk (fun _ _ _ => rfl) u p _) (pokeBytes_keeps State.beat (fun _ _ _ => rfl) u p _)

theorem eccWrite (h : LinkKept s u) (hr : r.reports a) (p n v : Nat) : LinkKept s (u.eccWrite r a p n v).2 := by
  have hput : ∀ x, LinkKept s x → LinkKept s ((State.poke (match (generalizing := false) r with
      | .mramRing => x.beginProgram 0 (eccWord r p)
      | .mramKeys => x.beginProgram 1 (eccWord r p)
      | _ => x) p n v).setEcc (eccWord r p) none) := fun x hx => by
    refine LinkKept.setEcc (LinkKept.poke ?_ p n v) _ none
    split
    · exact hx.kept rfl rfl rfl
    · exact hx.kept rfl rfl rfl
    · exact hx
  unfold State.eccWrite
  dsimp only
  split
  · exact hput u h
  · split
    · exact hput u h
    · exact hput _ (h.eccFound hr false false)
    · exact h.eccFound hr false true

theorem breakReservations (h : LinkKept s u) (by_ : Option CoreId) (a n : Nat) : LinkKept s (u.breakReservations by_ a n) :=
  h.kept (regs_breakReservations u by_ a n) (breakReservations_keeps u State.lnk (fun _ c _ => by cases c <;> rfl) by_ a n)
    (breakReservations_keeps u State.beat (fun _ c _ => by cases c <;> rfl) by_ a n)

theorem memWrite (h : LinkKept s u) (hr : r.reports a) (by_ : Option CoreId) (hn : n ≤ 8) (v : Nat) :
    LinkKept s (u.memWrite r by_ a n v).2 := by
  unfold State.memWrite
  split
  · exact h
  next p _ =>
    have hout : LinkKept s (if eccBytes r < n then (u.eccWrite r a p 4 v).2.eccWrite r (a + 4) (p + 4) 4 (v / 0x100000000)
        else u.eccWrite r a p n v).2 := by
      split
      next hwide => exact (h.eccWrite hr p 4 v).eccWrite (reports_of_narrow hwide hn (a + 4)) (p + 4) 4 _
      next => exact h.eccWrite hr p n v
    generalize (if eccBytes r < n then (u.eccWrite r a p 4 v).2.eccWrite r (a + 4) (p + 4) 4 (v / 0x100000000)
      else u.eccWrite r a p n v) = out at hout
    show LinkKept s (if out.1 = true then (true, out.2.breakReservations by_ a n) else out).2
    split
    · exact hout.breakReservations by_ a n
    · exact hout

theorem mramPut (h : LinkKept s u) (a v : Nat) : LinkKept s (u.mramPut a v) :=
  h.kept (mramPut_keeps State.regs (fun _ _ _ => rfl) (fun _ _ => rfl) (fun t c k => regs_setCore t c k) u a v) (lnk_mramPut u a v)
    (mramPut_keeps State.beat (fun _ _ _ => rfl) (fun _ _ => rfl) (fun t c k => beat_setCore t c k) u a v)

end LinkKept

/-! ### Accesses over the fabric (R14 to R21) -/

namespace LinkKept

theorem ferr (h : LinkKept s u) (i : Initiator) (a : Nat) (wr : Bool) (z : Size) (k : ErrKind) : LinkKept s (u.ferr i a wr z k) := by
  have hcounted := (h.raise (by decide : 28 < 1024)).count (by decide : ¬ beatLinkReg SYS_FERR_COUNT) 1
  unfold State.ferr
  exact .ite hcounted ((hcounted.setRg (by decide) _).setRg (by decide) _)

theorem logRefusal (h : LinkKept s u) {type : Nat} (htype : type ≤ 2) (a i : Nat) : LinkKept s (u.logRefusal type a i) := by
  have hevt := h.event (by decide : ¬ beatLinkReg GNT_EVT) (type - 1) (by omega : 95 + type < 1024)
  unfold State.logRefusal
  exact .ite (hevt.kept rfl rfl rfl) ((hevt.count (by decide : ¬ beatLinkReg GNT_LOGLOST) 1).event (by decide) 2 (by decide))

theorem refuse (h : LinkKept s u) (i : Initiator) (a : Nat) (wr : Bool) (z : Size) (k : ErrKind) {log : Option Nat}
    (hlog : ∀ type, log = some type → type ≤ 2) : LinkKept s (u.refuse i a wr z k log) := by
  have hlogged : LinkKept s (match (generalizing := false) log with
      | some type => (u.ferr i a wr z k).logRefusal type a i.code
      | none => u.ferr i a wr z k) := by
    cases log with
    | none => exact h.ferr i a wr z k
    | some type => exact (h.ferr i a wr z k).logRefusal (hlog type rfl) a i.code
  unfold State.refuse
  dsimp only
  split
  · exact .ite (hlogged.kept rfl rfl rfl) hlogged
  · exact hlogged

end LinkKept

/-- What the Gauntlet logs of a judgement, if anything, is a violation or a locked write. -/
def LogSound (o : Option (ErrKind × Option Nat)) : Prop := ∀ k type, o = some (k, some type) → type ≤ 2

namespace LogSound

theorem passed : LogSound none := nofun

theorem unlogged (k : ErrKind) : LogSound (some (k, none)) := fun _ _ h => by cases h

theorem logged (k : ErrKind) (c : Prop) [Decidable c] {type : Nat} (htype : type ≤ 2) :
    LogSound (some (k, if c then some type else none)) :=
  fun _ _ h => by split at h <;> cases h; exact htype

theorem ite {c : Prop} [Decidable c] {x y : Option (ErrKind × Option Nat)} (hx : LogSound x) (hy : LogSound y) :
    LogSound (if c then x else y) := by
  split
  · exact hx
  · exact hy

end LogSound

theorem logSound_judge (s : State) (i : Initiator) (a : Nat) (wr : Bool) (z : Size) (v : Nat) : LogSound (s.judge i a wr z v) := by
  unfold State.judge
  split
  · exact .unlogged _
  · refine .ite (.logged _ _ (by decide)) (.ite (.logged _ _ (by decide)) (.ite (.unlogged _) (.ite (.unlogged _) (.ite .passed ?_))))
    split
    · exact .unlogged _
    · exact .ite .passed (.ite (fun _ _ h => by cases h; decide) (.ite (.unlogged _) .passed))

theorem log_of_judge {wr : Bool} {z : Size} {v : Nat} {k : ErrKind} {log : Option Nat} (h : s.judge i a wr z v = some (k, log)) {type : Nat}
    (hlog : log = some type) : type ≤ 2 := logSound_judge s i a wr z v k type (hlog ▸ h)

namespace LinkKept

theorem fabRead (h : LinkKept s u) (i : Initiator) (a : Nat) (z : Size) : LinkKept s (u.fabRead i a z).2 := by
  have hz : z.bytes ≤ 8 := by cases z <;> decide
  unfold State.fabRead
  split
  next hj => exact h.refuse i a false z _ fun _ => log_of_judge hj
  next =>
    split
    next => exact h
    next r hr =>
      have hread := h.memRead (reports_aliasOf hr) (i == .g0) hz
      dsimp only
      split
      next hval => exact hread.of_eq hval
      next hval => exact (hread.of_eq hval).ferr i a false z .uncorr

theorem fabWrite (h : LinkKept s u) (i : Initiator) (a : Nat) (z : Size) (v : Nat) : LinkKept s (u.fabWrite i a z v).2 := by
  have hz : z.bytes ≤ 8 := by cases z <;> decide
  unfold State.fabWrite
  split
  next hj => exact h.refuse i a true z _ fun _ => log_of_judge hj
  next =>
    split
    next => exact h
    next r hr =>
      have hwrite := h.memWrite (reports_aliasOf hr) i.core? hz v
      dsimp only
      split
      next hval => exact hwrite.of_eq hval
      next hval => exact (hwrite.of_eq hval).ferr i a true z .uncorr

theorem fabReadBytes (h : LinkKept s u) (i : Initiator) (a n : Nat) : LinkKept s (u.fabReadBytes i a n).2 := by
  induction n generalizing u a with
  | zero => exact h
  | succ n ih =>
    have hread := h.fabRead i a .byte
    rw [State.fabReadBytes]
    refine ih (u := Prod.snd (match (generalizing := false) u.fabRead i a .byte with
      | (.ok v, t) => (v, t)
      | (.err _, t) => t.draw)) ?_ (a + 1)
    split
    next hval => exact hread.of_eq hval
    next hval => exact (hread.of_eq hval).draw

theorem fabWriteBytes (h : LinkKept s u) (i : Initiator) (a : Nat) (l : List Byte) : LinkKept s (u.fabWriteBytes i a l) := by
  induction l generalizing u a with
  | nil => exact h
  | cons b l ih => exact ih (h.fabWrite i a .byte b.toNat) (a + 1)

/-! ### The Ledger's ring (R244 to R261) -/

theorem ldgEvt (h : LinkKept s u) {k : Nat} (hk : k < 32) : LinkKept s (u.ldgEvt k) :=
  h.event (by decide) k (by omega)

theorem setLdg (h : LinkKept s u) (x : LdgSt) : LinkKept s (u.setLdg x) := h.kept rfl rfl rfl

theorem setNv (h : LinkKept s u) (x : LdgNv) : LinkKept s (u.setNv x) := h.kept rfl rfl rfl

theorem setOrg (h : LinkKept s u) (d last : Nat) : LinkKept s (u.setOrg d last) := h.setNv _

theorem mramSettle (h : LinkKept s u) : LinkKept s u.mramSettle := h.kept rfl rfl rfl

theorem usedChanged (h : LinkKept s u) : LinkKept s u.usedChanged := by
  unfold State.usedChanged
  exact .ite ((h.setLdg _).ldgEvt (by decide)) (.ite ((h.setLdg _).ldgEvt (by decide)) h)

theorem writeSlot (h : LinkKept s u) (k : Nat) (l : List Nat) : LinkKept s (u.writeSlot k l) := by
  have hbody : LinkKept s ((List.range 7).foldl (fun x j => x.mramPut (slotAddr k (j + 1)) (wd l (j + 1)))
      (u.mramPut (copyAddr k) (wd l 0))) :=
    List.foldlRecOn _ _ (h.mramPut _ _) fun x hx j _ => hx.mramPut _ _
  exact (((hbody.mramPut _ _).mramSettle).setLdg _).usedChanged

theorem defectSlot (h : LinkKept s u) (k : Nat) (l : List Nat) : LinkKept s (u.defectSlot k l) :=
  (((h.mramPut _ _).mramPut _ _).mramSettle).setLdg _

theorem setHeader (h : LinkKept s u) (k w : Nat) : LinkKept s (u.setHeader k w) := by
  unfold State.setHeader
  split
  · exact h
  · exact (((h.mramPut _ _).mramSettle.mramPut _ _).mramSettle).setLdg _

theorem freeSlot (h : LinkKept s u) (k : Nat) : LinkKept s (u.freeSlot k) := by
  unfold State.freeSlot
  split
  · exact h
  · exact (((h.mramPut _ _).mramSettle.mramPut _ _).setLdg _).usedChanged

theorem acceptInto (h : LinkKept s u) (l : List Nat) (pick bad : Nat) : LinkKept s (u.acceptInto l pick bad).2 := by
  unfold State.acceptInto
  split
  · exact h
  · split
    · exact h.writeSlot _ l
    · dsimp only
      split
      · exact h.defectSlot _ l
      · split
        · exact (h.defectSlot _ l).writeSlot _ l
        · exact (h.defectSlot _ l).defectSlot _ l

theorem applyTally (h : LinkKept s u) (k inc g : Nat) : LinkKept s (u.applyTally k inc g) := by
  unfold State.applyTally
  exact .ite ((((h.mramPut _ _).mramPut _ _).setLdg _).ldgEvt (by decide)) (((h.mramPut _ _).mramPut _ _).setLdg _)

theorem applyTallies (h : LinkKept s u) (ts : List Nat) (l : List Nat) (g : Nat) : LinkKept s (u.applyTallies ts l g) :=
  List.foldlRecOn _ _ h fun x hx k _ => by
    split
    · exact hx
    · exact hx.applyTally k _ g

theorem commitSlot (h : LinkKept s u) (k g : Nat) : LinkKept s (u.commitSlot k g) := by
  unfold State.commitSlot
  split
  · exact h
  · exact ((h.setHeader k _).applyTallies _ _ g).setNv _

theorem commitRun (h : LinkKept s u) (d n : Nat) : LinkKept s (u.commitRun d n) := by
  induction n generalizing u with
  | zero => exact h
  | succ n ih =>
    unfold State.commitRun
    split
    · exact h
    · split
      · exact h
      next k _ =>
        split
        · exact h.ldgEvt (by decide)
        · have hcommitted : ∀ g last x, LinkKept s (((u.commitSlot k g).setOrg d last).setLdg x) := fun g last x =>
            ((h.commitSlot k g).setOrg d last).setLdg x
          exact ih (.ite ((hcommitted _ _ _).ldgEvt (by decide)) (hcommitted _ _ _))

theorem tryCommit (h : LinkKept s u) (d : Nat) : LinkKept s (u.tryCommit d) := h.commitRun d _

/-! ### Frames of the Ledger (R253 to R257) -/

theorem undoRecord (h : LinkKept s u) (k : Nat) (l : List Nat) : LinkKept s (u.undoRecord k l) := by
  have horg : LinkKept s (match (generalizing := false) u.orgLast (recOrigin l) with
      | some last => if recOseq l ≤ last then u.setOrg (recOrigin l) (recOseq l - 1) else u
      | none => u) := by
    split
    · exact .ite (h.setOrg _ _) h
    · exact h
  unfold State.undoRecord
  exact .ite ((horg.setHeader k _).setNv _) (horg.freeSlot k)

theorem learnTerm (h : LinkKept s u) (term : Nat) : LinkKept s (u.learnTerm term) := by
  have hundone : ∀ l : List (Nat × List Nat), LinkKept s (l.foldl (fun x e => x.undoRecord e.1 e.2) u.draw.2) := fun l =>
    List.foldlRecOn _ _ h.draw fun x hx e _ => hx.undoRecord e.1 e.2
  unfold State.learnTerm
  exact .ite h ((((hundone _).setNv _).setLdg _).ldgEvt (by decide))

theorem takeRecord (h : LinkKept s u) (l : List Nat) : LinkKept s (u.takeRecord l) := by
  have horg : LinkKept s (if (u.orgLast (recOrigin l)).isNone then u.setOrg (recOrigin l) (recOseq l - 1) else u) :=
    .ite (h.setOrg _ _) h
  unfold State.takeRecord
  exact .ite (horg.setLdg _) (.ite horg ((horg.draw.acceptInto _ _ 0).tryCommit _))

theorem mirrorRecord (h : LinkKept s u) (l : List Nat) : LinkKept s (u.mirrorRecord l) := by
  unfold State.mirrorRecord
  dsimp only
  split
  · exact h
  · have horg : ∀ q, LinkKept s (u.setOrg (recOrigin l) q) := fun q => h.setOrg _ q
    split
    · exact .ite ((horg _).commitSlot _ _) (horg _)
    · have hput := fun q => (horg q).draw.acceptInto (wd l 0 % 65536 :: l.drop 1)
      split
      next hno => exact (hput _ _ 0).of_eq hno
      next hyes =>
        have hwritten := (hput _ _ 0).of_eq hyes
        split
        · exact hwritten.commitSlot _ _
        · exact hwritten

theorem markAcked (h : LinkKept s u) (q : Nat) : LinkKept s (u.markAcked q) :=
  List.foldlRecOn _ _ (h.setNv _) fun _ hx e _ => hx.freeSlot e.1

theorem releaseTo (h : LinkKept s u) (g : Nat) : LinkKept s (u.releaseTo g) := by
  unfold State.releaseTo
  exact .ite h (List.foldlRecOn _ _ (h.setNv _) fun _ hx k _ => hx.freeSlot k)

end LinkKept

end Sys2Proof.Machine
end

section
/-! The ports of the vehicle link (spec/10 R275, R289, R291): how a port goes up and down, and what an error that it reports leaves. -/

namespace Sys2Proof.Machine

variable {s t u : State} {p : Nat} {c : Fin 3} {detail : Word}

/-! ### A port that goes DOWN -/

theorem bit_portDown (hup : s.portUp p = true) : (s.portDown p).bit LNK_EVT 1 = true := by
  rw [State.portDown, if_pos hup]
  exact bit_lnkEvt _ (by decide)

theorem mem_portDown (s : State) (p : Nat) : (s.portDown p).mem = s.mem := by
  unfold State.portDown
  split
  · simp [State.lnkEvt, State.setFld, State.setBit, State.setPort]
  · rfl

/-- What the PHY says, and whether a peer-delay exchange is open, are no part of what a port that goes DOWN loses. -/
theorem port_portDown (s : State) (p : Nat) :
    ((s.portDown p).port p).phy = (s.port p).phy ∧ ((s.portDown p).port p).pdelayOpen = (s.port p).pdelayOpen := by
  unfold State.portDown
  split
  · simp only [State.port, State.lnkEvt, State.event_lnk]
    simp [State.setFld, State.setBit, State.setPort, State.setRg, smGet_smSet, PortSt.restart]
  · exact ⟨rfl, rfl⟩

theorem perr_ne_evt (p : Nat) : LNK_PERR p ≠ LNK_EVT := by unfold LNK_PERR LNK_EVT; omega

theorem rg_perr_portDown (s : State) (p : Nat) : (s.portDown p).rg (LNK_PERR p) = s.rg (LNK_PERR p) := by
  have hpend : LNK_PERR p ≠ ECX_PEND ((192 + 1) / 32) := by unfold LNK_PERR ECX_PEND; omega
  have hstat : LNK_PERR p ≠ LNK_PSTAT p := by unfold LNK_PERR LNK_PSTAT; omega
  have hcred : LNK_PERR p ≠ LNK_CRED p := by unfold LNK_PERR LNK_CRED; omega
  unfold State.portDown
  split
  · rw [State.lnkEvt, rg_event_ne _ _ _ _ hpend (perr_ne_evt p), rg_setRg_ne _ _ hcred, rg_setBit_ne _ _ _ hstat,
      rg_setFld_ne _ _ _ _ hstat]
    exact rg_setBit_ne s _ _ hstat
  · rfl

/-! ### An error that a port reports (R222, R291, R292) -/

/-- What the report of an error on the channel of port `p` leaves: memory, the port's count of errors, and what the PHY says. A port that
is UP stays UP, or goes DOWN with its event. -/
structure PortFault (p : Nat) (s u : State) : Prop where
  mem : u.mem = s.mem
  perr : u.rg (LNK_PERR p) = s.rg (LNK_PERR p)
  phy : (u.port p).phy = (s.port p).phy
  pdelay : (u.port p).pdelayOpen = (s.port p).pdelayOpen
  marked : s.portUp p = true ∨ s.bit LNK_EVT 1 = true → u.portUp p = true ∨ u.bit LNK_EVT 1 = true

namespace PortFault

theorem refl (p : Nat) (s : State) : PortFault p s s := ⟨rfl, rfl, rfl, rfl, id⟩

theorem trans (h : PortFault p s u) (g : PortFault p u t) : PortFault p s t :=
  ⟨g.mem.trans h.mem, g.perr.trans h.perr, g.phy.trans h.phy, g.pdelay.trans h.pdelay, g.marked ∘ h.marked⟩

theorem ite {q : Prop} [Decidable q] {x y : State} (hx : PortFault p s x) (hy : PortFault p s y) :
    PortFault p s (if q then x else y) := by
  split
  · exact hx
  · exact hy

/-- What keeps the link keeps its ports. -/
theorem of_kept (hp : p ≤ 2) (h : LinkKept s u) (hmem : u.mem = s.mem) : PortFault p s u := by
  have hport : u.port p = s.port p := by rw [State.port, State.port, h.lnk]
  have hstat : beatLinkReg (LNK_PSTAT p) := by unfold beatLinkReg LNK_PSTAT; omega
  have hperr : beatLinkReg (LNK_PERR p) := by unfold beatLinkReg LNK_PERR; omega
  refine ⟨hmem, h.rg _ hperr, by rw [hport], by rw [hport], fun hs => ?_⟩
  rwa [portUp_congr (h.rg _ hstat), bit_congr (h.rg LNK_EVT (by decide))]

theorem portDown (s : State) (p : Nat) : PortFault p s (s.portDown p) := by
  obtain ⟨hphy, hpdelay⟩ := port_portDown s p
  refine ⟨mem_portDown s p, rg_perr_portDown s p, hphy, hpdelay, fun hs => ?_⟩
  by_cases hup : s.portUp p = true
  · exact .inr (bit_portDown hup)
  · rwa [State.portDown, if_neg hup]

theorem suspected (hp : p ≤ 2) (s : State) (first count : Nat) : PortFault p s (s.suspected (0x810 + p) first count) :=
  of_kept hp (((LinkKept.refl s).setChan _ first count 1).event (by decide) 1 (by decide)) (by simp [State.suspected, State.setChan])

theorem retire (hp : p ≤ 2) (s : State) (first count : Nat) (detail : Word) :
    PortFault p s (s.retire (0x810 + p) first count detail) := by
  have hmarked := (((LinkKept.refl s).setChan (0x810 + p) first count 2).setRg (by decide : ¬ beatLinkReg FLT_LASTCH)
    (w32 (0x810 + p))).event (by decide : ¬ beatLinkReg FLT_EVT) 2 (by decide : 106 < 1024)
  have hqueued : ∀ addr, LinkKept s ((s.retireMarked (0x810 + p) first count).queueRecord (0x810 + p) 1 count first detail addr) :=
    fun addr => hmarked.queueRecord (0x810 + p) 1 count first detail addr
  have hblock : ∀ t : State, t.retireBlock (0x810 + p) = t.portDown p := fun t => by
    rw [State.retireBlock, if_neg (by omega), if_neg (by omega), if_pos (by omega), Nat.add_sub_cancel_left]
  show PortFault p s (((s.retireMarked (0x810 + p) first count).queueRecord (0x810 + p) 1 count first detail _).retireBlock (0x810 + p))
  rw [hblock]
  exact (of_kept hp (hqueued _)
    ((writesOnly_queueRecord _ _ _ _ _ _ _).mem.trans (mem_retireMarked s _ _ _))).trans (portDown _ p)

theorem faultReport (hp : p ≤ 2) (s : State) (detail : Word) : PortFault p s (s.faultReport (0x810 + p) detail) := by
  unfold State.faultReport
  split
  · exact .refl p s
  · exact .ite (.refl p s) (.ite ((suspected hp s _ _).trans (retire hp _ _ _ _)) (suspected hp s _ _))

end PortFault

/-- An error of a port counts in its LNK_PERR, with the rest as its report leaves it. -/
theorem portFault_portError (hp : p ≤ 2) (s : State) (kind w : Nat) :
    PortFault p (s.countWrap (LNK_PERR p) 1) (s.portError p kind w) := .faultReport hp _ _

theorem mem_portError (hp : p ≤ 2) (s : State) (kind w : Nat) : (s.portError p kind w).mem = s.mem :=
  (portFault_portError hp s kind w).mem

theorem perr_portError (hp : p ≤ 2) (s : State) (kind w : Nat) : (s.portError p kind w).rg (LNK_PERR p) = s.rg (LNK_PERR p) + 1 :=
  (portFault_portError hp s kind w).perr.trans (rg_setRg_same s _ _)

theorem marked_portError (hp : p ≤ 2) (kind w : Nat) (hup : s.portUp p = true) :
    (s.portError p kind w).portUp p = true ∨ (s.portError p kind w).bit LNK_EVT 1 = true := by
  have hne : LNK_PSTAT p ≠ LNK_PERR p := by unfold LNK_PSTAT LNK_PERR; omega
  exact (portFault_portError hp s kind w).marked (.inl ((portUp_congr (rg_setRg_ne s _ hne)).trans hup))

/-! ### PORT_UP (R275) -/

/-- Port `p` after its PHY has said whether it has link. -/
def State.phySet (s : State) (p : Nat) (b : Bool) : State := s.setPort p { s.port p with phy := b }

theorem phy_phySet (s : State) (p : Nat) (b : Bool) : ((s.phySet p b).port p).phy = b := by
  rw [State.phySet, port_setPort, if_pos rfl]

theorem portAble_phySet : (s.phySet p true).portAble p = true ↔
    s.bit (LNK_PORT p) 0 = true ∧ s.chanState (0x810 + p) ≠ 2 ∧ (p = 2 ∨ s.adm ≠ 0) := by
  have hable : (s.phySet p true).portAble p =
      (((s.phySet p true).port p).phy && s.bit (LNK_PORT p) 0 && s.chanState (0x810 + p) != 2 && (p == 2 || s.adm != 0)) := rfl
  rw [hable, phy_phySet]
  simp [and_assoc]

theorem port_portBring (s : State) (p : Nat) : ((s.portBring p).port p).phy = (s.port p).phy := by
  unfold State.portBring
  split
  · simp only [State.port, State.lnkEvt, State.event_lnk]
    simp [State.setBit, State.setPort, State.setRg, smGet_smSet, PortSt.restart]
  · rfl

theorem fin3_ne_two : (c ≠ 2 ∧ s.adm = 0) ↔ ¬ (c.val = 2 ∨ s.adm ≠ 0) := by
  simp [Fin.ext_iff]

theorem portUp_rises (hen : s.bit (LNK_PORT c.val) 0 = true) (hch : s.chanState (0x810 + c.val) ≠ 2) (hdown : s.portUp c.val = false)
    (hrun : c = 2 ∨ s.adm ≠ 0) : Ends (.portUp c) s (fun u => u.portUp c.val = true ∧ (u.port c.val).phy = true ∧
      u.bit LNK_EVT 1 = true ∧ u.mem = s.mem) := by
  have hable := portAble_phySet.mpr ⟨hen, hch, hrun.imp_left (congrArg Fin.val)⟩
  have hbring : (s.phySet c.val true).portBring c.val = (State.setBit (State.setPort _ _ _) _ 0 true).lnkEvt 1 :=
    if_pos (by rw [hable, show (s.phySet c.val true).portUp c.val = false from hdown]; rfl)
  refine ⟨(s.phySet c.val true).portBring c.val, rfl, portUp_portBring hable, by rw [port_portBring, phy_phySet], ?_, ?_⟩
  · rw [hbring]
    exact bit_lnkEvt _ (by decide)
  · rw [hbring]
    simp [State.lnkEvt, State.setBit, State.setPort, State.phySet]

theorem portUp_stays (h : s.bit (LNK_PORT c.val) 0 = false ∨ s.chanState (0x810 + c.val) = 2 ∨ s.portUp c.val = true ∨
    (c ≠ 2 ∧ s.adm = 0)) : Ends (.portUp c) s (fun u => (u.port c.val).phy = true ∧ u.regs = s.regs ∧ u.mem = s.mem) := by
  have hstays : (s.phySet c.val true).portBring c.val = s.phySet c.val true := by
    refine if_neg fun hbring => ?_
    obtain ⟨hable, hdown⟩ := Bool.and_eq_true_iff.mp hbring
    obtain ⟨hen, hch, hrun⟩ := portAble_phySet.mp hable
    rcases h with h | h | h | h
    · exact absurd (hen.symm.trans h) (by decide)
    · exact hch h
    · exact absurd (hdown.symm.trans (congrArg (!·) h)) (by decide)
    · exact fin3_ne_two.mp h hrun
  exact ⟨(s.phySet c.val true).portBring c.val, rfl, by rw [hstays, phy_phySet], by rw [hstays]; rfl, by rw [hstays]; rfl⟩

/-! ### PORT_DOWN and PORT_SILENCE (R275, R291) -/

theorem portDown_falls (hup : s.portUp c.val = true) : Ends (.portDown c) s (fun u => u.portUp c.val = false ∧
    (u.port c.val).phy = false ∧ u.rg (LNK_PERR c.val) = s.rg (LNK_PERR c.val) + 1 ∧ u.bit LNK_EVT 1 = true ∧ u.mem = s.mem) := by
  have hp : c.val ≤ 2 := by omega
  let t := s.phySet c.val false
  have hfault : PortFault c.val (t.portError c.val 3 0) ((t.portError c.val 3 0).portDown c.val) := .portDown _ _
  have hdown := portDown_down (t.portError c.val 3 0) hp
  refine ⟨(t.portError c.val 3 0).portDown c.val, congrArg Host.Outcome.next (if_pos hup), hdown, ?_, ?_, ?_, ?_⟩
  · exact (hfault.phy.trans (portFault_portError hp t 3 0).phy).trans (phy_phySet s c.val false)
  · exact hfault.perr.trans (perr_portError hp t 3 0)
  · exact (hfault.marked (marked_portError hp 3 0 hup)).resolve_left (by rw [hdown]; decide)
  · exact hfault.mem.trans (mem_portError hp t 3 0)

theorem portDown_stays (hdown : s.portUp c.val = false) :
    Ends (.portDown c) s (fun u => (u.port c.val).phy = false ∧ u.regs = s.regs ∧ u.mem = s.mem) :=
  ⟨s.phySet c.val false, congrArg Host.Outcome.next (if_neg (Bool.eq_false_iff.mp hdown)), phy_phySet s _ _, rfl, rfl⟩

theorem portSilence_falls {p : Fin 2} (hadm : s.adm = 3 ∨ s.adm = 4) (hup : s.portUp p.val = true)
    (hsilent : (s.rg LNK_DEADB).toNat ≤ (s.port p.val).silent) :
    Ends (.portSilence p) s (fun u => u.portUp p.val = false ∧ u.bit LNK_EVT 1 = true ∧ u.mem = s.mem) :=
  ⟨s.portDown p.val, congrArg Host.Outcome.next (if_pos ⟨hadm, hsilent⟩), portUp_portDown s p, bit_portDown hup, mem_portDown s _⟩

theorem portSilence_waits {p : Fin 2} (hheard : (s.port p.val).silent < (s.rg LNK_DEADB).toNat) :
    exec (.portSilence p) s = .next s :=
  congrArg Host.Outcome.next (if_neg fun h => absurd h.2 (by omega))

end Sys2Proof.Machine
end

section
/-! What the link sends and what an acknowledgement releases (spec/10 R287 to R290): frames of the windows, exempt frames, CREDIT. -/

namespace Sys2Proof.Machine

variable {s t u : State} {p : Fin 2} {q : Nat} {w : Fin 5} {f g : LinkFrame} {y : PortWin}

/-! ### Windows of a port -/

theorem win_setWin (x : PortSt) (v k : Nat) (y : PortWin) : (x.setWin v y).win k = if k = v then y else x.win k :=
  smGet_smSet _ x.wins v k y

theorem win_withAudio (x : PortSt) (l : List (Nat × Nat)) (k : Nat) : PortSt.win { x with audio := l } k = x.win k := rfl

theorem port_of_lnk (h : u.lnk = s.lnk) (q : Nat) : u.port q = s.port q := by rw [State.port, State.port, h]

theorem setRg_port (s : State) (a : Nat) (v : Word) (q : Nat) : (s.setRg a v).port q = s.port q := rfl

theorem port_setPort_same (s : State) (q : Nat) (x : PortSt) : (s.setPort q x).port q = x := (port_setPort s q q x).trans (if_pos rfl)

/-! ### A frame on the wire -/

theorem port_emit (s : State) (q : Nat) (f : LinkFrame) :
    (s.emit q f).port q = { s.port q with sent := some f, wire := s.wireOf f } := by
  rw [State.emit, port_setPort_same]

theorem port_emit_other (s : State) {k : Nat} (h : k ≠ q) (f : LinkFrame) : (s.emit q f).port k = s.port k := by
  rw [State.emit, port_setPort, if_neg h]

theorem PortsOnly.emit (h : PortsOnly s u) (q : Nat) (f : LinkFrame) : PortsOnly s (u.emit q f) := h.setPort q _

theorem port_showCredit (s : State) (q k : Nat) : (s.showCredit q).port k = s.port k := by
  unfold State.showCredit
  split
  · rfl
  · exact setRg_port s _ _ k

theorem WritesOnly.showCredit {r : Nat → Prop} (h : WritesOnly r s u) (hcred : r (LNK_CRED q)) : WritesOnly r s (u.showCredit q) := by
  unfold State.showCredit
  exact .ite h (h.setRg hcred _)

/-- Only the beat number of a frame is put in as it starts. -/
theorem stamped_eq (s : State) (f : LinkFrame) : ∃ b, s.stamped f = { f with beat := b } := by
  unfold State.stamped
  split
  · exact ⟨_, rfl⟩
  · exact ⟨f.beat, rfl⟩

/-! ### A frame of a window (R287, R288) -/

/-- The frame that starts, with its hop sequence number. -/
def State.headOut (s : State) (y : PortWin) (f : LinkFrame) : LinkFrame := s.stamped { f with hseq := some (f.hseq.getD y.txNext) }

/-- The window after its frame has started. -/
def State.headSent (s : State) (w : Nat) (y : PortWin) (f : LinkFrame) : PortWin :=
  { y with
    waiting := y.waiting.erase f, unacked := y.unacked ++ [s.headOut y f]
    txNext := if f.hseq.isSome then y.txNext else (y.txNext + 1) % 65536
    credit := if w = 2 then y.credit else y.credit - 1 }

/-- The audio credits after a frame has started. -/
def PortSt.audioSpent (x : PortSt) (w : Nat) (f : LinkFrame) : List (Nat × Nat) :=
  if w = 2 then smSet (fun _ => 0) x.audio f.stream (smGet (fun _ => 0) x.audio f.stream - 1) else x.audio

theorem headOut_spec (s : State) (y : PortWin) (f : LinkFrame) : (s.headOut y f).payload = f.payload ∧ (s.headOut y f).dst = f.dst ∧
    (s.headOut y f).hseq = some (f.hseq.getD y.txNext) := by
  obtain ⟨b, hb⟩ := stamped_eq s { f with hseq := some (f.hseq.getD y.txNext) }
  rw [State.headOut, hb]
  exact ⟨rfl, rfl, rfl⟩

theorem sendHead_eq (s : State) (q w : Nat) (f : LinkFrame) : s.sendHead q w f =
    ((s.setPort q { (s.port q).setWin w (s.headSent w ((s.port q).win w) f) with audio := (s.port q).audioSpent w f }).emit q
      (s.headOut ((s.port q).win w) f)).showCredit q := by
  unfold State.sendHead State.headSent State.headOut PortSt.audioSpent
  cases f.hseq <;> by_cases h : w = 2 <;> simp [h] <;> rfl

theorem frameSend_sends (hw : w ≠ 0) (hsend : s.canSend p.val w.val = some g) :
    exec (.frameSend ⟨p.val, by omega⟩ w) s = .next (s.sendHead p.val w.val g) := by
  have hw0 : w.val ≠ 0 := fun h => hw (Fin.ext h)
  have hp2 : p.val ≠ 2 := by omega
  show execFrameSend _ _ _ = _
  simp only [execFrameSend, if_neg hw0, if_neg hp2, hsend]
  rfl

theorem frameSend_sent (hw : w ≠ 0) (hsend : s.canSend p.val w.val = some g) :
    Ends (.frameSend ⟨p.val, by omega⟩ w) s (fun u => ∃ h : LinkFrame,
      (u.port p.val).sent = some h ∧ h.payload = g.payload ∧ h.dst = g.dst ∧
      h.hseq = some (g.hseq.getD ((s.port p.val).win w.val).txNext) ∧
      ((u.port p.val).win w.val).unacked = ((s.port p.val).win w.val).unacked ++ [h] ∧
      ((u.port p.val).win w.val).waiting = ((s.port p.val).win w.val).waiting.erase g ∧
      (if w = 2 then smGet (fun _ => 0) (u.port p.val).audio g.stream = smGet (fun _ => 0) (s.port p.val).audio g.stream - 1
        else ((u.port p.val).win w.val).credit = ((s.port p.val).win w.val).credit - 1) ∧ u.mem = s.mem ∧
      SameRegsBut s u [LNK_CRED p.val]) := by
  let y := (s.port p.val).win w.val
  have hport : ∃ l, (s.sendHead p.val w.val g).port p.val =
      { (s.port p.val).setWin w.val (s.headSent w.val y g) with
        audio := (s.port p.val).audioSpent w.val g, sent := some (s.headOut y g), wire := l } := by
    rw [sendHead_eq, port_showCredit, port_emit, port_setPort_same]
    exact ⟨_, rfl⟩
  obtain ⟨l, hport⟩ := hport
  have hwin : ((s.sendHead p.val w.val g).port p.val).win w.val = s.headSent w.val y g := by
    rw [hport]
    exact (win_setWin _ _ _ _).trans (if_pos rfl)
  have hwrites : WritesOnly (· ∈ [LNK_CRED p.val]) s (s.sendHead p.val w.val g) := by
    rw [sendHead_eq]
    exact ((((PortsOnly.refl s).setPort _ _).emit _ _).writesOnly _).showCredit (by simp)
  obtain ⟨hpayload, hdst, hseq⟩ := headOut_spec s y g
  refine ⟨_, frameSend_sends hw hsend, s.headOut y g, by rw [hport], hpayload, hdst, hseq, by rw [hwin]; rfl, by rw [hwin]; rfl, ?_,
    hwrites.mem, hwrites.sameRegsBut⟩
  split
  next h2 =>
    rw [hport]
    show smGet _ ((s.port p.val).audioSpent w.val g) _ = _
    rw [PortSt.audioSpent, if_pos (show w.val = 2 from congrArg Fin.val h2), smGet_smSet, if_pos rfl]
  next h2 =>
    rw [hwin]
    exact if_neg fun h => h2 (Fin.ext h)

theorem frameSend_waits (hw : w ≠ 0) (hsend : s.canSend p.val w.val = none) :
    exec (.frameSend ⟨p.val, by omega⟩ w) s = .next s := by
  have hw0 : w.val ≠ 0 := fun h => hw (Fin.ext h)
  show execFrameSend _ _ _ = _
  simp only [execFrameSend, if_neg hw0, hsend, ite_self]
  rfl

/-! ### A frame that needs no credit (R279, R287) -/

/-- Only a draw may come of a gPTP payload, and only Follow_Up has another one than the frame's. -/
theorem gptpPayload_spec (s : State) (f : LinkFrame) :
    ((s.gptpPayload f).2 = s ∨ (s.gptpPayload f).2 = s.draw.2) ∧ (f.payload ≠ [8] → (s.gptpPayload f).1 = f.payload) := by
  unfold State.gptpPayload
  split
  next h => exact ⟨.inl rfl, fun _ => rfl⟩
  next h =>
    refine ⟨?_, fun hne => absurd hne (by simpa using h)⟩
    dsimp only
    split
    · exact .inr rfl
    · exact .inl rfl

/-- What the head of the exempt queue leaves with: its payload, and the state after a draw for it. -/
def State.exemptOut (s : State) (g : LinkFrame) : List Byte × State :=
  if g.type = GPTP_MARK then s.gptpPayload g else (g.payload, s)

theorem exemptOut_spec (s : State) (g : LinkFrame) : (s.exemptOut g).2.regs = s.regs ∧ (s.exemptOut g).2.mem = s.mem ∧
    (g.payload ≠ [8] ∨ g.type ≠ GPTP_MARK → (s.exemptOut g).1 = g.payload) := by
  obtain ⟨hdraw, hsame⟩ := gptpPayload_spec s g
  unfold State.exemptOut
  split
  next hmark =>
    have hstate : (s.gptpPayload g).2.regs = s.regs ∧ (s.gptpPayload g).2.mem = s.mem := by
      rcases hdraw with h | h <;> rw [h] <;> exact ⟨rfl, rfl⟩
    exact ⟨hstate.1, hstate.2, fun h => hsame (h.resolve_right (not_not_intro hmark))⟩
  next => exact ⟨rfl, rfl, fun _ => rfl⟩

theorem frameSend_exempt {l : List LinkFrame} (hq : (s.port p.val).exempt = g :: l) (hup : s.portUp p.val = true)
    (hch : s.chanState (0x810 + p.val) ≠ 3) (htime : g.win = 15 ∨ s.winFits g.win g = true) :
    Ends (.frameSend ⟨p.val, by omega⟩ 0) s (fun u => (u.port p.val).exempt = l ∧ (∃ h : LinkFrame, (u.port p.val).sent = some h ∧
      h.type = g.type ∧ (g.payload ≠ [8] ∨ g.type ≠ GPTP_MARK → h.payload = g.payload)) ∧ u.regs = s.regs ∧ u.mem = s.mem) := by
  let r := s.exemptOut g
  have hgo : (s.portUp p.val && s.chanState (0x810 + p.val) != 3 && (g.win == 15 || s.winFits g.win g)) = true := by simp [*]
  have hexec : exec (.frameSend ⟨p.val, by omega⟩ 0) s = .next ((r.2.setPort p.val { s.port p.val with exempt := l }).emit p.val
      (s.stamped { g with hseq := some 0, payload := r.1 })) := by
    show done (s.sendExempt p.val) = _
    simp only [State.sendExempt, hq, if_pos hgo]
    rfl
  obtain ⟨hregs, hmem, hpayload⟩ := exemptOut_spec s g
  obtain ⟨b, hb⟩ := stamped_eq s { g with hseq := some 0, payload := r.1 }
  refine ⟨_, hexec, by rw [port_emit, port_setPort_same],
    ⟨s.stamped { g with hseq := some 0, payload := r.1 }, by rw [port_emit], ?_, ?_⟩, hregs, hmem⟩ <;> rw [hb]
  exact hpayload

theorem frameSend_noExempt (h : (s.port p.val).exempt = [] ∨ s.portUp p.val = false ∨ s.chanState (0x810 + p.val) = 3) :
    exec (.frameSend ⟨p.val, by omega⟩ 0) s = .next s := by
  refine congrArg Host.Outcome.next (?_ : s.sendExempt p.val = s)
  unfold State.sendExempt
  dsimp only
  split
  next => rfl
  next hq =>
    refine if_neg fun hgo => ?_
    rcases h with h | h | h
    · exact List.cons_ne_nil _ _ (hq.symm.trans h)
    · simp [h] at hgo
    · simp [h] at hgo

/-! ### CREDIT (R288) -/

/-- The CREDIT frame that leaves port `q`. -/
def State.creditFrame (s : State) (q : Nat) : LinkFrame :=
  { gen := s.ownGen, type := 5, dst := 0xFF, src := s.ownId, hops := 0, win := 15, beat := s.beatNo % 0x100000000
    hseq := some 0, inPort := none, payload := s.creditPayload q }

theorem sendCredit_sends (hup : s.portUp q = true) (hch : s.chanState (0x810 + q) ≠ 3) :
    s.sendCredit q = s.emit q (s.creditFrame q) := if_pos (by simp [hup, hch])

theorem PortsOnly.sendCredit (h : PortsOnly s u) (q : Nat) : PortsOnly s (u.sendCredit q) := by
  unfold State.sendCredit
  exact .ite (h.emit q _) h

theorem PortsOnly.resend (h : PortsOnly s u) (q v : Nat) : PortsOnly s (u.resend q v) := h.setPort q _

theorem creditSend_sends (hrun : s.adm ≠ 0) (hup : s.portUp p.val = true) (hch : s.chanState (0x810 + p.val) ≠ 3) :
    Ends (.creditSend p) s (fun u => u.regs = s.regs ∧ u.mem = s.mem ∧
      ∃ h : LinkFrame, (u.port p.val).sent = some h ∧ h.type = 5 ∧ h.payload = s.creditPayload p.val) := by
  have hexec : exec (.creditSend p) s = .next (s.emit p.val (s.creditFrame p.val)) := by
    rw [← sendCredit_sends hup hch]
    exact congrArg Host.Outcome.next (if_neg hrun)
  exact ⟨_, hexec, rfl, rfl, s.creditFrame p.val, by rw [port_emit], rfl, rfl⟩

/-! ### An acknowledgement and a credit received (R288) -/

/-- Unacknowledged frames that are to be sent again are none that wait for an acknowledgement. -/
theorem win_resend (s : State) (q v k : Nat) : ((s.resend q v).port q).win k = if k = v then
    { (s.port q).win v with waiting := ((s.port q).win v).unacked ++ ((s.port q).win v).waiting, unacked := [] }
    else (s.port q).win k := by
  rw [State.resend, port_setPort_same, win_setWin]

/-- The frames that an acknowledgement leaves. -/
def PortWin.leftBy (y : PortWin) (ack : Nat) : List LinkFrame :=
  if y.unacked.any (fun f => f.hseq == some ack) then (y.unacked.dropWhile (fun f => f.hseq != some ack)).drop 1 else y.unacked

/-- The port's windows with the acknowledgement and the credit of one. -/
def State.creditSet (s : State) (q v ack cred : Nat) : State :=
  s.setPort q ((s.port q).setWin v { (s.port q).win v with unacked := ((s.port q).win v).leftBy ack, credit := cred })

theorem takeCredit_eq (s : State) (q v ack cred : Nat) : s.takeCredit q v ack cred =
    if (((s.port q).win v).leftBy ack).isEmpty then s.creditSet q v ack cred else (s.creditSet q v ack cred).resend q v := rfl

theorem win_creditSet (s : State) (q v k ack cred : Nat) : ((s.creditSet q v ack cred).port q).win k = if k = v then
    { (s.port q).win v with unacked := ((s.port q).win v).leftBy ack, credit := cred } else (s.port q).win k := by
  rw [State.creditSet, port_setPort_same, win_setWin]

theorem win_takeCredit_other (s : State) {v k : Nat} (h : k ≠ v) (ack cred : Nat) :
    ((s.takeCredit q v ack cred).port q).win k = (s.port q).win k := by
  rw [takeCredit_eq]
  split
  · rw [win_creditSet, if_neg h]
  · rw [win_resend, if_neg h, win_creditSet, if_neg h]

/-- What an acknowledgement does not release is to be sent again. -/
theorem win_takeCredit (s : State) (q v ack cred : Nat) : (((s.takeCredit q v ack cred).port q).win v).credit = cred ∧
    (((s.takeCredit q v ack cred).port q).win v).unacked = [] := by
  rw [takeCredit_eq]
  split
  next hleft =>
    rw [win_creditSet, if_pos rfl]
    exact ⟨rfl, List.isEmpty_iff.mp hleft⟩
  next =>
    rw [win_resend, if_pos rfl, win_creditSet, if_pos rfl]
    exact ⟨rfl, rfl⟩

theorem PortsOnly.takeCredit (h : PortsOnly s u) (q v ack cred : Nat) : PortsOnly s (u.takeCredit q v ack cred) := by
  rw [takeCredit_eq]
  exact .ite (h.setPort q _) ((h.setPort q _).resend q v)

/-- The four windows with their acknowledgements and credits taken. -/
def State.creditsTaken (s : State) (q : Nat) (pl : List Byte) : State :=
  [1, 2, 3, 4].foldl (fun u w => u.takeCredit q w (fieldAt pl (4 * w - 4) 2) (fieldAt pl (4 * w - 2) 1)) s

theorem portsOnly_creditsTaken (s : State) (q : Nat) (pl : List Byte) : PortsOnly s (s.creditsTaken q pl) :=
  List.foldlRecOn _ _ (PortsOnly.refl s) fun _ h _ _ => h.takeCredit q _ _ _

theorem win_foldCredit_other (ack cred : Nat → Nat) {k : Nat} {l : List Nat} (h : k ∉ l) (s : State) :
    ((l.foldl (fun u v => u.takeCredit q v (ack v) (cred v)) s).port q).win k = (s.port q).win k := by
  induction l generalizing s with
  | nil => rfl
  | cons v l ih =>
    obtain ⟨hv, hl⟩ := List.ne_and_not_mem_of_not_mem_cons h
    rw [List.foldl_cons, ih hl, win_takeCredit_other _ hv]

theorem win_foldCredit (ack cred : Nat → Nat) {k : Nat} {l : List Nat} (s : State) (h : k ∈ l) :
    (((l.foldl (fun u v => u.takeCredit q v (ack v) (cred v)) s).port q).win k).credit = cred k ∧
    (((l.foldl (fun u v => u.takeCredit q v (ack v) (cred v)) s).port q).win k).unacked = [] := by
  induction l generalizing s with
  | nil => cases h
  | cons v l ih =>
    by_cases hl : k ∈ l
    · exact ih _ hl
    · obtain rfl := (List.mem_cons.mp h).resolve_right hl
      rw [List.foldl_cons, win_foldCredit_other ack cred hl]
      exact win_takeCredit s q k _ _

theorem win_creditsTaken (s : State) (q : Nat) (pl : List Byte) {w : Fin 5} (hw : w ≠ 0) :
    (((s.creditsTaken q pl).port q).win w.val).credit = fieldAt pl (4 * w.val - 2) 1 ∧
    (((s.creditsTaken q pl).port q).win w.val).unacked = [] := by
  have hin : w.val ∈ [1, 2, 3, 4] := by
    have : w.val ≠ 0 := fun h => hw (Fin.ext h)
    simp only [List.mem_cons, List.not_mem_nil, or_false]
    omega
  exact win_foldCredit _ _ _ hin

theorem creditRx_eq (s : State) (q : Nat) (pl : List Byte) : ∃ l, s.creditRx q pl =
    ((s.creditsTaken q pl).setPort q { (s.creditsTaken q pl).port q with audio := l }).showCredit q := ⟨_, rfl⟩

theorem WritesOnly.creditRx {r : Nat → Prop} (h : WritesOnly r s u) (hcred : r (LNK_CRED q)) (pl : List Byte) :
    WritesOnly r s (u.creditRx q pl) := by
  obtain ⟨l, hl⟩ := creditRx_eq u q pl
  rw [hl]
  exact h.trans ((((portsOnly_creditsTaken u q pl).setPort q _).writesOnly r).showCredit hcred)

theorem win_creditRx (s : State) (q : Nat) (pl : List Byte) (k : Nat) :
    ((s.creditRx q pl).port q).win k = ((s.creditsTaken q pl).port q).win k := by
  obtain ⟨l, hl⟩ := creditRx_eq s q pl
  rw [hl, port_showCredit, port_setPort_same, win_withAudio]

/-! ### Reception (R277, R284, R288) -/

theorem portsOnly_heardOn (s : State) (q : Nat) : PortsOnly s (s.heardOn q) := (PortsOnly.refl s).setPort q _

theorem st_ite {P : State → Prop} {b : Prop} [Decidable b] {x y : Received} (hx : P x.st) (hy : P y.st) :
    P (if b then x else y).st := by
  split
  · exact hx
  · exact hy

/-- The state in which the port, and the lead of its sender, have heard a frame. -/
def State.heardBy (s : State) (q : Nat) (f : LinkFrame) : State := (s.heardOn q).heardFrom f.src

/-- A frame of a type that is bound to credit takes its number of the hop sequence. -/
def State.frameTaken (s : State) (q : Nat) (f : LinkFrame) : State :=
  if creditBound f.type && f.win != 15 then
    s.setPort q ((s.port q).setWin f.win
      { (s.port q).win f.win with rxNext := (((s.port q).win f.win).rxNext + 1) % 65536, heard := true })
  else s

/-- A frame that is not for this device alone leaves by the other port. -/
def State.framePassed (s : State) (q : Nat) (f : LinkFrame) : State :=
  if f.dst != s.ownId && f.src != s.ownId && decide (0 < f.hops) && f.type != 1 then
    s.queueOn (1 - q) { f with hops := f.hops - 1, hseq := none, inPort := some q }
  else s

/-- A buffer of the window is free for a frame. -/
def State.roomFor (s : State) (q : Nat) (f : LinkFrame) : Bool :=
  if f.win = 2 then decide (0 < s.freeAudio q f.stream) else decide (0 < s.freeBuffers q f.win)

/-- The reception of a frame, by what becomes of it. -/
theorem receive_eq (s : State) (q : Nat) (f : LinkFrame) : s.receive q f =
    if !s.portUp q || s.adm == A_STOPPED || s.chanState (0x810 + q) == 3 then ⟨false, s⟩
    else if reservedType f.type || (!fixedType f.type && f.gen != (s.heardBy q f).ownGen) then ⟨false, (s.heardBy q f).lnkIgnore⟩
    else if (creditBound f.type && f.win != 15) && !(f.hseq == some (((s.heardBy q f).port q).win f.win).rxNext) then
      ⟨false, if (((s.heardBy q f).port q).win f.win).gap (f.hseq.getD 0) then (s.heardBy q f).portError q 2 f.win else s.heardBy q f⟩
    else if (creditBound f.type && f.win != 15) && !(s.heardBy q f).roomFor q f then ⟨false, s.heardBy q f⟩
    else if (f.dst == ((s.heardBy q f).frameTaken q f).ownId || f.dst == 0xFF) && (creditBound f.type && f.win != 15) &&
        (((s.heardBy q f).port q).win f.win).behind f then
      ⟨false, (((s.heardBy q f).frameTaken q f).framePassed q f).holdFrame q f⟩
    else ⟨f.dst == ((s.heardBy q f).frameTaken q f).ownId || f.dst == 0xFF, ((s.heardBy q f).frameTaken q f).framePassed q f⟩ := rfl

theorem portsOnly_framePassed (s : State) (q : Nat) (f : LinkFrame) : PortsOnly s ((s.frameTaken q f).framePassed q f) := by
  have htaken : PortsOnly s (s.frameTaken q f) := .ite ((PortsOnly.refl s).setPort q _) (.refl s)
  exact .ite (htaken.queueOn _ _) htaken

/-- What the transport leaves of a frame: nothing where the port carries none; once it is heard, a count of an ignored frame, an error
of the port, or changes of the ports alone. -/
theorem receive_keeps {P : State → Prop} (hs : P s) (hports : ∀ t, PortsOnly (s.heardBy q f) t → P t)
    (hignore : P (s.heardBy q f).lnkIgnore) (herror : P ((s.heardBy q f).portError q 2 f.win)) : P (s.receive q f).st := by
  have hheard := hports _ (.refl _)
  have hpassed := portsOnly_framePassed (s.heardBy q f) q f
  have hgap : P (if (((s.heardBy q f).port q).win f.win).gap (f.hseq.getD 0) then (s.heardBy q f).portError q 2 f.win
      else s.heardBy q f) := by
    split
    · exact herror
    · exact hheard
  rw [receive_eq]
  exact st_ite hs (st_ite hignore (st_ite hgap (st_ite hheard (st_ite (hports _ (hpassed.setPort q _)) (hports _ hpassed)))))

theorem mem_receive (s : State) (hq : q ≤ 2) (f : LinkFrame) : (s.receive q f).st.mem = s.mem :=
  receive_keeps (P := fun t => t.mem = s.mem) rfl (fun _ h => h.mem) (State.event_mem _ _ _ _) (mem_portError hq _ _ _)

theorem creditRx_spec {f : Llp} (hd : (s.receive p.val (frameOf f 5)).deliver = true) (hlen : 32 ≤ f.payload.length) :
    Ends (.creditRx p f) s (fun u => u.fld (LNK_PSTAT p.val) 8 6 = f.src.toNat % 64 ∧
      u.bit (LNK_PSTAT p.val) 15 = true ∧ u.mem = s.mem ∧ (w ≠ 0 →
        ((u.port p.val).win w.val).credit = fieldAt f.payload (4 * w.val - 2) 1 ∧ ((u.port p.val).win w.val).unacked = [])) := by
  let r := s.receive p.val (frameOf f 5)
  let t := r.st.creditRx p.val f.payload
  have hexec : exec (.creditRx p f) s =
      .next ((t.setFld (LNK_PSTAT p.val) 8 6 f.src.toNat).setBit (LNK_PSTAT p.val) 15 true) :=
    congrArg Host.Outcome.next (if_pos (Bool.and_eq_true_iff.mpr ⟨hd, decide_eq_true hlen⟩))
  refine ⟨_, hexec, ?_, bit_setBit_same _ _ _ _ (by decide), ?_, fun hw => ?_⟩
  · rw [fld_setBit_other _ _ _ _ (by decide) (by decide), fld_setFld_same _ _ _ _ _ (by decide)]
    rfl
  · exact (WritesOnly.creditRx (q := p.val) (WritesOnly.refl (fun _ => True) r.st) trivial f.payload).mem.trans
      (mem_receive s (by omega) _)
  · show ((t.port p.val).win w.val).credit = _ ∧ ((t.port p.val).win w.val).unacked = []
    rw [win_creditRx]
    exact win_creditsTaken r.st p.val f.payload hw

end Sys2Proof.Machine
end

section
/-! Raw frames, the dispatch of LLP frames by their TYPE, and the rings of firmware (spec/10 R273, R284, R290, R310). -/

namespace Sys2Proof.Machine

variable {s t u : State} {p : Fin 2} {c : Fin 3} {f : Llp} {d : List Byte}

/-! ### The receive ring (R310) -/

/-- The index behind the next one of a ring, whose WR and RD have eight bits. -/
theorem fld_qrxWrite (s : State) (kind q peer came : Nat) (d : List Byte) : (s.qrxWrite kind q peer came d).fld LNK_QRX_WR 0 8 =
    (s.fld LNK_QRX_WR 0 8 + 1) % s.ringSize LNK_QRX_CTL % 256 := by
  have hstored : ∀ a w b x, LinkKept s (((s.fabWrite .link a .word w).2.fabWrite .link (a + 4) .word b).2.fabWriteBytes .link (a + 16) x) :=
    fun a w b x => (((LinkKept.refl s).fabWrite _ _ _ _).fabWrite _ _ _ _).fabWriteBytes _ _ _
  have hlevel : ∀ x : State, x.qrxLevel.fld LNK_QRX_WR 0 8 = x.fld LNK_QRX_WR 0 8 := fun x =>
    ((LinkKept.refl x).signal (by decide) _).fld (by decide) 0 8
  unfold State.qrxWrite
  rw [hlevel, fld_setFld_same _ _ _ _ _ (by decide), State.ringSize, (hstored _ _ _ _).fld (by decide) 0 8,
    (hstored _ _ _ _).fld (by decide) 0 4]
  rfl

/-! ### Raw frames (R273, R310) -/

/-- Port `c` carries frames, and the bytes `d` are no frame that the link itself takes. -/
def State.takesRaw (s : State) (c : Fin 3) (d : List Byte) : Prop :=
  s.portUp c.val = true ∧ s.chanState (0x810 + c.val) ≠ 3 ∧ (c = 2 ∨ (isGptp d = false ∧ s.isLlp d = false))

/-- A ring port notes that it has heard its neighbour. -/
def State.rawHeard (s : State) (c : Fin 3) : State := if c.val < 2 then s.heardOn c.val else s

theorem portsOnly_rawHeard (s : State) (c : Fin 3) : PortsOnly s (s.rawHeard c) := .ite (portsOnly_heardOn s _) (.refl s)

/-- The port carries frames. -/
theorem rawFrameRx_carried (hup : s.portUp c.val = true) (hch : s.chanState (0x810 + c.val) ≠ 3) : exec (.rawFrameRx c d) s =
    (if h : c.val < 2 then
      if isGptp d then done (s.heardOn c.val)
      else if s.isLlp d then llpRx ⟨c.val, h⟩ (llpOf d).1 (llpOf d).2 s
      else done ((s.heardOn c.val).rawRx c.val d)
    else done (s.rawRx c.val d)) := if_neg (by simp [hup, hch])

theorem rawFrameRx_raw (h : s.takesRaw c d) : exec (.rawFrameRx c d) s = .next ((s.rawHeard c).rawRx c.val d) := by
  obtain ⟨hup, hch, hraw⟩ := h
  rw [rawFrameRx_carried hup hch]
  by_cases hc : c.val < 2
  · obtain ⟨hg, hl⟩ := hraw.resolve_left fun h => absurd (congrArg Fin.val h) (by omega)
    rw [dif_pos hc, if_neg (by simp [hg]), if_neg (by simp [hl]), State.rawHeard, if_pos hc]
    rfl
  · rw [dif_neg hc, State.rawHeard, if_neg hc]
    rfl

theorem rawFrameRx_refused (h : s.takesRaw c d) (hc : c ≠ 2) (hoff : s.bit LNK_CFG 2 = false) : Ends (.rawFrameRx c d) s (fun u =>
    u.rg LNK_RAWDROP = satInc (s.rg LNK_RAWDROP) 1 ∧ SameRegsBut s u [LNK_RAWDROP] ∧ u.mem = s.mem) := by
  have hports := portsOnly_rawHeard s c
  have hdrop : (s.rawHeard c).rawRx c.val d = (s.rawHeard c).count LNK_RAWDROP 1 :=
    if_pos ⟨fun h => hc (Fin.ext h), by rw [bit_congr (rg_congr hports.regs LNK_CFG), hoff]; rfl⟩
  have hwrites := (hports.writesOnly (· ∈ [LNK_RAWDROP])).count (a := LNK_RAWDROP) (by simp) 1
  refine ⟨_, rawFrameRx_raw h, ?_⟩
  rw [hdrop]
  exact ⟨by rw [State.count, rg_setRg_same, rg_congr hports.regs], hwrites.sameRegsBut, hwrites.mem⟩

theorem rawRx_taken (hc : c = 2 ∨ s.bit LNK_CFG 2 = true) (d : List Byte) : s.rawRx c.val d =
    if s.qrxFull then (s.count LNK_RAWDROP 1).lnkEvt 11 else s.draw.2.qrxWrite 1 c.val (s.draw.1 % 256) s.draw.2.beatNo d := by
  refine if_neg fun h => ?_
  obtain ⟨hne, hoff⟩ := h
  rcases hc with rfl | hon
  · exact hne rfl
  · exact absurd hoff (by rw [hon]; decide)

theorem qrxFull_congr (h : u.regs = s.regs) : u.qrxFull = s.qrxFull := by
  simp only [State.qrxFull, State.ringSize, fld_congr (rg_congr h _)]

theorem rawHeard_cfg (hc : c = 2 ∨ s.bit LNK_CFG 2 = true) : c = 2 ∨ (s.rawHeard c).bit LNK_CFG 2 = true :=
  hc.imp_right (bit_congr (rg_congr (portsOnly_rawHeard s c).regs LNK_CFG) 2).trans

theorem rawFrameRx_dropped (h : s.takesRaw c d) (hc : c = 2 ∨ s.bit LNK_CFG 2 = true) (hfull : s.qrxFull = true) :
    Ends (.rawFrameRx c d) s (fun u =>
      u.rg LNK_RAWDROP = satInc (s.rg LNK_RAWDROP) 1 ∧ u.bit LNK_EVT 11 = true ∧ u.mem = s.mem) := by
  have hports := portsOnly_rawHeard s c
  refine ⟨_, rawFrameRx_raw h, ?_⟩
  rw [rawRx_taken (rawHeard_cfg hc), if_pos ((qrxFull_congr hports.regs).trans hfull)]
  refine ⟨?_, bit_lnkEvt _ (by decide), (State.event_mem _ _ _ _).trans hports.mem⟩
  rw [State.lnkEvt, rg_event_ne _ _ _ _ (by decide) (by decide), State.count, rg_setRg_same, rg_congr hports.regs]

theorem rawFrameRx_written (h : s.takesRaw c d) (hc : c = 2 ∨ s.bit LNK_CFG 2 = true) (hroom : s.qrxFull = false) :
    Ends (.rawFrameRx c d) s (fun u =>
      u.fld LNK_QRX_WR 0 8 = (s.fld LNK_QRX_WR 0 8 + 1) % s.ringSize LNK_QRX_CTL % 256) := by
  have hports := portsOnly_rawHeard s c
  have hfld : ∀ a lo len, (s.rawHeard c).draw.2.fld a lo len = s.fld a lo len := fun a lo len => fld_congr (rg_congr hports.regs a) lo len
  refine ⟨_, rawFrameRx_raw h, ?_⟩
  show State.fld _ _ _ _ = _
  rw [rawRx_taken (rawHeard_cfg hc), if_neg (by rw [qrxFull_congr hports.regs, hroom]; decide), fld_qrxWrite, State.ringSize,
    hfld, hfld]
  rfl

theorem rawFrameRx_down (h : s.portUp c.val = false ∨ s.chanState (0x810 + c.val) = 3) : exec (.rawFrameRx c d) s = .next s :=
  if_pos (by rcases h with h | h <;> simp [h])

/-! ### Frames of the link itself (R273, R284) -/

theorem rawFrameRx_gptp (hup : s.portUp p.val = true) (hch : s.chanState (0x810 + p.val) ≠ 3) (hg : isGptp d = true) :
    exec (.rawFrameRx ⟨p.val, by omega⟩ d) s = .next (s.heardOn p.val) := by
  rw [rawFrameRx_carried (c := ⟨p.val, by omega⟩) hup hch, dif_pos p.isLt, if_pos hg]
  rfl

theorem rawFrameRx_llp (hup : s.portUp p.val = true) (hch : s.chanState (0x810 + p.val) ≠ 3) (hg : isGptp d = false)
    (hl : s.isLlp d = true) : exec (.rawFrameRx ⟨p.val, by omega⟩ d) s = llpRx p (llpOf d).1 (llpOf d).2 s := by
  rw [rawFrameRx_carried (c := ⟨p.val, by omega⟩) hup hch, dif_pos p.isLt, if_neg (by simp [hg]), if_pos hl]

/-- The rows of the types that have one row each. -/
theorem llpRx_of_type {type : Nat} {j : Instr}
    (h : [(1, Instr.beatFrameRx p f), (2, .helloRx p f), (3, .admitRx p f), (4, .topoRx p f), (5, .creditRx p f), (7, .audioFrameRx p f),
      (9, .msgRx p f), (10, .raccRequestRx p f), (12, .resetFrameRx p f), (13, .wakeFrameRx p f)].contains (type, j) = true) :
    llpRx p type f s = exec j s := by
  simp only [List.contains_iff_mem, List.mem_cons, List.not_mem_nil, or_false, Prod.mk.injEq] at h
  obtain ⟨rfl, rfl⟩ | ⟨rfl, rfl⟩ | ⟨rfl, rfl⟩ | ⟨rfl, rfl⟩ | ⟨rfl, rfl⟩ | ⟨rfl, rfl⟩ | ⟨rfl, rfl⟩ | ⟨rfl, rfl⟩ | ⟨rfl, rfl⟩ |
    ⟨rfl, rfl⟩ := h <;> rfl

/-- The rows of the types that the first byte of the payload divides. -/
theorem llpRx_of_kind {type : Nat} {j : Instr}
    (h : [(6, 1, Instr.handoffRx p f), (6, 2, .ackRx p f), (6, 3, .mirrorRx p f), (6, 4, .confirmRx p f), (6, 5, .releaseCursorRx p f),
        (8, 0, .tokenRx p f), (11, 1, .bootReqRx p f)].contains (type, fieldAt f.payload 0 1, j) = true ∨
      (type = 8 ∧ fieldAt f.payload 0 1 ≠ 0 ∧ j = .resultRx p f) ∨
      (type = 11 ∧ fieldAt f.payload 0 1 ≠ 1 ∧ j = .bootDataRx p f)) : llpRx p type f s = exec j s := by
  simp only [List.contains_iff_mem, List.mem_cons, List.not_mem_nil, or_false, Prod.mk.injEq] at h
  obtain h | ⟨rfl, hk, rfl⟩ | ⟨rfl, hk, rfl⟩ := h
  · obtain ⟨rfl, hk, rfl⟩ | ⟨rfl, hk, rfl⟩ | ⟨rfl, hk, rfl⟩ | ⟨rfl, hk, rfl⟩ | ⟨rfl, hk, rfl⟩ | ⟨rfl, hk, rfl⟩ | ⟨rfl, hk, rfl⟩ := h <;>
      · simp only [llpRx, hk]
        rfl
  · exact if_neg hk
  · exact if_neg hk

/-- A reserved TYPE has no row. -/
theorem llpRx_reserved {type : Nat} (h : reservedType type = true) : llpRx p type f s = .next (s.receive p.val (frameOf f type)).st := by
  have hcases : type = 0 ∨ 14 ≤ type := by simpa [reservedType] using h
  rcases hcases with rfl | hle
  · rfl
  · obtain ⟨n, rfl⟩ := Nat.exists_eq_add_of_le' hle
    rfl

theorem receive_reserved {g : LinkFrame} (hup : s.portUp p.val = true) (hrun : s.adm ≠ 0) (hch : s.chanState (0x810 + p.val) ≠ 3)
    (h : reservedType g.type = true) : s.receive p.val g = ⟨false, (s.heardBy p.val g).lnkIgnore⟩ := by
  rw [receive_eq, if_neg (by simp [hup, hrun, hch]), if_pos (by rw [h]; rfl)]

theorem rawFrameRx_reserved (hup : s.portUp p.val = true) (hch : s.chanState (0x810 + p.val) ≠ 3) (hrun : s.adm ≠ 0)
    (hg : isGptp d = false) (hl : s.isLlp d = true) (h : reservedType (llpOf d).1 = true) :
    Ends (.rawFrameRx ⟨p.val, by omega⟩ d) s (fun u =>
      u.rg LNK_IGN = satInc (s.rg LNK_IGN) 1 ∧ u.bit LNK_EVT 15 = true ∧ u.mem = s.mem) := by
  refine ⟨_, (rawFrameRx_llp hup hch hg hl).trans (llpRx_reserved h), ?_⟩
  rw [receive_reserved (g := frameOf (llpOf d).2 (llpOf d).1) hup hrun hch h]
  refine ⟨?_, bit_lnkEvt _ (by decide), State.event_mem _ _ _ _⟩
  rw [State.lnkIgnore, State.lnkEvt, rg_event_ne _ _ _ _ (by decide) (by decide), State.count, rg_setRg_same]
  rfl

/-! ### Messages (R290, R310) -/

/-- A message that is delivered here stays in its buffer, or goes into the receive ring. -/
theorem msgRx_delivered (hd : (s.receive p.val (frameOf f 9)).deliver = true) : exec (.msgRx p f) s =
    .next (if (s.receive p.val (frameOf f 9)).st.qrxFull ||
        !(((s.receive p.val (frameOf f 9)).st.port p.val).win f.win.toNat).held.isEmpty then
      (s.receive p.val (frameOf f 9)).st.holdFrame p.val (frameOf f 9)
    else (s.receive p.val (frameOf f 9)).st.qrxWrite 0 0 f.src.toNat (s.receive p.val (frameOf f 9)).st.beatNo f.payload) :=
  congrArg Host.Outcome.next (if_pos hd)

theorem msgRx_held (hd : (s.receive p.val (frameOf f 9)).deliver = true)
    (h : (s.receive p.val (frameOf f 9)).st.qrxFull = true ∨
      (((s.receive p.val (frameOf f 9)).st.port p.val).win f.win.toNat).held ≠ []) :
    exec (.msgRx p f) s = .next ((s.receive p.val (frameOf f 9)).st.holdFrame p.val (frameOf f 9)) := by
  rw [msgRx_delivered hd, if_pos (by rcases h with h | h <;> simp [h])]

theorem msgRx_written (hd : (s.receive p.val (frameOf f 9)).deliver = true) (hroom : (s.receive p.val (frameOf f 9)).st.qrxFull = false)
    (hnone : (((s.receive p.val (frameOf f 9)).st.port p.val).win f.win.toNat).held = []) :
    Ends (.msgRx p f) s (fun u => u.fld LNK_QRX_WR 0 8 = ((s.receive p.val (frameOf f 9)).st.fld LNK_QRX_WR 0 8 + 1) %
      (s.receive p.val (frameOf f 9)).st.ringSize LNK_QRX_CTL % 256) := by
  refine ⟨_, msgRx_delivered hd, ?_⟩
  show State.fld _ _ _ _ = _
  rw [if_neg (by simp [hroom, hnone]), fld_qrxWrite]

theorem msgRx_passed (hd : (s.receive p.val (frameOf f 9)).deliver = false) :
    exec (.msgRx p f) s = .next (s.receive p.val (frameOf f 9)).st :=
  congrArg Host.Outcome.next (if_neg (by simp [hd]))

/-! ### The transmit ring (R310) -/

/-- The slot of the transmit ring whose turn it is. -/
def State.qtxSlot (s : State) : Nat := (s.rg LNK_QTX_BASE).toNat + 1536 * s.fld LNK_QTX_RD 0 8

/-- The first word of the slot, or a free value where it cannot be read. -/
def State.qtxWord (s : State) : Nat × State :=
  match s.fabRead .link s.qtxSlot .word with
  | (.ok v, t) => (v, t)
  | (.err _, t) => t.draw

/-- What a slot with first word `w` sends: a message, a raw frame, or nothing where it is malformed. -/
def State.qtxSent (s : State) (slot : Nat) (w : Word) : State :=
  if fieldOf w 0 2 = 0 ∧ 1 ≤ fieldOf w 16 11 ∧ fieldOf w 16 11 ≤ 1468 then
    (s.fabReadBytes .link (slot + 16) (fieldOf w 16 11)).2.sendFrame 9 (fieldOf w 8 8) 4
      (s.fabReadBytes .link (slot + 16) (fieldOf w 16 11)).1
  else if fieldOf w 0 2 = 1 ∧ 60 ≤ fieldOf w 16 11 ∧ fieldOf w 16 11 ≤ 1518 then
    if fieldOf w 4 2 = 3 then (s.fabReadBytes .link (slot + 16) (fieldOf w 16 11)).2
    else (s.fabReadBytes .link (slot + 16) (fieldOf w 16 11)).2.queueOn (fieldOf w 4 2)
      (otherFrame RAW_MARK 15 (s.fabReadBytes .link (slot + 16) (fieldOf w 16 11)).1)
  else (s.setBit LNK_QTX_CTL 31 true).lnkEvt 0

/-- The ring with its slot taken. -/
def State.qtxTaken (s : State) (rd : Nat) : State :=
  (s.setFld LNK_QTX_RD 0 8 ((rd + 1) % s.ringSize LNK_QTX_CTL)).lnkEvt 10

theorem qtxSend_takes (hrun : s.adm ≠ 0) (hslot : s.fld LNK_QTX_RD 0 8 ≠ s.fld LNK_QTX_WR 0 8) :
    exec .qtxSend s = .next ((s.qtxWord.2.qtxSent s.qtxSlot (w32 s.qtxWord.1)).qtxTaken (s.fld LNK_QTX_RD 0 8)) :=
  congrArg Host.Outcome.next (if_neg (not_or.mpr ⟨hrun, hslot⟩))

theorem qtxSend_rests (h : s.adm = 0 ∨ s.fld LNK_QTX_RD 0 8 = s.fld LNK_QTX_WR 0 8) : exec .qtxSend s = .next s :=
  congrArg Host.Outcome.next (if_pos h)

theorem linkKept_qtxWord (s : State) : LinkKept s s.qtxWord.2 := by
  have hread := (LinkKept.refl s).fabRead .link s.qtxSlot .word
  unfold State.qtxWord
  split
  next hval => exact hread.of_eq hval
  next hval => exact (hread.of_eq hval).draw

/-- A slot leaves the ring's size as it is, in the register whose bit 31 says that the slot was malformed. -/
theorem size_qtxSent (s : State) (slot : Nat) (w : Word) : (s.qtxSent slot w).fld LNK_QTX_CTL 0 4 = s.fld LNK_QTX_CTL 0 4 := by
  have hread := ((LinkKept.refl s).fabReadBytes .link (slot + 16) (fieldOf w 16 11)).fld (a := LNK_QTX_CTL) (by decide) 0 4
  unfold State.qtxSent
  split
  · exact (fld_congr (rg_congr ((PortsOnly.refl _).sendFrame _ _ _ _).regs _) 0 4).trans hread
  · split
    · split
      · exact hread
      · exact (fld_congr (rg_congr ((PortsOnly.refl _).queueOn _ _).regs _) 0 4).trans hread
    · rw [State.lnkEvt, fld_congr (rg_event_ne _ _ _ _ (by decide) (by decide)), fld_setBit_other _ _ _ _ (by decide) (by decide)]

theorem qtxSend_moves (hrun : s.adm ≠ 0) (hslot : s.fld LNK_QTX_RD 0 8 ≠ s.fld LNK_QTX_WR 0 8) :
    Ends .qtxSend s (fun u => u.bit LNK_EVT 10 = true ∧
      u.fld LNK_QTX_RD 0 8 = (s.fld LNK_QTX_RD 0 8 + 1) % s.ringSize LNK_QTX_CTL % 256) := by
  refine ⟨_, qtxSend_takes hrun hslot, bit_lnkEvt _ (by decide), ?_⟩
  rw [State.qtxTaken, State.lnkEvt, fld_congr (rg_event_ne _ _ _ _ (by decide) (by decide)), fld_setFld_same _ _ _ _ _ (by decide),
    State.ringSize, size_qtxSent, (linkKept_qtxWord s).fld (by decide) 0 4]
  rfl

theorem qtxSend_message {v : Nat} {a : State} {b : List Byte} (hrun : s.adm ≠ 0)
    (hslot : s.fld LNK_QTX_RD 0 8 ≠ s.fld LNK_QTX_WR 0 8) (hword : s.fabRead .link s.qtxSlot .word = (.ok v, a))
    (hkind : fieldOf (w32 v) 0 2 = 0) (hlow : 1 ≤ fieldOf (w32 v) 16 11) (hhigh : fieldOf (w32 v) 16 11 ≤ 1468)
    (hbytes : a.fabReadBytes .link (s.qtxSlot + 16) (fieldOf (w32 v) 16 11) = (b, t)) :
    Ends .qtxSend s (fun u => u.lnk = (t.sendFrame 9 (fieldOf (w32 v) 8 8) 4 b).lnk) := by
  have hread : s.qtxWord = (v, a) := by rw [State.qtxWord, hword]
  refine ⟨_, qtxSend_takes hrun hslot, ?_⟩
  rw [hread, State.qtxSent, if_pos ⟨hkind, hlow, hhigh⟩, hbytes]
  exact State.event_lnk _ _ _ _

end Sys2Proof.Machine
end

section
/-! The start of a window (spec/10 R286 to R291): what the frames that are offered again leave of the count of frames held, and the
frames that a window's start puts back in front. -/

namespace Sys2Proof.Machine

variable {s t u : State} {p : Nat} {f : LinkFrame} {a : Nat}

/-! ### What is kept while held frames are offered again -/

/-- The counts of held frames that a window's start writes, for the windows behind which another one opens. -/
abbrev heldReg (a : Nat) : Prop := LNK_HELD 1 ≤ a ∧ a ≤ LNK_HELD 3

/-- From `s` to `u` no count of held frames changes, and no frame is new in a bulk buffer. -/
structure HeldKept (s u : State) : Prop where
  rg : ∀ a, heldReg a → u.rg a = s.rg a
  held : ∀ q g, g ∈ ((u.port q).win 4).held → g ∈ ((s.port q).win 4).held

theorem beatLinkReg_of_held (h : heldReg a) : beatLinkReg a := by
  unfold heldReg LNK_HELD at h
  omega

theorem lnk_toBeatState (s : State) (k : Nat) : (s.toBeatState k).lnk = s.lnk := by
  unfold State.toBeatState
  dsimp only
  split
  · rfl
  · rw [State.raise_lnk]
    show State.lnk (ite _ _ _) = _
    split <;> split <;> rfl

theorem held_queueOn (s : State) (p : Nat) (f : LinkFrame) (q k : Nat) :
    (((s.queueOn p f).port q).win k).held = ((s.port q).win k).held := by
  unfold State.queueOn
  dsimp only
  split <;> rw [port_setPort] <;> split
  next hq =>
    rw [win_setWin, hq]
    split
    next hk => rw [hk]
    next => rfl
  · rfl
  next hq => rw [hq]; rfl
  · rfl

namespace HeldKept

theorem refl (s : State) : HeldKept s s := ⟨fun _ _ => rfl, fun _ _ => id⟩

theorem trans (h : HeldKept s u) (g : HeldKept u t) : HeldKept s t :=
  ⟨fun a ha => (g.rg a ha).trans (h.rg a ha), fun q x => h.held q x ∘ g.held q x⟩

theorem ite {b : Prop} [Decidable b] {x y : State} (hx : HeldKept s x) (hy : HeldKept s y) : HeldKept s (if b then x else y) := by
  split
  · exact hx
  · exact hy

/-- What keeps the ports and the counts continues the chain. -/
theorem kept (h : HeldKept s u) (hrg : ∀ a, heldReg a → t.rg a = u.rg a) (hports : t.lnk.ports = u.lnk.ports) : HeldKept s t := by
  refine h.trans ⟨hrg, fun q x hx => ?_⟩
  rwa [State.port, hports] at hx

theorem link (h : HeldKept s u) (g : LinkKept u t) : HeldKept s t :=
  h.kept (fun a ha => g.rg a (beatLinkReg_of_held ha)) (congrArg LnkSt.ports g.lnk)

theorem setRg (h : HeldKept s u) (ha : ¬ heldReg a) (v : Word) : HeldKept s (u.setRg a v) :=
  h.kept (fun _ hb => rg_setRg_ne u v fun e => ha (e ▸ hb)) rfl

theorem setFld (h : HeldKept s u) (ha : ¬ heldReg a) (lo len v : Nat) : HeldKept s (u.setFld a lo len v) := h.setRg ha _

theorem setRg64 (h : HeldKept s u) (ha : ¬ heldReg a) (ha4 : ¬ heldReg (a + 4)) (n : Nat) : HeldKept s (u.setRg64 a n) :=
  (h.setRg ha _).setRg ha4 _

theorem lnkEvt (h : HeldKept s u) {k : Nat} (hk : k < 32) : HeldKept s (u.lnkEvt k) := by
  refine h.kept (fun b hb => rg_event_ne u _ _ _ ?_ ?_) (congrArg LnkSt.ports (State.event_lnk u _ _ _))
  · unfold heldReg LNK_HELD at hb
    unfold ECX_PEND
    omega
  · intro e
    rw [e] at hb
    exact absurd hb (by decide)

theorem queueOn (h : HeldKept s u) (p : Nat) (f : LinkFrame) : HeldKept s (u.queueOn p f) := by
  refine h.trans ⟨fun a _ => rg_congr ((PortsOnly.refl u).queueOn p f).regs a, fun q x hx => ?_⟩
  rwa [held_queueOn] at hx

theorem sendFrame (h : HeldKept s u) (type dst win : Nat) (pl : List Byte) : HeldKept s (u.sendFrame type dst win pl) := by
  unfold State.sendFrame
  refine .ite (.ite (h.queueOn 0 _) ?_) (h.queueOn _ _)
  exact List.foldlRecOn _ _ h fun x hx q _ => .ite (hx.queueOn q _) hx

/-! ### LEDGER frames (R252 to R257, R303) -/

theorem toBeatState (h : HeldKept s u) (k : Nat) : HeldKept s (u.toBeatState k) := by
  refine h.kept (fun a ha => rg_toBeatState_ne k ?_ ?_ ?_) (congrArg LnkSt.ports (lnk_toBeatState u k)) <;>
    exact fun e => absurd (e ▸ ha) (by decide)

theorem setMirror (h : HeldKept s u) (m : Nat) : HeldKept s (u.setMirror m) := by
  unfold State.setMirror
  exact .ite h ((h.setFld (by decide) 6 2 m).link ((LinkKept.refl _).ldgEvt (by decide)))

theorem stopLeading (h : HeldKept s u) (k : Nat) : HeldKept s (u.stopLeading k) := by
  have hdropped : HeldKept s (u.leadDropped k) :=
    (((h.setFld (by decide) 0 3 k).setFld (by decide) 4 3 0).setFld (by decide) 4 2 _).toBeatState B_FREE
  have hgiven : HeldKept s (u.leadGiven k) := hdropped.kept (fun _ _ => rfl) rfl
  rw [stopLeading_eq]
  exact ((hgiven.setRg64 (by decide) (by decide) 0).setRg64 (by decide) (by decide) 0).setMirror 0

theorem hearTerm (h : HeldKept s u) (term : Nat) : HeldKept s (u.hearTerm term) := by
  have hstopped : HeldKept s (if u.leads && decide (u.ldg.nv.term < term) then u.stopLeading A_WAIT else u) :=
    .ite (h.stopLeading _) h
  exact hstopped.link ((LinkKept.refl _).learnTerm term)

end HeldKept

theorem heldKept_ite {b : Prop} [Decidable b] {x y : Bool × State} (hx : HeldKept s x.2) (hy : HeldKept s y.2) :
    HeldKept s (if b then x else y).2 := by
  split
  · exact hx
  · exact hy

theorem heldKept_handoffIn (s : State) (f : LinkFrame) : HeldKept s (s.handoffIn f).2 := by
  have htaken : LinkKept s ((ledgerRecs f.payload).foldl (fun t l => t.takeRecord l) s) :=
    List.foldlRecOn _ _ (LinkKept.refl s) fun _ hx l _ => hx.takeRecord l
  have hs := HeldKept.refl s
  unfold State.handoffIn
  exact heldKept_ite hs (heldKept_ite (hs.link ((LinkKept.refl s).ldgEvt (by decide))) (heldKept_ite hs (hs.link htaken)))

theorem heldKept_ackIn (s : State) (f : LinkFrame) : HeldKept s (s.ackIn f).2 := by
  have hs := HeldKept.refl s
  unfold State.ackIn
  exact heldKept_ite hs (heldKept_ite hs (hs.link ((LinkKept.refl s).markAcked _)))

theorem heldKept_mirrorIn (s : State) (f : LinkFrame) : HeldKept s (s.mirrorIn f).2 := by
  have htaken : LinkKept s ((ledgerRecs f.payload).foldl (fun t l => t.mirrorRecord l) s) :=
    List.foldlRecOn _ _ (LinkKept.refl s) fun _ hx l _ => hx.mirrorRecord l
  have hs := HeldKept.refl s
  unfold State.mirrorIn
  exact heldKept_ite hs (heldKept_ite hs ((hs.link htaken).sendFrame _ _ _ _))

theorem heldKept_confirmIn (s : State) (f : LinkFrame) : HeldKept s (s.confirmIn f).2 := by
  have hs := HeldKept.refl s
  have hset : ∀ x : LdgSt, HeldKept s (s.setLdg x) := fun x => hs.link ((LinkKept.refl s).setLdg x)
  unfold State.confirmIn
  exact heldKept_ite hs (heldKept_ite (((hset _).setMirror 2).link ((LinkKept.refl _).setLdg _)) (hset _))

theorem heldKept_cursorIn (s : State) (f : LinkFrame) : HeldKept s (s.cursorIn f).2 := by
  have hs := HeldKept.refl s
  unfold State.cursorIn
  exact heldKept_ite hs (heldKept_ite hs (hs.link ((LinkKept.refl s).releaseTo _)))

theorem heldKept_ledgerKind (k : Nat) (s : State) (f : LinkFrame) : HeldKept s (ledgerKind k s f).2 := by
  unfold ledgerKind
  split
  · exact heldKept_handoffIn s f
  · exact heldKept_ackIn s f
  · exact heldKept_mirrorIn s f
  · exact heldKept_confirmIn s f
  · exact heldKept_cursorIn s f
  · exact .refl s

theorem heldKept_ledgerHandle (k : Nat) (s : State) (f : LinkFrame) : HeldKept s (s.ledgerHandle (ledgerKind k) f).2 := by
  have hterm : HeldKept s (s.termCheck f.payload).2 := heldKept_ite (.refl s) ((HeldKept.refl s).hearTerm _)
  unfold State.ledgerHandle
  refine heldKept_ite (.refl s) ?_
  split
  next hcheck => rwa [hcheck] at hterm
  next hcheck =>
    rw [hcheck] at hterm
    exact hterm.trans (heldKept_ledgerKind k _ f)

theorem heldKept_ledgerAgain (s : State) (f : LinkFrame) : HeldKept s (s.ledgerAgain f).2 := by
  have hhandled := heldKept_ledgerHandle (fieldAt f.payload 0 1) s f
  unfold State.ledgerAgain
  refine heldKept_ite (.refl s) ?_
  split
  next hans => rwa [hans] at hhandled
  next => exact .refl s

/-! ### Bulk frames (R290, R304, R310) -/

theorem heldKept_qrxWrite (s : State) (kind q peer came : Nat) (d : List Byte) : HeldKept s (s.qrxWrite kind q peer came d) := by
  have hstored : ∀ b w v x, LinkKept s (((s.fabWrite .link b .word w).2.fabWrite .link (b + 4) .word v).2.fabWriteBytes .link (b + 16) x) :=
    fun b w v x => (((LinkKept.refl s).fabWrite _ _ _ _).fabWrite _ _ _ _).fabWriteBytes _ _ _
  exact (((HeldKept.refl s).link (hstored _ _ _ _)).setFld (a := LNK_QRX_WR) (by decide) 0 8 _).link
    ((LinkKept.refl _).signal (src := 201) (by decide) _)

theorem heldKept_msgAgain (s : State) (f : LinkFrame) : HeldKept s (s.msgAgain f).2 :=
  heldKept_ite (.refl s) (heldKept_qrxWrite s _ _ _ _ _)

theorem heldKept_serveBoot (s : State) (f : LinkFrame) : HeldKept s (s.serveBoot f) := by
  have hevt : HeldKept s (if fieldAt f.payload 4 4 = 0 then s.lnkEvt 13 else s) := .ite ((HeldKept.refl s).lnkEvt (by decide)) (.refl s)
  exact .ite (hevt.sendFrame _ _ _ _) (.ite (hevt.sendFrame _ _ _ _)
    ((hevt.link ((LinkKept.refl _).fabReadBytes _ _ _)).sendFrame _ _ _ _))

theorem heldKept_sendReq (s : State) (offs len : Nat) : HeldKept s (s.sendReq offs len) :=
  List.foldlRecOn _ _ (HeldKept.refl s) fun _ hx q _ => .ite (hx.queueOn q _) hx

theorem heldKept_takeBoot (s : State) (pl : List Byte) : HeldKept s (s.takeBoot pl) := by
  have hreqs : ∀ (x : State) (l : List (Nat × Nat)), HeldKept s x → HeldKept s (x.setLnk { x.lnk with bootReqs := l }) := fun x l hx =>
    hx.kept (fun _ _ => rfl) rfl
  have hrest := fun l => hreqs s l (.refl s)
  have hstored : ∀ l b d, HeldKept s ((s.setLnk { s.lnk with bootReqs := l }).fabWriteBytes .link b d) := fun l b d =>
    (hrest l).link ((LinkKept.refl _).fabWriteBytes _ _ _)
  unfold State.takeBoot
  exact .ite (.refl s) (.ite (.ite ((hreqs _ _ (hstored _ _ _)).trans (heldKept_sendReq _ _ _)) (hstored _ _ _)) (hrest _))

theorem heldKept_bulkAgain (s : State) (h10 : f.type ≠ 10) (h12 : f.type ≠ 12) : HeldKept s (s.bulkAgain f).2 := by
  unfold State.bulkAgain
  split
  next => exact heldKept_msgAgain s f
  next h => exact absurd h h10
  next => exact .ite (.ite (heldKept_serveBoot s f) (.refl s)) (.ite (heldKept_takeBoot s _) (.refl s))
  next h => exact absurd h h12
  next => exact .refl s

/-! ### Frames offered again (R290) -/

theorem heldKept_erase (s : State) (p w : Nat) (f : LinkFrame) :
    HeldKept s (s.setPort p ((s.port p).setWin w { (s.port p).win w with held := ((s.port p).win w).held.erase f })) := by
  refine ⟨fun _ _ => rfl, fun q x hx => ?_⟩
  rw [port_setPort] at hx
  split at hx
  next hq =>
    rw [win_setWin] at hx
    split at hx
    next hw =>
      rw [hq, hw]
      exact List.mem_of_mem_erase hx
    next => rwa [hq]
  next => exact hx

theorem heldKept_offerHeld (p w : Nat) {take : State → LinkFrame → Bool × State} {l : List LinkFrame}
    (h : ∀ x, ∀ f ∈ l, HeldKept x (take x f).2) (s : State) : HeldKept s (s.offerHeld p w take l) := by
  induction l generalizing s with
  | nil => exact .refl s
  | cons f l ih =>
    have hrest := ih fun x g hg => h x g (List.mem_cons_of_mem f hg)
    have hstep := h s f List.mem_cons_self
    unfold State.offerHeld
    refine .ite (hrest s) ?_
    split
    next hans =>
      rw [hans] at hstep
      exact hstep.trans (hrest _)
    next hans =>
      rw [hans] at hstep
      exact (hstep.trans (heldKept_erase _ p w f)).trans (hrest _)

theorem heldKept_offerAll (s : State) : HeldKept s s.offerAll :=
  List.foldlRecOn _ _ (HeldKept.refl s) fun _ hx p _ =>
    (hx.trans (heldKept_offerHeld p 1 (fun x g _ => heldKept_ledgerAgain x g) _)).trans
      (heldKept_offerHeld p 4 (fun x g _ => heldKept_msgAgain x g) _)

/-- Where no remote access and no reset waits in a bulk buffer, what is offered again keeps the counts. -/
theorem heldKept_offerBulk {u : State} (h : HeldKept s u)
    (hs : ∀ q g, q < 2 → g ∈ ((s.port q).win 4).held → g.type ≠ 10 ∧ g.type ≠ 12) : HeldKept s u.offerBulk :=
  List.foldlRecOn _ _ h fun x hx p hp => hx.trans (heldKept_offerHeld p 4 (fun y g hg => by
    obtain ⟨h10, h12⟩ := hs p g (by simp only [List.mem_cons, List.not_mem_nil, or_false] at hp; omega) (hx.held p g hg)
    exact heldKept_bulkAgain y h10 h12) x)

/-! ### WINDOW_START (R286 to R291) -/

/-- The state in which the window that precedes window `v` has its count of frames held; window 0 follows the last one. -/
def State.windowSet (s : State) (v : Nat) : State :=
  let s1 := if v < 2 then s else s.setFld (LNK_HELD (v - 1)) 0 16 (min 65535 (s.waitingIn (v - 1)))
  if v = 0 then s1.setFld (LNK_HELD 4) 0 16 (min 65535 (s1.waitingIn 4)) else s1

/-- The frames that stay in the receive buffers are offered again. -/
def State.windowServed (s : State) (v : Nat) : State := (if v = 1 then s.ledgerWindow else s).offerAll.offerBulk

/-- What was not acknowledged is to be sent again, and CREDIT leaves both ports. -/
def State.windowSent (s : State) (v : Nat) : State := [0, 1].foldl (fun t p => (t.resend p v).sendCredit p) s

theorem adm_windowSet (s : State) (v : Nat) : (s.windowSet v).adm = s.adm := by
  have hne : ∀ k, LNK_STAT ≠ LNK_HELD k := fun k => by unfold LNK_STAT LNK_HELD; omega
  have hfirst : State.adm (if v < 2 then s else s.setFld (LNK_HELD (v - 1)) 0 16 (min 65535 (s.waitingIn (v - 1)))) = s.adm := by
    split
    · rfl
    · exact adm_congr (rg_setFld_ne s _ _ _ (hne _))
  unfold State.windowSet
  dsimp only
  split
  · exact (adm_congr (rg_setFld_ne _ _ _ _ (hne 4))).trans hfirst
  · exact hfirst

theorem windowStart_opens {v : Fin 5} (hv : v.val ≠ 0) (hrun : (s.advanceTo (s.winStart v.val)).adm ≠ 0) : exec (.windowStart v) s =
    .next ((((s.advanceTo (s.winStart v.val)).windowSet v.val).windowServed v.val).windowSent v.val) :=
  congrArg Host.Outcome.next (if_neg fun h => h.elim (fun hadm => hrun ((adm_windowSet _ v.val).symm.trans hadm)) hv)

theorem lnk_advanceTo (s : State) (n : Nat) : (s.advanceTo n).lnk = s.lnk :=
  advance_keeps_part State.lnk (fun _ _ _ => rfl) (fun _ _ => rfl) (fun _ _ _ _ _ _ _ => rfl) s _

theorem windowStart_sync (s : State) : Ends (.windowStart 0) s (fun u =>
    u.fld (LNK_HELD 4) 0 16 = min 65535 ((s.advanceTo (s.winStart 0)).waitingIn 4) ∧ u.lnk = s.lnk ∧ u.mem = s.mem) := by
  refine ⟨(s.advanceTo (s.winStart 0)).windowSet 0, congrArg Host.Outcome.next (if_pos (.inr rfl)), ?_, lnk_advanceTo s _,
    mem_advance s _⟩
  refine (fld_setFld_same _ _ _ _ _ (by decide)).trans (Nat.mod_eq_of_lt ?_)
  omega

/-! ### Frames sent again, and CREDIT -/

theorem portsOnly_windowSent (s : State) (v : Nat) : PortsOnly s (s.windowSent v) :=
  List.foldlRecOn _ _ (PortsOnly.refl s) fun _ hx q _ => (hx.resend q v).sendCredit q

theorem win_withWire (x : PortSt) (f : Option LinkFrame) (l : List Byte) (k : Nat) :
    PortSt.win { x with sent := f, wire := l } k = x.win k := rfl

theorem win_sendCredit (s : State) (q k : Nat) : ((s.sendCredit q).port q).win k = (s.port q).win k := by
  unfold State.sendCredit
  split
  · rw [port_emit, win_withWire]
  · rfl

theorem port_sendCredit_other (s : State) {q k : Nat} (h : k ≠ q) : (s.sendCredit q).port k = s.port k := by
  unfold State.sendCredit
  split
  · exact port_emit_other s h _
  · rfl

theorem port_resend_other (s : State) {q k : Nat} (h : k ≠ q) (v : Nat) : (s.resend q v).port k = s.port k := by
  rw [State.resend, port_setPort, if_neg h]

/-- One port at the start of window `v`: nothing waits for an acknowledgement, and a port that carries frames has sent CREDIT. -/
structure WindowSent (v q : Nat) (u : State) : Prop where
  unacked : ((u.port q).win v).unacked = []
  credit : u.portUp q = true → u.chanState (0x810 + q) ≠ 3 → ∃ h : LinkFrame, (u.port q).sent = some h ∧ h.type = 5

theorem windowSent_port (s : State) (q v : Nat) : WindowSent v q ((s.resend q v).sendCredit q) := by
  have hregs : ((s.resend q v).sendCredit q).regs = (s.resend q v).regs := ((PortsOnly.refl _).sendCredit q).regs
  refine ⟨by rw [win_sendCredit, win_resend, if_pos rfl], fun hup hch => ?_⟩
  rw [portUp_of_regs hregs] at hup
  rw [chanState_congr (rg_congr hregs _)] at hch
  rw [sendCredit_sends hup hch]
  exact ⟨_, by rw [port_emit], rfl⟩

/-- The other port's turn leaves this one. -/
theorem WindowSent.other {v q k : Nat} (h : WindowSent v q u) (hk : q ≠ k) : WindowSent v q ((u.resend k v).sendCredit k) := by
  have hport : ((u.resend k v).sendCredit k).port q = u.port q := by rw [port_sendCredit_other _ hk, port_resend_other _ hk]
  have hregs : ((u.resend k v).sendCredit k).regs = u.regs := (((PortsOnly.refl u).resend k v).sendCredit k).regs
  refine ⟨by rw [hport, h.unacked], fun hup hch => ?_⟩
  rw [hport]
  exact h.credit (portUp_of_regs hregs q ▸ hup) (chanState_congr (rg_congr hregs (FLT_CHSTAT (0x810 + q))) ▸ hch)

theorem windowSent_both (s : State) (v : Nat) {q : Nat} (hq : q < 2) : WindowSent v q (s.windowSent v) := by
  rcases (show q = 0 ∨ q = 1 by omega) with rfl | rfl
  · exact (windowSent_port s 0 v).other (by decide)
  · exact windowSent_port ((s.resend 0 v).sendCredit 0) 1 v

/-- The count of frames that the window before this one held back stands while its own frames are served. -/
theorem fld_windowServed {v : Nat} (hlow : 2 ≤ v) (hhigh : v < 5)
    (hheld : ∀ q g, q < 2 → g ∈ ((s.port q).win 4).held → g.type ≠ 10 ∧ g.type ≠ 12) :
    ((s.windowSet v).windowServed v).fld (LNK_HELD (v - 1)) 0 16 = min 65535 (s.waitingIn (v - 1)) := by
  have hset : s.windowSet v = s.setFld (LNK_HELD (v - 1)) 0 16 (min 65535 (s.waitingIn (v - 1))) := by
    rw [State.windowSet, if_neg (by omega), if_neg (by omega)]
  have hserved : HeldKept (s.windowSet v) ((s.windowSet v).windowServed v) := by
    rw [State.windowServed, if_neg (by omega)]
    refine heldKept_offerBulk (heldKept_offerAll _) ?_
    rw [hset]
    exact hheld
  rw [fld_congr (hserved.rg _ (by unfold heldReg LNK_HELD; omega)), hset, fld_setFld_same _ _ _ _ _ (by decide)]
  exact Nat.mod_eq_of_lt (by omega)

theorem windowStart_spec {v : Fin 5} (hv : v.val ≠ 0) (hrun : (s.advanceTo (s.winStart v.val)).adm ≠ 0) :
    Ends (.windowStart v) s (fun u => (∀ q, q < 2 → ((u.port q).win v.val).unacked = []) ∧
      (∀ q, q < 2 → u.portUp q = true → u.chanState (0x810 + q) ≠ 3 → ∃ h : LinkFrame, (u.port q).sent = some h ∧ h.type = 5) ∧
      (2 ≤ v.val → (∀ q h, q < 2 → h ∈ ((s.port q).win 4).held → h.type ≠ 10 ∧ h.type ≠ 12) →
        u.fld (LNK_HELD (v.val - 1)) 0 16 = min 65535 ((s.advanceTo (s.winStart v.val)).waitingIn (v.val - 1)))) := by
  let t := s.advanceTo (s.winStart v.val)
  let served := (t.windowSet v.val).windowServed v.val
  refine ⟨_, windowStart_opens hv hrun, fun q hq => (windowSent_both served v.val hq).unacked,
    fun q hq => (windowSent_both served v.val hq).credit, fun hlow hheld => ?_⟩
  rw [fld_congr (rg_congr (portsOnly_windowSent served v.val).regs _)]
  refine fld_windowServed hlow v.isLt fun q g hq hg => hheld q g hq ?_
  rwa [port_of_lnk (lnk_advanceTo s _)] at hg

end Sys2Proof.Machine
end

section
/-! The vehicle link's ports, windows, credit and firmware rings (spec/10 R273 to R291, R310): the statement LinkPorts. -/

namespace Sys2Proof.Machine

/-- Settles O34: each clause is one of the rules above. That messages wait behind any held frame, that port C goes by its enable and
its PHY alone, that a raw LLP frame is taken by the row of its TYPE with the payload its LEN names (log entry 17), and what stands sent
(log entry 13), are the model's choice. -/
theorem linkPorts : Obligations.LinkPorts := by
  intro s p c w d f
  refine ⟨portUp_rises, portUp_stays, portDown_falls, portDown_stays, portSilence_falls, portSilence_waits,
    fun g _ => frameSend_sent, frameSend_waits, fun g l => frameSend_exempt, frameSend_noExempt, creditSend_sends, ?_,
    fun v => windowStart_spec, windowStart_sync s, rawFrameRx_refused, rawFrameRx_dropped, rawFrameRx_written, rawFrameRx_down,
    rawFrameRx_gptp, ?_, ?_, rawFrameRx_reserved, msgRx_held, msgRx_written, msgRx_passed, qtxSend_moves,
    fun v a t b => qtxSend_message, qtxSend_rests⟩
  · intro hd hlen
    obtain ⟨u, hexec, hsrc, hheard, hmem, hwin⟩ := creditRx_spec (w := w) hd hlen
    exact ⟨u, hexec, hsrc, hheard, hmem, fun hw => (hwin hw).1, fun _ _ hw _ _ _ => (hwin hw).2⟩
  · intro j hup hch hg hl hrow
    rw [rawFrameRx_llp hup hch hg hl, llpRx_of_type hrow]
  · intro j hup hch hg hl hrow
    rw [rawFrameRx_llp hup hch hg hl, llpRx_of_kind hrow]

end Sys2Proof.Machine
end

section
/-! The link's time and the lead's frames (spec/10 R279, R280, R291): Sync, peer-delay exchanges, BEAT frames sent and relayed. -/

namespace Sys2Proof.Machine

variable {s t u : State} {p : Fin 2} {f : LinkFrame}

/-! ### Sync (R279) -/

/-- What a port has heard leaves the BEAT frames that it noted. -/
theorem upstream_heardOn (s : State) (q : Nat) : (s.heardOn q).upstream = s.upstream := by
  have hhops : ∀ k, (s.heardOn q).beatHopsOn k = s.beatHopsOn k := fun k => by
    have hport : (s.heardOn q).port k = if k = q then { s.port q with silent := 0 } else s.port k := port_setPort s q k _
    rw [State.beatHopsOn, State.beatHopsOn, hport]
    split
    next h => rw [h]
    next => rfl
  rw [State.upstream, State.upstream, hhops, hhops]

theorem gptpSyncRx_carried {time : BitVec 64} (hup : s.portUp p.val = true) (hch : s.chanState (0x810 + p.val) ≠ 3) :
    exec (.gptpSyncRx p time) s =
      .next (if (s.heardOn p.val).adm = A_LEAD ∨ (s.heardOn p.val).adm = A_STOPPED ∨ (s.heardOn p.val).upstream ≠ some p.val then
        s.heardOn p.val
      else ((s.heardOn p.val).setRg64 LNK_TIME_LO ((time.toNat + (s.heardOn p.val).fld (LNK_PDELAY p.val) 0 16) % 2 ^ 64)).setLnk
        { (s.heardOn p.val).lnk with gptpIn := some time.toNat }) :=
  congrArg Host.Outcome.next (if_pos (by simp [hup, hch]))

theorem gptpSyncRx_sets {time : BitVec 64} (hup : s.portUp p.val = true) (hch : s.chanState (0x810 + p.val) ≠ 3) (hlead : s.adm ≠ 4)
    (hrun : s.adm ≠ 0) (hfrom : s.upstream = some p.val) : Ends (.gptpSyncRx p time) s (fun u =>
      u.rg64 LNK_TIME_LO = (time.toNat + s.fld (LNK_PDELAY p.val) 0 16) % 2 ^ 64 ∧
      SameRegsBut s u [LNK_TIME_LO, LNK_TIME_LO + 4] ∧ u.mem = s.mem) := by
  let v := (time.toNat + s.fld (LNK_PDELAY p.val) 0 16) % 2 ^ 64
  have hsame : ¬ ((s.heardOn p.val).adm = A_LEAD ∨ (s.heardOn p.val).adm = A_STOPPED ∨ (s.heardOn p.val).upstream ≠ some p.val) := by
    rw [upstream_heardOn]
    exact not_or.mpr ⟨hlead, not_or.mpr ⟨hrun, not_not_intro hfrom⟩⟩
  have hwrites : WritesOnly (· ∈ [LNK_TIME_LO, LNK_TIME_LO + 4]) s ((s.heardOn p.val).setRg64 LNK_TIME_LO v) :=
    ((portsOnly_heardOn s p.val).writesOnly _).setRg64 (a := LNK_TIME_LO) (by simp) (by simp) v
  refine ⟨_, gptpSyncRx_carried hup hch, ?_⟩
  rw [if_neg hsame]
  exact ⟨(rg64_setRg64 (s.heardOn p.val) LNK_TIME_LO v).trans (Nat.mod_mod _ _), hwrites.sameRegsBut, hwrites.mem⟩

theorem gptpSyncRx_unused {time : BitVec 64} (hup : s.portUp p.val = true) (hch : s.chanState (0x810 + p.val) ≠ 3)
    (h : s.adm = 4 ∨ s.adm = 0 ∨ s.upstream ≠ some p.val) : exec (.gptpSyncRx p time) s = .next (s.heardOn p.val) := by
  rw [gptpSyncRx_carried hup hch, if_pos (by rwa [upstream_heardOn])]

theorem gptpSyncRx_down {time : BitVec 64} (h : s.portUp p.val = false ∨ s.chanState (0x810 + p.val) = 3) :
    exec (.gptpSyncRx p time) s = .next s :=
  congrArg Host.Outcome.next (if_neg (by rcases h with h | h <;> simp [h]))

/-! ### Peer-delay exchanges (R279, R291) -/

theorem pdelayExchange_asks (hup : s.portUp p.val = true) : Ends (.pdelayExchange p) s (fun u => (u.port p.val).pdelayOpen = true ∧
    (∃ h : LinkFrame, (u.port p.val).sent = some h ∧ h.payload = [2]) ∧ u.regs = s.regs ∧ u.mem = s.mem) := by
  refine ⟨(s.setPort p.val { s.port p.val with pdelayOpen := true }).emit p.val (otherFrame GPTP_MARK 15 [2]),
    congrArg Host.Outcome.next (if_pos hup), by rw [port_emit, port_setPort_same], ⟨_, by rw [port_emit], rfl⟩, rfl, rfl⟩

theorem pdelayReqRx_answers (hup : s.portUp p.val = true) : Ends (.pdelayReqRx p) s (fun u =>
    (∃ h : LinkFrame, (u.port p.val).sent = some h ∧ h.payload = [10]) ∧ (u.port p.val).silent = 0 ∧ u.regs = s.regs ∧
    u.mem = s.mem) := by
  refine ⟨((s.heardOn p.val).emit p.val (otherFrame GPTP_MARK 15 [3])).emit p.val (otherFrame GPTP_MARK 15 [10]),
    congrArg Host.Outcome.next (if_pos hup), ⟨_, by rw [port_emit], rfl⟩,
    by rw [port_emit, port_emit, State.heardOn, port_setPort_same], rfl, rfl⟩

theorem pdelay_down {t1 t2 t3 t4 : BitVec 64} (hdown : s.portUp p.val = false) : exec (.pdelayExchange p) s = .next s ∧
    exec (.pdelayReqRx p) s = .next s ∧ exec (.pdelayResponseRx p t1 t2 t3 t4) s = .next s :=
  ⟨congrArg Host.Outcome.next (if_neg (by simp [hdown])), congrArg Host.Outcome.next (if_neg (by simp [hdown])),
    congrArg Host.Outcome.next (if_neg (by simp [hdown]))⟩

/-- The neighbour rate ratio after an exchange whose response left at `t3` and came at `t4`. -/
def PortSt.ratioBy (x : PortSt) (t3 t4 : Nat) : Nat × Nat :=
  match x.pdelayLast with
  | some (a, b) => if a < t3 ∧ b < t4 then (t3 - a, t4 - b) else x.rateRatio
  | none => x.rateRatio

/-- The link delay of an exchange, at a rate ratio. -/
def delayBy (ratio : Nat × Nat) (t1 t2 t3 t4 : Nat) : Int :=
  (((t4 : Int) - t1) * ratio.1 / (max 1 ratio.2 : Nat) - ((t3 : Int) - t2)) / 2

/-- The exchange is closed, with its times and its ratio. -/
def State.exchanged (s : State) (q : Nat) (ratio : Nat × Nat) (t3 t4 : Nat) : State :=
  (s.heardOn q).setPort q { (s.heardOn q).port q with pdelayOpen := false, pdelayLast := some (t3, t4), rateRatio := ratio }

theorem pdelayResponseRx_eq {t1 t2 t3 t4 : BitVec 64} (hup : s.portUp p.val = true) (hopen : (s.port p.val).pdelayOpen = true)
    {ratio : Nat × Nat} (hratio : ratio = (s.port p.val).ratioBy t3.toNat t4.toNat) {delay : Int}
    (hdelay : delay = delayBy ratio t1.toNat t2.toNat t3.toNat t4.toNat) :
    exec (.pdelayResponseRx p t1 t2 t3 t4) s = .next (if 0 ≤ delay ∧ delay < 65536 then
        (s.exchanged p.val ratio t3.toNat t4.toNat).setFld (LNK_PDELAY p.val) 0 16 delay.toNat
      else (s.exchanged p.val ratio t3.toNat t4.toNat).draw.2.setFld (LNK_PDELAY p.val) 0 16
        (s.exchanged p.val ratio t3.toNat t4.toNat).draw.1) := by
  have hheard : ((s.heardOn p.val).port p.val).ratioBy t3.toNat t4.toNat = ratio := by
    rw [State.heardOn, port_setPort_same, hratio]
    rfl
  subst hdelay
  rw [← hheard]
  exact congrArg Host.Outcome.next (if_pos (by rw [hup, hopen]; rfl))

theorem pdelayResponseRx_closes {t1 t2 t3 t4 : BitVec 64} (hup : s.portUp p.val = true) (hopen : (s.port p.val).pdelayOpen = true)
    {ratio : Nat × Nat} (hratio : ratio = (s.port p.val).ratioBy t3.toNat t4.toNat) {delay : Int}
    (hdelay : delay = delayBy ratio t1.toNat t2.toNat t3.toNat t4.toNat) :
    Ends (.pdelayResponseRx p t1 t2 t3 t4) s (fun u =>
      (0 ≤ delay → delay < 65536 → u.fld (LNK_PDELAY p.val) 0 16 = delay.toNat) ∧ (u.port p.val).pdelayOpen = false ∧
      (u.port p.val).rateRatio = ratio ∧ SameRegsBut s u [LNK_PDELAY p.val] ∧ u.mem = s.mem) := by
  have hports : PortsOnly s (s.exchanged p.val ratio t3.toNat t4.toNat) := (portsOnly_heardOn s p.val).setPort _ _
  have hport : ((s.exchanged p.val ratio t3.toNat t4.toNat).port p.val) =
      { (s.heardOn p.val).port p.val with
        pdelayOpen := false, pdelayLast := some (t3.toNat, t4.toNat), rateRatio := ratio } := port_setPort_same _ _ _
  have hset : ∀ x : State, x.regs = (s.exchanged p.val ratio t3.toNat t4.toNat).regs → ∀ n,
      SameRegsBut s (x.setFld (LNK_PDELAY p.val) 0 16 n) [LNK_PDELAY p.val] := fun x hx n a ha =>
    (rg_setFld_ne x _ _ _ fun e => ha (by simp [e])).trans (rg_congr (hx.trans hports.regs) a)
  have hstate : ∀ x : State, x.lnk = (s.exchanged p.val ratio t3.toNat t4.toNat).lnk → (x.port p.val).pdelayOpen = false ∧
      (x.port p.val).rateRatio = ratio := fun x hx => by
    rw [port_of_lnk hx, hport]
    exact ⟨rfl, rfl⟩
  refine ⟨_, pdelayResponseRx_eq hup hopen hratio hdelay, ?_⟩
  split
  next h =>
    obtain ⟨hopen', hratio'⟩ := hstate ((s.exchanged p.val ratio t3.toNat t4.toNat).setFld (LNK_PDELAY p.val) 0 16 delay.toNat) rfl
    refine ⟨fun _ _ => ?_, hopen', hratio', hset _ rfl _, hports.mem⟩
    rw [fld_setFld_same _ _ _ _ _ (by decide)]
    exact Nat.mod_eq_of_lt (by omega)
  next h =>
    obtain ⟨hopen', hratio'⟩ := hstate ((s.exchanged p.val ratio t3.toNat t4.toNat).draw.2.setFld (LNK_PDELAY p.val) 0 16
      (s.exchanged p.val ratio t3.toNat t4.toNat).draw.1) rfl
    exact ⟨fun h0 h1 => absurd ⟨h0, h1⟩ h, hopen', hratio', hset _ rfl _, hports.mem⟩

theorem pdelayTimeout_reports (hopen : (s.port p.val).pdelayOpen = true) : Ends (.pdelayTimeout p) s (fun u =>
    (u.port p.val).pdelayOpen = false ∧ u.rg (LNK_PERR p.val) = s.rg (LNK_PERR p.val) + 1 ∧ u.mem = s.mem) := by
  let t := s.setPort p.val { s.port p.val with pdelayOpen := false }
  have hp : p.val ≤ 2 := by omega
  have hclosed : (t.port p.val).pdelayOpen = false := by rw [port_setPort_same]
  exact ⟨t.portError p.val 4 0, congrArg Host.Outcome.next (if_pos hopen), (portFault_portError hp t 4 0).pdelay.trans hclosed,
    perr_portError hp t 4 0, mem_portError hp t 4 0⟩

theorem pdelay_closed {t1 t2 t3 t4 : BitVec 64} (hclosed : (s.port p.val).pdelayOpen = false) :
    exec (.pdelayTimeout p) s = .next s ∧ exec (.pdelayResponseRx p t1 t2 t3 t4) s = .next s :=
  ⟨congrArg Host.Outcome.next (if_neg (by simp [hclosed])), congrArg Host.Outcome.next (if_neg (by simp [hclosed]))⟩

/-! ### BEAT frames with their gPTP messages (R280) -/

/-- What leaves with a BEAT frame: Sync and Follow_Up before it. -/
def beatTrain (f : LinkFrame) : List LinkFrame := [otherFrame GPTP_MARK 0 [0], otherFrame GPTP_MARK 0 [8], f]

/-- Sync, Follow_Up and a BEAT frame go to port `q`. -/
def State.queueBeat (s : State) (q : Nat) (f : LinkFrame) : State := ((s.sendGptp q 0).sendGptp q 8).queueOn q f

theorem PortsOnly.queueBeat (h : PortsOnly s u) (q : Nat) (f : LinkFrame) : PortsOnly s (u.queueBeat q f) :=
  ((h.queueOn q _).queueOn q _).queueOn q f

theorem exempt_queueBeat (s : State) (q : Nat) (hf : f.type = 1) :
    ((s.queueBeat q f).port q).exempt = (s.port q).exempt ++ beatTrain f := by
  rw [State.queueBeat, exempt_queueOn _ _ (by rw [hf]; rfl), State.sendGptp, exempt_queueOn _ _ rfl, State.sendGptp,
    exempt_queueOn _ _ rfl, List.append_assoc, List.append_assoc]
  rfl

theorem port_queueBeat_other (s : State) {q k : Nat} (h : k ≠ q) (f : LinkFrame) : (s.queueBeat q f).port k = s.port k := by
  rw [State.queueBeat, port_queueOn_other _ h, State.sendGptp, port_queueOn_other _ h, State.sendGptp, port_queueOn_other _ h]

/-- What goes out on both ring ports, each on its own port alone, waits on each one that is UP. -/
theorem exempt_both {step : State → Nat → State} {l : List LinkFrame} (hports : ∀ x q, PortsOnly x (step x q))
    (hother : ∀ x q k, k ≠ q → (step x q).port k = x.port k)
    (hself : ∀ x, PortsOnly s x → ((step x p.val).port p.val).exempt = (x.port p.val).exempt ++ l) (hup : s.portUp p.val = true) :
    (([0, 1].foldl (fun x q => if x.portUp q then step x q else x) s).port p.val).exempt = (s.port p.val).exempt ++ l := by
  let s1 := if s.portUp 0 = true then step s 0 else s
  have hfold : [0, 1].foldl (fun x q => if x.portUp q then step x q else x) s = if s1.portUp 1 = true then step s1 1 else s1 := rfl
  have hs1 : PortsOnly s s1 := .ite (hports s 0) (.refl s)
  rw [hfold, portUp_of_regs hs1.regs]
  rcases (show p = 0 ∨ p = 1 by omega) with rfl | rfl
  · have hfirst : (s1.port 0).exempt = (s.port 0).exempt ++ l := by
      dsimp only [s1]
      rw [if_pos (by exact hup)]
      exact hself s (.refl s)
    show (State.port (ite _ _ _) 0).exempt = _
    split
    · rw [hother _ _ _ (by decide), hfirst]; rfl
    · exact hfirst
  · have hsame : s1.port 1 = s.port 1 := by
      dsimp only [s1]
      split
      · exact hother _ _ _ (by decide)
      · rfl
    rw [if_pos (by exact hup)]
    show ((step s1 1).port 1).exempt = _
    exact (hself s1 hs1).trans (by show (s1.port 1).exempt ++ l = _; rw [hsame]; rfl)

theorem portsOnly_both {step : State → Nat → State} (hports : ∀ x q, PortsOnly x (step x q)) (s : State) :
    PortsOnly s ([0, 1].foldl (fun x q => if x.portUp q then step x q else x) s) :=
  List.foldlRecOn _ _ (PortsOnly.refl s) fun x hx q _ => by
    split
    · obtain ⟨y, hy⟩ := hports x q
      obtain ⟨z, rfl⟩ := hx
      exact ⟨y, hy⟩
    · exact hx

/-- The BEAT frame that the lead sends on port `q`. -/
def State.leadBeat (s : State) (q : Nat) : LinkFrame :=
  { gen := s.ownGen, type := 1, dst := 0xFF, src := s.ownId, hops := 0, win := 0, beat := 0, hseq := none
    inPort := none, payload := s.beatPayload q }

/-- The lead's view of the vehicle once it has noted the frame that it sends. -/
def State.beatNoted (s : State) : State := s.setLnk { s.lnk with beatSent := (s.beatPayload 0).take 16 }

theorem beatFrameSend_leads (hlead : s.leads = true) : exec .beatFrameSend s = .next ([0, 1].foldl
    (fun t q => if t.portUp q then t.queueBeat q (t.leadBeat q) else t) s.beatNoted) :=
  congrArg Host.Outcome.next (if_pos hlead)

/-- What the lead says in its BEAT frame is nothing of what the link holds. -/
theorem beatPayload_setLnk (s : State) (x : LnkSt) (q : Nat) : (s.setLnk x).beatPayload q = s.beatPayload q := rfl

theorem leadBeat_setLnk (s : State) (x : LnkSt) (q : Nat) : (s.setLnk x).leadBeat q = s.leadBeat q := by
  rw [State.leadBeat, beatPayload_setLnk]
  rfl

/-- The lead's frame is the same whatever has been queued since. -/
theorem leadBeat_queued (h : PortsOnly s.beatNoted u) (q : Nat) : u.leadBeat q = s.leadBeat q := by
  obtain ⟨y, hy⟩ := h
  have hset : u = s.setLnk { s.beatNoted.lnk with ports := y } := hy
  rw [hset, leadBeat_setLnk]

theorem exempt_beatFrameSend (hup : s.portUp p.val = true) :
    (([0, 1].foldl (fun t q => if t.portUp q then t.queueBeat q (t.leadBeat q) else t) s.beatNoted).port p.val).exempt =
      (s.port p.val).exempt ++ beatTrain (s.leadBeat p.val) := by
  refine exempt_both (s := s.beatNoted) (fun x q => (PortsOnly.refl x).queueBeat q _) (fun x q k h => port_queueBeat_other x h _)
    (fun x hx => ?_) hup
  rw [exempt_queueBeat _ _ rfl, leadBeat_queued hx]

theorem beatFrameSend_queues (hlead : s.leads = true) (hup : s.portUp p.val = true) : Ends .beatFrameSend s (fun u =>
    u.regs = s.regs ∧ u.mem = s.mem ∧ ∃ h : LinkFrame, (u.port p.val).exempt = (s.port p.val).exempt ++ beatTrain h ∧ h.type = 1 ∧
      h.hops = 0 ∧ h.win = 0 ∧ h.payload = s.beatPayload p.val) := by
  have hall : PortsOnly s.beatNoted ([0, 1].foldl (fun t q => if t.portUp q then t.queueBeat q (t.leadBeat q) else t) s.beatNoted) :=
    portsOnly_both (fun x q => (PortsOnly.refl x).queueBeat q _) _
  exact ⟨_, beatFrameSend_leads hlead, hall.regs, hall.mem, s.leadBeat p.val, exempt_beatFrameSend hup, rfl, rfl, rfl, rfl⟩

theorem beatFrameSend_follows (hlead : s.leads = false) : exec .beatFrameSend s = .next s :=
  congrArg Host.Outcome.next (if_neg (by simp [hlead]))

theorem beatRelay_none (h : s.lnk.relay = none) : exec .beatRelay s = .next s := by
  show execBeatRelay s = _
  simp only [execBeatRelay, h]
  rfl

theorem beatRelay_relays {q : Nat} (h : s.lnk.relay = some (q, f)) : exec .beatRelay s =
    .next (if s.portUp (1 - q) then (s.setLnk { s.lnk with relay := none }).queueBeat (1 - q) f
      else s.setLnk { s.lnk with relay := none }) := by
  show execBeatRelay s = _
  simp only [execBeatRelay, h]
  rfl

theorem beatRelay_sends (h : s.lnk.relay = some (p.val, f)) (hup : s.portUp (1 - p.val) = true) (hf : f.type = 1) :
    Ends .beatRelay s (fun u => u.lnk.relay = none ∧ u.regs = s.regs ∧ u.mem = s.mem ∧
      (u.port (1 - p.val)).exempt = (s.port (1 - p.val)).exempt ++ beatTrain f) := by
  let t := s.setLnk { s.lnk with relay := none }
  have hports : PortsOnly t (t.queueBeat (1 - p.val) f) := (PortsOnly.refl t).queueBeat _ f
  obtain ⟨x, hlnk⟩ := hports.lnk
  refine ⟨t.queueBeat (1 - p.val) f, (beatRelay_relays h).trans (congrArg Host.Outcome.next (if_pos hup)), by rw [hlnk]; rfl,
    hports.regs, hports.mem, ?_⟩
  exact exempt_queueBeat t (1 - p.val) hf

theorem beatRelay_drops (h : s.lnk.relay = some (p.val, f)) (hdown : s.portUp (1 - p.val) = false) :
    exec .beatRelay s = .next { s with lnk := { s.lnk with relay := none } } := by
  rw [beatRelay_relays h, if_neg (by simp [hdown])]
  rfl

end Sys2Proof.Machine
end

section
/-! BEAT frames received (spec/10 R280, R281, R294, R299, R300): a conflict of two leads, and what a device that begins to follow takes
from the frame. -/

namespace Sys2Proof.Machine

variable {s t u : State} {p : Fin 2} {g : LinkFrame} {b : BeatFrame} {a : Nat}

/-- A BEAT frame is whole and none of this lead's own that came back. -/
structure BeatUsable (s : State) (g : LinkFrame) : Prop where
  whole : 32 + 16 * fieldAt g.payload 22 1 ≤ g.payload.length
  foreign : g.payload.take 16 ≠ s.lnk.beatSent

theorem BeatUsable.guard (h : BeatUsable s g) :
    ¬ (g.payload.length < 32 + 16 * fieldAt g.payload 0x16 1 || g.payload.take 16 == s.lnk.beatSent) = true := by
  simp only [Bool.or_eq_true, decide_eq_true_eq, beq_iff_eq, not_or]
  exact ⟨Nat.not_lt.mpr h.whole, h.foreign⟩

/-! ### Two leads (R294) -/

theorem beatRx_conflict (h : BeatUsable s g) (hlead : s.leads = true) (hterm : fieldAt g.payload 28 4 = s.ldg.nv.term) (q : Nat) :
    s.beatRx q g = s.leadConflict := by
  unfold State.beatRx
  dsimp only
  rw [if_neg h.guard, if_pos (by rw [hlead, hterm]; simp)]

/-- Giving up the lead raises no event of the link. -/
theorem rg_evt_stopLeading (s : State) (k : Nat) : (s.stopLeading k).rg LNK_EVT = s.rg LNK_EVT := by
  rw [(writesOnly_stopLeading s k).rg _ (by decide), rg_congr (regs_leadGiven s k), State.leadDropped,
    rg_toBeatState_ne _ (by decide) (by decide) (by decide)]
  exact (((WritesOnly.refl (· ∈ roleRegs) s).setFld (a := LNK_STAT) (by decide) 0 3 k).setRole (fun _ h => h) 0).rg _ (by decide)

theorem bit_leadConflict (s : State) : s.leadConflict.bit LNK_EVT 14 = true := by
  have hevt : (s.lnkEvt 14).bit LNK_EVT 14 = true := bit_lnkEvt s (by decide)
  unfold State.leadConflict
  dsimp only
  split
  · rwa [bit_congr (rg_evt_stopLeading _ _)]
  · exact hevt

/-! ### The frame's lead is taken (R281, R293) -/

/-- The lead that the frame names. -/
def State.beatLed (s : State) (g : LinkFrame) : State :=
  (s.setLnk { s.lnk with hasLead := true, leadTerm := fieldAt g.payload 28 4 }).setLeadId (fieldAt g.payload 0x17 1)

/-- Discovery has found a lead. -/
def State.beatFound (s : State) : State := if s.adm = A_DISCOVER then (s.setFld LNK_STAT 0 3 A_WAIT).endSilence else s

/-- Port `q` has a BEAT frame of this beat. -/
def State.beatNoticed (s : State) (q : Nat) (g : LinkFrame) : State :=
  s.setPort q { s.port q with beatHops := some g.hops, beatMport := fieldAt g.payload 21 1, beatNow := true }

/-- The lead, its term and its place are known. -/
def State.beatPlaced (s : State) (q : Nat) (g : LinkFrame) : State :=
  (((((s.beatLed g).beatFound).learnTerm (fieldAt g.payload 28 4)).beatNoticed q g).setFld (LNK_PSTAT q) 16 6 g.hops).followTopology

theorem beatRx_follows (h : BeatUsable s g) (hlead : s.leads = false)
    (hterm : s.lnk.hasLead = false ∨ s.lnk.leadTerm ≤ fieldAt g.payload 28 4) (q : Nat) :
    s.beatRx q g = if (s.beatPlaced q g).upstream != some q then s.beatPlaced q g else (s.beatPlaced q g).useBeat q g := by
  have hold : ¬ (s.leads && decide (fieldAt g.payload 28 4 < s.ldg.nv.term) ||
      !s.leads && s.lnk.hasLead && decide (fieldAt g.payload 28 4 < s.lnk.leadTerm)) = true := by
    rw [hlead]
    rcases hterm with h | h
    · simp [h]
    · simp [Nat.not_lt.mpr h]
  unfold State.beatRx
  dsimp only
  rw [if_neg h.guard, if_neg (by simp [hlead]), if_neg hold, hlead]
  rfl

theorem followTopology_eq (s : State) : ∃ k, s.followTopology = s.setTopology k := ⟨_, rfl⟩

theorem leadId_congr (h : t.rg LNK_STAT = s.rg LNK_STAT) : t.leadId = s.leadId := fld_congr h 16 6

theorem leadId_setTopology (s : State) (k : Nat) : (s.setTopology k).leadId = s.leadId := by
  unfold State.setTopology
  split
  · rfl
  · exact (leadId_congr (rg_lnkStat_lnkEvt _ (by decide))).trans (fld_setFld_other s _ _ _ _ (by decide) (by decide))

theorem beatFound_spec (s : State) : s.beatFound.adm = (if s.adm = 1 then 2 else s.adm) ∧ s.beatFound.leadId = s.leadId ∧
    s.beatFound.lnk = s.lnk ∧ s.beatFound.beatState = s.beatState := by
  unfold State.beatFound
  split
  · exact ⟨adm_setAdm s 2, fld_setFld_other s _ _ _ _ (by decide) (by decide), rfl, fld_congr (rg_setRg_ne s _ (by decide)) 0 3⟩
  · exact ⟨rfl, rfl, rfl, rfl⟩

/-- What the frame's place leaves: the lead and its term, with ADM out of discovery and the beat's state as it was. -/
theorem beatPlaced_spec (s : State) (q : Nat) (g : LinkFrame) : (s.beatPlaced q g).adm = (if s.adm = 1 then 2 else s.adm) ∧
    (s.beatPlaced q g).leadId = fieldAt g.payload 23 1 % 64 ∧ (s.beatPlaced q g).lnk.leadTerm = fieldAt g.payload 28 4 ∧
    (s.beatPlaced q g).beatState = s.beatState := by
  let led := s.beatLed g
  let learned := led.beatFound.learnTerm (fieldAt g.payload 28 4)
  let noticed := (learned.beatNoticed q g).setFld (LNK_PSTAT q) 16 6 g.hops
  have hlearned : LinkKept led.beatFound learned := (LinkKept.refl _).learnTerm _
  have hrg : ∀ a, beatLinkReg a → a ≠ LNK_PSTAT q → noticed.rg a = led.beatFound.rg a := fun a ha hne =>
    (rg_setFld_ne (learned.beatNoticed q g) _ _ _ hne).trans (hlearned.rg a ha)
  have hstat := hrg LNK_STAT (by decide) (by unfold LNK_STAT LNK_PSTAT; omega)
  obtain ⟨k, hk⟩ := followTopology_eq noticed
  obtain ⟨hadm, hid, hlnk, hbeat⟩ := beatFound_spec led
  have hled : led.adm = s.adm := adm_setLeadId _ _
  have hplaced : s.beatPlaced q g = noticed.setTopology k := hk
  rw [hplaced, adm_setTopology, leadId_setTopology, lnk_setTopology, adm_congr hstat, leadId_congr hstat, hadm, hid, hled]
  refine ⟨rfl, leadId_setLeadId _ _, ?_, ?_⟩
  · show learned.lnk.leadTerm = _
    rw [hlearned.lnk, hlnk]
    rfl
  · rw [State.beatState, fld_congr (rg_setTopology_ne k (by decide) (by decide) (by decide)),
      fld_congr (hrg BEAT_STAT (by decide) (by unfold BEAT_STAT LNK_PSTAT; omega))]
    exact hbeat.trans (fld_congr (rg_setRg_ne _ _ (by decide)) 0 3)

/-- Where the other port has had no BEAT frame, this one is the upstream port (R280). -/
theorem upstream_beatPlaced (hother : (s.port (1 - p.val)).beatHops = none) : (s.beatPlaced p.val g).upstream = some p.val := by
  let learned := ((s.beatLed g).beatFound).learnTerm (fieldAt g.payload 28 4)
  have hlearned : learned.lnk = (s.beatLed g).lnk :=
    ((LinkKept.refl _).learnTerm _).lnk.trans (beatFound_spec (s.beatLed g)).2.2.1
  have hports : ∀ k, (s.beatPlaced p.val g).port k = (learned.beatNoticed p.val g).port k := fun k => by
    obtain ⟨j, hj⟩ := followTopology_eq ((learned.beatNoticed p.val g).setFld (LNK_PSTAT p.val) 16 6 g.hops)
    have hplaced : s.beatPlaced p.val g = State.setTopology _ j := hj
    rw [hplaced, port_of_lnk (lnk_setTopology _ j)]
    rfl
  have hhere : (s.beatPlaced p.val g).beatHopsOn p.val = some g.hops := by
    rw [State.beatHopsOn, hports, State.beatNoticed, port_setPort_same]
    rfl
  have hne : 1 - p.val ≠ p.val := by omega
  have hthere : (s.beatPlaced p.val g).beatHopsOn (1 - p.val) = none := by
    rw [State.beatHopsOn, hports, State.beatNoticed, port_setPort, if_neg hne, port_of_lnk hlearned]
    have hold : ((s.beatLed g).port (1 - p.val)).beatHops = none := hother
    simp [hold]
  rcases (show p = 0 ∨ p = 1 by omega) with rfl | rfl <;> simp only [State.upstream]
  · rw [show (s.beatPlaced (0 : Fin 2).val g).beatHopsOn 0 = _ from hhere, show State.beatHopsOn _ 1 = _ from hthere]
    rfl
  · rw [show (s.beatPlaced (1 : Fin 2).val g).beatHopsOn 1 = _ from hhere, show State.beatHopsOn _ 0 = _ from hthere]
    rfl

/-! ### The beat begins to follow (R52, R53, R300) -/

/-- From `s` to `u` the beat is steered: LNK_STAT, the state of the beat and its count of edges in tolerance stay, and so do the
link and whether edges are made. -/
structure BeatSteered (s u : State) : Prop where
  stat : u.rg LNK_STAT = s.rg LNK_STAT
  beatStat : u.rg BEAT_STAT = s.rg BEAT_STAT
  lnk : u.lnk = s.lnk
  silent : u.beat.silent = s.beat.silent
  inTol : u.beat.inTol = s.beat.inTol

theorem beatSteered_stepEdge (s : State) (b : BeatFrame) : BeatSteered s (s.stepEdge b) := by
  have hset : ∀ (n k : Nat), BeatSteered s (State.raise { (s.placeEdge n).setBit BEAT_EVT 4 true with
      beat := { ((s.placeEdge n).setBit BEAT_EVT 4 true).beat with stepTo := some k } } 5) := fun n k =>
    ⟨(rg_raise_ne _ _ (by decide)).trans (rg_setBit_ne (s.placeEdge n) _ _ (by decide)),
      (rg_raise_ne _ _ (by decide)).trans (rg_setBit_ne (s.placeEdge n) _ _ (by decide)), State.raise_lnk _ _,
      (congrArg BeatSt.silent (State.raise_beat _ _)).trans rfl, (congrArg BeatSt.inTol (State.raise_beat _ _)).trans rfl⟩
  exact hset _ _

theorem beatSteered_slewEdge (s : State) (b : BeatFrame) (j offs : Int) : BeatSteered s (s.slewEdge b j offs) := by
  have hset : ∀ n, BeatSteered s (s.draw.2.placeEdge n) := fun n => ⟨rfl, rfl, rfl, rfl, rfl⟩
  unfold State.slewEdge
  dsimp only
  split
  · exact hset _
  · exact hset _

/-- The beat with its count of edges in tolerance. -/
def State.beatCounted (s : State) (n : Nat) : State := { s with beat := { s.beat with inTol := n } }

/-- A beat that has had no edge in tolerance is not in LOCK with the next one: its state stays. -/
theorem steer_keeps_state (htol : s.beat.inTol = 0) (b : BeatFrame) (offs : Int) :
    ∃ n, BeatSteered (s.beatCounted n) (s.steer b offs) := by
  let n := if decide (-1000 ≤ offs ∧ offs ≤ 1000) then s.beat.inTol + 1 else 0
  let c := s.beatCounted n
  let moved := if c.beatState == B_ACQUIRE && (decide (100000 < offs) || decide (offs < -100000)) then c.stepEdge b
    else c.slewEdge b (c.periodsOff b) offs
  have hn : n ≤ 1 := by
    dsimp only [n]
    split <;> omega
  have hmoved : BeatSteered c moved := by
    dsimp only [moved]
    split
    · exact beatSteered_stepEdge c b
    · exact beatSteered_slewEdge c b _ _
  have hfew : ¬ (moved.beatState == B_ACQUIRE && decide (8 ≤ moved.beat.inTol)) = true := by
    have hcount : moved.beat.inTol = n := hmoved.inTol
    rw [hcount]
    simp only [Bool.and_eq_true, decide_eq_true_eq, not_and]
    omega
  have hsteer : s.steer b offs = moved := if_neg hfew
  exact ⟨n, hsteer ▸ hmoved⟩

theorem inTol_toBeatState {k : Nat} (h : s.beatState ≠ k) : (s.toBeatState k).beat.inTol = 0 := by
  unfold State.toBeatState
  dsimp only
  rw [if_neg h, State.raise_beat]

/-- From `s` to `u` a follower has taken a frame of its lead: LNK_STAT, the lead's term and the frame to relay stay, and edges are
made. -/
structure BeatFollowed (s u : State) : Prop where
  stat : u.rg LNK_STAT = s.rg LNK_STAT
  term : u.lnk.leadTerm = s.lnk.leadTerm
  relay : u.lnk.relay = s.lnk.relay
  silent : u.beat.silent = false

theorem keepFrame_spec (s : State) (b : BeatFrame) : BeatFollowed s (s.keepFrame b) ∧ (s.keepFrame b).beatState = s.beatState := by
  have hevt : ∀ x : State, BeatFollowed s x ∧ x.beatState = s.beatState →
      BeatFollowed s (x.lnkEvt 7) ∧ (x.lnkEvt 7).beatState = s.beatState := by
    rintro x ⟨⟨hstat, hterm, hrelay, hsilent⟩, hbeat⟩
    have hlnk : (x.lnkEvt 7).lnk = x.lnk := State.event_lnk x _ _ _
    refine ⟨⟨(rg_lnkStat_lnkEvt x (by decide)).trans hstat, by rw [hlnk, hterm], by rw [hlnk, hrelay],
      (congrArg BeatSt.silent (State.event_beat x _ _ _)).trans hsilent⟩, ?_⟩
    exact (fld_congr (rg_event_ne x _ _ _ (by decide) (by decide)) 0 3).trans hbeat
  have hkept : ∀ l, BeatFollowed s (State.setLnk { s with
        beat := { s.beat with frame := some b, heard := true, noSync := 0, silent := false, period := some (b.num, b.den) } }
      { s.lnk with rateTaken := l }) := fun l => ⟨rfl, rfl, rfl, rfl⟩
  unfold State.keepFrame
  dsimp only
  split
  · exact ⟨hkept s.lnk.rateTaken, rfl⟩
  next at_ n d _ =>
    split
    · split
      · exact hevt _ ⟨hkept none, rfl⟩
      · exact hevt _ ⟨hkept s.lnk.rateTaken, rfl⟩
    · split
      · exact ⟨hkept none, rfl⟩
      · exact ⟨hkept s.lnk.rateTaken, rfl⟩

/-- A follower in FREE or HOLDOVER that hears its lead begins to acquire. -/
theorem follow_acquires (hfree : s.beatState = 0 ∨ s.beatState = 3) (b : BeatFrame) :
    BeatFollowed s (s.follow b) ∧ (s.follow b).beatState = 1 := by
  let kept := s.keepFrame b
  let acq := kept.toBeatState B_ACQUIRE
  let shown := acq.setRg BEAT_OFFS (w32i (clampI (-2147483647) 2147483647 (acq.measured b)))
  obtain ⟨hkept, hbeat⟩ := keepFrame_spec s b
  have hidle : kept.beatState = 0 ∨ kept.beatState = 3 := by rwa [show kept.beatState = _ from hbeat]
  have hstate : acq.beatState = 1 := beatState_toBeatState kept (by decide)
  have htol : acq.beat.inTol = 0 := inTol_toBeatState (by rcases hidle with h | h <;> rw [h] <;> decide)
  have hshown : BeatFollowed s shown ∧ shown.beatState = 1 ∧ shown.beat.inTol = 0 := by
    refine ⟨⟨?_, ?_, ?_, ?_⟩, (fld_congr (rg_setRg_ne acq _ (by decide)) 0 3).trans hstate, htol⟩
    · exact (rg_setRg_ne acq _ (by decide)).trans ((rg_toBeatState_ne _ (by decide) (by decide) (by decide)).trans hkept.stat)
    · exact (congrArg LnkSt.leadTerm (lnk_toBeatState kept _)).trans hkept.term
    · exact (congrArg LnkSt.relay (lnk_toBeatState kept _)).trans hkept.relay
    · exact (silent_toBeatState kept _).trans hkept.silent
  obtain ⟨hfollowed, hacq, hzero⟩ := hshown
  have hfollow : s.follow b = if s.beat.heard then shown else shown.steer b (acq.measured b) := by
    have hgo : (kept.beatState == B_FREE || kept.beatState == B_HOLDOVER) = true := by rcases hidle with h | h <;> rw [h] <;> rfl
    unfold State.follow
    dsimp only
    rw [if_pos hgo]
  rw [hfollow]
  split
  · exact ⟨hfollowed, hacq⟩
  · obtain ⟨n, hsteered⟩ := steer_keeps_state hzero b (acq.measured b)
    refine ⟨⟨hsteered.stat.trans hfollowed.stat, ?_, ?_, hsteered.silent.trans hfollowed.silent⟩,
      (fld_congr hsteered.beatStat 0 3).trans hacq⟩
    · rw [hsteered.lnk]
      exact hfollowed.term
    · rw [hsteered.lnk]
      exact hfollowed.relay

/-! ### Announcements (R264, R286, R299) -/

/-- The registers that received announcements write. -/
abbrev annReg (a : Nat) : Prop := (0x40070200 ≤ a ∧ a < 0x40070280) ∨ a = LNK_EVT ∨ a = ECX_PEND 6 ∨ a = LNK_MPLANCRC

/-- From `s` to `u` only registers of the announcements change, and of the link nothing that its lead's frames are followed by. -/
structure AnnsOnly (s u : State) : Prop where
  writes : WritesOnly annReg s u
  term : u.lnk.leadTerm = s.lnk.leadTerm
  relay : u.lnk.relay = s.lnk.relay

namespace AnnsOnly

theorem setRg (h : AnnsOnly s u) (ha : annReg a) (v : Word) : AnnsOnly s (u.setRg a v) := ⟨h.writes.setRg ha v, h.term, h.relay⟩

theorem lnkEvt (h : AnnsOnly s u) {k : Nat} (hk : k < 32) : AnnsOnly s (u.lnkEvt k) := by
  have hlnk : (u.lnkEvt k).lnk = u.lnk := State.event_lnk u _ _ _
  exact ⟨h.writes.lnkEvt (by decide) (by decide) hk, by rw [hlnk, h.term], by rw [hlnk, h.relay]⟩

theorem showAnn (h : AnnsOnly s u) (anns : List Ann) {k : Nat} (hk : k < 8) : AnnsOnly s (u.showAnn anns k) := by
  have hlow : annReg (LNK_ANN_BEAT_LO k) := .inl (by unfold LNK_ANN_BEAT_LO; omega)
  have hhigh : annReg (LNK_ANN_BEAT_LO k + 4) := .inl (by unfold LNK_ANN_BEAT_LO; omega)
  have htag : annReg (LNK_ANN_TAG k) := .inl (by unfold LNK_ANN_TAG; omega)
  have hctl : annReg (LNK_ANN_CTL k) := .inl (by unfold LNK_ANN_CTL; omega)
  unfold State.showAnn
  split
  · exact h.setRg hctl _
  · dsimp only
    split
    · exact h
    · exact ((((h.setRg hlow _).setRg hhigh _).setRg htag _).setRg hctl _).lnkEvt (by decide)

end AnnsOnly

theorem takeAnnouncements_spec (s : State) (pl : List Byte) : AnnsOnly s (s.takeAnnouncements pl) ∧
    (s.takeAnnouncements pl).rg LNK_MPLANCRC = BitVec.ofNat 32 (fieldAt pl 24 4) := by
  have hset : ∀ (x : LdgSt) (l : List Ann), AnnsOnly s ((s.setLdg x).setLnk { (s.setLdg x).lnk with anns := l }) := fun x l =>
    ⟨(WritesOnly.refl _ s).kept rfl rfl rfl, rfl, rfl⟩
  have hshown : ∀ x l, AnnsOnly s ((List.range 8).foldl (fun t k => t.showAnn (annsOf pl) k)
      ((s.setLdg x).setLnk { (s.setLdg x).lnk with anns := l })) := fun x l =>
    List.foldlRecOn _ _ (hset x l) fun _ h k hk => h.showAnn _ (List.mem_range.mp hk)
  have hbad : ∀ (y : State) (d : Bool), AnnsOnly s y → AnnsOnly s (y.setLnk { y.lnk with planBad := d }) := fun y d h =>
    ⟨h.writes.kept rfl rfl rfl, h.term, h.relay⟩
  have hall : ∀ (y : State) (c : Bool), AnnsOnly s y → AnnsOnly s (if c then y.lnkEvt 8 else y) := fun y c h => by
    split
    · exact h.lnkEvt (by decide)
    · exact h
  exact ⟨(hbad _ _ (hall _ _ (hshown _ _))).setRg (.inr (.inr (.inr rfl))) _, rg_setRg_same _ _ _⟩

/-! ### The frame of the lead that is followed (R280, R281) -/

/-- The frame stands ready for the relay, and the count of beats without one begins again. -/
def State.beatTaken (s : State) (q : Nat) (g : LinkFrame) : State :=
  (s.setLnk { s.lnk with
    relay := if g.hops < 63 then some (q, { g with hops := g.hops + 1, hseq := none, inPort := some q }) else none
    noBeat := 0, quorum := [] }).setFld LNK_STAT 24 6 (min 63 (g.hops + 1))

theorem useBeat_eq (s : State) (q : Nat) (g : LinkFrame) :
    ∃ b, s.useBeat q g = ((s.beatTaken q g).follow b).takeAnnouncements g.payload := ⟨_, rfl⟩

/-- What a device that begins to follow has of the frame. -/
structure BeatAcquired (s : State) (q : Nat) (g : LinkFrame) (u : State) : Prop where
  adm : u.adm = s.adm
  leadId : u.leadId = s.leadId
  term : u.lnk.leadTerm = s.lnk.leadTerm
  silent : u.beat.silent = false
  state : u.beatState = 1
  plan : u.rg LNK_MPLANCRC = BitVec.ofNat 32 (fieldAt g.payload 24 4)
  relay : g.hops < 63 → u.lnk.relay = some (q, { g with hops := g.hops + 1, hseq := none, inPort := some q })

theorem useBeat_acquires (hfree : s.beatState = 0 ∨ s.beatState = 3) (q : Nat) (g : LinkFrame) :
    BeatAcquired s q g (s.useBeat q g) := by
  let taken := s.beatTaken q g
  obtain ⟨b, huse⟩ := useBeat_eq s q g
  have hbeat : taken.beatState = s.beatState := fld_congr (rg_setRg_ne _ _ (by decide)) 0 3
  obtain ⟨hfollowed, hacq⟩ := follow_acquires (s := taken) (by rwa [hbeat]) b
  obtain ⟨hanns, hplan⟩ := takeAnnouncements_spec (taken.follow b) g.payload
  have hstat : (s.useBeat q g).rg LNK_STAT = taken.rg LNK_STAT := by
    rw [huse]
    exact (hanns.writes.rg _ (by decide)).trans hfollowed.stat
  refine ⟨?_, ?_, ?_, ?_, ?_, by rw [huse, hplan], fun hhops => ?_⟩
  · exact (adm_congr hstat).trans (fld_setFld_other _ _ _ _ _ (by decide) (by decide))
  · exact (leadId_congr hstat).trans (fld_setFld_other _ _ _ _ _ (by decide) (by decide))
  · rw [huse]
    exact hanns.term.trans hfollowed.term
  · rw [huse]
    exact (congrArg BeatSt.silent hanns.writes.beat).trans hfollowed.silent
  · rw [huse]
    exact (fld_congr (hanns.writes.rg _ (by decide)) 0 3).trans hacq
  · rw [huse]
    exact (hanns.relay.trans hfollowed.relay).trans (if_pos hhops)

/-! ### BEAT_FRAME_RX -/

variable {f : Llp}

theorem beatFrameRx_delivered (hd : (s.receive p.val (frameOf f 1)).deliver = true) :
    exec (.beatFrameRx p f) s = .next ((s.receive p.val (frameOf f 1)).st.beatRx p.val (frameOf f 1)) :=
  congrArg Host.Outcome.next (if_pos hd)

theorem beatFrameRx_passed (hd : (s.receive p.val (frameOf f 1)).deliver = false) :
    exec (.beatFrameRx p f) s = .next (s.receive p.val (frameOf f 1)).st :=
  congrArg Host.Outcome.next (if_neg (by simp [hd]))

theorem beatFrameRx_conflict (hd : (s.receive p.val (frameOf f 1)).deliver = true)
    (h : BeatUsable (s.receive p.val (frameOf f 1)).st (frameOf f 1)) (hlead : (s.receive p.val (frameOf f 1)).st.leads = true)
    (hterm : fieldAt f.payload 28 4 = (s.receive p.val (frameOf f 1)).st.ldg.nv.term) :
    Ends (.beatFrameRx p f) s (fun u => u.bit LNK_EVT 14 = true) := by
  refine ⟨_, beatFrameRx_delivered hd, ?_⟩
  rw [beatRx_conflict h hlead hterm]
  exact bit_leadConflict _

theorem beatFrameRx_follows (hd : (s.receive p.val (frameOf f 1)).deliver = true)
    (h : BeatUsable (s.receive p.val (frameOf f 1)).st (frameOf f 1)) (hlead : (s.receive p.val (frameOf f 1)).st.leads = false)
    (hterm : (s.receive p.val (frameOf f 1)).st.lnk.hasLead = false ∨
      (s.receive p.val (frameOf f 1)).st.lnk.leadTerm ≤ fieldAt f.payload 28 4)
    (hfree : (s.receive p.val (frameOf f 1)).st.beatState = 0 ∨ (s.receive p.val (frameOf f 1)).st.beatState = 3)
    (hother : ((s.receive p.val (frameOf f 1)).st.port (1 - p.val)).beatHops = none) :
    Ends (.beatFrameRx p f) s (fun u => u.adm = (if (s.receive p.val (frameOf f 1)).st.adm = 1 then 2
        else (s.receive p.val (frameOf f 1)).st.adm) ∧ u.beat.silent = false ∧
      (f.hops.toNat < 63 → ∃ h : LinkFrame, u.lnk.relay = some (p.val, h) ∧ h.hops = f.hops.toNat + 1 ∧ h.payload = f.payload ∧
        h.type = 1) ∧ u.leadId = fieldAt f.payload 23 1 % 64 ∧ u.lnk.leadTerm = fieldAt f.payload 28 4 ∧
      u.beatState = 1 ∧ u.rg LNK_MPLANCRC = BitVec.ofNat 32 (fieldAt f.payload 24 4)) := by
  let r := (s.receive p.val (frameOf f 1)).st
  let placed := r.beatPlaced p.val (frameOf f 1)
  have hup : placed.upstream = some p.val := upstream_beatPlaced hother
  obtain ⟨hadm, hid, hledterm, hstate⟩ := beatPlaced_spec r p.val (frameOf f 1)
  have hacq : BeatAcquired placed p.val (frameOf f 1) (placed.useBeat p.val (frameOf f 1)) :=
    useBeat_acquires (by rwa [show placed.beatState = _ from hstate]) p.val (frameOf f 1)
  have hexec : exec (.beatFrameRx p f) s = .next (placed.useBeat p.val (frameOf f 1)) := by
    rw [beatFrameRx_delivered hd, beatRx_follows h hlead hterm]
    exact congrArg Host.Outcome.next (if_neg fun hne => bne_iff_ne.mp hne hup)
  exact ⟨_, hexec, hacq.adm.trans hadm, hacq.silent, fun hhops => ⟨_, hacq.relay hhops, rfl, rfl, rfl⟩, hacq.leadId.trans hid,
    hacq.term.trans hledterm, hacq.state, hacq.plan⟩

end Sys2Proof.Machine
end

section
/-! Failover (spec/10 R51, R257, R298, R302): the deputy takes the lead with the next term, and its deputy is named. -/

namespace Sys2Proof.Machine

variable {s t u : State} {d : Nat}

/-! ### A new deputy is named (R298) -/

theorem ldg_setMirror (s : State) (m : Nat) : (s.setMirror m).ldg = s.ldg := by
  unfold State.setMirror
  split
  · rfl
  · exact State.event_ldg _ _ _ _

/-- From `s` to `u` members are taken: their registers change, but neither what the Ledger keeps through a power failure, nor the event
of a change of lead. -/
structure MembersOnly (s u : State) : Prop where
  writes : WritesOnly (· ∈ memberRegs) s u
  nv : u.ldg.nv = s.ldg.nv
  evt : s.bit LNK_EVT 6 = true → u.bit LNK_EVT 6 = true

namespace MembersOnly

theorem refl (s : State) : MembersOnly s s := ⟨.refl _ s, rfl, id⟩

theorem ite {c : Prop} [Decidable c] {x y : State} (hx : MembersOnly s x) (hy : MembersOnly s y) :
    MembersOnly s (if c then x else y) := by
  split
  · exact hx
  · exact hy

theorem setLnk (h : MembersOnly s u) (x : LnkSt) : MembersOnly s (u.setLnk x) := ⟨h.writes.kept rfl rfl rfl, h.nv, h.evt⟩

theorem setMap {a : Nat} (h : MembersOnly s u) (hd : d < 64) (hlow : a ∈ memberRegs) (hhigh : a + 4 ∈ memberRegs)
    (hne : LNK_EVT ≠ a + 4 * (d / 32)) (b : Bool) : MembersOnly s (u.setMap a d b) :=
  ⟨h.writes.setMap hd hlow hhigh b, h.nv, fun hs => (bit_congr (rg_setBit_ne u _ _ hne) 6).trans (h.evt hs)⟩

theorem memberEvt (h : MembersOnly s u) : MembersOnly s (u.lnkEvt 3) := by
  refine ⟨h.writes.lnkEvt (by decide) (by decide) (by decide), (congrArg LdgSt.nv (State.event_ldg u _ _ _)).trans h.nv, fun hs => ?_⟩
  rw [State.bit, State.lnkEvt, rg_event_self _ _ _ _ (by decide), bitOf_withBit _ _ _ _ (by decide), if_neg (by decide)]
  exact h.evt hs

theorem deputyChange (h : MembersOnly s u) (old : Option Nat) : MembersOnly s (u.deputyChange old) := by
  have hmirror := (WritesOnly.refl (· ∈ mirrorRegs) u).deputyChange (fun _ h => h) old
  refine ⟨h.writes.trans (hmirror.weaken (by decide)), ?_, fun hs => (bit_congr (hmirror.rg _ (by decide)) 6).trans (h.evt hs)⟩
  rw [← h.nv]
  unfold State.deputyChange
  dsimp only
  split
  · rfl
  · exact (congrArg LdgSt.nv (ldg_setMirror _ _)).trans rfl

theorem takeMember (h : MembersOnly s u) (hd : d < 64) (uid result : Nat) : MembersOnly s (u.takeMember d uid result) := by
  have hadmit : LNK_EVT ≠ LNK_ADMIT_LO + 4 * (d / 32) := by unfold LNK_EVT LNK_ADMIT_LO; omega
  have hobs : LNK_EVT ≠ LNK_OBS_LO + 4 * (d / 32) := by unfold LNK_EVT LNK_OBS_LO; omega
  have hin : MembersOnly s (u.takenIn d uid result) :=
    (h.setLnk _).setMap hd (by decide) (by decide) hadmit true
  have hmapped := hin.setMap hd (a := LNK_OBS_LO) (by decide) (by decide) hobs (result == 3 || result == 4)
  rw [takeMember_eq]
  exact (MembersOnly.ite hmapped hmapped.memberEvt).deputyChange _

end MembersOnly

/-- The result that a member is to have by LNK_DEPUTY. -/
def State.wanted (s : State) (m : Member) : Nat := if s.bit LNK_DEPUTY 31 && s.fld LNK_DEPUTY 0 6 == m.id then 2 else 1

/-- Where no member is the deputy yet, a change can name the one of LNK_DEPUTY only. -/
theorem membersOnly_applyDeputy (hnone : ∀ m ∈ s.lnk.members, m.result ≠ 2) : MembersOnly s s.applyDeputy := by
  unfold State.applyDeputy
  refine .ite (List.foldlRecOn _ _ (MembersOnly.refl s) fun x hx m hm => ?_) (.refl s)
  obtain ⟨hmem, hchange⟩ := List.mem_filter.mp hm
  have hworker : ((m.result == 1 || m.result == 2) && m.result != s.wanted m) = true := hchange
  obtain ⟨hresult, hwant⟩ : (m.result = 1 ∨ m.result = 2) ∧ m.result ≠ s.wanted m := by simpa using hworker
  have hnamed : s.fld LNK_DEPUTY 0 6 = m.id := by
    by_contra hother
    refine hwant ?_
    rw [State.wanted, if_neg (by simp [hother])]
    exact hresult.resolve_right (hnone m hmem)
  have hid : m.id < 64 := hnamed ▸ fieldOf_lt _ 0 6
  exact (hx.takeMember hid m.uid _).setLnk _

/-! ### TAKEOVER (R302) -/

/-- The deputy's conditions: it is a member and the deputy, has heard no BEAT frame for LNK_FOTO beats, and has heard a majority of the
admitted devices. -/
def State.mayTakeOver (s : State) : Prop :=
  let ids := (List.range 64).filter (fun d => s.admitted d)
  let heard := ids.filter (fun d => d == s.ownId || s.lnk.quorum.any (fun e =>
    e.1 == d && decide (s.lnk.noBeat < e.2 + (s.rg LNK_FOTO).toNat)))
  s.adm = A_MEMBER ∧ s.role = 2 ∧ (s.rg LNK_FOTO).toNat ≤ s.lnk.noBeat ∧ ids.length < 2 * heard.length

/-- The next term is taken (R257). -/
def State.termWon (s : State) : State :=
  let t := (s.setNv { s.ldg.nv with term := s.ldg.nv.term + 1, tstart := s.ldg.nv.gseq + 1 }).ldgEvt 13
  t.setLdg { t.ldg with handed := 0 }

/-- The device leads, in the place of a lead. -/
def State.leadWon (s : State) : State :=
  ((((s.setFld LNK_STAT 0 3 A_LEAD).setFld LNK_STAT 24 6 0).setRole 1).toBeatState B_LEAD).setLeadId s.ownId

/-- The vehicle's other devices by the last TOPO frame, but for the former lead. -/
def State.inherited (s : State) (lead : Nat) : List Member :=
  (s.lnk.topo.filter (fun e => e.id != lead && e.id != s.ownId)).map (fun e =>
    { id := e.id, uid := smGet (fun _ => 0) s.lnk.known e.id
      result := if e.role = 3 then 3 else if e.role = 4 then 4 else 1, silent := 0, hopsA := 255, hopsB := 255 })

/-- The new lead has its members, and goes on with the disciplined period. -/
def State.leadInherited (s : State) (lead : Nat) : State :=
  { s with
    beat := { s.beat with forceGen := true }
    lnk := { s.lnk with members := s.inherited lead, admissions := [], hasLead := true, leadTerm := s.ldg.nv.term, noBeat := 0 } }

/-- The former lead leaves the vehicle. -/
def State.leadLost (s : State) (lead : Nat) : State :=
  ((s.setMap LNK_ADMIT_LO lead false).setMap LNK_OBS_LO lead false).lnkEvt 6

theorem takeover_wins (h : s.mayTakeOver) (hterm : s.ldg.nv.term < 0xFFFFFFFF) :
    exec .takeover s = .next ((s.termWon.leadWon.leadInherited s.leadId).leadLost s.leadId).applyDeputy :=
  congrArg Host.Outcome.next ((if_pos h).trans (if_neg (by omega)))

theorem takeover_ends (h : s.mayTakeOver) (hterm : s.ldg.nv.term = 0xFFFFFFFF) : exec .takeover s = .next (s.setRole 0) :=
  congrArg Host.Outcome.next ((if_pos h).trans (if_pos hterm))

theorem takeover_waits (h : ¬ s.mayTakeOver) : exec .takeover s = .next s := congrArg Host.Outcome.next (if_neg h)

/-! What each part leaves. -/

theorem linkKept_termWon (s : State) : LinkKept s s.termWon := (((LinkKept.refl s).setNv _).ldgEvt (by decide)).setLdg _

theorem nv_termWon (s : State) :
    s.termWon.ldg.nv = { s.ldg.nv with term := s.ldg.nv.term + 1, tstart := s.ldg.nv.gseq + 1 } := by
  show LdgSt.nv (State.ldg (State.ldgEvt _ 13)) = _
  rw [State.ldgEvt, State.event_ldg]
  rfl

theorem mem_termWon (s : State) : s.termWon.mem = s.mem := State.event_mem _ _ _ _

theorem ldg_toBeatState (s : State) (k : Nat) : (s.toBeatState k).ldg = s.ldg := by
  unfold State.toBeatState
  dsimp only
  split
  · rfl
  · rw [State.raise_ldg]
    show State.ldg (ite _ _ _) = _
    split <;> split <;> rfl

theorem leadWon_spec (s : State) : s.leadWon.adm = 4 ∧ s.leadWon.role = 1 ∧ s.leadWon.beatState = 4 ∧ s.leadWon.leadId = s.ownId ∧
    s.leadWon.ldg = s.ldg ∧ s.leadWon.mem = s.mem := by
  let placed := (s.setFld LNK_STAT 0 3 A_LEAD).setFld LNK_STAT 24 6 0
  have hstat : ((placed.setRole 1).toBeatState B_LEAD).rg LNK_STAT = (placed.setRole 1).rg LNK_STAT :=
    rg_toBeatState_ne _ (by decide) (by decide) (by decide)
  have hadm : placed.adm = 4 := (fld_setFld_other _ _ _ _ _ (by decide) (by decide)).trans (adm_setAdm s 4)
  refine ⟨?_, ?_, ?_, ?_, ?_, ?_⟩
  · rw [State.leadWon, adm_setLeadId, adm_congr hstat, adm_setRole, hadm]
  · rw [State.leadWon, role_setLeadId, State.role, fld_congr hstat]
    exact role_setRole placed 1
  · exact (fld_congr (rg_setRg_ne _ _ (by decide)) 0 3).trans (beatState_toBeatState (placed.setRole 1) (by decide))
  · rw [State.leadWon, leadId_setLeadId, Nat.mod_eq_of_lt (ownId_lt s)]
  · exact ldg_toBeatState (placed.setRole 1) B_LEAD
  · exact mem_toBeatState (placed.setRole 1) B_LEAD

/-- The registers of the maps and of the link's events. -/
def lostRegs : List Nat := mapRegs ++ [LNK_EVT, ECX_PEND 6]

theorem writesOnly_leadLost (s : State) {lead : Nat} (h : lead < 64) : WritesOnly (· ∈ lostRegs) s (s.leadLost lead) :=
  (((WritesOnly.refl (· ∈ lostRegs) s).setMap h (a := LNK_ADMIT_LO) (by decide) (by decide) false).setMap h (a := LNK_OBS_LO) (by decide)
    (by decide) false).lnkEvt (by decide) (by decide) (by decide)

/-- No device that is inherited is the deputy. -/
theorem result_inherited {lead : Nat} {m : Member} (h : m ∈ s.inherited lead) : m.result ≠ 2 := by
  obtain ⟨e, -, rfl⟩ := List.mem_map.mp h
  dsimp only
  split
  · decide
  · split <;> decide

theorem takeover_leads (h : s.mayTakeOver) (hterm : s.ldg.nv.term < 0xFFFFFFFF) : Ends .takeover s (fun u =>
    u.adm = 4 ∧ u.role = 1 ∧ u.beatState = 4 ∧ u.leadId = s.ownId ∧ u.ldg.nv.term = s.ldg.nv.term + 1 ∧
      u.ldg.nv.tstart = s.ldg.nv.gseq + 1 ∧ u.beat.forceGen = true ∧ u.bit LNK_EVT 6 = true ∧ u.mem = s.mem) := by
  let won := s.termWon.leadWon
  let begun := won.leadInherited s.leadId
  let lost := begun.leadLost s.leadId
  have hlost : WritesOnly (· ∈ lostRegs) begun lost := writesOnly_leadLost begun (fieldOf_lt _ 16 6)
  have hlnk : lost.lnk = begun.lnk := State.event_lnk _ _ _ _
  have hldg : lost.ldg = won.ldg := State.event_ldg _ _ _ _
  have hmembers : MembersOnly lost lost.applyDeputy := membersOnly_applyDeputy fun m hm => result_inherited (hlnk ▸ hm)
  have hrg : ∀ a, a ∉ memberRegs → a ∉ lostRegs → lost.applyDeputy.rg a = won.rg a := fun a ha hb =>
    (hmembers.writes.rg a ha).trans (hlost.rg a hb)
  have hstat := hrg LNK_STAT (by decide) (by decide)
  obtain ⟨hadm, hrole, hbeat, hid, hkept, hmem⟩ := leadWon_spec s.termWon
  have hnv : lost.applyDeputy.ldg.nv = { s.ldg.nv with term := s.ldg.nv.term + 1, tstart := s.ldg.nv.gseq + 1 } := by
    rw [hmembers.nv, hldg, hkept, nv_termWon]
  refine ⟨lost.applyDeputy, takeover_wins h hterm, (adm_congr hstat).trans hadm, (fld_congr hstat 4 3).trans hrole,
    (fld_congr (hrg BEAT_STAT (by decide) (by decide)) 0 3).trans hbeat, (leadId_congr hstat).trans (hid.trans ?_), by rw [hnv],
    by rw [hnv], by rw [hmembers.writes.beat, hlost.beat]; rfl, hmembers.evt (bit_lnkEvt _ (by decide)),
    hmembers.writes.mem.trans (hlost.mem.trans (hmem.trans (mem_termWon s)))⟩
  exact ownId_congr ((linkKept_termWon s).rg _ (by decide))

theorem takeover_lastTerm (h : s.mayTakeOver) (hterm : s.ldg.nv.term = 0xFFFFFFFF) : Ends .takeover s (fun u =>
    u.adm = 3 ∧ u.role = 0 ∧ u.ldg = s.ldg) :=
  ⟨s.setRole 0, takeover_ends h hterm, (adm_setRole s 0).trans h.1, role_setRole s 0, rfl⟩

end Sys2Proof.Machine
end

section
/-! Link boot, remote register access and WAKE frames (spec/10 R304, R307, R309), and the statement LinkTimeAndBoot. -/

namespace Sys2Proof.Machine

variable {s t u : State} {i : Initiator} {v : Word} {p : Fin 2} {f : Llp} {g : LinkFrame}

/-! ### LNK_BOOTCTL (R304) -/

/-- The image of a link boot lies in SRAM. -/
abbrev State.bootInSram (s : State) : Prop := 0x10000000 ≤ (s.rg LNK_BOOTBASE).toNat ∧ (s.rg LNK_BOOTBASE).toNat ≤ 0x10800000 ∧
  (s.rg LNK_BOOTBASE).toNat + (s.rg LNK_BOOTLEN).toNat ≤ 0x10800000

theorem lnkBootctlWrite_sets (hs : s.serves i LNK_BOOTCTL v = true) (h : bitOf v 0 = false ∨ s.bootInSram) :
    Ends (.lnkBootctlWrite i v) s (fun u => u.rg LNK_BOOTCTL = v &&& 1 ∧ SameRegsBut s u [LNK_BOOTCTL, LNK_CMDST]) := by
  have hlegal : (bitOf v 0 && !decide s.bootInSram) = false := by
    rcases h with h | h
    · rw [h, Bool.false_and]
    · rw [decide_eq_true h, Bool.not_true, Bool.and_false]
  refine ends_served hs rfl ?_
  rw [State.writeBootctl, command_accepted _ rfl rfl hlegal]
  exact ⟨rg_setRg_same _ _ _, (((WritesOnly.refl _ s).accept (by simp [lnkPort])).setRg (by simp) _).sameRegsBut⟩

theorem lnkBootctlWrite_refused (hs : s.serves i LNK_BOOTCTL v = true) (hen : bitOf v 0 = true) (hout : ¬ s.bootInSram) :
    exec (.lnkBootctlWrite i v) s = .next (s.reject lnkPort ST_ARG) := by
  have hbad : (bitOf v 0 && !decide s.bootInSram) = true := by rw [hen, decide_eq_false hout]; rfl
  rw [exec_served hs rfl, State.writeBootctl, command_rejected_arg _ rfl hbad]

/-! ### A boot request at the lead (R304) -/

/-- A boot request is delivered to the lead. -/
def State.bootAsked (s : State) (p : Fin 2) (f : Llp) : Prop := (s.receive p.val (frameOf f 11)).deliver = true ∧
  (s.receive p.val (frameOf f 11)).st.leads = true ∧ 16 ≤ f.payload.length ∧ fieldAt f.payload 0 1 = 1

/-- The first request of an image has its event. -/
def State.bootNoted (s : State) (offs : Nat) : State := if offs = 0 then s.lnkEvt 13 else s

/-- The lead's answer to device `src`: OFF, RANGE or the data. -/
def State.bootServed (s : State) (src : Nat) (pl : List Byte) : State :=
  if !s.bit LNK_BOOTCTL 0 then s.sendFrame 11 src 4 (bootPayload 2 2 0 (fieldAt pl 4 4) (fieldAt pl 8 8) [])
  else if (s.rg LNK_BOOTLEN).toNat < fieldAt pl 4 4 + fieldAt pl 2 2 then
    s.sendFrame 11 src 4 (bootPayload 2 1 0 (fieldAt pl 4 4) (fieldAt pl 8 8) [])
  else (s.fabReadBytes .link ((s.rg LNK_BOOTBASE).toNat + fieldAt pl 4 4) (fieldAt pl 2 2)).2.sendFrame 11 src 4
    (bootPayload 2 0 (fieldAt pl 2 2) (fieldAt pl 4 4) (fieldAt pl 8 8)
      (s.fabReadBytes .link ((s.rg LNK_BOOTBASE).toNat + fieldAt pl 4 4) (fieldAt pl 2 2)).1)

theorem bootServed_off (src : Nat) (pl : List Byte) (hoff : s.bit LNK_BOOTCTL 0 = false) :
    s.bootServed src pl = s.sendFrame 11 src 4 (bootPayload 2 2 0 (fieldAt pl 4 4) (fieldAt pl 8 8) []) := if_pos (by rw [hoff]; rfl)

theorem bootServed_range (src : Nat) {pl : List Byte} (hon : s.bit LNK_BOOTCTL 0 = true)
    (hlong : (s.rg LNK_BOOTLEN).toNat < fieldAt pl 4 4 + fieldAt pl 2 2) :
    s.bootServed src pl = s.sendFrame 11 src 4 (bootPayload 2 1 0 (fieldAt pl 4 4) (fieldAt pl 8 8) []) :=
  (if_neg (by rw [hon]; decide)).trans (if_pos hlong)

theorem bootServed_data (src : Nat) {pl d : List Byte} (hon : s.bit LNK_BOOTCTL 0 = true)
    (hin : fieldAt pl 4 4 + fieldAt pl 2 2 ≤ (s.rg LNK_BOOTLEN).toNat)
    (hread : s.fabReadBytes .link ((s.rg LNK_BOOTBASE).toNat + fieldAt pl 4 4) (fieldAt pl 2 2) = (d, t)) :
    s.bootServed src pl =
      t.sendFrame 11 src 4 (bootPayload 2 0 (fieldAt pl 2 2) (fieldAt pl 4 4) (fieldAt pl 8 8) d) := by
  rw [State.bootServed, if_neg (by rw [hon]; decide), if_neg (Nat.not_lt.mpr hin), hread]

theorem bootReqRx_serves (h : s.bootAsked p f) : exec (.bootReqRx p f) s =
    .next (((s.receive p.val (frameOf f 11)).st.bootNoted (fieldAt f.payload 4 4)).bootServed f.src.toNat f.payload) := by
  obtain ⟨hd, hlead, hlen, hop⟩ := h
  have hask : ((s.receive p.val (frameOf f 11)).st.leads && decide (16 ≤ f.payload.length) && fieldAt f.payload 0 1 == 1) = true := by
    rw [hlead, decide_eq_true hlen, hop]
    rfl
  exact congrArg Host.Outcome.next ((if_pos hd).trans (if_pos hask))

theorem bootReqRx_passed (h : ¬ s.bootAsked p f) : exec (.bootReqRx p f) s = .next (s.receive p.val (frameOf f 11)).st := by
  refine congrArg Host.Outcome.next (ite_eq_right_iff.mpr fun hd => if_neg fun hask => h ?_)
  simp only [Bool.and_eq_true, decide_eq_true_eq, beq_iff_eq] at hask
  exact ⟨hd, hask.1.1, hask.1.2, hask.2⟩

/-! ### Boot data at the booting device (R304, R538) -/

/-- Data answers a request of this device. -/
def State.bootMine (s : State) (pl : List Byte) : Prop := s.bit BOOT_STAT 11 = true ∧ fieldAt pl 8 8 = Config.dieUid.toNat ∧
  s.lnk.bootReqs.any (fun e => e.1 == fieldAt pl 4 4) = true

/-- Such data is delivered. -/
def State.bootAnswered (s : State) (p : Fin 2) (f : Llp) : Prop := (s.receive p.val (frameOf f 11)).deliver = true ∧
  16 ≤ f.payload.length ∧ fieldAt f.payload 0 1 = 2 ∧ (s.receive p.val (frameOf f 11)).st.bootMine f.payload

/-- The state with these requests unanswered. -/
def State.asking (s : State) (reqs : List (Nat × Nat)) : State := { s with lnk := { s.lnk with bootReqs := reqs } }

/-- The requests that an answer for offset `offs` leaves. -/
def State.bootRest (s : State) (offs : Nat) : List (Nat × Nat) := s.lnk.bootReqs.filter (fun e => e.1 != offs)

/-- Where the next request begins, behind what has come and what is asked for. -/
def bootNext (rest : List (Nat × Nat)) (come : Nat) : Nat := rest.foldl (fun m e => max m (e.1 + e.2)) come

/-- The data of an answer is stored in the staging area. -/
def State.bootStored (s : State) (pl : List Byte) : State := (s.asking (s.bootRest (fieldAt pl 4 4))).fabWriteBytes .link
  (0x10400000 + fieldAt pl 4 4) ((pl.drop 16).take (fieldAt pl 2 2))

/-- The next request, where the staging area has room for its answer. -/
def State.bootAsksOn (s : State) (rest : List (Nat × Nat)) (next : Nat) : State :=
  if 0x10400000 + next + 1024 ≤ 0x107C0000 then (s.asking (rest ++ [(next, 1024)])).sendReq next 1024 else s

/-- An answer ends its request, whatever it says. -/
theorem takeBoot_mine {pl : List Byte} (h : s.bootMine pl) : s.takeBoot pl =
    if fieldAt pl 1 1 = 0 ∧ 0x10400000 + fieldAt pl 4 4 + fieldAt pl 2 2 ≤ 0x107C0000 then
      (s.bootStored pl).bootAsksOn (s.bootRest (fieldAt pl 4 4))
        (bootNext (s.bootRest (fieldAt pl 4 4)) (fieldAt pl 4 4 + fieldAt pl 2 2))
    else s.asking (s.bootRest (fieldAt pl 4 4)) := by
  obtain ⟨hstat, huid, hreq⟩ := h
  exact if_neg (by rw [hstat, huid, hreq]; simp)

theorem takeBoot_other {pl : List Byte} (h : ¬ s.bootMine pl) : s.takeBoot pl = s := by
  refine if_pos ?_
  by_contra hmine
  simp only [Bool.or_eq_true, Bool.not_eq_true', bne_iff_ne, not_or, Bool.not_eq_false, ne_eq, not_not] at hmine
  exact h ⟨hmine.1.1, hmine.1.2, hmine.2⟩

theorem bootDataRx_answered (h : s.bootAnswered p f) :
    exec (.bootDataRx p f) s = .next ((s.receive p.val (frameOf f 11)).st.takeBoot f.payload) := by
  obtain ⟨hd, hlen, hop, -⟩ := h
  have hdata : (decide (16 ≤ f.payload.length) && fieldAt f.payload 0 1 == 2) = true := by
    rw [decide_eq_true hlen, hop]
    rfl
  exact congrArg Host.Outcome.next ((if_pos hd).trans (if_pos hdata))

theorem bootDataRx_passed (h : ¬ s.bootAnswered p f) : exec (.bootDataRx p f) s = .next (s.receive p.val (frameOf f 11)).st := by
  refine congrArg Host.Outcome.next (ite_eq_right_iff.mpr fun hd => ite_eq_right_iff.mpr fun hdata => takeBoot_other fun hmine => h ?_)
  simp only [Bool.and_eq_true, decide_eq_true_eq, beq_iff_eq] at hdata
  exact ⟨hd, hdata.1, hdata.2, hmine⟩

theorem bootDataRx_refused (h : s.bootAnswered p f) (hbad : fieldAt f.payload 1 1 ≠ 0 ∨
      0x107C0000 < 0x10400000 + fieldAt f.payload 4 4 + fieldAt f.payload 2 2) : exec (.bootDataRx p f) s =
    .next ((s.receive p.val (frameOf f 11)).st.asking ((s.receive p.val (frameOf f 11)).st.bootRest (fieldAt f.payload 4 4))) := by
  rw [bootDataRx_answered h, takeBoot_mine h.2.2.2, if_neg]
  rintro ⟨hzero, hfits⟩
  exact hbad.elim (fun hne => hne hzero) (Nat.not_lt.mpr hfits)

theorem portsOnly_sendReq (s : State) (offs len : Nat) : PortsOnly s (s.sendReq offs len) :=
  portsOnly_both (fun x q => (PortsOnly.refl x).queueOn q _) s

theorem bootAsksOn_spec (s : State) (rest : List (Nat × Nat)) (next : Nat) : (s.bootAsksOn rest next).mem = s.mem ∧
    (s.bootAsksOn rest next).lnk.bootReqs = if 0x10400000 + next + 1024 ≤ 0x107C0000 then rest ++ [(next, 1024)]
      else s.lnk.bootReqs := by
  have hsent := portsOnly_sendReq (s.asking (rest ++ [(next, 1024)])) next 1024
  obtain ⟨x, hlnk⟩ := hsent.lnk
  unfold State.bootAsksOn
  split
  · exact ⟨hsent.mem, by rw [hlnk]; rfl⟩
  · exact ⟨rfl, rfl⟩

theorem bootDataRx_stores (h : s.bootAnswered p f) (hok : fieldAt f.payload 1 1 = 0)
    (hfits : 0x10400000 + fieldAt f.payload 4 4 + fieldAt f.payload 2 2 ≤ 0x107C0000) {r : State} {rest : List (Nat × Nat)} {next : Nat}
    (hr : r = (s.receive p.val (frameOf f 11)).st) (hrest : rest = r.bootRest (fieldAt f.payload 4 4))
    (hnext : next = bootNext rest (fieldAt f.payload 4 4 + fieldAt f.payload 2 2)) : Ends (.bootDataRx p f) s (fun u =>
      u.mem = (r.bootStored f.payload).mem ∧
      u.lnk.bootReqs = if 0x10400000 + next + 1024 ≤ 0x107C0000 then rest ++ [(next, 1024)] else rest) := by
  have hstored : (r.bootStored f.payload).lnk.bootReqs = rest := by
    rw [State.bootStored, ((LinkKept.refl _).fabWriteBytes _ _ _).lnk, hrest]
    rfl
  obtain ⟨hmem, hreqs⟩ := bootAsksOn_spec (r.bootStored f.payload) rest next
  rw [hstored] at hreqs
  refine ⟨(r.bootStored f.payload).bootAsksOn rest next, ?_, hmem, hreqs⟩
  rw [bootDataRx_answered h, takeBoot_mine h.2.2.2, if_pos ⟨hok, hfits⟩, hnext, hrest, hr]

/-! ### Requests repeated (R304) -/

/-- A frame outside windows needs no credit, whatever its type. -/
theorem exempt_queueOn_outside (s : State) (q : Nat) (hwin : g.win = 15) :
    ((s.queueOn q g).port q).exempt = (s.port q).exempt ++ [g] := by
  simp [State.queueOn, hwin, port_setPort]

theorem bootReqRetry_repeats {o n : Nat} (hboot : s.bit BOOT_STAT 11 = true) (hreqs : s.lnk.bootReqs = [(o, n)])
    (hup : s.portUp p.val = true) : Ends .bootReqRetry s (fun u => u.regs = s.regs ∧ u.mem = s.mem ∧
      ∃ h : LinkFrame, (u.port p.val).exempt = (s.port p.val).exempt ++ [h] ∧ h.type = 11 ∧
        h.payload = bootPayload 1 0 n o Config.dieUid.toNat []) := by
  have hexec : exec .bootReqRetry s = .next (s.sendReq o n) := by
    show execBootReqRetry s = _
    rw [execBootReqRetry, if_pos hboot, hreqs]
    rfl
  have hports := portsOnly_sendReq s o n
  have hqueued := fun g (hwin : LinkFrame.win g = 15) => exempt_both (s := s) (p := p) (step := fun t q => t.queueOn q g) (l := [g])
    (fun x q => (PortsOnly.refl x).queueOn q g) (fun x q k hk => port_queueOn_other x hk)
    (fun x _ => exempt_queueOn_outside x _ hwin) hup
  exact ⟨_, hexec, hports.regs, hports.mem, _, hqueued _ rfl, rfl, rfl⟩

theorem bootReqRetry_rests (hboot : s.bit BOOT_STAT 11 = false) : exec .bootReqRetry s = .next s :=
  congrArg Host.Outcome.next (if_neg (by simp [hboot]))

/-! ### Remote register access (R307) -/

/-- The reply to an entry: its OP, its result, its TAG and ADDR, and four bytes. -/
def raccReply (e : RaccEntry) (kind : Nat) (d : List Byte) : List Byte :=
  [BitVec.ofNat 8 (0x80 + e.op), BitVec.ofNat 8 kind] ++ beBytes 2 e.tag ++ beBytes 4 e.addr ++ d

/-- The sender is admitted and named in LNK_RACL. -/
def State.raccListed (s : State) (src : Nat) : Bool := s.admitted src && s.mapBit LNK_RACL_LO src

theorem raccOne_refused {e : RaccEntry} (hop : e.op = 1) : s.raccOne false e = (raccReply e 4 (beBytes 4 0), s.lnkEvt 12) := by
  simp only [State.raccOne, hop, raccReply]
  rfl

theorem raccOne_read {e : RaccEntry} {n : Nat} (hop : e.op = 1) (hread : s.busRead .link e.addr .word = (.ok n, t)) :
    s.raccOne true e = (raccReply e 0 (beBytes 4 n), t) := by
  simp only [State.raccOne, hop, hread, raccReply]
  rfl

theorem raccOne_write {e : RaccEntry} {n : Nat} (hop : e.op = 2) (hwrite : s.busWrite .link e.addr .word e.data = (.ok n, t)) :
    s.raccOne true e = (raccReply e 0 (beBytes 4 t.draw.1), t.draw.2) := by
  simp only [State.raccOne, hop, hwrite, raccReply]
  rfl

theorem raccRequestRx_one {e : RaccEntry} {b : List Byte} (hd : (s.receive p.val (frameOf f 10)).deliver = true)
    (he : raccEntries f.payload = [e])
    (hone : (s.receive p.val (frameOf f 10)).st.raccOne ((s.receive p.val (frameOf f 10)).st.raccListed f.src.toNat) e = (b, t)) :
    exec (.raccRequestRx p f) s = .next (t.sendFrame 10 f.src.toNat 4 b) := by
  have hall : (s.receive p.val (frameOf f 10)).st.raccAll ((s.receive p.val (frameOf f 10)).st.raccListed f.src.toNat) [e] = (b, t) := by
    simp only [State.raccAll, hone, List.append_nil]
  have hrx : (s.receive p.val (frameOf f 10)).st.raccRx (frameOf f 10) = t.sendFrame 10 f.src.toNat 4 b := by
    unfold State.raccRx
    rw [show raccEntries (frameOf f 10).payload = [e] from he]
    show State.sendFrame (State.raccAll _ (State.raccListed _ _) [e]).2 _ _ _ (State.raccAll _ (State.raccListed _ _) [e]).1 = _
    rw [show State.raccAll _ (State.raccListed _ (frameOf f 10).src) [e] = _ from hall]
    rfl
  exact congrArg Host.Outcome.next ((if_pos hd).trans hrx)

theorem raccRequestRx_none (h : (s.receive p.val (frameOf f 10)).deliver = false ∨ raccEntries f.payload = []) :
    exec (.raccRequestRx p f) s = .next (s.receive p.val (frameOf f 10)).st := by
  have hpass : ∀ r : Received, r.deliver = false ∨ raccEntries f.payload = [] →
      (if r.deliver then r.st.raccRx (frameOf f 10) else r.st) = r.st := fun r hr => by
    split
    next hd =>
      refine if_pos ?_
      rw [show raccEntries (frameOf f 10).payload = [] from hr.resolve_left (by rw [hd]; decide)]
      rfl
    next => rfl
  exact congrArg Host.Outcome.next (hpass _ h)

/-! ### WAKE (R277, R309) -/

/-- A frame of a fixed type that needs no credit changes the ports alone, and the lead's note of its sender. -/
theorem receive_fixed {q : Nat} (hfixed : fixedType g.type = true) (hres : reservedType g.type = false)
    (hfree : creditBound g.type = false) : (s.receive q g).st.regs = s.regs ∧ (s.receive q g).st.mem = s.mem := by
  have hpassed := portsOnly_framePassed (s.heardBy q g) q g
  rw [receive_eq]
  simp only [hfixed, hres, hfree, Bool.false_and, Bool.not_true, Bool.or_self, Bool.and_false, Bool.false_eq_true, if_false]
  split
  · exact ⟨rfl, rfl⟩
  · exact ⟨hpassed.regs, hpassed.mem⟩

/-- The state after the transport's part in a WAKE frame's reception: a device without power has none. -/
def State.wakeHeard (s : State) (p : Fin 2) (f : Llp) : State :=
  if s.powered = true then (s.receive p.val (frameOf f 13)).st else s

theorem wakeHeard_kept (s : State) (p : Fin 2) (f : Llp) : (s.wakeHeard p f).regs = s.regs ∧ (s.wakeHeard p f).mem = s.mem := by
  unfold State.wakeHeard
  split
  · exact receive_fixed rfl rfl rfl
  · exact ⟨rfl, rfl⟩

/-- A WAKE frame wakes this device. -/
def State.wakesBy (s : State) (p : Fin 2) (f : Llp) : Prop :=
  (s.pwr = .park ∨ s.pwr = .toPark) ∧ s.bit (LNK_PORT p.val) 2 = true ∧ (f.dst.toNat = s.ownId ∨ f.dst = 0xFF)

theorem wakesBy_iff : s.wakesBy p f ↔ (s.pwr = .park ∨ s.pwr = .toPark) ∧ s.bit (LNK_PORT p.val) 2 = true ∧
    (f.dst.toNat == s.ownId || f.dst == 0xFF) = true := by
  simp [State.wakesBy]

theorem wakeFrameRx_wakes (h : s.wakesBy p f) :
    Ends (.wakeFrameRx p f) s (fun u => u.lnk.wakeAsked = true ∧ u.regs = s.regs ∧ u.mem = s.mem) := by
  obtain ⟨hregs, hmem⟩ := wakeHeard_kept s p f
  exact ⟨(s.wakeHeard p f).setLnk { (s.wakeHeard p f).lnk with wakeAsked := true },
    congrArg Host.Outcome.next (if_pos (wakesBy_iff.mp h)), rfl, hregs, hmem⟩

theorem wakeFrameRx_received (h : ¬ s.wakesBy p f) : exec (.wakeFrameRx p f) s = .next (s.wakeHeard p f) :=
  congrArg Host.Outcome.next (if_neg fun hw => h (wakesBy_iff.mpr hw))

end Sys2Proof.Machine
end

section
/-! The vehicle link's time, BEAT frames, failover, link boot, remote access and wake (spec/10 R279 to R281, R291, R294, R302 to R309): the
statement LinkTimeAndBoot. -/

namespace Sys2Proof.Machine

/-- Settles O36: each clause is one of the rules above. That the lead knows its own BEAT frame by M and EDGE, that the data of a write's
reply is a free value (log entry 17), and the form of gPTP payloads (log entry 13), are the model's choice. -/
theorem linkTimeAndBoot : Obligations.LinkTimeAndBoot := by
  intro s i p f time t1 t2 t3 t4 v
  refine ⟨gptpSyncRx_sets, gptpSyncRx_unused, gptpSyncRx_down, pdelayExchange_asks, pdelayReqRx_answers, pdelay_down,
    fun hup hopen => pdelayResponseRx_closes hup hopen rfl rfl, pdelayTimeout_reports, pdelay_closed, beatFrameSend_queues,
    beatFrameSend_follows, beatFrameRx_passed, fun hd hlen hnew => beatFrameRx_conflict hd ⟨hlen, hnew⟩,
    fun hd hlen hnew => beatFrameRx_follows hd ⟨hlen, hnew⟩, beatRelay_none, fun h => beatRelay_sends, fun h => beatRelay_drops,
    fun hadm hrole hfoto hq => takeover_leads ⟨hadm, hrole, hfoto, hq⟩,
    fun hadm hrole hfoto hq => takeover_lastTerm ⟨hadm, hrole, hfoto, hq⟩, ?_, lnkBootctlWrite_sets, lnkBootctlWrite_refused, ?_, ?_, ?_,
    bootReqRx_passed, fun h hok hfits => bootDataRx_stores h hok hfits rfl rfl rfl, bootDataRx_refused, bootDataRx_passed,
    fun o n => bootReqRetry_repeats, bootReqRetry_rests, ?_, ?_, raccRequestRx_none, wakeFrameRx_wakes, wakeFrameRx_received⟩
  · intro h
    refine takeover_waits fun hmay => ?_
    obtain ⟨hadm, hrole, hfoto, hq⟩ := hmay
    rcases h with h | h | h | h
    · exact h hadm
    · exact h hrole
    · exact absurd hfoto (Nat.not_le.mpr h)
    · exact h hq
  · intro hasked hoff
    rw [bootReqRx_serves hasked]
    exact congrArg Host.Outcome.next (bootServed_off f.src.toNat f.payload hoff)
  · intro hasked hon hlong
    rw [bootReqRx_serves hasked]
    exact congrArg Host.Outcome.next (bootServed_range f.src.toNat hon hlong)
  · intro d t hasked hon hin hread
    rw [bootReqRx_serves hasked]
    exact congrArg Host.Outcome.next (bootServed_data f.src.toNat hon hin hread)
  · intro e hd he hop
    refine ⟨fun hlisted => raccRequestRx_one hd he ?_, fun n t hlisted hread => raccRequestRx_one hd he ?_⟩
    · rw [State.raccListed, hlisted, raccOne_refused hop, raccReply, hop]
      rfl
    · rw [State.raccListed, hlisted, raccOne_read hop hread, raccReply, hop]
      rfl
  · intro e v t hd he hop hlisted hwrite
    refine ⟨beBytes 4 t.draw.1, raccRequestRx_one hd he ?_, rfl⟩
    rw [State.raccListed, hlisted, raccOne_write hop hwrite, raccReply, hop]
    rfl

end Sys2Proof.Machine
end
